-- ==== Sys2Proof/Word.lean ====
section
/-! DEFINITION. The word types of the EF4896's registers, commands and memories (spec/00 R4, R5). -/

namespace Sys2Proof

/-- One byte. -/
abbrev Byte := BitVec 8

/-- The word of `n` bits. -/
abbrev Word (n : Nat) := BitVec n

end Sys2Proof
end

