-- ==== Sys2Proof/Syntax.lean ====
section
/-! DEFINITION. The commands the EF4896 takes: one constructor per row of spec/opcode_table.json.
The table gives no bits, so the operands are what the owning tables and rules give: for a mailbox command the
request header (spec/12 Table 12-6) and the payload fields of its table, reserved fields included (`rsv…`), each as
wide as the table says; for an event, the instance and what the event brings with it. -/

namespace Sys2Proof

/-- What of a request header a command's row carries (spec/12 Table 12-6): the mailbox slot it was rung in, TAG, GEN,
REQ_BYTES and the ten reserved bytes. The OPCODE is the row itself. -/
structure MbHdr where
  slot : BitVec 3
  tag : Byte
  gen : Byte
  reqBytes : BitVec 16
  rsv : BitVec 80
  deriving DecidableEq, Repr

/-- Table 02-5. -/
structure BarWebReq where
  coverage : Byte
  altPhase : Byte
  lpi : BitVec 16
  pitchNum : BitVec 32
  pitchDen : BitVec 32
  countLenPm : BitVec 32
  accelMax : BitVec 32
  leadTimeUs : BitVec 16
  estEdges : BitVec 16
  estQuadMin : BitVec 16
  estMinSpacingNs : BitVec 16
  estSpanUs : BitVec 16
  segWidth : BitVec 16
  deriving DecidableEq, Repr

/-- Table 02-6. -/
structure BarPortReq where
  port : Byte
  flags : Byte
  nozzles : BitVec 16
  firstCol : BitVec 32
  rowOffsetNm : BitVec 32
  dropFlightNs : BitVec 32
  deriving DecidableEq, Repr

/-- Table 03-11. -/
structure HeadThermalReq where
  port : Byte
  rsv : Byte
  tTarget : BitVec 16
  tWarn : BitVec 16
  tStop : BitVec 16
  tCut : BitVec 16
  hyst : BitVec 16
  deriving DecidableEq, Repr

/-- Table 02-8. -/
structure PageAdmitReq where
  handle : Byte
  flags : Byte
  storeEntry : BitVec 16
  lines : BitVec 32
  top : BitVec 64
  vContract : BitVec 32
  rsv : BitVec 32
  deriving DecidableEq, Repr

/-- Table 05-12. -/
structure EncOpenReq where
  es : Byte
  level : Byte
  channel : Byte
  rsv : Byte
  blockLines : BitVec 16
  keyInterval : BitVec 16
  streamTag : BitVec 32
  deriving DecidableEq, Repr

/-- Table 06-11. -/
structure CamLinkReq where
  port : Byte
  lanes : Byte
  dataType : Byte
  channels : Byte
  vcLong : Byte
  vcShort : Byte
  rateMbps : BitVec 16
  pixels : BitVec 16
  rsv : BitVec 16
  deriving DecidableEq, Repr

/-- Table 06-12. -/
structure CamPlaceReq where
  port : Byte
  flags : Byte
  trig : Byte
  rsv : Byte
  firstCol : BitVec 32
  colsPerPx : BitVec 32
  offsetNm : BitVec 32
  linePitch : BitVec 32
  deriving DecidableEq, Repr

/-- Table 06-13; `black` holds the six black levels in their order. -/
structure CamExposureReq where
  port : Byte
  rsv : Byte
  ratio : BitVec 16
  exposureNs : BitVec 32
  kneeLo : BitVec 16
  kneeHi : BitVec 16
  black : List (BitVec 16)
  deriving DecidableEq, Repr

/-- Table 06-16. -/
structure PreviewReq where
  flags : Byte
  binCols : Byte
  binLines : Byte
  rsv : Byte
  rows : BitVec 32
  addr : BitVec 64
  deriving DecidableEq, Repr

/-- Table 06-17. -/
structure DefectReq where
  enable : Byte
  rsv : Byte
  streakLines : BitVec 16
  streakThresh : BitVec 16
  spotThresh : BitVec 16
  spotMin : BitVec 16
  rsv2 : BitVec 16
  deriving DecidableEq, Repr

/-- Table 06-18. -/
structure ThatchReq where
  handle : Byte
  row : Byte
  step : Byte
  level : Byte
  firstLine : BitVec 32
  rungLines : BitVec 32
  addr : BitVec 64
  faint : BitVec 16
  miss : BitVec 16
  deflect : BitVec 16
  rsv : BitVec 16
  deriving DecidableEq, Repr

/-- Table 07-9. -/
structure LoopReq where
  enable : Byte
  updateBlocks : Byte
  beta : BitVec 16
  windowLines : BitVec 32
  stepLimit : BitVec 16
  devLimit : BitVec 16
  varMin : BitVec 16
  nMin : BitVec 16
  medianMin : BitVec 16
  rsv : BitVec 16
  deriving DecidableEq, Repr

/-- Table 07-12. -/
structure RecalReq where
  port : Byte
  guard : Byte
  subMin : BitVec 16
  timeoutS : BitVec 16
  rsv : BitVec 16
  periodS : BitVec 32
  deriving DecidableEq, Repr

/-- Table 08-4; `params` holds the 24 bytes at offset 8 (Tables 08-5 and 08-6). -/
structure EncInputReq where
  enc : Byte
  type : Byte
  flags : Byte
  filterTicks : Byte
  standstillUs : BitVec 32
  params : List Byte
  deriving DecidableEq, Repr

/-- Table 08-8. -/
structure AxisReq where
  axis : Byte
  flags : Byte
  ilkStop : Byte
  rsv : Byte
  pulseNs : BitVec 16
  dirSetupNs : BitVec 16
  dirHoldNs : BitVec 16
  rsv2 : BitVec 16
  vLimit : BitVec 32
  qsDecel : BitVec 32
  deriving DecidableEq, Repr

/-- Table 08-9. -/
structure RatesReq where
  axis : Byte
  rsv : BitVec 24
  vStart : BitVec 32
  vMax : BitVec 32
  vStop : BitVec 32
  accel : BitVec 32
  decel : BitVec 32
  deriving DecidableEq, Repr

/-- Table 08-10. -/
structure GearReq where
  axis : Byte
  flags : Byte
  rsv : BitVec 16
  num : BitVec 32
  den : BitVec 32
  blendCounts : BitVec 32
  followLimit : BitVec 32
  rsv2 : BitVec 32
  engagePos : BitVec 64
  deriving DecidableEq, Repr

/-- Table 08-11. -/
structure CompareReq where
  trig : Byte
  mode : Byte
  source : Byte
  flags : Byte
  widthNs : BitVec 32
  position : BitVec 64
  interval : BitVec 32
  repeats : BitVec 32
  deriving DecidableEq, Repr

/-- Table 09-11. -/
structure TwinModeReq where
  mode : Byte
  rsv : Byte
  holdoffS : BitVec 16
  castlePages : BitVec 16
  castleHours : BitVec 16
  divergeLimit : BitVec 32
  reportS : BitVec 16
  rsv2 : BitVec 16
  deriving DecidableEq, Repr

/-- Table 10-6. -/
structure ClockReq where
  nominalInc : BitVec 32
  maxAdjPpb : BitVec 32
  freqStepPpb : BitVec 16
  stepEn : Byte
  rsv : Byte
  stepNs : BitVec 32
  kp : BitVec 16
  ki : BitVec 16
  lockNs : BitVec 16
  holdAvgS : BitVec 16
  holdLimitNs : BitVec 32
  agingPpbS : BitVec 16
  rsv2 : BitVec 16
  deriving DecidableEq, Repr

/-- Table 10-7. -/
structure PtpReq where
  role : Byte
  domain : Byte
  priority1 : Byte
  priority2 : Byte
  clockClass : Byte
  clockAccuracy : Byte
  oslv : BitVec 16
  utcOffset : BitVec 16
  barId : Byte
  rsv : Byte
  deriving DecidableEq, Repr

/-- Table 10-8. -/
structure EthPortReq where
  port : Byte
  flags : Byte
  logSync : Byte
  logDelay : Byte
  logAnnounce : Byte
  announceTimeout : Byte
  mac : BitVec 48
  ipv4 : BitVec 32
  ingressLatNs : BitVec 16
  egressLatNs : BitVec 16
  deriving DecidableEq, Repr

/-- Table 11-11. -/
structure DmaReq where
  channel : Byte
  dir : Byte
  endpoint : Byte
  priority : Byte
  retries : Byte
  ringLog2 : Byte
  dramLog2 : Byte
  rsv : Byte
  ringBase : BitVec 64
  wbAddr : BitVec 64
  dramBase : BitVec 64
  deriving DecidableEq, Repr

/-- The accesses by which the host writes a 64-bit register (spec/12 R333). -/
inductive RegAcc
  /-- one 64-bit write -/
  | whole (v : BitVec 64)
  /-- a 32-bit write of the lower half -/
  | lower (v : BitVec 32)
  /-- a 32-bit write of the upper half -/
  | upper (v : BitVec 32)
  deriving DecidableEq, Repr

/-- A filtered change of an encoder's lines (spec/08 R233, R234): the new level of A, of B, or of both on one sample. -/
inductive LineEdge
  | a (level : Bool)
  | b (level : Bool)
  | both (levelA levelB : Bool)
  deriving DecidableEq, Repr

/-- Payload of a FIRE_LINE frame (Table 04-7); `pixels` are the bytes of PIXELS. -/
structure FireLine where
  fireTime : BitVec 48
  throttle : Byte
  ctl : Byte
  firstNozzle : BitVec 16
  count : BitVec 16
  pixels : List Byte
  deriving DecidableEq, Repr

/-- Payload of a STATUS frame (Table 04-11). -/
structure StatusFrame where
  temp : BitVec 16
  flags : Byte
  eye : Byte
  lastFired : BitVec 32
  firedCount : BitVec 32
  dupDiscard : BitVec 16
  staleEpoch : BitVec 16
  retimeLate : BitVec 16
  retimeAfterFire : BitVec 16
  retimeUnknown : BitVec 16
  ceaseLate : BitVec 16
  rateDrop : BitVec 16
  lateFrame : BitVec 16
  crcErr : BitVec 16
  codeErr : BitVec 16
  divergePix : BitVec 16
  divergeTime : BitVec 16
  deriving DecidableEq, Repr

/-- Payload of a HELLO frame of a head (Table 04-12). -/
structure HelloUp where
  proto : Byte
  flags : Byte
  nozzles : BitVec 16
  serial : BitVec 64
  epochEcho : Byte
  deriving DecidableEq, Repr

/-- What a receiver finds wrong with a Ridge Link frame (spec/04 R130). -/
inductive FrameFault
  | codeErr
  | crcErr
  | frameErr
  | eofBad
  deriving DecidableEq, Repr

/-- A frame as a receiver hears it (spec/04 R127, R130): the bytes between SOF and the symbol that ends it, whether a code or disparity
error lies inside, and whether EOF_BAD ends it. -/
structure RawFrame where
  bytes : List Byte
  codeErr : Bool
  eofBad : Bool
  deriving DecidableEq, Repr

/-- Payload of a BEAT frame (Table 09-3). -/
structure Beat where
  role : Byte
  flags : Byte
  ilkActive : Byte
  mode : Byte
  portsUp : BitVec 64
  withheld : BitVec 64
  roleSeq : BitVec 32
  journalSeq : BitVec 32
  deriving DecidableEq, Repr

/-- Payload of an ADMIT frame (Table 09-4). -/
structure AdmitFrame where
  handle : Byte
  startParity : Byte
  flags : Byte
  policy : Byte
  storeEntry : BitVec 16
  lines : BitVec 32
  vContract : BitVec 32
  top : BitVec 64
  admitSec : BitVec 64
  admitNs : BitVec 32
  deriving DecidableEq, Repr

/-- Payload of a MIRROR_DATA frame (Table 09-2). -/
structure MirrorFrame where
  storeEntry : BitVec 16
  seg : Byte
  flags : Byte
  offset : BitVec 32
  lines : BitVec 32
  segments : Byte
  entryFlags : Byte
  data : List Byte
  deriving DecidableEq, Repr

/-- Payload of a PAGE_EVENT frame (Table 09-2); `ranges` are the 15 ranges of KIND 3, first and last line. -/
structure PageEventFrame where
  kind : Byte
  handle : Byte
  storeEntry : BitVec 16
  line : BitVec 32
  marks : BitVec 32
  ranges : List (BitVec 32 × BitVec 32)
  deriving DecidableEq, Repr

/-- Payload of a JOURNAL frame (Table 09-2). -/
structure JournalFrame where
  gableSeq : BitVec 32
  frag : BitVec 16
  frags : BitVec 16
  data : List Byte
  deriving DecidableEq, Repr

/-- One entry of Table 07-1 as an ACCUM frame carries it. -/
structure AccEntry where
  n : Nat
  sx : Nat
  sy : Nat
  sxx : Nat
  sxy : Nat
  deriving DecidableEq, Repr

/-- Payload of an ACCUM frame (Table 09-2). -/
structure AccumFrame where
  firstCol : BitVec 32
  block : BitVec 16
  entries : List AccEntry
  deriving DecidableEq, Repr

/-- Payload of a ROLE frame (Table 09-2). -/
structure RoleFrame where
  kind : Byte
  roleSeq : BitVec 32
  lastSeq : BitVec 32
  journalSeq : BitVec 32
  deriving DecidableEq, Repr

/-- What an Announce message brings to the best master clock algorithm (spec/10 R291, R293). -/
structure AnnounceMsg where
  domain : Byte
  priority1 : Byte
  clockClass : Byte
  clockAccuracy : Byte
  oslv : BitVec 16
  priority2 : Byte
  gmIdentity : BitVec 64
  stepsRemoved : BitVec 16
  senderIdentity : BitVec 64
  utcOffset : BitVec 16
  utcValid : Bool
  deriving DecidableEq, Repr

/-- The messages a PTP port sends at its intervals (spec/10 R291). -/
inductive PtpKind
  | sync
  | announce
  | delayReq
  deriving DecidableEq, Repr

/-- A CSI-2 long packet as received (spec/06 R182–R184): its samples, whether its length is the declared one, its CRC, and
its header ECC (0 good, 1 corrected, 2 uncorrectable). -/
structure CsiLine where
  vc : Nat
  samples : List Nat
  crcOk : Bool
  ecc : Nat
  deriving DecidableEq, Repr

/-- Who reads DRAM when an uncorrectable error returns poisoned data (spec/11 R312). -/
inductive DramReader
  /-- Slate decoder `n`, reading its job's stream -/
  | slate (decoder : Nat)
  /-- a ring read for one port of one line: page handle, line index, port, nozzles affected -/
  | ring (handle line port : Nat) (nozzles : List Nat)
  /-- a camera or vision line of port `cam` -/
  | camera (cam : Nat)
  /-- the egress channel `ch` -/
  | egress (ch : Nat)
  | core
  deriving DecidableEq, Repr

/-- How an SRAM access failed (spec/14 Table 14-1). -/
inductive EccKind
  | corrected
  | uncorrectable
  deriving DecidableEq, Repr

/-- What start-up training and the known-answer tests find (spec/11 R305, R306; spec/14 R376): which channels trained, the
junction temperature, whether the stored results passed, and the parts that failed their tests. -/
structure TrainReport where
  ok0 : Bool
  ok1 : Bool
  junction : Int
  storedOk : Bool
  bankFail : BitVec 64
  sdFail : BitVec 16
  fsFail : BitVec 16
  veFail : BitVec 4
  deriving DecidableEq, Repr

/-- One reading pair of a MEASURE result (spec/04 R138). -/
structure Reading where
  a : BitVec 20
  b : BitVec 20
  deriving DecidableEq, Repr

/-- An encoder line change, and for how many samples the line stands at its new level (spec/08 R233). -/
structure HeldEdge where
  edge : LineEdge
  held : Nat
  deriving DecidableEq, Repr

/-- An interlock input at a level, and for how long in µs (spec/03 R100). -/
structure IlkLevel where
  input : Nat
  heldUs : Nat
  deriving DecidableEq, Repr

/-- A frame as a Ridge receiver hears it: the port's, or that of an upstream port of its head (spec/04 R130). -/
structure HeardFrame where
  uport : Option Nat
  frame : RawFrame
  deriving DecidableEq, Repr

/-- The module that sends a HELLO, and over which upstream port (spec/04 R140). -/
structure HeadModule where
  uport : Nat
  serial : BitVec 64
  nozzles : Nat
  deriving DecidableEq, Repr

/-- What a head senses for a STATUS: its temperature, and the eye score of the upstream port's receiver (spec/04 R119, R139). -/
structure HeadSense where
  uport : Nat
  temp : BitVec 16
  eye : Nat
  deriving DecidableEq, Repr

/-- A CSI-2 short packet: the camera port, and its header ECC (0 good, 1 corrected, 2 uncorrectable; spec/06 R182). -/
structure CsiPacket where
  port : Nat
  ecc : Nat
  deriving DecidableEq, Repr

/-- The times of an ECHO: T1 of a request, T1 to T3 of a response (spec/04 Table 04-12). -/
structure EchoTimes where
  t1 : BitVec 48
  t2 : BitVec 48
  t3 : BitVec 48
  deriving DecidableEq, Repr

/-- A millisecond's sample of the twin link: the eye scores of its lanes, and whether TWIN_BEAT_IN has shown an edge (spec/09 R266,
R267). -/
structure TwinSample where
  scores : List Nat
  beatEdge : Bool
  deriving DecidableEq, Repr

/-- A Delay_Resp, or the response of peer delay (`peer`) with its Follow_Up, in ns: the request's arrival and the response's leaving at the far
end, the response's arrival here, and the corrections (spec/10 R291). -/
structure DelayResp where
  peer : Bool
  requestRxNs : Int
  responseTxNs : Int
  ingressNs : Int
  correctionNs : Int
  deriving DecidableEq, Repr

/-- A Delay_Req, or a request of peer delay, and when it arrived in ns (spec/10 R291). -/
structure DelayReq where
  peer : Bool
  requester : BitVec 64
  ingressNs : Int
  deriving DecidableEq, Repr

/-- A datagram with a press message: its multicast group, UDP port and bytes (spec/10 R299). -/
structure PressDatagram where
  group : BitVec 32
  udpPort : BitVec 16
  bytes : List Byte
  deriving DecidableEq, Repr

/-- The commands: one constructor per row of spec/opcode_table.json, in the table's order. -/
inductive Instr
  -- SYS (spec/12 Table 12-14)
  | sysGetInfo (h : MbHdr)
  | sysReset (h : MbHdr) (mode : Byte) (rsv : BitVec 24)
  | sysUpdateBegin (h : MbHdr) (slot : Byte) (rsv : BitVec 24)
  | sysUpdateData (h : MbHdr) (offset bytes : BitVec 32) (rsv : BitVec 64) (data : List Byte)
  | sysUpdateEnd (h : MbHdr)
  | sysSetSvn (h : MbHdr) (svn : BitVec 16) (rsv : BitVec 16)
  | sysRevokeKey (h : MbHdr) (keyIndex : Byte) (rsv : BitVec 24)
  | sysDebugChallenge (h : MbHdr)
  | sysDebugUnlock (h : MbHdr) (scope : Byte) (rsv : BitVec 24) (pubkey : List Byte) (rsv2 : BitVec 24)
      (sigR sigS : List Byte)
  | sysRecoveryLoad (h : MbHdr) (offset bytes : BitVec 32) (rsv : BitVec 64) (data : List Byte)
  | sysRecoveryBoot (h : MbHdr)
  -- BAR (spec/02)
  | barSetWeb (h : MbHdr) (p : BarWebReq)
  | barSetPort (h : MbHdr) (p : BarPortReq)
  | barCommit (h : MbHdr)
  | barSetPolicy (h : MbHdr) (policy : Byte) (rsv : Byte) (fraction : BitVec 16)
  | barGet (h : MbHdr)
  | barGetPort (h : MbHdr) (port : Byte) (rsv : BitVec 24)
  -- HEAD (spec/03)
  | headGetInfo (h : MbHdr) (port : Byte) (rsv : BitVec 24)
  | headSetDrive (h : MbHdr) (port rsv : Byte) (mainPulseNs preheatGapNs nominalDw : BitVec 16)
  | headSetChar (h : MbHdr) (port half : Byte) (rsv : BitVec 16) (entries : List (BitVec 16))
  | headSetThermal (h : MbHdr) (p : HeadThermalReq)
  | headResume (h : MbHdr) (port : Byte) (rsv : BitVec 24)
  | headGetNozzle (h : MbHdr) (port rsv : Byte) (first count : BitVec 16) (rsv2 : BitVec 16)
  | headSetNozzle (h : MbHdr) (port action : Byte) (nozzle : BitVec 16) (value : BitVec 32)
  | headMeasure (h : MbHdr) (port : Byte) (rsv : BitVec 24)
  -- FIRE (spec/03)
  | fireSetLevels (h : MbHdr) (targetS targetM targetL : BitVec 16) (rsv : BitVec 16)
  | fireSetComp (h : MbHdr) (ruleS ruleM ruleL reach : Byte)
  | fireSetWarm (h : MbHdr) (warmCode rsv : Byte) (warmGain : BitVec 16) (warmRateMax : BitVec 32)
  | fireSetMeasure (h : MbHdr) (measPeriodS : BitVec 32)
  | fireSetIlk (h : MbHdr) (enable polarity : Byte) (rsv : BitVec 16) (debounceUs : List (BitVec 16))
  | fireArm (h : MbHdr)
  | fireDisarm (h : MbHdr)
  | fireGetHiding (h : MbHdr)
  -- PAGE (spec/02)
  | pageAdmit (h : MbHdr) (p : PageAdmitReq)
  | pageAbort (h : MbHdr) (handle flags : Byte) (rsv : BitVec 16)
  | pageQuery (h : MbHdr) (handle : Byte) (rsv : BitVec 24)
  | pageReport (h : MbHdr) (handle : Byte) (rsv : BitVec 24)
  | pageGetWeb (h : MbHdr)
  -- SLATE (spec/05)
  | slateOpen (h : MbHdr) (segments flags : Byte) (rsv : BitVec 16) (lines : BitVec 32)
  | slateBind (h : MbHdr) (storeEntry : BitVec 16) (seg channel : Byte) (bytes : BitVec 32)
  | slateStatus (h : MbHdr) (storeEntry : BitVec 16) (rsv : BitVec 16)
  | slateStreamStatus (h : MbHdr) (storeEntry : BitVec 16) (seg rsv : Byte)
  | slateFree (h : MbHdr) (storeEntry : BitVec 16) (rsv : BitVec 16)
  | slateStoreInfo (h : MbHdr)
  | slateEncOpen (h : MbHdr) (p : EncOpenReq)
  | slateEncClose (h : MbHdr) (es : Byte) (rsv : BitVec 24)
  | slateStateRead (h : MbHdr) (kind index : Byte) (rsv : BitVec 48) (addr : BitVec 64)
  | slateEncRestore (h : MbHdr) (es channel : Byte) (rsv : BitVec 48) (addr : BitVec 64)
  | slateGetCounters (h : MbHdr)
  -- CAM (spec/06)
  | camSetLink (h : MbHdr) (p : CamLinkReq)
  | camSetPlace (h : MbHdr) (p : CamPlaceReq)
  | camSetExposure (h : MbHdr) (p : CamExposureReq)
  | camLoadFlat (h : MbHdr) (port direction : Byte) (rsv : BitVec 48) (addr : BitVec 64)
  | camStart (h : MbHdr) (port : Byte) (rsv : BitVec 56) (startPos : BitVec 64)
  | camStop (h : MbHdr) (port flags : Byte) (rsv : BitVec 16)
  | camGetStatus (h : MbHdr) (port : Byte) (rsv : BitVec 24)
  | camGetFrames (h : MbHdr) (port count : Byte) (rsv : BitVec 16)
  -- VIS (spec/06)
  | visSetNr (h : MbHdr) (port flags alpha rsv : Byte) (thresh : BitVec 32)
  | visSetMatrix (h : MbHdr) (port : Byte) (rsv : BitVec 24) (m off : List (BitVec 16))
  | visSetPreview (h : MbHdr) (p : PreviewReq)
  | visSetEgress (h : MbHdr) (es port source depth : Byte)
  | visSetDefect (h : MbHdr) (p : DefectReq)
  | visGetDefects (h : MbHdr) (fromSeq : BitVec 32) (count rsv : BitVec 16)
  | visThatchArm (h : MbHdr) (p : ThatchReq)
  | visGetDensity (h : MbHdr) (lines rsv : BitVec 32) (addr : BitVec 64)
  | visGetStatus (h : MbHdr)
  -- CAL (spec/07)
  | calSetLoop (h : MbHdr) (p : LoopReq)
  | calGetStatus (h : MbHdr)
  | calGetColumns (h : MbHdr) (first count : BitVec 32) (addr : BitVec 64)
  | calSetFactory (h : MbHdr) (port rsv : Byte) (count : BitVec 16) (rsv2 : BitVec 32) (addr : BitVec 64)
  | calRecal (h : MbHdr) (p : RecalReq)
  | calRecalStop (h : MbHdr) (port : Byte) (rsv : BitVec 24)
  -- NVM (spec/07)
  | nvmGetStatus (h : MbHdr)
  | nvmRead (h : MbHdr) (offset bytes : BitVec 32) (addr : BitVec 64)
  | nvmCompact (h : MbHdr)
  | nvmEraseCal (h : MbHdr)
  -- ENC (spec/08)
  | encSetInput (h : MbHdr) (p : EncInputReq)
  | encGetStatus (h : MbHdr) (enc : Byte) (rsv : BitVec 24)
  | encSetCount (h : MbHdr) (enc : Byte) (rsv : BitVec 56) (count : BitVec 64)
  -- MOT (spec/08)
  | motSetAxis (h : MbHdr) (p : AxisReq)
  | motSetRates (h : MbHdr) (p : RatesReq)
  | motMove (h : MbHdr) (axis flags : Byte) (rsv : BitVec 48) (target : BitVec 64)
  | motStop (h : MbHdr) (axis : Byte) (rsv : BitVec 24)
  | motQuickStop (h : MbHdr) (axis : Byte) (rsv : BitVec 24)
  | motLoadTable (h : MbHdr) (axis first count : Byte) (rsv : BitVec 40) (addr : BitVec 64)
  | motRunTable (h : MbHdr) (axis first count rsv : Byte)
  | motGear (h : MbHdr) (p : GearReq)
  | motGearRatio (h : MbHdr) (axis : Byte) (rsv : BitVec 24) (num den rsv2 : BitVec 32) (atPos : BitVec 64)
  | motSetCompare (h : MbHdr) (p : CompareReq)
  | motGetStatus (h : MbHdr) (axis : Byte) (rsv : BitVec 24)
  | motGetCompare (h : MbHdr) (trig : Byte) (rsv : BitVec 24)
  | motSetPosition (h : MbHdr) (axis : Byte) (rsv : BitVec 56) (position : BitVec 64)
  -- TWIN (spec/09)
  | twinGetStatus (h : MbHdr)
  | twinSetMode (h : MbHdr) (p : TwinModeReq)
  | twinSwitchback (h : MbHdr) (flags : Byte) (rsv : BitVec 24)
  | twinResolve (h : MbHdr) (action : Byte) (rsv : BitVec 24)
  -- TIME (spec/10)
  | timeSetClock (h : MbHdr) (p : ClockReq)
  | timeSetPtp (h : MbHdr) (p : PtpReq)
  | timeSetPort (h : MbHdr) (p : EthPortReq)
  | timeSetAsym (h : MbHdr) (kind index : Byte) (rsv : BitVec 16) (asymPs : BitVec 32)
  | timeGetStatus (h : MbHdr)
  | timeGetTime (h : MbHdr)
  | timeSetCalendar (h : MbHdr) (seconds : BitVec 48) (fraction : BitVec 16)
  | timeSetPress (h : MbHdr) (flags : Byte) (rsv : BitVec 24) (group : BitVec 32) (rxMask : BitVec 64)
  | timeSendStop (h : MbHdr)
  | timeGetPress (h : MbHdr) (count : Byte) (rsv : BitVec 24)
  -- PWR (spec/13)
  | pwrSetState (h : MbHdr) (state : Byte) (rsv : BitVec 24)
  | pwrSetLevel (h : MbHdr) (level : Byte) (rsv : BitVec 24)
  | pwrSetRetention (h : MbHdr) (retMask : BitVec 64) (retTempLimit : BitVec 16) (rsv : BitVec 48)
  | pwrSetWake (h : MbHdr) (enable flags : Byte) (rsv : BitVec 48) (alarm : BitVec 64)
  | pwrSetDroop (h : MbHdr) (enable threshMv rateLimit rsv : BitVec 16)
  | pwrSetSupply (h : MbHdr) (pmbusAddr rsv : Byte) (vsettleUs corePgTimeoutMs rsv2 : BitVec 16)
  | pwrGetStatus (h : MbHdr)
  -- LOG and HEALTH (spec/14)
  | logStatus (h : MbHdr)
  | logClear (h : MbHdr) (upToSeq : BitVec 32)
  | logSet (h : MbHdr) (alertSeverity : Byte) (rsv : BitVec 24)
  | logRead (h : MbHdr) (fromSeq : BitVec 32) (count rsv : BitVec 16)
  | healthGetReport (h : MbHdr)
  | healthClear (h : MbHdr) (causes rsv : BitVec 16)
  | healthSet (h : MbHdr) (tjWarn pllMarginMin : BitVec 16)
  | healthUnretire (h : MbHdr) (kind index : Byte) (rsv : BitVec 16)
  -- DRAM and DMA (spec/11)
  | dramGetConfig (h : MbHdr)
  | dramSetMap (h : MbHdr) (mode grainLog2 : Byte) (rsv : BitVec 48) (masks : List (BitVec 64))
  | dramSetRegions (h : MbHdr) (pageStore camera vision twin : BitVec 16)
  | dramGetRegions (h : MbHdr)
  | dramSetQos (h : MbHdr) (priority : List Byte) (rsv wmHigh wmLow : Byte) (rsv2 : BitVec 16)
  | dramSetHealth (h : MbHdr) (windowUs limit : BitVec 16) (ceLimit : BitVec 32) (scrubHours rsv : BitVec 16)
  | dramGetCounters (h : MbHdr) (channel : Byte) (rsv : BitVec 24)
  | dramRetire (h : MbHdr) (channel flags : Byte) (rsv : BitVec 16)
  | dmaSetChannel (h : MbHdr) (p : DmaReq)
  | dmaGetChannel (h : MbHdr) (channel : Byte) (rsv : BitVec 24)
  -- host accesses and host-interface resets (spec/12)
  | mbCancel (bits : Byte)
  | revive (port : Nat) (withDrop : Bool)
  | resync (port : Nat)
  | drop (port : Nat)
  | run (ch : Nat) (withStop : Bool)
  | stop (ch : Nat)
  | clear (ch : Nat)
  | dmaProdWrite (ch : Nat) (acc : RegAcc)
  | dmaConsWrite (ch : Nat) (acc : RegAcc)
  | dmaCountAdd (ch : Nat) (value : BitVec 32)
  | registerWrite (offset : Nat) (wide : Bool) (value : BitVec 64)
  | bar2Write (offset : Nat) (data : List Byte)
  | bar2Read (offset len : Nat)
  | functionLevelReset
  | hotReset
  | linkDown
  | perstAssert
  | resetNFall
  | resetNRise (straps : BitVec 5)
  | imageLoadDone (readErrA readErrB : Bool)
  | dramTrainDone (r : TrainReport)
  | ready (ms : BitVec 32)
  | lockstepMismatch
  | firmwareRestartDone
  -- encoders and the print path
  | encoderEdge (enc : Nat) (e : HeldEdge)
  | encStandstill (enc : Nat)
  | ssiFrameStart (enc : Nat) (dataHigh : Bool)
  | ssiFrameDone (enc : Nat) (word : Nat) (errBit : Bool) (crc : Byte)
  | ssiTimeout (enc : Nat)
  | lineRelease (handle line : Nat)
  | decodeJobStart (decoder : Nat)
  | decodeJobDone (decoder : Nat)
  | frameBuild (port handle line : Nat)
  | ridgeFrameTx (port : Nat)
  | lineLate (handle line : Nat)
  | placementCheck (port handle line : Nat)
  | pageDone (handle : Nat)
  | handleFree (handle : Nat)
  | ilkInputActive (x : IlkLevel)
  | ilkInputInactive (x : IlkLevel)
  -- Ridge Link ports (spec/04) and gap work (spec/03)
  | rlStatusRx (port : Nat) (f : StatusFrame)
  | throttleDecay (port : Nat)
  | upstreamSilent (port : Nat)
  | gapWindowOpen (port : Nat) (fsMismatch : Bool)
  | gapWindowClose (port : Nat)
  | warmEvaluate (port : Nat)
  | measureSliceSend (port : Nat)
  | measureResultRx (port : Nat) (status : Byte) (readings : List Reading)
  | measureTimeout (port : Nat)
  | detectBurst (port : Nat)
  | linkAligned (port : Nat)
  | trainSweepDone (port : Nat) (scores : List Nat)
  | eyeSample (port score scoreUp scoreDown : Nat)
  | trainTimeout (port : Nat)
  | signalLoss (port : Nat)
  | commaLoss (port : Nat)
  | skipSend (port : Nat)
  | electricalIdleEntry (port : Nat)
  | rlHelloRx (port : Nat) (f : HelloUp)
  | rlCtrlRespRx (port : Nat) (seq result : BitVec 32) (data : List Byte)
  | ctrlTimeout (port : Nat)
  | echoSend (port : Nat)
  | echoRespRx (port : Nat) (t1 t2 t3 : BitVec 48)
  | timeSend (port : Nat)
  | rlBadFrame (port : Nat) (x : HeardFrame)
  -- head modules (spec/04)
  | headFireLineRx (head uport : Nat) (tag : BitVec 32) (f : FireLine)
  | headRetimeRx (head uport : Nat) (tag : BitVec 32) (fireTime : BitVec 48) (release : Byte)
  | headCeaseRx (head uport : Nat) (tag : BitVec 32) (release : Byte)
  | headCtrlWrRx (head uport : Nat) (seq addr : BitVec 32) (data : List Byte)
  | headCtrlRdRx (head uport : Nat) (seq addr : BitVec 32) (bytes : BitVec 16)
  | headMeasureFrame (head uport : Nat) (seq : BitVec 32) (nozzles : List (BitVec 16)) (readA readB : List (BitVec 20))
  | headTimeRx (head uport : Nat) (tArrive : BitVec 48)
  | headEchoRx (head uport : Nat) (seq : BitVec 32) (t1 : BitVec 48)
  | headHelloRx (head uport : Nat) (epoch : Byte)
  | headHelloSend (head : Nat) (m : HeadModule)
  | headStatusSend (head : Nat) (x : HeadSense)
  | headFireLine (head : Nat) (key : BitVec 28)
  | headRecordExpiry (head : Nat) (key : BitVec 28)
  | headTCut (head : Nat) (temp : BitVec 16)
  | headFireEnableLow (head : Nat)
  -- DMA engine (spec/11)
  | dmaIngressTransfer (ch : Nat) (data : List Byte)
  | dmaEgressTransfer (ch : Nat) (bytes : Nat)
  | dmaReadbackDone (ch : Nat)
  | dmaBusError (ch : Nat)
  | dmaRetry (ch : Nat)
  -- cameras, pipeline, encoder (spec/06, spec/05)
  | camTrigger (port : Nat)
  | trigPulseEnd (trig : Nat)
  | csiFsRx (x : CsiPacket)
  | csiLsRx (x : CsiPacket) (vc line : Nat)
  | csiLineRx (port : Nat) (l : CsiLine)
  | csiOtherPacketRx (x : CsiPacket)
  | csiFeRx (x : CsiPacket)
  | pipelineLineStart
  | pipelineLineDone
  | encodeJobStart
  | encodeJobDone
  -- uniformity loop, Gable store, recorder (spec/07, spec/14)
  | blockClose
  | recalTimeout (port : Nat)
  | recalPeriodRestart (port : Nat)
  | journalRecordWrite
  | journalCommit
  | compactionDone
  | eventRecordWrite
  -- twin link (spec/09)
  | twinHelloRx (flags epoch : Byte) (serial : BitVec 64)
  | beatSend
  | beatRx (b : Beat)
  | twinBeatInSilent
  | beatTimeout
  | partnerEvidenceEnd
  | ilkDisagree
  | mirrorDataRx (seq : BitVec 32) (f : MirrorFrame)
  | admitRx (seq : BitVec 32) (f : AdmitFrame)
  | pageEventRx (seq : BitVec 32) (f : PageEventFrame)
  | configRx (seq : BitVec 32) (opcode : BitVec 16) (applyKey : BitVec 32) (payload : List Byte)
  | journalRx (seq : BitVec 32) (f : JournalFrame)
  | accumRx (seq : BitVec 32) (f : AccumFrame)
  | roleRx (seq : BitVec 32) (f : RoleFrame)
  | ackRx (ackSeq : BitVec 32)
  | ackSend
  | twinResend
  | admitAckTimeout
  | journalAckTimeout
  | pageReportTimeout (handle : Nat)
  | twinEchoSend
  /-- a request of the partner (T1 alone), or the response to this chip's, and the parent data the preferred chip shows with it (spec/10 R295) -/
  | twinEchoRx (resp : Bool) (t : EchoTimes) (gm : Option AnnounceMsg)
  | reportRx (summary : List Byte)
  | twinEyeSample (x : TwinSample)
  | castleTimer
  | supervisionReturn
  | watchInterval
  -- press time network (spec/10)
  | ptpSyncRx (port : Nat) (domain : Byte) (originNs ingressNs correctionNs : Int)
  | ptpAnnounceRx (port : Nat) (m : AnnounceMsg)
  | ptpDelayRespRx (port : Nat) (domain : Byte) (r : DelayResp)
  | ptpDelayReqRx (port : Nat) (domain : Byte) (r : DelayReq)
  | ptpMessageSend (port : Nat) (kind : PtpKind)
  | announceTimeout (port : Nat)
  | holdoverLimit
  | arpRequestRx (port : Nat) (ipv4 : BitVec 32)
  | ethOtherRx (port : Nat)
  | pressMessageRx (port : Nat) (m : PressDatagram)
  | rtcDiscipline
  -- motion, DRAM (spec/08, spec/11)
  | axisStep (axis : Nat)
  | scrubDone
  | hotspotWindowEnd (conflicts : List (Nat × Nat))
  | dqsDriftCheck (rank : Nat) (drift64 : Nat)
  | dramUe (channel : Nat) (addr : BitVec 64) (reader : DramReader)
  -- power (spec/13, spec/15, spec/01)
  | handshakeReask
  | handshakeBoundExpiry
  | pmbusWriteDone (ack : Bool) (statusVout : Byte)
  | vsettleExpiry
  | wakeIn
  | rtcAlarm
  | perstRise
  | encMove
  | corePgRise (badSignature : BitVec 64)
  | corePgTimeout
  | pwrEnRetry
  | corePgFall
  | droopTrip (sensor : Nat)
  | droopClear (sensor : Nat)
  | droopRestore
  | droopLong (us : BitVec 32)
  | thermalShutdown (temp : BitVec 16)
  | thermalOff
  -- health (spec/14)
  | decoderSelftest (decoder : Nat) (matched : Bool)
  | veSelftest (engine : Nat) (matched : Bool)
  | pllMarginCheck (margin : BitVec 16)
  | tjCheck (sensors : List (BitVec 16))
  | sramEccError (bank row : Nat) (kind : EccKind)
  -- rows added at the table's end
  | mbDoorbell (bits : Byte)
  | telemetryTimeout (port : Nat)
  | lineFired (port handle line : Nat)
  | dramCorrectedError (channel : Nat) (addr : BitVec 64)
  | retBrownout
  | aonPowerLoss
  | pcieLinkUp
  | warmingPulse (head nozzle : Nat)
  | headElectricalIdleEntry (head uport : Nat)
  | tapInstruction (code : Byte)
  deriving DecidableEq, Repr

end Sys2Proof
end

