-- ==== Sys2Proof/Decode.lean ====
section
/-! DEFINITION. The commands that words spell by the bits of spec/opcode_table.json. -/

namespace Sys2Proof

/-- The command an opcode-table word spells. The table gives none of its 310 rows any bits (every row's `fields` is empty),
so no word spells a command: a command comes with its operands, through the queue. -/
def decodeTableWord (_nbits _w : Nat) : Option Instr := none

end Sys2Proof
end

