-- ==== Sys2Proof/Config.lean ====
section
/-! DEFINITION. The constants of the model without a body: the free values of the spec's open points and the functions
other standards define. Nothing can be proved about what they are, so a claim holds whatever they are. -/

namespace Sys2Proof

/-- The free values, numbered by the counter `State.free` (log 6). -/
opaque Config.freeNat : Nat → Nat

/-- What an undefined DRAM byte holds: the epoch of the change that left it undefined, and its address (spec/11 R317, log 10). -/
opaque Config.dramUndef : Nat → Nat → Byte

/-- Bytes of the identity and configuration partition, whose layout no table gives (spec/01 R32, log 6): the store's
content number and the offset. -/
opaque Config.idByte : Nat → Nat → Byte

/-- SHA-384, 48 bytes (spec/12 R345, FIPS 180-4; log 8). -/
opaque Config.sha384 : List Byte → List Byte

/-- ECDSA P-384 verification: public key, hash, r, s (spec/12 R345, FIPS 186-5; log 8). -/
opaque Config.ecdsaP384 : List Byte → List Byte → List Byte → List Byte → Bool

/-- The scale of the proportional-integral servo: ppb for each ns that KP and KI weigh; spec/10 R293 gives no units (log 6). -/
opaque Config.servoGain : Rat

/-- What the RTC's crystal deviates from 32,768 Hz, in ppb (spec/10 R298; log 83). -/
opaque Config.crystalPpb : Int

/-- What the RTC's trim leaves of a deviation, in ppb, by the tick of the discipline; within 1 ppm (spec/10 R298; log 83). -/
opaque Config.trimErrPpb : Nat → Int

/-- Where within its tolerance of 2 LSB the logarithm of stage 6 lies, for a sample and its REF (spec/06 R191; log 6). -/
opaque Config.densityErr : Nat → Nat → Nat

/-- The ratio of a sample to a REF of 0, in 2^-16 (spec/06 R191 states none; log 6). -/
opaque Config.overZeroRef : Nat → Nat

end Sys2Proof
end

