-- ==== Sys2Proof/Machine/Store.lean ====
section
/-! DEFINITION. The one sparse store of the model: a total map from natural keys to values with a stated default, held as a
list of key and value pairs in one canonical form (keys strictly rising, no entry equal to the default), so that equal
stores are equal lists. Register files, tables and the byte memories of the EF4896 are all held in it. -/

namespace Sys2Proof.Machine

/-- A sparse store: the listed entries; every other key holds the default its reader names. -/
abbrev SMap (α : Type) := List (Nat × α)

/-- What key `i` holds, `d` where it is not listed. -/
def SMap.get {α : Type} (d : α) : SMap α → Nat → α
  | [], _ => d
  | (k, v) :: m, i => if k = i then v else SMap.get d m i

/-- Puts an entry before the first greater key. -/
def SMap.insert {α : Type} (i : Nat) (v : α) : SMap α → SMap α
  | [] => [(i, v)]
  | (k, w) :: m => if i < k then (i, v) :: (k, w) :: m else (k, w) :: SMap.insert i v m

/-- Removes key `i`. -/
def SMap.erase {α : Type} (i : Nat) : SMap α → SMap α
  | [] => []
  | (k, w) :: m => if k = i then SMap.erase i m else (k, w) :: SMap.erase i m

/-- Gives key `i` the value `v`; the default removes the entry. -/
def SMap.set {α : Type} [DecidableEq α] (d : α) (m : SMap α) (i : Nat) (v : α) : SMap α :=
  if v = d then SMap.erase i m else SMap.insert i v (SMap.erase i m)

/-- Changes what key `i` holds by `f`. -/
def SMap.upd {α : Type} [DecidableEq α] (d : α) (m : SMap α) (i : Nat) (f : α → α) : SMap α :=
  SMap.set d m i (f (SMap.get d m i))

/-- Changes each of the keys in `is`. -/
def SMap.updAll {α : Type} [DecidableEq α] (d : α) (m : SMap α) (is : List Nat) (f : Nat → α → α) : SMap α :=
  is.foldl (fun m i => SMap.upd d m i (f i)) m

/-- The canonical form: keys strictly rising from `lo`, no entry equal to the default. -/
def SMap.wfFrom {α : Type} [DecidableEq α] (d : α) (lo : Nat) : SMap α → Bool
  | [] => true
  | (k, v) :: m => decide (lo ≤ k) && decide (v ≠ d) && SMap.wfFrom d (k + 1) m

/-- The canonical form of a store. -/
def SMap.wf {α : Type} [DecidableEq α] (d : α) (m : SMap α) : Bool := SMap.wfFrom d 0 m

/-- Writes the values of `vs` from key `i` upward. -/
def SMap.setList {α : Type} [DecidableEq α] (d : α) (m : SMap α) (i : Nat) : List α → SMap α
  | [] => m
  | v :: vs => SMap.setList d (SMap.set d m i v) (i + 1) vs

/-- Reads `n` values from key `i` upward. -/
def SMap.getList {α : Type} (d : α) (m : SMap α) (i : Nat) : Nat → List α
  | 0 => []
  | n + 1 => SMap.get d m i :: SMap.getList d m (i + 1) n

end Sys2Proof.Machine
end

