-- ==== Sys2Proof/Machine/State.lean ====
section
/-! DEFINITION. The state of the EF4896 as plain data: every register, buffer, queue, counter, mode and pin the spec gives
the chip and its head modules, and the queue of waiting commands. INVENTORY.md lists each with its rule and reset value;
the default value of a field is its reset value. -/

namespace Sys2Proof.Machine

/-! ## Host interface and boot (spec/12) -/

/-- SYS_STATUS.STAGE (Table 12-4). -/
inductive Stage
  | rom | imageLoad | verify | dramTrain | storeRestore | ready | recovery | failed | restarting
  deriving DecidableEq, Repr

/-- The eleven alert registers with their masks (Table 12-2). -/
inductive AlertReg
  | place | fire | twin | pwr | cam | cal | health | dram | time | mot | log
  deriving DecidableEq, Repr

/-- A response area (Table 12-7): header fields and payload. -/
structure Resp where
  opcode : BitVec 16 := 0
  tag : Byte := 0
  gen : Byte := 0
  status : BitVec 16 := 0
  doneNs : BitVec 32 := 0
  payload : List Byte := []
  deriving DecidableEq, Repr

/-- Why a started command has not completed yet. -/
inductive Wait
  /-- a power transition runs (R357–R363) -/
  | power
  /-- BAR_COMMIT waits for its compaction (R69) -/
  | commit
  /-- PAGE_ADMIT waits for the RESERVE's ACK (R272) -/
  | admission
  /-- the control cores restarted while it ran: it completes with RESTARTED (R341) -/
  | restart
  deriving DecidableEq, Repr

/-- A started command that completes at a later step, with the payload it will answer. -/
structure Inflight where
  hdr : MbHdr
  opcode : BitVec 16
  wait : Wait
  payload : List Byte := []
  /-- its slot was emptied by a host-interface reset (R332) -/
  discard : Bool := false
  deriving DecidableEq, Repr

/-- A doorbell held over a restart of the control cores: of a command's row, or of a slot's request area (spec/01 R18). -/
inductive HeldDoor
  | cmd (i : Instr)
  | slot (n : Nat)
  deriving DecidableEq, Repr

/-- The host interface (spec/12). -/
@[ext] structure HostIf where
  live : Bool := false
  perst : Bool := false
  doorbell : Byte := 0
  busy : Byte := 0
  done : Byte := 0
  cancel : Byte := 0
  intMask : Byte := 0
  resp : SMap Resp := []
  reqArea : SMap Byte := []
  held : List HeldDoor := []
  inflight : List Inflight := []
  mbProtocol : Bool := false
  restarted : Bool := false
  alert : SMap (BitVec 32) := []
  mask : SMap (BitVec 32) := []
  msixEnable : Bool := true
  msixFuncMask : Bool := false
  msixVecMask : BitVec 64 := BitVec.allOnes 64
  msixPba : BitVec 64 := 0
  msixTable : SMap (BitVec 32) := []
  msixSent : SMap Nat := []
  loHeld : SMap (Option (BitVec 32)) := []
  /-- upper halves that 32-bit reads of the lower halves latched, by offset (R333) -/
  hiHeld : SMap (Option (BitVec 32)) := []
  bar2Out : Option (List Byte) := none
  aerDropped : Nat := 0
  deriving DecidableEq, Repr

/-- The board record of the running image (Table 12-12). -/
structure Board where
  density : Nat := 16
  ranks : Nat := 2
  mts : Nat := 6400
  bar2Log2 : Nat := 32
  pcieGen : Nat := 4
  pcieWidth : Nat := 8
  deriving DecidableEq, Repr

/-- The OTP fuses (spec/12 R345, R346, R350; log 14). -/
structure Fuses where
  serial : BitVec 64 := 0
  otpCounter : Nat := 0
  revoked : BitVec 4 := 0
  keyHash : SMap (List Byte) := []
  debugHash : List Byte := []
  debugFused : Bool := false
  deriving DecidableEq, Repr

/-- Boot, straps, flash, debug unlock and the control cores (spec/12, spec/01 R18, R19). -/
structure Boot where
  resetN : Bool := false
  stage : Stage := .rom
  bootSlot : Nat := 0
  bootErr : Nat := 0
  bootMode : Nat := 0
  xspiOctal : Bool := false
  twinEn : Bool := false
  twinPrefer : Bool := false
  fwVersion : BitVec 32 := 0
  imgSvn : Nat := 0
  imgKey : Nat := 0
  board : Board := {}
  flash : SMap Byte := []
  updSlot : Option Nat := none
  recImage : SMap Byte := []
  nonce : Option (List Byte) := none
  nonceTick : Nat := 0
  debugScope : Nat := 0
  mismatches : Nat := 0
  lastMismatch : Option Nat := none
  coresHeld : Bool := false
  dropAfterPages : Bool := false
  /-- the tick of the last start: a rising RESET_N or CORE_PG -/
  startTick : Nat := 0
  /-- the instruction the TAP acts on (spec/15 R402) -/
  tap : Byte := 1
  deriving DecidableEq, Repr

/-! ## Time unit (spec/10) -/

/-- The local clock (R289): 48-bit seconds, 32-bit ns, 24-bit fraction of ns. -/
structure LocalTime where
  sec : BitVec 48 := 0
  ns : BitVec 32 := 0
  frac : BitVec 24 := 0
  deriving DecidableEq, Repr

/-- Clock states (Table 10-2). -/
inductive ClockSt
  | freerun | acquiring | locked | holdover | steered
  deriving DecidableEq, Repr

/-- IEEE 1588 portState values the model uses (R291, R293, R295). -/
inductive PtpSt
  | disabled | listening | master | passive | slave
  deriving DecidableEq, Repr

/-- One 10GBASE-R port (Table 10-8) with its PTP state. -/
structure EthPort where
  flags : Byte := 0
  logSync : Int := -3
  logDelay : Int := -3
  logAnnounce : Int := 1
  announceTimeout : Nat := 3
  mac : BitVec 48 := 0
  ipv4 : BitVec 32 := 0
  ingressLatNs : Nat := 0
  egressLatNs : Nat := 0
  st : PtpSt := .disabled
  best : Option AnnounceMsg := none
  seq : BitVec 16 := 0
  /-- t2 − t1 of the last Sync less its correction, in ns; when the outstanding delay request left; the mean path delay found -/
  syncDiff : Option Int := none
  reqNs : Option Int := none
  pathNs : Int := 0
  deriving DecidableEq, Repr

/-- A PTP message sent (spec/10 Table 10-1), times in ns: a Sync with its origin time, which a two-step Sync leaves to its Follow_Up. -/
inductive PtpOut
  | sync (seq : BitVec 16) (twoStep : Bool) (originNs : Int)
  | followUp (seq : BitVec 16) (originNs : Int)
  | announce (seq : BitVec 16) (data : AnnounceMsg)
  | delayReq (seq : BitVec 16)
  | pdelayReq (seq : BitVec 16)
  | delayResp (requester : BitVec 64) (rxNs : Int)
  /-- a one-step answer tells its turnaround, a two-step one leaves it to its Follow_Up -/
  | pdelayResp (requester : BitVec 64) (rxNs turnNs : Int) (twoStep : Bool)
  | pdelayRespFollowUp (requester : BitVec 64) (txNs : Int)
  deriving DecidableEq, Repr

/-- What the time unit hands to an Ethernet port (an output record). -/
inductive EthOut
  /-- a PTP message, over IEEE 802.3 or over UDP/IPv4, to the address `dest` -/
  | ptp (port : Nat) (l2 : Bool) (dest : BitVec 48) (m : PtpOut)
  | arpReply (port : Nat) (ipv4 : BitVec 32)
  /-- a press message, to a multicast group and UDP port -/
  | press (port : Nat) (group : BitVec 32) (udpPort : BitVec 16) (bytes : List Byte)
  deriving DecidableEq, Repr

/-- The time unit (spec/10). -/
structure TimeUnit where
  clock : LocalTime := {}
  inc : BitVec 32 := 0x02800000
  ticks : Nat := 0
  nominalInc : BitVec 32 := 0x02800000
  maxAdjPpb : Nat := 200000
  freqStepPpb : Nat := 50
  stepEn : Bool := true
  stepNs : Nat := 1000
  kp : Nat := 0x4000
  ki : Nat := 0x0800
  lockNs : Nat := 100
  holdAvgS : Nat := 16
  holdLimitNs : Nat := 1000
  aging : Nat := 0x000D
  role : Nat := 0
  domain : Nat := 0
  priority1 : Byte := 128
  priority2 : Byte := 128
  clockClass : Byte := 248
  clockAccuracy : Byte := 0xFE
  oslv : BitVec 16 := 0xFFFF
  utcOffset : Nat := 37
  rxUtcOffset : Nat := 37
  utcValid : Bool := false
  barId : Nat := 0
  port : SMap EthPort := []
  asymEth : SMap Int := []
  asymRidge : SMap Int := []
  asymTwin : Int := 0
  st : ClockSt := .freerun
  offsetNs : Int := 0
  pathNs : Int := 0
  lockRun : Nat := 0
  integral : Int := 0
  /-- increments set while LOCKED, newest first, with their ticks -/
  history : List (Nat × Nat) := []
  lockTick : Nat := 0
  e0 : Nat := 0
  holdMean : Nat := 0
  /-- F of R294 in ppb -/
  holdF : Rat := 0
  holdTick : Nat := 0
  /-- what the RTC's crystal is trimmed by, in ppb (R298) -/
  rtcTrim : Int := 0
  gmIdentity : BitVec 64 := 0
  stepsRemoved : BitVec 16 := 0
  steps : BitVec 32 := 0
  holdovers : BitVec 32 := 0
  discarded : BitVec 32 := 0
  pressAccepted : BitVec 32 := 0
  pressFlags : Byte := 0
  pressGroup : BitVec 32 := 0xEFFF3060
  rxMask : BitVec 64 := 0
  pressRing : List (List Byte) := []
  pressSeen : SMap (List (BitVec 32)) := []
  pressSeq : BitVec 32 := 0
  ethTx : List EthOut := []
  calSec : BitVec 48 := 0
  calFrac : BitVec 16 := 0
  calTick : Nat := 0
  calValid : Bool := false
  /-- what a slew in FREERUN has still to add, in 2^-24 ns (R290, R298) -/
  slew : Int := 0
  /-- the clock a SLAVE port follows -/
  parent : Option (BitVec 64) := none
  deriving DecidableEq, Repr

/-! ## Geometry and the Batten queue (spec/02) -/

/-- The web settings of the geometry (Table 02-5). -/
structure Web where
  dual : Bool
  altPhase : Bool
  lpi : Nat
  pitchNum : Nat
  pitchDen : Nat
  countLenPm : Nat
  accelMax : Nat
  leadTimeUs : Nat
  estEdges : Nat
  estQuadMin : Nat
  estMinSpacingNs : Nat
  estSpanUs : Nat
  segWidth : Nat
  deriving DecidableEq, Repr

/-- The settings of one head port (Table 02-6). -/
structure PortCfg where
  enable : Bool := false
  rowB : Bool := false
  dir : Bool := false
  nozzles : Nat := 0
  firstCol : Nat := 0
  rowOffsetNm : Int := 0
  dropFlightNs : Nat := 0
  deriving DecidableEq, Repr

/-- A geometry: web settings and 48 ports. -/
structure Geo where
  web : Option Web := none
  port : SMap PortCfg := []
  deriving DecidableEq, Repr

/-- Staged and committed geometry, overspeed policy and speed-limit fraction (R69, R71). -/
structure GeoUnit where
  staged : Geo := {}
  committed : Option Geo := none
  policy : Nat := 0
  fraction : Nat := 0xF333
  ringChunks : Nat := 0
  ringAlloc : Nat × Nat := (0, 1)
  deriving DecidableEq, Repr

/-- Where one port stands with one released line. -/
inductive LineSt
  /-- its port was not up at the release: the frame, which fires nothing, follows should the port be up in time (R22) -/
  | absent
  /-- mapped or being mapped; its frame is not built -/
  | waiting
  /-- its frame waits in the port's transmit queue -/
  | queued
  | sent
  | fired
  /-- ceased; it may be released again (R59) -/
  | ceased
  /-- never fired: late, skipped, withheld or lost -/
  | gone
  deriving DecidableEq, Repr

/-- One port's part of a released line: state, RELEASE, the last fire time sent in 1/256 ns of local time, whether its
frame is a substitution frame, whether it is sent again after a resync (R146), the levels and the throttle of the frame last built,
by how much STRETCH moved it behind its predicted time (R63), and the time its last CEASE was sent (R59), none while it waits to be
sent. A port that fires nothing of a line is `gone`. -/
structure PortLine where
  st : LineSt := .gone
  release : Nat := 0
  fire : Int := 0
  subst : Bool := false
  resend : Bool := false
  lv : List Nat := []
  thr : Nat := 0
  stretch : Int := 0
  ceasedAt : Option Int := none
  deriving DecidableEq, Repr

/-- A released line: its decode, its line-buffer slot and its entry of the line delay ring (R21, R22, R54). -/
structure Line where
  handle : Nat
  line : Nat
  /-- its line-buffer slot until it is mapped (R21) -/
  slot : Nat := 0
  toStart : List Nat := []
  running : List (Nat × Nat) := []
  cols : SMap (List Nat) := []
  blanked : List Nat := []
  mapped : Bool := false
  levels : SMap (List Nat) := []
  ivOk : List Nat := []
  unusable : List Nat := []
  badNoz : List (Nat × Nat) := []
  /-- the compensation rules in force at its release: three rule bytes and REACH -/
  rules : List Nat := []
  /-- late: decoded, and fired on no port (R55) -/
  late : Bool := false
  port : SMap PortLine := []
  deriving DecidableEq, Repr

/-- An admitted page (R52, R66). -/
structure Page where
  handle : Nat
  entry : Nat
  lines : Nat
  top : Int
  vContract : Nat
  parity : Nat
  policy : Nat
  standstill : Bool := false
  marks : SMap (Option (Nat × Nat)) := []
  lateCause : Nat := 0
  nextLine : Nat := 0
  /-- the next line is late and waits for a line-buffer slot (R21, R55) -/
  lateNext : Bool := false
  firedLines : List Nat := []
  reversedAt : Option Nat := none
  floor : SMap (Option Int) := []
  skipTo : SMap Nat := []
  /-- admitted by this chip, not taken over from an ADMIT frame (spec/09 R273, R282) -/
  own : Bool := true
  deriving DecidableEq, Repr

/-- A page report (Table 02-11). -/
structure Report where
  marks : SMap (Option (Nat × Nat)) := []
  lateCause : Nat := 0
  linesFired : Nat := 0
  /-- NEXT_LINE when the page left the queue -/
  nextLine : Nat := 0
  awaitTwin : Bool := false
  /-- the page's top, which no report shows -/
  top : Option Int := none
  deriving DecidableEq, Repr

/-- The Batten queue and the line scheduler (spec/02, spec/01 R20–R22). -/
structure Batten where
  pages : List Page := []
  /-- pages that have left while sent lines of theirs still fire -/
  left : List Page := []
  reports : SMap (Option Report) := []
  quiet : List Nat := []
  lastPage : Option (Int × Nat × Nat) := none
  speedLimit : Bool := false
  /-- after a stop: lines with targets below this position are late with cause RESTART (R61) -/
  restartTo : Option Int := none
  lines : List Line := []
  lastOwn : SMap (Option Int) := []
  lastNoz : SMap (SMap (Option Int)) := []
  fireEdges : List (Int × Int) := []
  /-- fired lines whose landing is still to be checked: handle, line, port, target in sub-counts, fire time in 1/256 ns -/
  checks : List (Nat × Nat × Nat × Int × Int) := []
  deriving DecidableEq, Repr

/-! ## Firing (spec/03) -/

/-- What the coverage trace holds of one line fired on one port (R77): bar-reference target in sub-counts, the weights fired
per column (Q2.14), and the throttle flag. -/
structure TraceRec where
  handle : Nat
  line : Nat
  target : Int
  weights : SMap Nat := []
  cols : List Nat := []
  throttled : Bool := false
  /-- the port it fired on; 48 for a line that none fired -/
  port : Nat := 48
  /-- its handle has been admitted again since -/
  old : Bool := false
  deriving DecidableEq, Repr

/-- The range of a MISPLACED, OVERSPEED or WEB_REVERSED mark, whose print lines give the uniformity loop no samples (spec/07 R207): the
page by handle and top, the mark, the first and the last line. -/
structure Spoilt where
  handle : Nat
  top : Int
  mark : Nat
  lo : Nat
  hi : Nat
  old : Bool := false
  deriving DecidableEq, Repr

/-- Firing, interlocks, hiding and gap-work settings (spec/03). -/
structure Fire where
  permit : Bool := false
  dropCause : Nat := 0
  /-- pin levels, 1 high; at reset the inputs stand at their inactive level, so that RAW reads 0 (Table 03-5, log 1) -/
  ilkPins : Byte := 0xFF
  ilkDeb : Byte := 0
  ilkLatched : Byte := 0
  ilkEnable : Byte := 0x07
  ilkPolarity : Byte := 0
  debounce : SMap Nat := []
  ruleS : Byte := 0x01
  ruleM : Byte := 0x05
  ruleL : Byte := 0x0E
  reach : Nat := 2
  warmCode : Nat := 60
  warmGain : Nat := 5000
  warmRateMax : Nat := 20000
  measPeriodS : Nat := 600
  rateClamps : BitVec 32 := 0
  substPixels : BitVec 64 := 0
  compPixels : BitVec 64 := 0
  unhidden : BitVec 64 := 0
  vHide : Nat := 0
  hideState : Nat := 0
  trace : List TraceRec := []
  spoilt : List Spoilt := []
  deriving DecidableEq, Repr

/-! ## Ridge Link (spec/04) -/

/-- Link states (Table 04-3). -/
inductive LinkSt
  | off | detect | train | discover | load | up | dropped | mismatch
  deriving DecidableEq, Repr

/-- Why a head is withheld (R106–R108). -/
inductive Withheld
  | none | stop | cut | telemetry
  deriving DecidableEq, Repr

/-- A symbol on a lane before its 8b/10b coding: a control symbol or a data byte (R115, R116). -/
inductive Sym
  | k (b : Byte)
  | d (b : Byte)
  deriving DecidableEq, Repr

/-- A downstream frame waiting or sent (Table 04-6). T_ARRIVE and T1 are inserted at transmission. -/
inductive DownFrame
  | fireLine (tag : BitVec 32) (f : FireLine) (fire : Int)
  | retime (tag : BitVec 32) (fire : Int) (release : Nat)
  | cease (tag : BitVec 32) (release : Nat)
  | ctrlWr (seq addr : BitVec 32) (data : List Byte) (retry : Bool)
  | ctrlRd (seq addr : BitVec 32) (bytes : BitVec 16) (retry : Bool)
  | measure (seq : BitVec 32) (nozzles : List Nat)
  | time (seq : BitVec 32) (tArrive : BitVec 48)
  | echo (seq : BitVec 32) (t1 : BitVec 48)
  | hello (epoch : BitVec 4)
  | trainBurst
  | skip
  deriving DecidableEq, Repr

/-- A control frame the port has yet to send (R134). -/
inductive CtrlReq
  | write (addr : BitVec 32) (data : List Byte)
  | read (addr : BitVec 32) (bytes : BitVec 16)
  | measure (nozzles : List Nat)
  deriving DecidableEq, Repr

/-- The outstanding control frame (R134). -/
structure CtrlOut where
  seq : BitVec 32
  req : CtrlReq
  retriesLeft : Nat
  deriving DecidableEq, Repr

/-- One head port (spec/04). -/
structure Port where
  st : LinkSt := .off
  epoch : BitVec 4 := 0
  eyeRx : Byte := 0
  eyeHead : Byte := 0
  timeLock : Bool := false
  bank : Bool := false
  dropCause : Nat := 0
  changed : Bool := false
  cnt : SMap (BitVec 32) := []
  resyncs : List Nat := []
  errs : List (Nat × Nat) := []
  eyeLowRx : Nat := 0
  eyeLowHead : Nat := 0
  eqSetting : Nat := 0
  echoed : Bool := false
  helloTick : Option Nat := none
  headNozzles : Option Nat := none
  headSerial : Option (BitVec 64) := none
  prev : Option StatusFrame := none
  ctrlSeq : BitVec 32 := 0
  ctrlOut : Option CtrlOut := none
  ctrlQ : List CtrlReq := []
  holds : Bool := false
  txQ : List DownFrame := []
  lastTx : Option DownFrame := none
  /-- the symbols of the last transmission, with the training burst that took the lane out of electrical idle (R117, R118, R127) -/
  lane : List Sym := []
  idle : Bool := false
  rxIdle : Bool := false
  echoSeq : BitVec 32 := 0
  timeSeq : BitVec 32 := 0
  dVals : List Int := []
  /-- the asymmetry in force in ps, behind a changed setting by steps (spec/10 R297) -/
  asym : Int := 0
  /-- the last temperature reported -/
  temp : Option Int := none
  /-- no report for 1 ms (R108) -/
  silent : Bool := false
  throttle : Nat := 0
  warnLines : Nat := 0
  coolLines : Nat := 0
  withheld : Withheld := .none
  /-- HEAD_RESUME has sent CUT_CLEAR and no report has shown CUT clear since -/
  clearing : Bool := false
  gapOpen : Bool := false
  measuring : Option (List Nat) := none
  measSeq : BitVec 32 := 0
  warmRate : Nat := 0
  /-- the BANK that stood before the switch of LOAD, once a STATUS of this head has told it (Table 04-3) -/
  bankAtLoad : Option Bool := none
  armKey : Option (BitVec 28) := none
  awaiting : List (BitVec 28 × Int) := []
  lastFireT : Option Int := none
  deriving DecidableEq, Repr

/-- The state of a head's line record (R141, R142). -/
inductive RecSt
  | pending | fired | ceased
  deriving DecidableEq, Repr

/-- A head's line record (R141, R142). `fire` is head time in 1/256 ns. -/
structure HeadRec where
  st : RecSt
  release : Nat
  fire : BitVec 48 := 0
  pixels : List (Nat × Nat) := []
  throttle : Nat := 0
  uport : Nat := 0
  deriving DecidableEq, Repr

/-- What a head sends upstream (an output record). -/
inductive UpFrame
  | status (seq : BitVec 32) (f : StatusFrame)
  | hello (f : HelloUp)
  | ctrlWrResp (seq result : BitVec 32)
  | ctrlRdResp (seq result : BitVec 32) (data : List Byte)
  | measureResp (seq : BitVec 32) (status : Byte) (readings : List Reading)
  | echoResp (seq : BitVec 32) (t1 t2 t3 : BitVec 48)
  deriving DecidableEq, Repr

/-- Where a head's upstream port stands with its chip (R125, R140): not yet trained, sending HELLO, or answered by a HELLO. -/
inductive UpSt
  | detect | discover | linked
  deriving DecidableEq, Repr

/-- One of a head's two upstream ports (R125, R135, R140). -/
structure UPort where
  st : UpSt := .detect
  epoch : BitVec 4 := 0
  echo : Byte := 0xFF
  lastSeq : BitVec 32 := 0xFFFFFFFF
  lastAns : Option UpFrame := none
  statusSeq : BitVec 32 := 0
  staleEpoch : BitVec 16 := 0
  crcErr : BitVec 16 := 0
  codeErr : BitVec 16 := 0
  eye : Byte := 0
  idle : Bool := false
  lastUp : Option UpFrame := none
  /-- the symbols of the last transmission (R118, R127) -/
  lane : List Sym := []
  deriving DecidableEq, Repr

/-- A head module (Table 04-10, R135–R145). Its clock reads the ticks since power-up, in 1/256 ns, plus `clockOff`. -/
structure Head where
  serial : BitVec 64 := 0
  nozzles : Nat := 0
  mainPulseNs : BitVec 16 := 1000
  preheatGapNs : BitVec 16 := 100
  tCut : BitVec 16 := 0x0460
  warmRate : Nat := 0
  warmCode : Nat := 0
  applyKey : BitVec 28 := 0
  arm : Bool := false
  warmMask : SMap (BitVec 32) := []
  staged : SMap (BitVec 24) := []
  active : SMap (BitVec 24) := []
  bank : Bool := false
  cut : Bool := false
  timeLock : Bool := false
  agree : Nat := 0
  clockOff : Int := 0
  temp : BitVec 16 := 0
  fresh : Bool := true
  warming : Bool := false
  /-- a MEASURE has stopped the warming, and no WARM write has come since (R138, R145) -/
  warmHeld : Bool := false
  warmPulses : Nat := 0
  /-- the nozzle and the width in ns of the last warming pulse (R145) -/
  lastWarm : Option (Nat × Nat) := none
  up : SMap UPort := []
  recs : SMap (Option HeadRec) := []
  dupDiscard : BitVec 16 := 0
  retimeLate : BitVec 16 := 0
  retimeAfterFire : BitVec 16 := 0
  retimeUnknown : BitVec 16 := 0
  ceaseLate : BitVec 16 := 0
  rateDrop : BitVec 16 := 0
  lateFrame : BitVec 16 := 0
  divergePix : BitVec 16 := 0
  divergeTime : BitVec 16 := 0
  firedCount : BitVec 32 := 0
  lastFired : BitVec 28 := 0
  lastEdge : SMap (Option Int) := []
  /-- head time of the last measurement pulse of a nozzle (R145) -/
  lastMeas : SMap (Option Int) := []
  lastShot : List (Nat × Nat) := []
  deriving DecidableEq, Repr

/-! ## Calibration content and the Gable store (spec/07, spec/03) -/

/-- Drive settings of a port (Table 03-9). -/
structure Drive where
  mainPulseNs : BitVec 16 := 1000
  preheatGapNs : BitVec 16 := 100
  nominalDw : BitVec 16 := 100
  deriving DecidableEq, Repr

/-- Thermal thresholds of a port (Table 03-11). -/
structure Thermal where
  tTarget : Int := 0x02D0
  tWarn : Int := 0x0370
  tStop : Int := 0x03E0
  tCut : Int := 0x0460
  hyst : Int := 0x0020
  deriving DecidableEq, Repr

/-- Characteristic table of a port (R78, R79); `table` none is the nominal table. -/
structure Char where
  serial : Option (BitVec 64) := none
  table : Option (List Nat) := none
  deriving DecidableEq, Repr

/-- The mirrored part of a nozzle table entry (Table 03-1, Table 07-3). `state`: 0 OK, 1 WEAK, 2 DEAD, 3 RETIRED. -/
structure NozCal where
  resBase : Nat := 0
  state : Nat := 0
  cause : Nat := 0
  gain : Nat := 0x4000
  gainFac : Nat := 0x4000
  deriving DecidableEq, Repr

/-- REF and FF of a camera (R191): FF indexed pixel × channels + channel. -/
structure Flat where
  ref : List Nat := [0x8000, 0x8000, 0x8000]
  ff : SMap Nat := []
  loaded : Bool := false
  deriving DecidableEq, Repr

/-- Recalibration settings of a camera (Table 07-12). -/
structure RecalCfg where
  guard : Nat := 2
  subMin : Nat := 256
  timeoutS : Nat := 60
  periodS : Nat := 0
  deriving DecidableEq, Repr

/-- Loop settings (Table 07-9), with the recalibration settings of each camera. -/
structure LoopCfg where
  enable : Bool := true
  updateBlocks : Nat := 16
  beta : Nat := 0x8000
  windowLines : Nat := 65536
  stepLimit : Nat := 0x07AE
  devLimit : Nat := 0x3333
  varMin : Nat := 64
  nMin : Nat := 2048
  medianMin : Nat := 0x8000
  recal : SMap RecalCfg := []
  deriving DecidableEq, Repr

/-- The calibration content: what a base area holds and the journal changes (Table 07-3). -/
structure CalData where
  levelS : Nat := 0x2CCD
  levelM : Nat := 0x4000
  levelL : Nat := 0x5333
  drive : SMap Drive := []
  thermal : SMap Thermal := []
  char : SMap Char := []
  noz : SMap (SMap NozCal) := []
  flat : SMap Flat := []
  loop : LoopCfg := {}
  deriving DecidableEq, Repr

/-- A run of gains of a GAIN_UPDATE or FACTORY record (Table 07-5). -/
structure GainRun where
  port : Nat
  first : Nat
  applyKey : BitVec 32
  gains : List Nat
  deriving DecidableEq, Repr

/-- Bodies of journal records (Table 07-5). -/
inductive JBody
  | gainUpdate (runs : List GainRun)
  | nozzle (entries : List (Nat × Nat × NozCal))
  | levels (s m l : Nat)
  | drive (port : Nat) (d : Drive)
  | char (port : Nat) (c : Char)
  | flat (cam : Nat) (f : Flat)
  | factory (runs : List GainRun)
  | newHead (port : Nat) (serial : BitVec 64)
  | settings (l : LoopCfg)
  | thermal (port : Nat) (t : Thermal)
  | wrap
  deriving DecidableEq, Repr

/-- A journal record (Table 07-4). -/
structure JRec where
  seq : BitVec 32
  off : Nat
  time : BitVec 64
  body : JBody
  committed : Bool := false
  deriving DecidableEq, Repr

/-- A root pointer (R225). -/
structure Root where
  valid : Bool := false
  rootSeq : BitVec 32 := 0
  base : Nat := 0
  seqFolded : BitVec 32 := 0
  journalHead : Nat := 0
  deriving DecidableEq, Repr

/-- A base area (R222): its image, SEQ_FOLDED, and whether its CRC holds. -/
structure BaseArea where
  image : CalData := {}
  seqFolded : BitVec 32 := 0
  crcOk : Bool := false
  /-- the geometry whose NOZ_BASE the image was laid out with -/
  geo : Geo := {}
  deriving DecidableEq, Repr

/-- What the identity and configuration partition keeps (R32, R69, R305, R316, R317, R378, R385). -/
structure IdPart where
  geo : Option Geo := none
  policyFraction : Nat := 0xF333
  regions : Option (List Nat) := none
  map : Option (Nat × Nat × List Nat) := none
  trainTemp : Option Int := none
  retiredCh : Option Nat := none
  /-- the retirement is in force: the map and the sizes are those of single-channel operation (R316) -/
  single : Bool := false
  sdRetired : BitVec 16 := 0
  fsRetired : BitVec 16 := 0
  veRetired : BitVec 4 := 0
  bankRetired : BitVec 64 := 0
  unretire : List (Nat × Nat) := []
  clearedSeq : Option (BitVec 32) := none
  deriving DecidableEq, Repr

/-- The Gable store controller (spec/07). -/
structure Nvm where
  root : SMap Root := []
  base : SMap BaseArea := []
  journal : List JRec := []
  pendingWord : BitVec 32 := 0xFFFFFFFF
  nextSeq : BitVec 32 := 1
  nextOff : Nat := 0
  waiting : List JBody := []
  writing : Option JRec := none
  compacting : Option (BitVec 32) := none
  compactions : BitVec 32 := 0
  /-- ports whose nozzle entries the next base image resets (spec/02 R69) -/
  dropPorts : List Nat := []
  /-- NVM_ERASE_CAL waits for its base image -/
  erasing : Bool := false
  wear : SMap Nat := []
  id : IdPart := {}
  rx : Option (BitVec 32 × List Byte × Nat) := none
  /-- records of the partner's supervisor that wait to be written (spec/09 R278), and whether the one being written is of these -/
  rxWait : List JBody := []
  writingRx : Bool := false
  /-- the root pointer the store runs from: the current one, or the other after a rollback; none in the nominal state (R227) -/
  inForce : Option Nat := none
  /-- the sequence of the supervisor's next record, once an image of it is installed (R228) -/
  rxNext : Option (BitVec 32) := none
  deriving DecidableEq, Repr

/-- Volatile nozzle fields: RES_MEAS, OK_RUN, tick of the last reading, due for measurement (Table 03-1, R96, R97). -/
structure NozVol where
  resMeas : Nat := 0
  okRun : Nat := 0
  readTick : Nat := 0
  due : Bool := false
  deriving DecidableEq, Repr

/-- Calibration in force, the content the store holds committed, from which head writes are made (spec/01 R24), and the volatile part
of the nozzle table. -/
structure Cal where
  data : CalData := {}
  store : CalData := {}
  vol : SMap (SMap NozVol) := []
  charStaged : SMap (Option (List Nat)) := []
  deriving DecidableEq, Repr

/-! ## Slate (spec/05) -/

inductive StreamSt
  | unbound | receiving | resident | error
  deriving DecidableEq, Repr

/-- A Rice context (R163). -/
structure Ctx where
  acc : Nat := 1
  cnt : Nat := 1
  k : Nat := 0
  deriving DecidableEq, Repr

/-- Codec state: the content of a state record (Table 05-4). `hist` holds lines n−1 to n−4. -/
structure CodecSt where
  nextLine : Nat := 0
  nextBlock : Nat := 0
  offset : Nat := 0
  blockEnd : Nat := 0
  blockLeft : Nat := 0
  histValid : Bool := false
  needKey : Bool := true
  sinceKey : Nat := 0
  ctxs : List Ctx := []
  hist : List (List Nat) := []
  deriving DecidableEq, Repr

/-- A segment stream of a page-store entry (R171, R172). -/
structure Stream where
  st : StreamSt := .unbound
  channel : Nat := 0xFF
  declared : Nat := 0
  data : List Byte := []
  received : Nat := 0
  errCode : Nat := 0
  errOff : Nat := 0xFFFFFFFF
  blocks : Nat := 0
  keyBlocks : Nat := 0
  tag : BitVec 32 := 0
  width : Nat := 0
  firstCol : Nat := 0
  lastAcked : Bool := false
  /-- the pairs its chunks were taken from: the first pair's number and the number of pairs (R173) -/
  alloc : Option (Nat × Nat) := none
  deriving DecidableEq, Repr

/-- A page-store entry (R174). -/
structure Entry where
  segments : Nat
  lines : Nat
  autoFree : Bool
  stream : SMap Stream := []
  deriving DecidableEq, Repr

/-- A bind waiting or receiving on a channel (R171); `live` is false once its entry is freed or its stream fails. -/
structure Bind where
  entry : Nat
  seg : Nat
  bytesLeft : Nat
  live : Bool := true
  deriving DecidableEq, Repr

/-- A frame waiting for the encoder (R177, R197): each job line is its line index and samples. -/
structure EncJob where
  es : Nat
  frame : Nat
  lines : List (Nat × List Nat)
  deriving DecidableEq, Repr

/-- An egress stream (R176–R179, R197). -/
structure EgressStream where
  isOpen : Bool := false
  closing : Bool := false
  level : Nat := 2
  channel : Nat := 0
  blockLines : Nat := 256
  keyInterval : Nat := 4
  tag : BitVec 32 := 0
  headerDone : Bool := false
  codec : CodecSt := {}
  /-- line index of the next frame's first line -/
  nextFrame : Nat := 0
  srcSet : Bool := false
  srcPort : Nat := 0
  srcKind : Nat := 0
  srcDepth : Nat := 8
  deriving DecidableEq, Repr

/-- The Slate blocks and the page store (spec/05). -/
structure Slate where
  entries : SMap (Option Entry) := []
  binds : SMap (List Bind) := []
  pairUsed : SMap Nat := []
  dec : SMap CodecSt := []
  /-- WIDTH and STREAM_TAG of the stream a segment's decoder state belongs to -/
  decHdr : SMap (Nat × BitVec 32) := []
  jobs : SMap (Option (Nat × Nat × Nat)) := []
  es : SMap EgressStream := []
  encJobs : List EncJob := []
  encBusy : Option (EncJob × Nat) := none
  linesDecoded : BitVec 64 := 0
  decodeErrors : BitVec 64 := 0
  streamsResident : BitVec 64 := 0
  streamsError : BitVec 64 := 0
  encJobsDone : BitVec 64 := 0
  encNoSpace : BitVec 64 := 0
  encDropped : BitVec 64 := 0
  encBytes : BitVec 64 := 0
  deriving DecidableEq, Repr

/-! ## Encoders, estimator, motion (spec/08, spec/02) -/

inductive EncType
  | quad | toothed | ssi
  deriving DecidableEq, Repr

/-- Toothed parameters (Table 08-5). -/
structure Tooth where
  teeth : Nat := 8
  edges : Nat := 1
  refKind : Nat := 0
  dirSource : Nat := 0
  gapHi : Nat := 0x0180
  gapLo : Nat := 0x00AB
  deriving DecidableEq, Repr

/-- SSI parameters (Table 08-6). -/
structure Ssi where
  clkKhz : Nat := 100
  posBits : Nat := 8
  errMode : Nat := 0
  crcBits : Nat := 0
  crcPoly : Nat := 0
  gray : Bool := false
  badLimit : Nat := 3
  timeoutUs : Nat := 20
  latchNs : Nat := 0
  rxDelayNs : Nat := 0
  periodNs : Nat := 0
  maxStep : Nat := 1
  deriving DecidableEq, Repr

/-- Encoder and estimator states (Table 02-12, R48). -/
inductive MoveSt
  | standstill | acquiring | moving
  deriving DecidableEq, Repr

/-- One encoder input (R232–R242). Times are local time in 2^-24 ns. -/
structure Enc where
  typ : EncType := .quad
  invert : Bool := false
  filterTicks : Nat := 3
  standstillUs : Nat := 10000
  tooth : Tooth := {}
  ssi : Ssi := {}
  lineA : Bool := false
  lineB : Bool := false
  count : Int := 0
  reverse : Bool := false
  extreme : Int := 0
  st : MoveSt := .acquiring
  speed : Rat := 0
  lastEdge : Option Int := none
  lastSec : LocalTime := {}
  lastUp : Bool := true
  ivNow : Option Int := none
  ivPrev : Option Int := none
  lastRise : Option Int := none
  skipFall : Bool := false
  revs : BitVec 32 := 0
  refSeen : Bool := false
  refCount : Int := 0
  pitches : Nat := 0
  sinceRef : Bool := false
  prevWord : Option Nat := none
  ssiOffset : Int := 0
  badRun : Nat := 0
  fault : Bool := false
  frameAt : Option Int := none
  errIllegal : BitVec 32 := 0
  errRef : BitVec 32 := 0
  errBad : BitVec 32 := 0
  errFaults : BitVec 32 := 0
  deriving DecidableEq, Repr

/-- The estimator (R45–R48, R241): window of (position, time), newest first, and the fit about `tN`. Velocities are in
counts per s, times in 2^-24 ns of local time. -/
structure Est where
  st : MoveSt := .acquiring
  window : List (Int × Int) := []
  p : Rat := 0
  v : Rat := 0
  a : Rat := 0
  tN : Int := 0
  quad : Bool := false
  deriving DecidableEq, Repr

/-- Axis states (Table 08-12). -/
inductive AxisSt
  | idle | accel | cruise | decel | reversing | table | geared | quickStopping | stoppedQuick | disabled
  deriving DecidableEq, Repr

/-- The trapezoid rates (Table 08-9). -/
structure Rates where
  vStart : Nat := 1000
  vMax : Nat := 100000
  vStop : Nat := 1000
  accel : Nat := 1000000
  decel : Nat := 1000000
  deriving DecidableEq, Repr

/-- A table segment (R254). -/
structure Seg where
  durationNs : Nat := 0
  endPos : Int := 0
  endVel : Int := 0
  deriving DecidableEq, Repr

/-- A running table (R254): its segments as they stood, the local time and step position of its start, and the times (seconds from the
start) and step positions at which it still has to turn or end a segment. -/
structure TableRun where
  segs : List Seg
  startT : Int
  base : Int
  turns : List (Rat × Int)
  deriving DecidableEq, Repr

/-- Electronic gearing (R255–R257). Positions of ENC_0 are Q48.16; the ratio ramps from `rampFrom` to `rampTo` over `blend` counts of
ENC_0 travel, of which `travel` have passed. -/
structure Gear where
  engaged : Bool := false
  engagePos : Int := 0
  ratio : Rat := 0
  blend : Nat := 1
  followLimit : Nat := 1
  q : Rat := 0
  rampFrom : Rat := 0
  rampTo : Rat := 0
  travel : Rat := 0
  deriving DecidableEq, Repr

/-- One step/direction axis (R247–R258). `speed2` is the square of the speed at the last step. -/
structure Axis where
  enable : Bool := false
  dirInvert : Bool := false
  stepLow : Bool := false
  ilkStop : Byte := 0
  pulseNs : Nat := 100
  dirSetupNs : Nat := 200
  dirHoldNs : Nat := 200
  vLimit : Nat := 5000000
  qsDecel : Nat := 10000000
  rates : Rates := {}
  heldRates : Option Rates := none
  st : AxisSt := .disabled
  cause : Nat := 0
  pos : Int := 0
  target : Int := 0
  fwd : Bool := true
  speed2 : Rat := 0
  unhomed : Bool := true
  /-- every step of the move runs at V_START (R249) -/
  flat : Bool := false
  /-- the move has made its first step -/
  started : Bool := false
  /-- the direction that DIR shows, and the TIME tick of the last step (R247) -/
  dirOut : Bool := true
  lastStep : Option Nat := none
  /-- the step interval timer (R248): the TIME tick at which it runs out, the part of a tick that rounding left to the next interval, and
  the intervals in its queue -/
  due : Nat := 0
  carry : Rat := 0
  queued : Nat := 0
  /-- the seconds between the steps that the last edge of ENC_0 demands (R255) -/
  gap : Rat := 0
  stepLate : BitVec 32 := 0
  segs : SMap Seg := []
  run : Option TableRun := none
  gear : Option Gear := none
  /-- pending ratio changes: ENC_0 position in Q48.16 and ratio (R256) -/
  pend : List (Int × Rat) := []
  deriving DecidableEq, Repr

inductive TrigSt
  | idle | armed | done | cameraOwned
  deriving DecidableEq, Repr

/-- One trigger output and its compare (R243–R246). Positions are Q48.16. -/
structure Trig where
  mode : Nat := 0
  source : Nat := 0
  dir : Nat := 0
  activeLow : Bool := false
  widthNs : Nat := 0
  position : Int := 0
  interval : Nat := 0
  repeats : Nat := 0
  st : TrigSt := .idle
  k : Nat := 0
  fired : BitVec 32 := 0
  missed : BitVec 32 := 0
  lastSec : BitVec 48 := 0
  lastNs : BitVec 32 := 0
  active : Bool := false
  deriving DecidableEq, Repr

/-! ## Cameras and vision (spec/06, spec/07) -/

/-- Camera link settings (Table 06-11). -/
structure CamLink where
  lanes : Nat := 1
  dataType : Nat := 0x2B
  channels : Nat := 1
  vcLong : Nat := 0
  vcShort : Option Nat := none
  rateMbps : Nat := 80
  pixels : Nat := 256
  deriving DecidableEq, Repr

/-- Camera placement (Table 06-12). -/
structure CamPlace where
  dir : Bool := false
  trig : Nat := 0
  firstCol : Nat := 0
  colsPerPx : Nat := 0x10000
  offsetNm : Int := 0
  linePitch : Nat := 0x10000
  deriving DecidableEq, Repr

/-- An exposure set (Table 06-13). -/
structure Exposure where
  ratio : Nat := 0x0100
  exposureNs : Nat := 1000
  kneeLo : Nat := 0xC000
  kneeHi : Nat := 0xF000
  black : List Nat := [0, 0, 0, 0, 0, 0]
  deriving DecidableEq, Repr

inductive CamSt
  | stopped | running | stopping
  deriving DecidableEq, Repr

/-- A frame record (Table 06-3). -/
structure FrameRec where
  port : Nat := 0
  epoch : Byte := 0
  marks : BitVec 16 := 0
  frame : BitVec 32 := 0
  firstPos : Int := 0
  dropped : Nat := 0
  missing : Nat := 0
  unfiltered : Nat := 0
  intervalNs : Nat := 0
  /-- which of the port's frames since reset it is -/
  uid : Nat := 0
  deriving DecidableEq, Repr

/-- A line in a camera FIFO (R189): frame, line number, trigger position, samples of each exposure, its exposure set. -/
structure CamLine where
  frame : Nat
  line : Nat
  pos : Int
  long : List Nat
  short : Option (List Nat)
  epoch : Byte
  exp : Exposure
  warmup : Bool := false
  /-- its frame, counted since reset -/
  uid : Nat := 0
  deriving DecidableEq, Repr

/-- The frame in reception (R183, R184, R195). -/
structure Frame where
  number : Nat
  epoch : Byte
  exp : Exposure := {}
  /-- line numbers received, with their virtual channel -/
  seen : List (Nat × Nat) := []
  longs : SMap (Option (List Nat)) := []
  shorts : SMap (Option (List Nat)) := []
  good : List Nat := []
  dropped : Nat := 0
  /-- lines discarded that are none of the 256 lines still missing: repeated or with a number out of range -/
  extra : Nat := 0
  unfiltered : Nat := 0
  marks : BitVec 16 := 0
  /-- which of the port's frames since reset it is -/
  uid : Nat := 0
  deriving DecidableEq, Repr

/-- Noise-reduction settings (Table 06-15). -/
structure NrCfg where
  spatial : Bool := true
  temporal : Bool := true
  alpha : Nat := 96
  thresh : Nat := 2048
  deriving DecidableEq, Repr

/-- Density matrix and offsets (VIS_SET_MATRIX). -/
structure MatrixCfg where
  m : List Int := [4096, 0, 0, 0, 4096, 0, 0, 0, 4096]
  off : List Int := [0, 0, 0]
  deriving DecidableEq, Repr

/-- Substrate recalibration of a port (R219): sums and counts per pixel and channel. -/
structure Recal where
  collecting : Bool := false
  /-- a collection has been started since reset -/
  started : Bool := false
  counts : SMap Nat := []
  sums : SMap Nat := []
  deriving DecidableEq, Repr

/-- One camera port (spec/06). -/
structure Cam where
  linkSet : Bool := false
  placeSet : Bool := false
  link : CamLink := {}
  place : CamPlace := {}
  exp : Exposure := {}
  pend : Option (Exposure × Nat) := none
  epoch : Byte := 0
  st : CamSt := .stopped
  startPos : Int := 0
  trigs : Nat := 0
  lastTrig : Option Int := none
  slots : SMap Int := []
  times : SMap Int := []
  frame : Option Frame := none
  frames : Nat := 0
  /-- the line number of the last LS since the frame start, per virtual channel -/
  curLine : SMap Nat := []
  /-- frames opened since reset, and how many had been at CAM_START -/
  frameUid : Nat := 0
  runUid : Nat := 0
  /-- closed frames with lines not yet processed, oldest first: their place since reset and their number -/
  closed : List (Nat × Nat) := []
  /-- where the port's raw frame ring begins in the camera-frames region (R189) -/
  rawBase : Nat := 0
  /-- the epoch of the frame opened last -/
  frameEpoch : Byte := 0
  fifo : List CamLine := []
  recs : List FrameRec := []
  linesOk : BitVec 32 := 0
  dropped : BitVec 32 := 0
  seqErr : BitVec 32 := 0
  crcErr : BitVec 32 := 0
  eccCorr : BitVec 32 := 0
  eccUncorr : BitVec 32 := 0
  missingExp : BitVec 32 := 0
  dtOther : BitVec 32 := 0
  trigLate : BitVec 32 := 0
  framesIncomplete : BitVec 32 := 0
  nr : NrCfg := {}
  matrix : MatrixCfg := {}
  /-- a matrix and a flat field waiting for their first frame -/
  pendMatrix : Option (MatrixCfg × Nat) := none
  pendFlat : Option (Flat × Nat) := none
  yPrev : Option (List Nat) := none
  /-- the trigger position and the epoch of the line last processed -/
  lastDone : Option (Int × Byte) := none
  /-- the epoch of the line last processed, kept over CAM_START (R194) -/
  doneEpoch : Byte := 0
  unfilteredNext : Bool := true
  /-- per egress stream the processed lines of frames not yet handed over: the frame, the line's index, its samples -/
  esLines : SMap (List (Nat × Nat × List Nat)) := []
  recal : Recal := {}
  deriving DecidableEq, Repr

/-- Preview settings and progress (R196). -/
structure Preview where
  enable : Bool := false
  colour : Bool := false
  binCols : Nat := 1
  binLines : Nat := 1
  rows : Nat := 1
  addr : Nat := 0
  nextRow : Nat := 0
  /-- the row in progress plus 1: trigger of CAM_0 divided by BIN_LINES; 0 before CAM_0 starts -/
  row : Nat := 0
  sums : SMap Rat := []
  counts : SMap Nat := []
  deriving DecidableEq, Repr

/-- Defect settings (Table 06-17). -/
structure DefectCfg where
  enable : Bool := true
  streakLines : Nat := 1024
  streakThresh : Nat := 0x00CD
  spotThresh : Nat := 0x0333
  spotMin : Nat := 4
  deriving DecidableEq, Repr

/-- A defect record (Table 06-6). -/
structure DefectRec where
  seq : BitVec 32 := 0
  kind : Nat := 0
  port : Nat := 0
  epoch : Byte := 0
  firstCol : Nat := 0
  lastCol : Nat := 0
  pos : Int := 0
  length : Nat := 0
  magnitude : Int := 0
  deriving DecidableEq, Repr

/-- A spot region still growing (R199): camera, epoch, whether it is dark, its samples (column, camera line), the sum of their
deviations in Q4.12 units, the bar-reference position of its first line. -/
structure Spot where
  port : Nat
  epoch : Byte
  dark : Bool
  samples : List (Nat × Nat)
  sum : Rat
  pos : Int
  deriving DecidableEq, Repr

/-- What a thatch strip's stripe has gathered (R201): the sum of D_0 at its column over `lines` lines of one epoch, and the mass
and first moment of D_0 across the stripe, offsets in 2^-16 column. -/
structure Stripe where
  lines : Nat := 0
  sum : Nat := 0
  mass : Nat := 0
  moment : Int := 0
  epoch : Byte := 0
  deriving DecidableEq, Repr

/-- A thatch arm, its page (top, lines, start parity) and its measurements (R200, R201). -/
structure Thatch where
  handle : Nat
  rowB : Bool
  step : Nat
  level : Nat
  firstLine : Nat
  rungLines : Nat
  addr : Nat
  faint : Nat
  miss : Nat
  deflect : Nat
  page : Option (Int × Nat × Nat) := none
  stripes : SMap Stripe := []
  covered : List Nat := []
  /-- the frames whose lines it measured: camera and frame since reset -/
  frames : List (Nat × Nat) := []
  incomplete : Bool := false
  left : Bool := false
  marked : Bool := false
  deriving DecidableEq, Repr

/-- An outstanding density request (R198): per column sum and count; per camera the trigger of its first line plus 1, the epoch
of that line, whether its lines have passed, and the positions they span. -/
structure DensReq where
  lines : Nat
  addr : Nat
  sums : SMap (Nat × Nat) := []
  first : SMap Nat := []
  epoch : SMap Byte := []
  ended : List Nat := []
  /-- per camera the first and the last bar-reference position averaged -/
  span : SMap (Option (Int × Int)) := []
  deriving DecidableEq, Repr

/-- Vision (spec/06). -/
structure Vis where
  preview : Preview := {}
  defect : DefectCfg := {}
  defects : List DefectRec := []
  nextSeq : BitVec 32 := 0
  streak : SMap (Rat × Nat) := []
  streakPos : SMap (Option Int) := []
  spots : List Spot := []
  thatch : List Thatch := []
  density : Option DensReq := none
  lastDens : SMap Nat := []
  rrNext : Nat := 0
  cur : Option (Nat × CamLine) := none
  linesDone : BitVec 64 := 0
  samplesDone : BitVec 64 := 0
  deriving DecidableEq, Repr

/-- Result of a column at its last evaluation (CAL_GET_COLUMNS). -/
structure ColRes where
  r : Nat := 0
  result : Nat := 0
  rejects : Nat := 0
  deriving DecidableEq, Repr

/-- Why a column is STALE: it waits to see a line fired with its new codes (R216; `keys` names for a port the line its codes apply at,
`imm` holds the ports whose next line fired does), and it waits for a web position after a new flat field (R220). -/
structure Stale where
  codes : Bool := false
  keys : List (Nat × BitVec 28) := []
  imm : List Nat := []
  until_ : Option Int := none
  deriving DecidableEq, Repr

/-- The uniformity loop (spec/07). -/
structure Loop where
  acc : SMap AccEntry := []
  /-- per column the entries of its newest 16 blocks with their block numbers, newest first -/
  ring : SMap (List (Nat × AccEntry)) := []
  /-- blocks that every camera has closed -/
  block : Nat := 0
  /-- per camera where its block in progress opened, and that block's number -/
  openPos : SMap (Option Int) := []
  blk : SMap Nat := []
  /-- per column the newest block, plus 1, of which the partner's camera as the owner sent the entry -/
  peer : SMap Nat := []
  closes : Nat := 0
  col : SMap ColRes := []
  stale : SMap Stale := []
  k : Nat := 0x1000
  evaluations : BitVec 32 := 0
  seen : Nat := 0
  trusted : Nat := 0
  updated : Nat := 0
  rejected : Nat := 0
  lastSeq : BitVec 32 := 0
  deriving DecidableEq, Repr

/-! ## Twin (spec/09) -/

inductive TwinLinkSt
  | off | detect | train | discover | sync | up
  deriving DecidableEq, Repr

inductive Role
  | reserve | lead | claim
  deriving DecidableEq, Repr

/-- Sequenced twin frames (Table 09-2). -/
inductive SeqFrame
  | mirror (f : MirrorFrame)
  | admission (f : AdmitFrame)
  | pageEvent (f : PageEventFrame)
  | config (opcode : BitVec 16) (applyKey : BitVec 32) (payload : List Byte)
  | journal (f : JournalFrame)
  | accum (f : AccumFrame)
  | role (f : RoleFrame)
  deriving DecidableEq, Repr

/-- Twin frames handed to the link (an output record). -/
inductive TwinOut
  | hello (flags epoch : Byte) (serial : BitVec 64)
  | beat (b : Beat)
  | seq (seq : BitVec 32) (retry : Bool) (f : SeqFrame)
  | ack (seq : BitVec 32)
  /-- ECHO: T1, the Ridge time at which its SOF leaves -/
  | echo (t1 : BitVec 48)
  /-- ECHO RESP -/
  | echoResp (t1 t2 t3 : BitVec 48)
  | report (summary : List Byte)
  deriving DecidableEq, Repr

/-- Twin mode and parameters (Table 09-11). -/
structure TwinMode where
  mode : Nat := 0
  holdoffS : Nat := 60
  castlePages : Nat := 0
  castleHours : Nat := 24
  divergeLimit : Nat := 16
  reportS : Nat := 60
  deriving DecidableEq, Repr

/-- Page marks the partner reported for one handle (R274): per mark kind the affected line range. -/
structure PeerMark where
  marks : SMap (Option (Nat × Nat)) := []
  deriving DecidableEq, Repr

/-- A change that waits for the line its APPLY_KEY names (R275): FIRE_SET_COMP, HEAD_SET_NOZZLE, a measured nozzle entry, a run of
gains. -/
inductive Later
  | comp (ruleS ruleM ruleL reach : Byte)
  | nozAct (port action nozzle value : Nat)
  | noz (port nozzle : Nat) (n : NozCal)
  | gains (factory : Bool) (run : GainRun)
  deriving DecidableEq, Repr

/-- The twin link and the roles (spec/09). -/
structure Twin where
  link : TwinLinkSt := .off
  width : Nat := 0
  epoch : Byte := 0
  formed : Bool := false
  conflict : Bool := false
  partnerSerial : BitVec 64 := 0
  partnerPreferred : Bool := false
  /-- EPOCH of the partner's HELLO that the link formed with -/
  peerEpoch : Option Byte := none
  /-- the partner has been judged lost and not been seen healthy since -/
  lost : Bool := false
  /-- this chip has started, or restarted its cores, and has neither seen a BEAT nor admitted alone since (Table 09-1, 09-7) -/
  returning : Bool := false
  role : Role := .reserve
  supervisor : Bool := false
  roleSeq : BitVec 32 := 0
  /-- supervision is being handed over: the outstanding control frames finish first (R279) -/
  handing : Bool := false
  solo : Bool := false
  frozen : Bool := false
  stalemate : Bool := false
  mode : TwinMode := {}
  txSeq : BitVec 32 := 0
  rxExp : BitVec 32 := 0
  unacked : List (BitVec 32 × SeqFrame) := []
  resends : Nat := 0
  ackDue : Option (BitVec 32) := none
  /-- the last accepted SEQ -/
  rxLast : Option (BitVec 32) := none
  outOfOrder : BitVec 32 := 0
  retrain : BitVec 32 := 0
  /-- the SYNC content of this chip has been handed to the link, and its last frame -/
  syncRun : Bool := false
  syncLast : Option (BitVec 32) := none
  /-- a BEAT has been sent, and one received, since the HELLO; BEATs received since the last sequenced frame -/
  beatSent : Bool := false
  beatSeen : Bool := false
  quietBeats : Nat := 0
  beatIn : Bool := false
  partner : Option Beat := none
  restartSince : Option Nat := none
  disagreeSince : Option Nat := none
  evidence : Option (Nat × SMap (BitVec 16)) := none
  castleDue : Bool := false
  castling : Option (BitVec 32) := none
  atEmpty : Bool := false
  pagesSince : Nat := 0
  divSums : SMap (BitVec 32) := []
  divPort : Nat := 0xFF
  report : List Byte := []
  eyeLow : SMap Nat := []
  dVals : List Int := []
  partnerOffset : Int := 0
  /-- the preferred chip's parent data as it showed them last (spec/10 R295) -/
  gm : Option AnnounceMsg := none
  /-- GAIN_UPDATE records whose head writes wait for an ACK: SEQ of the last fragment, Gable sequence (R278) -/
  gainWait : List (BitVec 32 × BitVec 32) := []
  apply : List (BitVec 32 × Later) := []
  /-- handles whose admission waits for the ACK of its ADMIT (R272) -/
  admits : List Nat := []
  peerMarks : SMap (Option PeerMark) := []
  txQ : List TwinOut := []
  deriving DecidableEq, Repr

/-! ## DRAM and DMA (spec/11) -/

/-- The DRAM controller and the memory itself (spec/11). `fills` are ranges (low, high, epoch) of undefined content, newest
first. -/
structure Dram where
  cells : List Host.Cell := []
  fills : List (Nat × Nat × Nat) := []
  trained : Bool := false
  interleave : Bool := false
  grainLog2 : Nat := 0
  masks : Option (List Nat) := none
  regions : Option (List Nat) := none
  priority : List Nat := [1, 2, 3, 4, 5, 6, 7]
  wmHigh : Nat := 96
  wmLow : Nat := 32
  hotWindowUs : Nat := 100
  hotLimit : Nat := 1024
  ceLimit : Nat := 1000
  scrubHours : Nat := 24
  retiring : Option Nat := none
  retired : Option Nat := none
  mapHotspot : Bool := false
  ce : SMap (BitVec 64) := []
  ue : SMap (BitVec 64) := []
  hotWindows : SMap (BitVec 64) := []
  conflicts : SMap (BitVec 64) := []
  lastBank : SMap (BitVec 64) := []
  ceHour : SMap (Nat × Nat) := []
  ueTimes : SMap (List Nat) := []
  dqsAdjust : SMap Nat := []
  deriving DecidableEq, Repr

/-- DMA channel states (Table 11-10). -/
inductive DmaSt
  | idle | ready | running | done | halted | stopped
  deriving DecidableEq, Repr

/-- One DMA channel (R320–R327, Tables 11-8 to 11-11). -/
structure Dma where
  st : DmaSt := .idle
  egress : Bool := false
  dramRing : Bool := false
  priority : Nat := 0
  retries : Nat := 3
  ringLog2 : Nat := 12
  dramLog2 : Nat := 0
  ringBase : BitVec 64 := 0
  wbAddr : BitVec 64 := 0
  dramBase : BitVec 64 := 0
  prod : BitVec 64 := 0
  cons : BitVec 64 := 0
  remain : BitVec 64 := 0
  intEn : Bool := false
  err : Byte := 0
  doneSet : Bool := false
  haltSet : Bool := false
  ptrErr : Bool := false
  readback : Bool := false
  wbValue : BitVec 64 := 0
  retriesLeft : Nat := 3
  retrying : Bool := false
  /-- a STOP waits for the request outstanding (Table 11-9) -/
  stopping : Bool := false
  rbOpen : Option Nat := none
  /-- read requests outstanding on the host ring, oldest first, in bytes still to come, each with a tag; and when the channel was last
  given one, for the round-robin among equal priorities (R326) -/
  reqs : List Nat := []
  turn : Nat := 0
  /-- the sizes of the writes of the last transfer to the host ring (an output record) -/
  writes : List Nat := []
  dramPos : Nat := 0
  out : List Byte := []
  moved : BitVec 64 := 0
  busErrors : BitVec 64 := 0
  retryCnt : BitVec 64 := 0
  readbacks : BitVec 64 := 0
  halts : BitVec 64 := 0
  runHeld : Bool := false
  deriving DecidableEq, Repr

/-! ## Power, health, recorder (spec/13, spec/14) -/

inductive PState
  | run | hold | standby | off
  deriving DecidableEq, Repr

/-- What a power transition aims at (Table 13-3). -/
inductive Goal
  | state (t : PState)
  | level (l : Nat)
  deriving DecidableEq, Repr

/-- A power transition in progress (R357–R363). -/
structure Trans where
  goal : Goal
  /-- handshake steps still to ask, first the one being asked -/
  left : List Nat := []
  /-- steps that accepted, newest first -/
  accepted : List Nat := []
  /-- the first block of `left` answered DELAY -/
  delayed : Bool := false
  startTick : Nat := 0
  /-- the camera ports that step 3 stopped, and the egress streams that step 5 closed, with their states before -/
  cams : SMap CamSt := []
  streams : SMap EgressStream := []
  /-- a PMBus write is under way -/
  pmbus : Bool := false
  /-- VSETTLE_US is running -/
  settling : Bool := false
  deriving DecidableEq, Repr

/-- The power manager (spec/13, spec/15). -/
structure Pwr where
  st : PState := .run
  level : Nat := 0
  voltLevel : Nat := 0
  trans : Option Trans := none
  supplyFault : Bool := false
  lost : Bool := false
  lastWake : Nat := 0
  retBrownout : Bool := false
  wakeFail : Bool := false
  thermalOff : Bool := false
  aonWake : Nat := 0
  aonBrownout : Bool := false
  aonWakeFail : Bool := false
  aonThermal : Option (BitVec 16) := none
  retMask : BitVec 64 := 0
  retTemp : BitVec 16 := 0x0550
  lostMask : BitVec 64 := 0
  wakeEnable : BitVec 4 := 0x5
  pcieWake : Bool := true
  alarm : BitVec 64 := 0
  droopEnable : BitVec 16 := 0xFFFF
  threshMv : Nat := 40
  rateLimit : Nat := 100
  pmbusAddr : Byte := 0x08
  vsettleUs : Nat := 200
  pgTimeoutMs : Nat := 10
  sensors : BitVec 16 := 0
  droop : Bool := false
  droopTrips : BitVec 32 := 0
  droopLong : BitVec 32 := 0
  hour : Nat := 0
  hourTrips : Nat := 0
  rateSet : Bool := false
  lastSleep : BitVec 64 := 0
  pwrEn : Bool := true
  pcieWakeN : Bool := true
  corePg : Bool := true
  waking : Bool := false
  attempts : Nat := 0
  fromStandby : Bool := false
  /-- the reading of a shutdown whose PWR_EN has still to fall (R401) -/
  thermalPending : Option (BitVec 16) := none
  /-- a THERMAL_OFF event is still to be written -/
  thermalNew : Bool := false
  /-- a RUN reached from STANDBY or OFF is still to be reported at READY -/
  resuming : Bool := false
  deriving DecidableEq, Repr

/-- The health monitor (spec/14). -/
structure Health where
  sdRetired : BitVec 16 := 0
  fsRetired : BitVec 16 := 0
  veRetired : BitVec 4 := 0
  bankRetired : BitVec 64 := 0
  sdMiss : SMap Nat := []
  spares : SMap Nat := []
  corrected : SMap Nat := []
  bankCe : SMap Nat := []
  remap : SMap (Option Nat) := []
  active : BitVec 11 := 0
  latched : BitVec 11 := 0
  firstSeq : SMap (BitVec 32) := []
  instances : SMap (BitVec 64) := []
  tjWarn : Int := 0x0640
  tjHigh : BitVec 8 := 0
  tjMax : Int := 0
  pllMin : Nat := 100
  pllMargin : Nat := 500
  pllLow : Nat := 0
  /-- parts that the start-up tests retired, by KIND and INDEX of HEALTH_UNRETIRE, to be reported at READY (R376) -/
  failed : List (Nat × Nat) := []
  deriving DecidableEq, Repr

/-- An event record (Table 14-4) without VALID, which the ring adds. -/
structure EventRec where
  seq : BitVec 32 := 0
  time : BitVec 64 := 0
  code : Nat := 0
  source : Nat := 0
  data : BitVec 64 := 0
  severity : Nat := 0
  unset : Bool := false
  replace : Bool := false
  lost : Bool := false
  suppressed : Bool := false
  deriving DecidableEq, Repr

/-- The event recorder (R381–R386). -/
structure Log where
  stage : List EventRec := []
  dropped : Nat := 0
  lostTotal : BitVec 32 := 0
  suppressedTotal : BitVec 32 := 0
  second : Nat := 0
  perCode : SMap Nat := []
  suppFlag : SMap Bool := []
  ring : SMap (Option EventRec) := []
  nextSeq : BitVec 32 := 0
  clearedSeq : Option (BitVec 32) := none
  baseSeq : BitVec 32 := 0
  alertSev : Nat := 1
  lastHealth : BitVec 32 := 0
  deriving DecidableEq, Repr

/-! ## The whole state -/

/-- The state of the block. -/
@[ext]
structure State where
  pending : List Instr := []
  free : Nat := 0
  host : HostIf := {}
  boot : Boot := {}
  fuse : Fuses := {}
  time : TimeUnit := {}
  geo : GeoUnit := {}
  bat : Batten := {}
  fire : Fire := {}
  rlConfig : BitVec 32 := 0x0011408B
  port : SMap Port := []
  head : SMap Head := []
  cal : Cal := {}
  nvm : Nvm := {}
  slate : Slate := {}
  enc : SMap Enc := []
  est : Est := {}
  axis : SMap Axis := []
  trig : SMap Trig := []
  cam : SMap Cam := []
  vis : Vis := {}
  loop : Loop := {}
  twin : Twin := {}
  dram : Dram := {}
  dma : SMap Dma := []
  pwr : Pwr := {}
  health : Health := {}
  log : Log := {}
  deriving DecidableEq, Repr

/-- Right after reset, with RESET_N still low: every field at its reset value (log entries 1 and 7 name the values the
spec does not give). -/
def State.reset : State := {}

/-- What stops the machine. The EF4896 has no command that stops it: what the spec calls an error is a status, an alert bit
or an event, all of them next states. No meaning raises this constructor. -/
inductive Fault
  /-- raised by nothing (safe): the type must have a name for a stop the spec does not give -/
  | none
  deriving DecidableEq, Repr

/-- Why a command has no meaning. -/
inductive Refusal
  /-- raised only by an arm of Dispatch.lean whose command has no meaning yet (safe) -/
  | notModelled (mnemonic : String)
  deriving DecidableEq, Repr

end Sys2Proof.Machine
end

