-- ==== Sys2Proof/Machine/Ops.lean ====
section
/-! DEFINITION. The named operations every meaning is written over: little-endian fields, updates of one component of the
state, times, alerts and interrupts (spec/12 R342, R343), the event recorder's staging (spec/14 R381, R382), replacement
causes (spec/14 R377, R378), the mailbox (spec/12 R335–R340, R404), and the two frames of a meaning (an event of the powered
chip, a command rung in a slot). -/

namespace Sys2Proof.Machine

/-! ## Fields -/

/-- The `n` bytes of `v`, little-endian (spec/00 R4). -/
def le : Nat → Nat → List Byte
  | 0, _ => []
  | n + 1, v => BitVec.ofNat 8 v :: le n (v / 256)

/-- The `n` bytes of a signed value, two's complement (spec/00 R5). -/
def leI (n : Nat) (v : Int) : List Byte := le n (v % (2 ^ (8 * n) : Nat)).toNat

/-- The number that bytes hold, little-endian. -/
def ofLe : List Byte → Nat
  | [] => 0
  | b :: bs => b.toNat + 256 * ofLe bs

/-- `n` zero bytes: a reserved field of a response. -/
def zeros (n : Nat) : List Byte := List.replicate n 0

/-- One bit as a number. -/
def bit (b : Bool) (n : Nat) : Nat := if b then 2 ^ n else 0

/-- Whether bit `n` of `v` is set. -/
def hasBit (v n : Nat) : Bool := v.testBit n

/-- Signed reading of the low `w` bits of `v`. -/
def sext (w v : Nat) : Int := (BitVec.ofNat w v).toInt

/-- Division rounded up. -/
def ceilDiv (a b : Nat) : Nat := (a + b - 1) / b

/-- The number of 2 KiB chunks that `n` bytes take (spec/05 R173). -/
def chunksOf (n : Nat) : Nat := ceilDiv n 2048

/-! ## Updates of one component -/

def State.updHost (f : HostIf → HostIf) (s : State) : State := { s with host := f s.host }
def State.updBoot (f : Boot → Boot) (s : State) : State := { s with boot := f s.boot }
def State.updTime (f : TimeUnit → TimeUnit) (s : State) : State := { s with time := f s.time }
def State.updGeo (f : GeoUnit → GeoUnit) (s : State) : State := { s with geo := f s.geo }
def State.updBat (f : Batten → Batten) (s : State) : State := { s with bat := f s.bat }
def State.updFire (f : Fire → Fire) (s : State) : State := { s with fire := f s.fire }
def State.updPorts (f : SMap Port → SMap Port) (s : State) : State := { s with port := f s.port }
def State.updHeads (f : SMap Head → SMap Head) (s : State) : State := { s with head := f s.head }
def State.updCal (f : Cal → Cal) (s : State) : State := { s with cal := f s.cal }
def State.updNvm (f : Nvm → Nvm) (s : State) : State := { s with nvm := f s.nvm }
def State.updSlate (f : Slate → Slate) (s : State) : State := { s with slate := f s.slate }
def State.updEncs (f : SMap Enc → SMap Enc) (s : State) : State := { s with enc := f s.enc }
def State.updEst (f : Est → Est) (s : State) : State := { s with est := f s.est }
def State.updAxes (f : SMap Axis → SMap Axis) (s : State) : State := { s with axis := f s.axis }
def State.updTrigs (f : SMap Trig → SMap Trig) (s : State) : State := { s with trig := f s.trig }
def State.updCams (f : SMap Cam → SMap Cam) (s : State) : State := { s with cam := f s.cam }
def State.updVis (f : Vis → Vis) (s : State) : State := { s with vis := f s.vis }
def State.updLoop (f : Loop → Loop) (s : State) : State := { s with loop := f s.loop }
def State.updTwin (f : Twin → Twin) (s : State) : State := { s with twin := f s.twin }
def State.updDram (f : Dram → Dram) (s : State) : State := { s with dram := f s.dram }
def State.updDmas (f : SMap Dma → SMap Dma) (s : State) : State := { s with dma := f s.dma }
def State.updPwr (f : Pwr → Pwr) (s : State) : State := { s with pwr := f s.pwr }
def State.updHealth (f : Health → Health) (s : State) : State := { s with health := f s.health }
def State.updLog (f : Log → Log) (s : State) : State := { s with log := f s.log }

/-! ## The instances of an array of blocks -/

/-- The temperature a head reports: none before its first report and while it is silent (spec/03 R108). -/
def Port.report (q : Port) : Option Int := if q.silent then none else q.temp
def State.portN (s : State) (n : Nat) : Port := s.port.get {} n
def State.updPort (n : Nat) (f : Port → Port) (s : State) : State := s.updPorts fun m => m.upd {} n f
def State.headN (s : State) (n : Nat) : Head := s.head.get {} n
def State.updHead (n : Nat) (f : Head → Head) (s : State) : State := s.updHeads fun m => m.upd {} n f
def State.encN (s : State) (n : Nat) : Enc := s.enc.get {} n
def State.updEnc (n : Nat) (f : Enc → Enc) (s : State) : State := s.updEncs fun m => m.upd {} n f
def State.axisN (s : State) (n : Nat) : Axis := s.axis.get {} n
def State.updAxis (n : Nat) (f : Axis → Axis) (s : State) : State := s.updAxes fun m => m.upd {} n f
def State.trigN (s : State) (n : Nat) : Trig := s.trig.get {} n
def State.updTrig (n : Nat) (f : Trig → Trig) (s : State) : State := s.updTrigs fun m => m.upd {} n f
def State.camN (s : State) (n : Nat) : Cam := s.cam.get {} n
def State.updCam (n : Nat) (f : Cam → Cam) (s : State) : State := s.updCams fun m => m.upd {} n f
def State.dmaN (s : State) (n : Nat) : Dma := s.dma.get {} n
def State.updDma (n : Nat) (f : Dma → Dma) (s : State) : State := s.updDmas fun m => m.upd {} n f

/-! ## Free values -/

/-- The next free value below `n` (log 6); the counter moves on. -/
def State.drawBelow (n : Nat) (s : State) : Nat × State :=
  (Config.freeNat s.free % n, { s with free := s.free + 1 })

/-! ## Time (spec/10 R289, spec/00 R6) -/

/-- One second in the units of 2^-24 ns the local clock counts in. -/
def unitsPerSec : Nat := 1000000000 * 16777216

/-- The local time in units of 2^-24 ns. -/
def LocalTime.units (t : LocalTime) : Nat :=
  (t.sec.toNat * 1000000000 + t.ns.toNat) * 16777216 + t.frac.toNat

/-- The local time that a number of units of 2^-24 ns is. -/
def LocalTime.ofUnits (n : Nat) : LocalTime :=
  { sec := BitVec.ofNat 48 (n / unitsPerSec), ns := BitVec.ofNat 32 (n / 16777216 % 1000000000),
    frac := BitVec.ofNat 24 n }

/-- The local time as the host reads it: 48-bit seconds, 32-bit ns, the upper 16 bits of the fraction (R289, R6), each in its
bytes of a 16-byte field whose rest is reserved. -/
def LocalTime.bytes (t : LocalTime) : List Byte :=
  le 6 t.sec.toNat ++ zeros 2 ++ le 4 t.ns.toNat ++ le 2 (t.frac.toNat / 256) ++ zeros 2

/-- Now, in units of 2^-24 ns. -/
def State.now (s : State) : Int := s.time.clock.units

/-- Now, in units of 1/256 ns, the fineness of Ridge fire times. -/
def State.now256 (s : State) : Int := s.now / 65536

/-- TIME ticks in a second. -/
def ticksPerSec : Nat := 400000000

/-- Calendar time in units of 2^-16 s (R298): what was set, and what the trimmed crystal has counted since (log 83). -/
def State.calendar (s : State) : Nat :=
  let run := s.time.ticks - s.time.calTick
  s.time.calSec.toNat * 65536 + s.time.calFrac.toNat +
    if run = 0 then 0
    else ((run * 65536 : Nat) * (1000000000 + Config.crystalPpb + s.time.rtcTrim) / (ticksPerSec * 1000000000 : Nat)).toNat

/-- Calendar time as one 8-byte value: seconds in bits 47:0, fraction in bits 63:48. -/
def State.calendar64 (s : State) : Nat := s.calendar / 65536 % 2 ^ 48 + s.calendar % 65536 * 2 ^ 48

/-- The TIME of an event or journal record (spec/14 Table 14-4, spec/07 Table 07-4, spec/10 R298), and whether TIME_UNSET stands: calendar
time, or the seconds since power-up with bit 63 set. -/
def State.recordTime (s : State) : BitVec 64 × Bool :=
  if s.time.calValid then (BitVec.ofNat 64 s.calendar64, false)
  else (BitVec.ofNat 64 (s.time.ticks / ticksPerSec % 2 ^ 63 + 2 ^ 63), true)

/-! ## Power and readiness -/

/-- The core is supplied, out of reset and clocked: RESET_N and CORE_PG high, in RUN or HOLD (spec/13 R353, spec/15 R393). -/
def State.alive (s : State) : Bool :=
  s.boot.resetN && s.pwr.corePg && (s.pwr.st == .run || s.pwr.st == .hold)

/-- The control cores run (spec/01 R18, R19). -/
def State.coresRun (s : State) : Bool := s.alive && s.boot.stage != .restarting && !s.boot.coresHeld

/-- STAGE READY has been reached and the firmware has not been lost since. -/
def State.isReady (s : State) : Bool := s.boot.stage == .ready || s.boot.stage == .restarting

/-- PIX is gated at PL_3 and in HOLD (spec/01 Table 01-4, spec/13 Table 13-1). -/
def State.pixGated (s : State) : Bool := s.pwr.st == .hold || s.pwr.level == 3
/-- VIS and CAM are gated at PL_2, PL_3 and in HOLD. -/
def State.visGated (s : State) : Bool := s.pwr.st == .hold || decide (2 ≤ s.pwr.level)
/-- MOT is gated at PL_3; HOLD runs at PL_2. -/
def State.motGated (s : State) : Bool := s.pwr.st != .hold && s.pwr.level == 3
/-- The Batten queue and the fire sequencers count as gated at PL_2, PL_3 and in HOLD (spec/13 R355). -/
def State.batGated (s : State) : Bool := s.visGated
/-- Handshake step `k` has accepted and its entry runs still (spec/13 R359). -/
def State.stepAccepted (s : State) (k : Nat) : Bool :=
  match s.pwr.trans with
  | some t => t.accepted.contains k
  | none => false

/-! ## Alert registers and interrupts (spec/12 R342, R343; Tables 02-3, 03-6, 06-8, 07-6, 08-2, 09-8, 10-4, 11-4, 13-6, 14-6) -/

def AlertReg.key : AlertReg → Nat
  | .place => 0 | .fire => 1 | .twin => 2 | .pwr => 3 | .cam => 4 | .cal => 5 | .health => 6 | .dram => 7 | .time => 8
  | .mot => 9 | .log => 10

/-- The W1C bits of an alert register; its mask register has the same bits. -/
def AlertReg.bits : AlertReg → BitVec 32
  | .place => 0x7E | .fire => 0xFF | .twin => 0x7FF | .pwr => 0x1FF | .cam => 0xFF | .cal => 0x1FF | .health => 0x1F
  | .dram => 0x1F | .time => 0x3F | .mot => 0x0F0FFFFF | .log => 0x7

/-- The W1C bits of an alert register that stand. -/
def State.alertOf (s : State) (r : AlertReg) : BitVec 32 := s.host.alert.get 0 r.key
/-- A mask register. -/
def State.maskOf (s : State) (r : AlertReg) : BitVec 32 := s.host.mask.get 0 r.key

/-- Sets the bits `v` of an alert register. -/
def State.raiseBits (r : AlertReg) (v : BitVec 32) (s : State) : State :=
  s.updHost fun h => { h with alert := h.alert.upd 0 r.key fun a => a ||| (v &&& r.bits) }

/-- Sets bit `n` of an alert register. -/
def State.raise (r : AlertReg) (n : Nat) (s : State) : State := s.raiseBits r (BitVec.twoPow 32 n)

/-- Whether a register has a standing bit with its mask bit 1. -/
def State.alerting (s : State) (r : AlertReg) : Bool := s.alertOf r &&& s.maskOf r != 0

/-- INT_PENDING bit `v` (R343, Table 12-9). -/
def State.intPending (s : State) (v : Nat) : Bool :=
  if v < 32 then
    let d := s.dmaN v
    d.intEn && (d.doneSet || d.haltSet)
  else if v = 32 then s.host.done &&& s.host.intMask != 0
  else if v = 33 then s.alerting .log
  else if v = 34 then s.alerting .place || s.alerting .fire
  else if v = 35 then s.alerting .twin
  else if v = 36 then s.alerting .pwr
  else if v = 37 then s.alerting .cam
  else if v = 38 then s.alerting .cal
  else if v = 39 then s.alerting .health || s.alerting .dram
  else if v = 40 then s.alerting .time
  else if v = 41 then s.alerting .mot
  else false

/-- Sends vector `v`, or holds it pending under the function mask or its vector mask (R342). -/
def State.sendVector (v : Nat) (s : State) : State :=
  s.updHost fun h =>
    if !h.msixEnable then h
    else if h.msixFuncMask || h.msixVecMask.getLsbD v then { h with msixPba := h.msixPba ||| BitVec.twoPow 64 v }
    else { h with msixSent := h.msixSent.upd 0 v (· + 1) }

/-- Sends every vector whose INT_PENDING bit rose from `s0` to `s` (R342). -/
def settle (s0 s : State) : State :=
  (List.range 42).foldl (fun t v => if s.intPending v && !s0.intPending v then t.sendVector v else t) s

/-! ## The event recorder's staging (spec/14 R381, R382, R387) -/

/-- The severity of an event code (Table 14-7): 0 info, 1 warning, 2 error. -/
def evSeverity (code : Nat) : Nat :=
  if [0x0101, 0x0301, 0x0304, 0x0501, 0x0F02, 0x1302].contains code then 0
  else if [0x0104, 0x0105, 0x0302, 0x0305, 0x0401, 0x0402, 0x0602, 0x0901, 0x0C01, 0x0C03, 0x0E01, 0x0E02, 0x0F01, 0x1001, 0x1002,
    0x1004, 0x1101, 0x1303, 0x1305].contains code then 1
  else 2

/-- The staging queue's size (R382). -/
def stageMax : Nat := 4096

/-- The record of an event, numbered behind what waits (R382). -/
def State.mkEvent (s : State) (code inst data : Nat) (replace lost supp : Bool) : EventRec :=
  { seq := s.log.nextSeq + BitVec.ofNat 32 s.log.stage.length, time := s.recordTime.1, code := code,
    source := code / 256 * 256 + inst % 256, data := BitVec.ofNat 64 data, severity := evSeverity code,
    unset := s.recordTime.2, replace := replace, lost := lost, suppressed := supp }

/-- The per-code counts of the present second, started again at a new second (R382). -/
def State.logSecond (s : State) : State :=
  if s.log.second = s.time.clock.sec.toNat then s
  else s.updLog fun l => { l with second := s.time.clock.sec.toNat, perCode := [] }

/-- Takes an event (R382): suppressed beyond 256 of its code in the second, dropped when the queue is full, else staged. -/
def State.logEventR (replace : Bool) (code inst data : Nat) (s : State) : State :=
  let s := s.logSecond
  if 256 ≤ s.log.perCode.get 0 code then
    s.updLog fun l => { l with suppressedTotal := l.suppressedTotal + 1, suppFlag := l.suppFlag.set false code true }
  else if stageMax ≤ s.log.stage.length ∨ 0 < s.log.dropped then
    (s.updLog fun l => { l with dropped := l.dropped + 1, lostTotal := l.lostTotal + 1 }).raise .log 1
  else
    s.updLog fun l => { l with
      stage := l.stage ++ [s.mkEvent code inst data replace false (l.suppFlag.get false code)],
      perCode := l.perCode.upd 0 code (· + 1), suppFlag := l.suppFlag.set false code false,
      lastHealth := if code / 256 = 0x13 then l.nextSeq + BitVec.ofNat 32 l.stage.length else l.lastHealth }

/-- Takes an event of the block's own, with the instance of its source and its DATA (Table 14-7). -/
def State.logEvent (code inst data : Nat) (s : State) : State := s.logEventR false code inst data

/-! ## Replacement causes (spec/14 R377, R378) -/

/-- Bits of the causes that are active or latched. -/
def State.causes (s : State) : BitVec 11 := s.health.active ||| s.health.latched

/-- The REPLACE_REQ level. -/
def State.replaceReq (s : State) : Bool := s.causes != 0

/-- Activates cause `c` for instance `i` (R377): a new cause or a new instance sets REPLACE_SET and writes
HEALTH_CAUSE_SET. -/
def State.setCause (c i : Nat) (s : State) : State :=
  if s.health.active.getLsbD c && (s.health.instances.get 0 c).getLsbD i then s
  else
    let was := s.replaceReq
    let seq := s.log.nextSeq + BitVec.ofNat 32 s.log.stage.length
    let first := !s.causes.getLsbD c
    let s := s.updHealth fun h => { h with
      active := h.active ||| BitVec.twoPow 11 c,
      latched := if c = 4 ∨ c = 5 then h.latched ||| BitVec.twoPow 11 c else h.latched,
      firstSeq := if first then h.firstSeq.set 0 c seq else h.firstSeq,
      instances := h.instances.upd 0 c (· ||| BitVec.twoPow 64 i) }
    let s := s.raise .health 0
    s.logEventR (!was) 0x1301 0 (c + (s.health.instances.get 0 c).toNat % 2 ^ 48 * 256)

/-- Clears cause `c` altogether (R378) and writes HEALTH_CAUSE_CLEARED. -/
def State.clearCause (c : Nat) (s : State) : State :=
  if !s.causes.getLsbD c then s
  else
    let s := s.updHealth fun h => { h with
      active := h.active &&& ~~~(BitVec.twoPow 11 c), latched := h.latched &&& ~~~(BitVec.twoPow 11 c),
      firstSeq := h.firstSeq.set 0 c 0, instances := h.instances.set 0 c 0 }
    (s.raise .health 1).logEvent 0x1302 0 c

/-- The condition of cause `c` at instance `i` ended: causes 4 and 5 stay latched, the others clear with their last
instance (R378). -/
def State.endCause (c i : Nat) (s : State) : State :=
  if !s.health.active.getLsbD c then s
  else
    let left := s.health.instances.get 0 c &&& ~~~(BitVec.twoPow 64 i)
    if c = 4 ∨ c = 5 then s.updHealth fun h => { h with active := h.active &&& ~~~(BitVec.twoPow 11 c) }
    else if left = 0 then s.clearCause c
    else s.updHealth fun h => { h with instances := h.instances.set 0 c left }

/-! ## The mailbox (spec/12 R335–R340, R404) -/

/-- What a command's own rules answer: its status, response payload and next state, or that it completes later. -/
inductive Answer
  | done (status : Nat) (payload : List Byte) (s : State)
  | later (w : Wait) (payload : List Byte) (s : State)

/-- Status OK without payload. -/
def ok (s : State) : Answer := .done 0 [] s
/-- Status OK with a payload. -/
def okWith (p : List Byte) (s : State) : Answer := .done 0 p s
/-- A failing status: no part of the command is acted on (R404). -/
def fail (code : Nat) (s : State) : Answer := .done code [] s

/-- What the common checks of R340 look at: the opcode, the payload length of the command's table, whether a reserved field
is set, whether a length, count or size field is zero, whether a needed block is gated, and whether the command is served
before READY. -/
structure MbCheck where
  op : Nat
  len : Nat
  rsv : Bool := false
  zero : Bool := false
  gated : State → Bool := fun _ => false
  early : State → Bool := fun _ => false

/-- The bit of a slot. -/
def slotBit (slot : BitVec 3) : Byte := BitVec.twoPow 8 slot.toNat

/-- The response of a completed command (R336, Table 12-7): written whole, MB_BUSY, MB_DOORBELL and MB_CANCEL bits cleared and
MB_DONE set. -/
def State.mbComplete (h : MbHdr) (op status : Nat) (payload : List Byte) (s : State) : State :=
  s.updHost fun m => { m with
    resp := m.resp.set {} h.slot.toNat ⟨BitVec.ofNat 16 op, h.tag, h.gen, BitVec.ofNat 16 status, s.time.clock.ns, payload⟩,
    doorbell := m.doorbell &&& ~~~(slotBit h.slot), busy := m.busy &&& ~~~(slotBit h.slot),
    cancel := m.cancel &&& ~~~(slotBit h.slot), done := m.done ||| slotBit h.slot }

/-- A slot starts: doorbell and busy bits set (R336). -/
def State.mbStart (h : MbHdr) (s : State) : State :=
  s.updHost fun m => { m with doorbell := m.doorbell ||| slotBit h.slot, busy := m.busy ||| slotBit h.slot }

/-- The common checks of R340 in their order, with the zero fields of spec/00 R12 and R13: the first failing status, or none. -/
def mbCommon (c : MbCheck) (h : MbHdr) (s : State) : Option Nat :=
  if !s.isReady && !c.early s then some 0x0004
  else if h.reqBytes.toNat ≠ 16 + c.len ∨ 2048 < h.reqBytes.toNat then some 0x0002
  else if h.rsv != 0 || c.rsv then some 0x0003
  else if c.gated s then some 0x0005
  else if c.zero then some 0x0006
  else none

/-- Serves one command in its slot: the common checks, then its own rules, then the response (R336, R340). -/
def mbServe (c : MbCheck) (h : MbHdr) (body : State → Answer) (s : State) : State :=
  let s := s.mbStart h
  match mbCommon c h s with
  | some st => s.mbComplete h c.op st []
  | none =>
    match body s with
    | .done st p t => t.mbComplete h c.op st p
    | .later w p t => t.updHost fun m => { m with inflight := m.inflight ++ [⟨h, BitVec.ofNat 16 c.op, w, p, false⟩] }

/-- Completes the first started command that waits for `w` (R336); discarded when its slot was emptied meanwhile (R332). -/
def State.finishWait (w : Wait) (status : Nat) (s : State) : State :=
  match s.host.inflight.find? fun i => i.wait == w with
  | none => s
  | some i =>
    let s := s.updHost fun m => { m with inflight := m.inflight.erase i }
    if i.discard then s else s.mbComplete i.hdr i.opcode.toNat status (if status = 0 then i.payload else [])

/-- A doorbell of a slot: ignored with MB_PROTOCOL while the slot is busy or done (R338), held while the control cores do not
run (spec/01 R18, R19), else served. -/
def mbDoor (h : MbHdr) (i : Instr) (serve : State → State) (s : State) : State :=
  if !s.alive || !s.host.live then s
  else if (s.host.busy ||| s.host.done) &&& slotBit h.slot != 0 then s.updHost fun m => { m with mbProtocol := true }
  else if s.host.doorbell &&& slotBit h.slot != 0 then s
  else if !s.coresRun then
    s.updHost fun m => { m with doorbell := m.doorbell ||| slotBit h.slot, held := m.held ++ [.cmd i] }
  else serve s

/-! ## The frames of a meaning -/

/-- What no meaning touches: the queue of waiting commands; and what none but SYS_SET_SVN and SYS_REVOKE_KEY touches: the
fuses (spec/12 R346: the counter rises only through SYS_SET_SVN). -/
def keep (s t : State) : State := { t with pending := s.pending, fuse := s.fuse }

/-- The next state of a meaning: its effect with the interrupts it sends. -/
def done (s t : State) : Host.Outcome State Fault Refusal := .next (keep s (settle s t))

/-- A command rung in a mailbox slot: its whole effect, the interrupts included. -/
def mbCmd (h : MbHdr) (i : Instr) (serve : State → State) (s : State) : Host.Outcome State Fault Refusal :=
  done s (mbDoor h i serve s)

/-- An event of the powered chip: no effect while the core has no supply or is in reset (log 5). -/
def evt (f : State → State) (s : State) : Host.Outcome State Fault Refusal :=
  done s (if s.alive then f s else s)

/-- An event outside the core's supply: pins, the AON domain, the heads. -/
def evtAny (f : State → State) (s : State) : Host.Outcome State Fault Refusal := done s (f s)

/-- A host access to BAR0 or BAR2: no effect while the link is not up. -/
def hostAcc (f : State → State) (s : State) : Host.Outcome State Fault Refusal :=
  done s (if s.alive && s.host.live then f s else s)

/-! ## The passing of time -/

/-- What a tick takes off a slew in FREERUN; the increment returns to NOMINAL_INC once it is done (spec/10 R290). -/
def TimeUnit.slewTick (t : TimeUnit) : TimeUnit :=
  if t.slew = 0 then t
  else
    let left := t.slew - ((t.inc.toNat : Int) - t.nominalInc.toNat)
    if left * t.slew ≤ 0 then { t with slew := 0, inc := t.nominalInc } else { t with slew := left }

/-- One 400 MHz TIME tick, 2.5 ns: what the block does while no command waits (log 2). The local clock adds its increment
while the core runs (spec/10 R289); the count of ticks since power-up, which the RTC follows, always moves. -/
def State.tick (s : State) : State :=
  let alive := s.alive
  s.updTime fun t =>
    let t1 := { t with ticks := t.ticks + 1 }
    if alive then { t1.slewTick with clock := LocalTime.ofUnits (t.clock.units + t.inc.toNat) } else t1

/-- `n` ticks. -/
def State.elapse : Nat → State → State
  | 0, s => s
  | n + 1, s => State.elapse n s.tick

end Sys2Proof.Machine
end

