-- ==== Sys2Proof/Machine/Operands.lean ====
section
/-! DEFINITION. What the operands of commands are measured against: the bar geometry's derived figures (spec/02 R36–R44, R49,
spec/01 R22, spec/03 R82, R83), the DRAM map's sizes and regions (spec/11, spec/01 R33), the addresses of R180, and the
capacity figures of R379. -/

namespace Sys2Proof.Machine

/-! ## Ports, columns, nozzles (R36–R41) -/

/-- The enabled ports in ascending order with their settings. -/
def Geo.ports (g : Geo) : List (Nat × PortCfg) :=
  ((List.range 48).map fun n => (n, g.port.get {} n)).filter fun p => p.2.enable

/-- The lowest column a port serves (R36). -/
def PortCfg.low (c : PortCfg) : Nat := if c.dir then c.firstCol + 1 - c.nozzles else c.firstCol
/-- One more than the highest column a port serves. -/
def PortCfg.high (c : PortCfg) : Nat := if c.dir then c.firstCol + 1 else c.firstCol + c.nozzles
/-- The column of nozzle `i` (R36). -/
def PortCfg.col (c : PortCfg) (i : Nat) : Nat := if c.dir then c.firstCol - i else c.firstCol + i
/-- The nozzle of a port that serves column `x`. -/
def PortCfg.nozzleAt (c : PortCfg) (x : Nat) : Option Nat :=
  if c.low ≤ x ∧ x < c.high then some (if c.dir then c.firstCol - x else x - c.firstCol) else none

/-- BAR_COLUMNS (R37). -/
def Geo.columns (g : Geo) : Nat := g.ports.foldl (fun m p => max m p.2.high) 0

/-- NOZ_BASE of a port (R82). -/
def Geo.nozBase (g : Geo) (p : Nat) : Nat := ((g.ports.filter fun q => decide (q.1 < p)).map (·.2.nozzles)).sum

/-- The number of nozzles of all enabled ports. -/
def Geo.nozzles (g : Geo) : Nat := (g.ports.map (·.2.nozzles)).sum

/-- The nozzles of one row that serve a column, lower port of the overlap first (R38, R40). -/
def Geo.servers (g : Geo) (rowB : Bool) (c : Nat) : List (Nat × Nat) :=
  let l := g.ports.filterMap fun p =>
    if p.2.rowB = rowB then (p.2.nozzleAt c).map fun i => (p.2.low, p.1, i) else none
  (l.mergeSort fun a b => decide (a.1 ≤ b.1)).map (·.2)

/-- First column and width of the overlap of two ports. -/
def Geo.overlap (g : Geo) (a b : Nat) : Nat × Nat :=
  let ca := g.port.get {} a
  let cb := g.port.get {} b
  let lo := max ca.low cb.low
  (lo, min ca.high cb.high - lo)

/-- The blend of R40: whether the lower port fires column `c` of line `n`. -/
def blendLow (n c c0 w : Nat) : Bool := decide (c - c0 < (n * 0x9E37 + c * 0x7F4B) % 65536 % (w + 1))

/-- The nozzle of a row selected for column `c` of line `n`, and the other of an overlap (R40). -/
def Geo.select (g : Geo) (rowB : Bool) (n c : Nat) : Option (Nat × Nat) × Option (Nat × Nat) :=
  match g.servers rowB c with
  | [] => (none, none)
  | [a] => (some a, none)
  | a :: b :: _ =>
    let (c0, w) := g.overlap a.1 b.1
    if blendLow n c c0 w then (some a, some b) else (some b, some a)

/-- The partner of a nozzle that serves column `c` in a row (R83). -/
def Geo.partner (g : Geo) (dual rowB : Bool) (c : Nat) : Option (Nat × Nat) :=
  if !dual then none
  else
    match g.servers (!rowB) c with
    | [] => none
    | [a] => some a
    | a :: b :: _ =>
      let (c0, w) := g.overlap a.1 b.1
      if 2 * (c - c0) < w then some a else some b

/-- The segment count (R41). -/
def Geo.segments (g : Geo) (w : Web) : Nat := ceilDiv g.columns w.segWidth
/-- The width of segment `j` (R41). -/
def Geo.segWidth (g : Geo) (w : Web) (j : Nat) : Nat := min w.segWidth (g.columns - j * w.segWidth)

/-! ## Along the web (R42–R44) -/

/-- The pitch as a Q16.32 count value, rounded to nearest (R42). -/
def Web.pitch (w : Web) : Nat := (w.pitchNum * 2 ^ 33 + w.pitchDen) / (2 * w.pitchDen)

/-- Position of line `n` in sub-counts: top + n × pitch in Q16.32, rounded to a whole sub-count (R42). -/
def Web.linePos (w : Web) (top : Int) (n : Nat) : Int := (top * 65536 + (n * w.pitch : Nat) + 32768) / 65536

/-- A length in nm as sub-counts, rounded to nearest (R43). -/
def Web.nmToSub (w : Web) (nm : Int) : Int :=
  (nm * 1000 * 65536 * 2 + (w.countLenPm : Int)) / (2 * (w.countLenPm : Int))

/-- ROW_OFFSET(p) in sub-counts (R43). -/
def Geo.rowOffset (g : Geo) (w : Web) (p : Nat) : Int := w.nmToSub (g.port.get {} p).rowOffsetNm

/-- target(n, p) in sub-counts (R43). -/
def Geo.target (g : Geo) (w : Web) (top : Int) (n p : Nat) : Int := w.linePos top n + g.rowOffset w p

/-- A speed or acceleration in mm as counts (R42): exact. -/
def Web.mmToCounts (w : Web) (mm : Nat) : Rat := (mm * 1000000000 : Nat) / (w.countLenPm : Rat)

/-- The pitch in counts. -/
def Web.pitchCounts (w : Web) : Rat := (w.pitch : Rat) / (2 ^ 32 : Nat)

/-- The minimum interval of a nozzle, 16.667 µs, in 1/256 ns (R63, R85). -/
def minInterval256 : Int := 16667 * 256

/-! ## Speed limits (R49, R379) -/

/-- The exact speed in mm/s at which the line rate is `f` per second. -/
def Web.speedAt (w : Web) (f : Nat) : Rat := w.pitchCounts * f * w.countLenPm / 1000000000

/-- A port whose nozzles can fire as far as its link and its sequencer, FS_n for ports 3n to 3n+2 (spec/01 R16), go (R375, R276
not regarded). -/
def State.portRuns (s : State) (p : Nat) : Bool := (s.portN p).st == .up && !s.health.fsRetired.getLsbD (p / 3)

/-- The pair is in UP and this chip is not in SOLO (spec/09 R276). -/
def State.pairUp (s : State) : Bool := s.boot.twinEn && s.twin.link == .up && !s.twin.solo

/-- A port counts as up: on this chip, or on either chip of a pair in UP (R276). -/
def State.portUp (s : State) (p : Nat) : Bool :=
  !s.health.fsRetired.getLsbD (p / 3) &&
    ((s.portN p).st == .up ||
      (s.pairUp && match s.twin.partner with | some b => b.portsUp.getLsbD p | none => false))

/-- f_max of R49, given whether every enabled port is up. -/
def Web.fMax (w : Web) (allUp : Bool) : Nat := if w.dual && allUp then 120000 else 60000

/-- The web settings in force. -/
def State.web? (s : State) : Option Web := s.geo.committed.bind (·.web)

/-- Every enabled port of the committed geometry is up. -/
def State.allUp (s : State) : Bool :=
  match s.geo.committed with
  | none => false
  | some g => g.ports.all fun p => s.portUp p.1

/-- V_FIRE, exact (R49); 0 without a geometry. -/
def State.vFire (s : State) : Rat :=
  match s.geo.committed with
  | some { web := some w, .. } => w.speedAt (w.fMax s.allUp)
  | _ => 0

/-- Decoders in service. -/
def State.decoders (s : State) : Nat := ((List.range 16).filter fun i => !s.health.sdRetired.getLsbD i).length

/-- The PIX clock in MHz at a level (Table 01-4). -/
def pixMhz (level : Nat) : Nat := match level with | 0 => 600 | 1 => 450 | 2 => 300 | _ => 0

/-- The decode capacity at a level in pixels per second, in a droop or not (spec/01 R29, Table 01-5): n × 4 × PIX, PIX halved in a
droop. -/
def State.decodeRate (s : State) (level : Nat) (droop : Bool) : Nat :=
  s.decoders * 4 * pixMhz level * 1000000 / (if droop then 2 else 1)

/-- DECODE_CAP at a level: the capacity in a droop (R379). -/
def State.decodeCapAt (s : State) (level : Nat) : Nat := s.decodeRate level true

/-- DECODE_CAP at the present level. -/
def State.decodeCap (s : State) : Nat := if s.pixGated then 0 else s.decodeCapAt s.pwr.level

/-- V_DECODE, exact (R379). -/
def State.vDecode (s : State) : Rat :=
  match s.geo.committed with
  | some g => match g.web with
    | some w => if g.columns = 0 then 0 else w.speedAt 1 * s.decodeCap / g.columns
    | none => 0
  | none => 0

/-- A speed rounded down to whole mm/s. -/
def wholeMm (v : Rat) : Nat := v.floor.toNat

/-! ## DRAM sizes and regions (spec/11 R304, R317, R318; spec/01 Table 01-8) -/

/-- Bytes of one channel: two ×16 data devices, times the ranks (Table 11-1). -/
def Board.channelBytes (b : Board) : Nat := b.density * b.ranks * 2 ^ 28

/-- Banks of one channel (Table 11-1). -/
def Board.banks (b : Board) : Nat := (if b.density = 8 then 8 else 16) * b.ranks

/-- Single-channel operation is in force (R316). -/
def State.single (s : State) : Bool := s.dram.retired.isSome

/-- The capacity in bytes. -/
def State.dramBytes (s : State) : Nat :=
  if s.single then s.boot.board.channelBytes else 2 * s.boot.board.channelBytes

/-- Units of 256 MiB. -/
def unit256 : Nat := 2 ^ 28

/-- The default sizes of page store, camera frames, vision and twin mirror in 256 MiB (R318). -/
def defaultRegions (bytes : Nat) : List Nat :=
  if bytes ≤ 2 ^ 31 then [3, 1, 1, 1] else if bytes ≤ 2 ^ 33 then [8, 2, 2, 2] else [32, 4, 8, 4]

/-- The sizes in force. -/
def State.regionSizes (s : State) : List Nat := s.dram.regions.getD (defaultRegions s.dramBytes)

/-- The seven regions in the order of Table 01-8, in 256 MiB. -/
def regionUnits (sizes : List Nat) (bytes : Nat) : List Nat :=
  let l := [1] ++ sizes ++ [1]
  l ++ [bytes / unit256 - l.sum]

/-- Base and size in bytes of region `i` (0 firmware, 1 page store, 2 camera, 3 vision, 4 twin, 5 egress, 6 Free). -/
def State.region (s : State) (i : Nat) : Nat × Nat :=
  let l := regionUnits s.regionSizes s.dramBytes
  ((l.take i).sum * unit256, l.getD i 0 * unit256)

/-- Base of the Free region. -/
def State.freeBase (s : State) : Nat := (s.region 6).1
/-- Size of the Free region. -/
def State.freeSize (s : State) : Nat := (s.region 6).2

/-- An address meets R180: aligned to 64 bytes, with its `n` bytes in the Free region (log 21). -/
def State.addrOk (s : State) (a n : Nat) : Bool :=
  a % 64 == 0 && decide (s.freeBase ≤ a) && decide (a < s.freeBase + s.freeSize) && decide (a + n ≤ s.freeBase + s.freeSize)

/-! ## The chunks of the page store (spec/05 R173) -/

/-- The channel out of service, RETIRING or retired (R314). -/
def State.chDown (s : State) : Option Nat := s.dram.retired <|> s.dram.retiring

/-- P of R173. -/
def State.pairs (s : State) : Nat := if s.chDown.isSome then s.boot.board.banks else 2 * s.boot.board.banks

/-- The number of the first pair chunks are taken from: pairs of DC_0 come first; while DC_0 retires, those of DC_1 are used. -/
def State.pairBase (s : State) : Nat := if s.dram.retiring = some 0 then s.boot.board.banks else 0

/-- Chunks of the page store. -/
def State.totalChunks (s : State) : Nat := (s.region 1).2 / 2048

/-- Chunks of pair `q` under the map in force; the pairs of DC_0 are numbered first. With a grain below a chunk every chunk begins on
DC_0 and belongs to one of its pairs (R309), so that the pairs of DC_1 hold none. -/
def State.chunksPerPair (s : State) (q : Nat) : Nat :=
  let banks := s.boot.board.banks
  if s.single then s.totalChunks / banks
  else if s.dram.interleave ∧ s.dram.grainLog2 < 11 then (if q < banks then s.totalChunks / banks else 0)
  else s.totalChunks / (2 * banks)

/-- How many of `n` chunks starting at pair `3j` fall on pair `i` of `P` (R173). -/
def chunkShare (j n p i : Nat) : Nat := n / p + (if (i + p - 3 * j % p) % p < n % p then 1 else 0)

/-- Chunks free in pair `i`, counted from the first pair in use. -/
def State.freeIn (s : State) (i : Nat) : Nat := s.chunksPerPair (s.pairBase + i) - s.slate.pairUsed.get 0 (s.pairBase + i)

/-- Every pair has room for `n` chunks of a stream of segment `j`. -/
def State.chunksFit (s : State) (j n : Nat) : Bool :=
  (List.range s.pairs).all fun i => decide (chunkShare j n s.pairs i ≤ s.freeIn i)

/-- Free chunks in all. -/
def State.freeChunks (s : State) : Nat := ((List.range s.pairs).map s.freeIn).sum

/-- Takes or returns `n` chunks of segment `j` on the `p` pairs from `base`. -/
def State.moveChunks (take : Bool) (base p j n : Nat) (s : State) : State :=
  s.updSlate fun t => { t with
    pairUsed := t.pairUsed.updAll 0 ((List.range p).map (base + ·)) fun q u =>
      if take then u + chunkShare j n p (q - base) else u - chunkShare j n p (q - base) }

/-! ## The line delay ring (spec/01 R22) -/

/-- E: bytes of a ring entry. -/
def Geo.ringEntry (g : Geo) : Nat := ceilDiv (ceilDiv (g.nozzles * 2) 8) 2048 * 2048

/-- The largest of a list, 0 for none. -/
def maxInt (l : List Int) : Int := l.foldl max (l.headD 0)
/-- The smallest of a list, 0 for none. -/
def minInt (l : List Int) : Int := l.foldl min (l.headD 0)

/-- L_RING, with f_max for every enabled port up. -/
def Geo.ringLines (g : Geo) (w : Web) : Nat :=
  let offs := g.ports.map fun p => g.rowOffset w p.1
  let fl := g.ports.map fun p => (p.2.dropFlightNs : Int)
  let spread := (maxInt offs - minInt offs).toNat
  let fspread := (maxInt fl - minInt fl).toNat
  ceilDiv (spread * 65536) w.pitch + ceilDiv (w.fMax true * (fspread + w.leadTimeUs * 1000 + 50000)) 1000000000 + 16

/-- The ring's chunks. -/
def Geo.ringChunks (g : Geo) (w : Web) : Nat := g.ringLines w * (g.ringEntry / 2048)

/-! ## The line buffer (spec/01 R21, R30, R31) -/

/-- The bank that holds function bank `b`: itself, or the reserve bank it was moved to (R31). -/
def State.bankOf (s : State) (b : Nat) : Option Nat :=
  if !s.health.bankRetired.getLsbD b then some b else s.health.remap.get none b

/-- Slots of the line buffer and their bytes (Table 01-6). -/
def Web.slots (w : Web) : Nat := if w.dual then 256 else 128
def Web.slotBytes (w : Web) : Nat := if w.dual then 24576 else 49152

/-- The function bank that holds column `c` of a slot: 2 bits a column, slots in order from SB_6 on. -/
def Web.slotBank (w : Web) (slot c : Nat) : Nat := 6 + (slot * w.slotBytes + c / 4) / 524288

/-- A slot whose banks are all in service: with no reserve bank free, a retired bank takes its slots with it (R31). -/
def State.slotGood (s : State) (w : Web) (k : Nat) : Bool :=
  (s.bankOf (w.slotBank k 0)).isSome && (s.bankOf (w.slotBank k (4 * w.slotBytes - 4))).isSome

/-- The lowest free slot: a line holds one from its release until it is mapped (R21). -/
def State.takeSlot (s : State) (w : Web) : Option Nat :=
  (List.range w.slots).find? fun k => s.slotGood w k && s.bat.lines.all fun l => l.mapped || l.slot != k

/-! ## Ranges -/

/-- Whether a value lies outside a range. -/
def out (v lo hi : Nat) : Bool := decide (v < lo) || decide (hi < v)

/-- Whether a signed value lies outside a range. -/
def outI (v lo hi : Int) : Bool := decide (v < lo) || decide (hi < v)

end Sys2Proof.Machine
end

