-- ==== Sys2Proof/Machine/Estim.lean ====
section
/-! DEFINITION. The web estimator's arithmetic (spec/02 R45–R48): the window of edges, the least-squares fit, position and
velocity between edges, and the predicted arrival time. Times are local time in units of 2^-24 ns, positions counts, speeds
counts per second; all of it exact, the square root of R47 included. -/

namespace Sys2Proof.Machine

/-- Units of 2^-24 ns as seconds. -/
def secOf (t : Int) : Rat := (t : Rat) / unitsPerSec

/-- A value to the nearest integer, halves upward (log 96). -/
def nearest (q : Rat) : Int := (q + 1 / 2).floor

/-- The square root, rounded down to a multiple of 2^-40 (log 20). -/
def ratSqrt (q : Rat) : Rat := (Nat.sqrt (q * (2 ^ 80 : Nat)).floor.toNat : Rat) / (2 ^ 40 : Nat)

/-- The sums of a window of (τ, p). -/
structure FitSums where
  n : Rat
  s1 : Rat
  s2 : Rat
  s3 : Rat
  s4 : Rat
  p0 : Rat
  p1 : Rat
  p2 : Rat

/-- The sums of the least-squares fit about the newest edge. -/
def fitSums (tN : Int) (w : List (Int × Int)) : FitSums :=
  w.foldl (fun f e =>
    let x := secOf (e.2 - tN)
    let p : Rat := e.1
    ⟨f.n + 1, f.s1 + x, f.s2 + x * x, f.s3 + x * x * x, f.s4 + x * x * x * x, f.p0 + p, f.p1 + x * p, f.p2 + x * x * p⟩)
    ⟨0, 0, 0, 0, 0, 0, 0, 0⟩

/-- The straight fit p̂, v. -/
def fitLine (f : FitSums) : Rat × Rat :=
  let d := f.n * f.s2 - f.s1 * f.s1
  if d = 0 then (if f.n = 0 then 0 else f.p0 / f.n, 0)
  else
    let v := (f.n * f.p1 - f.s1 * f.p0) / d
    ((f.p0 - v * f.s1) / f.n, v)

/-- The quadratic fit p̂, v, a by Cramer's rule; none where the normal equations have no single solution. -/
def fitQuad (f : FitSums) : Option (Rat × Rat × Rat) :=
  let det := fun (a b c d e g h i j : Rat) => a * (e * j - g * i) - b * (d * j - g * h) + c * (d * i - e * h)
  let d := det f.n f.s1 f.s2 f.s1 f.s2 f.s3 f.s2 f.s3 f.s4
  if d = 0 then none
  else
    let p := det f.p0 f.s1 f.s2 f.p1 f.s2 f.s3 f.p2 f.s3 f.s4 / d
    let v := det f.n f.p0 f.s2 f.s1 f.p1 f.s3 f.s2 f.p2 f.s4 / d
    let c := det f.n f.s1 f.p0 f.s1 f.s2 f.p1 f.s2 f.s3 f.p2 / d
    some (p, v, 2 * c)

/-- Refits over the window (R45): quadratic when it holds enough edges spanning at least 50 µs. -/
def Est.refit (w : Web) (e : Est) : Est :=
  match e.window with
  | [] => e
  | (_, tN) :: _ =>
    let f := fitSums tN e.window
    let oldest := (e.window.getLast?.map (·.2)).getD tN
    let quad := decide (w.estQuadMin ≤ e.window.length) && decide (50000 * 16777216 ≤ tN - oldest)
    match (if quad then fitQuad f else none) with
    | some (p, v, a) => { e with p := p, v := v, a := a, tN := tN, quad := true }
    | none => { e with p := (fitLine f).1, v := (fitLine f).2, a := 0, tN := tN, quad := false }

/-- The settings the estimator works with before a geometry is committed: the defaults of Table 02-5. The other fields have no
default and are not read. -/
def Web.estDefault : Web :=
  { dual := false, altPhase := false, lpi := 0, pitchNum := 0, pitchDen := 0, countLenPm := 0, accelMax := 0, leadTimeUs := 0,
    estEdges := 32, estQuadMin := 8, estMinSpacingNs := 4000, estSpanUs := 2000, segWidth := 0 }

/-- An edge joins the window when it is late enough after the newest (R45), and the window is refitted. -/
def Est.join (w : Web) (pos t : Int) (e : Est) : Est :=
  let late := match e.window with
    | [] => true
    | (_, tN) :: _ => decide ((w.estMinSpacingNs * 16777216 : Nat) ≤ t - tN)
  if !late then e
  else
    let win := (((pos, t) :: e.window).take w.estEdges).filter fun q => decide (t - q.2 ≤ (w.estSpanUs * 1000 * 16777216 : Nat))
    Est.refit w { e with window := win }

/-- The velocity reported at a time (R46, R48): 0 outside MOVING, and 0 where it would have turned. -/
def Est.vAt (e : Est) (t : Int) : Rat :=
  if e.st ≠ .moving then 0
  else
    let v := e.v + e.a * secOf (t - e.tN)
    if v * e.v < 0 then 0 else v

/-- The position reported at a time (R46), less than one count beyond the newest edge in the direction of travel; in
sub-counts. `reverse` is the direction, `count` the newest edge's position. -/
def Est.posAt (e : Est) (reverse : Bool) (count t : Int) : Int :=
  if e.window.isEmpty ∨ e.st ≠ .moving then count * 65536
  else
    let τ := secOf (t - e.tN)
    let p := nearest ((e.p + e.v * τ + e.a * τ * τ / 2) * 65536)
    if reverse then max p (count * 65536 - 65535) else min p (count * 65536 + 65535)

/-- A number base + coef × √rad, rad not negative: the form of a time of R47. -/
structure Surd where
  base : Rat
  coef : Rat := 0
  rad : Rat := 0
  deriving DecidableEq, Repr

/-- The square root of a number, rounded down, and rounded up. -/
def sqrtFloor (q : Rat) : Int := Nat.sqrt q.floor.toNat
def sqrtCeil (q : Rat) : Int :=
  let n := q.ceil.toNat
  if Nat.sqrt n * Nat.sqrt n = n then Nat.sqrt n else Nat.sqrt n + 1

/-- The greatest whole number not above a surd: with base = a / d, floor ((a ± √y) / d) is taken from whole numbers only. -/
def Surd.floor (x : Surd) : Int :=
  let d : Int := x.base.den
  let y := x.coef * x.coef * x.rad * (d * d)
  if x.coef < 0 then (x.base.num - sqrtCeil y) / d else (x.base.num + sqrtFloor y) / d

/-- The nearest whole number, halves upward (R44). -/
def Surd.round (x : Surd) : Int := { x with base := x.base + 1 / 2 : Surd }.floor

/-- Whether a surd is greater than a number. -/
def Surd.above (x : Surd) (q : Rat) : Bool :=
  let d := q - x.base
  let y := x.coef * x.coef * x.rad
  if x.coef < 0 then decide (d < 0 ∧ y < d * d) else decide (d < 0 ∨ d * d < y)

/-- a × x + b. -/
def Surd.scale (a b : Rat) (x : Surd) : Surd := { x with base := a * x.base + b, coef := a * x.coef }

/-- A surd lies further than `l` from a number. -/
def Surd.farFrom (x : Surd) (q l : Rat) : Bool := x.above (q + l) || (x.scale (-1) 0).above (l - q)

/-- The predicted arrival at a target in sub-counts, as local time in seconds (R47); none when the web stops short, and where speed
and acceleration are both 0. -/
def Est.arrival (e : Est) (target : Int) : Option Surd :=
  let δ : Rat := (target : Rat) / 65536 - e.p
  let disc := e.v * e.v + 2 * e.a * δ
  if e.st ≠ .moving then none
  else if e.a = 0 then (if e.v = 0 then none else some { base := secOf e.tN + δ / e.v })
  else if disc < 0 then none
  else some { base := secOf e.tN - e.v / e.a, coef := 1 / e.a, rad := disc }

/-- A time in seconds as 1/256 ns, to the nearest, halves upward (R44). -/
def to256 (t : Rat) : Int := nearest (t * (1000000000 * 256))

/-- The estimator moves forward with a valid speed. -/
def State.forward (s : State) : Bool := s.est.st == .moving && decide (0 < s.est.v)

/-- The predicted fire time of line `n` of a page with top `top` on port `p` (R44): arrival minus the drop's flight, exact, in
1/256 ns. -/
def State.fireMoment (s : State) (g : Geo) (w : Web) (top : Int) (n p : Nat) : Option Surd :=
  (s.est.arrival (g.target w top n p)).map fun t =>
    t.scale (1000000000 * 256) (-((g.port.get {} p).dropFlightNs * 256 : Nat))

/-- The predicted fire time as frames carry it: to the nearest 1/256 ns (R44). -/
def State.fireTime (s : State) (g : Geo) (w : Web) (top : Int) (n p : Nat) : Option Int :=
  (s.fireMoment g w top n p).map Surd.round

/-- The position of ENC_0 now, in sub-counts (R46). -/
def State.webPos (s : State) : Int := s.est.posAt (s.encN 0).reverse (s.encN 0).count s.now

/-- The velocity of the web now, in counts per second (R46). -/
def State.webVel (s : State) : Rat := s.est.vAt s.now

end Sys2Proof.Machine
end

