-- ==== Sys2Proof/Machine/Codec.lean ====
section
/-! DEFINITION. The Slate codec, bit by bit (spec/05): CRC-32, the stream and block headers and their validation, the decoder
with its errors, the encoder, and the state record. -/

namespace Sys2Proof.Machine

/-! ## CRC-32 (spec/04 R128) -/

/-- One bit of the reflected CRC. -/
def crcStep (c : BitVec 32) : BitVec 32 := if c.getLsbD 0 then (c >>> 1) ^^^ 0xEDB88320 else c >>> 1

/-- One byte into the CRC register. -/
def crcByte (c : BitVec 32) (b : Byte) : BitVec 32 :=
  crcStep (crcStep (crcStep (crcStep (crcStep (crcStep (crcStep (crcStep (c ^^^ b.setWidth 32))))))))

/-- CRC-32 of a run of bytes. -/
def crc32 (bs : List Byte) : BitVec 32 := ~~~(bs.foldl crcByte 0xFFFFFFFF)

/-! ## Bits (R155) -/

/-- The bits of bytes, least significant first. -/
def bitsOf : List Byte → List Bool
  | [] => []
  | b :: bs => (List.range 8).map (fun i => b.getLsbD i) ++ bitsOf bs

/-- The number that bits spell, the first least significant. -/
def natOfBits : List Bool → Nat
  | [] => 0
  | b :: bs => b.toNat + 2 * natOfBits bs

/-- The low `n` bits of a number, least significant first. -/
def bitsOfNat : Nat → Nat → List Bool
  | 0, _ => []
  | n + 1, v => (v % 2 == 1) :: bitsOfNat n (v / 2)

/-- Bits packed into bytes, the last padded with zeros. -/
def packBits : Nat → List Bool → List Byte
  | 0, _ => []
  | _, [] => []
  | f + 1, bs => BitVec.ofNat 8 (natOfBits (bs.take 8)) :: packBits f (bs.drop 8)

/-- Bits packed into bytes. -/
def pack (bs : List Bool) : List Byte := packBits (bs.length + 1) bs

/-! ## Bounds and contexts -/

/-- The bytes of a RAW line without its MODE. -/
def rawBytes (width depth : Nat) : Nat := ceilDiv (width * depth) 8

/-- The longest line of R165, in bytes. -/
def lineMax (width depth : Nat) : Nat := rawBytes width depth + 1

/-- The contexts at the start of a KEY block (R163). -/
def ctxReset (depth : Nat) : List Ctx := List.replicate 8 { acc := max 1 (2 ^ depth / 32), cnt := 1, k := 0 }

/-- QESC (R163). -/
def qEsc (depth : Nat) : Nat := if depth = 2 then 4 else 12

/-- The parameter of a context: the smallest `k` with CNT << k ≥ ACC, at most KMAX (R163). -/
def ctxK (depth acc cnt : Nat) : Nat := ((List.range depth).find? fun k => decide (acc ≤ cnt * 2 ^ k)).getD (depth - 1)

/-- update(c, M) of R163. -/
def ctxUpdate (depth m : Nat) (c : Ctx) : Ctx :=
  let acc := c.acc + m
  let cnt := c.cnt + 1
  if cnt = 64 then { acc := acc / 2, cnt := 32, k := ctxK depth (acc / 2) 32 } else { acc := acc, cnt := cnt, k := ctxK depth acc cnt }

/-- The predictor of R160. -/
def predict (l a b : Nat) : Nat := if max l a ≤ b then min l a else if b ≤ min l a then max l a else l + a - b

/-- The context of a sample (R161). -/
def ctxOf (depth a b c : Nat) : Nat :=
  let act := (max a b - min a b) + (max c a - min c a)
  let v := act / 2 ^ (depth - 6)
  if v = 0 then 0 else min 7 (1 + Nat.log2 v)

/-- The sample a mapped residue reconstructs (R162). -/
def unmap (depth p m : Nat) : Nat :=
  let e : Int := if m % 2 = 0 then (m / 2 : Nat) else -((m + 1) / 2 : Nat)
  (((p : Int) + e) % (2 ^ depth : Nat)).toNat

/-- The mapped residue of a sample (R162). -/
def mapRes (depth p x : Nat) : Nat :=
  let h : Int := (2 ^ (depth - 1) : Nat)
  let e := (((x : Int) - p + h) % (2 ^ depth : Nat)) - h
  if 0 ≤ e then (2 * e).toNat else (-2 * e - 1).toNat

/-- Sample `i` of a line, 0 where the line does not have it. -/
def smp (l : List Nat) (i : Nat) : Nat := l.getD i 0

/-- L, A, B, C of position `i` (R160), from the line above and the samples so far (newest first). -/
def neighbours (width : Nat) (above soFar : List Nat) (i : Nat) : Nat × Nat × Nat × Nat :=
  let a := smp above i
  let l := if i = 0 then a else soFar.headD 0
  let b := if i = 0 then a else smp above (i - 1)
  let c := if i + 1 = width then a else smp above (i + 1)
  (l, a, b, c)

/-! ## The decoder (R159–R166) -/

/-- The count of leading ones, at most `n`, and what follows (the ending zero consumed). None when the bits run out. -/
def readRun : Nat → List Bool → Option (Nat × List Bool)
  | 0, bs => some (0, bs)
  | _ + 1, [] => none
  | _ + 1, false :: bs => some (0, bs)
  | n + 1, true :: bs => (readRun n bs).map fun r => (r.1 + 1, r.2)

/-- The next `n` bits as a number. -/
def readBits (n : Nat) (bs : List Bool) : Option (Nat × List Bool) :=
  if bs.length < n then none else some (natOfBits (bs.take n), bs.drop n)

/-- The zero bits before the 1 of an exp-Golomb code. -/
def readZeros : List Bool → Option (Nat × List Bool)
  | [] => none
  | true :: bs => some (0, bs)
  | false :: bs => (readZeros bs).map fun r => (r.1 + 1, r.2)

/-- An order-0 exp-Golomb code (R164). -/
def readGolomb (bs : List Bool) : Option (Nat × List Bool) := do
  let (b, r) ← readZeros bs
  let (low, r) ← readBits b r
  some (2 ^ b + low - 1, r)

/-- What a line's decoding ends in: samples with contexts and the bits left; the error code of its first bad token with the bits
left behind that token; or a payload that ends inside the content of its MODE (R166). -/
inductive LineRes
  | good (xs : List Nat) (ctxs : List Ctx) (rest : List Bool)
  | bad (code : Nat) (rest : List Bool)
  | short
  deriving DecidableEq, Repr

/-- The tokens of a PRED line (R163, R164). `soFar` holds the samples produced, newest first. -/
def readTokens (width depth : Nat) (hist : List (List Nat)) : Nat → List Ctx → List Nat → Nat → List Bool → LineRes
  | 0, ctxs, soFar, _, bs => .good soFar.reverse ctxs bs
  | f + 1, ctxs, soFar, i, bs =>
    if width ≤ i then .good soFar.reverse ctxs bs
    else
      let above := hist.headD []
      let (l, a, b, c) := neighbours width above soFar i
      let cx := ctxOf depth a b c
      let ctx := ctxs.getD cx {}
      match readRun (qEsc depth) bs with
      | none => .short
      | some (q, bs) =>
        if q < qEsc depth then
          match readBits ctx.k bs with
          | none => .short
          | some (r, bs) =>
            let m := q * 2 ^ ctx.k + r
            if 2 ^ depth ≤ m then .bad 23 bs
            else readTokens width depth hist f (ctxs.set cx (ctxUpdate depth m ctx)) (unmap depth (predict l a b) m :: soFar)
              (i + 1) bs
        else
          match bs with
          | [] => .short
          | false :: bs =>
            match readBits depth bs with
            | none => .short
            | some (m, bs) =>
              readTokens width depth hist f (ctxs.set cx (ctxUpdate depth m ctx)) (unmap depth (predict l a b) m :: soFar)
                (i + 1) bs
          | true :: bs =>
            match readBits 2 bs with
            | none => .short
            | some (src, bs) =>
              match readGolomb bs with
              | none => .short
              | some (mag, bs) =>
                match (if mag = 0 then some (0, bs) else readBits 1 bs) with
                | none => .short
                | some (sg, bs) =>
                  match readGolomb bs with
                  | none => .short
                  | some (len1, bs) =>
                    let off : Int := if sg = 1 then -(mag : Int) else mag
                    let len := len1 + 1
                    let first : Int := i + off
                    if first < 0 ∨ (width : Int) < first + len then .bad 17 bs
                    else if width < i + len then .bad 18 bs
                    else
                      let xs := (((hist.getD src []) ++ List.replicate width 0).drop first.toNat).take len
                      readTokens width depth hist f ctxs (xs.reverse ++ soFar) (i + len) bs

/-- The samples of a RAW line. -/
def readRaw (depth : Nat) : Nat → List Bool → Option (List Nat × List Bool)
  | 0, bs => some ([], bs)
  | n + 1, bs => do
    let (v, bs) ← readBits depth bs
    let (vs, bs) ← readRaw depth n bs
    some (v :: vs, bs)

/-- One line from the payload bytes left in its block (R159): samples, contexts and bytes used, or the lowest error code of
R166: 16 for a MODE that the payload does not follow with its content, 22 where not even the MODE is there, and 19 before a higher
code wherever the line is already longer than R165 allows (log 75). -/
def decodeLine (width depth : Nat) (ctxs : List Ctx) (hist : List (List Nat)) (payload : List Byte) :
    Except Nat (List Nat × List Ctx × Nat) :=
  let bs := bitsOf payload
  let bytesTo := fun (rest : List Bool) => ceilDiv (bs.length - rest.length) 8
  let r : LineRes :=
    match readBits 2 bs with
    | none => .bad 22 bs
    | some (0, bs) => readTokens width depth hist width ctxs [] 0 bs
    | some (1, bs) => .good ((hist.headD [] ++ List.replicate width 0).take width) ctxs bs
    | some (2, bs) => match readRaw depth width bs with
      | some (xs, bs) => .good xs ctxs bs
      | none => .short
    | some (_, bs) => .good (List.replicate width 0) ctxs bs
  match r with
  | .bad c rest => .error (if lineMax width depth < bytesTo rest then min c 19 else c)
  | .short => .error 16
  | .good xs cs rest =>
    let bytes := bytesTo rest
    if lineMax width depth < bytes then .error 19
    else if (rest.take (bytes * 8 - (bs.length - rest.length))).any id then .error 20
    else .ok (xs, cs, bytes)

/-- The four history lines before the first line of a KEY block (R159). -/
def histZero (width : Nat) : List (List Nat) := List.replicate 4 (List.replicate width 0)

/-- A field of a stream. -/
def fieldAt (bytes : List Byte) (off n : Nat) : Nat := ofLe ((bytes.drop off).take n)

/-- The next multiple of 8. -/
def align8 (n : Nat) : Nat := (n + 7) / 8 * 8

/-- READ_OFFSET behind a block that ends at `e` (R167): the next line's first byte, past the header of the next block where that one
holds lines. -/
def readOffset (bytes : List Byte) (e : Nat) : Nat :=
  if fieldAt bytes (align8 e) 1 = 1 ∨ fieldAt bytes (align8 e) 1 = 2 then align8 e + 16 else e

/-- The decoder state before a stream's first line, which follows the stream header and the first block's header. -/
def decStart : CodecSt := { offset := 48, ctxs := [], hist := [] }

/-- Enters the block whose header stands before the state's offset, when the last one is used up (R158). -/
def enterBlock (width depth : Nat) (bytes : List Byte) (d : CodecSt) : CodecSt :=
  if d.blockLeft ≠ 0 then d
  else
    let o := d.offset - 16
    let ty := fieldAt bytes o 1
    let d := { d with blockEnd := o + 16 + fieldAt bytes (o + 8) 4, blockLeft := fieldAt bytes (o + 2) 2,
                      nextLine := fieldAt bytes (o + 4) 4 }
    if ty = 1 then { d with ctxs := ctxReset depth, hist := histZero width, histValid := true, needKey := false } else d

/-- Decodes the next line of a print stream (R168). -/
def decodeNext (width depth : Nat) (bytes : List Byte) (d0 : CodecSt) : Except Nat (List Nat × CodecSt) :=
  let d := enterBlock width depth bytes d0
  match decodeLine width depth d.ctxs d.hist ((bytes.drop d.offset).take (d.blockEnd - d.offset)) with
  | .error c => .error c
  | .ok (xs, cs, n) =>
    let last := d.blockLeft == 1
    if last && d.offset + n != d.blockEnd then .error 22
    else .ok (xs, { d with
      nextLine := d.nextLine + 1, nextBlock := if last then d.nextBlock + 1 else d.nextBlock,
      offset := if last then readOffset bytes d.blockEnd else d.offset + n,
      blockLeft := d.blockLeft - 1, ctxs := cs, hist := (xs :: d.hist).take 4 })

/-- The offset of the next KEY block at or after the block at `o` (R170), by block headers. -/
def nextKey (bytes : List Byte) : Nat → Nat → Option Nat
  | 0, _ => none
  | f + 1, o =>
    let o := align8 o
    if bytes.length < o + 16 then none
    else
      let ty := fieldAt bytes o 1
      if ty = 1 then some o
      else if ty = 2 then nextKey bytes f (o + 16 + fieldAt bytes (o + 8) 4)
      else none

/-! ## Ingress validation (R156–R158, R172) -/

/-- How far validation of the received bytes has come. -/
inductive Valid
  | more (blocks keyBlocks : Nat)
  | resident (blocks keyBlocks : Nat)
  | bad (code off blocks keyBlocks : Nat)
  deriving DecidableEq, Repr

/-- The failing header checks as (code, offset), in code order (R154, Table 05-6). -/
def headerFaults (h : List Byte) (seg lines : Nat) : List (Nat × Nat) :=
  let f := fieldAt h
  (if h.take 4 = [0x53, 0x4C, 0x41, 0x54] then [] else [(1, 0)]) ++
  (if f 4 1 = 1 then [] else [(2, 4)]) ++
  (if f 28 4 = (crc32 (h.take 28)).toNat then [] else [(3, 28)]) ++
  (if f 5 1 ≠ 2 then [(4, 5)] else if f 6 1 ≠ 0 then [(4, 6)] else []) ++
  (if 1024 ≤ f 8 2 ∧ f 8 2 ≤ 8192 then [] else [(5, 8)]) ++
  (if f 7 1 = seg then [] else [(12, 7)]) ++
  (if f 12 4 = lines then [] else [(13, 12)]) ++
  (if f 10 2 ≠ 0 then [(15, 10)] else if f 24 4 ≠ 0 then [(15, 24)] else [])

/-- The header of the stream has arrived and passes every check (R172). -/
def headerGood (bytes : List Byte) (seg lines : Nat) : Bool :=
  decide (32 ≤ bytes.length) && (headerFaults (bytes.take 32) seg lines).isEmpty

/-- The lowest failing check of a block's header at `o`, of those below BLOCK_CRC (R158, Table 05-6). `first` says it is the
stream's first block, `next` the line its FIRST_LINE must name. -/
def blockHeadFault (bytes : List Byte) (o next : Nat) (first : Bool) : Option Nat :=
  let f := fun i n => fieldAt bytes (o + i) n
  let ty := f 0 1
  if first && ty != 1 then some 6
  else if (ty == 1 || ty == 2) && f 1 1 / 8 != 0 then some 7
  else if ty == 0x0F && (f 1 1 != 0 || f 2 2 != 0 || f 8 4 != 0) then some 7
  else if !(ty == 1 || ty == 2 || ty == 0x0F) then some 7
  else if f 4 4 != next then some 8
  else none

/-- A KEY or DELTA block's LINES and PAYLOAD_BYTES break the bounds of R165 (BLOCK_OVERSIZE). -/
def blockOversize (bytes : List Byte) (o width : Nat) : Bool :=
  let n := fieldAt bytes (o + 2) 2
  let p := fieldAt bytes (o + 8) 4
  fieldAt bytes o 1 != 0x0F && !(decide (1 ≤ n) && decide (n ≤ 4096) && decide (1 ≤ p) && decide (p ≤ n * lineMax width 2))

/-- The bytes of a block's payload: none for END. -/
def blockPayload (bytes : List Byte) (o : Nat) : Nat := if fieldAt bytes o 1 = 0x0F then 0 else fieldAt bytes (o + 8) 4

/-- The lowest failing check of a block that has arrived whole (R157, R165, Table 05-6). -/
def blockFault (bytes : List Byte) (o declared width lines : Nat) : Option Nat :=
  let p := blockPayload bytes o
  if fieldAt bytes (o + 12) 4 ≠ (crc32 ((bytes.drop o).take 12 ++ (bytes.drop (o + 16)).take p)).toNat then some 9
  else if blockOversize bytes o width then some 10
  else if fieldAt bytes o 1 = 0x0F ∧ (fieldAt bytes (o + 4) 4 ≠ lines ∨ o + 16 ≠ declared) then some 11
  else none

/-- Validates the blocks from `o` on: an error's offset is that of the block at fault, of the first non-zero byte for padding. -/
def validateBlocks (bytes : List Byte) (declared width lines : Nat) : Nat → Nat → Nat → Nat → Nat → Valid
  | 0, _, _, nb, nk => .more nb nk
  | fuel + 1, o, next, nb, nk =>
    let a := align8 o
    let gap := (bytes.drop o).take (a - o)
    let whole := decide (declared ≤ bytes.length)
    if gap.any (· != 0) then .bad 14 (o + gap.findIdx (· != 0)) nb nk
    else if bytes.length < a + 16 then (if whole then .bad 11 (min a declared) nb nk else .more nb nk)
    else
      match blockHeadFault bytes a next (nb == 0) with
      | some c => .bad c a nb nk
      | none =>
        let e := a + 16 + blockPayload bytes a
        if bytes.length < e then
          (if whole then .bad (if blockOversize bytes a width then 10 else 11) a nb nk else .more nb nk)
        else
          match blockFault bytes a declared width lines with
          | some c => .bad c a nb nk
          | none =>
            if fieldAt bytes a 1 = 0x0F then .resident nb nk
            else validateBlocks bytes declared width lines fuel e (next + fieldAt bytes (a + 2) 2) (nb + 1)
              (if fieldAt bytes a 1 = 1 then nk + 1 else nk)

/-- Validates the bytes received so far of a print stream bound to segment `seg` of an entry of `lines` lines (R172). -/
def validate (bytes : List Byte) (declared seg lines : Nat) : Valid :=
  if bytes.length < 32 then .more 0 0
  else
    match headerFaults (bytes.take 32) seg lines with
    | (c, off) :: _ => .bad c off 0 0
    | [] => validateBlocks bytes declared (fieldAt bytes 8 2) lines (bytes.length + 1) 32 0 0 0

/-! ## The encoder (R159, R162–R165, R176) -/

/-- An order-0 exp-Golomb code (R164). -/
def golombBits (v : Nat) : List Bool :=
  let b := Nat.log2 (v + 1)
  List.replicate b false ++ [true] ++ bitsOfNat b (v + 1)

/-- The search bounds of a level (Table 05-7): the sources, the offset range, the least match. -/
def levelBounds (level : Nat) : Nat × Nat × Nat :=
  match level with
  | 0 => (0, 0, 0)
  | 1 => (1, 0, 16)
  | 2 => (1, 4, 16)
  | 3 => (2, 16, 12)
  | 4 => (4, 64, 12)
  | 5 => (4, 256, 8)
  | 6 => (4, 1024, 8)
  | _ => (4, 4096, 8)

/-- How many samples agree from the starts of two runs. -/
def agree : List Nat → List Nat → Nat
  | x :: xs, y :: ys => if x = y then agree xs ys + 1 else 0
  | _, _ => 0

/-- The offsets in order of preference: by magnitude, the positive first (R176). -/
def offsetsUpTo (n : Nat) : List Int :=
  (List.range (n + 1)).flatMap fun m => if m = 0 then [0] else [(m : Int), -(m : Int)]

/-- The longest match at position `i`: length, source and offset; the first of equal length in order of preference. -/
def bestMatch (width level : Nat) (hist : List (List Nat)) (cur : List Nat) (i : Nat) : Nat × Nat × Int :=
  let (srcs, range, _) := levelBounds level
  (List.range srcs).foldl (fun best src =>
    (offsetsUpTo range).foldl (fun best off =>
      let p : Int := i + off
      if p < 0 ∨ (width : Int) ≤ p then best
      else
        let n := agree (cur.drop i) (((hist.getD src []) ++ List.replicate width 0).take width |>.drop p.toNat)
        if best.1 < n then (n, src, off) else best) best) (0, 0, 0)

/-- The tokens of a PRED line. -/
def predTokens (width depth level : Nat) (hist : List (List Nat)) (cur : List Nat) :
    Nat → List Ctx → Nat → List Bool × List Ctx
  | 0, ctxs, _ => ([], ctxs)
  | f + 1, ctxs, i =>
    if width ≤ i then ([], ctxs)
    else
      let (len, src, off) := bestMatch width level hist cur i
      if level ≠ 0 ∧ (levelBounds level).2.2 ≤ len then
        let head := List.replicate (qEsc depth) true ++ [true] ++ bitsOfNat 2 src ++ golombBits off.natAbs ++
          (if off = 0 then [] else [decide (off < 0)]) ++ golombBits (len - 1)
        let r := predTokens width depth level hist cur f ctxs (i + len)
        (head ++ r.1, r.2)
      else
        let (l, a, b, c) := neighbours width (hist.headD []) (if i = 0 then [] else [smp cur (i - 1)]) i
        let cx := ctxOf depth a b c
        let ctx := ctxs.getD cx {}
        let m := mapRes depth (predict l a b) (smp cur i)
        let q := m / 2 ^ ctx.k
        let tok := if q < qEsc depth then List.replicate q true ++ [false] ++ bitsOfNat ctx.k m
          else List.replicate (qEsc depth) true ++ [false] ++ bitsOfNat depth m
        let r := predTokens width depth level hist cur f (ctxs.set cx (ctxUpdate depth m ctx)) (i + 1)
        (tok ++ r.1, r.2)

/-- One coded line and the contexts after it (R176). -/
def encodeLine (width depth level : Nat) (ctxs : List Ctx) (hist : List (List Nat)) (cur : List Nat) : List Byte × List Ctx :=
  if cur.all (· == 0) then (pack (bitsOfNat 2 3), ctxs)
  else if cur = (hist.headD [] ++ List.replicate width 0).take width then (pack (bitsOfNat 2 1), ctxs)
  else
    let (toks, cs) := predTokens width depth level hist cur width ctxs 0
    let pred := pack (bitsOfNat 2 0 ++ toks)
    let raw := pack (bitsOfNat 2 2 ++ cur.flatMap (bitsOfNat depth))
    if raw.length < pred.length then (raw, ctxs) else (pred, cs)

/-- The payload of a block of lines. -/
def encodeLines (width depth level : Nat) : List (List Nat) → List Ctx → List (List Nat) →
    List Byte × List Ctx × List (List Nat)
  | [], ctxs, hist => ([], ctxs, hist)
  | l :: ls, ctxs, hist =>
    let (bs, cs) := encodeLine width depth level ctxs hist l
    let r := encodeLines width depth level ls cs ((l :: hist).take 4)
    (bs ++ r.1, r.2.1, r.2.2)

/-- A block header with its CRC over header and payload (Table 05-2). -/
def blockBytes (ty flags lines first : Nat) (payload : List Byte) : List Byte :=
  let h := le 1 ty ++ le 1 flags ++ le 2 lines ++ le 4 first ++ le 4 payload.length
  h ++ le 4 (crc32 (h ++ payload)).toNat ++ payload

/-- Zeros up to the next multiple of 8 of a stream offset (R157). -/
def padTo8 (n : Nat) : List Byte := zeros (align8 n - n)

/-- A stream header (Table 05-1). -/
def streamHeader (depth kind index width lines firstCol : Nat) (tag : BitVec 32) : List Byte :=
  let h := [0x53, 0x4C, 0x41, 0x54] ++ le 1 1 ++ le 1 depth ++ le 1 kind ++ le 1 index ++ le 2 width ++ zeros 2 ++ le 4 lines ++
    le 4 firstCol ++ le 4 tag.toNat ++ zeros 4
  h ++ le 4 (crc32 h).toNat

/-- Codes runs of consecutive lines of one job into blocks (R176, R177), from the stream offset the state holds. `gap` marks the
first KEY block when it does not continue the coded lines. -/
def encodeBlocks (width depth level blockLines keyInterval : Nat) : Nat → List (Nat × List Nat) → CodecSt → List Byte × CodecSt
  | 0, _, st => ([], st)
  | _, [], st => ([], st)
  | f + 1, (n, l) :: ls, st =>
    let run := (((n, l) :: ls).zipIdx.takeWhile fun p => decide (p.2 < blockLines) && p.1.1 == n + p.2).map (·.1)
    let rest := ((n, l) :: ls).drop run.length
    let gap := n != st.nextLine
    let key := st.needKey || gap || decide (keyInterval ≤ st.sinceKey) || !st.histValid
    let (c0, h0) := if key then (ctxReset depth, histZero width) else (st.ctxs, st.hist)
    let (payload, c1, h1) := encodeLines width depth level (run.map (·.2)) c0 h0
    let blk := padTo8 st.offset ++ blockBytes (if key then 1 else 2) (level + (if gap then 8 else 0)) run.length n payload
    let st := { st with
      nextLine := n + run.length, nextBlock := st.nextBlock + 1, offset := st.offset + blk.length, histValid := true,
      needKey := false, sinceKey := if key then 1 else st.sinceKey + 1, ctxs := c1, hist := h1 }
    let r := encodeBlocks width depth level blockLines keyInterval f rest st
    (blk ++ r.1, r.2)

/-! ## State records (R167) -/

/-- A context entry of a state record. -/
def ctxBytes (c : Ctx) : List Byte := le 4 c.acc ++ le 1 c.cnt ++ le 1 c.k ++ zeros 2

/-- A state record (Table 05-4); `kind` 0 decoder, 1 encoder. -/
def stateRecord (kind depth width level : Nat) (tag : BitVec 32) (d : CodecSt) : List Byte :=
  let h := align8 (rawBytes width depth)
  let line := fun i => ((pack ((((d.hist.getD i []) ++ List.replicate width 0).take width).flatMap (bitsOfNat depth))) ++
    zeros h).take h
  let r := [0x53, 0x4C, 0x53, 0x54] ++ le 1 kind ++ le 1 depth ++ le 2 width ++ le 4 d.nextLine ++ le 4 d.nextBlock ++
    le 4 d.offset ++ le 1 (bit d.histValid 0 + bit d.needKey 1) ++ le 1 level ++ le 2 (if kind = 1 then d.sinceKey else 0) ++
    le 4 tag.toNat ++ zeros 4 ++ (List.range 8).flatMap (fun i => ctxBytes (d.ctxs.getD i {})) ++
    (List.range 4).flatMap line
  let r := r ++ le 4 (crc32 r).toNat
  r ++ padTo8 r.length

/-- The samples of a packed history line. -/
def unpackLine (width depth : Nat) (bs : List Byte) : List Nat := ((readRaw depth width (bitsOf bs)).map (·.1)).getD []

/-- Reads back a state record: its content when its CRC is good (R179). -/
def readRecord (r : List Byte) (depth width : Nat) : Option (Nat × BitVec 32 × CodecSt) :=
  let h := align8 (rawBytes width depth)
  let f := fieldAt r
  if r.take 4 = [0x53, 0x4C, 0x53, 0x54] ∧ f 5 1 = depth ∧ f 6 2 = width ∧ f (96 + 4 * h) 4 = (crc32 (r.take (96 + 4 * h))).toNat then
    some (f 4 1, BitVec.ofNat 32 (f 24 4),
      { nextLine := f 8 4, nextBlock := f 12 4, offset := f 16 4, histValid := hasBit (f 20 1) 0, needKey := hasBit (f 20 1) 1,
        sinceKey := f 22 2,
        ctxs := (List.range 8).map fun i => { acc := f (32 + 8 * i) 4, cnt := f (36 + 8 * i) 1, k := f (37 + 8 * i) 1 },
        hist := (List.range 4).map fun i => unpackLine width depth ((r.drop (96 + h * i)).take h) })
  else none

end Sys2Proof.Machine
end

