-- ==== Sys2Proof/Machine/Gable.lean ====
section
/-! DEFINITION. The calibration content and the Gable store's data (spec/03 R76–R84, spec/07 R222–R229): nozzle entries and
pre-heat codes, journal records with their bytes, the journal ring, the roots and base images, and the restore of R227. -/

namespace Sys2Proof.Machine

/-! ## Nozzles and codes (spec/03 R78–R84, Table 03-1) -/

/-- The mirrored part of a nozzle entry. -/
def CalData.nozN (d : CalData) (p i : Nat) : NozCal := SMap.get {} (SMap.get [] d.noz p) i
/-- Changes a nozzle entry. -/
def CalData.updNoz (p i : Nat) (f : NozCal → NozCal) (d : CalData) : CalData :=
  { d with noz := SMap.upd [] d.noz p fun m => SMap.upd {} m i f }
/-- The volatile part of a nozzle entry. -/
def Cal.volN (c : Cal) (p i : Nat) : NozVol := SMap.get {} (SMap.get [] c.vol p) i

def State.nozN (s : State) (p i : Nat) : NozCal := s.cal.data.nozN p i
def State.volN (s : State) (p i : Nat) : NozVol := s.cal.volN p i
def State.updVol (p i : Nat) (f : NozVol → NozVol) (s : State) : State :=
  s.updCal fun c => { c with vol := SMap.upd [] c.vol p fun m => SMap.upd {} m i f }
def State.updData (f : CalData → CalData) (s : State) : State := s.updCal fun c => { c with data := f c.data }

/-- Changes the committed content (spec/01 R24). -/
def State.updStore (f : CalData → CalData) (s : State) : State := s.updCal fun c => { c with store := f c.store }

/-- The nominal table (R79). -/
def nominalW (c : Nat) : Nat := (8192 * 510 + 32768 * c + 255) / 510

/-- W(c) of a port's table (R78, R79). -/
def Char.w (t : Char) (c : Nat) : Nat :=
  match t.table with
  | some l => l.getD c 0
  | none => nominalW c

/-- The code of a level target for a gain, and whether it was clamped (R80). -/
def Char.code (t : Char) (target gain : Nat) : Nat × Bool :=
  let x := if gain = 0 then 0 else (2 * target * 16384 + gain) / (2 * gain)
  if t.w 255 < x then (255, true)
  else if x < t.w 0 then (0, true)
  else (((List.range 256).find? fun c => decide (x ≤ t.w c)).getD 255, false)

/-- The three codes of a nozzle and SAT (R80). -/
def CalData.codes (d : CalData) (p i : Nat) : Nat × Nat × Nat × Bool :=
  let t := d.char.get {} p
  let g := (d.nozN p i).gain
  let a := t.code d.levelS g
  let b := t.code d.levelM g
  let c := t.code d.levelL g
  (a.1, b.1, c.1, a.2 || b.2 || c.2)

/-- The nozzle count of a port in the committed geometry. -/
def State.nozCount (s : State) (p : Nat) : Nat :=
  match s.geo.committed with
  | some g => if (g.port.get {} p).enable then (g.port.get {} p).nozzles else 0
  | none => 0

/-- A port is enabled in the committed geometry. -/
def State.portEnabled (s : State) (p : Nat) : Bool :=
  match s.geo.committed with
  | some g => (g.port.get {} p).enable
  | none => false

/-- The enabled ports of the committed geometry. -/
def State.enabledPorts (s : State) : List Nat := (List.range 48).filter s.portEnabled

/-- One nozzle-table entry as its 16 bytes (Table 03-1). -/
def State.nozEntry (s : State) (p i : Nat) : List Byte :=
  let n := s.nozN p i
  let v := s.volN p i
  let (cs, cm, cl, sat) := s.cal.data.codes p i
  let partner : Option (Nat × Nat) := match s.geo.committed with
    | some g => match g.web with
      | some w => let c := g.port.get {} p
        g.partner w.dual c.rowB (c.col i)
      | none => none
    | none => none
  let (pp, pn, pv) := match partner with | some (a, b) => (a, b, 1) | none => (0, 0, 0)
  le 16 (v.resMeas + n.resBase * 2 ^ 20 + cs * 2 ^ 40 + cm * 2 ^ 48 + cl * 2 ^ 56 + n.state * 2 ^ 64 + bit sat 66 +
    n.cause * 2 ^ 67 + pp * 2 ^ 72 + pn * 2 ^ 78 + pv * 2 ^ 91 + n.gain * 2 ^ 92 + v.okRun * 2 ^ 108)

/-! ## Journal records (R223, Tables 07-4, 07-5) -/

/-- The nozzle mirror entry (Table 07-3). -/
def NozCal.mirror (n : NozCal) : List Byte :=
  le 8 (n.resBase + n.state * 2 ^ 20 + n.cause * 2 ^ 22 + n.gain * 2 ^ 24 + n.gainFac * 2 ^ 40)

/-- A run of gains (Table 07-5), padded to 4. -/
def GainRun.bytes (r : GainRun) : List Byte :=
  le 1 r.port ++ [0] ++ le 2 r.first ++ le 2 r.gains.length ++ zeros 2 ++ le 4 r.applyKey.toNat ++ r.gains.flatMap (le 2) ++
    zeros (if r.gains.length % 2 = 1 then 2 else 0)

/-- REF and FF of a camera as its 64 KiB base-area block (Table 07-3). -/
def Flat.block (f : Flat) : List Byte :=
  (f.ref ++ [0, 0, 0]).take 3 |>.flatMap (le 4) |>.append ((List.range 32762).flatMap fun i => le 2 (f.ff.get 0x1000 i))

/-- The characteristic block of a port (Table 07-3, CHAR record). -/
def Char.source (c : Char) : Nat := if c.table.isSome then 1 else 0
def Char.table512 (c : Char) : List Byte := (List.range 256).flatMap fun i => le 2 (c.w i)
def Char.serialBytes (c : Char) : List Byte := le 8 (c.serial.getD 0).toNat

/-- The loop settings as CAL_SET_LOOP lays them out (Table 07-9). -/
def LoopCfg.bytes (l : LoopCfg) : List Byte :=
  le 1 l.enable.toNat ++ le 1 l.updateBlocks ++ le 2 l.beta ++ le 4 l.windowLines ++ le 2 l.stepLimit ++ le 2 l.devLimit ++
    le 2 l.varMin ++ le 2 l.nMin ++ le 2 l.medianMin ++ zeros 2

/-- The recalibration settings of the four cameras, 12 bytes each (log 25). -/
def LoopCfg.recalBytes (l : LoopCfg) : List Byte :=
  (List.range 4).flatMap fun p =>
    let r := l.recal.get {} p
    le 2 r.guard ++ le 2 r.subMin ++ le 2 r.timeoutS ++ zeros 2 ++ le 4 r.periodS

/-- The record type (Table 07-5); a port's thermal thresholds, for which the table has no type of their own, go into a
SETTINGS record (log 25). -/
def JBody.type : JBody → Nat
  | .gainUpdate _ => 1 | .nozzle _ => 2 | .levels _ _ _ => 3 | .drive _ _ => 4 | .char _ _ => 5 | .flat _ _ => 6
  | .factory _ => 7 | .newHead _ _ => 8 | .settings _ => 9 | .thermal _ _ => 9 | .wrap => 0xFF

/-- The thresholds of a port (Table 03-11's order). -/
def Thermal.bytes (t : Thermal) : List Byte := leI 2 t.tTarget ++ leI 2 t.tWarn ++ leI 2 t.tStop ++ leI 2 t.tCut ++ leI 2 t.hyst

/-- The payload of a record (Table 07-5). -/
def JBody.payload : JBody → List Byte
  | .gainUpdate rs => rs.flatMap GainRun.bytes
  | .factory rs => rs.flatMap GainRun.bytes
  | .nozzle es => es.flatMap fun e => le 1 e.1 ++ [0] ++ le 2 e.2.1 ++ e.2.2.mirror
  | .levels a b c => le 2 a ++ le 2 b ++ le 2 c ++ zeros 2
  | .drive p d => le 1 p ++ [0] ++ le 2 d.mainPulseNs.toNat ++ le 2 d.preheatGapNs.toNat ++ le 2 d.nominalDw.toNat
  | .char p c => le 1 p ++ le 1 c.source ++ zeros 2 ++ c.serialBytes ++ c.table512
  | .flat c f => le 1 c ++ zeros 3 ++ f.block
  | .newHead p n => le 1 p ++ zeros 3 ++ le 8 n.toNat
  | .settings l => l.bytes ++ l.recalBytes ++ zeros (4096 - 68)
  | .thermal p t => zeros 2048 ++ le 1 p ++ [0] ++ t.bytes ++ zeros (2048 - 12)
  | .wrap => []

/-- The payload's length, without building it. -/
def JBody.payloadLen : JBody → Nat
  | .gainUpdate rs => (rs.map fun r => 12 + (r.gains.length + 1) / 2 * 4).sum
  | .factory rs => (rs.map fun r => 12 + (r.gains.length + 1) / 2 * 4).sum
  | .nozzle es => 12 * es.length
  | .levels _ _ _ => 8 | .drive _ _ => 8 | .char _ _ => 524 | .flat _ _ => 65540 | .newHead _ _ => 12
  | .settings _ => 4096 | .thermal _ _ => 4096 | .wrap => 0

/-- Bytes of a record in the ring, up to the next multiple of 8 (R223). -/
def JBody.size (b : JBody) : Nat := align8 (b.payloadLen + 48)

/-- The bytes of a record (Table 07-4). -/
def JRec.bytes (r : JRec) : List Byte :=
  let h := [0x47, 0x4A, 0x52, 0x4E] ++ le 2 r.body.type ++ zeros 2 ++ le 4 r.seq.toNat ++ le 4 r.body.payloadLen ++ le 8 r.time.toNat ++
    zeros 4
  let p := r.body.payload
  h ++ le 4 (crc32 h).toNat ++ p ++ le 4 (crc32 p).toNat ++ zeros 4 ++
    (if r.committed then [0x43, 0x4D, 0x49, 0x54] ++ le 4 r.seq.toNat else zeros 8)

/-- What a record changes in the calibration content. -/
def JBody.apply : JBody → CalData → CalData
  | .gainUpdate rs, d => rs.foldl (fun d r => r.gains.zipIdx.foldl (fun d g =>
      d.updNoz r.port (r.first + g.2) fun n => { n with gain := g.1 }) d) d
  | .factory rs, d => rs.foldl (fun d r => r.gains.zipIdx.foldl (fun d g =>
      d.updNoz r.port (r.first + g.2) fun n => { n with gain := g.1, gainFac := g.1 }) d) d
  | .nozzle es, d => es.foldl (fun d e => d.updNoz e.1 e.2.1 fun _ => e.2.2) d
  | .levels a b c, d => { d with levelS := a, levelM := b, levelL := c }
  | .drive p v, d => { d with drive := d.drive.set {} p v }
  | .char p c, d => { d with char := d.char.set {} p c }
  | .flat c f, d => { d with flat := d.flat.set {} c f }
  | .newHead p n, d => { d with noz := d.noz.set [] p [], char := d.char.set {} p { serial := some n } }
  | .settings l, d => { d with loop := l }
  | .thermal p t, d => { d with thermal := d.thermal.set {} p t }
  | .wrap, d => d

/-! ## The journal ring and the roots (R223–R227) -/

/-- Bytes of the journal ring. -/
def journalBytes : Nat := 983040

/-- A root pointer. -/
def Nvm.rootN (n : Nvm) (i : Nat) : Root := n.root.get {} i
/-- A base area. -/
def Nvm.baseN (n : Nvm) (i : Nat) : BaseArea := n.base.get {} i

/-- The number of the current root: the valid one with the higher ROOT_SEQ (R225). -/
def Nvm.current (n : Nvm) : Option Nat :=
  match (n.rootN 0).valid, (n.rootN 1).valid with
  | false, false => none
  | true, false => some 0
  | false, true => some 1
  | true, true => some (if (n.rootN 0).rootSeq.toNat < (n.rootN 1).rootSeq.toNat then 1 else 0)

/-- The fields of the root in force (R227); in the nominal state an empty store: base area B named, nothing folded (log 24). -/
def Nvm.curRoot (n : Nvm) : Root :=
  match n.inForce with
  | some i => n.rootN i
  | none => { base := 1 }

/-- The sequence of the last committed record. -/
def Nvm.lastSeq (n : Nvm) : BitVec 32 := n.nextSeq - 1

/-- Live journal bytes, from JOURNAL_HEAD to the next free byte (R226). -/
def Nvm.live (n : Nvm) : Nat := (n.nextOff + journalBytes - n.curRoot.journalHead % journalBytes) % journalBytes

/-- Bytes free for new records. -/
def Nvm.freeBytes (n : Nvm) : Nat := journalBytes - 8 - n.live

/-- A record follows another in sequence order (modulo 2^32). -/
def seqLe (a b : BitVec 32) : Bool := decide ((b - a).toNat < 2 ^ 31)

/-- Where the record after `r` lies: a WRAP record sends the ring back to its start (R223). -/
def JRec.after (r : JRec) : Nat :=
  match r.body with
  | .wrap => 0
  | _ => r.off + r.body.size

/-- The committed records that follow one another from sequence `q` at offset `o` on (R227). -/
def recsFrom (js : List JRec) : Nat → BitVec 32 → Nat → List JRec
  | 0, _, _ => []
  | fuel + 1, q, o =>
    match js.find? fun r => r.seq == q && r.off == o && r.committed with
    | none => []
    | some r => r :: recsFrom js fuel (q + 1) r.after

/-- The records of the ring that a root's journal holds, in order, at most `k`. -/
def Nvm.recsOf (n : Nvm) (k : Nat) (r : Root) : List JRec := recsFrom n.journal k (r.seqFolded + 1) r.journalHead

/-- The live records in order: those the store has written or replayed behind the root in force. -/
def Nvm.liveRecs (n : Nvm) : List JRec :=
  n.recsOf (min n.journal.length (n.nextSeq - 1 - n.curRoot.seqFolded).toNat) n.curRoot

/-- The content of the base in force, nominal without one (R217). -/
def Nvm.baseImage (n : Nvm) : CalData :=
  match n.inForce with
  | some i => (n.baseN (n.rootN i).base).image
  | none => {}

/-- The content with every committed record up to `s` applied (R226). -/
def Nvm.imageUpTo (n : Nvm) (s : BitVec 32) : CalData :=
  ((n.liveRecs.filter fun r => seqLe r.seq s).foldl (fun d r => r.body.apply d) n.baseImage)

/-- The chip's own records that are not committed yet, in their order. -/
def Nvm.uncommitted (n : Nvm) : List JBody := (if n.writingRx then [] else n.writing.toList.map (·.body)) ++ n.waiting

/-- The content as it will be once every record waiting has committed. -/
def State.dataAhead (s : State) : CalData := s.nvm.uncommitted.foldl (fun d b => b.apply d) s.cal.data

/-- A NEW_HEAD record of port `p` is not committed yet. -/
def Nvm.newHeadWaits (n : Nvm) (p : Nat) : Bool :=
  n.uncommitted.any fun b => match b with | .newHead q _ => q == p | _ => false

/-- Puts a record on the queue of those to be written (R224: in command order, one at a time). -/
def State.journal (b : JBody) (s : State) : State := s.updNvm fun n => { n with waiting := n.waiting ++ [b] }

/-- Starts a compaction (R226 step 1): S is the last committed sequence. -/
def State.startCompaction (s : State) : State :=
  if s.nvm.compacting.isSome then s else s.updNvm fun n => { n with compacting := some n.lastSeq }

/-- Compaction starts while the live journal takes more than half the ring (R226). -/
def State.maybeCompact (s : State) : State := if journalBytes < 2 * s.nvm.live then s.startCompaction else s

/-- The highest wear count as a share of 10^12, in 0.01 % (R229). -/
def Nvm.wearIndicator (n : Nvm) : Nat := (n.wear.foldl (fun m e => max m e.2) 0) * 10000 / 1000000000000

/-- Counts a rewrite of base area `a` (keys 0, 1) or of 64 KiB piece `k` of the journal (keys 16 + k), and raises NVM_WEAR above
80 % (R229, R377). -/
def State.addWear (key : Nat) (s : State) : State :=
  let s := s.updNvm fun n => { n with wear := n.wear.upd 0 key (· + 1) }
  if 8000 < s.nvm.wearIndicator then s.setCause 3 0 else s

/-- Steps 2 and 3 of a compaction with content `image` folded up to `sq` (R226): the base area that the root in force does not name,
then the other root pointer. In the nominal state they are those that the current root leaves free, if there is one. -/
def State.writeBase (image : CalData) (sq : BitVec 32) (head : Nat) (s : State) : State :=
  let n := s.nvm
  let (slot, area, rootSeq) := match n.inForce, n.current with
    | some i, _ => (1 - i, 1 - (n.rootN i).base, (n.rootN i).rootSeq + 1)
    | none, some i => (1 - i, 1 - (n.rootN i).base, (n.rootN i).rootSeq + 1)
    | none, none => (0, 0, 1)
  (s.updNvm fun n => { n with
    base := n.base.set {} area { image := image, seqFolded := sq, crcOk := true, geo := s.geo.committed.getD {} },
    root := n.root.set {} slot ⟨true, rootSeq, area, sq, head⟩, inForce := some slot }).addWear area

/-! ## Bytes of the store (R32, R222, R225; NVM_READ) -/

/-- A root pointer's 24 bytes; an invalid one reads erased, as zeros. -/
def Root.bytes (r : Root) : List Byte :=
  if !r.valid then []
  else
    let b := [0x47, 0x52, 0x4F, 0x54] ++ le 4 r.rootSeq.toNat ++ le 1 r.base ++ zeros 3 ++ le 4 r.seqFolded.toNat ++ le 4 r.journalHead
    b ++ le 4 (crc32 b).toNat

/-- Byte `i` of a list, 0 beyond it. -/
def byteAt (l : List Byte) (i : Nat) : Byte := l.getD i 0

/-- Byte `o` ≥ 0x1000 of a base image (Table 07-3) for a geometry. -/
def CalData.imageByte (d : CalData) (g : Geo) (o : Nat) : Byte :=
  if o < 0x1000 then 0
  else if o < 0x181000 then
    let k := (o - 0x1000) / 8
    match g.ports.find? fun p => decide (g.nozBase p.1 ≤ k ∧ k < g.nozBase p.1 + p.2.nozzles) with
    | some p => byteAt (d.nozN p.1 (k - g.nozBase p.1)).mirror ((o - 0x1000) % 8)
    | none => 0
  else if o < 0x18D000 then
    let p := (o - 0x181000) / 1024
    let c := d.char.get {} p
    byteAt (c.serialBytes ++ le 1 c.source ++ zeros 7 ++ c.table512) ((o - 0x181000) % 1024)
  else if o < 0x18E000 then
    byteAt (le 2 d.levelS ++ le 2 d.levelM ++ le 2 d.levelL ++ zeros 2 ++
      (List.range 48).flatMap (fun p => let v := d.drive.get {} p
        le 2 v.mainPulseNs.toNat ++ le 2 v.preheatGapNs.toNat ++ le 2 v.nominalDw.toNat) ++
      (List.range 48).flatMap (fun p => (d.thermal.get {} p).bytes)) (o - 0x18D000)
  else if o < 0x1CE000 then byteAt (d.flat.get {} ((o - 0x18E000) / 65536)).block ((o - 0x18E000) % 65536)
  else if o < 0x1CF000 then byteAt (d.loop.bytes ++ d.loop.recalBytes) (o - 0x1CE000)
  else 0

/-- The image's LENGTH field: the whole area (R222, log 26). -/
def imageLength : Nat := 0x300000

/-- Byte `o` of a base area, header included (R222). -/
def BaseArea.byte (b : BaseArea) (o : Nat) : Byte :=
  if !b.crcOk then 0
  else if o < 16 then
    byteAt ([0x47, 0x42, 0x41, 0x53] ++ le 4 b.seqFolded.toNat ++ le 4 imageLength ++
      le 4 (crc32 ((List.range (imageLength - 0x1000)).map fun i => b.image.imageByte b.geo (0x1000 + i))).toNat) o
  else b.image.imageByte b.geo o

/-- An event record's 32 bytes (spec/14 Table 14-4). -/
def EventRec.bytes (e : EventRec) : List Byte :=
  le 4 e.seq.toNat ++ le 8 e.time.toNat ++ le 2 e.code ++ le 2 e.source ++ le 8 e.data.toNat ++
    le 4 (bit e.unset 0 + e.severity * 2 + bit e.replace 4 + bit e.lost 5 + bit e.suppressed 6) ++
    le 4 (e.seq ^^^ 0x5A5A5A5A).toNat

/-- The cleared mark of a record: VALID written as 0 (spec/14 R385). -/
def logCleared (cleared : Option (BitVec 32)) (q : BitVec 32) : Bool :=
  match cleared with
  | some c => seqLe q c
  | none => false

/-- Byte `o` of the 8 MiB store (R32); the identity and configuration partition's own layout is open (log 6). -/
def State.gableByte (s : State) (o : Nat) : Byte :=
  if o < 0x1000 then byteAt (s.nvm.rootN 0).bytes o
  else if o < 0x2000 then byteAt (s.nvm.rootN 1).bytes (o - 0x1000)
  else if o < 0x10000 then Config.idByte s.nvm.nextSeq.toNat o
  else if o < 0x310000 then (s.nvm.baseN 0).byte (o - 0x10000)
  else if o < 0x610000 then (s.nvm.baseN 1).byte (o - 0x310000)
  else if o < 0x700000 then
    let k := o - 0x610000
    match (s.nvm.writing.toList ++ s.nvm.journal).find? fun r => decide (r.off ≤ k ∧ k < r.off + r.body.size) with
    | some r => byteAt r.bytes (k - r.off)
    | none => 0
  else
    let k := o - 0x700000
    match s.log.ring.get none (k / 32) with
    | some e => if logCleared s.log.clearedSeq e.seq && decide (28 ≤ k % 32) then 0 else byteAt e.bytes (k % 32)
    | none => 0

end Sys2Proof.Machine
end

