-- ==== Sys2Proof/Machine/Links.lean ====
section
/-! DEFINITION. What the chip hands to its links: sequenced twin frames (spec/09 R268, R269, R275), press messages (spec/10
R299, R300), the control writes of the heads (spec/04 R134, R137, R406), and the port-wide list of a head's registers in force. -/

namespace Sys2Proof.Machine

/-! ## Roles (spec/09 R263, R264) -/

/-- This chip holds class 3: alone, or as the supervisor of a pair. -/
def State.supervises (s : State) : Bool := !s.boot.twinEn || s.twin.supervisor

/-- This chip holds class 2: alone, or as LEAD. -/
def State.isLead (s : State) : Bool := !s.boot.twinEn || s.twin.role == .lead

/-- ROLE as TWIN_ALERT and BEAT show it. -/
def Role.code : Role → Nat
  | .reserve => 0 | .lead => 1 | .claim => 2

/-- ROLE of this chip; a chip alone is LEAD (R263). -/
def State.roleNow (s : State) : Role := if s.boot.twinEn then s.twin.role else .lead

/-- The pair has formed and its link carries sequenced frames. -/
def State.twinOpen (s : State) : Bool := s.boot.twinEn && (s.twin.link == .sync || s.twin.link == .up)

/-! ## Sequenced frames (spec/09 R269) -/

/-- The number of unacknowledged frames that may be under way. -/
def twinWindow : Nat := 256

/-- Sends a sequenced frame: it takes the next SEQ, waits for its ACK, and goes out when fewer than 256 wait. -/
def State.twinSend (f : SeqFrame) (s : State) : State :=
  if !s.twinOpen then s
  else s.updTwin fun t => { t with
    txSeq := t.txSeq + 1, unacked := t.unacked ++ [(t.txSeq, f)],
    txQ := if t.unacked.length < twinWindow then t.txQ ++ [.seq t.txSeq false f] else t.txQ }

/-- Sends mirror traffic, which SOLO stops (R272). -/
def State.mirrorSend (f : SeqFrame) (s : State) : State := if s.twin.solo then s else s.twinSend f

/-- An APPLY_KEY for a change that applies at once. -/
def atOnce : BitVec 32 := 0xFFFFFFFF

/-- The supervisor forwards an accepted command of Table 09-5 (R275). -/
def State.forward9 (op : Nat) (key : BitVec 32) (payload : List Byte) (s : State) : State :=
  if s.pairUp && s.twin.supervisor then s.twinSend (.config (BitVec.ofNat 16 op) key payload) else s

/-- The command of Table 09-5 is refused here: a pair has formed and another chip supervises. -/
def State.notSupervisor (s : State) : Bool := s.boot.twinEn && !s.twin.supervisor

/-- A command of Table 09-5 (R275): its field checks first (spec/12 R404), then TWIN_NOT_SUPERVISOR on the chip that does not
supervise, then its own rules; when it is accepted, it is forwarded. -/
def twinGateAt (key : BitVec 32) (bad : Option Nat) (op : Nat) (payload : List Byte) (body : State → Answer) (s : State) :
    Answer :=
  match bad with
  | some c => fail c s
  | none =>
    if s.notSupervisor then fail 0x0C02 s
    else
      match body s with
      | .done 0 p t => .done 0 p (t.forward9 op key payload)
      | .later w p t => .later w p (t.forward9 op key payload)
      | a => a

/-- A command of Table 09-5 whose change applies at once. -/
def twinGate (bad : Option Nat) (op : Nat) (payload : List Byte) (body : State → Answer) (s : State) : Answer :=
  twinGateAt atOnce bad op payload body s

/-- The first failing check of a list of (failed, status). -/
def firstBad : List (Bool × Nat) → Option Nat
  | [] => none
  | (b, c) :: l => if b then some c else firstBad l

/-- Field checks before the rest of a command. -/
def checked (bad : Option Nat) (body : State → Answer) (s : State) : Answer :=
  match bad with
  | some c => fail c s
  | none => body s

/-- Writes a head event of the supervisor alone (spec/14 R382, spec/09 R277). -/
def State.headEvent (code inst data : Nat) (s : State) : State := if s.supervises then s.logEvent code inst data else s

/-! ## Press messages (spec/10 R299, R300) -/

/-- A press message (Table 10-3). -/
def State.pressBytes (s : State) (type cause handle : Nat) (top : Int) (lines vContract : Nat) : List Byte :=
  let b := [0x45, 0x46, 0x50, 0x4D] ++ le 1 1 ++ le 1 type ++ le 1 s.time.barId ++ le 1 cause ++ le 4 s.time.pressSeq.toNat ++
    zeros 4 ++ le 8 s.time.clock.sec.toNat ++ le 4 s.time.clock.ns.toNat ++ le 1 handle ++ zeros 3 ++ leI 8 top ++ le 4 lines ++
    le 4 vContract
  b ++ le 4 (crc32 b).toNat

/-- The UDP port of press messages (R299). -/
def pressUdp : BitVec 16 := 47360

/-- Sends a press message once on every port with PRESS, with one SEQ (R300). -/
def State.pressSend (type cause handle : Nat) (top : Int) (lines vContract : Nat) (s : State) : State :=
  let m := s.pressBytes type cause handle top lines vContract
  s.updTime fun t => { t with
    pressSeq := t.pressSeq + 1,
    ethTx := t.ethTx ++ ([0, 1].filter fun p => (t.port.get {} p).flags.getLsbD 4).map fun p => .press p t.pressGroup pressUdp m }

/-! ## Control frames to a head (spec/04 R134, R137, R406; spec/09 R277) -/

/-- Sends the next waiting control frame when none is outstanding (R134). -/
def Port.pump (retries : Nat) (p : Port) : Port :=
  if p.ctrlOut.isSome || p.measuring.isSome then p
  else
    match p.ctrlQ with
    | [] => p
    | .measure ns :: q => { p with
        ctrlQ := q, measuring := some ns, measSeq := p.ctrlSeq, ctrlSeq := p.ctrlSeq + 1, txQ := p.txQ ++ [.measure p.ctrlSeq ns] }
    | .write a d :: q => { p with
        ctrlQ := q, ctrlOut := some ⟨p.ctrlSeq, .write a d, retries⟩, ctrlSeq := p.ctrlSeq + 1,
        txQ := p.txQ ++ [.ctrlWr p.ctrlSeq a d false] }
    | .read a n :: q => { p with
        ctrlQ := q, ctrlOut := some ⟨p.ctrlSeq, .read a n, retries⟩, ctrlSeq := p.ctrlSeq + 1,
        txQ := p.txQ ++ [.ctrlRd p.ctrlSeq a n false] }

/-- RL_CONFIG.CTRL_RETRIES. -/
def State.ctrlRetries (s : State) : Nat := s.rlConfig.toNat % 8

/-- Pumps a port's control queue. -/
def State.pumpPort (p : Nat) (s : State) : State := s.updPort p fun q => q.pump s.ctrlRetries

/-- This chip sends control and MEASURE frames: it supervises and is not handing supervision over (spec/09 R277, R279). -/
def State.controls (s : State) : Bool := s.supervises && !s.twin.handing

/-- A change that needs a head write (R406): sent at once in LOAD and UP, else held by the enabled port; only the supervisor
writes (R277). -/
def State.headWrite (p addr : Nat) (data : List Byte) (s : State) : State :=
  if !s.controls then s
  else if (s.portN p).st == .load || (s.portN p).st == .up then
    s.updPort p fun q => ({ q with ctrlQ := q.ctrlQ ++ [CtrlReq.write (BitVec.ofNat 32 addr) data] }).pump s.ctrlRetries
  else if s.portEnabled p then s.updPort p fun q => { q with holds := true }
  else s

/-- Writes of at most 1,024 bytes from an address upward. -/
def chunkWrites : Nat → Nat → List Byte → List (Nat × List Byte)
  | 0, _, _ => []
  | _ + 1, _, [] => []
  | f + 1, a, b :: bs => (a, (b :: bs).take 1024) :: chunkWrites f (a + 1024) ((b :: bs).drop 1024)

/-- The staged code word of a nozzle (Table 04-10). -/
def CalData.codeWord (d : CalData) (p i : Nat) : List Byte :=
  let (a, b, c, _) := d.codes p i
  le 4 (a + b * 256 + c * 65536)

/-- The WARM_MASK word `k` of a port: nozzles in OK or WEAK (spec/03 R95). -/
def State.warmMaskWord (s : State) (p k : Nat) : List Byte :=
  le 4 (((List.range 32).map fun j =>
    if 32 * k + j < s.nozCount p ∧ (s.nozN p (32 * k + j)).state ≤ 1 then 2 ^ j else 0).sum)

/-- Address of head registers (Table 04-10). -/
def adrDrive : Nat := 0x10
def adrTCut : Nat := 0x14
def adrWarm : Nat := 0x18
def adrApply : Nat := 0x1C
def adrCutClear : Nat := 0x20
def adrWarmMask : Nat := 0x10000
def adrCodes : Nat := 0x100000

/-- The DRIVE register's bytes. -/
def Drive.bytes (d : Drive) : List Byte := le 2 d.mainPulseNs.toNat ++ le 2 d.preheatGapNs.toNat

/-- The T_CUT register's bytes. -/
def Thermal.cutBytes (t : Thermal) : List Byte := leI 2 t.tCut ++ zeros 2

/-- An IMMEDIATE switch (R137). -/
def immediateBytes : List Byte := le 4 (2 ^ 30)

/-- The WARM word: rate and code (R95). -/
def warmBytes (rate code : Nat) : List Byte := le 4 (rate + code * 65536)

/-- The codes of every nozzle of a port that the store holds committed (spec/01 R24), in writes of 1,024 bytes. -/
def State.codeWrites (s : State) (p : Nat) : List (Nat × List Byte) :=
  let bs := (List.range (s.nozCount p)).flatMap (s.cal.store.codeWord p)
  chunkWrites (bs.length + 1) adrCodes bs

/-- The warm masks of a port. -/
def State.maskWrites (s : State) (p : Nat) : List (Nat × List Byte) :=
  let bs := (List.range (ceilDiv (s.nozCount p) 32)).flatMap (s.warmMaskWord p)
  chunkWrites (bs.length + 1) adrWarmMask bs

/-- The writes of LOAD (Table 04-4): the full set in force, with an IMMEDIATE switch. -/
def State.loadWrites (s : State) (p : Nat) : List (Nat × List Byte) :=
  [(adrDrive, (s.cal.store.drive.get {} p).bytes), (adrTCut, (s.cal.data.thermal.get {} p).cutBytes), (adrWarm, warmBytes 0 0)] ++
    s.maskWrites p ++ s.codeWrites p ++ [(adrApply, immediateBytes)]

/-- A list of writes to one head. -/
def State.headWrites (p : Nat) (ws : List (Nat × List Byte)) (s : State) : State :=
  ws.foldl (fun t w => t.headWrite p w.1 w.2) s

/-! ## Own lines and the line at which codes apply (spec/02 R39, spec/04 R137, spec/01 R24) -/

/-- Line `n` of a page with start parity `par` is an own line of a row (R39). -/
def Web.owns (w : Web) (par : Nat) (rowB : Bool) (n : Nat) : Bool :=
  !w.dual || ((n + par) % 2 == 1) == rowB

/-- The row that owns line `n`. -/
def Web.rowOf (w : Web) (par n : Nat) : Bool := w.dual && (n + par) % 2 == 1

/-- The key of a line (R131). -/
def lineKey (handle line : Nat) : BitVec 28 := BitVec.ofNat 28 (handle * 2 ^ 20 + line)

/-- 2 ms in 1/256 ns. -/
def ms2 : Int := 2000000 * 256

/-- Line `n` of a page fires at least 2 ms from now on port `p`, or has no predicted time and is not released (log 27). -/
def State.farAhead (s : State) (g : Geo) (w : Web) (pg : Page) (p n : Nat) : Bool :=
  match s.fireTime g w pg.top n p with
  | some t => decide (s.now256 + ms2 ≤ t)
  | none => decide (pg.nextLine ≤ n)

/-- The first own line of port `p` far enough ahead, from line `n` of a page. -/
def State.firstFar (s : State) (g : Geo) (w : Web) (pg : Page) (p : Nat) : Nat → Nat → Option Nat
  | 0, _ => none
  | f + 1, n =>
    if w.owns pg.parity (g.port.get {} p).rowB n && s.farAhead g w pg p n then some n else s.firstFar g w pg p f (n + 1)

/-- The key at which a port's new codes apply, none when no queued page has such a line (R137). -/
def State.applyLine (s : State) (p : Nat) : Option (BitVec 28) :=
  match s.geo.committed with
  | some g => match g.web with
    | some w => s.bat.pages.findSome? fun pg => (s.firstFar g w pg p pg.lines 0).map (lineKey pg.handle)
    | none => none
  | none => none

/-- Line `n` of a page fires at least 2 ms ahead on every enabled port. -/
def State.farAll (s : State) (g : Geo) (w : Web) (pg : Page) (n : Nat) : Bool := g.ports.all fun p => s.farAhead g w pg p.1 n

/-- The first line from `n` that fires at least 2 ms ahead. -/
def State.firstFarAll (s : State) (g : Geo) (w : Web) (pg : Page) : Nat → Nat → Option Nat
  | 0, _ => none
  | f + 1, n => if s.farAll g w pg n then some n else s.firstFarAll g w pg f (n + 1)

/-- APPLY_KEY of a change that takes effect at a released line (spec/09 R275); at once when no queued page has such a line. -/
def State.applyKey (s : State) : BitVec 32 :=
  match s.geo.committed with
  | some g => match g.web with
    | some w => match s.bat.pages.findSome? fun pg => (s.firstFarAll g w pg pg.lines 0).map (lineKey pg.handle) with
      | some k => k.setWidth 32
      | none => atOnce
    | none => atOnce
  | none => atOnce

/-- Keeps a change back until its APPLY_KEY's line is released. -/
def State.applyLater (key : BitVec 32) (c : Later) (s : State) : State :=
  s.updTwin fun t => { t with apply := t.apply ++ [(key, c)] }

/-- A change of nozzle `i` of port `p` waits for its line. -/
def State.nozWaits (s : State) (p i : Nat) : Bool :=
  s.twin.apply.any fun a => match a.2 with
    | .nozAct q _ j _ => q == p && j == i
    | .noz q j _ => q == p && j == i
    | _ => false

/-- Applies the staged bank of a head: at a named own line, else at once (R137). -/
def State.codeApply (p : Nat) (s : State) : State :=
  match s.applyLine p with
  | some k => (s.headWrite p adrApply (le 4 (k.toNat + 2 ^ 31))).updPort p fun q =>
      { q with armKey := if q.st = .load ∨ q.st = .up then some k else q.armKey }
  | none => s.headWrite p adrApply immediateBytes

/-- Writes the codes of every nozzle of a port and applies them (R80). -/
def State.reloadCodes (p : Nat) (s : State) : State := (s.headWrites p (s.codeWrites p)).codeApply p

/-- Writes the codes of the named nozzles of a port and applies them. -/
def State.writeCodes (p : Nat) (ns : List Nat) (s : State) : State :=
  if ns.isEmpty then s
  else (s.headWrites p (ns.map fun i => (adrCodes + 4 * i, s.cal.store.codeWord p i))).codeApply p

end Sys2Proof.Machine
end

