-- ==== Sys2Proof/Machine/Mem.lean ====
section
/-! DEFINITION. The DRAM's bytes (spec/11 R304, R316, R317, spec/01 R33): one canonical list of written bytes over what an
unlisted address reads as: zero (log 9), or a free byte where a change of map or regions left the contents undefined (log 10). -/

namespace Sys2Proof.Machine

/-- What an unlisted address reads as. -/
def Dram.blank (d : Dram) (a : Nat) : Byte :=
  match d.fills.find? fun f => decide (f.1 ≤ a ∧ a < f.2.1) with
  | some f => Config.dramUndef f.2.2 a
  | none => 0

/-- The byte at an address. -/
def Dram.read (d : Dram) (a : Nat) : Byte := SMap.get (d.blank a) d.cells a

/-- Writes a byte; writing what the address reads as unlisted removes its entry. -/
def Dram.write (d : Dram) (a : Nat) (v : Byte) : Dram := { d with cells := SMap.set (d.blank a) d.cells a v }

/-- Writes bytes from an address upward. -/
def Dram.writeAll (d : Dram) (a : Nat) : List Byte → Dram
  | [] => d
  | b :: bs => (d.write a b).writeAll (a + 1) bs

/-- Reads `n` bytes from an address upward. -/
def Dram.readAll (d : Dram) (a n : Nat) : List Byte := (List.range n).map fun i => d.read (a + i)

/-- Leaves the bytes of a range undefined: a free value each, numbered by the epoch of the change. -/
def Dram.undefine (d : Dram) (lo hi epoch : Nat) : Dram :=
  { d with cells := d.cells.filter fun c => !(decide (lo ≤ c.1) && decide (c.1 < hi)), fills := (lo, hi, epoch) :: d.fills }

/-- The canonical form from address `lo` on: addresses strictly rising, no entry equal to what its address reads as unlisted. -/
def Memory.wfFrom (d : Dram) (lo : Nat) : List Host.Cell → Bool
  | [] => true
  | (a, v) :: m => decide (lo ≤ a) && decide (v ≠ d.blank a) && Memory.wfFrom d (a + 1) m

/-- The canonical form of the DRAM's bytes. -/
def Memory.wf (d : Dram) : Bool := Memory.wfFrom d 0 d.cells

/-- Writes bytes into DRAM. -/
def State.dramWrite (a : Nat) (bs : List Byte) (s : State) : State := s.updDram fun d => d.writeAll a bs

/-- Bytes of DRAM. -/
def State.dramRead (s : State) (a n : Nat) : List Byte := s.dram.readAll a n

/-- Leaves a range of DRAM undefined. -/
def State.dramUndefine (lo hi : Nat) (s : State) : State :=
  let s1 := s.updDram fun d => d.undefine lo hi s.free
  { s1 with free := s.free + 1 }

end Sys2Proof.Machine
end

