-- ==== Sys2Proof/Machine/Owners.lean ====
section
/-! DEFINITION. Which pixel of a camera covers a column, which camera owns it (spec/06 R187, R188), and a camera's place over the web. -/

namespace Sys2Proof.Machine

/-- The pixel whose columns take in the centre of column `c`. -/
def Cam.pixelOf (k : Cam) (c : Nat) : Option Nat :=
  let mid : Int := c * 65536 + 32768
  let d : Int := if k.place.dir then k.place.firstCol * 65536 - mid - 1 else mid - k.place.firstCol * 65536
  let x := d / k.place.colsPerPx
  if 0 ≤ d ∧ x < k.link.pixels then some x.toNat else none

/-- The camera covers the column with a pixel other than its first or last. -/
def Cam.covers (k : Cam) (c : Nat) : Bool :=
  match k.pixelOf c with
  | some x => x != 0 && x + 1 != k.link.pixels
  | none => false

/-- A port runs (R188, R203): running or stopping. -/
def Cam.runs (k : Cam) : Bool := k.st != .stopped

/-- The owner of a column. -/
def State.owner (s : State) (c : Nat) : Option Nat := (List.range 4).find? fun p => (s.camN p).runs && (s.camN p).covers c

/-- Columns of the committed bar. -/
def State.barColumns (s : State) : Nat := match s.geo.committed with | some g => g.columns | none => 0

/-- The columns a port owns. -/
def State.ownedCols (s : State) (p : Nat) : List Nat := (List.range s.barColumns).filter fun c => s.owner c == some p

/-- The cameras that own a column. -/
def State.owners (s : State) : List Nat := (List.range 4).filter fun p => !(s.ownedCols p).isEmpty

/-- OFFSET of a camera in sub-counts (R187). -/
def State.camOffset (s : State) (p : Nat) : Int :=
  match s.geo.committed with
  | some { web := some w, .. } => w.nmToSub (s.camN p).place.offsetNm
  | _ => 0

/-- Bytes of a raw frame of 256 lines, 2 bytes a sample. -/
def Cam.frameBytes (k : Cam) : Nat :=
  256 * 2 * k.link.pixels * k.link.channels * (if k.link.vcShort.isSome then 2 else 1)

end Sys2Proof.Machine
end

