-- ==== Sys2Proof/Machine/Strip.lean ====
section
/-! DEFINITION. The results of a thatch strip (spec/06 R201): classes, ratios and centroids, and when they are written. -/

namespace Sys2Proof.Machine

/-- The median of exact numbers; of an even count, the mean of the two middle ones (log 33). -/
def medianRat (l : List Rat) : Rat :=
  let m := l.mergeSort fun a b => decide (a ≤ b)
  if m.isEmpty then 0 else (m.getD ((m.length - 1) / 2) 0 + m.getD (m.length / 2) 0) / 2

/-- A non-negative exact number rounded to nearest, halves upward. -/
def roundNat (q : Rat) : Nat := (q + 1 / 2).floor.toNat

/-- The nozzle a stripe is expected from (R201). -/
def State.thatchNozzle (s : State) (t : Thatch) (c : Nat) : Option (Nat × Nat) :=
  match s.geo.committed with | some g => (g.servers t.rowB c).head? | none => none

/-- The column lies in a stitch overlap of the row. -/
def State.inStitch (s : State) (t : Thatch) (c : Nat) : Bool :=
  match s.geo.committed with | some g => decide (1 < (g.servers t.rowB c).length) | none => false

/-- A stripe's mean density. -/
def Stripe.mean (x : Stripe) : Rat := (x.sum : Rat) / x.lines

/-- Ratio in 2^-15 and centroid in 1/16 column of a stripe; free where the median or the mass is 0, or the format is exceeded
(log 6). -/
def Stripe.measure (med : Rat) (x : Stripe) (s : State) : Rat × Nat × Int × State :=
  let (ratio, s) := if med = 0 then let r := s.drawBelow 65536; ((r.1 : Rat) / 32768, r.2) else (x.mean / med, s)
  let q := roundNat (ratio * 32768)
  let (field, s) := if q < 65536 then (q, s) else s.drawBelow 65536
  let (cen, s) :=
    if x.mass = 0 then let r := s.drawBelow 65536; ((r.1 : Int) - 32768, r.2)
    else (((x.moment : Rat) / x.mass / 4096 + 1 / 2).floor, s)
  (ratio, field, cen, s)

/-- The class of a stripe (Table 06-7). -/
def State.thatchClass (s : State) (t : Thatch) (c : Nat) (x : Stripe) (ratio : Rat) (cen : Int) : Nat :=
  if (s.owner c).isNone ∨ x.lines < 2 then 5
  else if t.covered.contains c then 4
  else if s.inStitch t c then 6
  else if ratio * 32768 < t.miss then 2
  else if ratio * 32768 < t.faint then 1
  else if t.deflect < cen.natAbs then 3
  else 0

/-- The entry of a column: its class and 8 bytes. -/
def State.thatchEntry (t : Thatch) (med : Rat) (c : Nat) (s : State) : (Nat × List Byte) × State :=
  let x := t.stripes.get {} c
  let nz := (s.thatchNozzle t c).getD (0, 0)
  if x.lines = 0 then ((5, le 4 (nz.1 + nz.2 * 64 + 5 * 2 ^ 19) ++ zeros 4), s)
  else
    let (ratio, field, cen, s) := x.measure med s
    let cl := s.thatchClass t c x ratio cen
    ((cl, le 4 (nz.1 + nz.2 * 64 + cl * 2 ^ 19) ++ le 2 field ++ leI 2 cen), s)

/-- A strip's page that has left the queue carries marks, those that came after it left included (Table 02-2). -/
def State.stripMarked (s : State) (t : Thatch) : Bool :=
  t.marked || (s.bat.left.any fun p => p.handle == t.handle && !p.marks.isEmpty) ||
    match s.bat.reports.get none t.handle with | some r => !r.marks.isEmpty | none => false

/-- Writes the results of a strip. -/
def State.thatchWrite (t : Thatch) (s : State) : State :=
  let n := s.barColumns
  let med := medianRat ((t.stripes.filter fun e => e.2.lines != 0).map fun e => e.2.mean)
  let (es, s) := (List.range n).foldl (fun (a : List (Nat × List Byte) × State) c =>
    let r := State.thatchEntry t med c a.2
    (r.1 :: a.1, r.2)) ([], s)
  let es := es.reverse
  let count := fun (p : Nat → Bool) => (es.filter fun e => p e.1).length
  let head := le 1 t.handle ++ le 1 (bit t.rowB 0) ++ le 1 t.step ++ le 1 (bit (s.stripMarked t) 0 + bit t.incomplete 1) ++ le 4 n ++
    [0, 1, 2, 3, 4].flatMap (fun k => le 4 (count (· == k))) ++ le 4 (count fun k => k == 5 || k == 6)
  (s.dramWrite t.addr (head ++ es.flatMap (·.2))).raise .cam 5

/-- The last rung has passed every owning camera, its lines processed (R201). -/
def State.thatchPassed (s : State) (t : Thatch) : Bool :=
  match t.page, s.web? with
  | some (top, _), some w =>
    s.owners.all fun p => match (s.camN p).lastDone with
      | some (pos, _) => decide (w.linePos top (t.firstLine + t.step * t.rungLines) ≤ pos - s.camOffset p)
      | none => false
  | _, _ => true

/-- The strips that are done write their results. -/
def State.thatchDone (s : State) : State :=
  let ended := s.vis.thatch.filter fun t => t.left && s.thatchPassed t
  let s := if ended.isEmpty then s else s.updVis fun v => { v with thatch := v.thatch.filter fun t => !ended.contains t }
  ended.foldl (fun t x => State.thatchWrite x t) s

end Sys2Proof.Machine
end

