-- ==== Sys2Proof/Machine/Pages.lean ====
section
/-! DEFINITION. Operations over queued pages and released lines (spec/02 R50, R56, R59, R65, R66, spec/03 R92, R93, spec/05
R174, spec/09 R274, R284): marks, usable nozzles and the hiding figure, ceasing, ending a page, leaving the queue, the fall of
FIRE_PERMIT, the speed limit, and the change of LEAD at an empty queue. -/

namespace Sys2Proof.Machine

/-! ## Usable nozzles and the hiding figure (spec/03 R87, R92; spec/09 R276) -/

/-- A head is withheld (R106–R108); on a pair in UP the supervisor's WITHHELD bits say so (R276). -/
def State.headWithheld (s : State) (p : Nat) : Bool :=
  if s.pairUp && !s.twin.supervisor then
    match s.twin.partner with
    | some b => b.withheld.getLsbD p
    | none => (s.portN p).withheld != .none
  else (s.portN p).withheld != .none

/-- The port's nozzles as a whole can be used now. -/
def State.portUsable (s : State) (p : Nat) : Bool := s.portUp p && !s.headWithheld p

/-- A nozzle is usable now (R87, but for the check of R85). -/
def State.usable (s : State) (n : Nat × Nat) : Bool := s.portUsable n.1 && decide ((s.nozN n.1 n.2).state ≤ 1)

/-- All nozzles that serve a column, row A first. -/
def Geo.allServers (g : Geo) (w : Web) (c : Nat) : List (Nat × Nat) :=
  g.servers false c ++ (if w.dual then g.servers true c else [])

/-- HIDE_STATE and V_HIDE (R92); both 0 without a geometry. -/
def State.hide (s : State) : Nat × Nat :=
  match s.geo.committed with
  | some g => match g.web with
    | some w =>
      let bad := (List.range g.columns).filter fun c => !(g.allServers w c).all s.usable
      if bad.isEmpty then (0, wholeMm s.vFire)
      else if bad.any fun c => !(g.allServers w c).any s.usable then (2, 0)
      else if bad.all fun c => [false, true].all fun r => (g.servers r c).all s.usable || (g.servers r c).any s.usable then
        (1, wholeMm s.vFire)
      else (1, wholeMm (w.speedAt 60000))
    | none => (0, 0)
  | none => (0, 0)

/-- FIRST_BARE_COLUMN (FIRE_GET_HIDING). -/
def State.firstBare (s : State) : Option Nat :=
  match s.geo.committed with
  | some g => match g.web with
    | some w => (List.range g.columns).find? fun c => !(g.allServers w c).any s.usable
    | none => none
  | none => none

/-- Recomputes the hiding figure, with an event when it changes (R92). -/
def State.rehide (s : State) : State :=
  let (st, v) := s.hide
  if st = s.fire.hideState ∧ v = s.fire.vHide then s
  else (s.updFire fun f => { f with hideState := st, vHide := v }).logEvent 0x0402 0 (v + st * 2 ^ 32)

/-! ## Pages, lines and marks (spec/02 R66) -/

def State.page? (s : State) (h : Nat) : Option Page := s.bat.pages.find? fun p => p.handle == h
/-- The page of a line: in the queue, or one that has left while lines of it still fire. -/
def State.pageOf? (s : State) (h : Nat) : Option Page :=
  match s.page? h with
  | some p => some p
  | none => s.bat.left.find? fun p => p.handle == h
def State.updPage (h : Nat) (f : Page → Page) (s : State) : State :=
  s.updBat fun b => { b with pages := b.pages.map fun p => if p.handle = h then f p else p }
def State.line? (s : State) (h n : Nat) : Option Line := s.bat.lines.find? fun l => l.handle == h && l.line == n
def State.updLine (h n : Nat) (f : Line → Line) (s : State) : State :=
  s.updBat fun b => { b with lines := b.lines.map fun l => if l.handle = h ∧ l.line = n then f l else l }
/-- Changes one port's part of a released line. -/
def State.updPortLine (h n p : Nat) (f : PortLine → PortLine) (s : State) : State :=
  s.updLine h n fun l => { l with port := l.port.upd {} p f }

/-- Adds lines `lo` to `hi` to a mark's range. -/
def joinRange (lo hi : Nat) : Option (Nat × Nat) → Option (Nat × Nat)
  | none => some (lo, hi)
  | some (a, b) => some (min a lo, max b hi)

/-- Sets mark `b` over lines `lo` to `hi` (R66). -/
def Page.mark (b lo hi : Nat) (p : Page) : Page := { p with marks := p.marks.upd none b (joinRange lo hi) }

/-- MISPLACED, OVERSPEED and WEB_REVERSED keep the lines of their range out of the uniformity loop (spec/07 R207). -/
def spoils (b : Nat) : Bool := b == 1 || b == 2 || b == 5

/-- Marks the report of a page that has left the queue (a check of R60 can end after the page has left; log 68). -/
def Report.mark (b lo hi : Nat) (r : Report) : Report := { r with marks := r.marks.upd none b (joinRange lo hi) }

/-- The top and the range of mark `b` of a page, in the queue or by its report. -/
def State.markOf (s : State) (h b : Nat) : Option (Int × Nat × Nat) :=
  match s.page? h, s.bat.reports.get none h with
  | some p, _ => (p.marks.get none b).map fun r => (p.top, r)
  | none, some r => r.top.bind fun t => (r.marks.get none b).map fun x => (t, x)
  | none, none => none

/-- Marks a page, in the queue or in its report; the range a mark that spoils samples has then is kept for the loop. -/
def State.markPage (h b lo hi : Nat) (s : State) : State :=
  let s := if (s.page? h).isSome then s.updPage h (Page.mark b lo hi)
    else s.updBat fun q => { q with reports := q.reports.upd none h fun r => r.map (Report.mark b lo hi) }
  match (if spoils b then s.markOf h b else none) with
  | some (top, a, z) => s.updFire fun f => { f with
      spoilt := (f.spoilt.filter fun e => e.old || e.handle != h || e.mark != b) ++ [⟨h, top, b, a, z, false⟩] }
  | none => s

/-- Marks a page LATE over a line, keeping the first cause (R55, R66). -/
def Page.markLate (cause n : Nat) (p : Page) : Page :=
  { p.mark 0 n n with lateCause := if p.lateCause = 0 then cause else p.lateCause }

/-- The MARKS word. -/
def marksWord (m : SMap (Option (Nat × Nat))) : Nat := ((List.range 15).map fun b => bit (m.get none b).isSome b).sum

/-- The 15 ranges of a page report (Table 02-11). -/
def rangesBytes (m : SMap (Option (Nat × Nat))) : List Byte :=
  (List.range 15).flatMap fun b => match m.get none b with
    | some (a, c) => le 4 a ++ le 4 c
    | none => le 4 0xFFFFFFFF ++ le 4 0xFFFFFFFF

/-- A port's part of a line is still to fire. -/
def LineSt.open_ : LineSt → Bool
  | .absent | .fired | .gone => false
  | _ => true

/-- A port's part of a line is released, not ceased, and not yet fired. -/
def LineSt.released : LineSt → Bool
  | .waiting | .queued | .sent => true
  | _ => false

/-- Some port has still to fire the line. -/
def Line.open_ (l : Line) : Bool := l.port.any fun e => e.2.st.open_

/-- The lowest line of a page not yet fired on every port (Table 02-10 NEXT_LINE). -/
def State.firstUnfired (s : State) (p : Page) : Nat :=
  ((s.bat.lines.filter fun l => l.handle == p.handle && l.open_).map (·.line)).foldl min p.nextLine

/-! ## The speed limit (spec/02 R50) -/

/-- The governing contract in mm/s. -/
def State.govern (s : State) : Option Nat :=
  let live := s.bat.pages.filter fun p => s.bat.lines.any fun l => l.handle == p.handle && l.port.any fun e => e.2.st.released
  match live with
  | p :: ps => some (ps.foldl (fun m q => min m q.vContract) p.vContract)
  | [] => s.bat.pages.head?.map (·.vContract)

/-- |v| in mm/s, exact. -/
def State.webMm (s : State) : Rat :=
  match s.geo.committed with
  | some { web := some w, .. } => |s.webVel| * w.countLenPm / 1000000000
  | _ => 0

/-- SPEED_LIMIT_FRACTION. -/
def State.fraction (s : State) : Rat := (s.geo.fraction : Rat) / 65536

/-- SPEED_LIMIT against the governing contract; clear with an empty queue (log 28). -/
def State.speedCheck (s : State) : State :=
  match s.govern with
  | none => s.updBat fun b => { b with speedLimit := false }
  | some c =>
    if !s.bat.speedLimit && decide (s.fraction * c ≤ s.webMm) then
      (s.updBat fun b => { b with speedLimit := true }).raise .place 1
    else if s.bat.speedLimit && decide (s.webMm < (s.fraction - 2 / 100) * c) then
      s.updBat fun b => { b with speedLimit := false }
    else s

/-- What the block does while no command waits: one TIME tick (log 2), after which the speed the web has come to is held against the
governing contract (R50). -/
def State.idle (s : State) : State :=
  let t := s.tick
  keep s (settle s (if t.alive then t.speedCheck else t))

/-! ## Ceasing (spec/02 R59) -/

/-- 3 µs, 10 µs (R20) and 20 µs (R59) in 1/256 ns. -/
def us3 : Int := 3000 * 256
def us10 : Int := 10000 * 256
def us20 : Int := 20000 * 256

/-- The line identifier of a line on a port (R131, Table 00-2). -/
def State.tagOf (s : State) (p h n : Nat) : BitVec 32 := (s.portN p).epoch ++ lineKey h n

/-- A waiting frame is one of a line's. -/
def DownFrame.ofLine (key : BitVec 28) : DownFrame → Bool
  | .fireLine t _ _ => t.setWidth 28 == key
  | .retime t _ _ => t.setWidth 28 == key
  | _ => false

/-- Takes a line's frames out of a port's transmit queue. -/
def Port.unqueue (key : BitVec 28) (q : Port) : Port := { q with txQ := q.txQ.filter fun f => !f.ofLine key }

/-- Ceases one port's part of a line (R59). With `again` the line returns to the unsent state, else it never fires. A line
less than 3 µs from its fire time fires. -/
def State.ceasePort (again : Bool) (h n p : Nat) (s : State) : State :=
  match s.line? h n with
  | none => s
  | some l =>
    let pl := l.port.get {} p
    let key := lineKey h n
    match pl.st with
    | .sent =>
      if pl.fire - s.now256 < us3 then s
      else
        (s.updPort p fun q =>
          let q := q.unqueue key
          { q with
            txQ := q.txQ ++ [.cease (s.tagOf p h n) pl.release], awaiting := q.awaiting.filter fun a => a.1 != key }).updPortLine
          h n p fun x => { x with st := if again then .ceased else .gone, ceasedAt := none }
    | .queued =>
      (s.updPort p (Port.unqueue key)).updPortLine h n p fun x => { x with st := if again then .waiting else .gone }
    | .waiting | .ceased | .absent => if again then s else s.updPortLine h n p fun x => { x with st := .gone }
    | .fired | .gone => s

/-- Ceases a line on all its ports. -/
def State.ceaseLine (again : Bool) (l : Line) (s : State) : State :=
  l.port.foldl (fun t e => t.ceasePort again l.handle l.line e.1) s

/-- A print line that no port fired, as the coverage trace holds it: without drops (spec/07 R206). -/
def State.traceGone (l : Line) (s : State) : State :=
  match s.web?, s.page? l.handle with
  | some w, some pg =>
    if s.fire.trace.any fun r => !r.old && r.handle == l.handle && r.line == l.line then s
    else s.updFire fun f => { f with trace := f.trace ++ [{ handle := l.handle, line := l.line, target := w.linePos pg.top l.line }] }
  | _, _ => s

/-- Some frame of a mapped line, one that fires nothing, may still go to a port that was not up at its release (R22). -/
def State.awaitsPort (s : State) (l : Line) : Bool := (s.page? l.handle).isSome && l.port.any fun e => e.2.st == .absent

/-- Removes lines for good. -/
def State.dropLines (done : Line → Bool) (s : State) : State :=
  let s := (s.bat.lines.filter done).foldl (fun t l => t.traceGone l) s
  s.updBat fun b => { b with lines := b.lines.filter fun l => !done l }

/-- Removes the lines that are mapped and have nothing left to fire (R22; the ring entry they hold until their targets are passed is
counted by `State.ringFree`). -/
def State.pruneLines (s : State) : State := s.dropLines fun l => l.mapped && !l.open_ && !s.awaitsPort l

/-! ## Freeing an entry (spec/05 R174) -/

def State.entry? (s : State) (e : Nat) : Option Entry := s.slate.entries.get none e

/-- Some queued page names the entry. -/
def State.entryInUse (s : State) (e : Nat) : Bool := s.bat.pages.any fun p => p.entry == e

/-- Returns a stream's chunks. -/
def State.freeStream (j : Nat) (t : Stream) (s : State) : State :=
  match t.alloc with
  | some (base, p) => s.moveChunks false base p j (chunksOf t.declared)
  | none => s

/-- Frees an entry: its chunks return and its binds are cancelled, their bytes still consumed (R171). -/
def State.freeEntry (e : Nat) (s : State) : State :=
  match s.entry? e with
  | none => s
  | some en =>
    let s := en.stream.foldl (fun t x => t.freeStream x.1 x.2) s
    s.updSlate fun t => { t with
      entries := t.entries.set none e none,
      binds := t.binds.updAll [] (List.range 32) fun _ bs => bs.map fun b => if b.entry = e then { b with live := false } else b }

/-- A PAGE_EVENT frame without marks. -/
def pageEvent (kind handle entry line : Nat) : PageEventFrame :=
  ⟨BitVec.ofNat 8 kind, BitVec.ofNat 8 handle, BitVec.ofNat 16 entry, BitVec.ofNat 32 line, 0, []⟩

/-- Frees an entry and tells the RESERVE (R271). -/
def State.freeMirrored (e : Nat) (s : State) : State :=
  (s.freeEntry e).mirrorSend (.pageEvent (pageEvent 4 0 e 0))

/-! ## The change of LEAD (spec/09 R281, R284) -/

/-- ROLE_CHANGE: alert and event. -/
def State.roleEvent (lost : Bool) (s : State) : State :=
  (s.raise .twin 0).logEvent 0x0C01 0
    (s.twin.roleSeq.toNat + s.twin.role.code * 2 ^ 32 + bit s.twin.supervisor 34 + bit lost 35)

/-- The content of a ROLE frame. -/
def State.roleFrame (s : State) (kind : Nat) : RoleFrame :=
  ⟨BitVec.ofNat 8 kind, s.twin.roleSeq, s.twin.txSeq - 1, s.nvm.lastSeq⟩

/-- Every queued page carries TWIN_SWITCH (R57), from its first unfired line to its last, or over its last line where all have fired
(log 103). -/
def State.markSwitch (s : State) : State :=
  s.bat.pages.foldl (fun t p => t.markPage p.handle 14 (min (t.firstUnfired p) (p.lines - 1)) (p.lines - 1)) s

/-- The LEAD hands over and becomes RESERVE: ROLE KIND 1 at once, or KIND 5 at an empty queue. -/
def State.handLead (kind : Nat) (s : State) : State :=
  let s := s.updTwin fun t => { t with roleSeq := t.roleSeq + 1 }
  let s := s.twinSend (.role (s.roleFrame kind))
  (s.updTwin fun t => { t with role := .reserve, castleDue := false, atEmpty := false, pagesSince := 0 }).roleEvent false

/-- The ports keep no control frame that waits to be sent. -/
def State.dropWaiting (hold : Bool) (s : State) : State :=
  s.updPorts fun m => m.updAll {} (List.range 48) fun _ q =>
    { q with ctrlQ := [], holds := hold && (q.holds || q.ctrlQ.any fun r => match r with | .measure _ => false | _ => true) }

/-- No control or MEASURE frame is outstanding. -/
def State.ctrlQuiet (s : State) : Bool := s.port.all fun e => e.2.ctrlOut.isNone && e.2.measuring.isNone

/-- The handover of supervision once nothing is outstanding: ROLE KIND 2 (spec/09 R279). -/
def State.handTry (s : State) : State :=
  if !s.twin.handing || !s.ctrlQuiet then s
  else
    let s := s.updTwin fun t => { t with roleSeq := t.roleSeq + 1 }
    let s := s.twinSend (.role (s.roleFrame 2))
    ((s.updTwin fun t => { t with supervisor := false, handing := false }).dropWaiting false).roleEvent false

/-- Hands supervision over: the outstanding control frames finish, no other follows (R279). -/
def State.handSupervision (s : State) : State := ((s.updTwin fun t => { t with handing := true }).dropWaiting true).handTry

/-- The swap of a castle or of a switchback at an empty queue, when its conditions hold (R284). -/
def State.castleTry (s : State) : State :=
  if s.pairUp && s.twin.role == .lead && s.bat.pages.isEmpty && (s.twin.castleDue || s.twin.atEmpty) then s.handLead 5 else s

/-- A castle falls due (R284): CASTLE_DUE rises. -/
def State.castleFallsDue (s : State) : State :=
  (s.updTwin fun t => { t with castleDue := true }).castleTry

/-! ## Reports and leaving the queue (spec/02 R56, R67; spec/09 R274) -/

/-- Completes a page report: stored, page-done event, PAGE_MARKED. -/
def State.completeReport (h : Nat) (r : Report) (s : State) : State :=
  let s := s.updBat fun b => { b with reports := b.reports.set none h (some { r with awaitTwin := false }) }
  let s := s.logEvent 0x0501 h (marksWord r.marks + r.linesFired * 2 ^ 32)
  if marksWord r.marks = 0 then s else s.raise .place 2

/-- The overlap of two ranges. -/
def overlapRange (a b : Option (Nat × Nat)) : Option (Nat × Nat) :=
  match a, b with
  | some (a1, a2), some (b1, b2) => if max a1 b1 ≤ min a2 b2 then some (max a1 b1, min a2 b2) else none
  | _, _ => none

/-- The marks of the pair (R274): LATE, TEMP_STOP, UNHIDDEN, PORT_LOST and STREAM_ERROR where both chips marked them, TEMP_CUT
where either did, all others the LEAD's own. -/
def combineMarks (own peer : SMap (Option (Nat × Nat))) : SMap (Option (Nat × Nat)) :=
  let m := own.updAll none [0, 8, 10, 11, 13] fun b v => overlapRange v (peer.get none b)
  m.upd none 9 fun v => match v, peer.get none 9 with
    | some (a, c), some (x, y) => some (min a x, max c y)
    | some r, none => some r
    | none, r => r

/-- The combined report. -/
def Report.combine (r : Report) (peer : PeerMark) : Report :=
  let m := combineMarks r.marks peer.marks
  { r with marks := m, lateCause := if (m.get none 0).isSome then r.lateCause else 0 }

/-- A PAGE_EVENT KIND 3 with marks. -/
def pageEnd (h entry : Nat) (m : SMap (Option (Nat × Nat))) : PageEventFrame :=
  { pageEvent 3 h entry 0 with
    marks := BitVec.ofNat 32 (marksWord m),
    ranges := (List.range 15).map fun b => match m.get none b with
      | some (a, c) => (BitVec.ofNat 32 a, BitVec.ofNat 32 c)
      | none => (0xFFFFFFFF, 0xFFFFFFFF) }

/-- The marks a KIND 3 brings. -/
def PageEventFrame.peer (f : PageEventFrame) : PeerMark :=
  { marks := (List.range 15).foldl (fun m b => m.set none b
      (if f.marks.getLsbD b then (f.ranges[b]?).map fun r => (r.1.toNat, r.2.toNat) else none)) [] }

/-- Completes the report of a mirrored page on the LEAD, and lets the RESERVE answer from the same record (R73, R274, log 29). -/
def State.completeMirrored (h : Nat) (r : Report) (s : State) : State :=
  let s := s.updTwin fun t => { t with peerMarks := t.peerMarks.set none h none }
  (s.completeReport h r).mirrorSend (.pageEvent (pageEnd h 0 r.marks))

/-- The RESERVE's record of a page becomes the combined one that the LEAD sent (R73, R274, log 29). -/
def Report.become (pm : PeerMark) (r : Report) : Report :=
  { r with marks := pm.marks, lateCause := if (pm.marks.get none 0).isSome then r.lateCause else 0 }

/-- The combined record completes the RESERVE's report. -/
def State.completeCombined (h : Nat) (pm : PeerMark) (r : Report) (s : State) : State :=
  (s.updTwin fun t => { t with peerMarks := t.peerMarks.set none h none }).completeReport h (r.become pm)

/-- A column that waited for line `k` of port `p` waits for the next line the port fires. -/
def Stale.immediate (p : Nat) (k : BitVec 28) (x : Stale) : Stale :=
  if x.keys.contains (p, k) then { x with keys := x.keys.filter (· != (p, k)), imm := x.imm ++ [p] } else x

/-- The IMMEDIATE switches for lines of a page that ended before they fired (R137). -/
def State.switchUnfired (h : Nat) (s : State) : State :=
  (List.range 48).foldl (fun t p =>
    match (t.portN p).armKey with
    | some k =>
      if k.toNat / 2 ^ 20 = h then
        (((t.headWrite p adrApply immediateBytes).updPort p fun q => { q with armKey := none }).updLoop fun l => { l with
          stale := l.stale.updAll {} (l.stale.map (·.1)) fun _ x => x.immediate p k })
      else t
    | none => t) s

/-- A measurement slice, which is no head write. -/
def CtrlReq.isMeasure : CtrlReq → Bool
  | .measure _ => true
  | _ => false

/-- A gap window closes (R93, R95, R96): rate 0 is sent and an outstanding slice's result will be discarded. -/
def State.closeGap (p : Nat) (s : State) : State :=
  if !(s.portN p).gapOpen then s
  else
    let s := s.headWrite p adrWarm (warmBytes 0 0)
    s.updPort p fun q => { q with gapOpen := false, warmRate := 0, measuring := q.measuring.map (fun _ => []), ctrlQ := q.ctrlQ.filter (!·.isMeasure) }

/-- The body of leaving the queue that does not touch FIRE_PERMIT; `next` is the lowest line not yet fired on every port. -/
def State.leavePage (next : Nat) (pg : Page) (s : State) : State :=
  let h := pg.handle
  let s := s.updBat fun b => { b with
    pages := b.pages.filter fun p => p.handle != h, quiet := h :: b.quiet,
    lines := b.lines.filterMap fun l =>
      if l.handle ≠ h then some l
      else if l.port.any fun e => e.2.st == .sent then some { l with toStart := [], running := [], mapped := true }
      else none }
  let s := s.updBat fun b => { b with
    left := (b.left.filter fun p => p.handle != h) ++ (if b.lines.any fun l => l.handle == h then [pg] else []) }
  let s := s.updSlate fun t => { t with jobs := t.jobs.updAll none (List.range 16) fun _ j =>
    match j with | some (a, b, c) => if a = h then none else some (a, b, c) | none => none }
  let s := s.updVis fun v => { v with thatch := v.thatch.map fun t =>
    if t.handle = h ∧ !t.left then { t with left := true, marked := !pg.marks.isEmpty } else t }
  let r : Report := { marks := pg.marks, lateCause := pg.lateCause, linesFired := pg.firedLines.length, nextLine := next, top := some pg.top }
  let s :=
    if s.pairUp && s.isLead then
      match s.twin.peerMarks.get none h with
      | some pm => s.completeMirrored h (r.combine pm)
      | none => s.updBat fun b => { b with reports := b.reports.set none h (some { r with awaitTwin := true }) }
    else if s.pairUp then
      let s := s.mirrorSend (.pageEvent (pageEnd h pg.entry r.marks))
      match s.twin.peerMarks.get none h with
      | some pm => s.completeCombined h pm r
      | none => s.updBat fun b => { b with reports := b.reports.set none h (some { r with awaitTwin := true }) }
    else s.completeReport h r
  let s := s.switchUnfired h
  let s := match s.entry? pg.entry with
    | some e => if e.autoFree && !s.entryInUse pg.entry && s.isLead then s.freeMirrored pg.entry else s
    | none => s
  s.thatchDone.castleTry.speedCheck

/-- Ends a page early (R65, R72, R63): its lines cease, the mark covers its first unfired to its last line, and it leaves. -/
def State.endPage (mark h : Nat) (s : State) : State :=
  match s.page? h with
  | none => s
  | some p =>
    let next := s.firstUnfired p
    let first := min next (p.lines - 1)
    let s := (s.bat.lines.filter fun l => l.handle == h).foldl (fun t l => t.ceaseLine false l) s
    let s := s.markPage h mark first (p.lines - 1)
    match s.page? h with
    | some p => s.leavePage next p
    | none => s

/-- FIRE_PERMIT falls with a cause (R65, R101; R300): nothing happens when it is low already. -/
def State.dropPermit (cause : Nat) (s : State) : State :=
  if !s.fire.permit then s
  else
    let any := !s.bat.pages.isEmpty
    let s := s.updFire fun f => { f with permit := false, dropCause := cause }
    let s := (s.bat.pages.map (·.handle)).foldl (fun t h => t.endPage 7 h) s
    let s := if any then s.raise .place 4 else s
    let s := (List.range 48).foldl (fun t p => t.closeGap p) s
    if cause = 1 && s.time.pressFlags.getLsbD 1 then s.pressSend 2 1 0 0 0 0 else s

/-- After the last admitted page of held control cores has left, FIRE_PERMIT falls (spec/01 R19). -/
def State.finishHeld (s : State) : State :=
  if s.boot.dropAfterPages && s.bat.pages.isEmpty then
    (s.updBoot fun b => { b with dropAfterPages := false }).dropPermit 3
  else s

/-- Ends a page and lets held cores' permit follow it. -/
def State.endPageHeld (mark h : Nat) (s : State) : State := (s.endPage mark h).finishHeld

end Sys2Proof.Machine
end

