-- ==== Sys2Proof/Machine/PortOps.lean ====
section
/-! DEFINITION. Operations over Ridge ports (spec/04 R119–R124, R146, R151, R406, spec/03 R109, spec/07 R215): entering a link
state, resync and drop, and the restart of the uniformity windows of the columns concerned. -/

namespace Sys2Proof.Machine

/-! ## Window restarts (spec/07 R215) -/

/-- Restarts the windows of columns. -/
def State.restartCols (cs : List Nat) (s : State) : State :=
  s.updLoop fun l => { l with ring := l.ring.filter fun e => !cs.contains e.1 }

/-- Restarts every window. -/
def State.restartAll (s : State) : State := s.updLoop fun l => { l with ring := [] }

/-- The columns a port of the committed geometry serves. -/
def State.portCols (s : State) (p : Nat) : List Nat :=
  match s.geo.committed with
  | some g =>
    let c := g.port.get {} p
    if c.enable then (List.range c.nozzles).map c.col else []
  | none => []

/-- Restarts the windows of a port's columns. -/
def State.restartPort (p : Nat) (s : State) : State :=
  s.updLoop fun l => if l.ring.isEmpty then l else { l with ring := l.ring.filter fun e => !(s.portCols p).contains e.1 }

/-! ## Leaving and entering link states -/

/-- The states in which a port carries frames. -/
def LinkSt.framed : LinkSt → Bool
  | .discover | .load | .up => true
  | _ => false

/-- The states in which head writes go out at once (R406). -/
def LinkSt.writes : LinkSt → Bool
  | .load | .up => true
  | _ => false

/-- The lowest line of a page that port `p` has still to fire. -/
def State.firstOnPort (s : State) (pg : Page) (p : Nat) : Nat :=
  ((s.bat.lines.filter fun l => l.handle == pg.handle && (l.port.get {} p).st.open_).map (·.line)).foldl min pg.nextLine

/-- Marks PORT_LOST on every queued page from its first line still to fire on the port (R109, R122). -/
def State.markPortLost (p : Nat) (s : State) : State :=
  s.bat.pages.foldl (fun t pg =>
    let n := t.firstOnPort pg p
    if n < pg.lines then t.markPage pg.handle 11 n (pg.lines - 1) else t) s

/-- What becomes of a port's part of a line when the port leaves UP: kept for resending at a resync (R146), else lost (R109). -/
def PortLine.lose (resync : Bool) (x : PortLine) : PortLine :=
  if !x.st.open_ then x
  else if !resync then { x with st := .gone }
  else
    match x.st with
    | .sent => { x with st := .waiting, resend := true }
    | .queued => { x with st := .waiting }
    | .ceased => { x with ceasedAt := some (x.ceasedAt.getD 0) }
    | _ => x

/-- A port leaves UP. -/
def State.leaveUp (resync : Bool) (p : Nat) (s : State) : State :=
  let s := (s.markPortLost p).closeGap p
  let s := s.updBat fun b => { b with lines := b.lines.map fun l => { l with port := l.port.upd {} p (PortLine.lose resync) } }
  (s.updPort p fun q => { q with awaiting := [], measuring := none }).pruneLines

/-- The control frames that are no part of the set LOAD writes: CUT_CLEAR. -/
def CtrlReq.kept : CtrlReq → Bool
  | .write a _ => a.toNat == adrCutClear
  | .read _ _ => false
  | .measure _ => false


/-- A port that stops writing holds what it has not had acknowledged (R406). -/
def Port.holdWrites (q : Port) : Port :=
  let open_ := (q.ctrlOut.map (·.req)).toList ++ q.ctrlQ
  { q with ctrlOut := none, ctrlQ := open_.filter CtrlReq.kept, holds := q.holds || open_.any fun r => !r.isMeasure }

/-- The port's own fields at the entry of a link state. -/
def Port.enter (st : LinkSt) (cause : Nat) (q0 : Port) : Port :=
  let q := if q0.st.writes && !st.writes then q0.holdWrites else q0
  let q := { q with st := st, changed := q.changed || q0.st != st }
  let q := if st = .off then { q with eyeRx := 0 } else q
  let q := if st = .off ∨ st = .detect then { q with dVals := [] } else q
  let q := if st = .train then { q with epoch := q.epoch + 1 } else q
  let q := if st = .dropped ∨ st = .mismatch then { q with dropCause := cause } else q
  let q := if st = .discover then { q with echoed := false, helloTick := none, ctrlSeq := 0, txQ := [.hello q.epoch] } else q
  let q := if st = .up then { q with eyeLowRx := 0, eyeLowHead := 0, lastFireT := none } else q
  if st.framed then q else { q with txQ := [], measuring := none, idle := false, rxIdle := false }

/-- LOAD starts (Table 04-3, R406): the supervisor writes the full set in force, for a new head once its record is committed (spec/01
R24). -/
def State.startLoad (p : Nat) (s : State) : State :=
  let ws := if s.controls && !s.nvm.newHeadWaits p then (s.loadWrites p).map fun w => CtrlReq.write (BitVec.ofNat 32 w.1) w.2 else []
  s.updPort p fun q => ({ q with
    holds := false, bankAtLoad := q.prev.map fun _ => q.bank, ctrlQ := ws ++ q.ctrlQ }).pump s.ctrlRetries

/-- A port enters a link state (Table 04-3), with its events and consequences. -/
def State.enterSt (p : Nat) (st : LinkSt) (cause : Nat) (s : State) : State :=
  let old := (s.portN p).st
  let s := if old = .up ∧ st ≠ .up then s.leaveUp (st == .train) p else s
  let s := if old = .dropped ∧ st ≠ .dropped then s.endCause 1 p else s
  let s := s.updPort p (Port.enter st cause)
  let s := if st = .load then s.startLoad p else s
  let s := if st = .up then s.logEvent 0x0304 p (s.portN p).epoch.toNat else s
  let s := if st = .dropped ∨ st = .mismatch then s.logEvent 0x0306 p cause else s
  let s := if st = .dropped ∧ cause = 1 then s.setCause 1 p else s
  let s := if (old == .up) != (st == .up) || (old == .dropped) != (st == .dropped) then s.restartPort p else s
  (if (old == .up) != (st == .up) then s.rehide.speedCheck else s).handTry

/-- Drops a port (R151). -/
def State.dropPort (p cause : Nat) (s : State) : State := s.enterSt p .dropped cause

/-- Resync causes of Table 04-13, rows 1–6. -/
def rowErrors : Nat := 1
def rowComma : Nat := 2
def rowCtrl : Nat := 3
def rowSilent : Nat := 4
def rowTimeLock : Nat := 5
def rowForced : Nat := 6

/-- Counter `k` of a port (Table 04-17) moves up by `n`. -/
def Port.count (k n : Nat) (q : Port) : Port := { q with cnt := q.cnt.upd 0 k (· + BitVec.ofNat 32 n) }
def State.countPort (p k n : Nat) (s : State) : State := if n = 0 then s else s.updPort p (Port.count k n)

/-- Resyncs a port in UP, LOAD or DISCOVER; the third within 1 s drops it (R151). -/
def State.resyncPort (p row : Nat) (s : State) : State :=
  let q := s.portN p
  if !q.st.framed then s
  else
    let recent := q.resyncs.filter fun t => decide (s.time.ticks - t < ticksPerSec)
    if 2 ≤ recent.length then s.dropPort p 2
    else
      let s := s.updPort p fun q => (q.count 5 1) |> fun q => { q with resyncs := s.time.ticks :: recent }
      (s.logEvent 0x0305 p row).enterSt p .train 0

/-- An enabled port whose head counts other nozzles than the geometry goes to MISMATCH, one that now matches to DETECT; a
disabled port to OFF, an enabled one out of it (R70, R123, Table 04-3). -/
def State.matchPort (p : Nat) (s : State) : State :=
  let q := s.portN p
  if !s.portEnabled p then (if q.st = .off then s else s.enterSt p .off 0)
  else if q.st = .off then s.enterSt p .detect 0
  else
    match q.headNozzles with
    | some n =>
      if q.st.framed && n != s.nozCount p then s.enterSt p .mismatch 4
      else if q.st == .mismatch && n == s.nozCount p then s.enterSt p .detect 0
      else s
    | none => s

end Sys2Proof.Machine
end

