-- ==== Sys2Proof/Machine/Bar.lean ====
section
/-! DEFINITION. The BAR commands (spec/02 R36–R42, R53, R69–R71, R405, Tables 02-5 to 02-7): staging, the checks of BAR_COMMIT in
their order, the line delay ring's reservation (spec/01 R22), and making a geometry current. -/

namespace Sys2Proof.Machine

/-! ## Layouts -/

/-- The web settings of a BAR_SET_WEB payload. -/
def webOfReq (p : BarWebReq) : Web :=
  { dual := p.coverage == 1, altPhase := p.altPhase.getLsbD 0, lpi := p.lpi.toNat, pitchNum := p.pitchNum.toNat,
    pitchDen := p.pitchDen.toNat, countLenPm := p.countLenPm.toNat, accelMax := p.accelMax.toNat,
    leadTimeUs := p.leadTimeUs.toNat, estEdges := p.estEdges.toNat, estQuadMin := p.estQuadMin.toNat,
    estMinSpacingNs := p.estMinSpacingNs.toNat, estSpanUs := p.estSpanUs.toNat, segWidth := p.segWidth.toNat }

/-- Web settings in the layout of Table 02-5. -/
def Web.bytes (w : Web) : List Byte :=
  le 1 w.dual.toNat ++ le 1 w.altPhase.toNat ++ le 2 w.lpi ++ le 4 w.pitchNum ++ le 4 w.pitchDen ++ le 4 w.countLenPm ++
    le 4 w.accelMax ++ le 2 w.leadTimeUs ++ le 2 w.estEdges ++ le 2 w.estQuadMin ++ le 2 w.estMinSpacingNs ++ le 2 w.estSpanUs ++
    le 2 w.segWidth

/-- Port settings of a BAR_SET_PORT payload. -/
def portOfReq (p : BarPortReq) : PortCfg :=
  { enable := p.flags.getLsbD 0, rowB := p.flags.getLsbD 1, dir := p.flags.getLsbD 2, nozzles := p.nozzles.toNat,
    firstCol := p.firstCol.toNat, rowOffsetNm := p.rowOffsetNm.toInt, dropFlightNs := p.dropFlightNs.toNat }

/-- Port settings in the layout of Table 02-6. -/
def PortCfg.bytes (n : Nat) (c : PortCfg) : List Byte :=
  le 1 n ++ le 1 (bit c.enable 0 + bit c.rowB 1 + bit c.dir 2) ++ le 2 c.nozzles ++ le 4 c.firstCol ++ leI 4 c.rowOffsetNm ++
    le 4 c.dropFlightNs

/-- The response layout of Table 02-7 of a committed geometry. -/
def Geo.commitBytes (g : Geo) (w : Web) : List Byte :=
  le 4 g.columns ++ le 1 (g.segments w) ++ le 3 (g.ringLines w) ++ le 8 w.pitch ++ le 4 (wholeMm (w.speedAt (w.fMax true))) ++
    le 4 0xFFFFFFFF

/-! ## Field checks (R53) -/

/-- The field checks of BAR_SET_WEB (Table 02-5, R42): every failure is BAR_BAD_PARAM. -/
def barWebBad (p : BarWebReq) : Option Nat :=
  let w := webOfReq p
  if 1 < p.coverage.toNat ∨ (w.lpi ≠ 600 ∧ w.lpi ≠ 1200) ∨ w.pitchNum = 0 ∨ w.pitchDen = 0 ∨ 65536 * w.pitchDen ≤ w.pitchNum ∨
      w.countLenPm = 0 ∨ out w.accelMax 1 100000 ∨ out w.leadTimeUs 50 2000 ∨ out w.estEdges 4 64 ∨
      out w.estQuadMin 3 w.estEdges ∨ out w.estMinSpacingNs 100 65535 ∨ out w.estSpanUs 100 10000 ∨
      out w.segWidth 1024 8192 ∨ w.segWidth % 256 ≠ 0 then some 0x0209
  else none

/-- The field checks of BAR_SET_PORT (Table 02-6, R36, R53). -/
def barPortBad (p : BarPortReq) : Option Nat :=
  let c := portOfReq p
  firstBad [
    (decide (47 < p.port.toNat), 0x0202),
    (out c.nozzles 1024 8192 || c.nozzles % 256 != 0, 0x0202),
    (decide (196607 < c.firstCol) || (if c.dir then decide (c.firstCol < c.nozzles - 1) else decide (196608 - c.nozzles < c.firstCol)),
      0x0209),
    (outI c.rowOffsetNm (-500000000) 500000000, 0x0209),
    (decide (200000 < c.dropFlightNs), 0x0209)]

/-! ## BAR_SET_WEB, BAR_SET_PORT, BAR_SET_POLICY, BAR_GET, BAR_GET_PORT -/

/-- Stages the web settings (R53, R69). -/
def stageWeb (p : BarWebReq) (s : State) : State := s.updGeo fun u => { u with staged := { u.staged with web := some (webOfReq p) } }

/-- Stages a port (R53, R69). -/
def stagePort (p : BarPortReq) (s : State) : State :=
  s.updGeo fun u => { u with staged := { u.staged with port := u.staged.port.set {} p.port.toNat (portOfReq p) } }

/-- BAR_SET_WEB, opcode 0x0201. -/
def srvBarSetWeb (h : MbHdr) (p : BarWebReq) (s : State) : State :=
  mbServe { op := 0x0201, len := 32, rsv := 1 < p.altPhase.toNat, zero := p.estEdges == 0 || p.segWidth == 0 } h
    (twinGate (barWebBad p) 0x0201 (webOfReq p).bytes fun s => ok (stageWeb p s)) s
/-- BAR_SET_WEB. -/
def execBarSetWeb (h : MbHdr) (p : BarWebReq) (s : State) : Host.Outcome State Fault Refusal :=
  mbCmd h (.barSetWeb h p) (srvBarSetWeb h p) s

/-- BAR_SET_PORT, opcode 0x0202. -/
def srvBarSetPort (h : MbHdr) (p : BarPortReq) (s : State) : State :=
  mbServe { op := 0x0202, len := 16, rsv := 7 < p.flags.toNat, zero := p.nozzles == 0 } h
    (twinGate (barPortBad p) 0x0202 ((portOfReq p).bytes p.port.toNat) fun s => ok (stagePort p s)) s
/-- BAR_SET_PORT. -/
def execBarSetPort (h : MbHdr) (p : BarPortReq) (s : State) : Host.Outcome State Fault Refusal :=
  mbCmd h (.barSetPort h p) (srvBarSetPort h p) s

/-- The policy for later pages, the fraction at once and journaled (R71). -/
def setPolicy (policy : Nat) (fraction : Nat) (s : State) : State :=
  ((s.updGeo fun u => { u with policy := policy, fraction := fraction }).updNvm fun n =>
    { n with id := { n.id with policyFraction := fraction } }).speedCheck

/-- BAR_SET_POLICY, opcode 0x0204. -/
def srvBarSetPolicy (h : MbHdr) (policy rsv : Byte) (fraction : BitVec 16) (s : State) : State :=
  mbServe { op := 0x0204, len := 4, rsv := rsv != 0 } h
    (twinGate (if 2 < policy.toNat ∨ fraction.toNat < 0x8000 then some 0x0209 else none) 0x0204
      ([policy, 0] ++ le 2 fraction.toNat) fun s => ok (setPolicy policy.toNat fraction.toNat s)) s
/-- BAR_SET_POLICY. -/
def execBarSetPolicy (h : MbHdr) (policy rsv : Byte) (fraction : BitVec 16) (s : State) : Host.Outcome State Fault Refusal :=
  mbCmd h (.barSetPolicy h policy rsv fraction) (srvBarSetPolicy h policy rsv fraction) s

/-- BAR_GET, opcode 0x0205 (R71). -/
def srvBarGet (h : MbHdr) (s : State) : State :=
  mbServe { op := 0x0205, len := 0 } h (fun s => match s.geo.committed with
    | some { web := some w, port := p } => okWith (w.bytes ++ Geo.commitBytes { web := some w, port := p } w) s
    | _ => fail 0x020C s) s
/-- BAR_GET. -/
def execBarGet (h : MbHdr) (s : State) : Host.Outcome State Fault Refusal := mbCmd h (.barGet h) (srvBarGet h) s

/-- BAR_GET_PORT, opcode 0x0206 (R71). -/
def srvBarGetPort (h : MbHdr) (port : Byte) (rsv : BitVec 24) (s : State) : State :=
  mbServe { op := 0x0206, len := 4, rsv := rsv != 0 } h (checked (if 47 < port.toNat then some 0x0202 else none) fun s =>
    match s.geo.committed with
    | some g => okWith ((g.port.get {} port.toNat).bytes port.toNat) s
    | none => fail 0x020C s) s
/-- BAR_GET_PORT. -/
def execBarGetPort (h : MbHdr) (port : Byte) (rsv : BitVec 24) (s : State) : Host.Outcome State Fault Refusal :=
  mbCmd h (.barGetPort h port rsv) (srvBarGetPort h port rsv) s

/-! ## The checks of BAR_COMMIT (R405) -/

/-- The port at which the running nozzle sum first exceeds the table (order 4). -/
def overNozzles : Nat → List (Nat × PortCfg) → Option Nat
  | _, [] => none
  | n, (p, c) :: ps => if 196608 < n + c.nozzles then some p else overNozzles (n + c.nozzles) ps

/-- The coverage limit of R37. -/
def Web.limit (w : Web) : Nat := if w.dual then 98304 else 196608

/-- The lowest column without a nozzle of row A, or of row B under dual coverage (order 6); 0 when no port is enabled. -/
def Geo.gap (g : Geo) (w : Web) : Option Nat :=
  if g.ports.isEmpty then some 0
  else (List.range g.columns).find? fun c => (g.servers false c).isEmpty || (w.dual && (g.servers true c).isEmpty)

/-- First columns of overlaps wider than 256 columns (order 7). -/
def Geo.wideOverlaps (g : Geo) : List Nat :=
  g.ports.flatMap fun a => g.ports.filterMap fun b =>
    if a.1 < b.1 ∧ a.2.rowB = b.2.rowB ∧ 256 < (g.overlap a.1 b.1).2 then some (g.overlap a.1 b.1).1 else none

/-- Columns served by three ports of one row, the lowest only. -/
def Geo.triple (g : Geo) : Option Nat :=
  (List.range g.columns).find? fun c => decide (3 ≤ (g.servers false c).length) || decide (3 ≤ (g.servers true c).length)

/-- DETAIL of BAR_OVERLAP, none when no overlap fails. -/
def Geo.badOverlap (g : Geo) : Option Nat :=
  match g.wideOverlaps ++ g.triple.toList with
  | [] => none
  | c :: cs => some (cs.foldl min c)

/-- The segment check (R41). -/
def Geo.badSegments (g : Geo) (w : Web) : Bool :=
  decide (48 < g.segments w) || decide (g.segWidth w (g.segments w - 1) < 1024)

/-- The pitch check (R42): within 0.1 % of 25.4 mm / LPI. -/
def Web.badPitch (w : Web) : Bool :=
  let have_ : Int := w.pitchNum * w.countLenPm * w.lpi
  let want : Int := w.pitchDen * 25400000000
  decide (want < (have_ - want).natAbs * 1000)

/-- Takes the ring's chunks for a geometry, the old ring's given back first (R22); none when they do not fit. -/
def State.reserveRing (g : Geo) (w : Web) (s : State) : Option State :=
  let old := s.geo
  let s := s.moveChunks false old.ringAlloc.1 old.ringAlloc.2 0 old.ringChunks
  let n := g.ringChunks w
  if s.chunksFit 0 n && decide (2 * n ≤ s.totalChunks) then
    let base := s.pairBase
    let p := s.pairs
    some ((s.moveChunks true base p 0 n).updGeo fun u => { u with ringChunks := n, ringAlloc := (base, p) })
  else none

/-- The first failing check with its status and DETAIL, or the web settings and the state with the ring reserved (R405). -/
def barCommitCheck (s : State) : (Nat × Nat) ⊕ (Web × State) :=
  let g := s.geo.staged
  let none_ := 0xFFFFFFFF
  if !s.bat.pages.isEmpty then .inl (0x0201, none_)
  else
    match g.web with
    | none => .inl (0x0209, none_)
    | some w =>
      match (if w.dual then none else g.ports.find? fun p => p.2.rowB) with
      | some p => .inl (0x0205, p.1)
      | none =>
        match overNozzles 0 g.ports with
        | some p => .inl (0x020A, p)
        | none =>
          if w.limit < g.columns then .inl (0x0206, w.limit)
          else
            match g.gap w with
            | some c => .inl (0x0203, c)
            | none =>
              match g.badOverlap with
              | some c => .inl (0x0204, c)
              | none =>
                if g.badSegments w then .inl (0x0208, none_)
                else if w.badPitch then .inl (0x0207, none_)
                else
                  match s.reserveRing g w with
                  | none => .inl (0x020B, none_)
                  | some t => .inr (w, t)

/-- The ports whose nozzle entries are reset: those not enabled, and those whose count changed (R69). -/
def resetPorts (old : Option Geo) (g : Geo) : List Nat :=
  (List.range 48).filter fun p =>
    let c := g.port.get {} p
    let o := (old.getD {}).port.get {} p
    !c.enable || !o.enable || c.nozzles != o.nozzles

/-- Whether the base or the count of a port's nozzles changes (R69). -/
def layoutChanges (old : Option Geo) (g : Geo) : Bool :=
  (List.range 48).any fun p =>
    let c := g.port.get {} p
    let og := old.getD {}
    let o := og.port.get {} p
    c.enable != o.enable || (c.enable && (c.nozzles != o.nozzles || g.nozBase p != og.nozBase p))

/-- Makes a geometry current (R69, R70): journaled, entries moved or reset, ports matched, every window restarted. The codes of reset
entries follow the compaction that folds them (spec/01 R24). -/
def State.useGeo (g : Geo) (s : State) : State :=
  let reset := resetPorts s.geo.committed g
  let s := s.updGeo fun u => { u with staged := g, committed := some g }
  let s := s.updNvm fun n => { n with id := { n.id with geo := some g } }
  let s := s.updCal fun c => { c with
    data := { c.data with noz := c.data.noz.filter fun e => !reset.contains e.1 }, vol := c.vol.filter fun e => !reset.contains e.1 }
  let s := (List.range 48).foldl (fun t p => t.matchPort p) s
  s.restartAll.rehide

/-- BAR_COMMIT's own rules (R69, R405). With a changed layout it completes once the store is compacted. -/
def barCommitBody (s : State) : Answer :=
  match barCommitCheck s with
  | .inl (st, detail) => .done st (zeros 20 ++ le 4 detail) s
  | .inr (w, t) =>
    let g := s.geo.staged
    let t := t.useGeo g
    if layoutChanges s.geo.committed g then
      .later .commit (g.commitBytes w)
        ((t.updNvm fun n => { n with dropPorts := resetPorts s.geo.committed g }).startCompaction)
    else .done 0 (g.commitBytes w) t

/-- BAR_COMMIT, opcode 0x0203. -/
def srvBarCommit (h : MbHdr) (s : State) : State :=
  mbServe { op := 0x0203, len := 0 } h (twinGate none 0x0203 [] barCommitBody) s
/-- BAR_COMMIT. -/
def execBarCommit (h : MbHdr) (s : State) : Host.Outcome State Fault Refusal := mbCmd h (.barCommit h) (srvBarCommit h) s

end Sys2Proof.Machine
end

