-- ==== Sys2Proof/Machine/Image.lean ====
section
/-! DEFINITION. The flash, its slots, and the signed image (spec/12 R345, R346, R349, Tables 12-11, 12-12). -/

namespace Sys2Proof.Machine

/-- A byte of the flash; erased flash reads 0xFF (log 15). -/
def State.flashByte (s : State) (a : Nat) : Byte := s.boot.flash.get 0xFF a

/-- The first flash byte of a slot: A at 0, B at 32 MiB. -/
def slotBase (k : Nat) : Nat := if k = 0 then 0 else 33554432

/-- Bytes of a slot. -/
def slotBytes : Nat := 33554432

/-- The bytes of the image in a slot, from its header at slot offset 0x1000. -/
def State.slotByte (s : State) (k i : Nat) : Byte := s.flashByte (slotBase k + 0x1000 + i)

/-- A field of a byte source. -/
def readField (rd : Nat → Byte) (off n : Nat) : Nat := ofLe ((List.range n).map fun i => rd (off + i))

/-- Bytes of a byte source. -/
def readBytes (rd : Nat → Byte) (off n : Nat) : List Byte := (List.range n).map fun i => rd (off + i)

/-- SEQ of a valid slot record: its MAGIC and CRC hold. -/
def State.slotSeq (s : State) (k : Nat) : Option (BitVec 32) :=
  let r := (List.range 12).map fun i => s.flashByte (slotBase k + i)
  if r.take 4 = [0x4D, 0x53, 0x4C, 0x54] ∧ fieldAt r 8 4 = (crc32 (r.take 8)).toNat then some (BitVec.ofNat 32 (fieldAt r 4 4)) else none

/-- The order the slots are tried in: the valid record with the higher SEQ first (R346). -/
def State.slotOrder (s : State) : List Nat :=
  match s.slotSeq 0, s.slotSeq 1 with
  | some a, some b => if (b - a).toNat < 2 ^ 31 ∧ a ≠ b then [1, 0] else [0, 1]
  | none, some _ => [1, 0]
  | _, none => [0, 1]

/-- What an image's header says of it. -/
structure ImageInfo where
  fwVersion : BitVec 32
  svn : Nat
  key : Nat
  board : Board
  deriving DecidableEq, Repr

/-- The board record (Table 12-12), at header offset 0x018. -/
def boardOf (rd : Nat → Byte) : Board :=
  let f := fun o n => readField rd (0x18 + o) n
  { density := f 0 1, ranks := f 1 1, mts := f 2 2, bar2Log2 := f 4 1, pcieGen := f 5 1, pcieWidth := f 6 1 }

/-- The header's fields. -/
def imageInfo (rd : Nat → Byte) : ImageInfo :=
  { fwVersion := BitVec.ofNat 32 (readField rd 0x008 4), svn := readField rd 0x00C 2, key := readField rd 0x006 1, board := boardOf rd }

/-- A board record outside Table 12-12. -/
def boardBad (rd : Nat → Byte) : Bool :=
  let b := boardOf rd
  !([8, 16, 32].contains b.density && [1, 2].contains b.ranks && [4800, 5600, 6400].contains b.mts &&
    (b.bar2Log2 == 0 || (decide (28 ≤ b.bar2Log2) && decide (b.bar2Log2 ≤ 34))) && decide (1 ≤ b.pcieGen) &&
    decide (b.pcieGen ≤ 4) && [1, 2, 4, 8].contains b.pcieWidth && rd 0x1F == 0 &&
    (readBytes rd 0x24 52).all (· == 0))

/-- The header checks of code 1: MAGIC, HDR_VERSION, BODY_BYTES, ENTRY, BOARD, reserved bytes. -/
def headerBad (rd : Nat → Byte) : Bool :=
  let body := readField rd 0x010 4
  readBytes rd 0 4 != [0x4D, 0x47, 0x4E, 0x49] || readField rd 0x004 2 != 1 || rd 0x007 != 0 || readField rd 0x00E 2 != 0 ||
    decide (body < 4096) || decide (3145728 < body) || body % 4096 != 0 || decide (body ≤ readField rd 0x014 4) || boardBad rd ||
    (readBytes rd 0x058 168).any (· != 0) || (readBytes rd 0x161 31).any (· != 0) || (readBytes rd 0x1B0 80).any (· != 0) ||
    (readBytes rd 0x260 416).any (· != 0)

/-- R345: 0 for an image the boot ROM accepts, else the failure code of the first check that fails. -/
def State.imageCode (s : State) (rd : Nat → Byte) : Nat :=
  let key := readField rd 0x006 1
  let pub := readBytes rd 0x100 97
  if headerBad rd then 1
  else if Config.sha384 (readBytes rd 1024 (readField rd 0x010 4)) != readBytes rd 0x180 48 then 2
  else if decide (3 < key) || s.fuse.keyHash.get [] key != Config.sha384 pub || s.fuse.revoked.getLsbD key then 4
  else if !Config.ecdsaP384 pub (Config.sha384 (readBytes rd 0 0x200)) (readBytes rd 0x200 48) (readBytes rd 0x230 48) then 3
  else if decide (64 < readField rd 0x00C 2) || decide (readField rd 0x00C 2 < s.fuse.otpCounter) then 5
  else 0

/-- Writes bytes into the flash. -/
def State.flashWrite (a : Nat) (bs : List Byte) (s : State) : State :=
  s.updBoot fun b => { b with flash := SMap.setList 0xFF b.flash a bs }

/-- Erases a slot. -/
def State.flashErase (k : Nat) (s : State) : State :=
  s.updBoot fun b => { b with flash := b.flash.filter fun e => !(decide (slotBase k ≤ e.1) && decide (e.1 < slotBase k + slotBytes)) }

/-- A slot record with its SEQ (R349). -/
def slotRecord (q : BitVec 32) : List Byte :=
  let r := [0x4D, 0x53, 0x4C, 0x54] ++ le 4 q.toNat
  r ++ le 4 (crc32 r).toNat

end Sys2Proof.Machine
end

