-- ==== Sys2Proof/Machine/Axis.lean ====
section
/-! DEFINITION. Axis motion and position compares (spec/08 R243–R257): trapezoids planned step by step, stops and quick stops,
table profiles, electronic gearing, compares and trigger pulses. Speeds are kept as their squares, in (steps/s)². -/

namespace Sys2Proof.Machine

/-! ## Alerts -/

/-- AXIS_DONE of an axis (Table 08-2). -/
def State.axisDone (n : Nat) (s : State) : State := s.raise .mot n
/-- TRIG_MISSED of an output. -/
def State.trigMissed (n : Nat) (s : State) : State := s.raise .mot (8 + n)

/-! ## Compares (R243–R245) -/

/-- The next point of a compare, in Q48.16. -/
def Trig.next (t : Trig) : Int := t.position + (t.k * t.interval : Nat)

/-- A source that moved from one count to another came to or past a point in a permitted direction. -/
def crosses (dir : Nat) (prev now point : Int) : Bool :=
  (dir != 1 && decide (prev * 65536 < point ∧ point ≤ now * 65536)) ||
    (dir != 0 && decide (point < prev * 65536 ∧ now * 65536 ≤ point))

/-- A compare has no further point. -/
def Trig.over (t : Trig) : Bool := t.mode == 1 || (t.repeats != 0xFFFFFFFF && decide (t.repeats ≤ t.k))

/-- A compare moves on to its next point. -/
def Trig.advance (t : Trig) : Trig :=
  let t := { t with k := t.k + 1 }
  if t.over then { t with st := .done } else t

/-- Output `n` fires (R243). -/
def State.trigFire (n : Nat) (s : State) : State :=
  s.updTrig n fun t => { t.advance with
    fired := t.fired + 1, active := true, lastSec := s.time.clock.sec, lastNs := s.time.clock.ns }

/-- The points one movement of the source passes: the first fires unless the output is still active, the others are missed
(R245). -/
def State.trigPoints (n : Nat) (prev now : Int) : Nat → Bool → State → State
  | 0, _, s => s
  | f + 1, first, s =>
    let t := s.trigN n
    if t.st != .armed || !crosses t.dir prev now t.next then s
    else if first && !t.active then State.trigPoints n prev now f false (s.trigFire n)
    else State.trigPoints n prev now f false ((s.updTrig n fun t => { t.advance with missed := t.missed + 1 }).trigMissed n)

/-- A source of compares moved. -/
def State.srcMoved (src : Nat) (prev now : Int) (s : State) : State :=
  (List.range 8).foldl (fun s n =>
    if (s.trigN n).st == .armed && (s.trigN n).source == src then s.trigPoints n prev now ((now - prev).natAbs + 1) true else s) s

/-- The count of a compare's source. -/
def State.srcCount (s : State) (src : Nat) : Int := if src < 8 then (s.encN src).count else (s.axisN (src - 8)).pos

/-- Some armed compare has this source. -/
def State.srcArmed (s : State) (src : Nat) : Bool := (List.range 8).any fun n => (s.trigN n).st == .armed && (s.trigN n).source == src

/-! ## Trapezoids (R249, R250) -/

/-- V_MAX within V_LIMIT. -/
def Axis.vTop (a : Axis) : Nat := min a.rates.vMax a.vLimit

/-- A speed squared. -/
def sq (v : Nat) : Rat := ((v * v : Nat) : Rat)

/-- The square of the speed from which DECEL reaches V_STOP at the last of `rem` more steps. -/
def Axis.stopCurve (a : Axis) (rem : Nat) : Rat := sq a.rates.vStop + 2 * a.rates.decel * rem

/-- v_p² of a move of `d` steps from rest (R249). -/
def Axis.peak (a : Axis) (d : Nat) : Rat :=
  (2 * a.rates.accel * a.rates.decel * d + a.rates.decel * sq a.rates.vStart + a.rates.accel * sq a.rates.vStop) /
    (a.rates.accel + a.rates.decel)

/-- The axis comes to rest and takes up rates held back (R251). -/
def Axis.settleAt (st : AxisSt) (a : Axis) : Axis :=
  { a with st := st, speed2 := 0, flat := false, started := false, run := none, rates := a.heldRates.getD a.rates, heldRates := none }

/-- The states in which an axis is at rest. -/
def AxisSt.resting : AxisSt → Bool
  | .idle | .stoppedQuick | .disabled => true
  | _ => false

/-- The axis stands: at rest, or started and before its first step. -/
def Axis.stands (a : Axis) : Bool := a.st.resting || (!a.started && a.st != .table && a.st != .geared)

/-- The direction of travel as a sign. -/
def Axis.dirSign (a : Axis) : Int := if a.fwd then 1 else -1

/-- A trapezoid from rest to the target; true when it is done at once. -/
def Axis.fromRest (target : Int) (a : Axis) : Axis × Bool :=
  if target = a.pos then ({ a.settleAt .idle with target := target }, true)
  else
    ({ a with st := .accel, target := target, fwd := decide (a.pos < target), speed2 := 0, started := false,
              flat := decide (a.peak (target - a.pos).natAbs ≤ sq a.rates.vStart) }, false)

/-- What a moving axis reports on its way (R249). -/
def Axis.phase (a : Axis) (rem : Nat) : AxisSt :=
  if a.stopCurve rem ≤ a.speed2 then .decel else if a.speed2 < sq a.vTop then .accel else .cruise

/-- A new target for a moving axis (R250): a new trapezoid where it can stop in time, else REVERSING. -/
def Axis.replan (target : Int) (a : Axis) : Axis × Bool :=
  if a.stands then a.fromRest target
  else
    let d := (target - a.pos) * a.dirSign
    if (a.speed2 - sq a.rates.vStop) / (2 * a.rates.decel) ≤ d ∧ 0 ≤ d then
      if d = 0 then ({ a.settleAt .idle with target := target }, true)
      else ({ a with st := a.phase d.toNat, target := target, flat := false }, false)
    else if a.speed2 ≤ sq a.rates.vStart then a.fromRest target
    else ({ a with st := .reversing, target := target, flat := false }, false)

/-- The square of the speed at the next step (R249, R250, R252): V_START at the first step of a move and at every step of a short one. -/
def Axis.nextSq (a : Axis) : Rat :=
  match a.st with
  | .reversing => max 0 (a.speed2 - 2 * a.rates.decel)
  | .quickStopping => a.speed2 - 2 * a.qsDecel
  | _ =>
    if a.flat || !a.started then sq a.rates.vStart
    else max (a.speed2 - 2 * a.rates.decel) (min (a.speed2 + 2 * a.rates.accel)
      (min (sq a.vTop) (a.stopCurve (a.target - (a.pos + a.dirSign)).natAbs)))

/-- One step of a trapezoid; true when it is the last. -/
def Axis.trapStep (a : Axis) : Axis × Bool :=
  let pos := a.pos + a.dirSign
  if a.target = pos then ({ a with pos := pos }.settleAt .idle, true)
  else
    let v := a.nextSq
    let st : AxisSt := if a.flat then .cruise else if v < a.speed2 then .decel else if v = sq a.vTop then .cruise else .accel
    ({ a with pos := pos, speed2 := v, st := st, started := true }, false)

/-- One step of a reversal: at V_START the axis stops, turns and runs back to the target. -/
def Axis.revStep (a : Axis) : Axis × Bool :=
  let a := { a with pos := a.pos + a.dirSign, speed2 := a.nextSq }
  if a.speed2 ≤ sq a.rates.vStart then a.fromRest a.target else (a, false)

/-- One step of a quick stop (R252). -/
def Axis.quickStep (a : Axis) : Axis × Bool :=
  let a := { a with pos := a.pos + a.dirSign, speed2 := a.nextSq }
  if a.speed2 < ((2 * a.qsDecel : Nat) : Rat) then (a.settleAt .stoppedQuick, true) else (a, false)

/-! ## Table profiles (R254) -/

/-- Coefficients of a segment's cubic in u = τ / T: start position, b, c, d, and T in seconds. -/
structure Cubic where
  p : Rat
  b : Rat
  c : Rat
  d : Rat
  secs : Rat

/-- The cubic of a segment from a position (steps) and a velocity (steps/s). -/
def Seg.cubic (g : Seg) (p0 v0 : Rat) : Cubic :=
  let secs : Rat := (g.durationNs : Rat) / 1000000000
  let δ : Rat := (g.endPos : Rat) / 65536 - p0
  let v1 : Rat := g.endVel
  ⟨p0, v0 * secs, 3 * δ - (2 * v0 + v1) * secs, (v0 + v1) * secs - 2 * δ, secs⟩

/-- Position at `u`. -/
def Cubic.at (k : Cubic) (u : Rat) : Rat := k.p + k.b * u + k.c * u * u + k.d * u * u * u

/-- Speed at `u`, in steps/s. -/
def Cubic.vel (k : Cubic) (u : Rat) : Rat := (k.b + 2 * k.c * u + 3 * k.d * u * u) / k.secs

/-- The highest |speed| within the segment. -/
def Cubic.top (k : Cubic) : Rat :=
  let u := -k.c / (3 * k.d)
  let m := max |k.vel 0| |k.vel 1|
  if k.d ≠ 0 ∧ 0 < u ∧ u < 1 then max m |k.vel u| else m

/-- The turning points within the segment, in order; a square root is taken 2^-40 fine (log 20). -/
def Cubic.turnsAt (k : Cubic) : List Rat :=
  let us : List Rat :=
    if k.d = 0 then (if k.c = 0 then [] else [-k.b / (2 * k.c)])
    else
      let disc := k.c * k.c - 3 * k.d * k.b
      if disc < 0 then []
      else
        let r := ratSqrt disc
        let x := (-k.c - r) / (3 * k.d)
        let y := (-k.c + r) / (3 * k.d)
        if x ≤ y then [x, y] else [y, x]
  us.filter fun u => decide (0 < u ∧ u < 1)

/-- The times from the start and the step positions, relative to it, at which a table turns or a segment ends, and whether a segment runs
faster than `vLimit`; `t0`, `p0` and `v0` are those of the next segment's start. -/
def tablePath (vLimit : Nat) : Rat → Rat → Rat → List Seg → List (Rat × Int) × Bool
  | _, _, _, [] => ([], false)
  | t0, p0, v0, g :: gs =>
    let k := g.cubic p0 v0
    let (t, fast) := tablePath vLimit (t0 + k.secs) ((g.endPos : Rat) / 65536) g.endVel gs
    ((k.turnsAt.map fun u => (t0 + u * k.secs, (k.at u).floor)) ++ [(t0 + k.secs, (k.at 1).floor)] ++ t,
      fast || decide (g.durationNs < 1000) || decide ((vLimit : Rat) < k.top))

/-- The position of a running table some seconds after its start, relative to it. -/
def tablePos : Rat → Rat → List Seg → Rat → Rat
  | p0, _, [], _ => p0
  | p0, v0, g :: gs, t =>
    let k := g.cubic p0 v0
    if t < k.secs then k.at (t / k.secs) else tablePos ((g.endPos : Rat) / 65536) g.endVel gs (t - k.secs)

/-- The velocity of a running table some seconds after its start. -/
def tableVel : Rat → Rat → List Seg → Rat → Rat
  | _, _, [], _ => 0
  | p0, v0, g :: gs, t =>
    let k := g.cubic p0 v0
    if t < k.secs then k.vel (t / k.secs) else tableVel ((g.endPos : Rat) / 65536) g.endVel gs (t - k.secs)

/-- The seconds that a table takes. -/
def TableRun.secs (r : TableRun) : Rat := ((r.segs.map (·.durationNs)).sum : Nat) / 1000000000

/-- A table's turns still ahead of a position. -/
def TableRun.ahead (r : TableRun) (pos : Int) : List (Rat × Int) := r.turns.dropWhile fun x => x.2 == pos

/-- The end of a table's time, once every step is made; true when it is there. -/
def Axis.tableEnd (t : Rat) (a : Axis) : Axis × Bool :=
  match a.run with
  | some r => if r.ahead a.pos = [] ∧ r.secs ≤ t then (a.settleAt .idle, true) else (a, false)
  | none => (a, false)

/-- A table `t` seconds after its start: the next step toward its next turn, if the position has crossed it; true when the run ends. -/
def Axis.tableStep (t : Rat) (a : Axis) : Axis × Bool :=
  match a.run.map fun r => (r, r.ahead a.pos) with
  | some (r, x :: xs) =>
    let up := decide (a.pos < x.2)
    let ideal := r.base + (tablePos 0 0 r.segs t).floor
    if x.1 ≤ t ∨ (if up then a.pos < ideal else ideal < a.pos) then
      Axis.tableEnd t { a with pos := if up then a.pos + 1 else a.pos - 1, fwd := up, run := some { r with turns := x :: xs } }
    else (a, false)
  | _ => a.tableEnd t

/-! ## Gearing (R255–R257) -/

/-- The instantaneous ratio. -/
def Gear.now (g : Gear) : Rat := g.rampFrom + (g.rampTo - g.rampFrom) * min 1 (g.travel / g.blend)

/-- ENC_0 travels some counts, in either direction. -/
def Gear.pass (d : Rat) (g : Gear) : Gear := { g with travel := g.travel + d }

/-- The axis engages at the present count of ENC_0. -/
def Axis.engage (g : Gear) (a : Axis) : Axis :=
  { a with
    st := .geared, speed2 := 0, flat := false, target := a.pos,
    gear := some { g with engaged := true, q := a.pos, rampFrom := 0, rampTo := g.ratio, travel := 0 } }

/-- The pending changes that count `x` reaches moving forward, in order of AT_POS. -/
def Axis.dueRatios (x : Int) (a : Axis) : List (Int × Rat) :=
  (a.pend.filter fun e => decide (e.1 ≤ x * 65536)).mergeSort fun e f => decide (e.1 ≤ f.1)

/-- ENC_0 moves forward from count `x` − 1 to `x`: the ratio travels on, and each change reached starts its ramp at its AT_POS from the ratio
there (R256). -/
def Gear.forward (x : Int) (due : List (Int × Rat)) (g : Gear) : Gear :=
  let r := due.foldl (fun (r : Rat × Gear) e =>
    let p : Rat := max r.1 ((e.1 : Rat) / 65536)
    let g := r.2.pass (p - r.1)
    (p, { g with rampFrom := g.now, rampTo := e.2, travel := 0 })) ((x - 1 : Rat), g)
  r.2.pass (x - r.1)

/-- ENC_0 moves one count, to `x`; how many ratio changes applied. -/
def Axis.gearCount (up : Bool) (x : Int) (a : Axis) : Axis × Nat :=
  let due := if up then a.dueRatios x else []
  let a := if up then { a with pend := a.pend.filter fun e => decide (x * 65536 < e.1) } else a
  match a.gear with
  | some g =>
    if g.engaged then
      let g := if up then g.forward x due else g.pass 1
      ({ a with gear := some { g with q := if up then g.q + g.now else g.q - g.now } }, due.length)
    else if up && decide (g.engagePos ≤ x * 65536) then (a.engage g, 0)
    else (a, 0)
  | none => (a, 0)

/-- ENC_0 moves `n` counts from `x`. -/
def Axis.gearCounts (up : Bool) : Nat → Int → Axis → Nat → Axis × Nat
  | 0, _, a, k => (a, k)
  | n + 1, x, a, k =>
    let x := if up then x + 1 else x - 1
    let r := a.gearCount up x
    Axis.gearCounts up n x r.1 (k + r.2)

/-- How far the ideal position of a geared axis is ahead, in steps. -/
def Axis.gearAhead (a : Axis) : Int := match a.gear with | some g => g.q.floor - a.pos | none => 0

/-- One step of a geared axis toward its ideal position. -/
def Axis.gearStep (a : Axis) : Axis :=
  if 0 < a.gearAhead then { a with pos := a.pos + 1, fwd := true }
  else if a.gearAhead < 0 then { a with pos := a.pos - 1, fwd := false } else a

/-! ## Velocity, stops and quick stops (R252, R253) -/

/-- The velocity of an axis in steps/s for a table or gearing; 0 otherwise. -/
def State.ideal (s : State) (a : Axis) : Rat :=
  match a.st, a.run, a.gear with
  | .table, some r, _ => tableVel 0 0 r.segs (secOf (s.now - r.startT))
  | .geared, _, some g => g.now * (s.encN 0).speed
  | _, _, _ => 0

/-- VELOCITY in Q48.16 (Table 08-12). -/
def State.axisVel (s : State) (a : Axis) : Int :=
  if a.st = .table ∨ a.st = .geared then (s.ideal a * 65536).floor
  else a.dirSign * (Nat.sqrt (a.speed2 * (2 ^ 32 : Nat)).floor.toNat : Int)

/-- Leaves a table or gearing with its present velocity. -/
def State.breakOff (s : State) (a : Axis) : Axis :=
  if a.st = .table ∨ a.st = .geared then
    let v := s.ideal a
    { a with speed2 := v * v, fwd := decide (0 ≤ v), run := none, gear := none, started := true }
  else a

/-- Stops at DECEL at the nearest position (R252); true when it is at rest at once. -/
def State.stopPlan (s : State) (a : Axis) : Axis × Bool :=
  let a := s.breakOff a
  let n := ((a.speed2 - sq a.rates.vStop) / (2 * a.rates.decel)).ceil.toNat
  if n = 0 ∨ a.speed2 = 0 then ({ a.settleAt .idle with target := a.pos }, true)
  else ({ a with st := .decel, target := a.pos + a.dirSign * n, flat := false }, false)

/-- MOT_STOP on an axis, and the end of gearing. -/
def State.axisStop (n : Nat) (s : State) : State :=
  let a := s.axisN n
  if a.st = .quickStopping then s
  else if a.st.resting then s.axisDone n
  else
    let r := s.stopPlan a
    let s := s.updAxis n fun _ => r.1
    if r.2 then s.axisDone n else s

/-- A quick stop with its cause (R252, R253). -/
def State.quickStop (cause n : Nat) (s : State) : State :=
  let a := s.axisN n
  if a.st = .quickStopping then s
  else
    let stands := a.stands
    let a := { s.breakOff a with cause := cause, gear := none, pend := [], flat := false }
    let s := s.raise .mot 26
    if stands || decide (a.speed2 < ((2 * a.qsDecel : Nat) : Rat)) then
      (s.updAxis n fun _ => { a.settleAt .stoppedQuick with target := a.pos }).axisDone n
    else s.updAxis n fun _ => { a with st := .quickStopping }

/-- The interlock stops of input bits that became active (R253). -/
def State.ilkStops (m : Byte) (s : State) : State :=
  (List.range 8).foldl (fun s n => if (s.axisN n).ilkStop &&& m != 0 then s.quickStop 2 n else s) s

/-! ## Steps (R248) and the movement of ENC_0 -/

/-- |velocity| of an axis in steps/s, rounded down. -/
def State.axisRate (s : State) (n : Nat) : Nat := (s.axisVel (s.axisN n)).natAbs / 65536

/-- The four axes of an engine demand more steps than it guarantees (R248, R26). -/
def State.engineOver (s : State) (n : Nat) : Bool :=
  decide ((if s.pwr.droop then 5000000 else 10000000) < ((List.range 4).map fun i => s.axisRate (n / 4 * 4 + i)).sum)

/-- The interval queue at a step (R248): the timer takes an interval, or waits and counts STEP_LATE where the queue is empty; the engine keeps
it full within the guarantee, and beyond it fills it to a level that is open (log 6). -/
def State.queueStep (n : Nat) (s : State) : State :=
  if !s.engineOver n then s.updAxis n fun a => { a with queued := 8 }
  else
    let late := (s.axisN n).queued == 0
    let (x, s) := s.drawBelow (10 - (s.axisN n).queued)
    let s := s.updAxis n fun a => { a with queued := min 8 (a.queued - 1 + x) }
    if late then (s.updAxis n fun a => { a with stepLate := a.stepLate + 1 }).raise .mot 24 else s

/-- A step of an axis: the next step position, and what its state becomes; `t` is the time of a running table. -/
def Axis.step (t : Rat) (a : Axis) : Axis × Bool :=
  match a.st with
  | .accel | .cruise | .decel => a.trapStep
  | .reversing => a.revStep
  | .quickStopping => a.quickStep
  | .table => a.tableStep t
  | .geared => (a.gearStep, false)
  | .idle | .stoppedQuick | .disabled => (a, false)

/-- The seconds since an axis's table started. -/
def State.tableTime (s : State) (a : Axis) : Rat := match a.run with | some r => secOf (s.now - r.startT) | none => 0

/-- Nanoseconds as TIME ticks of 2.5 ns, rounded up. -/
def ticksOfNs (ns : Nat) : Nat := ceilDiv (2 * ns) 5

/-- The first tick at which a step in direction `up` keeps R247: at a turn, DIR changes DIR_HOLD_NS after the last pulse has ended, and the
step follows DIR_SETUP_NS later. -/
def Axis.turnAt (up : Bool) (a : Axis) : Nat :=
  match a.lastStep with
  | some t => if up = a.dirOut then 0 else t + ticksOfNs (a.pulseNs + a.dirHoldNs) + ticksOfNs a.dirSetupNs
  | none => 0

/-- The seconds to the step after a move's step that has just been made (R249), none before the first step of a move. Two speeds of zero
have no interval (log 79). -/
def Axis.interval (a : Axis) : Option Rat :=
  match a.st with
  | .accel | .cruise | .decel | .reversing | .quickStopping =>
    let v := ratSqrt a.speed2 + ratSqrt a.nextSq
    if a.started ∧ v ≠ 0 then some (2 / v) else none
  | .geared => some a.gap
  | _ => none

/-- Loads the timer at tick `now` (R248): the interval rounded to a tick of 2.5 ns, the remainder carried into the next. -/
def Axis.reload (now : Nat) (a : Axis) : Axis :=
  match a.interval with
  | some x =>
    let y := x * ticksPerSec + a.carry
    { a with due := now + (nearest y).toNat, carry := y - nearest y }
  | none => { a with due := now, carry := 0 }

/-- The level of an axis's STEP ball: active for PULSE_NS from a step on, active low where its flag says so (R247). -/
def State.stepPin (s : State) (n : Nat) : Bool :=
  let a := s.axisN n
  (match a.lastStep with | some t => decide (s.time.ticks < t + ticksOfNs a.pulseNs) | none => false) != a.stepLow

/-- The level of an axis's DIR ball: high forward, reversed by DIR_INVERT. It changes DIR_HOLD_NS after the last pulse of the old direction, once
the axis is to move in the new one. -/
def State.dirPin (s : State) (n : Nat) : Bool :=
  let a := s.axisN n
  let turned : Bool := match a.lastStep with | some t => decide (t + ticksOfNs (a.pulseNs + a.dirHoldNs) ≤ s.time.ticks) | none => true
  (if turned && !a.st.resting then a.fwd else a.dirOut) != a.dirInvert

/-- An axis whose step timer has run out: it issues a step, when DIR allows it, and the timer is loaded anew. -/
def State.axisStep (n : Nat) (s : State) : State :=
  let a := s.axisN n
  let now := s.time.ticks
  let r := a.step (s.tableTime a)
  if 7 < n ∨ now < a.due ∨ (r.1.pos ≠ a.pos ∧ now < a.turnAt (decide (a.pos < r.1.pos))) then s
  else if r.1.pos = a.pos then
    let s := s.updAxis n fun _ => r.1
    if r.2 then s.axisDone n else s
  else
    let s := s.updAxis n fun _ => { r.1 with lastStep := some now, dirOut := decide (a.pos < r.1.pos) }.reload now
    let s := if r.2 then s.axisDone n else s
    (s.queueStep n).srcMoved (8 + n) a.pos r.1.pos

/-- The follow-error check of an axis (R257). -/
def State.followCheck (n : Nat) (s : State) : State :=
  let a := s.axisN n
  match a.gear with
  | some g => if a.st = .geared ∧ (g.followLimit : Rat) < |g.q - a.pos| then (s.quickStop 3 n).raise .mot 25 else s
  | none => s

/-- The steps that an edge demands are spread over the interval between the previous two edges, no faster than V_LIMIT (R255); without two
edges V_LIMIT alone holds. -/
def Axis.spread (now : Nat) (secs : Option Rat) (a : Axis) : Axis :=
  if a.st ≠ .geared ∨ a.gearAhead = 0 then a
  else Axis.reload now { a with gap := max (secs.getD 0 / a.gearAhead.natAbs) (1 / a.vLimit), carry := 0 }

/-- ENC_0 moved, `secs` after its previous edge: gearing follows. -/
def State.gearMoved (secs : Option Rat) (prev now : Int) (s : State) : State :=
  (List.range 8).foldl (fun s n =>
    let a := s.axisN n
    if a.gear.isNone && a.pend.isEmpty then s
    else
      let r := a.gearCounts (decide (prev < now)) (now - prev).natAbs prev 0
      let s := s.updAxis n fun _ => r.1.spread s.time.ticks secs
      let s := if r.2 = 0 then s else s.raise .mot 27
      s.followCheck n) s

end Sys2Proof.Machine
end

