-- ==== Sys2Proof/Machine/Products.lean ====
section
/-! DEFINITION. What the inspection hands out beside a line's own processing (spec/06 R196, R199): the rows of the preview, defect
records, spot regions that end. -/

namespace Sys2Proof.Machine

/-! ## Preview rows (R196) -/

/-- round(255 × r^(1/2.2)) of a ratio of at most 1: the highest level whose lower bound r reaches. -/
def gammaOf (r : Rat) : Nat :=
  ((List.range 255).filter fun v => decide (((2 * v + 1 : Nat) : Rat) ^ 11 ≤ r ^ 5 * ((510 : Nat) : Rat) ^ 11)).length

/-- Bytes of a preview row in the ring. -/
def previewRowBytes (columns binCols : Nat) (colour : Bool) : Nat :=
  ceilDiv (ceilDiv columns binCols * (if colour then 3 else 1)) 64 * 64

/-- The bytes of a preview row: per column the mean ratio of what its owner delivered, 0 where none did, averaged over the columns
of a pixel. -/
def State.rowBytes (s : State) : List Byte :=
  let v := s.vis.preview
  let columns := s.barColumns
  let at_ := fun (c ch : Nat) => let n := v.counts.get 0 c; if n = 0 then (0 : Rat) else v.sums.get 0 (c * 3 + ch) / n
  (List.range (ceilDiv columns v.binCols)).flatMap fun j =>
    let cs := (List.range v.binCols).filterMap fun i => if j * v.binCols + i < columns then some (j * v.binCols + i) else none
    (if v.colour then [0, 1, 2] else [0]).map fun ch =>
      BitVec.ofNat 8 (gammaOf ((cs.map fun c => at_ c ch).sum / (cs.length : Rat)))

/-- Writes the row in progress into the preview ring and begins the next. -/
def State.writeRow (s : State) : State :=
  let v := s.vis.preview
  let size := previewRowBytes s.barColumns v.binCols v.colour
  let bs := s.rowBytes
  (s.dramWrite (v.addr + v.nextRow * size) (bs ++ zeros (size - bs.length))).updVis fun x => { x with
    preview := { v with nextRow := (v.nextRow + 1) % v.rows, row := v.row + 1, sums := [], counts := [] } }

/-- Writes the rows up to the one numbered `r`, which becomes the row in progress; rows of which no line was delivered among them. -/
def State.rowsTo (r : Nat) (s : State) : State :=
  if !s.vis.preview.enable ∨ s.vis.preview.row = 0 then s
  else (List.range (r - s.vis.preview.row)).foldl (fun t _ => t.writeRow) s

/-- No more lines of frame `f` of CAM_0 come: the rows whose triggers end with it are written. -/
def State.rowsOfFrame (f : Nat) (s : State) : State := s.rowsTo ((f + 1) * 256 / s.vis.preview.binLines + 1)

/-! ## Density requests (R198) -/

/-- A column is STALE (R216, R220). -/
def State.isStale (s : State) (c : Nat) : Bool :=
  let t := s.loop.stale.get {} c
  t.codes || match t.until_ with | some p => decide (s.webPos < p) | none => false

/-- The first and the last bar-reference position averaged; 0 where no line was. -/
def DensReq.positions (q : DensReq) : Int × Int :=
  match q.span.filterMap (·.2) with
  | [] => (0, 0)
  | a :: l => l.foldl (fun x y => (min x.1 y.1, max x.2 y.2)) a

/-- The 4 bytes of a column, with the mean it reports. -/
def State.densEntry (s : State) (q : DensReq) (c : Nat) : Nat :=
  let (sum, n) := q.sums.get (0, 0) c
  let stale := s.isStale c
  let mean := if stale then s.vis.lastDens.get 0 c else if n = 0 then 0 else roundNat ((sum : Rat) / n)
  mean + bit (s.owner c).isNone 16 + bit stale 17 + bit (decide (n < q.lines)) 18

/-- The request is answered once the lines of every owning camera have passed. -/
def State.densityDone (s : State) : State :=
  match s.vis.density with
  | none => s
  | some q =>
    if s.owners.any fun p => !q.ended.contains p then s
    else
      let n := s.barColumns
      let cells := (List.range n).map fun c => (c, s.densEntry q c)
      let epochOf := fun p => if q.first.get 0 p = 0 then (s.camN p).epoch else q.epoch.get 0 p
      let head := (List.range 4).flatMap (fun p => le 1 (epochOf p).toNat) ++ zeros 4 ++ leI 8 q.positions.1 ++ leI 8 q.positions.2 ++
        le 4 n ++ zeros 4
      let s := s.dramWrite q.addr (head ++ cells.flatMap fun e => le 4 e.2)
      (s.updVis fun v => { v with
        density := none,
        lastDens := cells.foldl (fun m e => if s.isStale e.1 then m else SMap.set 0 m e.1 (e.2 % 65536)) v.lastDens }).raise .cam 6

/-! ## Defect records (R199) -/

/-- Appends a defect record; the oldest of 1,024 is overwritten. -/
def State.addDefect (r : DefectRec) (s : State) : State :=
  (s.updVis fun v => { v with
    defects := (v.defects ++ [{ r with seq := v.nextSeq }]).drop (v.defects.length + 1 - 1024), nextSeq := v.nextSeq + 1 }).raise .cam 4

/-- A deviation as a signed Q4.12 field; one outside the format is a free value (log 6). -/
def State.magnitude (q : Rat) (s : State) : Int × State :=
  let m := (q + 1 / 2).floor
  if -32768 ≤ m ∧ m ≤ 32767 then (m, s) else let r := s.drawBelow 65536; ((r.1 : Int) - 32768, r.2)

/-- A closed region of enough samples becomes a record. -/
def State.spotRec (x : Spot) (s : State) : State :=
  if x.samples.length < s.vis.defect.spotMin then s
  else
    let cs := x.samples.map (·.1)
    let ls := x.samples.map (·.2)
    let m := s.magnitude (x.sum / (x.samples.length : Rat))
    m.2.addDefect { kind := if x.dark then 2 else 3, port := x.port, epoch := x.epoch, firstCol := cs.foldl min (cs.headD 0),
                    lastCol := cs.foldl max 0, pos := x.pos,
                    length := ls.foldl max 0 + 1 - ls.foldl min (ls.headD 0), magnitude := m.1 }

/-- The regions of a camera that no further line can reach are closed. -/
def State.closeSpots (p : Nat) (s : State) : State :=
  let mine := s.vis.spots.filter fun x => x.port == p
  mine.foldl (fun t x => t.spotRec x) (s.updVis fun x => { x with spots := x.spots.filter fun x => x.port != p })

/-- The streak averages of columns start anew (R194, spec/07 R221). -/
def State.restartStreaks (cs : List Nat) (s : State) : State :=
  s.updVis fun v => { v with streak := v.streak.filter fun e => !cs.contains e.1 }

end Sys2Proof.Machine
end

