-- ==== Sys2Proof/Machine/Slate.lean ====
section
/-! DEFINITION. The SLATE commands (spec/05 R167, R171, R173–R175, R178–R181, Tables 05-8 to 05-15): page-store entries and binds,
status, egress streams, state records and counters. -/

namespace Sys2Proof.Machine

/-- Whether a DMA channel is configured for a direction. -/
def State.channelFor (s : State) (ch : Byte) (egress : Bool) : Bool :=
  decide (ch.toNat < 32) && (s.dmaN ch.toNat).st != .idle && (s.dmaN ch.toNat).egress == egress

/-! ## SLATE_OPEN, SLATE_BIND -/

/-- The lowest-numbered free entry (R174). -/
def State.freeEntryNo (s : State) : Option Nat := (List.range 1024).find? fun e => (s.entry? e).isNone

/-- SLATE_OPEN's rules. -/
def slateOpenBody (segments flags : Byte) (lines : BitVec 32) (s : State) : Answer :=
  if 48 < segments.toNat ∨ 1048576 < lines.toNat then fail 0x060D s
  else if !s.isLead then fail 0x0608 s
  else
    match s.freeEntryNo with
    | none => fail 0x0602 s
    | some e =>
      okWith (le 2 e ++ zeros 2 ++ le 4 s.freeChunks)
        (s.updSlate fun t => { t with
          entries := t.entries.set none e (some { segments := segments.toNat, lines := lines.toNat, autoFree := flags.getLsbD 0 }) })

/-- SLATE_OPEN, opcode 0x0601. -/
def srvSlateOpen (h : MbHdr) (segments flags : Byte) (rsv : BitVec 16) (lines : BitVec 32) (s : State) : State :=
  mbServe { op := 0x0601, len := 8, rsv := 1 < flags.toNat || rsv != 0, zero := segments == 0 || lines == 0 } h
    (slateOpenBody segments flags lines) s
/-- SLATE_OPEN. -/
def execSlateOpen (h : MbHdr) (segments flags : Byte) (rsv : BitVec 16) (lines : BitVec 32) (s : State) :
    Host.Outcome State Fault Refusal :=
  mbCmd h (.slateOpen h segments flags rsv lines) (srvSlateOpen h segments flags rsv lines) s

/-- Changes a stream of an entry. -/
def State.updStream (e j : Nat) (f : Stream → Stream) (s : State) : State :=
  s.updSlate fun t =>
    { t with
      entries := t.entries.upd none e fun x => x.map fun en => { en with stream := SMap.upd {} en.stream j f } }

/-- The first failing check of SLATE_BIND (R181). -/
def bindBad (entry : Nat) (seg channel : Byte) (bytes : Nat) (s : State) : Option Nat :=
  if bytes < 72 ∨ 0xFFFFFFF8 < bytes ∨ bytes % 8 ≠ 0 then some 0x060D
  else if !s.isLead then some 0x0608
  else
    match s.entry? entry with
    | none => some 0x0601
    | some en => firstBad [
        (decide (en.segments ≤ seg.toNat), 0x0603),
        ((en.stream.get {} seg.toNat).st != .unbound, 0x0604),
        (!s.channelFor channel false, 0x0605),
        (decide (16 ≤ (s.slate.binds.get [] channel.toNat).length), 0x0606),
        (!s.chunksFit seg.toNat (chunksOf bytes), 0x0602)]

/-- Binds a stream: its chunks are reserved and it waits for its bytes on the channel (R171). -/
def State.bindStream (entry seg ch bytes : Nat) (s : State) : State :=
  let s := s.moveChunks true s.pairBase s.pairs seg (chunksOf bytes) |>.updStream entry seg fun _ =>
    { st := .receiving, channel := ch, declared := bytes, alloc := some (s.pairBase, s.pairs) }
  s.updSlate fun t => { t with binds := t.binds.upd [] ch fun l => l ++ [{ entry := entry, seg := seg, bytesLeft := bytes }] }

/-- SLATE_BIND's rules (R181). -/
def slateBindBody (entry : BitVec 16) (seg channel : Byte) (bytes : BitVec 32) (s : State) : Answer :=
  match bindBad entry.toNat seg channel bytes.toNat s with
  | some c => fail c s
  | none => ok (s.bindStream entry.toNat seg.toNat channel.toNat bytes.toNat)

/-- SLATE_BIND, opcode 0x0602. -/
def srvSlateBind (h : MbHdr) (storeEntry : BitVec 16) (seg channel : Byte) (bytes : BitVec 32) (s : State) : State :=
  mbServe { op := 0x0602, len := 8, zero := bytes == 0 } h (slateBindBody storeEntry seg channel bytes) s
/-- SLATE_BIND. -/
def execSlateBind (h : MbHdr) (storeEntry : BitVec 16) (seg channel : Byte) (bytes : BitVec 32) (s : State) :
    Host.Outcome State Fault Refusal :=
  mbCmd h (.slateBind h storeEntry seg channel bytes) (srvSlateBind h storeEntry seg channel bytes) s

/-! ## SLATE_STATUS, SLATE_STREAM_STATUS, SLATE_FREE, SLATE_STORE_INFO -/

/-- A stream state's code (Table 05-10). -/
def StreamSt.code : StreamSt → Nat
  | .unbound => 0 | .receiving => 1 | .resident => 2 | .error => 3

/-- Queued pages that name an entry. -/
def State.queuedOn (s : State) (e : Nat) : Nat := (s.bat.pages.filter fun p => p.entry == e).length

/-- ENTRY_STATE (Table 05-10). -/
def State.entryState (s : State) (e : Nat) (en : Entry) : Nat :=
  let st := (List.range en.segments).map fun j => (en.stream.get {} j).st
  if 0 < s.queuedOn e then 4 else if st.any (· == .error) then 3 else if st.all (· == .resident) then 2 else 1

/-- The SLATE_STATUS response. -/
def State.entryBytes (s : State) (e : Nat) : List Byte :=
  match s.entry? e with
  | none => zeros 64
  | some en =>
    le 1 (s.entryState e en) ++ le 1 en.segments ++ le 1 (bit en.autoFree 0) ++ zeros 1 ++ le 4 en.lines ++ le 4 (s.queuedOn e) ++
      zeros 4 ++ (List.range 48).flatMap fun j => le 1 (en.stream.get {} j).st.code

/-- SLATE_STATUS, opcode 0x0603. -/
def srvSlateStatus (h : MbHdr) (storeEntry : BitVec 16) (rsv : BitVec 16) (s : State) : State :=
  mbServe { op := 0x0603, len := 4, rsv := rsv != 0 } h
    (fun s => if 1023 < storeEntry.toNat then fail 0x0601 s else okWith (s.entryBytes storeEntry.toNat) s) s
/-- SLATE_STATUS. -/
def execSlateStatus (h : MbHdr) (storeEntry : BitVec 16) (rsv : BitVec 16) (s : State) : Host.Outcome State Fault Refusal :=
  mbCmd h (.slateStatus h storeEntry rsv) (srvSlateStatus h storeEntry rsv) s

/-- A stream's status (Table 05-11). -/
def Stream.bytes (t : Stream) : List Byte :=
  le 1 t.st.code ++ le 1 t.errCode ++ le 1 t.channel ++ zeros 1 ++ le 4 t.declared ++ le 4 t.received ++ le 4 t.errOff ++
    le 4 t.blocks ++ le 4 t.keyBlocks ++ le 4 t.tag.toNat

/-- SLATE_STREAM_STATUS' rules. -/
def slateStreamStatusBody (storeEntry : BitVec 16) (seg : Byte) (s : State) : Answer :=
  match s.entry? storeEntry.toNat with
  | none => fail 0x0601 s
  | some en => if en.segments ≤ seg.toNat then fail 0x0603 s else okWith (en.stream.get {} seg.toNat).bytes s

/-- SLATE_STREAM_STATUS, opcode 0x0604. -/
def srvSlateStreamStatus (h : MbHdr) (storeEntry : BitVec 16) (seg rsv : Byte) (s : State) : State :=
  mbServe { op := 0x0604, len := 4, rsv := rsv != 0 } h (slateStreamStatusBody storeEntry seg) s
/-- SLATE_STREAM_STATUS. -/
def execSlateStreamStatus (h : MbHdr) (storeEntry : BitVec 16) (seg rsv : Byte) (s : State) : Host.Outcome State Fault Refusal :=
  mbCmd h (.slateStreamStatus h storeEntry seg rsv) (srvSlateStreamStatus h storeEntry seg rsv) s

/-- SLATE_FREE's rules (R174, R175). -/
def slateFreeBody (storeEntry : BitVec 16) (s : State) : Answer :=
  let e := storeEntry.toNat
  if !s.isLead then fail 0x0608 s
  else if (s.entry? e).isNone then fail 0x0601 s
  else if s.entryInUse e then fail 0x0607 s
  else ok (s.freeMirrored e)

/-- SLATE_FREE, opcode 0x0605. -/
def srvSlateFree (h : MbHdr) (storeEntry : BitVec 16) (rsv : BitVec 16) (s : State) : State :=
  mbServe { op := 0x0605, len := 4, rsv := rsv != 0 } h (slateFreeBody storeEntry) s
/-- SLATE_FREE. -/
def execSlateFree (h : MbHdr) (storeEntry : BitVec 16) (rsv : BitVec 16) (s : State) : Host.Outcome State Fault Refusal :=
  mbCmd h (.slateFree h storeEntry rsv) (srvSlateFree h storeEntry rsv) s

/-- The SLATE_STORE_INFO response. -/
def State.storeInfo (s : State) : List Byte :=
  let free := (List.range s.pairs).map s.freeIn
  le 4 s.totalChunks ++ le 4 s.freeChunks ++ le 4 (free.foldl min (free.headD 0)) ++ le 4 s.slate.entries.length

/-- SLATE_STORE_INFO, opcode 0x0606. -/
def srvSlateStoreInfo (h : MbHdr) (s : State) : State :=
  mbServe { op := 0x0606, len := 0 } h (fun s => okWith s.storeInfo s) s
/-- SLATE_STORE_INFO. -/
def execSlateStoreInfo (h : MbHdr) (s : State) : Host.Outcome State Fault Refusal :=
  mbCmd h (.slateStoreInfo h) (srvSlateStoreInfo h) s

/-! ## Egress streams (R176–R179) -/

def State.esN (s : State) (i : Nat) : EgressStream := s.slate.es.get {} i
def State.updEs (i : Nat) (f : EgressStream → EgressStream) (s : State) : State :=
  s.updSlate fun t => { t with es := t.es.upd {} i f }

/-- WIDTH of an egress stream's source (Table 06-5); 0 while it has none. -/
def State.esWidth (s : State) (e : EgressStream) : Nat :=
  let l := (s.camN e.srcPort).link
  if !e.srcSet then 0 else if e.srcKind = 1 then l.pixels else l.pixels * l.channels

/-- Publishes bytes to a stream's egress channel. -/
def State.publish (ch : Nat) (bs : List Byte) (s : State) : State :=
  (s.updDma ch fun d => { d with out := d.out ++ bs }).updSlate fun t => { t with encBytes := t.encBytes + BitVec.ofNat 64 bs.length }

/-- The END block of an egress stream, with the padding before it (R157, R178). -/
def endBlock (c : CodecSt) : List Byte := padTo8 c.offset ++ blockBytes 0x0F 0 0 c.nextLine []

/-- Closes an egress stream: END, and its waiting jobs are gone (R178). -/
def State.closeEs (i : Nat) (s : State) : State :=
  let e := s.esN i
  if !e.isOpen then s
  else
    ((s.publish e.channel (endBlock e.codec)).updEs i fun e =>
      { e with isOpen := false, closing := false,
               codec := { e.codec with offset := e.codec.offset + (endBlock e.codec).length } }).updSlate fun t =>
      { t with encJobs := t.encJobs.filter fun j => j.es != i }

/-- The encoder works on a job of a stream. -/
def State.encBusyOn (s : State) (i : Nat) : Bool := match s.slate.encBusy with | some (j, _) => j.es == i | none => false

/-- SLATE_ENC_OPEN's rules (Table 05-12). -/
def slateEncOpenBody (p : EncOpenReq) (s : State) : Answer :=
  let i := p.es.toNat
  checked (firstBad [
      (decide (7 < i) || decide (7 < p.level.toNat), 0x060D),
      (decide (31 < p.channel.toNat), 0x0605),
      (decide (4096 < p.blockLines.toNat), 0x060D)])
    (fun s =>
      if (s.esN i).isOpen then fail 0x0609 s
      else if !s.channelFor p.channel true then fail 0x0605 s
      else ok (s.updEs i fun e => { e with
        isOpen := true, closing := false, level := p.level.toNat, channel := p.channel.toNat, blockLines := p.blockLines.toNat,
        keyInterval := p.keyInterval.toNat, tag := p.streamTag, headerDone := false, codec := {}, nextFrame := 0 })) s

/-- SLATE_ENC_OPEN, opcode 0x0607. -/
def srvSlateEncOpen (h : MbHdr) (p : EncOpenReq) (s : State) : State :=
  mbServe { op := 0x0607, len := 12, rsv := p.rsv != 0, zero := p.blockLines == 0 || p.keyInterval == 0,
            gated := fun s => s.visGated || s.stepAccepted 5 } h (slateEncOpenBody p) s
/-- SLATE_ENC_OPEN. -/
def execSlateEncOpen (h : MbHdr) (p : EncOpenReq) (s : State) : Host.Outcome State Fault Refusal :=
  mbCmd h (.slateEncOpen h p) (srvSlateEncOpen h p) s

/-- SLATE_ENC_CLOSE's rules: after the job in progress (R178). -/
def slateEncCloseBody (es : Byte) (s : State) : Answer :=
  let i := es.toNat
  if 7 < i then fail 0x060D s
  else if !(s.esN i).isOpen then fail 0x060A s
  else if s.encBusyOn i then ok (s.updEs i fun e => { e with closing := true })
  else ok (s.closeEs i)

/-- SLATE_ENC_CLOSE, opcode 0x0608. -/
def srvSlateEncClose (h : MbHdr) (es : Byte) (rsv : BitVec 24) (s : State) : State :=
  mbServe { op := 0x0608, len := 4, rsv := rsv != 0, gated := State.visGated } h (slateEncCloseBody es) s
/-- SLATE_ENC_CLOSE. -/
def execSlateEncClose (h : MbHdr) (es : Byte) (rsv : BitVec 24) (s : State) : Host.Outcome State Fault Refusal :=
  mbCmd h (.slateEncClose h es rsv) (srvSlateEncClose h es rsv) s

/-! ## State records (R167, R179) -/

/-- The state record of a decoder segment or of an egress stream. -/
def State.stateRec (s : State) (kind i : Nat) : List Byte :=
  if kind = 0 then
    let w := (s.slate.decHdr.get (0, 0) i)
    stateRecord 0 2 w.1 0 w.2 (s.slate.dec.get {} i)
  else
    let e := s.esN i
    stateRecord 1 e.srcDepth (s.esWidth e) e.level e.tag e.codec

/-- SLATE_STATE_READ's rules (Table 05-13). -/
def slateStateReadBody (kind index : Byte) (addr : BitVec 64) (s : State) : Answer :=
  let r := s.stateRec kind.toNat index.toNat
  checked (firstBad [
      (decide (1 < kind.toNat) || decide ((if kind = 0 then 47 else 7) < index.toNat), 0x060D),
      (!s.addrOk addr.toNat r.length, 0x060B)])
    (fun s => okWith (le 4 r.length) (s.dramWrite addr.toNat r)) s

/-- SLATE_STATE_READ, opcode 0x0609. -/
def srvSlateStateRead (h : MbHdr) (kind index : Byte) (rsv : BitVec 48) (addr : BitVec 64) (s : State) : State :=
  mbServe { op := 0x0609, len := 16, rsv := rsv != 0,
            gated := fun s => if kind = 0 then s.pixGated else kind == 1 && s.visGated } h (slateStateReadBody kind index addr) s
/-- SLATE_STATE_READ. -/
def execSlateStateRead (h : MbHdr) (kind index : Byte) (rsv : BitVec 48) (addr : BitVec 64) (s : State) :
    Host.Outcome State Fault Refusal :=
  mbCmd h (.slateStateRead h kind index rsv addr) (srvSlateStateRead h kind index rsv addr) s

/-- Bytes of a state record of a width and depth. -/
def recordBytes (width depth : Nat) : Nat := align8 (100 + 4 * align8 (rawBytes width depth))

/-- SLATE_ENC_RESTORE's rules (R179). -/
def slateEncRestoreBody (es channel : Byte) (addr : BitVec 64) (s : State) : Answer :=
  let i := es.toNat
  let e := s.esN i
  let w := s.esWidth e
  checked (firstBad [
      (decide (7 < i), 0x060D),
      (decide (31 < channel.toNat), 0x0605),
      (!s.addrOk addr.toNat (recordBytes w e.srcDepth), 0x060B),
      (e.isOpen, 0x0609),
      (!s.channelFor channel true, 0x0605)])
    (fun s =>
      let r := s.dramRead addr.toNat (recordBytes w e.srcDepth)
      match (if e.srcSet then readRecord r e.srcDepth w else none) with
      | some (1, tag, d) => ok (s.updEs i fun e => { e with
          isOpen := true, closing := false, level := fieldAt r 21 1, channel := channel.toNat, tag := tag, headerDone := true, codec := d,
          nextFrame := d.nextLine })
      | _ => fail 0x060C s) s

/-- SLATE_ENC_RESTORE, opcode 0x060A. -/
def srvSlateEncRestore (h : MbHdr) (es channel : Byte) (rsv : BitVec 48) (addr : BitVec 64) (s : State) : State :=
  mbServe { op := 0x060A, len := 16, rsv := rsv != 0, gated := fun s => s.visGated || s.stepAccepted 5 } h
    (slateEncRestoreBody es channel addr) s
/-- SLATE_ENC_RESTORE. -/
def execSlateEncRestore (h : MbHdr) (es channel : Byte) (rsv : BitVec 48) (addr : BitVec 64) (s : State) :
    Host.Outcome State Fault Refusal :=
  mbCmd h (.slateEncRestore h es channel rsv addr) (srvSlateEncRestore h es channel rsv addr) s

/-- The eight Slate counters in their order. -/
def Slate.counters (t : Slate) : List Byte :=
  [t.linesDecoded, t.decodeErrors, t.streamsResident, t.streamsError, t.encJobsDone, t.encNoSpace, t.encDropped,
    t.encBytes].flatMap fun c => le 8 c.toNat

/-- SLATE_GET_COUNTERS, opcode 0x060B. -/
def srvSlateGetCounters (h : MbHdr) (s : State) : State :=
  mbServe { op := 0x060B, len := 0 } h (fun s => okWith s.slate.counters s) s
/-- SLATE_GET_COUNTERS. -/
def execSlateGetCounters (h : MbHdr) (s : State) : Host.Outcome State Fault Refusal :=
  mbCmd h (.slateGetCounters h) (srvSlateGetCounters h) s

end Sys2Proof.Machine
end

