-- ==== Sys2Proof/Machine/CamOps.lean ====
section
/-! DEFINITION. Operations over cameras (spec/06 R185, R194–R197, R199, spec/07 R215): a change of owners, closing a frame with its record
and its encode jobs, what is due once the lines of a port are through, and stopping a port. -/

namespace Sys2Proof.Machine

/-- Restarts the windows, the block in progress and the streak averages of the columns whose owner differs from that in `s0` (R215,
R194). -/
def State.ownersMoved (s0 s : State) : State :=
  let cs := (List.range s.barColumns).filter fun c => s.owner c != s0.owner c
  ((s.restartCols cs).restartStreaks cs).updLoop fun l => { l with acc := l.acc.filter fun e => !cs.contains e.1 }

/-! ## Frames (R195) -/

/-- The position filed for line `l` of frame `f`. -/
def Cam.slot (k : Cam) (f l : Nat) : Int := k.slots.get 0 (f * 256 + l - 1)

/-- The mean trigger interval of a frame in ns. -/
def Cam.interval (k : Cam) (f : Nat) : Nat :=
  let n := min k.trigs (f * 256 + 256)
  if n < f * 256 + 2 then 0
  else ((k.times.get 0 (n - 1) - k.times.get 0 (f * 256)) / 16777216 / (n - 1 - f * 256 : Nat)).toNat

/-- Marks a frame, open or closed (Table 06-4). A frame is named by its place among the port's frames since reset. -/
def State.markFrame (p u : Nat) (m : BitVec 16) (s : State) : State :=
  s.updCam p fun k => { k with
    frame := k.frame.map fun x => if x.uid = u then { x with marks := x.marks ||| m } else x,
    recs := k.recs.map fun r => if r.uid = u then { r with marks := r.marks ||| m } else r }

/-- A frame carries a mark. -/
def State.frameMarked (s : State) (p u b : Nat) : Bool :=
  ((s.camN p).frame.any fun x => x.uid == u && x.marks.getLsbD b) || (s.camN p).recs.any fun r => r.uid == u && r.marks.getLsbD b

/-- Marks a frame HOTSPOT while MAP_HOTSPOT is asserted (R313); the mark raises its alert once. -/
def State.markHotspot (p u : Nat) (s : State) : State :=
  if !s.dram.mapHotspot || s.frameMarked p u 3 then s else (s.markFrame p u 8).raise .cam 7

/-- Lines of a frame are still to be processed. -/
def State.frameQueued (s : State) (p u : Nat) : Bool :=
  (s.camN p).fifo.any (fun l => l.uid == u) ||
    match s.vis.cur with | some (q, l) => q == p && l.uid == u | none => false

/-- Hands a frame of a stream to the encoder (R177, R197): dropped when 16 jobs wait. -/
def State.frameJob (p u i : Nat) (s : State) : State :=
  let e := s.esN i
  let all := (s.camN p).esLines.get [] i
  let lines := (all.filter fun l => l.1 == u).map fun l => (e.nextFrame + l.2.1, l.2.2)
  let s := (s.updCam p fun k => { k with esLines := k.esLines.set [] i (all.filter fun l => l.1 != u) }).updEs i fun e =>
    { e with nextFrame := e.nextFrame + 256 }
  if lines.isEmpty then s
  else if 16 ≤ s.slate.encJobs.length then
    (s.updEs i fun e => { e with codec := { e.codec with needKey := true } }).updSlate fun t => { t with encDropped := t.encDropped + 1 }
  else s.updSlate fun t => { t with encJobs := t.encJobs ++ [⟨i, e.nextFrame / 256, lines⟩] }

/-- The open egress streams of a port. -/
def State.streamsOf (s : State) (p : Nat) : List Nat :=
  (List.range 8).filter fun i => let e := s.esN i; e.isOpen && !e.closing && e.srcSet && e.srcPort == p

/-- The closed frames at the front whose lines are all processed are over: each goes to the encoder in turn (R197), and the preview
rows that CAM_0 can add nothing to any more are written (R196). -/
def State.framesOut (p : Nat) : Nat → State → State
  | 0, s => s
  | n + 1, s =>
    match (s.camN p).closed with
    | [] => s
    | (u, f) :: rest =>
      if s.frameQueued p u then s
      else
        let s := s.updCam p fun k => { k with closed := rest }
        let s := if p = 0 ∧ (s.camN p).runUid ≤ u then s.rowsOfFrame f else s
        State.framesOut p n ((s.streamsOf p).foldl (fun t i => t.frameJob p u i) s)

/-- No line of the port waits, and none can come: it is stopped, and every frame of its triggers has been received. -/
def State.camQuiet (s : State) (p : Nat) : Bool :=
  let k := s.camN p
  k.st == .stopped && k.frame.isNone && k.fifo.isEmpty && decide (k.trigs ≤ k.frames * 256) &&
    match s.vis.cur with | some (q, _) => q != p | none => true

/-- What is due when lines of a port are through: frames that are over, and the spot regions of a port that gives no more lines. -/
def State.linesThrough (p : Nat) (s : State) : State :=
  let s := s.framesOut p (s.camN p).closed.length
  if s.camQuiet p then s.closeSpots p else s

/-- A strip that measured lines of an incomplete frame says so (R201). -/
def State.thatchIncomplete (p u : Nat) (s : State) : State :=
  s.updVis fun v => { v with
    thatch := v.thatch.map fun t => if t.frames.contains (p, u) then { t with incomplete := true } else t }

/-- Closes the frame in reception with its record (R195). MISSING counts every line that is not among its good ones, and the lines
discarded beyond those. -/
def State.closeFrame (p : Nat) (s : State) : State :=
  let k := s.camN p
  match k.frame with
  | none => s
  | some f =>
    let lone := if k.link.vcShort.isNone then 0
      else ((List.range 256).filter fun l => (k.frame.map fun f =>
        (f.longs.get none (l + 1)).isSome != (f.shorts.get none (l + 1)).isSome).getD false).length
    let missing := 256 - f.good.length + f.extra
    let bad := 0 < f.dropped + missing
    let marks := f.marks ||| (if bad then 1 else 0)
    let r : FrameRec := { port := p, epoch := f.epoch, marks := marks, frame := BitVec.ofNat 32 f.number,
                          firstPos := k.slot f.number 1, dropped := f.dropped, missing := missing, unfiltered := f.unfiltered,
                          intervalNs := k.interval f.number, uid := f.uid }
    let s := s.updCam p fun k => { k with
      frame := none, recs := (r :: k.recs).take 16, closed := k.closed ++ [(f.uid, f.number)], missingExp := k.missingExp + BitVec.ofNat 32 lone,
      unfilteredNext := k.unfilteredNext || 0 < lone,
      framesIncomplete := if bad then k.framesIncomplete + 1 else k.framesIncomplete }
    let s := if bad then (s.thatchIncomplete p f.uid).raise .cam 0 else s
    s.linesThrough p

/-! ## Stopping (R185, CAM_STOP) -/

/-- A port stops: its output is given back and the windows of columns whose owner changes restart. -/
def State.camStopped (p : Nat) (s : State) : State :=
  if (s.camN p).st = .stopped then s
  else
    let t := (s.updCam p fun k => { k with st := .stopped }).updTrig (s.camN p).place.trig fun t => { t with st := .idle }
    let t := t.updLoop fun l => { l with openPos := l.openPos.set none p none }
    ((State.ownersMoved s t).linesThrough p).thatchDone.densityDone

/-- A port stops at once and closes its frame. -/
def State.camStopNow (p : Nat) (s : State) : State := (s.camStopped p).closeFrame p

end Sys2Proof.Machine
end

