-- ==== Sys2Proof/Machine/Nvm.lean ====
section
/-! DEFINITION. The NVM commands (spec/07 R32, R226, R229, R231, Tables 07-13, 07-14). -/

namespace Sys2Proof.Machine

/-- The NVM_GET_STATUS response. -/
def Nvm.statusBytes (n : Nvm) : List Byte :=
  let r := n.curRoot
  le 1 ((n.inForce.orElse fun _ => n.current).getD 0) ++ le 1 r.base ++ le 1 (bit n.compacting.isSome 0) ++ zeros 1 ++ le 4 r.seqFolded.toNat ++
    le 4 n.lastSeq.toNat ++ le 4 n.live ++ le 4 n.wearIndicator ++ le 4 n.compactions.toNat

/-- NVM_GET_STATUS, opcode 0x1001. -/
def srvNvmGetStatus (h : MbHdr) (s : State) : State := mbServe { op := 0x1001, len := 0 } h (fun s => okWith s.nvm.statusBytes s) s
/-- NVM_GET_STATUS. -/
def execNvmGetStatus (h : MbHdr) (s : State) : Host.Outcome State Fault Refusal := mbCmd h (.nvmGetStatus h) (srvNvmGetStatus h) s

/-- NVM_READ's rules (Table 07-13). -/
def nvmReadBody (offset bytes : BitVec 32) (addr : BitVec 64) (s : State) : Answer :=
  let o := offset.toNat
  let n := bytes.toNat
  checked (firstBad [
      (o % 8 != 0 || n % 8 != 0 || out n 8 1048576 || decide (8388608 < o + n), 0x1001),
      (!s.addrOk addr.toNat n, 0x1004)])
    (fun s => ok (s.dramWrite addr.toNat ((List.range n).map fun i => s.gableByte (o + i)))) s

/-- NVM_READ, opcode 0x1002. -/
def srvNvmRead (h : MbHdr) (offset bytes : BitVec 32) (addr : BitVec 64) (s : State) : State :=
  mbServe { op := 0x1002, len := 16, zero := bytes == 0 } h (nvmReadBody offset bytes addr) s
/-- NVM_READ. -/
def execNvmRead (h : MbHdr) (offset bytes : BitVec 32) (addr : BitVec 64) (s : State) : Host.Outcome State Fault Refusal :=
  mbCmd h (.nvmRead h offset bytes addr) (srvNvmRead h offset bytes addr) s

/-- NVM_COMPACT, opcode 0x1003. -/
def srvNvmCompact (h : MbHdr) (s : State) : State :=
  mbServe { op := 0x1003, len := 0 } h
    (fun s => if s.nvm.compacting.isSome then fail 0x1002 s else ok s.startCompaction) s
/-- NVM_COMPACT. -/
def execNvmCompact (h : MbHdr) (s : State) : Host.Outcome State Fault Refusal := mbCmd h (.nvmCompact h) (srvNvmCompact h) s

/-- Gains and tables at nominal; RES_BASE, STATE and the rest stay (NVM_ERASE_CAL). -/
def CalData.erased (d : CalData) : CalData :=
  { d with
    noz := d.noz.foldl (fun m e =>
      m.set [] e.1 (e.2.foldl (fun r x => r.set {} x.1 { x.2 with gain := 0x4000, gainFac := 0x4000 }) [])) [],
    char := d.char.foldl (fun m e => m.set {} e.1 { e.2 with table := none }) [] }

/-- NVM_ERASE_CAL's effect: a compaction writes the base image with gains and tables at nominal; they and the codes come into force
with that image (R24, spec/03 R84). -/
def State.eraseCal (s : State) : State :=
  ((s.updNvm fun n => { n with erasing := true }).startCompaction).restartAll

/-- NVM_ERASE_CAL's rules. -/
def nvmEraseCalBody (s : State) : Answer :=
  twinGate none 0x1004 []
    (fun s => if !s.bat.pages.isEmpty then fail 0x1003 s else if s.nvm.compacting.isSome then fail 0x1002 s else ok s.eraseCal) s

/-- NVM_ERASE_CAL, opcode 0x1004. -/
def srvNvmEraseCal (h : MbHdr) (s : State) : State := mbServe { op := 0x1004, len := 0 } h nvmEraseCalBody s
/-- NVM_ERASE_CAL. -/
def execNvmEraseCal (h : MbHdr) (s : State) : Host.Outcome State Fault Refusal := mbCmd h (.nvmEraseCal h) (srvNvmEraseCal h) s

end Sys2Proof.Machine
end

