-- ==== Sys2Proof/Machine/Reset.lean ====
section
/-! DEFINITION. The reset of the chip and the restoration of what it keeps (spec/12 R332, R344, R347, spec/13 Table 13-1,
spec/14 R383, spec/07 R227, spec/15 R393, R395): what survives the loss of the core (flash, fuses, the Gable store, the AON
domain, pins, the heads), and how the recorder and the store resume. -/

namespace Sys2Proof.Machine

/-! ## The Gable store at start-up (R227) -/

/-- What the Gable store keeps: a record without its COMMIT mark is torn (R224). -/
def Nvm.unpowered (n : Nvm) : Nvm :=
  { root := n.root, base := n.base, journal := n.journal.filter (·.committed), pendingWord := n.pendingWord, wear := n.wear,
    id := n.id, dropPorts := n.dropPorts, nextSeq := n.nextSeq, nextOff := n.nextOff }

/-- The content without the nozzle entries a later geometry reset (spec/02 R69). -/
def CalData.without (ports : List Nat) (d : CalData) : CalData := { d with noz := d.noz.filter fun e => !ports.contains e.1 }

/-- Loads base and journal from root `i`, which is in force from then on. Records of the ring that its journal does not reach stay where
they lie. -/
def State.loadRoot (i : Nat) (s : State) : State :=
  let n := s.nvm
  let r := n.rootN i
  let used := n.recsOf n.journal.length r
  let d := used.foldl (fun d x => x.body.apply d) (n.baseN r.base).image
  let q := r.seqFolded + 1 + BitVec.ofNat 32 used.length
  let o := match used.getLast? with | some x => x.after | none => r.journalHead
  let torn := n.pendingWord == q
  let s := s.updCal fun c => { c with data := d.without n.dropPorts, store := d.without n.dropPorts }
  let s := if torn then (s.logEvent 0x1004 0 n.pendingWord.toNat).raise .cal 6 else s
  s.updNvm fun n => { n with pendingWord := 0xFFFFFFFF, nextSeq := q, nextOff := o, inForce := some i }

/-- No content to load: the nominal state (R217), its journal starting anew. -/
def State.nominalStore (s : State) : State :=
  (s.updCal fun c => { c with data := {}, store := {} }).updNvm fun n => { n with nextSeq := 1, nextOff := 0, inForce := none }

/-- The restoration of the Gable store at start-up (R227). -/
def State.restoreStore (s : State) : State :=
  let n := s.nvm
  match n.current with
  | none => s.nominalStore.logEvent 0x1001 0 0
  | some i =>
    if (n.baseN (n.rootN i).base).crcOk then (s.loadRoot i).maybeCompact
    else if (n.rootN (1 - i)).valid && (n.baseN (n.rootN (1 - i)).base).crcOk then
      ((s.logEvent 0x1002 0 (n.rootN (1 - i)).rootSeq.toNat).loadRoot (1 - i)).maybeCompact
    else s.nominalStore.logEvent 0x1003 0 0

/-! ## The event ring at start-up (spec/14 R383) -/

/-- The newest valid record of the ring. -/
def newestValid (cleared : Option (BitVec 32)) (ring : SMap (Option EventRec)) : Option (BitVec 32) :=
  ring.foldl (fun m e =>
    match e.2, m with
    | some r, some q => if logCleared cleared r.seq || seqLe r.seq q then some q else some r.seq
    | some r, none => if logCleared cleared r.seq then none else some r.seq
    | none, m => m) none

/-- Where recording resumes: one after the newest valid record or after CLEARED_SEQ, the later of the two; at 0 without
either. -/
def resumeSeq (cleared : Option (BitVec 32)) (ring : SMap (Option EventRec)) : BitVec 32 :=
  match newestValid cleared ring, cleared with
  | none, none => 0
  | some q, none => q + 1
  | none, some c => c + 1
  | some q, some c => if seqLe q c then c + 1 else q + 1

/-! ## What the core loses -/

/-- What the AON domain keeps (spec/13 Table 13-1, spec/15 R393, R401): wake settings, retention, the latches, the pins. -/
def Pwr.aon (p : Pwr) : Pwr :=
  { st := p.st, aonWake := p.aonWake, aonBrownout := p.aonBrownout, aonWakeFail := p.aonWakeFail, aonThermal := p.aonThermal,
    thermalNew := p.thermalNew, retMask := p.retMask, retTemp := p.retTemp, wakeEnable := p.wakeEnable, pcieWake := p.pcieWake,
    alarm := p.alarm, lastSleep := p.lastSleep, pwrEn := p.pwrEn, pcieWakeN := p.pcieWakeN, corePg := p.corePg,
    waking := p.waking, attempts := p.attempts, fromStandby := p.fromStandby, resuming := p.resuming }

/-- The chip with everything but its non-volatile parts, its AON domain, its pins and the heads at reset (R332, Table 13-1). -/
def State.coreReset (s : State) : State :=
  let t : State :=
    { pending := s.pending, free := s.free, fuse := s.fuse,
      host := { perst := s.host.perst },
      boot := { resetN := s.boot.resetN, bootMode := s.boot.bootMode, xspiOctal := s.boot.xspiOctal, twinEn := s.boot.twinEn,
                twinPrefer := s.boot.twinPrefer, flash := s.boot.flash, tap := s.boot.tap },
      time := { ticks := s.time.ticks, calSec := s.time.calSec, calFrac := s.time.calFrac, calTick := s.time.calTick, rtcTrim := s.time.rtcTrim,
                calValid := s.time.calValid },
      fire := { ilkPins := s.fire.ilkPins },
      head := s.head,
      nvm := s.nvm.unpowered,
      enc := s.enc.updAll {} (List.range 4) fun _ e => { lineA := e.lineA, lineB := e.lineB },
      pwr := s.pwr.aon,
      health := { sdRetired := s.nvm.id.sdRetired, fsRetired := s.nvm.id.fsRetired, veRetired := s.nvm.id.veRetired,
                  bankRetired := s.nvm.id.bankRetired, remap := s.health.remap },
      log := { ring := s.log.ring, clearedSeq := s.nvm.id.clearedSeq, nextSeq := resumeSeq s.nvm.id.clearedSeq s.log.ring } }
  t.dramUndefine 0 (2 ^ 36)

/-- The core starts: the boot ROM runs, the local clock counts from the RTC (spec/10 R289), the straps give the roles
(spec/09 R263). -/
def State.startUp (s : State) : State :=
  let sec := if s.time.calValid then s.calendar / 65536 + s.time.utcOffset else 0
  let s := s.updTime fun t => { t with clock := { sec := BitVec.ofNat 48 sec } }
  let s := s.updBoot fun b => { b with stage := if b.bootMode = 2 then .recovery else .rom, startTick := s.time.ticks }
  if !s.boot.twinEn then s
  else if s.boot.twinPrefer then s.updTwin fun t => { t with role := .lead, supervisor := true, returning := true }
  else s.updTwin fun t => { t with returning := true }

/-! ## The SRAM banks (spec/01 R30, R31; spec/13 R369) -/

/-- The function banks worth retaining: the nozzle table and the firmware image (R369). -/
def usefulBanks : List Nat := List.range 6 ++ (List.range 8).map (· + 20)

/-- RET_USEFUL (R369). -/
def State.retUseful (s : State) : Nat := (usefulBanks.filterMap s.bankOf).foldl (fun m b => m ||| 2 ^ b) 0

/-- The nozzle-table bank of nozzle `i` of port `p` (R30): 32,768 entries of 16 bytes a bank. -/
def State.nozBank (s : State) (p i : Nat) : Nat :=
  match s.geo.committed with
  | some g => (g.nozBase p + i) / 32768
  | none => 0

/-- Keeps the volatile fields of the nozzles whose bank is in `mask`; the others restart at zero (R31, R369). -/
def State.keepVol (mask : BitVec 64) (s : State) : State :=
  let has (b : Nat) : Bool := match s.bankOf b with | some k => mask.getLsbD k | none => false
  s.updCal fun c => { c with vol := c.vol.filterMap fun e =>
    let l := e.2.filter fun x => has (s.nozBank e.1 x.1)
    if l.isEmpty then none else some (e.1, l) }

end Sys2Proof.Machine
end

