-- ==== Sys2Proof/Machine/Health.lean ====
section
/-! DEFINITION. The health monitor (spec/14 R375–R380; spec/01 R17, R31): retiring parts, the start-up tests, the health report,
the HEALTH commands (Table 14-8), and the checks of Table 14-1 as they report. -/

namespace Sys2Proof.Machine

/-! ## Retiring a part -/

/-- The event of a part that failed its test (Table 14-7): kind 0 SD, 1 FS, 2 VE, 3 SRAM. -/
def State.testFailed (kind i : Nat) (s : State) : State := s.logEvent 0x1304 i (kind + i * 256)

/-- Takes Slate decoder `i` out of service, journaled (R378). -/
def State.dropSd (i : Nat) (s : State) : State :=
  let s := s.updHealth fun h => { h with sdRetired := h.sdRetired ||| BitVec.twoPow 16 i }
  s.updNvm fun n => { n with id := { n.id with sdRetired := s.health.sdRetired } }

/-- Takes fire sequencer `i` out of service, journaled (R378). -/
def State.dropFs (i : Nat) (s : State) : State :=
  let s := s.updHealth fun h => { h with fsRetired := h.fsRetired ||| BitVec.twoPow 16 i }
  s.updNvm fun n => { n with id := { n.id with fsRetired := s.health.fsRetired } }

/-- Takes vision engine `i` out of service, journaled (R378). -/
def State.dropVe (i : Nat) (s : State) : State :=
  let s := s.updHealth fun h => { h with veRetired := h.veRetired ||| BitVec.twoPow 4 i }
  s.updNvm fun n => { n with id := { n.id with veRetired := s.health.veRetired } }

/-- Retires Slate decoder `i` (Table 14-1). -/
def State.retireSd (i : Nat) (s : State) : State :=
  if s.health.sdRetired.getLsbD i then s else ((s.dropSd i).testFailed 0 i).setCause 7 i

/-- Retires fire sequencer `i`: its three ports become unusable and count as dropped (Table 14-1, spec/03 R87, R109). -/
def State.retireFs (i : Nat) (s : State) : State :=
  if s.health.fsRetired.getLsbD i then s
  else
    let s := ((s.dropFs i).testFailed 1 i).setCause 8 i
    let s := (List.range 3).foldl (fun t k =>
      if (t.portN (3 * i + k)).st == .up then (t.markPortLost (3 * i + k)).restartPort (3 * i + k) else t) s
    s.rehide.speedCheck

/-- Retires vision engine `i`; the others take its work (spec/01 R17, `State.veFor`). -/
def State.retireVe (i : Nat) (s : State) : State :=
  if s.health.veRetired.getLsbD i then s else ((s.dropVe i).testFailed 2 i).setCause 6 i

/-- The lowest free reserve bank (spec/01 R31). -/
def State.freeReserve (s : State) : Option Nat :=
  [45, 46, 47].find? fun b => !s.health.bankRetired.getLsbD b && s.health.remap.all fun e => e.2 != some b

/-- The columns of undecoded and unmapped lines that lie in line-buffer bank `b` read zero (Table 01-6). -/
def State.zeroSlots (b : Nat) (s : State) : State :=
  match s.web? with
  | none => s
  | some w => s.updBat fun t => { t with lines := t.lines.map fun l =>
      if l.mapped then l
      else { l with cols := l.cols.map fun e =>
        (e.1, e.2.zipIdx.map fun x => if w.slotBank l.slot (e.1 * w.segWidth + x.2) = b then 0 else x.1) } }

/-- A camera's inspection memory at zero: the samples of its queued lines, the line history, the coefficients. -/
def Cam.zeroMemory (k : Cam) : Cam :=
  let z := fun (l : List Nat) => l.map fun _ => 0
  { k with fifo := k.fifo.map fun l => { l with long := z l.long, short := l.short.map z }, yPrev := k.yPrev.map z }

/-- What a function's reload leaves behind (spec/01 R31, Table 01-6): the nozzle table comes from the Gable store, so its volatile
fields restart; the firmware image comes from flash; the rest is zero. How a range of banks divides among what it holds is the
model's choice (log 113). -/
def State.reloadFunction (b : Nat) (s : State) : State :=
  if b < 6 then
    s.updCal fun c => { c with vol := c.vol.filterMap fun e =>
      let l := e.2.filter fun x => s.nozBank e.1 x.1 != b
      if l.isEmpty then none else some (e.1, l) }
  else if b < 18 then s.zeroSlots b
  else if b < 20 then
    s.updSlate fun t => { t with dec := t.dec.map fun e => (e.1, if e.1 / 24 = b - 18 then { needKey := false } else e.2) }
  else if b < 28 then s
  else if b < 36 then
    let p := (b - 28) / 2
    let f := (s.cal.data.flat.get {} p)
    (s.updCam p Cam.zeroMemory).updData fun d => { d with flat := d.flat.set {} p { f with ff := f.ff.map fun e => (e.1, 0) } }
  else if b < 42 then
    let inBank (c : Nat) : Bool := c / 32768 == b - 36
    s.updLoop fun l => { l with acc := l.acc.filter fun e => !inBank e.1, ring := l.ring.filter fun e => !inBank e.1 }
  else if b = 42 then s.updHost fun m => { m with reqArea := [], resp := [] }
  else if b = 43 then s
  else if b = 44 then
    (s.updLog fun l => { l with stage := [] }).updHealth fun h => { h with sdMiss := [], spares := [], corrected := [], bankCe := [] }
  else s

/-- The bank no longer in service: its function moves to a reserve bank (spec/01 R31). -/
def State.moveBank (b : Nat) (s : State) : State :=
  let f := match s.health.remap.find? fun e => e.2 == some b with | some e => e.1 | none => b
  let s := s.updHealth fun h => { h with bankRetired := h.bankRetired ||| BitVec.twoPow 64 b }
  if 45 ≤ f then s
  else
    let free := s.freeReserve
    (s.updHealth fun h => { h with remap := h.remap.set none f free }).reloadFunction f

/-- Takes SRAM bank `b` out of service, journaled (R378). -/
def State.dropBank (b : Nat) (s : State) : State :=
  let s := s.moveBank b
  s.updNvm fun n => { n with id := { n.id with bankRetired := s.health.bankRetired } }

/-- Retires SRAM bank `b` (Table 14-1). -/
def State.retireBank (b : Nat) (s : State) : State :=
  if s.health.bankRetired.getLsbD b then s else ((s.dropBank b).testFailed 3 b).setCause 2 b

/-! ## Start-up (R376, R378) -/

/-- A part whose return was asked for returns when it passes the start-up test: KIND 0 bank, 1 VE, 2 SD, 3 FS. -/
def State.unretire (kind i : Nat) (s : State) : State :=
  let clr (w : Nat) (v : BitVec w) : BitVec w := v &&& ~~~(BitVec.twoPow w i)
  let s := s.updHealth fun h =>
    if kind = 0 then { h with bankRetired := clr 64 h.bankRetired, remap := h.remap.set none i none }
    else if kind = 1 then { h with veRetired := clr 4 h.veRetired }
    else if kind = 2 then { h with sdRetired := clr 16 h.sdRetired }
    else { h with fsRetired := clr 16 h.fsRetired }
  s.updNvm fun n => { n with id := { n.id with
    bankRetired := s.health.bankRetired, veRetired := s.health.veRetired, sdRetired := s.health.sdRetired,
    fsRetired := s.health.fsRetired } }

/-- Whether the start-up tests failed a part. -/
def trainFailed (r : TrainReport) (kind i : Nat) : Bool :=
  if kind = 0 then r.bankFail.getLsbD i
  else if kind = 1 then r.veFail.getLsbD i
  else if kind = 2 then r.sdFail.getLsbD i
  else r.fsFail.getLsbD i

/-- Whether a part is retired. -/
def State.partRetired (s : State) (kind i : Nat) : Bool :=
  if kind = 0 then s.health.bankRetired.getLsbD i
  else if kind = 1 then s.health.veRetired.getLsbD i
  else if kind = 2 then s.health.sdRetired.getLsbD i
  else s.health.fsRetired.getLsbD i

/-- A part in service that failed its start-up test goes out of service; READY will report it (R376). -/
def State.failPart (kind i : Nat) (s : State) : State :=
  if s.partRetired kind i then s
  else
    let s := if kind = 0 then s.dropBank i else if kind = 1 then s.dropVe i else if kind = 2 then s.dropSd i else s.dropFs i
    s.updHealth fun h => { h with failed := h.failed ++ [(kind, i)] }

/-- Reports one failure of the start-up tests (R376): the mismatch of a known-answer test, SELFTEST_FAIL, then its cause. -/
def State.reportPart (kind i : Nat) (s : State) : State :=
  let s := if kind = 0 then s else s.raise .health 3
  if kind = 0 then (s.testFailed 3 i).setCause 2 i
  else if kind = 1 then (s.testFailed 2 i).setCause 6 i
  else if kind = 2 then (s.testFailed 0 i).setCause 7 i
  else (s.testFailed 1 i).setCause 8 i

/-- At READY the failures of the start-up tests are reported (R376). -/
def State.reportFailed (s : State) : State :=
  s.health.failed.foldl (fun t k => t.reportPart k.1 k.2) (s.updHealth fun h => { h with failed := [] })

/-- The start-up tests (R376): asked-for parts that pass return, parts in service that fail are retired; a bank that is
retained through STANDBY is not tested. -/
def State.startTests (r : TrainReport) (skip : BitVec 64) (s : State) : State :=
  let s := s.nvm.id.unretire.foldl (fun t k => if trainFailed r k.1 k.2 then t else t.unretire k.1 k.2) s
  let s := s.updNvm fun n => { n with id := { n.id with unretire := [] } }
  let s := (List.range 48).foldl (fun t i => if trainFailed r 0 i && !skip.getLsbD i then t.failPart 0 i else t) s
  let s := (List.range 16).foldl (fun t i => if trainFailed r 2 i then t.failPart 2 i else t) s
  let s := (List.range 16).foldl (fun t i => if trainFailed r 3 i then t.failPart 3 i else t) s
  (List.range 4).foldl (fun t i => if trainFailed r 1 i then t.failPart 1 i else t) s

/-- The journaled causes are asserted again at start-up (R378). -/
def State.reassert (s : State) : State :=
  let s := match s.nvm.id.retiredCh with | some c => s.setCause 0 c | none => s
  let s : State := (List.range 48).foldl (fun t i => if t.health.bankRetired.getLsbD i then t.setCause 2 i else t) s
  let s := if 8000 < s.nvm.wearIndicator then s.setCause 3 0 else s
  let s := (List.range 4).foldl (fun t i => if t.health.veRetired.getLsbD i then t.setCause 6 i else t) s
  let s := (List.range 16).foldl (fun t i => if t.health.sdRetired.getLsbD i then t.setCause 7 i else t) s
  (List.range 16).foldl (fun t i => if t.health.fsRetired.getLsbD i then t.setCause 8 i else t) s

/-! ## The clock hour of the droop sensors (spec/13 R372) -/

/-- The clock hour, counted from reset. -/
def State.hourNow (s : State) : Nat := (s.time.ticks - s.boot.startTick) / (3600 * ticksPerSec)

/-- A new clock hour ends the condition of DROOP_RATE. -/
def State.hourRoll (s : State) : State :=
  if s.pwr.hour = s.hourNow then s
  else (s.updPwr fun p => { p with hour := s.hourNow, hourTrips := 0, rateSet := false }).endCause 5 0

/-! ## The health report (R379, R380) -/

/-- Inspection capacity in Msamples/s at a level, in a droop or not (Table 01-5, spec/01 R29). -/
def inspectRate (level : Nat) (droop : Bool) : Nat :=
  let n := if level = 0 then 2400 else if level = 1 then 1800 else 0
  if droop then n / 2 else n

/-- INSPECT_CAP in Msamples/s: the normal column of Table 01-5 (log 112), halved under single-channel operation. -/
def State.inspectCap (s : State) : Nat :=
  let n := if s.visGated then 0 else inspectRate s.pwr.level false
  if s.single then n / 2 else n

/-- The performance level the figures refer to. -/
def State.levelNow (s : State) : Nat := s.pwr.level

/-- The parts in service. -/
def State.sdMask (s : State) : Nat := (~~~s.health.sdRetired).toNat
def State.fsMask (s : State) : Nat := (~~~s.health.fsRetired).toNat
def State.veMask (s : State) : Nat := (~~~s.health.veRetired).toNat
def State.dramMask (s : State) : Nat := match s.chDown with | some 0 => 2 | some _ => 1 | none => 3

/-- Free reserve banks. -/
def State.reserveBanks (s : State) : Nat :=
  ([45, 46, 47].filter fun b => !s.health.bankRetired.getLsbD b && s.health.remap.all fun e => e.2 != some b).length

/-- The ports up with their sequencer in service. -/
def State.portsUsable (s : State) : Nat := ((List.range 48).map fun p => bit (s.portRuns p) p).sum

/-- HEALTH: 0 healthy, 1 degraded, 2 cores held. -/
def State.healthCode (s : State) : Nat := if s.boot.coresHeld then 2 else if s.causes != 0 then 1 else 0

/-- The 64-byte health summary (Table 14-3). -/
def State.healthSummary (s : State) : List Byte :=
  let some_ := (s.geo.committed.bind (·.web)).isSome
  let vd := if some_ then wholeMm s.vDecode else 0
  let vp := if some_ then min (wholeMm s.vFire) vd else 0
  le 2 s.causes.toNat ++ le 1 s.healthCode ++ le 1 s.levelNow ++ le 4 vp ++ le 4 vd ++ le 4 s.fire.vHide ++
    le 8 s.portsUsable ++ le 2 s.sdMask ++ le 2 s.fsMask ++ le 1 s.veMask ++ le 1 s.dramMask ++ le 1 s.twin.width ++
    le 1 s.reserveBanks ++ le 4 (s.decodeCap / 1000000) ++ le 4 s.inspectCap ++ le 2 s.nvm.wearIndicator ++
    le 2 s.health.pllMargin ++ le 2 s.pwr.hourTrips ++ leI 2 s.health.tjMax ++ le 8 s.health.bankRetired.toNat ++
    le 4 s.log.lastHealth.toNat ++ le 4 s.time.clock.sec.toNat

/-- A cause entry (R380). -/
def State.causeEntry (s : State) (c : Nat) : List Byte :=
  let st := if s.health.active.getLsbD c then 1 else if s.health.latched.getLsbD c then 2 else 0
  le 1 c ++ le 1 st ++ zeros 2 ++ le 4 (s.health.firstSeq.get 0 c).toNat ++ le 8 (s.health.instances.get 0 c).toNat

/-- HEALTH_GET_REPORT's response (R380). -/
def State.healthReport (s : State) : List Byte := s.healthSummary ++ (List.range 11).flatMap s.causeEntry

/-! ## HEALTH commands -/

/-- HEALTH_GET_REPORT, opcode 0x1301. -/
def srvHealthGetReport (h : MbHdr) (s : State) : State :=
  mbServe { op := 0x1301, len := 0 } h (fun s => let s := s.hourRoll; okWith s.healthReport s) s
/-- HEALTH_GET_REPORT. -/
def execHealthGetReport (h : MbHdr) (s : State) : Host.Outcome State Fault Refusal :=
  mbCmd h (.healthGetReport h) (srvHealthGetReport h) s

/-- HEALTH_CLEAR's rules (R378): a cause whose condition persists clears nothing. -/
def healthClearBody (causes : BitVec 16) (s0 : State) : Answer :=
  let s := s0.hourRoll
  let named := (List.range 11).filter fun c => causes.getLsbD c
  if 2048 ≤ causes.toNat then fail 0x1301 s
  else if named.any fun c => s.health.active.getLsbD c then fail 0x1302 s
  else ok (named.foldl (fun t c => t.clearCause c) s)

/-- HEALTH_CLEAR, opcode 0x1302. -/
def srvHealthClear (h : MbHdr) (causes rsv : BitVec 16) (s : State) : State :=
  mbServe { op := 0x1302, len := 4, rsv := rsv != 0 } h (healthClearBody causes) s
/-- HEALTH_CLEAR. -/
def execHealthClear (h : MbHdr) (causes rsv : BitVec 16) (s : State) : Host.Outcome State Fault Refusal :=
  mbCmd h (.healthClear h causes rsv) (srvHealthClear h causes rsv) s

/-- HEALTH_SET's rules (Table 14-8). -/
def healthSetBody (tjWarn pllMarginMin : BitVec 16) (s : State) : Answer :=
  checked (firstBad [
      (outI tjWarn.toInt 0x0500 0x0690, 0x1301),
      (out pllMarginMin.toNat 10 500, 0x1301)])
    (fun s => ok (s.updHealth fun h => { h with tjWarn := tjWarn.toInt, pllMin := pllMarginMin.toNat })) s

/-- HEALTH_SET, opcode 0x1303. -/
def srvHealthSet (h : MbHdr) (tjWarn pllMarginMin : BitVec 16) (s : State) : State :=
  mbServe { op := 0x1303, len := 4 } h (healthSetBody tjWarn pllMarginMin) s
/-- HEALTH_SET. -/
def execHealthSet (h : MbHdr) (tjWarn pllMarginMin : BitVec 16) (s : State) : Host.Outcome State Fault Refusal :=
  mbCmd h (.healthSet h tjWarn pllMarginMin) (srvHealthSet h tjWarn pllMarginMin) s

/-- HEALTH_UNRETIRE's rules: the request is journaled and takes effect at the next start-up (R378). -/
def healthUnretireBody (kind index : Byte) (s : State) : Answer :=
  let k := kind.toNat
  let i := index.toNat
  let top := if k = 0 then 47 else if k = 1 then 3 else 15
  checked (firstBad [(decide (3 < k), 0x1301), (decide (top < i), 0x1301)])
    (fun s =>
      if !s.partRetired k i then fail 0x1303 s
      else ok (s.updNvm fun n => { n with id := { n.id with unretire := n.id.unretire.filter (· != (k, i)) ++ [(k, i)] } })) s

/-- HEALTH_UNRETIRE, opcode 0x1304. -/
def srvHealthUnretire (h : MbHdr) (kind index : Byte) (rsv : BitVec 16) (s : State) : State :=
  mbServe { op := 0x1304, len := 4, rsv := rsv != 0 } h (healthUnretireBody kind index) s
/-- HEALTH_UNRETIRE. -/
def execHealthUnretire (h : MbHdr) (kind index : Byte) (rsv : BitVec 16) (s : State) : Host.Outcome State Fault Refusal :=
  mbCmd h (.healthUnretire h kind index rsv) (srvHealthUnretire h kind index rsv) s

/-! ## The checks as they report (Table 14-1) -/

/-- A known-answer result of a part: a match clears its run, the second mismatch in a row retires it. -/
def State.knownAnswer (kind i : Nat) (matched : Bool) (s : State) : State :=
  let key := kind * 16 + i
  if matched then s.updHealth fun h => { h with sdMiss := h.sdMiss.set 0 key 0 }
  else
    let s := (s.updHealth fun h => { h with sdMiss := h.sdMiss.upd 0 key (· + 1) }).raise .health 3
    if s.health.sdMiss.get 0 key < 2 then s
    else if kind = 0 then s.retireSd i
    else if kind = 1 then s.retireFs i
    else s.retireVe i

/-- Decoder `i` has a job. -/
def State.decoderBusy (s : State) (i : Nat) : Bool := (s.slate.jobs.get none i).isSome

/-- DECODER_SELFTEST: a known-answer job on an idle decoder in service. -/
def State.decoderSelftest (i : Nat) (matched : Bool) (s : State) : State :=
  if 16 ≤ i || s.health.sdRetired.getLsbD i || s.decoderBusy i || s.pixGated then s else s.knownAnswer 0 i matched
/-- DECODER_SELFTEST. -/
def execDecoderSelftest (decoder : Nat) (matched : Bool) (s : State) : Host.Outcome State Fault Refusal :=
  evt (State.decoderSelftest decoder matched) s

/-- VE_SELFTEST: a known-answer kernel on a vision engine in service. -/
def State.veSelftest (i : Nat) (matched : Bool) (s : State) : State :=
  if 4 ≤ i || s.health.veRetired.getLsbD i || s.visGated then s else s.knownAnswer 2 i matched
/-- VE_SELFTEST. -/
def execVeSelftest (engine : Nat) (matched : Bool) (s : State) : Host.Outcome State Fault Refusal :=
  evt (State.veSelftest engine matched) s

/-- PLL_MARGIN_CHECK: below PLL_MARGIN_MIN at 3 consecutive readings raises the cause; a reading within it ends the
condition. -/
def State.pllMarginCheck (margin : Nat) (s : State) : State :=
  let low := decide (margin < s.health.pllMin)
  let s := s.updHealth fun h => { h with pllMargin := margin, pllLow := if low then h.pllLow + 1 else 0 }
  if !low then s.endCause 4 0 else if 3 ≤ s.health.pllLow then s.setCause 4 0 else s
/-- PLL_MARGIN_CHECK. -/
def execPllMarginCheck (margin : BitVec 16) (s : State) : Host.Outcome State Fault Refusal :=
  evt (State.pllMarginCheck margin.toNat) s

/-- One sensor's reading in 1/16 °C: the event as it comes above TJ_WARN. -/
def State.tjSensor (i : Nat) (t : Int) (s : State) : State :=
  let high := decide (s.health.tjWarn < t)
  let was := s.health.tjHigh.getLsbD i
  let s := s.updHealth fun h => { h with
    tjHigh := if high then h.tjHigh ||| BitVec.twoPow 8 i else h.tjHigh &&& ~~~(BitVec.twoPow 8 i) }
  if high && !was then (s.raise .health 4).logEvent 0x1305 i (i + (t % 65536).toNat * 256) else s

/-- TJ_CHECK: the sensors against TJ_WARN, and the highest of them. -/
def State.tjCheck (ts : List Int) (s : State) : State :=
  if ts.length ≠ 8 then s
  else
    let s := s.updHealth fun h => { h with tjMax := maxInt ts }
    (List.range 8).foldl (fun t i => t.tjSensor i (ts.getD i 0)) s
/-- TJ_CHECK. -/
def execTjCheck (sensors : List (BitVec 16)) (s : State) : Host.Outcome State Fault Refusal :=
  evt (State.tjCheck (sensors.map BitVec.toInt)) s

/-- Ticks in a day. -/
def ticksPerDay : Nat := 86400 * ticksPerSec

/-- A corrected error: an address corrected twice within 24 h takes a spare row of its bank, or retires it (Table 14-1). -/
def State.sramCorrected (b row : Nat) (s : State) : State :=
  let key := b * 65536 + row
  let before := s.health.corrected.get 0 key
  let s := s.updHealth fun h => { h with bankCe := h.bankCe.upd 0 b (· + 1) }
  if before = 0 ∨ ticksPerDay < s.time.ticks + 1 - before then
    s.updHealth fun h => { h with corrected := h.corrected.set 0 key (s.time.ticks + 1) }
  else if 32 ≤ s.health.spares.get 0 b then s.retireBank b
  else
    let s := s.updHealth fun h => { h with spares := h.spares.upd 0 b (· + 1), corrected := h.corrected.set 0 key 0 }
    (s.raise .health 2).logEvent 0x1303 b (b + row * 256 + (32 - s.health.spares.get 0 b) * 2 ^ 24)

/-- SRAM_ECC_ERROR in a bank in service. -/
def State.sramEccError (b row : Nat) (kind : EccKind) (s : State) : State :=
  if 48 ≤ b || 65536 ≤ row || s.health.bankRetired.getLsbD b then s
  else
    match kind with
    | .corrected => s.sramCorrected b row
    | .uncorrectable => s.retireBank b
/-- SRAM_ECC_ERROR. -/
def execSramEccError (bank row : Nat) (kind : EccKind) (s : State) : Host.Outcome State Fault Refusal :=
  evt (State.sramEccError bank row kind) s

end Sys2Proof.Machine
end

