-- ==== Sys2Proof/Machine/Dram.lean ====
section
/-! DEFINITION. The DRAM controller's commands (spec/11 R304, R307–R318, Tables 11-3 to 11-7, 11-12), the retirement of a channel,
and the events of its health. -/

namespace Sys2Proof.Machine

/-! ## Retirement (R314–R316) -/

/-- A channel retires while running: RETIRING, journaled, with REPLACE_REQ (R314, R315). Only one can. -/
def State.retireChannel (c : Nat) (s : State) : State :=
  if s.chDown.isSome then s
  else
    let s := s.updDram fun d => { d with retiring := some c }
    let s := s.updNvm fun n => { n with id := { n.id with retiredCh := some c } }
    (s.raise .dram 3).setCause 0 c

/-- The map is changed: what lies outside the firmware region is undefined (Table 11-5, R316). -/
def State.remapped (s : State) : State := s.dramUndefine unit256 (2 ^ 36)

/-- The line delay ring of the committed geometry in the page store as it now is; without room there is none (R22). -/
def State.ringAgain (s : State) : State :=
  match s.geo.committed with
  | none => s
  | some g =>
    match g.web with
    | none => s
    | some w => (s.reserveRing g w).getD (s.updGeo fun u => { u with ringChunks := 0 })

/-- Single-channel operation comes into force with the default regions of its capacity (R316). -/
def State.singleChannel (c : Nat) (s : State) : State :=
  let s := s.updDram fun d => { d with retired := some c, retiring := none, regions := none, masks := none }
  let s := s.updNvm fun n => { n with id := { n.id with regions := none, map := none, retiredCh := some c, single := true } }
  let s := (s.updSlate fun t => { t with pairUsed := [] }).updGeo fun u => { u with ringChunks := 0 }
  s.remapped.ringAgain

/-! ## What the DRAM commands wait for -/

/-- The preconditions of COMMIT fail (R315). -/
def State.dramBusy (s : State) : Bool :=
  !s.bat.pages.isEmpty || s.slate.entries.any (·.2.isSome) || (List.range 4).any (fun p => (s.camN p).st != .stopped) ||
    (List.range 8).any (fun i => (s.slate.es.get {} i).isOpen) ||
    (List.range 32).any fun c => (s.dmaN c).st != .idle && (s.dmaN c).st != .ready

/-! ## DRAM_GET_CONFIG -/

/-- The DRAM_GET_CONFIG response. -/
def State.dramConfig (s : State) : List Byte :=
  let b := s.boot.board
  le 1 b.density ++ le 1 b.ranks ++ le 2 b.mts ++ le 4 (s.dramBytes / 1048576) ++ le 1 (bit s.dram.interleave 0) ++
    le 1 (bit s.single 0) ++ le 2 b.banks ++ le 4 s.pairs

/-- DRAM_GET_CONFIG, opcode 0x1101. -/
def srvDramGetConfig (h : MbHdr) (s : State) : State := mbServe { op := 0x1101, len := 0 } h (fun s => okWith s.dramConfig s) s
/-- DRAM_GET_CONFIG. -/
def execDramGetConfig (h : MbHdr) (s : State) : Host.Outcome State Fault Refusal :=
  mbCmd h (.dramGetConfig h) (srvDramGetConfig h) s

/-! ## DRAM_SET_MAP (R307–R309) -/

/-- Which select bits CH, BA0, BA1, BG0, BG1, RANK the configuration has. -/
def State.selects (s : State) : List Bool :=
  [!s.single, true, s.boot.board.density != 8, true, true, s.boot.board.ranks == 2]

/-- The home bits of the select bits, upward from 11; none for an absent one. -/
def homeBits : Nat → List Bool → List (Option Nat)
  | _, [] => []
  | b, true :: l => some b :: homeBits (b + 1) l
  | b, false :: l => none :: homeBits b l

/-- A mask keeps R307 for the select bit with home bit `h` among the homes; an absent bit's mask is 0. -/
def maskOk (homes : List (Option Nat)) (h : Option Nat) (m : Nat) : Bool :=
  match h with
  | none => m == 0
  | some b => m.testBit b && m % 2048 == 0 && homes.all fun o => match o with | some x => x == b || !m.testBit x | none => true

/-- The six masks keep R307. -/
def State.masksOk (s : State) (ms : List Nat) : Bool :=
  let homes := homeBits 11 s.selects
  ms.length == 6 && (homes.zip ms).all fun p => maskOk homes p.1 p.2

/-- The lowest row bit: above the home bits stands the top column bit. -/
def State.row0 (s : State) : Nat := 11 + (s.selects.filter id).length + 1

/-- The default masks (R308): the k-th select bit present has its home bit and the row bits ROW0 + k and ROW0 + k + S. -/
def State.defaultMasks (s : State) : List Nat :=
  let n := (s.selects.filter id).length
  (homeBits 11 s.selects).map fun h => match h with
    | some b => 2 ^ b + 2 ^ (s.row0 + (b - 11)) + 2 ^ (s.row0 + (b - 11) + n)
    | none => 0

/-- The masks in force in HASH mode. -/
def State.dramMasks (s : State) : List Nat := s.dram.masks.getD s.defaultMasks

/-- The parity of a number's low 64 bits. -/
def parity (v : Nat) : Nat := ((List.range 64).filter fun i => v.testBit i).length % 2

/-- A home bit in INTERLEAVE mode, where bit g is CH: from g upward the next one up (R309). -/
def skipGrain (g b : Nat) : Nat := if 11 ≤ g ∧ g ≤ b then b + 1 else b

/-- CH, BA0, BA1, BG0, BG1 and RANK of an address under the map in force; 0 where absent (R307, R309). -/
def State.selectOf (s : State) (a : Nat) : List Nat :=
  if s.dram.interleave then
    let ch := if s.single then 0 else a / 2 ^ s.dram.grainLog2 % 2
    let l := if s.single then s.selects else s.selects.set 0 false
    ch :: ((homeBits 11 l).drop 1).map fun h => match h with
      | some b => if s.single then a / 2 ^ b % 2 else a / 2 ^ skipGrain s.dram.grainLog2 b % 2
      | none => 0
  else s.dramMasks.map fun m => parity (a &&& m)

/-- DRAM_SET_MAP's rules: an accepted map is journaled; all but the firmware region is undefined afterwards. -/
def dramSetMapBody (mode grain : Nat) (ms : List Nat) (s : State) : Answer :=
  checked (firstBad [
      (decide (1 < mode), 0x1101),
      (if mode = 1 then out grain 8 16 else grain != 0, 0x1101),
      (mode == 0 && !s.masksOk ms, 0x1102),
      (s.dramBusy, 0x1103)])
    (fun s =>
      let s := s.updDram fun d => { d with interleave := mode == 1, grainLog2 := grain, masks := if mode = 0 then some ms else d.masks }
      ok (s.updNvm fun n => { n with id := { n.id with map := some (mode, grain, ms) } }).remapped) s

/-- DRAM_SET_MAP, opcode 0x1102. -/
def srvDramSetMap (h : MbHdr) (mode grainLog2 : Byte) (rsv : BitVec 48) (masks : List (BitVec 64)) (s : State) : State :=
  mbServe { op := 0x1102, len := 56, rsv := rsv != 0 } h
    (dramSetMapBody mode.toNat grainLog2.toNat (masks.map BitVec.toNat)) s
/-- DRAM_SET_MAP. -/
def execDramSetMap (h : MbHdr) (mode grainLog2 : Byte) (rsv : BitVec 48) (masks : List (BitVec 64)) (s : State) :
    Host.Outcome State Fault Refusal := mbCmd h (.dramSetMap h mode grainLog2 rsv masks) (srvDramSetMap h mode grainLog2 rsv masks) s

/-! ## DRAM_SET_REGIONS, DRAM_GET_REGIONS (R317, R318) -/

/-- The state with region sizes in force, the contents of the regions that moved or changed size undefined. -/
def State.setRegions (sizes : List Nat) (s : State) : State :=
  let t := s.updDram fun d => { d with regions := some sizes }
  let t := t.updNvm fun n => { n with id := { n.id with regions := some sizes } }
  (List.range 7).foldl (fun u i =>
    if t.region i = s.region i then u else u.dramUndefine (t.region i).1 ((t.region i).1 + (t.region i).2)) t

/-- R317's refusals. -/
def State.regionsBusy (moved : Bool) (s : State) : Bool :=
  !s.bat.pages.isEmpty || s.slate.entries.any (·.2.isSome) || (List.range 4).any (fun p => (s.camN p).st != .stopped) ||
    (List.range 8).any (fun i => (s.slate.es.get {} i).isOpen) ||
    (moved && (List.range 32).any fun c => (s.dmaN c).st == .running && (s.dmaN c).dramRing)

/-- The ring of the committed geometry in a changed page store; none when it does not fit. -/
def State.ringIn (s : State) : Option State :=
  let s := (s.updSlate fun t => { t with pairUsed := [] }).updGeo fun u => { u with ringChunks := 0 }
  match s.geo.committed with
  | none => some s
  | some g =>
    match g.web with
    | none => some s
    | some w => s.reserveRing g w

/-- DRAM_SET_REGIONS's rules. -/
def dramSetRegionsBody (sizes : List Nat) (s : State) : Answer :=
  if s.dramBytes < (sizes.sum + 2) * unit256 then fail 0x1101 s
  else
    let t := s.setRegions sizes
    if s.regionsBusy (t.region 6 != s.region 6) then fail 0x1103 s
    else if t.region 1 = s.region 1 then ok t
    else
      match t.ringIn with
      | some u => ok u
      | none => fail 0x1101 s

/-- DRAM_SET_REGIONS, opcode 0x1103. -/
def srvDramSetRegions (h : MbHdr) (pageStore camera vision twin : BitVec 16) (s : State) : State :=
  mbServe { op := 0x1103, len := 8, zero := pageStore == 0 || camera == 0 || vision == 0 || twin == 0 } h
    (dramSetRegionsBody [pageStore.toNat, camera.toNat, vision.toNat, twin.toNat]) s
/-- DRAM_SET_REGIONS. -/
def execDramSetRegions (h : MbHdr) (pageStore camera vision twin : BitVec 16) (s : State) : Host.Outcome State Fault Refusal :=
  mbCmd h (.dramSetRegions h pageStore camera vision twin) (srvDramSetRegions h pageStore camera vision twin) s

/-- DRAM_GET_REGIONS, opcode 0x1104. -/
def srvDramGetRegions (h : MbHdr) (s : State) : State :=
  mbServe { op := 0x1104, len := 0 } h
    (fun s => okWith ((List.range 7).flatMap fun i => le 8 (s.region i).1 ++ le 8 (s.region i).2) s) s
/-- DRAM_GET_REGIONS. -/
def execDramGetRegions (h : MbHdr) (s : State) : Host.Outcome State Fault Refusal :=
  mbCmd h (.dramGetRegions h) (srvDramGetRegions h) s

/-! ## DRAM_SET_QOS, DRAM_SET_HEALTH -/

/-- DRAM_SET_QOS's rules (Table 11-6). -/
def dramSetQosBody (pr : List Nat) (hi lo : Nat) (s : State) : Answer :=
  checked (firstBad [
      (!(pr.length == 7 && [1, 2, 3, 4, 5, 6, 7].all fun p => pr.contains p), 0x1101),
      (out hi 16 128, 0x1101),
      (decide (hi < lo + 16), 0x1101)])
    (fun s => ok (s.updDram fun d => { d with priority := pr, wmHigh := hi, wmLow := lo })) s

/-- DRAM_SET_QOS, opcode 0x1105. -/
def srvDramSetQos (h : MbHdr) (priority : List Byte) (rsv wmHigh wmLow : Byte) (rsv2 : BitVec 16) (s : State) : State :=
  mbServe { op := 0x1105, len := 12, rsv := rsv != 0 || rsv2 != 0 } h
    (dramSetQosBody (priority.map BitVec.toNat) wmHigh.toNat wmLow.toNat) s
/-- DRAM_SET_QOS. -/
def execDramSetQos (h : MbHdr) (priority : List Byte) (rsv wmHigh wmLow : Byte) (rsv2 : BitVec 16) (s : State) :
    Host.Outcome State Fault Refusal := mbCmd h (.dramSetQos h priority rsv wmHigh wmLow rsv2) (srvDramSetQos h priority rsv wmHigh wmLow rsv2) s

/-- DRAM_SET_HEALTH's rules (Table 11-7). -/
def dramSetHealthBody (window limit ce scrub : Nat) (s : State) : Answer :=
  checked (firstBad [
      (out window 10 10000, 0x1101), (decide (limit = 0), 0x1101), (decide (ce = 0), 0x1101), (out scrub 1 168, 0x1101)])
    (fun s => ok (s.updDram fun d => { d with hotWindowUs := window, hotLimit := limit, ceLimit := ce, scrubHours := scrub })) s

/-- DRAM_SET_HEALTH, opcode 0x1106. -/
def srvDramSetHealth (h : MbHdr) (windowUs limit : BitVec 16) (ceLimit : BitVec 32) (scrubHours rsv : BitVec 16) (s : State) : State :=
  mbServe { op := 0x1106, len := 12, rsv := rsv != 0 } h
    (dramSetHealthBody windowUs.toNat limit.toNat ceLimit.toNat scrubHours.toNat) s
/-- DRAM_SET_HEALTH. -/
def execDramSetHealth (h : MbHdr) (windowUs limit : BitVec 16) (ceLimit : BitVec 32) (scrubHours rsv : BitVec 16) (s : State) :
    Host.Outcome State Fault Refusal :=
  mbCmd h (.dramSetHealth h windowUs limit ceLimit scrubHours rsv) (srvDramSetHealth h windowUs limit ceLimit scrubHours rsv) s

/-! ## DRAM_GET_COUNTERS, DRAM_RETIRE -/

/-- The DRAM_GET_COUNTERS response: how many bursts were read and written is a free value (log 6). -/
def dramCounters (c : Nat) (s0 : State) : Answer :=
  let (r, s) := s0.drawBelow (2 ^ 64)
  let (w, s) := s.drawBelow (2 ^ 64)
  let d := s.dram
  okWith (le 8 r ++ le 8 w ++ le 8 (d.ce.get 0 c).toNat ++ le 8 (d.ue.get 0 c).toNat ++ le 8 (d.hotWindows.get 0 c).toNat ++
    le 8 (d.conflicts.get 0 c).toNat ++ le 8 (d.lastBank.get 0 c).toNat) s

/-- DRAM_GET_COUNTERS, opcode 0x1107. -/
def srvDramGetCounters (h : MbHdr) (channel : Byte) (rsv : BitVec 24) (s : State) : State :=
  mbServe { op := 0x1107, len := 4, rsv := rsv != 0 } h
    (fun s => if 1 < channel.toNat then fail 0x1101 s else dramCounters channel.toNat s) s
/-- DRAM_GET_COUNTERS. -/
def execDramGetCounters (h : MbHdr) (channel : Byte) (rsv : BitVec 24) (s : State) : Host.Outcome State Fault Refusal :=
  mbCmd h (.dramGetCounters h channel rsv) (srvDramGetCounters h channel rsv) s

/-- DRAM_RETIRE's rules (R315, R316): RESTORE takes effect at the next start-up. -/
def dramRetireBody (c flags : Nat) (s : State) : Answer :=
  if flags = 3 then fail 0x1101 s
  else if flags = 2 then ok (s.updNvm fun n => { n with id := { n.id with retiredCh := none } })
  else if 1 < c then fail 0x1101 s
  else if flags = 0 then if s.chDown.isSome then fail 0x1104 s else ok (s.retireChannel c)
  else if s.dram.retiring != some c then fail 0x1104 s
  else if s.dramBusy then fail 0x1103 s
  else ok (s.singleChannel c)

/-- DRAM_RETIRE, opcode 0x1108. -/
def srvDramRetire (h : MbHdr) (channel flags : Byte) (rsv : BitVec 16) (s : State) : State :=
  mbServe { op := 0x1108, len := 4, rsv := 3 < flags.toNat || rsv != 0 } h (dramRetireBody channel.toNat flags.toNat) s
/-- DRAM_RETIRE. -/
def execDramRetire (h : MbHdr) (channel flags : Byte) (rsv : BitVec 16) (s : State) : Host.Outcome State Fault Refusal :=
  mbCmd h (.dramRetire h channel flags rsv) (srvDramRetire h channel flags rsv) s

/-! ## Events of the controller -/

/-- SCRUB_DONE: a patrol pass completed. -/
def execScrubDone (s : State) : Host.Outcome State Fault Refusal := evt (State.raise .dram 4) s

/-- A channel in service. -/
def State.channelUp (s : State) (c : Nat) : Bool := decide (c < 2) && s.dram.retired != some c

/-- The counters of a hotspot window: conflicts of a bank, numbered through both channels. -/
def State.addConflicts (b n : Nat) (s : State) : State :=
  let banks := s.boot.board.banks
  let c := b / banks
  let hot := decide (s.dram.hotLimit < n)
  s.updDram fun d =>
    { d with
      conflicts := d.conflicts.upd 0 c (· + BitVec.ofNat 64 n),
      hotWindows := if hot then d.hotWindows.upd 0 c (· + 1) else d.hotWindows,
      lastBank := if hot then d.lastBank.set 0 c (BitVec.ofNat 64 (b % banks)) else d.lastBank }

/-- HOTSPOT_WINDOW_END (R313): MAP_HOTSPOT follows whether a bank exceeded the limit; the event names the bank with the most
conflicts. -/
def State.hotspotEnd (conflicts : List (Nat × Nat)) (s : State) : State :=
  let s := conflicts.foldl (fun t c => t.addConflicts c.1 c.2) s
  let worst := conflicts.foldl (fun m c => if m.2 < c.2 then c else m) (0, 0)
  if s.dram.hotLimit < worst.2 then
    ((s.updDram fun d => { d with mapHotspot := true }).raise .dram 2).logEvent 0x1101 worst.1 (worst.1 % 256 + worst.2 % 2 ^ 32 * 256)
  else s.updDram fun d => { d with mapHotspot := false }
/-- HOTSPOT_WINDOW_END. -/
def execHotspotWindowEnd (conflicts : List (Nat × Nat)) (s : State) : Host.Outcome State Fault Refusal :=
  evt (State.hotspotEnd conflicts) s

/-- DQS_DRIFT_CHECK (R305): a drift, in 1/64 UI, beyond 1/16 UI is adjusted. -/
def State.dqsCheck (rank drift64 : Nat) (s : State) : State :=
  if s.pwr.st == .run && s.isReady && decide (rank < 2 * s.boot.board.ranks) && decide (4 < drift64) then
    s.updDram fun d => { d with dqsAdjust := d.dqsAdjust.upd 0 rank (· + 1) }
  else s
/-- DQS_DRIFT_CHECK. -/
def execDqsDriftCheck (rank drift64 : Nat) (s : State) : Host.Outcome State Fault Refusal := evt (State.dqsCheck rank drift64) s

/-- DRAM_CORRECTED_ERROR (R312, R314): more than CE_LIMIT in one clock hour retires the channel. -/
def State.correctedError (c : Nat) (s : State) : State :=
  if !s.channelUp c then s
  else
    let h := s.hourNow
    let old := s.dram.ceHour.get (0, 0) c
    let n := (if old.1 = h then old.2 else 0) + 1
    let s := (s.updDram fun d => { d with ce := d.ce.upd 0 c (· + 1), ceHour := d.ceHour.set (0, 0) c (h, n) }).raise .dram 0
    if s.dram.ceLimit < n then s.retireChannel c else s
/-- DRAM_CORRECTED_ERROR. -/
def execDramCorrectedError (channel : Nat) (_addr : BitVec 64) (s : State) : Host.Outcome State Fault Refusal :=
  evt (State.correctedError channel) s

/-- The counters of an uncorrectable error, its event, and the second within 24 h (R312, R314). -/
def State.countUe (c : Nat) (addr : BitVec 64) (s : State) : State :=
  let recent := (s.dram.ueTimes.get [] c).filter fun t => decide (s.time.ticks - t < ticksPerDay)
  let s := s.updDram fun d => { d with ue := d.ue.upd 0 c (· + 1), ueTimes := d.ueTimes.set [] c (s.time.ticks :: recent) }
  let s := (s.raise .dram 1).logEvent 0x1102 c addr.toNat
  if recent.isEmpty then s else s.retireChannel c

end Sys2Proof.Machine
end

