-- ==== Sys2Proof/Machine/Dma.lean ====
section
/-! DEFINITION. The DMA engine (spec/11 R320–R328, Tables 11-8 to 11-11) and the ingress of Slate streams (spec/05 R171, R172): the
commands, the host's register accesses, and the transfers. -/

namespace Sys2Proof.Machine

/-! ## DMA_SET_CHANNEL, DMA_GET_CHANNEL -/

/-- The field checks of Table 11-11 in ascending offset. -/
def dmaBad (p : DmaReq) (s : State) : Option Nat :=
  let ring := p.endpoint == 1
  firstBad [
    (decide (31 < p.channel.toNat) || decide (1 < p.dir.toNat) || decide (1 < p.endpoint.toNat) || decide (3 < p.priority.toNat) ||
      decide (7 < p.retries.toNat), 0x1206),
    (out p.ringLog2.toNat 12 30, 0x1202),
    (ring && out p.dramLog2.toNat 12 30, 0x1202),
    (!ring && p.dramLog2 != 0, 0x1206),
    (p.ringBase.toNat % 64 != 0, 0x1201),
    (p.wbAddr.toNat % 8 != 0, 0x1201),
    (ring && p.dramBase.toNat % 64 != 0, 0x1201),
    (ring && !s.addrOk p.dramBase.toNat (2 ^ p.dramLog2.toNat), 0x1206),
    (!ring && p.dramBase != 0, 0x1206),
    (let d := s.dmaN p.channel.toNat; d.st != .idle && d.st != .ready, 0x1203)]

/-- A channel with new settings: READY, both pointers 0 (Table 11-8). -/
def Dma.configured (p : DmaReq) (d : Dma) : Dma :=
  { d with
    st := .ready, egress := p.dir == 1, dramRing := p.endpoint == 1, priority := p.priority.toNat, retries := p.retries.toNat,
    ringLog2 := p.ringLog2.toNat, dramLog2 := p.dramLog2.toNat, ringBase := p.ringBase, wbAddr := p.wbAddr, dramBase := p.dramBase,
    prod := 0, cons := 0, dramPos := 0, retriesLeft := p.retries.toNat, retrying := false, stopping := false, rbOpen := none, reqs := [], writes := [] }

/-- DMA_SET_CHANNEL, opcode 0x1201. -/
def srvDmaSetChannel (h : MbHdr) (p : DmaReq) (s : State) : State :=
  mbServe { op := 0x1201, len := 32, rsv := p.rsv != 0 } h
    (fun s => checked (dmaBad p s) (fun s => ok (s.updDma p.channel.toNat (Dma.configured p))) s) s
/-- DMA_SET_CHANNEL. -/
def execDmaSetChannel (h : MbHdr) (p : DmaReq) (s : State) : Host.Outcome State Fault Refusal :=
  mbCmd h (.dmaSetChannel h p) (srvDmaSetChannel h p) s

/-- The DMA_GET_CHANNEL response. -/
def Dma.bytes (c : Nat) (d : Dma) : List Byte :=
  le 1 c ++ le 1 (bit d.egress 0) ++ le 1 (bit d.dramRing 0) ++ le 1 d.priority ++ le 1 d.retries ++ le 1 d.ringLog2 ++
    le 1 d.dramLog2 ++ zeros 1 ++ le 8 d.ringBase.toNat ++ le 8 d.wbAddr.toNat ++ le 8 d.dramBase.toNat ++ le 8 d.moved.toNat ++
    le 8 d.busErrors.toNat ++ le 8 d.retryCnt.toNat ++ le 8 d.readbacks.toNat ++ le 8 d.halts.toNat

/-- DMA_GET_CHANNEL, opcode 0x1202. -/
def srvDmaGetChannel (h : MbHdr) (channel : Byte) (rsv : BitVec 24) (s : State) : State :=
  mbServe { op := 0x1202, len := 4, rsv := rsv != 0 } h
    (fun s => if 31 < channel.toNat then fail 0x1206 s else okWith ((s.dmaN channel.toNat).bytes channel.toNat) s) s
/-- DMA_GET_CHANNEL. -/
def execDmaGetChannel (h : MbHdr) (channel : Byte) (rsv : BitVec 24) (s : State) : Host.Outcome State Fault Refusal :=
  mbCmd h (.dmaGetChannel h channel rsv) (srvDmaGetChannel h channel rsv) s

/-! ## DMA_CH_CTRL (Table 11-9) -/

/-- READY or STOPPED to RUNNING. -/
def Dma.start (d : Dma) : Dma := if d.st = .ready ∨ d.st = .stopped then { d with st := .running, runHeld := false } else { d with runHeld := false }

/-- STOP: outstanding requests finish first. -/
def Dma.halt (d : Dma) : Dma :=
  if d.st ≠ .running then d
  else if d.retrying || d.rbOpen.isSome || !d.reqs.isEmpty then { d with stopping := true }
  else { d with st := .stopped }

/-- RUN and STOP of one write: STOP wins; RUN is held once handshake step 6 has accepted (spec/13 R359). -/
def State.dmaRun (c : Nat) (withStop : Bool) (s : State) : State :=
  if 32 ≤ c then s
  else if withStop then s.updDma c Dma.halt
  else if s.stepAccepted 6 then s.updDma c fun d => { d with runHeld := true }
  else s.updDma c Dma.start

/-- Gives back the streams of every bind waiting on a channel: UNBOUND, chunks freed (R325). -/
def State.cancelBinds (c : Nat) (s : State) : State :=
  let s := (s.slate.binds.get [] c).foldl (fun t b =>
    if !b.live then t
    else
      match t.entry? b.entry with
      | none => t
      | some en => (t.freeStream b.seg (en.stream.get {} b.seg)).updStream b.entry b.seg fun _ => {}) s
  s.updSlate fun t => { t with binds := t.binds.set [] c [] }

/-- CLEAR: HALTED, DONE or STOPPED to READY, REMAIN 0 (Table 11-9, R325). -/
def State.dmaClear (c : Nat) (s : State) : State :=
  let d := s.dmaN c
  if 32 ≤ c || !(d.st == .halted || d.st == .done || d.st == .stopped) then s
  else
    let s := if d.egress then s else s.cancelBinds c
    s.updDma c fun d => { d with
      st := .ready, remain := 0, err := 0, retrying := false, rbOpen := none, reqs := [], retriesLeft := d.retries, stopping := false }

/-- RUN. -/
def execRun (ch : Nat) (withStop : Bool) (s : State) : Host.Outcome State Fault Refusal := hostAcc (State.dmaRun ch withStop) s
/-- STOP. -/
def execStop (ch : Nat) (s : State) : Host.Outcome State Fault Refusal :=
  hostAcc (fun s => if ch < 32 then s.updDma ch Dma.halt else s) s
/-- CLEAR. -/
def execClear (ch : Nat) (s : State) : Host.Outcome State Fault Refusal := hostAcc (State.dmaClear ch) s

/-! ## DMA_PROD, DMA_CONS, DMA_COUNT_ADD (R321, R323, R333) -/

/-- The lower half of a 64-bit register with an upper half in front. -/
def join64 (hi lo : BitVec 32) : BitVec 64 := BitVec.ofNat 64 (hi.toNat * 2 ^ 32 + lo.toNat)

/-- An access to a 64-bit register whose halves are writable: the value that takes effect, with the half held (R333). -/
def State.reg64 (key : Nat) (present : BitVec 64) (a : RegAcc) (s : State) : Option (BitVec 64) × State :=
  let put (v : Option (BitVec 32)) (s : State) : State := s.updHost fun h => { h with loHeld := h.loHeld.set none key v }
  match a with
  | .whole v => (some v, put none s)
  | .lower v => (none, put (some v) s)
  | .upper v => (some (join64 v ((s.host.loHeld.get none key).getD (present.setWidth 32))), put none s)

/-- A pointer write that R321 ignores. -/
def Dma.badPtr (d : Dma) (old prod cons v : Nat) : Bool :=
  v % 8 != 0 || decide (v < old) || decide (prod < cons) || decide (2 ^ d.ringLog2 < prod - cons)

/-- DMA_PROD_WRITE: read-only for egress. -/
def State.prodWrite (c : Nat) (a : RegAcc) (s : State) : State :=
  let d := s.dmaN c
  if 32 ≤ c || d.egress then s
  else
    match s.reg64 (2 * c) d.prod a with
    | (none, s) => s
    | (some v, s) => s.updDma c fun d =>
        if d.badPtr d.prod.toNat v.toNat d.cons.toNat v.toNat then { d with ptrErr := true } else { d with prod := v }
/-- DMA_PROD_WRITE. -/
def execDmaProdWrite (ch : Nat) (acc : RegAcc) (s : State) : Host.Outcome State Fault Refusal := hostAcc (State.prodWrite ch acc) s

/-- DMA_CONS_WRITE: read-only for ingress. -/
def State.consWrite (c : Nat) (a : RegAcc) (s : State) : State :=
  let d := s.dmaN c
  if 32 ≤ c || !d.egress then s
  else
    match s.reg64 (2 * c + 1) d.cons a with
    | (none, s) => s
    | (some v, s) => s.updDma c fun d =>
        if d.badPtr d.cons.toNat d.prod.toNat v.toNat v.toNat then { d with ptrErr := true } else { d with cons := v }
/-- DMA_CONS_WRITE. -/
def execDmaConsWrite (ch : Nat) (acc : RegAcc) (s : State) : Host.Outcome State Fault Refusal := hostAcc (State.consWrite ch acc) s

/-- DMA_COUNT_ADD: an add of 0, or of no multiple of 8, is ignored with PTR_ERR; an add returns a DONE channel to RUNNING. -/
def Dma.add (v : BitVec 32) (d : Dma) : Dma :=
  if v = 0 ∨ v.toNat % 8 ≠ 0 then { d with ptrErr := true }
  else { d with remain := d.remain + v.setWidth 64, st := if d.st = .done then .running else d.st }
/-- DMA_COUNT_ADD. -/
def execDmaCountAdd (ch : Nat) (value : BitVec 32) (s : State) : Host.Outcome State Fault Refusal :=
  hostAcc (fun s => if ch < 32 then s.updDma ch (Dma.add value) else s) s

/-! ## Transfers (R322–R325) -/

/-- `n` bytes were moved: the write-back, the count, and the end of count (R322, R323). -/
def Dma.moveBy (n : Nat) (d : Dma) : Dma :=
  let b := BitVec.ofNat 64 n
  let d := if d.egress then { d with prod := d.prod + b, wbValue := d.prod + b } else { d with cons := d.cons + b, wbValue := d.cons + b }
  let d := { d with remain := d.remain - b, moved := d.moved + b, retriesLeft := d.retries }
  if d.remain = 0 then { d with st := .done, doneSet := true, stopping := false, reqs := [] }
  else if d.stopping && d.reqs.isEmpty then { d with st := .stopped, stopping := false }
  else d

/-- Writes into a DRAM ring from a position. -/
def State.ringWrite (base size pos : Nat) : List Byte → State → State
  | [], s => s
  | b :: bs, s => (s.dramWrite (base + pos % size) [b]).ringWrite base size (pos + 1) bs

/-- What validation of a stream's bytes says of it (spec/05 R172): the header's fields hold once the header has passed. -/
def Stream.check (seg lines : Nat) (t : Stream) : Stream :=
  let t := if headerGood t.data seg lines then
      { t with tag := BitVec.ofNat 32 (fieldAt t.data 20 4), width := fieldAt t.data 8 2, firstCol := fieldAt t.data 16 4 }
    else t
  match validate t.data t.declared seg lines with
  | .more b k => { t with blocks := b, keyBlocks := k }
  | .resident b k => { t with st := .resident, blocks := b, keyBlocks := k }
  | .bad c o b k => { t with st := .error, blocks := b, keyBlocks := k, errCode := c, errOff := o }

/-- A stream takes bytes: consumed in any case, kept and validated while it receives (R171, R172). -/
def Stream.take (seg lines : Nat) (bs : List Byte) (t : Stream) : Stream :=
  let t := { t with received := t.received + bs.length }
  if t.st != .receiving then t else { t with data := t.data ++ bs }.check seg lines

/-- The MIRROR_DATA frames of bytes a stream received, 2,048 bytes each (spec/09 R271). -/
def mirrorFrames (entry seg lines segs : Nat) (auto : Bool) (declared : Nat) : Nat → Nat → List Byte → List MirrorFrame
  | 0, _, _ => []
  | _, _, [] => []
  | f + 1, off, bs =>
    let n := min 2048 bs.length
    ⟨BitVec.ofNat 16 entry, BitVec.ofNat 8 seg, if declared ≤ off + n then 1 else 0, BitVec.ofNat 32 off, BitVec.ofNat 32 lines,
      BitVec.ofNat 8 segs, BitVec.ofNat 8 (bit auto 0), bs.take n⟩ ::
      mirrorFrames entry seg lines segs auto declared f (off + n) (bs.drop n)

/-- Counts a stream that has just become RESIDENT or ERROR. -/
def State.countStream (was now : StreamSt) (s : State) : State :=
  if was == now then s
  else
    match now with
    | .resident => s.updSlate fun t => { t with streamsResident := t.streamsResident + 1 }
    | .error => s.updSlate fun t => { t with streamsError := t.streamsError + 1 }
    | _ => s

/-- Bytes for segment `seg` of an open entry. -/
def State.streamBytes (e seg : Nat) (bs : List Byte) (s : State) : State :=
  match s.entry? e with
  | none => s
  | some en =>
    let t := en.stream.get {} seg
    let u := t.take seg en.lines bs
    let s := (s.updStream e seg fun _ => u).countStream t.st u.st
    if !s.boot.twinEn || !s.isLead then s
    else (mirrorFrames e seg en.lines en.segments en.autoFree t.declared (bs.length + 1) t.received bs).foldl
      (fun s f => s.mirrorSend (.mirror f)) s

/-- Gives a channel's bytes to its binds in order (R171). -/
def State.ingest (c : Nat) : Nat → List Byte → State → State
  | 0, _, s => s
  | _, [], s => s
  | f + 1, bs, s =>
    match s.slate.binds.get [] c with
    | [] => s
    | b :: rest =>
      let n := min bs.length b.bytesLeft
      let s := if b.live then s.streamBytes b.entry b.seg (bs.take n) else s
      let s := s.updSlate fun t => { t with
        binds := t.binds.set [] c (if n = b.bytesLeft then rest else { b with bytesLeft := b.bytesLeft - n } :: rest) }
      s.ingest c f (bs.drop n)

/-- The bytes the binds of a channel still want. -/
def State.bindRoom (s : State) (c : Nat) : Nat := ((s.slate.binds.get [] c).map (·.bytesLeft)).sum

/-- How many bytes an ingress channel can move now. -/
def State.ingressRoom (s : State) (c : Nat) : Nat :=
  let d := s.dmaN c
  let n := min (d.prod - d.cons).toNat d.remain.toNat
  if d.dramRing then n else min n (s.bindRoom c)

/-! ### Requests (R326) -/

/-- The non-posted tags of the engine, those of one channel, and the bytes of a read and of a write at most. -/
def dmaTags : Nat := 256
def dmaChannelTags : Nat := 32
def dmaReadMax : Nat := 4096
def dmaWriteMax : Nat := 512

/-- The tags in use: read requests and read-backs. -/
def State.tagsUsed (s : State) : Nat :=
  ((List.range 32).map fun c => (s.dmaN c).reqs.length + if (s.dmaN c).rbOpen.isSome then 1 else 0).sum

/-- A channel has bytes to request and a tag left for it. -/
def State.wantsRead (s : State) (c : Nat) : Bool :=
  let d := s.dmaN c
  d.st == .running && !d.egress && !d.retrying && !d.stopping && decide (d.reqs.length < dmaChannelTags) &&
    decide (d.reqs.sum < s.ingressRoom c)

/-- The channel that requests next: the lowest PRIORITY, and of equal ones the one served longest ago. -/
def State.nextReader (s : State) : Option Nat :=
  ((List.range 32).filter s.wantsRead).foldl (fun b c => match b with
    | none => some c
    | some a =>
      let x := s.dmaN a
      let y := s.dmaN c
      some (if y.priority < x.priority ∨ (y.priority = x.priority ∧ y.turn < x.turn) then c else a)) none

/-- Issues read requests while a tag is free and a channel wants one. -/
def State.issueReads : Nat → State → State
  | 0, s => s
  | f + 1, s =>
    if dmaTags ≤ s.tagsUsed then s
    else
      match s.nextReader with
      | none => s
      | some c =>
        let last := ((List.range 32).map fun k => (s.dmaN k).turn).foldl max 0
        let n := min dmaReadMax (s.ingressRoom c - (s.dmaN c).reqs.sum)
        (s.updDma c fun d => { d with reqs := d.reqs ++ [n], turn := last + 1 }).issueReads f

/-- `n` bytes have come for the outstanding requests. -/
def takeReqs : Nat → List Nat → List Nat
  | _, [] => []
  | n, r :: l => if n < r then (r - n) :: l else takeReqs (n - r) l

/-- The sizes of the writes that carry `n` bytes. -/
def writeSizes (n : Nat) : List Nat :=
  List.replicate (n / dmaWriteMax) dmaWriteMax ++ if n % dmaWriteMax = 0 then [] else [n % dmaWriteMax]

/-- DMA_INGRESS_TRANSFER: bytes that outstanding reads of the host ring brought reach the endpoint in ring order. -/
def State.ingress (c : Nat) (bs : List Byte) (s0 : State) : State :=
  let s := s0.issueReads dmaTags
  let d := s.dmaN c
  if 32 ≤ c || d.st != .running || d.egress || d.retrying || bs.isEmpty || decide (d.reqs.sum < bs.length) ||
      decide (s.ingressRoom c < bs.length) then s0
  else
    let s := s.updDma c fun d => { d with reqs := takeReqs bs.length d.reqs }
    let s := if d.dramRing then
        (s.ringWrite d.dramBase.toNat (2 ^ d.dramLog2) d.dramPos bs).updDma c fun d => { d with dramPos := d.dramPos + bs.length }
      else s.ingest c (bs.length + 17) bs
    s.updDma c (Dma.moveBy bs.length)
/-- DMA_INGRESS_TRANSFER. -/
def execDmaIngressTransfer (ch : Nat) (data : List Byte) (s : State) : Host.Outcome State Fault Refusal :=
  evt (State.ingress ch data) s

/-- How many bytes an egress channel can move now: free space, count, and what its endpoint holds. -/
def Dma.egressRoom (d : Dma) : Nat :=
  let n := min (2 ^ d.ringLog2 - (d.prod - d.cons).toNat) d.remain.toNat
  if d.dramRing then n else min n d.out.length

/-- DMA_EGRESS_TRANSFER: bytes are written to the host ring and their read-back is sent (R324). -/
def State.egress (c n : Nat) (s : State) : State :=
  let d := s.dmaN c
  if 32 ≤ c || d.st != .running || !d.egress || d.retrying || d.rbOpen.isSome || n == 0 || decide (d.egressRoom < n) ||
      decide (dmaTags ≤ s.tagsUsed) then s
  else s.updDma c fun d => { d with rbOpen := some n, writes := writeSizes n }
/-- DMA_EGRESS_TRANSFER. -/
def execDmaEgressTransfer (ch bytes : Nat) (s : State) : Host.Outcome State Fault Refusal := evt (State.egress ch bytes) s

/-- DMA_READBACK_DONE: DMA_PROD advances (R324). -/
def State.readbackDone (c : Nat) (s : State) : State :=
  let d := s.dmaN c
  match d.rbOpen with
  | none => s
  | some n =>
    if 32 ≤ c || d.st != .running || d.retrying then s
    else s.updDma c fun d => ({ d with
      rbOpen := none, readback := true, readbacks := d.readbacks + 1, out := if d.dramRing then d.out else d.out.drop n,
      dramPos := d.dramPos + n }).moveBy n
/-- DMA_READBACK_DONE. -/
def execDmaReadbackDone (ch : Nat) (s : State) : Host.Outcome State Fault Refusal := evt (State.readbackDone ch) s

/-- A channel halts with the low byte of a status code (R325, R312). -/
def Dma.stopWith (code : Byte) (d : Dma) : Dma :=
  { d with st := .halted, err := code, haltSet := true, retrying := false, rbOpen := none, reqs := [], stopping := false, halts := d.halts + 1 }

/-- DMA_BUS_ERROR: retried up to RETRIES times, then DMA_ERR_BUS (R325). -/
def State.busError (c : Nat) (s : State) : State :=
  let d := s.dmaN c
  let open_ := if d.egress then d.rbOpen.isSome else decide (0 < s.ingressRoom c)
  if 32 ≤ c || d.st != .running || d.retrying || !open_ then s
  else s.updDma c fun d =>
    let d := { d with busErrors := d.busErrors + 1, readback := if d.egress then false else d.readback }
    if d.retriesLeft = 0 then d.stopWith 0x04 else { d with retrying := true, retriesLeft := d.retriesLeft - 1 }
/-- DMA_BUS_ERROR. -/
def execDmaBusError (ch : Nat) (s : State) : Host.Outcome State Fault Refusal := evt (State.busError ch) s

/-- DMA_RETRY: 10 µs later the failed request goes out again (R325). -/
def State.dmaRetry (c : Nat) (s : State) : State :=
  let d := s.dmaN c
  if 32 ≤ c || d.st != .running || !d.retrying then s
  else s.updDma c fun d => { d with retrying := false, retryCnt := d.retryCnt + 1 }
/-- DMA_RETRY. -/
def execDmaRetry (ch : Nat) (s : State) : Host.Outcome State Fault Refusal := evt (State.dmaRetry ch) s

/-! ## The reset of the channels (spec/12 R332) -/

/-- A channel at IDLE; its counters run since reset of the chip. -/
def Dma.idled (d : Dma) : Dma :=
  { moved := d.moved, busErrors := d.busErrors, retryCnt := d.retryCnt, readbacks := d.readbacks, halts := d.halts }

/-- Every channel to IDLE, with R325's treatment of pending binds. -/
def State.dmaIdle (s : State) : State :=
  (List.range 32).foldl (fun t c => (if (t.dmaN c).egress then t else t.cancelBinds c).updDma c Dma.idled) s

end Sys2Proof.Machine
end

