-- ==== Sys2Proof/Machine/Page.lean ====
section
/-! DEFINITION. The PAGE commands (spec/02 R39, R46, R49–R54, R67, R72, R73, Tables 02-8 to 02-12; on a pair spec/09 R271–R273):
admission with its checks in their order, abort, query, report, and the estimator snapshot. -/

namespace Sys2Proof.Machine

/-- The enabled interlock inputs that are active (R100). -/
def State.ilkActive (s : State) : Byte := s.fire.ilkDeb &&& s.fire.ilkEnable

/-! ## The checks of R52 -/

/-- The streams of an entry against geometry and page (R52, R271): not resident, failed, mismatched. -/
def streamsBad (g : Geo) (w : Web) (lines : Nat) (e : Option Entry) (s : State) : Option Nat :=
  match e with
  | none => some 0x0504
  | some e =>
    let st := (List.range e.segments).map fun j => e.stream.get {} j
    firstBad [
      (st.any fun x => x.st == .unbound || x.st == .receiving || (s.pairUp && x.st == .resident && !x.lastAcked), 0x0504),
      (st.any fun x => x.st == .error, 0x0505),
      (e.segments != g.segments w || e.lines != lines || st.zipIdx.any fun x =>
        x.1.width != g.segWidth w x.2 || x.1.firstCol != x.2 * w.segWidth, 0x0506)]

/-- Decode demand in pixels per second of a page at its contract (R52). -/
def Geo.demand (g : Geo) (w : Web) (vContract : Nat) : Rat := g.columns * (w.mmToCounts vContract / w.pitchCounts)

/-- h of R52, in seconds. -/
def Geo.admitTime (g : Geo) (w : Web) : Rat :=
  ((w.leadTimeUs * 1000 + 50000 + g.ports.foldl (fun m p => max m p.2.dropFlightNs) 0 : Nat) : Rat) / 1000000000

/-- The distance needed at standstill, in counts: 2 + v_acq × h + accel_max × h² / 2. -/
def Geo.needStill (g : Geo) (w : Web) : Rat :=
  let h := g.admitTime w
  let a := w.mmToCounts w.accelMax
  2 + ratSqrt (4 * a) * h + a * h * h / 2

/-- The distance needed in motion. -/
def Geo.needMoving (g : Geo) (w : Web) (v : Rat) : Rat :=
  let h := g.admitTime w
  v * h + w.mmToCounts w.accelMax * h * h / 2

/-- need of R52 in counts, by the estimator's state. -/
def State.need (s : State) (g : Geo) (w : Web) : Rat :=
  if s.est.st = .standstill then g.needStill w else g.needMoving w s.webVel

/-- ahead of R52 in counts. -/
def State.ahead (s : State) (g : Geo) (w : Web) (top : Int) : Rat :=
  ((top + minInt (g.ports.map fun p => g.rowOffset w p.1) - s.webPos : Int) : Rat) / 65536

/-- A handle is queued, or left less than 1 ms ago (R56). -/
def State.handleBusy (s : State) (h : Nat) : Bool := (s.page? h).isSome || s.bat.quiet.contains h

/-- Stalemate: admissions are frozen (spec/09 R283, R264). -/
def State.admitFrozen (s : State) : Bool := s.boot.twinEn && (s.twin.frozen || s.twin.conflict)

/-- The checks of R52 behind the field ranges and the geometry, in their order. -/
def admitBad (g : Geo) (w : Web) (p : PageAdmitReq) (s : State) : Option Nat :=
  let h := p.handle.toNat
  let vc := p.vContract.toNat
  firstBad [
    (s.admitFrozen, 0x0510),
    (s.roleNow != .lead, 0x050F),
    (s.handleBusy h, 0x0502),
    (decide (64 ≤ s.bat.pages.length), 0x0503)] <|>
  streamsBad g w p.lines.toNat (s.entry? p.storeEntry.toNat) s <|>
  firstBad [
    (decide (s.vFire < vc), 0x0507),
    (decide ((s.decodeCap : Rat) < g.demand w vc), 0x0508),
    (s.ilkActive != 0 || !s.fire.permit, 0x0509),
    (s.est.st == .acquiring || (s.est.st == .standstill && !p.flags.getLsbD 0), 0x050A),
    (s.est.st == .moving && decide (s.webVel < 0), 0x050B),
    (s.bat.speedLimit || decide (s.fraction * w.mmToCounts vc ≤ s.webVel), 0x050C),
    (s.bat.pages.any fun q => decide (p.top.toInt < w.linePos q.top q.lines), 0x050D),
    (decide (p.top.toInt ≤ s.webPos) || decide (s.ahead g w p.top.toInt < s.need g w), 0x050E)]

/-- The start parity of R39; 0 under single coverage, where R39's second case has no row to choose (log 103). -/
def State.startParity (s : State) (w : Web) (top : Int) : Nat :=
  if !w.dual then 0
  else
    match s.bat.lastPage with
    | some (t, n, par) =>
      let last := w.linePos t (n - 1)
      if last ≤ top ∧ (top - last) * 65536 < (2 * w.pitch : Nat) then (n + par) % 2
      else w.altPhase.toNat
    | none => w.altPhase.toNat

/-- The first own line of a port. -/
def Web.firstOwn (w : Web) (par : Nat) (rowB : Bool) : Nat := if w.owns par rowB 0 then 0 else 1

/-- The time to the first fire time of a page in ns (Table 02-9); 0xFFFFFFFF too where the web moves and no fire time is predicted
(log 103). -/
def State.dtFirst (s : State) (g : Geo) (w : Web) (par lines : Nat) (top : Int) : Nat :=
  let ts := g.ports.filterMap fun p =>
    let n := w.firstOwn par p.2.rowB
    if n < lines then s.fireTime g w top n p.1 else none
  if s.est.st = .standstill ∨ ts.isEmpty then 0xFFFFFFFF
  else min 0xFFFFFFFF ((minInt ts - s.now256) / 256).toNat

/-- DECODE_MARGIN (Table 02-9). -/
def State.decodeMargin (s : State) (g : Geo) (w : Web) (vc : Nat) : Nat :=
  min 0xFFFF ((s.decodeCap : Rat) / g.demand w vc * 256).floor.toNat

/-- The PAGE_ADMIT response (Table 02-9); AHEAD_MARGIN stays at 0xFFFFFFFF where it does not fit (log 103). -/
def State.admitBytes (s : State) (g : Geo) (w : Web) (p : PageAdmitReq) (par : Nat) : List Byte :=
  [p.handle] ++ le 1 par ++ zeros 2 ++ le 4 (wholeMm s.vFire) ++
    le 4 (s.dtFirst g w par p.lines.toNat p.top.toInt) ++
    le 4 (min 0xFFFFFFFF (s.ahead g w p.top.toInt - s.need g w).floor.toNat) ++ le 2 (s.decodeMargin g w p.vContract.toNat) ++ zeros 2

/-- The page a PAGE_ADMIT brings. -/
def pageOfReq (p : PageAdmitReq) (par policy : Nat) : Page :=
  { handle := p.handle.toNat, entry := p.storeEntry.toNat, lines := p.lines.toNat, top := p.top.toInt,
    vContract := p.vContract.toNat, parity := par, policy := policy, standstill := p.flags.getLsbD 0 }

/-- Puts a page into the queue in ascending order of top (R54), behind those of equal top. -/
def insertPage (pg : Page) : List Page → List Page
  | [] => [pg]
  | q :: qs => if pg.top < q.top then pg :: q :: qs else q :: insertPage pg qs

/-- A page enters the Batten queue; its handle's old report is gone (R67), an armed handle knows its page (spec/06 R200), and what
the coverage trace holds of an older page of the handle is told apart. -/
def State.queuePage (pg : Page) (s : State) : State :=
  let marked := s.vis.thatch.filter fun t => t.left && s.stripMarked t
  let s := s.updBat fun b => { b with
    pages := insertPage pg b.pages, left := b.left.filter fun q => q.handle != pg.handle, reports := b.reports.set none pg.handle none,
    lastPage := some (pg.top, pg.lines, pg.parity), checks := b.checks.filter fun c => c.1 != pg.handle }
  let s := s.updFire fun f => { f with
    trace := f.trace.map fun r => if r.handle = pg.handle then { r with old := true } else r,
    spoilt := f.spoilt.map fun r => if r.handle = pg.handle then { r with old := true } else r }
  let s := s.updVis fun v => { v with thatch := v.thatch.map fun t =>
    if t.handle ≠ pg.handle then t
    else if t.left then { t with marked := marked.contains t }
    else { t with page := some (pg.top, pg.lines, pg.parity) } }
  s.speedCheck

/-- The press message of an admission completed with OK (spec/10 R300). -/
def State.pageStart (h : Nat) (s : State) : State :=
  match s.page? h with
  | some p => if s.time.pressFlags.getLsbD 0 then s.pressSend 1 0 h p.top p.lines p.vContract else s
  | none => s

/-- Counts an admission towards a castle (spec/09 R284). -/
def State.countAdmission (s : State) : State :=
  if !s.boot.twinEn then s
  else
    let s := s.updTwin fun t => { t with pagesSince := t.pagesSince + 1 }
    if s.twin.mode.mode = 1 ∧ s.twin.mode.castlePages ≠ 0 ∧ s.twin.mode.castlePages ≤ s.twin.pagesSince then s.castleFallsDue else s

/-- The ADMIT frame of a page (spec/09 Table 09-4). -/
def State.admitFrame (s : State) (pg : Page) : AdmitFrame :=
  { handle := BitVec.ofNat 8 pg.handle, startParity := BitVec.ofNat 8 pg.parity,
    flags := BitVec.ofNat 8 (bit pg.standstill 0), policy := BitVec.ofNat 8 pg.policy, storeEntry := BitVec.ofNat 16 pg.entry,
    lines := BitVec.ofNat 32 pg.lines, vContract := BitVec.ofNat 32 pg.vContract, top := BitVec.ofInt 64 pg.top,
    admitSec := s.time.clock.sec.setWidth 64, admitNs := s.time.clock.ns }

/-- The field ranges of Table 02-8. -/
def pageParamBad (p : PageAdmitReq) : Option Nat :=
  if 1023 < p.storeEntry.toNat ∨ 1048576 < p.lines.toNat ∨ p.vContract = 0 then some 0x0512 else none

/-- PAGE_ADMIT's own rules (R52). On a pair it completes when the RESERVE acknowledges the ADMIT, and alone in SOLO (R272). R50 is
evaluated for it first; a refusal leaves the state as it stood. -/
def pageAdmitBody (p : PageAdmitReq) (s0 : State) : Answer :=
  let s := s0.speedCheck
  match s.geo.committed with
  | some { web := some w, port := ports } =>
    let g : Geo := { web := some w, port := ports }
    match admitBad g w p s with
    | some c => fail c s0
    | none =>
      let par := s.startParity w p.top.toInt
      let pg := pageOfReq p par s.geo.policy
      let bytes := s.admitBytes g w p par
      let t := (s.queuePage pg).countAdmission
      if s.boot.twinEn && !s.twin.solo then
        .later .admission bytes ((t.twinSend (.admission (s.admitFrame pg))).updTwin fun x => { x with admits := x.admits ++ [pg.handle] })
      else .done 0 bytes (t.pageStart pg.handle)
  | _ => fail 0x0501 s0

/-- PAGE_ADMIT, opcode 0x0501. -/
def srvPageAdmit (h : MbHdr) (p : PageAdmitReq) (s : State) : State :=
  mbServe { op := 0x0501, len := 24, rsv := 1 < p.flags.toNat || p.rsv != 0, zero := p.lines == 0,
            gated := fun s => s.batGated || s.stepAccepted 1 } h
    (checked (pageParamBad p) (pageAdmitBody p)) s
/-- PAGE_ADMIT. -/
def execPageAdmit (h : MbHdr) (p : PageAdmitReq) (s : State) : Host.Outcome State Fault Refusal :=
  mbCmd h (.pageAdmit h p) (srvPageAdmit h p) s

/-! ## Abort, query, report, snapshot -/

/-- Ends a page for the host (R72) and tells the RESERVE (spec/09 R273). -/
def State.abortPage (pg : Page) (s : State) : State :=
  (s.mirrorSend (.pageEvent (pageEvent 1 pg.handle pg.entry (s.firstUnfired pg)))).endPageHeld 12 pg.handle

/-- PAGE_ABORT's own rules (R72, R73). -/
def pageAbortBody (handle flags : Byte) (s : State) : Answer :=
  if !s.isLead then fail 0x050F s
  else if flags.getLsbD 0 then ok (s.bat.pages.foldl (fun t p => t.abortPage p) s)
  else
    match s.page? handle.toNat with
    | some p => ok (s.abortPage p)
    | none => fail 0x0511 s

/-- PAGE_ABORT, opcode 0x0502. -/
def srvPageAbort (h : MbHdr) (handle flags : Byte) (rsv : BitVec 16) (s : State) : State :=
  mbServe { op := 0x0502, len := 4, rsv := 1 < flags.toNat || rsv != 0 } h (pageAbortBody handle flags) s
/-- PAGE_ABORT. -/
def execPageAbort (h : MbHdr) (handle flags : Byte) (rsv : BitVec 16) (s : State) : Host.Outcome State Fault Refusal :=
  mbCmd h (.pageAbort h handle flags rsv) (srvPageAbort h handle flags rsv) s

/-- The PAGE_QUERY response (Table 02-10). -/
def State.queryBytes (s : State) (h : Nat) : List Byte :=
  match s.page? h with
  | some p => le 1 (if p.firedLines.isEmpty then 1 else 2) ++ zeros 3 ++ le 4 (s.firstUnfired p) ++ le 4 (marksWord p.marks)
  | none =>
    match s.bat.reports.get none h with
    | some r => le 1 3 ++ zeros 3 ++ le 4 r.nextLine ++ le 4 (marksWord r.marks)
    | none => zeros 12

/-- PAGE_QUERY, opcode 0x0503. -/
def srvPageQuery (h : MbHdr) (handle : Byte) (rsv : BitVec 24) (s : State) : State :=
  mbServe { op := 0x0503, len := 4, rsv := rsv != 0 } h (fun s => okWith (s.queryBytes handle.toNat) s) s
/-- PAGE_QUERY. -/
def execPageQuery (h : MbHdr) (handle : Byte) (rsv : BitVec 24) (s : State) : Host.Outcome State Fault Refusal :=
  mbCmd h (.pageQuery h handle rsv) (srvPageQuery h handle rsv) s

/-- A report in the layout of Table 02-11. -/
def Report.bytes (r : Report) : List Byte :=
  le 4 (marksWord r.marks) ++ le 1 r.lateCause ++ zeros 3 ++ le 4 r.linesFired ++ zeros 4 ++ rangesBytes r.marks

/-- PAGE_REPORT's own rules (R67): a report not yet completed is none (spec/09 R274). -/
def pageReportBody (handle : Byte) (s : State) : Answer :=
  match s.bat.reports.get none handle.toNat with
  | some r => if r.awaitTwin then fail 0x0511 s else okWith r.bytes s
  | none => fail 0x0511 s

/-- PAGE_REPORT, opcode 0x0504. -/
def srvPageReport (h : MbHdr) (handle : Byte) (rsv : BitVec 24) (s : State) : State :=
  mbServe { op := 0x0504, len := 4, rsv := rsv != 0 } h (pageReportBody handle) s
/-- PAGE_REPORT. -/
def execPageReport (h : MbHdr) (handle : Byte) (rsv : BitVec 24) (s : State) : Host.Outcome State Fault Refusal :=
  mbCmd h (.pageReport h handle rsv) (srvPageReport h handle rsv) s

/-- The estimator state's code (Table 02-12). -/
def MoveSt.code : MoveSt → Nat
  | .standstill => 0 | .acquiring => 1 | .moving => 2

/-- The estimator snapshot (Table 02-12). -/
def State.webBytes (s : State) : List Byte :=
  le 1 s.est.st.code ++ le 1 (bit (s.encN 0).reverse 0 + bit s.bat.speedLimit 1 + bit s.est.quad 2) ++ zeros 2 ++
    le 4 (s.govern.getD 0) ++ leI 8 s.webPos ++ leI 8 (nearest (s.webVel * 65536)) ++
    leI 4 (if s.est.st = .moving then nearest s.est.a else 0) ++ le 4 (wholeMm s.vFire) ++ le 8 s.time.clock.sec.toNat ++
    le 4 s.time.clock.ns.toNat ++ zeros 4

/-- PAGE_GET_WEB, opcode 0x0505. -/
def srvPageGetWeb (h : MbHdr) (s : State) : State :=
  mbServe { op := 0x0505, len := 0 } h (fun s => okWith s.webBytes s) s
/-- PAGE_GET_WEB. -/
def execPageGetWeb (h : MbHdr) (s : State) : Host.Outcome State Fault Refusal := mbCmd h (.pageGetWeb h) (srvPageGetWeb h) s

end Sys2Proof.Machine
end

