-- ==== Sys2Proof/Machine/Pwr.lean ====
section
/-! DEFINITION. The power manager (spec/13 R353–R374; spec/15 R401): the entry handshake, commit and abandonment, level changes,
retention, and the PWR commands. -/

namespace Sys2Proof.Machine

/-! ## The answers of the blocks (Table 13-4) -/

/-- A block's answer. -/
inductive HsAnswer
  | accept | delay | refuse (reason : Nat)
  deriving DecidableEq, Repr

/-- The transition leaves RUN or HOLD for a lower state. -/
def Goal.entry : Goal → Bool
  | .state _ => true
  | .level _ => false

/-- The steps a transition asks (R357). -/
def askedSteps (now : Nat) : Goal → List Nat
  | .state .run => []
  | .state _ => [1, 2, 3, 4, 5, 6, 7, 8, 9, 10, 11]
  | .level l => if l ≤ now then [] else if l = 1 then [1] else if l = 2 then [1, 3, 4, 5] else [1, 2, 3, 4, 5]

/-- Step 1's check of a change from PL_0 to PL_1: some admitted page demands more than the decoders give (R357). -/
def State.overBudget (s : State) : Bool :=
  match s.geo.committed with
  | none => false
  | some g =>
    match g.web with
    | none => false
    | some w => s.bat.pages.any fun p => decide ((s.decodeCapAt 1 : Rat) < g.demand w p.vContract)

/-- An axis moves, or gearing is engaged (spec/08 R258). -/
def State.axisMoving (s : State) : Bool :=
  (List.range 8).any fun n =>
    let a := s.axisN n
    !(a.st == .idle || a.st == .stoppedQuick || a.st == .disabled) || (match a.gear with | some g => g.engaged | none => false)

/-- Camera lines remain queued (spec/06 R202). -/
def State.camLinesQueued (s : State) : Bool := (List.range 4).any (fun p => !(s.camN p).fifo.isEmpty) || s.vis.cur.isSome

/-- A GAIN_UPDATE is committing, or its head writes are in progress (Table 13-4, spec/07 R213). -/
def State.gainBusy (s : State) : Bool :=
  let gain (b : JBody) : Bool := match b with | .gainUpdate _ => true | _ => false
  let code (r : CtrlReq) : Bool := match r with | .write a _ => decide (adrCodes ≤ a.toNat) || a.toNat == adrApply | _ => false
  s.nvm.waiting.any gain || (match s.nvm.writing with | some r => gain r.body | none => false) ||
    (List.range 48).any fun p => let q := s.portN p; q.ctrlQ.any code || (match q.ctrlOut with | some o => code o.req | none => false)

/-- A RUNNING channel has a request outstanding, ingress bytes pending or a read-back open (spec/11 R327). -/
def State.dmaActive (s : State) : Bool :=
  (List.range 32).any fun c =>
    let d := s.dmaN c
    d.st == .running && (d.retrying || d.rbOpen.isSome || (!d.egress && decide (0 < s.ingressRoom c)))

/-- A record write or a compaction runs (Table 13-4). -/
def State.storeBusy (s : State) : Bool := s.nvm.writing.isSome || !s.nvm.waiting.isEmpty || !s.nvm.rxWait.isEmpty || s.nvm.compacting.isSome

/-- A block's answer while its condition stands as it does. -/
def State.hsAnswer (g : Goal) (k : Nat) (s : State) : HsAnswer :=
  if k = 1 then
    if g = .level 1 then (if s.overBudget then .refuse 6 else .accept)
    else if s.bat.pages.isEmpty then .accept else .refuse 1
  else if k = 2 then (if s.axisMoving then .refuse 2 else .accept)
  else if k = 3 then (if s.camLinesQueued then .delay else .accept)
  else if k = 4 then (if s.gainBusy then .delay else .accept)
  else if k = 5 then (if s.slate.encBusy.isSome then .delay else .accept)
  else if k = 6 then (if s.dmaActive then .delay else .accept)
  else if k = 7 then (if s.storeBusy then .delay else .accept)
  else .accept

/-- A block's answer at its bound (R358): those whose row names a refusal refuse. -/
def hsBound (k : Nat) : HsAnswer := if k = 4 then .refuse 5 else if k = 6 then .refuse 3 else if k = 7 then .refuse 4 else .accept

/-- What a block does on being asked: the camera block stops every trigger at once (spec/06 R202). -/
def State.hsAsk (k : Nat) (s : State) : State :=
  if k ≠ 3 then s
  else
    let before := (List.range 4).foldl (fun m p => SMap.set CamSt.stopped m p (s.camN p).st) []
    let s := (List.range 4).foldl (fun t p => t.camStopped p) s
    s.updPwr fun p => { p with trans := p.trans.map fun t => { t with cams := before } }

/-- Closes every open egress stream as SLATE_ENC_CLOSE does (spec/05 R178). -/
def State.closeStreams (s : State) : State :=
  let before := s.slate.es.filter fun e => e.2.isOpen
  let s := (List.range 8).foldl (fun t i =>
    if !(t.esN i).isOpen then t
    else if t.encBusyOn i then t.updEs i fun e => { e with closing := true } else t.closeEs i) s
  s.updPwr fun p => { p with trans := p.trans.map fun t => { t with streams := before } }

/-- What a block does when it accepts: the camera block closes its frames, every window restarts, the egress streams close. -/
def State.hsAccept (k : Nat) (s : State) : State :=
  let s := if k = 3 then (List.range 4).foldl (fun t p => t.closeFrame p) s
    else if k = 4 then s.restartAll.updLoop fun l => { l with acc := [], openPos := [] }
    else if k = 5 then s.closeStreams
    else s
  s.updPwr fun p => { p with trans := p.trans.map fun t => { t with accepted := k :: t.accepted, left := t.left.drop 1, delayed := false } }

/-- The RUN bits held since step 6 accepted take effect (R359). -/
def State.releaseRuns (s : State) : State :=
  (List.range 32).foldl (fun s c => if (s.dmaN c).runHeld then s.updDma c Dma.start else s) s

/-- Returns a block that had accepted to its prior condition (R358): its ports run again, its streams are open again, the RUN
bits held take effect. -/
def State.hsReturn (t : Trans) (k : Nat) (s : State) : State :=
  if k = 3 then
    t.cams.foldl (fun s c =>
      let k := s.camN c.1
      ((s.updCam c.1 fun k => { k with st := c.2 }).updTrig k.place.trig fun t => { t with st := .cameraOwned }) |>.ownersMoved s) s
  else if k = 5 then
    t.streams.foldl (fun s e => s.updEs e.1 fun x => { x with isOpen := true, closing := e.2.closing }) s
  else if k = 6 then s.releaseRuns
  else s

/-! ## Ending a transition -/

/-- Completes the power command that waits, with a status and its failure payload; a transition that a wake source started has
none. -/
def State.powerDone (status : Nat) (payload : List Byte) (s : State) : State :=
  match s.host.inflight.find? fun i => i.wait == .power with
  | none => s
  | some i =>
    let s := s.updHost fun m => { m with inflight := m.inflight.filter fun j => j.wait != .power }
    if i.discard then s else s.mbComplete i.hdr i.opcode.toNat status payload

/-- The transition is over. -/
def State.endTrans (s : State) : State := s.updPwr fun p => { p with trans := none }

/-- Time spent in the handshake, in µs. -/
def State.waitedUs (t : Trans) (s : State) : Nat := (s.time.ticks - t.startTick) / 400

/-- Abandons an entry or a level change (R358, R361): the blocks return in reverse order. Step 3 returns its ports also when
it had been asked and not accepted yet. -/
def State.abandon (status : Nat) (payload : List Byte) (s : State) : State :=
  match s.pwr.trans with
  | none => s
  | some t =>
    let asked := if t.left.head? = some 3 ∧ t.delayed then 3 :: t.accepted else t.accepted
    let s := asked.foldl (fun s k => s.hsReturn t k) s
    let s := s.endTrans
    let s := if t.goal.entry then s.raise .pwr 2 else s
    s.powerDone status payload

/-! ## Levels (R354, R363) -/

/-- The level whose voltage a state needs: HOLD runs at PL_2. -/
def Goal.voltage (g : Goal) (level : Nat) : Nat :=
  match g with
  | .level l => l
  | .state .hold => 2
  | .state _ => level

/-- The clocks of the goal: its level, or HOLD's, or RUN again at the level held. -/
def State.moveClocks (g : Goal) (s : State) : State :=
  match g with
  | .level l =>
    let s := s.updPwr fun p => { p with level := l }
    if l = 3 then (List.range 48).foldl (fun t p => t.closeGap p) s else s
  | .state .hold => (List.range 48).foldl (fun t p => t.closeGap p) (s.updPwr fun p => { p with st := .hold })
  | .state .run => s.updPwr fun p => { p with st := .run }
  | .state _ => s

/-- The transition has reached its goal (R360, R362, R363). -/
def State.reached (g : Goal) (s : State) : State :=
  let s := s.endTrans
  let s := match g with
    | .level _ => s.raise .pwr 3
    | .state .hold => s.raise .pwr 0
    | .state _ => s.raise .pwr 1
  (s.powerDone 0 []).rehide.speedCheck

/-- Starts the supply change of a goal (R363): raising, the voltage first; lowering, the clocks first. -/
def State.supplyChange (g : Goal) (s : State) : State :=
  let want := g.voltage s.pwr.level
  let now := s.pwr.voltLevel
  if want = now then (s.moveClocks g).reached g
  else
    let s := if want < now then s else s.moveClocks g
    s.updPwr fun p => { p with trans := p.trans.map fun t => { t with pmbus := true } }

/-! ## Commit (R360) -/

/-- What the retained banks hold of the boot fields and the nozzle table, until a wake decides what of it is good (R369). -/
def State.retain (s0 s : State) : State :=
  (s.updBoot fun b => { b with
    fwVersion := s0.boot.fwVersion, imgSvn := s0.boot.imgSvn, imgKey := s0.boot.imgKey, board := s0.boot.board,
    bootSlot := s0.boot.bootSlot }).updCal fun c => { c with vol := s0.cal.vol }

/-- The epochs of the links and of the cameras, which outlast the sleep: a wake advances the first and keeps the second (spec/04 R124,
Table 13-1, spec/06 R202). -/
def State.keepEpochs (s0 s : State) : State :=
  let s := (List.range 48).foldl (fun t p => t.updPort p fun q => { q with epoch := (s0.portN p).epoch }) s
  (List.range 4).foldl (fun t n => t.updCam n fun k => { k with epoch := (s0.camN n).epoch }) s

/-- A committed STANDBY or OFF: PWR_EN falls, the core is lost, no command completes. -/
def State.sleep (off : Bool) (s0 : State) : State :=
  let cal := s0.calendar64
  let s := State.keepEpochs s0 (if off then s0.coreReset else State.retain s0 s0.coreReset)
  s.updPwr fun p =>
    { p with
      st := if off then .off else .standby, pwrEn := false, corePg := false, waking := false, attempts := 0,
      fromStandby := !off, lastSleep := BitVec.ofNat 64 cal, aonBrownout := false,
      aonThermal := if off then none else p.aonThermal, thermalNew := p.thermalNew && !off }

/-- Every asked block has accepted: the entry or the change goes ahead. The hold on RUN bits ends with the commit of HOLD. -/
def State.commit (g : Goal) (s : State) : State :=
  match g with
  | .state .standby => s.sleep false
  | .state .off => s.sleep true
  | .state .hold => ((s.dropPermit 4).releaseRuns).supplyChange g
  | _ => s.supplyChange g

/-- Asks the blocks in order until one delays or refuses, or all have accepted (R357, R358). -/
def State.handshake : Nat → State → State
  | 0, s => s
  | f + 1, s =>
    match s.pwr.trans with
    | none => s
    | some t =>
      match t.left with
      | [] => s.commit t.goal
      | k :: _ =>
        let s := if t.delayed then s else s.hsAsk k
        match s.hsAnswer t.goal k with
        | .accept => (s.hsAccept k).handshake f
        | .delay => s.updPwr fun p => { p with trans := p.trans.map fun t => { t with delayed := true } }
        | .refuse r => s.abandon 0x0E01 (le 1 k ++ le 1 r ++ zeros 2 ++ le 4 (s.waitedUs t))

/-- Begins a transition. -/
def State.beginTrans (g : Goal) (s : State) : State :=
  let s := s.updPwr fun p => { p with trans := some { goal := g, left := askedSteps s.pwr.level g, startTick := s.time.ticks } }
  s.handshake 13

/-- HANDSHAKE_REASK: the block that answered DELAY is asked again once its condition has cleared (R358). -/
def State.reask (s : State) : State :=
  match s.pwr.trans with
  | some t =>
    match t.left with
    | k :: _ => if t.delayed && s.hsAnswer t.goal k != .delay then s.handshake 13 else s
    | [] => s
  | none => s

/-- HANDSHAKE_BOUND_EXPIRY: at its bound the block answers ACCEPT or REFUSE (R358). -/
def State.boundExpiry (s : State) : State :=
  match s.pwr.trans with
  | some t =>
    match t.left with
    | k :: _ =>
      if !t.delayed then s
      else
        match hsBound k with
        | .refuse r => s.abandon 0x0E01 (le 1 k ++ le 1 r ++ zeros 2 ++ le 4 (s.waitedUs t))
        | _ => (s.hsAccept k).handshake 13
    | [] => s
  | none => s

/-! ## Wake sources (R361, R362, R365) -/

/-- A calendar value as one number. -/
def calUnits (v : Nat) : Nat := v % 2 ^ 48 * 65536 + v / 2 ^ 48

/-- RTC_ALARM is active: calendar time at or past ALARM (Table 13-5). -/
def State.alarmActive (s : State) : Bool := s.time.calValid && decide (calUnits s.pwr.alarm.toNat ≤ s.calendar)

/-- The return from HOLD (Table 13-3): no handshake, the level in force before HOLD. -/
def State.leaveHold (cause : Nat) (s : State) : State :=
  let g := Goal.state .run
  (s.updPwr fun p => { p with trans := some { goal := g, startTick := s.time.ticks }, lastWake := cause }).supplyChange g

/-- An enabled wake source becomes active (R361, R362, R365). -/
def State.wake (cause : Nat) (s : State) : State :=
  match s.pwr.st with
  | .run =>
    match s.pwr.trans with
    | some t =>
      if !t.goal.entry || t.goal == .state .run then s
      else if t.pmbus || t.settling then ((s.moveClocks t.goal).reached t.goal).leaveHold cause
      else s.abandon 0x0E02 []
    | none => s
  | .hold =>
    match s.pwr.trans with
    | some t =>
      if t.goal = .state .run then s
      else if t.goal = .state .hold then (s.reached (.state .hold)).leaveHold cause
      else (s.abandon 0x0E02 []).leaveHold cause
    | none => s.leaveHold cause
  | .standby | .off =>
    if s.pwr.waking then s
    else s.updPwr fun p => { p with aonWake := cause, waking := true, attempts := 1, pwrEn := true, resuming := true }

/-- A source with its bit of ENABLE (Table 13-5). -/
def State.wakeSource (bit_ : Nat) (s : State) : State := if s.pwr.wakeEnable.getLsbD bit_ then s.wake (bit_ + 1) else s

/-! ## Retention (R367) -/

/-- The column of Table 13-6 for a temperature in 1/16 °C: base and per-bank current in µA. -/
def retColumn (t : Nat) : Nat × Nat :=
  if t = 0 then (4000, 250) else if t ≤ 400 then (4500, 450) else if t ≤ 880 then (6000, 1000) else if t ≤ 1360 then (9000, 2400)
  else (12500, 4100)

/-- I_RET of a mask in µA. -/
def retCurrent (mask : BitVec 64) (temp : Nat) : Nat :=
  let c := retColumn temp
  c.1 + ((List.range 48).filter fun i => mask.getLsbD i).length * c.2

/-! ## The PWR commands -/

/-- The state a STATE field names. -/
def stateOf (n : Nat) : PState := if n = 0 then .run else if n = 1 then .hold else if n = 2 then .standby else .off

/-- Table 13-3: from the present state to another by command. -/
def State.mayGo (s : State) (t : PState) : Bool :=
  match s.pwr.st, t with
  | .run, .hold | .run, .standby | .run, .off | .hold, .standby | .hold, .off | .hold, .run => true
  | _, _ => false

/-- PWR_SET_STATE's rules (R356, R359–R361). -/
def pwrSetStateBody (n : Nat) (s : State) : Answer :=
  if 3 < n then fail 0x0E05 s
  else if s.pwr.trans.isSome then fail 0x0E06 s
  else if !s.mayGo (stateOf n) then fail 0x0E04 s
  else .later .power [] s

/-- What PWR_SET_STATE starts once its slot holds the command. -/
def State.startState (n : Nat) (s : State) : State :=
  if stateOf n = .run then s.leaveHold 5
  else if s.pwr.wakeEnable.getLsbD 1 && s.alarmActive then
    let s := s.updPwr fun p => { p with trans := some { goal := .state (stateOf n), startTick := s.time.ticks } }
    let held := s.pwr.st
    let s := s.abandon 0x0E02 []
    if held = .hold then s.leaveHold 2 else s
  else s.beginTrans (.state (stateOf n))

/-- Serves a command that starts a transition: its checks, then the start. -/
def powerServe (c : MbCheck) (h : MbHdr) (body : State → Answer) (start : State → State) (s : State) : State :=
  let n := (s.host.inflight.filter fun i => i.wait == .power).length
  let t := mbServe c h body s
  if n < (t.host.inflight.filter fun i => i.wait == .power).length then start t else t

/-- PWR_SET_STATE, opcode 0x0E01. -/
def srvPwrSetState (h : MbHdr) (state : Byte) (rsv : BitVec 24) (s : State) : State :=
  powerServe { op := 0x0E01, len := 4, rsv := rsv != 0 } h (pwrSetStateBody state.toNat) (State.startState state.toNat) s
/-- PWR_SET_STATE. -/
def execPwrSetState (h : MbHdr) (state : Byte) (rsv : BitVec 24) (s : State) : Host.Outcome State Fault Refusal :=
  mbCmd h (.pwrSetState h state rsv) (srvPwrSetState h state rsv) s

/-- PWR_SET_LEVEL's rules (R356, R359). -/
def pwrSetLevelBody (l : Nat) (s : State) : Answer :=
  if 3 < l then fail 0x0E05 s
  else if s.pwr.trans.isSome then fail 0x0E06 s
  else if s.pwr.st != .run || l == s.pwr.level then fail 0x0E04 s
  else .later .power [] s

/-- PWR_SET_LEVEL, opcode 0x0E02. -/
def srvPwrSetLevel (h : MbHdr) (level : Byte) (rsv : BitVec 24) (s : State) : State :=
  powerServe { op := 0x0E02, len := 4, rsv := rsv != 0 } h (pwrSetLevelBody level.toNat) (State.beginTrans (.level level.toNat)) s
/-- PWR_SET_LEVEL. -/
def execPwrSetLevel (h : MbHdr) (level : Byte) (rsv : BitVec 24) (s : State) : Host.Outcome State Fault Refusal :=
  mbCmd h (.pwrSetLevel h level rsv) (srvPwrSetLevel h level rsv) s

/-- PWR_SET_RETENTION's rules (R367). -/
def pwrSetRetentionBody (mask : BitVec 64) (temp : BitVec 16) (s : State) : Answer :=
  let i := retCurrent mask temp.toNat
  if 0x0690 < temp.toNat then fail 0x0E05 s
  else if 60000 < i then fail 0x0E03 s
  else okWith (le 4 i ++ zeros 4 ++ le 8 s.retUseful) (s.updPwr fun p => { p with retMask := mask, retTemp := temp })

/-- PWR_SET_RETENTION, opcode 0x0E03. -/
def srvPwrSetRetention (h : MbHdr) (retMask : BitVec 64) (retTempLimit : BitVec 16) (rsv : BitVec 48) (s : State) : State :=
  mbServe { op := 0x0E03, len := 16, rsv := decide (2 ^ 48 ≤ retMask.toNat) || rsv != 0 } h
    (pwrSetRetentionBody retMask retTempLimit) s
/-- PWR_SET_RETENTION. -/
def execPwrSetRetention (h : MbHdr) (retMask : BitVec 64) (retTempLimit : BitVec 16) (rsv : BitVec 48) (s : State) :
    Host.Outcome State Fault Refusal :=
  mbCmd h (.pwrSetRetention h retMask retTempLimit rsv) (srvPwrSetRetention h retMask retTempLimit rsv) s

/-- PWR_SET_WAKE's rules (Table 13-13). -/
def pwrSetWakeBody (enable flags : Byte) (alarm : BitVec 64) (s : State) : Answer :=
  if enable.getLsbD 1 && (!s.time.calValid || decide (calUnits alarm.toNat ≤ s.calendar)) then fail 0x0E05 s
  else ok (s.updPwr fun p => { p with wakeEnable := enable.setWidth 4, pcieWake := flags.getLsbD 0, alarm := alarm })

/-- PWR_SET_WAKE, opcode 0x0E04. -/
def srvPwrSetWake (h : MbHdr) (enable flags : Byte) (rsv : BitVec 48) (alarm : BitVec 64) (s : State) : State :=
  mbServe { op := 0x0E04, len := 16, rsv := decide (16 ≤ enable.toNat) || decide (2 ≤ flags.toNat) || rsv != 0 } h
    (pwrSetWakeBody enable flags alarm) s
/-- PWR_SET_WAKE. -/
def execPwrSetWake (h : MbHdr) (enable flags : Byte) (rsv : BitVec 48) (alarm : BitVec 64) (s : State) :
    Host.Outcome State Fault Refusal := mbCmd h (.pwrSetWake h enable flags rsv alarm) (srvPwrSetWake h enable flags rsv alarm) s

/-- PWR_SET_DROOP's rules (Table 13-14). -/
def pwrSetDroopBody (enable : BitVec 16) (thresh rate : Nat) (s : State) : Answer :=
  if out thresh 20 100 || rate == 0 then fail 0x0E05 s
  else ok (s.updPwr fun p => { p with droopEnable := enable, threshMv := thresh, rateLimit := rate })

/-- PWR_SET_DROOP, opcode 0x0E05. -/
def srvPwrSetDroop (h : MbHdr) (enable threshMv rateLimit rsv : BitVec 16) (s : State) : State :=
  mbServe { op := 0x0E05, len := 8, rsv := rsv != 0 } h (pwrSetDroopBody enable threshMv.toNat rateLimit.toNat) s
/-- PWR_SET_DROOP. -/
def execPwrSetDroop (h : MbHdr) (enable threshMv rateLimit rsv : BitVec 16) (s : State) : Host.Outcome State Fault Refusal :=
  mbCmd h (.pwrSetDroop h enable threshMv rateLimit rsv) (srvPwrSetDroop h enable threshMv rateLimit rsv) s

/-- PWR_SET_SUPPLY's rules (Table 13-15): PWR_BUSY during a transition. -/
def pwrSetSupplyBody (addr : Byte) (settle timeout : Nat) (s : State) : Answer :=
  if out addr.toNat 0x08 0x77 || out settle 10 5000 || out timeout 1 100 then fail 0x0E05 s
  else if s.pwr.trans.isSome then fail 0x0E06 s
  else ok (s.updPwr fun p => { p with pmbusAddr := addr, vsettleUs := settle, pgTimeoutMs := timeout })

/-- PWR_SET_SUPPLY, opcode 0x0E06. -/
def srvPwrSetSupply (h : MbHdr) (pmbusAddr rsv : Byte) (vsettleUs corePgTimeoutMs rsv2 : BitVec 16) (s : State) : State :=
  mbServe { op := 0x0E06, len := 8, rsv := rsv != 0 || rsv2 != 0 } h
    (pwrSetSupplyBody pmbusAddr vsettleUs.toNat corePgTimeoutMs.toNat) s
/-- PWR_SET_SUPPLY. -/
def execPwrSetSupply (h : MbHdr) (pmbusAddr rsv : Byte) (vsettleUs corePgTimeoutMs rsv2 : BitVec 16) (s : State) :
    Host.Outcome State Fault Refusal :=
  mbCmd h (.pwrSetSupply h pmbusAddr rsv vsettleUs corePgTimeoutMs rsv2) (srvPwrSetSupply h pmbusAddr rsv vsettleUs corePgTimeoutMs rsv2) s

/-- STATE as PWR_STATUS codes it. -/
def PState.code : PState → Nat
  | .run => 0 | .hold => 1 | .standby => 2 | .off => 3

/-- The PWR_GET_STATUS response (Table 13-16). -/
def State.pwrBytes (s : State) : List Byte :=
  let p := s.pwr
  le 1 p.st.code ++ le 1 p.level ++ le 1 p.lastWake ++
    le 1 (bit p.retBrownout 0 + bit p.wakeFail 1 + bit p.supplyFault 2 + bit p.thermalOff 3) ++
    le 4 (retCurrent p.retMask p.retTemp.toNat) ++ le 8 p.retMask.toNat ++ le 8 s.retUseful ++ le 8 p.lostMask.toNat ++
    le 4 p.droopTrips.toNat ++ le 4 p.droopLong.toNat ++ le 8 p.lastSleep.toNat

/-- PWR_GET_STATUS, opcode 0x0E07. -/
def srvPwrGetStatus (h : MbHdr) (s : State) : State := mbServe { op := 0x0E07, len := 0 } h (fun s => okWith s.pwrBytes s) s
/-- PWR_GET_STATUS. -/
def execPwrGetStatus (h : MbHdr) (s : State) : Host.Outcome State Fault Refusal := mbCmd h (.pwrGetStatus h) (srvPwrGetStatus h) s

end Sys2Proof.Machine
end

