-- ==== Sys2Proof/Machine/PwrEvents.lean ====
section
/-! DEFINITION. Power events (spec/13 R358–R372, spec/01 R26, R27, spec/15 R392, R393, R401): the handshake's and the supply's
answers, the wake sources, the wake sequence, the droop sensors and the over-temperature shutdown. -/

namespace Sys2Proof.Machine

/-- HANDSHAKE_REASK. -/
def execHandshakeReask (s : State) : Host.Outcome State Fault Refusal := evt State.reask s
/-- HANDSHAKE_BOUND_EXPIRY. -/
def execHandshakeBoundExpiry (s : State) : Host.Outcome State Fault Refusal := evt State.boundExpiry s

/-! ## The supply (R363, R364) -/

/-- PMBUS_WRITE_DONE: acknowledged without a fault, the change goes on; else SUPPLY_FAULT and PWR_SUPPLY_FAIL (R364). -/
def State.pmbusDone (ack : Bool) (vout : Byte) (s : State) : State :=
  match s.pwr.trans with
  | none => s
  | some t =>
    if !t.pmbus then s
    else
      let want := t.goal.voltage s.pwr.level
      if ack && vout == 0 then
        let up := decide (want < s.pwr.voltLevel)
        let s := s.updPwr fun p => { p with voltLevel := want, supplyFault := false }
        if up then s.updPwr fun p => { p with trans := some { t with pmbus := false, settling := true } } else s.reached t.goal
      else
        let s := s.updPwr fun p => { p with supplyFault := true }
        ((s.raise .pwr 7).logEvent 0x0E03 0 vout.toNat).endTrans.powerDone 0x0E07 []
/-- PMBUS_WRITE_DONE. -/
def execPmbusWriteDone (ack : Bool) (statusVout : Byte) (s : State) : Host.Outcome State Fault Refusal :=
  evt (State.pmbusDone ack statusVout) s

/-- VSETTLE_EXPIRY: the clocks move to the raised level. -/
def State.settled (s : State) : State :=
  match s.pwr.trans with
  | some t => if t.settling then (s.moveClocks t.goal).reached t.goal else s
  | none => s
/-- VSETTLE_EXPIRY. -/
def execVsettleExpiry (s : State) : Host.Outcome State Fault Refusal := evt State.settled s

/-! ## Wake sources (Table 13-5) -/

/-- The AON domain is out of reset. -/
def State.aonRuns (s : State) : Bool := s.boot.resetN

/-- WAKE_IN: WAKE_IN_N low for two AON ticks. -/
def execWakeIn (s : State) : Host.Outcome State Fault Refusal :=
  evtAny (fun s => if s.aonRuns then s.wakeSource 0 else s) s

/-- RTC_ALARM: calendar time reaches ALARM. -/
def execRtcAlarm (s : State) : Host.Outcome State Fault Refusal :=
  evtAny (fun s => if s.aonRuns && s.alarmActive then s.wakeSource 1 else s) s

/-- PERST_RISE: PERST# is high again; PCIE_WAKE_N is released (R366). -/
def State.perstHigh (s : State) : State :=
  let s := (s.updHost fun h => { h with perst := false }).updPwr fun p => { p with pcieWakeN := true }
  if s.aonRuns then s.wakeSource 2 else s
/-- PERST_RISE. -/
def execPerstRise (s : State) : Host.Outcome State Fault Refusal := evtAny State.perstHigh s

/-- ENC_MOVE: line A of ENC_0 changed and held for two AON ticks. While the core runs the counting is ENCODER_EDGE's. -/
def State.encMoved (s : State) : State :=
  let s := if s.alive then s else s.updEnc 0 fun e => { e with lineA := !e.lineA }
  if s.aonRuns then s.wakeSource 3 else s
/-- ENC_MOVE. -/
def execEncMove (s : State) : Host.Outcome State Fault Refusal := evtAny State.encMoved s

/-! ## The wake sequence (R365, R368–R370, R392, R393) -/

/-- The retained banks that are LOST: a bad signature or an uncorrectable error, or all after a brown-out (R368). -/
def State.lostBanks (bad : BitVec 64) (s : State) : BitVec 64 := if s.pwr.aonBrownout then s.pwr.retMask else s.pwr.retMask &&& bad

/-- The firmware image was retained whole (R369). -/
def State.imageKept (s : State) : Bool :=
  (List.range 8).all fun i => match s.bankOf (20 + i) with
    | some b => s.pwr.retMask.getLsbD b && !s.pwr.lostMask.getLsbD b
    | none => false

/-- The banks a wake from STANDBY reports LOST (R368). -/
def State.reportLost (bad : BitVec 64) (s : State) : State :=
  let lost := s.lostBanks bad
  let s := s.updPwr fun p => { p with lostMask := lost, lost := lost != 0 }
  if lost = 0 then s else (s.raise .pwr 4).logEvent 0x0E01 0 lost.toNat

/-- What the axes are after STANDBY or OFF (spec/08 R258): IDLE at position 0, UNHOMED. -/
def State.wakeAxes (s : State) : State := s.updAxes fun m => m.updAll {} (List.range 8) fun _ a => { a with st := .idle }

/-- The core starts on CORE_PG after STANDBY or OFF: the boot ROM, or the retained image without reading flash (R369). -/
def State.wakeCore (bad : BitVec 64) (s : State) : State :=
  let standby := s.pwr.fromStandby
  let s := s.updPwr fun p => { p with st := .run, corePg := true, waking := false, attempts := 0, pcieWakeN := !p.pcieWake }
  let s := s.wakeAxes.startUp
  let s := if standby then s.reportLost bad else s
  if standby && s.imageKept && s.boot.stage == .rom then s.updBoot fun b => { b with stage := .dramTrain }
  else s.updBoot fun b => { b with fwVersion := 0, imgSvn := 0, imgKey := 0, board := {}, bootSlot := 0 }

/-- CORE_PG_RISE: the core starts when a wake, a power-up or a lost supply waits for it; while RESET_N is low it only is
supplied. -/
def State.corePgHigh (bad : BitVec 64) (s : State) : State :=
  if s.pwr.corePg || !s.pwr.pwrEn then s
  else
    match s.pwr.st with
    | .standby | .off => if s.pwr.waking then s.wakeCore bad else s
    | _ =>
      let s := s.updPwr fun p => { p with corePg := true }
      if s.boot.resetN then s.startUp else s
/-- CORE_PG_RISE. -/
def execCorePgRise (badSignature : BitVec 64) (s : State) : Host.Outcome State Fault Refusal :=
  evtAny (State.corePgHigh badSignature) s

/-- CORE_PG_TIMEOUT: PWR_EN falls; after the third attempt the chip stays and latches WAKE_FAIL (R365). -/
def State.pgTimeout (s : State) : State :=
  let p := s.pwr
  if !p.waking || !p.pwrEn || p.corePg then s
  else if p.attempts < 3 then s.updPwr fun p => { p with pwrEn := false }
  else s.updPwr fun p => { p with pwrEn := false, waking := false, attempts := 0, aonWakeFail := true }
/-- CORE_PG_TIMEOUT. -/
def execCorePgTimeout (s : State) : Host.Outcome State Fault Refusal := evtAny State.pgTimeout s

/-- PWR_EN_RETRY: 100 ms later PWR_EN is raised again (R365). -/
def State.pwrRetry (s : State) : State :=
  if s.pwr.waking && !s.pwr.pwrEn then s.updPwr fun p => { p with pwrEn := true, attempts := p.attempts + 1 } else s
/-- PWR_EN_RETRY. -/
def execPwrEnRetry (s : State) : Host.Outcome State Fault Refusal := evtAny State.pwrRetry s

/-- CORE_PG_FALL in RUN or HOLD: FIRE_PERMIT falls and the chip resets as at RESET_N; the AON domain keeps what it has
(spec/15 R393). -/
def State.corePgLow (s : State) : State :=
  if !s.pwr.corePg || !(s.pwr.st == .run || s.pwr.st == .hold) then s
  else (s.dropPermit 0).coreReset.updPwr fun p => { p with st := .run, corePg := false, aonWake := 0, resuming := false }
/-- CORE_PG_FALL. -/
def execCorePgFall (s : State) : Host.Outcome State Fault Refusal := evtAny State.corePgLow s

/-- RET_BROWNOUT in STANDBY (R367). -/
def execRetBrownout (s : State) : Host.Outcome State Fault Refusal :=
  evtAny (fun s => if s.pwr.st = .standby then s.updPwr fun p => { p with aonBrownout := true } else s) s

/-- AON_POWER_LOSS (R362, spec/10 R298): the AON domain and with it the chip lose their supply: the wake settings and all it
latched are at their defaults, calendar time is invalid. -/
def State.aonLoss (s : State) : State :=
  let s := s.coreReset
  { s with
    pwr := { corePg := false, pcieWakeN := s.pwr.pcieWakeN },
    boot := { s.boot with resetN := false },
    time := { s.time with ticks := 0, calSec := 0, calFrac := 0, calTick := 0, calValid := false, rtcTrim := 0 } }
/-- AON_POWER_LOSS. -/
def execAonPowerLoss (s : State) : Host.Outcome State Fault Refusal := evtAny State.aonLoss s

/-! ## Droop sensors (spec/13 R371, R372; spec/01 R26, R27) -/

/-- DROOP_TRIP: an enabled sensor trips; the slowable dividers double. -/
def State.droopTrip (i : Nat) (s0 : State) : State :=
  if 16 ≤ i || !s0.pwr.droopEnable.getLsbD i || s0.pwr.sensors.getLsbD i then s0
  else
    let s := s0.hourRoll
    let s := s.updPwr fun p => { p with
      sensors := p.sensors ||| BitVec.twoPow 16 i, droop := true, droopTrips := p.droopTrips + 1, hourTrips := p.hourTrips + 1 }
    if s.pwr.rateLimit < s.pwr.hourTrips ∧ !s.pwr.rateSet then
      ((s.updPwr fun p => { p with rateSet := true }).raise .pwr 6).setCause 5 0
    else s
/-- DROOP_TRIP. -/
def execDroopTrip (sensor : Nat) (s : State) : Host.Outcome State Fault Refusal := evt (State.droopTrip sensor) s

/-- DROOP_CLEAR: a sensor clears. -/
def execDroopClear (sensor : Nat) (s : State) : Host.Outcome State Fault Refusal :=
  evt (fun s => if sensor < 16 then s.updPwr fun p => { p with sensors := p.sensors &&& ~~~(BitVec.twoPow 16 sensor) } else s) s

/-- DROOP_RESTORE: 4 µs after the last active sensor cleared the dividers are restored. -/
def execDroopRestore (s : State) : Host.Outcome State Fault Refusal :=
  evt (fun s => if s.pwr.sensors = 0 then s.updPwr fun p => { p with droop := false } else s) s

/-- DROOP_LONG: a droop beyond 1 ms is counted and reported (R372). -/
def State.longDroop (us : BitVec 32) (s : State) : State :=
  if !s.pwr.droop || us.toNat ≤ 1000 then s
  else ((s.updPwr fun p => { p with droopLong := p.droopLong + 1 }).raise .pwr 5).logEvent 0x0E02 0 us.toNat
/-- DROOP_LONG. -/
def execDroopLong (us : BitVec 32) (s : State) : Host.Outcome State Fault Refusal := evt (State.longDroop us) s

/-! ## Over-temperature (spec/15 R401) -/

/-- 118 °C in 1/16 °C. -/
def thermalLimit : Int := 1888

/-- THERMAL_SHUTDOWN: FIRE_PERMIT falls with DROP_CAUSE 6. -/
def State.thermalStop (temp : BitVec 16) (s : State) : State :=
  if temp.toInt < thermalLimit then s
  else (s.dropPermit 6).updPwr fun p => { p with thermalPending := some temp }
/-- THERMAL_SHUTDOWN. -/
def execThermalShutdown (temp : BitVec 16) (s : State) : Host.Outcome State Fault Refusal := evt (State.thermalStop temp) s

/-- THERMAL_OFF: 100 µs later PWR_EN falls and the chip is in OFF, THERMAL_OFF and the reading latched. -/
def State.thermalDown (s : State) : State :=
  match s.pwr.thermalPending with
  | none => s
  | some t => s.coreReset.updPwr fun p =>
    { p with
      st := .off, pwrEn := false, corePg := false, waking := false, attempts := 0, fromStandby := false, aonBrownout := false,
      aonThermal := some t, thermalNew := true, resuming := false }
/-- THERMAL_OFF. -/
def execThermalOff (s : State) : Host.Outcome State Fault Refusal := evt State.thermalDown s

end Sys2Proof.Machine
end

