-- ==== Sys2Proof/Machine/Boot.lean ====
section
/-! DEFINITION. Start-up (spec/12 R344–R347, spec/11 R305, R306, spec/14 R376, R378, R383), the reset balls (spec/15 R395), the
control cores' lockstep (spec/01 R18, R19) and the TAP (spec/15 R402, R403). -/

namespace Sys2Proof.Machine

/-! ## The TAP (R402, R403) -/

/-- The instructions accepted only while RESET_N is low. -/
def drivesPins (code : Byte) : Bool := [0x00, 0x03, 0x04, 0x05, 0x06].contains code

/-- The instruction a code acts as: every other code, and one not accepted, acts as BYPASS. -/
def tapActs (resetLow : Bool) (code : Byte) : Byte :=
  if code = 0x01 ∨ code = 0x02 then code else if drivesPins code && resetLow then code else 0xFF

/-- What the selected data register captures where the spec states it: the IDCODE (R402). -/
def State.tapCapture (s : State) : Option (BitVec 32) := if s.boot.tap = 0x01 then some 0x148965EB else none

/-- TAP_INSTRUCTION. -/
def execTapInstruction (code : Byte) (s : State) : Host.Outcome State Fault Refusal :=
  evtAny (fun s => s.updBoot fun b => { b with tap := tapActs (!b.resetN) code }) s

/-! ## RESET_N -/

/-- RESET_N_FALL: FIRE_PERMIT falls, the chip resets, the wake settings return to their defaults, PWR_EN is high (R392, R395). -/
def State.resetLow (s : State) : State :=
  if !s.boot.resetN then s
  else
    let p := s.pwr
    let s := s.coreReset
    { s with
      boot := { s.boot with resetN := false },
      pwr := { corePg := p.corePg, aonThermal := p.aonThermal, thermalNew := p.thermalNew, aonWakeFail := p.aonWakeFail,
               aonBrownout := p.aonBrownout, lastSleep := p.lastSleep } }
/-- RESET_N_FALL. -/
def execResetNFall (s : State) : Host.Outcome State Fault Refusal := evtAny State.resetLow s

/-- RESET_N_RISE: the straps are sampled and start-up begins (R344, Table 12-10). -/
def State.resetHigh (straps : BitVec 5) (s : State) : State :=
  if s.boot.resetN then s
  else
    let s := s.updBoot fun b => { b with
      resetN := true, bootMode := straps.toNat % 4, xspiOctal := straps.getLsbD 2, twinEn := straps.getLsbD 3,
      twinPrefer := straps.getLsbD 4, tap := tapActs false b.tap }
    if s.pwr.corePg then s.startUp else s
/-- RESET_N_RISE. -/
def execResetNRise (straps : BitVec 5) (s : State) : Host.Outcome State Fault Refusal := evtAny (State.resetHigh straps) s

/-- A chip reset as RESET_N does it, with the straps as sampled (SYS_RESET MODE 2, R352). -/
def State.chipReset (s : State) : State :=
  let t := s.resetLow
  let t := t.updBoot fun b => { b with resetN := true, tap := tapActs false b.tap }
  if t.pwr.corePg then t.startUp else t

/-! ## The image (R346) -/

/-- Runs the image of a slot: the firmware trains the DRAM next. -/
def State.enterImage (slot : Nat) (i : ImageInfo) (s : State) : State :=
  s.updBoot fun b => { b with
    stage := .dramTrain, bootSlot := slot, fwVersion := i.fwVersion, imgSvn := i.svn, imgKey := i.key, board := i.board }

/-- No image runs: RECOVERY under BOOT_MODE 1 (and 3, treated as 1), else FAILED; RECOVERY stays under BOOT_MODE 2 (R346). -/
def State.noImage (s : State) : State :=
  s.updBoot fun b => { b with stage := if b.bootMode = 0 then .failed else .recovery }

/-- Tries the slots in turn; a read error is code 6. -/
def State.trySlots (bad : Nat → Bool) : List Nat → State → State
  | [], s => s.noImage
  | k :: ks, s =>
    let code := if bad k then 6 else s.imageCode (s.slotByte k)
    if code = 0 then s.enterImage k (imageInfo (s.slotByte k))
    else (s.updBoot fun b => { b with bootErr := code }).trySlots bad ks

/-- IMAGE_LOAD_DONE. -/
def State.imageLoaded (errA errB : Bool) (s : State) : State :=
  if s.boot.stage != .rom then s else s.trySlots (fun k => if k = 0 then errA else errB) s.slotOrder
/-- IMAGE_LOAD_DONE. -/
def execImageLoadDone (readErrA readErrB : Bool) (s : State) : Host.Outcome State Fault Refusal :=
  evt (State.imageLoaded readErrA readErrB) s

/-! ## DRAM training (spec/11 R305, R306) -/

/-- The retirement journaled before this start-up, and the settings the store restores (R316, R317, Table 11-5): the first
start-up after a retirement takes the defaults of one channel. -/
def State.restoreDram (s : State) : State :=
  let id := s.nvm.id
  let fresh := id.retiredCh.isSome && !id.single
  let s := s.updNvm fun n => { n with id := { n.id with
    single := n.id.retiredCh.isSome, regions := if fresh then none else n.id.regions, map := if fresh then none else n.id.map } }
  let id := s.nvm.id
  s.updDram fun d => { d with
    retired := id.retiredCh, regions := id.regions, interleave := (id.map.getD (0, 0, [])).1 == 1,
    grainLog2 := (id.map.getD (0, 0, [])).2.1, masks := id.map.bind fun m => if m.1 = 0 then some m.2.2 else none }

/-- Whether the stored training results serve (R305); temperatures in 1/16 °C. -/
def State.storedServe (s : State) (r : TrainReport) : Bool :=
  match s.nvm.id.trainTemp with
  | some t => r.storedOk && decide ((r.junction - t).natAbs ≤ 160)
  | none => false

/-- DRAM_TRAIN_DONE: both channels trained, one retired, or none (R306); then the tests of R376. -/
def State.trained (r : TrainReport) (s : State) : State :=
  if s.boot.stage != .dramTrain then s
  else
    let s := s.restoreDram
    let down := s.dram.retired
    let ok0 := r.ok0 && down != some 0
    let ok1 := r.ok1 && down != some 1
    if !ok0 && !ok1 then (s.updBoot fun b => { b with bootErr := 7 }).noImage
    else
      let s := if s.storedServe r then s else s.updNvm fun n => { n with id := { n.id with trainTemp := some r.junction } }
      let s := if ok0 && ok1 || down.isSome then s
        else ((s.singleChannel (if ok0 then 1 else 0)).raise .dram 3).setCause 0 (if ok0 then 1 else 0)
      let s := s.updDram fun d => { d with trained := true }
      let skip := if s.pwr.fromStandby then s.pwr.retMask &&& ~~~s.pwr.lostMask else 0
      (s.startTests r skip).updBoot fun b => { b with stage := .storeRestore }
/-- DRAM_TRAIN_DONE. -/
def execDramTrainDone (r : TrainReport) (s : State) : Host.Outcome State Fault Refusal := evt (State.trained r) s

/-! ## READY (R347) -/

/-- The committed geometry is restored, its ring reserved, its ports out of OFF (spec/02 R69, spec/01 R22). -/
def State.restoreGeo (s : State) : State :=
  let s := s.updGeo fun u => { u with
    committed := s.nvm.id.geo, staged := s.nvm.id.geo.getD {}, fraction := s.nvm.id.policyFraction }
  let s := s.ringAgain
  (List.range 48).foldl (fun t p => t.matchPort p) s

/-- The nozzle table's volatile fields that were retained intact (spec/13 R369); the others restart. -/
def State.restoreVol (s : State) : State :=
  s.keepVol (if s.pwr.fromStandby then s.pwr.retMask &&& ~~~s.pwr.lostMask else 0)

/-- PWR_STATUS is loaded from AON, and what AON latched is reported (spec/13 R365, R373, spec/15 R401). -/
def State.loadAon (s : State) : State :=
  let p := s.pwr
  let s := s.updPwr fun p => { p with
    lastWake := p.aonWake, retBrownout := p.aonBrownout, wakeFail := p.aonWakeFail, thermalOff := p.aonThermal.isSome,
    aonBrownout := false, aonWakeFail := false, thermalNew := false, resuming := false, fromStandby := false }
  let s := if p.aonWakeFail then s.raise .pwr 8 else s
  let s := if p.resuming then s.raise .pwr 1 else s
  if p.thermalNew then s.logEvent 0x0E04 0 ((p.aonThermal.getD 0).toNat) else s

/-- READY: store, geometry, causes and power status are restored; the twin link leaves OFF on a pair. -/
def State.becomeReady (ms : Nat) (s : State) : State :=
  if s.boot.stage != .storeRestore then s
  else
    let failed := s.pwr.aonWakeFail
    let s := s.restoreStore.restoreGeo.restoreVol.reportFailed.reassert.loadAon
    let s := s.updBoot fun b => { b with stage := .ready }
    let s := if s.boot.twinEn then s.updTwin fun t => { t with link := .detect } else s
    (s.logEvent 0x0101 0 (ms + bit failed 32)).rehide
/-- READY. -/
def execReady (ms : BitVec 32) (s : State) : Host.Outcome State Fault Refusal := evt (State.becomeReady ms.toNat) s

/-! ## The control cores (spec/01 R18, R19; spec/12 R341) -/

/-- The firmware restarts: the commands in execution will answer RESTARTED. -/
def State.restartFirmware (s : State) : State :=
  let s := s.updHost fun m => { m with inflight := m.inflight.map fun i => { i with wait := .restart, payload := [] } }
  if s.boot.stage = .ready then s.updBoot fun b => { b with stage := .restarting } else s

/-- Ten seconds in ticks. -/
def tenSeconds : Nat := 10 * ticksPerSec

/-- A lockstep mismatch: a restart with its event; the second within 10 s, during the restart too, holds the cores (R18, R19). -/
def State.mismatch (s : State) : State :=
  if !s.alive || s.boot.coresHeld then s
  else
    let second := match s.boot.lastMismatch with | some t => decide (s.time.ticks - t ≤ tenSeconds) | none => false
    let s := s.updBoot fun b => { b with mismatches := b.mismatches + 1, lastMismatch := some s.time.ticks }
    if second then
      let s := s.updBoot fun b => { b with
        coresHeld := true, dropAfterPages := true, stage := if b.stage = .restarting then .ready else b.stage }
      ((s.logEvent 0x0103 0 0).setCause 10 0).finishHeld
    else (s.logEvent 0x0102 0 s.boot.mismatches).restartFirmware
/-- LOCKSTEP_MISMATCH. -/
def execLockstepMismatch (s : State) : Host.Outcome State Fault Refusal := evt State.mismatch s

end Sys2Proof.Machine
end

