-- ==== Sys2Proof/Machine/CamCmd.lean ====
section
/-! DEFINITION. The CAM commands (spec/06 R185, R189, R191, R193–R195, R204, R205, Tables 06-11 to 06-14; spec/08 R246). -/

namespace Sys2Proof.Machine

/-- PORT above 3. -/
def camBad (port : Byte) : Bool := decide (3 < port.toNat)

/-! ## CAM_SET_LINK, CAM_SET_PLACE -/

/-- The link settings of a payload. -/
def linkOfReq (p : CamLinkReq) : CamLink :=
  { lanes := p.lanes.toNat, dataType := p.dataType.toNat, channels := p.channels.toNat, vcLong := p.vcLong.toNat,
    vcShort := if p.vcShort = 0xFF then none else some p.vcShort.toNat, rateMbps := p.rateMbps.toNat, pixels := p.pixels.toNat }

/-- Field ranges of Table 06-11. -/
def linkBad (p : CamLinkReq) : Option Nat :=
  let l := linkOfReq p
  firstBad [
    (camBad p.port, 0x0701),
    (decide (4 < l.lanes) || !([0x2B, 0x2C, 0x2D].contains l.dataType) || (l.channels != 1 && l.channels != 3) || decide (3 < l.vcLong) ||
      (match l.vcShort with | some v => decide (3 < v) || v == l.vcLong | none => false) || out l.rateMbps 80 2500 ||
      out l.pixels 256 8192 || l.pixels % 16 != 0, 0x0703)]

/-- CAM_SET_LINK's rules. -/
def camSetLinkBody (p : CamLinkReq) (s : State) : Answer :=
  checked (linkBad p) (fun s =>
    if (s.camN p.port.toNat).runs then fail 0x0702 s
    else ok (s.updCam p.port.toNat fun k => { k with linkSet := true, link := linkOfReq p })) s

/-- CAM_SET_LINK, opcode 0x0701. -/
def srvCamSetLink (h : MbHdr) (p : CamLinkReq) (s : State) : State :=
  mbServe { op := 0x0701, len := 12, rsv := p.rsv != 0, zero := p.lanes == 0 || p.channels == 0 || p.pixels == 0 } h
    (camSetLinkBody p) s
/-- CAM_SET_LINK. -/
def execCamSetLink (h : MbHdr) (p : CamLinkReq) (s : State) : Host.Outcome State Fault Refusal :=
  mbCmd h (.camSetLink h p) (srvCamSetLink h p) s

/-- The placement of a payload. -/
def placeOfReq (p : CamPlaceReq) : CamPlace :=
  { dir := p.flags.getLsbD 0, trig := p.trig.toNat, firstCol := p.firstCol.toNat, colsPerPx := p.colsPerPx.toNat,
    offsetNm := p.offsetNm.toInt, linePitch := p.linePitch.toNat }

/-- OFFSET_NM does not exceed every ROW_OFFSET_NM of the committed geometry by 1,000,000. -/
def State.offsetShort (s : State) (nm : Int) : Bool :=
  match s.geo.committed with
  | some g => g.ports.any fun p => decide (nm < p.2.rowOffsetNm + 1000000)
  | none => false

/-- Another port uses the trigger output. -/
def State.trigUsed (s : State) (p t : Nat) : Bool :=
  (List.range 4).any fun q => q != p && (s.camN q).placeSet && (s.camN q).place.trig == t

/-- CAM_SET_PLACE's rules. -/
def camSetPlaceBody (p : CamPlaceReq) (s : State) : Answer :=
  let v := placeOfReq p
  let n := p.port.toNat
  checked (firstBad [
      (camBad p.port, 0x0701),
      (decide (7 < v.trig) || decide (196607 < v.firstCol) || out v.colsPerPx 0x10000 0x100000 || s.offsetShort v.offsetNm ||
        decide (v.linePitch < 0x10000), 0x0703)])
    (fun s =>
      if (s.camN n).runs then fail 0x0702 s
      else if s.trigUsed n v.trig then fail 0x0707 s
      else ok (s.updCam n fun k => { k with placeSet := true, place := v })) s

/-- CAM_SET_PLACE, opcode 0x0702. -/
def srvCamSetPlace (h : MbHdr) (p : CamPlaceReq) (s : State) : State :=
  mbServe { op := 0x0702, len := 20, rsv := 1 < p.flags.toNat || p.rsv != 0 } h (camSetPlaceBody p) s
/-- CAM_SET_PLACE. -/
def execCamSetPlace (h : MbHdr) (p : CamPlaceReq) (s : State) : Host.Outcome State Fault Refusal :=
  mbCmd h (.camSetPlace h p) (srvCamSetPlace h p) s

/-! ## CAM_SET_EXPOSURE -/

/-- The exposure set of a payload. -/
def exposureOfReq (p : CamExposureReq) : Exposure :=
  { ratio := p.ratio.toNat, exposureNs := p.exposureNs.toNat, kneeLo := p.kneeLo.toNat, kneeHi := p.kneeHi.toNat,
    black := p.black.map (·.toNat) }

/-- The first frame a set accepted now takes effect from (R193). -/
def Cam.applyFrame (k : Cam) : Nat := if k.st = .stopped then 0 else ceilDiv (k.trigs + 256) 256

/-- CAM_SET_EXPOSURE's rules (R193). -/
def camSetExposureBody (p : CamExposureReq) (s : State) : Answer :=
  let v := exposureOfReq p
  let n := p.port.toNat
  checked (firstBad [
      (camBad p.port, 0x0701),
      ((s.camN n).link.vcShort.isSome && out v.ratio 0x0100 0x4000 || out v.exposureNs 1000 1000000 || decide (v.kneeHi ≤ v.kneeLo),
        0x0703)])
    (fun s =>
      let f := (s.camN n).applyFrame
      okWith (le 4 f ++ le 1 ((s.camN n).epoch + 1).toNat ++ zeros 3) (s.updCam n fun k => { k with pend := some (v, f) })) s

/-- CAM_SET_EXPOSURE, opcode 0x0703. -/
def srvCamSetExposure (h : MbHdr) (p : CamExposureReq) (s : State) : State :=
  mbServe { op := 0x0703, len := 24, rsv := p.rsv != 0 } h (camSetExposureBody p) s
/-- CAM_SET_EXPOSURE. -/
def execCamSetExposure (h : MbHdr) (p : CamExposureReq) (s : State) : Host.Outcome State Fault Refusal :=
  mbCmd h (.camSetExposure h p) (srvCamSetExposure h p) s

/-! ## CAM_LOAD_FLAT (R191) -/

/-- REF and FF as a table of `n` factors. -/
def Flat.table (f : Flat) (n : Nat) : List Byte :=
  ((f.ref ++ [0, 0, 0]).take 3).flatMap (le 4) ++ (List.range n).flatMap fun i => le 2 (f.ff.get 0x1000 i)

/-- REF and FF read from a table of `n` factors. -/
def flatOfBytes (bs : List Byte) (n : Nat) : Flat :=
  { ref := [0, 4, 8].map fun o => ofLe ((bs.drop o).take 4) % 2 ^ 22,
    ff := SMap.setList 0x1000 [] 0 ((List.range n).map fun i => ofLe ((bs.drop (12 + 2 * i)).take 2)), loaded := true }

/-- A new REF and FF, journaled now and applied at the next frame boundary. -/
def State.newFlat (p : Nat) (f : Flat) (s : State) : State :=
  (s.updCam p fun k => { k with pendFlat := some (f, k.frames) }).journal (.flat p f)

/-- CAM_LOAD_FLAT's rules. -/
def camLoadFlatBody (port direction : Byte) (addr : BitVec 64) (s : State) : Answer :=
  let p := port.toNat
  let n := (s.camN p).link.pixels * (s.camN p).link.channels
  checked (firstBad [
      (camBad port, 0x0701),
      (decide (1 < direction.toNat), 0x0703),
      (!s.addrOk addr.toNat (12 + 2 * n), 0x0803)])
    (fun s =>
      if direction = 1 then ok (s.dramWrite addr.toNat ((s.cal.data.flat.get {} p).table n))
      else ok (s.newFlat p (flatOfBytes (s.dramRead addr.toNat (12 + 2 * n)) n))) s

/-- CAM_LOAD_FLAT, opcode 0x0704. -/
def srvCamLoadFlat (h : MbHdr) (port direction : Byte) (rsv : BitVec 48) (addr : BitVec 64) (s : State) : State :=
  mbServe { op := 0x0704, len := 16, rsv := rsv != 0 } h (camLoadFlatBody port direction addr) s
/-- CAM_LOAD_FLAT. -/
def execCamLoadFlat (h : MbHdr) (port direction : Byte) (rsv : BitVec 48) (addr : BitVec 64) (s : State) :
    Host.Outcome State Fault Refusal :=
  mbCmd h (.camLoadFlat h port direction rsv addr) (srvCamLoadFlat h port direction rsv addr) s

/-! ## CAM_START, CAM_STOP -/

/-- The camera region cannot hold 4 frames for every running port and this one (R189). -/
def State.camNoRoom (s : State) (p : Nat) : Bool :=
  decide ((s.region 2).2 < (((List.range 4).filter fun q => q == p || (s.camN q).runs).map fun q => 4 * (s.camN q).frameBytes).sum)

/-- The output of a starting camera: an armed compare on it is cancelled (spec/08 R246). -/
def State.ownTrig (t : Nat) (s : State) : State :=
  let s := if (s.trigN t).st = .armed then s.raise .mot (8 + t) else s
  s.updTrig t fun x => { x with st := .cameraOwned, active := false }

/-- Lays the raw frame rings of the running ports out one behind the other (log 66). -/
def State.layRaw (s : State) : State :=
  ((List.range 4).foldl (fun (a : Nat × State) q =>
    if (a.2.camN q).runs then (a.1 + 4 * (a.2.camN q).frameBytes, a.2.updCam q fun k => { k with rawBase := a.1 }) else a) (0, s)).2

/-- A port starts (R185). The spacing of R186 to a trigger before the start is kept. -/
def State.camStart (p : Nat) (pos : Int) (s : State) : State :=
  let s0 := s
  let s := (s.closeFrame p).closeSpots p
  let s := if p = 0 ∧ s.vis.preview.enable then s.updVis fun v => { v with preview := { v.preview with row := 1, sums := [], counts := [] } }
    else s
  let s := s.updCam p fun k => { k with
    st := .running, startPos := pos, trigs := 0, slots := [], times := [], frame := none, frames := 0, curLine := [], runUid := k.frameUid,
    unfilteredNext := true, yPrev := none, lastDone := none, pend := k.pend.map fun x => (x.1, 0),
    pendFlat := k.pendFlat.map fun x => (x.1, 0), pendMatrix := k.pendMatrix.map fun x => (x.1, 0) }
  let s := s.updLoop fun l => { l with openPos := l.openPos.set none p none }
  State.ownersMoved s0 (s.ownTrig (s.camN p).place.trig).layRaw

/-- CAM_START's rules. -/
def camStartBody (port : Byte) (startPos : BitVec 64) (s : State) : Answer :=
  let p := port.toNat
  let k := s.camN p
  checked (firstBad [
      (camBad port, 0x0701),
      (!k.linkSet || !k.placeSet || s.geo.committed.isNone, 0x0704),
      (decide (startPos.toInt ≤ s.webPos), 0x0705),
      (s.camNoRoom p, 0x0706)])
    (fun s => ok (s.camStart p startPos.toInt)) s

/-- CAM_START, opcode 0x0705. -/
def srvCamStart (h : MbHdr) (port : Byte) (rsv : BitVec 56) (startPos : BitVec 64) (s : State) : State :=
  mbServe { op := 0x0705, len := 16, rsv := rsv != 0, gated := fun s => s.visGated || s.stepAccepted 3 } h
    (camStartBody port startPos) s
/-- CAM_START. -/
def execCamStart (h : MbHdr) (port : Byte) (rsv : BitVec 56) (startPos : BitVec 64) (s : State) :
    Host.Outcome State Fault Refusal :=
  mbCmd h (.camStart h port rsv startPos) (srvCamStart h port rsv startPos) s

/-- CAM_STOP's effect: at once, or after trigger 255 of the frame in progress. -/
def State.camStop (p : Nat) (now : Bool) (s : State) : State :=
  let k := s.camN p
  if k.st = .stopped then s
  else if now then s.camStopNow p
  else if k.trigs % 256 = 0 then s.camStopped p
  else s.updCam p fun k => { k with st := .stopping }

/-- CAM_STOP, opcode 0x0706. -/
def srvCamStop (h : MbHdr) (port flags : Byte) (rsv : BitVec 16) (s : State) : State :=
  mbServe { op := 0x0706, len := 4, rsv := 1 < flags.toNat || rsv != 0, gated := State.visGated } h
    (fun s => if camBad port then fail 0x0701 s else ok (s.camStop port.toNat (flags.getLsbD 0))) s
/-- CAM_STOP. -/
def execCamStop (h : MbHdr) (port flags : Byte) (rsv : BitVec 16) (s : State) : Host.Outcome State Fault Refusal :=
  mbCmd h (.camStop h port flags rsv) (srvCamStop h port flags rsv) s

/-! ## CAM_GET_STATUS, CAM_GET_FRAMES -/

/-- The state's code (Table 06-14). -/
def CamSt.code : CamSt → Nat
  | .stopped => 0 | .running => 1 | .stopping => 2

/-- The CAM_GET_STATUS response. -/
def Cam.bytes (k : Cam) : List Byte :=
  le 1 k.st.code ++ [k.epoch] ++ le 1 k.fifo.length ++ zeros 1 ++ le 4 k.trigs ++
    [k.linesOk, k.dropped, k.seqErr, k.crcErr, k.eccCorr, k.eccUncorr, k.missingExp, k.dtOther, k.trigLate,
      k.framesIncomplete].flatMap fun c => le 4 c.toNat

/-- CAM_GET_STATUS, opcode 0x0707. -/
def srvCamGetStatus (h : MbHdr) (port : Byte) (rsv : BitVec 24) (s : State) : State :=
  mbServe { op := 0x0707, len := 4, rsv := rsv != 0 } h
    (fun s => if camBad port then fail 0x0701 s else okWith (s.camN port.toNat).bytes s) s
/-- CAM_GET_STATUS. -/
def execCamGetStatus (h : MbHdr) (port : Byte) (rsv : BitVec 24) (s : State) : Host.Outcome State Fault Refusal :=
  mbCmd h (.camGetStatus h port rsv) (srvCamGetStatus h port rsv) s

/-- A frame record (Table 06-3). -/
def FrameRec.bytes (r : FrameRec) : List Byte :=
  le 1 r.port ++ [r.epoch] ++ le 2 r.marks.toNat ++ le 4 r.frame.toNat ++ leI 8 r.firstPos ++ le 2 r.dropped ++ le 2 r.missing ++
    le 2 r.unfiltered ++ zeros 2 ++ le 4 r.intervalNs ++ zeros 4

/-- The newest `n` records, those not yet written as zeros. -/
def Cam.frameBytesOf (k : Cam) (n : Nat) : List Byte :=
  (List.range n).flatMap fun i => match k.recs[i]? with | some r => r.bytes | none => zeros 32

/-- CAM_GET_FRAMES' rules. -/
def camGetFramesBody (port count : Byte) (s : State) : Answer :=
  checked (firstBad [(camBad port, 0x0701), (decide (16 < count.toNat), 0x0703)])
    (fun s => okWith ((s.camN port.toNat).frameBytesOf count.toNat) s) s

/-- CAM_GET_FRAMES, opcode 0x0708. -/
def srvCamGetFrames (h : MbHdr) (port count : Byte) (rsv : BitVec 16) (s : State) : State :=
  mbServe { op := 0x0708, len := 4, rsv := rsv != 0, zero := count == 0 } h (camGetFramesBody port count) s
/-- CAM_GET_FRAMES. -/
def execCamGetFrames (h : MbHdr) (port count : Byte) (rsv : BitVec 16) (s : State) : Host.Outcome State Fault Refusal :=
  mbCmd h (.camGetFrames h port count rsv) (srvCamGetFrames h port count rsv) s

end Sys2Proof.Machine
end

