-- ==== Sys2Proof/Machine/Cal.lean ====
section
/-! DEFINITION. The CAL commands (spec/07 R206–R221, R230, R231, Tables 07-7, 07-9 to 07-12). -/

namespace Sys2Proof.Machine

/-! ## CAL_SET_LOOP -/

/-- The loop settings of a payload; the recalibration settings stay. -/
def loopOfReq (p : LoopReq) (l : LoopCfg) : LoopCfg :=
  { l with
    enable := p.enable == 1, updateBlocks := p.updateBlocks.toNat, beta := p.beta.toNat, windowLines := p.windowLines.toNat,
    stepLimit := p.stepLimit.toNat, devLimit := p.devLimit.toNat, varMin := p.varMin.toNat, nMin := p.nMin.toNat,
    medianMin := p.medianMin.toNat }

/-- The field ranges of Table 07-9. -/
def loopBad (p : LoopReq) : Option Nat :=
  if 1 < p.enable.toNat ∨ 16 < p.updateBlocks.toNat ∨ p.beta.toNat < 0x0100 ∨ out p.windowLines.toNat 16384 131072 ∨
      p.windowLines.toNat % 1024 ≠ 0 ∨ 0x1999 < p.stepLimit.toNat ∨ 0x6666 < p.devLimit.toNat ∨ out p.varMin.toNat 1 16256 ∨
      out p.nMin.toNat 64 8192 then some 0x0901
  else none

/-- Loop settings come into force and are journaled; every window restarts and evaluations are counted anew (R209, R215). -/
def State.setLoop (p : LoopReq) (s : State) : State :=
  let l := loopOfReq p s.cal.data.loop
  (((s.updData fun d => { d with loop := l }).journal (.settings l)).restartAll).updLoop fun x => { x with closes := 0 }

/-- CAL_SET_LOOP, opcode 0x0901. -/
def srvCalSetLoop (h : MbHdr) (p : LoopReq) (s : State) : State :=
  mbServe { op := 0x0901, len := 20, rsv := p.rsv != 0, zero := p.updateBlocks == 0 || p.windowLines == 0 } h
    (twinGate (loopBad p) 0x0901 (loopOfReq p {}).bytes fun s => ok (s.setLoop p)) s
/-- CAL_SET_LOOP. -/
def execCalSetLoop (h : MbHdr) (p : LoopReq) (s : State) : Host.Outcome State Fault Refusal :=
  mbCmd h (.calSetLoop h p) (srvCalSetLoop h p) s

/-! ## CAL_GET_STATUS, CAL_GET_COLUMNS -/

/-- The owner of a column as the loop sees it (R207): a camera whose line pitch is at least the print line pitch. -/
def State.seenBy (s : State) (c : Nat) : Option Nat :=
  match s.owner c, s.web? with
  | some p, some w => if w.pitch ≤ (s.camN p).place.linePitch * 65536 then some p else none
  | _, _ => none

/-- A column's window is full (R209). -/
def State.windowFull (s : State) (c : Nat) : Bool := decide (16 ≤ (s.loop.ring.get [] c).length)

/-- LOOP_STATE (Table 07-7). -/
def State.loopState (s : State) : Nat :=
  if !s.cal.data.loop.enable then 0 else if s.loop.ring.any fun e => decide (16 ≤ e.2.length) then 2 else 1

/-- The CAL_GET_STATUS response (Table 07-10). -/
def State.calStatus (s : State) : List Byte :=
  le 1 s.loopState ++ le 1 ((List.range 4).map fun p => bit (s.camN p).recal.collecting p).sum ++ le 2 s.loop.k ++
    le 4 s.loop.evaluations.toNat ++ le 4 s.loop.seen ++ le 4 s.loop.trusted ++ le 4 s.loop.updated ++ le 4 s.loop.rejected ++
    le 4 ((List.range s.barColumns).filter s.isStale).length ++ le 4 s.loop.lastSeq.toNat

/-- CAL_GET_STATUS, opcode 0x0902. -/
def srvCalGetStatus (h : MbHdr) (s : State) : State := mbServe { op := 0x0902, len := 0 } h (fun s => okWith s.calStatus s) s
/-- CAL_GET_STATUS. -/
def execCalGetStatus (h : MbHdr) (s : State) : Host.Outcome State Fault Refusal := mbCmd h (.calGetStatus h) (srvCalGetStatus h) s

/-- The 8 bytes of a column. -/
def State.colBytes (s : State) (c : Nat) : List Byte :=
  let r := s.loop.col.get {} c
  le 2 r.r ++ le 1 r.result ++ le 1 r.rejects ++ le 1 (min 16 (s.loop.ring.get [] c).length) ++ le 1 (bit (s.isStale c) 0) ++ zeros 2

/-- CAL_GET_COLUMNS' rules. -/
def calGetColumnsBody (first count : BitVec 32) (addr : BitVec 64) (s : State) : Answer :=
  checked (firstBad [
      (decide (s.barColumns < first.toNat + count.toNat), 0x0901),
      (!s.addrOk addr.toNat (8 * count.toNat), 0x0903)])
    (fun s => ok (s.dramWrite addr.toNat ((List.range count.toNat).flatMap fun i => s.colBytes (first.toNat + i)))) s

/-- CAL_GET_COLUMNS, opcode 0x0903. -/
def srvCalGetColumns (h : MbHdr) (first count : BitVec 32) (addr : BitVec 64) (s : State) : State :=
  mbServe { op := 0x0903, len := 16, zero := count == 0 } h (calGetColumnsBody first count addr) s
/-- CAL_GET_COLUMNS. -/
def execCalGetColumns (h : MbHdr) (first count : BitVec 32) (addr : BitVec 64) (s : State) : Host.Outcome State Fault Refusal :=
  mbCmd h (.calGetColumns h first count addr) (srvCalGetColumns h first count addr) s

/-! ## CAL_SET_FACTORY -/

/-- The gains at an address. -/
def State.gainsAt (s : State) (a n : Nat) : List Nat := (List.range n).map fun i => ofLe (s.dramRead (a + 2 * i) 2)

/-- The field checks of CAL_SET_FACTORY (Table 07-11). -/
def factoryBad (port : Byte) (count addr : Nat) (s : State) : Option Nat :=
  firstBad [
    (!s.portEnabled port.toNat, 0x0902),
    (count != s.nozCount port.toNat, 0x0901),
    (!s.addrOk addr (2 * count), 0x0903),
    ((s.gainsAt addr count).any fun g => out g 0x2000 0x6000, 0x0901)]

/-- APPLY_KEY of a port's run in a record. -/
def State.runKey (s : State) (p : Nat) : BitVec 32 := match s.applyLine p with | some k => k.setWidth 32 | none => atOnce

/-- Journals the factory gains of a port; gains and codes follow the record's commit (R24). -/
def State.setFactory (p : Nat) (gains : List Nat) (s : State) : State := s.journal (.factory [⟨p, 0, s.runKey p, gains⟩])

/-- CAL_SET_FACTORY's rules. -/
def calSetFactoryBody (port : Byte) (count : BitVec 16) (addr : BitVec 64) (s : State) : Answer :=
  twinGate (factoryBad port count.toNat addr.toNat s) 0x0904 ([port, 0] ++ le 2 count.toNat ++ zeros 4 ++ le 8 addr.toNat)
    (fun s => ok (s.setFactory port.toNat (s.gainsAt addr.toNat count.toNat))) s

/-- CAL_SET_FACTORY, opcode 0x0904. -/
def srvCalSetFactory (h : MbHdr) (port rsv : Byte) (count : BitVec 16) (rsv2 : BitVec 32) (addr : BitVec 64) (s : State) : State :=
  mbServe { op := 0x0904, len := 16, rsv := rsv != 0 || rsv2 != 0, zero := count == 0 } h (calSetFactoryBody port count addr) s
/-- CAL_SET_FACTORY. -/
def execCalSetFactory (h : MbHdr) (port rsv : Byte) (count : BitVec 16) (rsv2 : BitVec 32) (addr : BitVec 64) (s : State) :
    Host.Outcome State Fault Refusal :=
  mbCmd h (.calSetFactory h port rsv count rsv2 addr) (srvCalSetFactory h port rsv count rsv2 addr) s

/-! ## CAL_RECAL, CAL_RECAL_STOP (R219) -/

/-- Collection starts anew. -/
def State.startRecal (p : Nat) (s : State) : State :=
  s.updCam p fun k => { k with recal := { collecting := true, started := true } }

/-- The settings of a CAL_RECAL payload. -/
def recalOfReq (p : RecalReq) : RecalCfg := ⟨p.guard.toNat, p.subMin.toNat, p.timeoutS.toNat, p.periodS.toNat⟩

/-- Recalibration settings come into force and are journaled with the loop settings (Table 07-3). -/
def State.setRecal (p : Nat) (r : RecalCfg) (s : State) : State :=
  let l := { s.cal.data.loop with recal := s.cal.data.loop.recal.set {} p r }
  (s.updData fun d => { d with loop := l }).journal (.settings l)

/-- CAL_RECAL's rules (Table 07-12). -/
def calRecalBody (p : RecalReq) (s : State) : Answer :=
  let n := p.port.toNat
  checked (firstBad [
      (camBad p.port, 0x0902),
      (decide (64 < p.guard.toNat) || out p.subMin.toNat 16 4096 || out p.timeoutS.toNat 1 3600 ||
        (p.periodS != 0 && out p.periodS.toNat 60 86400), 0x0901),
      (!(s.camN n).runs, 0x0904),
      ((s.camN n).recal.collecting, 0x0905)])
    (fun s => ok ((s.setRecal n (recalOfReq p)).startRecal n)) s

/-- CAL_RECAL, opcode 0x0905. -/
def srvCalRecal (h : MbHdr) (p : RecalReq) (s : State) : State :=
  mbServe { op := 0x0905, len := 12, rsv := p.rsv != 0, zero := p.guard == 0, gated := State.visGated } h (calRecalBody p) s
/-- CAL_RECAL. -/
def execCalRecal (h : MbHdr) (p : RecalReq) (s : State) : Host.Outcome State Fault Refusal :=
  mbCmd h (.calRecal h p) (srvCalRecal h p) s

/-- Collection ends without applying anything. -/
def State.stopRecal (p : Nat) (s : State) : State :=
  s.updCam p fun k => { k with recal := { k.recal with collecting := false, counts := [], sums := [] } }

/-- CAL_RECAL_STOP, opcode 0x0906. -/
def srvCalRecalStop (h : MbHdr) (port : Byte) (rsv : BitVec 24) (s : State) : State :=
  mbServe { op := 0x0906, len := 4, rsv := rsv != 0, gated := State.visGated } h
    (fun s => if camBad port then fail 0x0902 s else ok (s.stopRecal port.toNat)) s
/-- CAL_RECAL_STOP. -/
def execCalRecalStop (h : MbHdr) (port : Byte) (rsv : BitVec 24) (s : State) : Host.Outcome State Fault Refusal :=
  mbCmd h (.calRecalStop h port rsv) (srvCalRecalStop h port rsv) s

end Sys2Proof.Machine
end

