-- ==== Sys2Proof/Machine/Pixels.lean ====
section
/-! DEFINITION. The arithmetic of the image pipeline (spec/06 R191, R192, R196, R197, Tables 06-2, 06-5): stages 1 to 6 over the
samples of one line, the density's logarithm, the preview's gamma and the egress samples; and the coverage of a camera line's
footprint (spec/07 R206). -/

namespace Sys2Proof.Machine

/-! ## Stages 1 to 4 (Table 06-2) -/

/-- Bits of a raw sample (Table 06-1). -/
def CamLink.rawBits (l : CamLink) : Nat := if l.dataType = 0x2B then 10 else if l.dataType = 0x2C then 12 else 14

/-- Unpack, black level and flat field of one sample. -/
def flatSample (bits black ff raw : Nat) : Nat := min 65535 (((raw * 2 ^ (16 - bits) - black) * ff + 2048) / 4096)

/-- Merge of a long and a short sample. -/
def mergeSamples (e : Exposure) (l sh : Nat) : Nat :=
  let g := sh * e.ratio / 256
  if l ≤ e.kneeLo then l
  else if e.kneeHi ≤ l then g
  else
    let w := (l - e.kneeLo) * 256 / (e.kneeHi - e.kneeLo)
    ((256 - w) * l + w * g) / 256

/-- Stages 1 to 4 of a line: `m` of Table 06-2. -/
def mergedLine (k : CamLink) (f : Flat) (l : CamLine) : List Nat :=
  let stage := fun (e i raw : Nat) => flatSample k.rawBits (l.exp.black.getD (3 * e + i % k.channels) 0) (f.ff.get 0x1000 i) raw
  let long := l.long.zipIdx.map fun x => stage 0 x.2 x.1
  match l.short with
  | none => long
  | some sh => (long.zip (sh.zipIdx.map fun x => stage 1 x.2 x.1)).map fun x => mergeSamples l.exp x.1 x.2

/-! ## Stage 5 (R192) -/

/-- The spatial step, per channel, the edge pixel repeated. -/
def spatialStep (channels : Nat) (m : List Nat) : List Nat :=
  m.zipIdx.map fun x =>
    let i := x.2
    let before := if i < channels then x.1 else m.getD (i - channels) 0
    let after := m.getD (i + channels) x.1
    (before + 2 * x.1 + after + 2) / 4

/-- The temporal step against the port's previous output. -/
def temporalStep (n : NrCfg) (prev z : List Nat) : List Nat :=
  (z.zip prev).map fun x =>
    let d : Int := (x.1 : Int) - x.2
    if d.natAbs ≤ n.thresh then (x.2 + n.alpha * d / 256 : Int).toNat else x.1

/-- Noise reduction of a line: `y`. -/
def reduceNoise (n : NrCfg) (channels : Nat) (warmup : Bool) (prev : Option (List Nat)) (m : List Nat) : List Nat :=
  let z := if n.spatial then spatialStep channels m else m
  match prev with
  | some y => if n.temporal && !warmup && y.length == z.length then temporalStep n y z else z
  | none => z

/-! ## Stage 6 (R191) -/

/-- y / REF; a REF of 0 leaves it open (log 6). -/
def refRatio (y ref : Nat) : Rat := if ref = 0 then ((Config.overZeroRef y % 2 ^ 38 : Nat) : Rat) / 65536 else (y : Rat) / ref

/-- Compares 10^n with (den / num)^4096 for a signed `n`: at most, and exactly equal. -/
def powCmp (num den : Nat) (n : Int) : Bool × Bool :=
  let a := num ^ 4096
  let b := den ^ 4096
  if 0 ≤ n then (decide (10 ^ n.toNat * a ≤ b), 10 ^ n.toNat * a == b)
  else (decide (a ≤ b * 10 ^ n.natAbs), a == b * 10 ^ n.natAbs)

/-- The largest `n` from `lo` up, within `2^fuel` steps, whose power does not exceed (den / num)^4096. -/
def logSearch (num den : Nat) : Nat → Int → Int
  | 0, lo => lo
  | f + 1, lo =>
    let mid := lo + (2 ^ f : Nat)
    logSearch num den f (if (powCmp num den mid).1 then mid else lo)

/-- −4096 · log10 of a positive ratio, rounded down, and whether it is whole. -/
def negLog4096 (q : Rat) : Int × Bool :=
  let n := logSearch q.num.toNat q.den 16 (-32768)
  (n, (powCmp q.num.toNat q.den n).2)

/-- d_ch: signed Q4.12 within ±2 LSB of the logarithm; where within lies open (log 6). -/
def sampleDensity (y ref : Nat) : Int :=
  let v := negLog4096 (max (refRatio y ref) (1 / 65536))
  let e := Config.densityErr y ref
  if v.2 then v.1 - 2 + (e % 5 : Nat) else v.1 - 1 + (e % 4 : Nat)

/-- D_k of one pixel from its d_ch. -/
def pixelDensity (x : MatrixCfg) (channels : Nat) (d : List Int) : List Nat :=
  (List.range channels).map fun k =>
    let sum := ((List.range channels).map fun j => x.m.getD (3 * k + j) 0 * d.getD j 0).sum
    (max 0 (min 0xFFFF (sum / 4096 + x.off.getD k 0))).toNat

/-- D of a line, outputs adjacent per pixel. -/
def lineDensity (x : MatrixCfg) (k : CamLink) (f : Flat) (y : List Nat) : List Nat :=
  (List.range k.pixels).flatMap fun i =>
    pixelDensity x k.channels ((List.range k.channels).map fun ch => sampleDensity (y.getD (i * k.channels + ch) 0) (f.ref.getD ch 0))

/-! ## Preview and egress samples (R196, R197) -/

/-- The samples of an egress stream from a line (Table 06-5). -/
def egressSamples (k : CamLink) (f : Flat) (source depth : Nat) (y d : List Nat) : List Nat :=
  if source = 0 then
    y.zipIdx.map fun x =>
      min (2 ^ depth - 1) (refRatio x.1 (f.ref.getD (x.2 % k.channels) 0) * (2 ^ (depth - 1) : Nat)).floor.toNat
  else if source = 1 then (List.range k.pixels).map fun i => d.getD (i * k.channels) 0 / 2 ^ (16 - depth)
  else d.map (· / 2 ^ (16 - depth))

/-! ## A processed line -/

/-- A line as it leaves the pipeline: its port, trigger number, bar-reference position, half the camera pitch in sub-counts, y, D,
and the columns its port owns with the pixels that cover them. -/
structure Seen where
  port : Nat
  line : CamLine
  trig : Nat
  centre : Int
  half : Int
  link : CamLink
  flat : Flat
  y : List Nat
  d : List Nat
  cols : List (Nat × Nat)

/-- D_0 at the pixel of a column. -/
def Seen.d0 (v : Seen) (x : Nat) : Nat := v.d.getD (x * v.link.channels) 0

/-- The epoch the line was exposed under. -/
def Seen.epoch (v : Seen) : Byte := v.line.epoch

/-! ## Coverage (spec/07 R206) -/

/-- What the coverage trace holds of the print lines with targets from `lo` to below `hi`. -/
def State.traceIn (s : State) (lo hi : Int) : List TraceRec := s.fire.trace.filter fun r => decide (lo ≤ r.target) && decide (r.target < hi)

/-- The trace in a line's footprint. -/
def Seen.recs (v : Seen) (s : State) : List TraceRec := s.traceIn (v.centre - v.half) (v.centre + v.half)

/-- The number of print lines that records belong to. -/
def printLines (rs : List TraceRec) : Nat :=
  (rs.foldl (fun l r => if l.contains (r.handle, r.line) then l else (r.handle, r.line) :: l) []).length

/-- w̄ of a column in units of nominal weight; 0 where no print line lies. -/
def meanWeight (rs : List TraceRec) (c : Nat) : Rat :=
  let n := printLines rs
  let total : Nat := (rs.map fun r => r.weights.get 0 c).sum
  if n = 0 then 0 else (total : Rat) / (n * 0x4000 : Nat)

/-- A record fired, or was to fire, the column. -/
def TraceRec.covers (r : TraceRec) (c : Nat) : Bool := r.cols.contains c || r.weights.get 0 c != 0

end Sys2Proof.Machine
end

