-- ==== Sys2Proof/Machine/CamRx.lean ====
section
/-! DEFINITION. Triggering and reception of a camera port (spec/06 R182–R186, R189, R193–R195): triggers and their captured
positions, frame start, line start, lines, other packets and frame end. -/

namespace Sys2Proof.Machine

/-! ## CAM_TRIGGER (R185, R186, R193) -/

/-- Units of 2^-24 ns in a nanosecond. -/
def unitsPerNs : Nat := 16777216

/-- The least spacing of two triggers in 2^-24 ns (R186): max(12.5 µs, EXPOSURE_NS + 1 µs). -/
def Cam.minSpacing (k : Cam) : Nat := max 12500 (k.exp.exposureNs + 1000) * unitsPerNs

/-- Where trigger `k` is due (R185). -/
def Cam.duePos (k : Cam) : Int := k.startPos + k.trigs * k.place.linePitch

/-- The next trigger may be issued: the web moves forward, has passed its position, and the spacing is kept. -/
def State.trigDue (s : State) (p : Nat) : Bool :=
  let k := s.camN p
  k.st != .stopped && !s.visGated && s.forward && decide (k.duePos ≤ s.webPos) &&
    match k.lastTrig with | some t => decide (t + k.minSpacing ≤ s.now) | none => true

/-- The trigger fell due before the spacing allowed it (R186). -/
def State.trigWasLate (s : State) (p : Nat) : Bool :=
  let k := s.camN p
  match k.lastTrig, s.est.arrival k.duePos with
  | some t, some due => (due.scale (-unitsPerSec) 0).above (-(t + k.minSpacing : Int))
  | _, _ => false

/-- The first trigger of a frame puts a pending exposure set into force (R193, R194). -/
def State.applyExposure (p : Nat) (s : State) : State :=
  let k := s.camN p
  match k.pend with
  | some (e, f) =>
    if k.trigs % 256 = 0 ∧ f ≤ k.trigs / 256 then
      (s.updCam p fun k => { k with exp := e, pend := none, epoch := k.epoch + 1 }).raise .cam 2
    else s
  | none => s

/-- Drops the captures of frames that are long past. -/
def Cam.forget (k : Cam) : Cam :=
  let lo := (k.trigs / 256 - 3) * 256
  { k with slots := k.slots.filter fun e => decide (lo ≤ e.1), times := k.times.filter fun e => decide (lo ≤ e.1) }

/-- A trigger: the output goes active, the position and the time are filed in its slot; a port told to stop stops after the
last of its frame. -/
def State.camTrigger (p : Nat) (s : State) : State :=
  if !s.trigDue p then s
  else
    let late := s.trigWasLate p
    let s := s.applyExposure p
    let s := if late then (s.updCam p fun k => { k with trigLate := k.trigLate + 1 }).raise .cam 3 else s
    let pos := s.webPos
    let now := s.now
    let s := s.updTrig (s.camN p).place.trig fun t => { t with active := true }
    let s := s.updCam p fun k => ({ k with
      slots := k.slots.set 0 k.trigs pos, times := k.times.set 0 k.trigs now, lastTrig := some now, trigs := k.trigs + 1 }).forget
    if (s.camN p).st = .stopping ∧ (s.camN p).trigs % 256 = 0 then s.camStopped p else s

/-- CAM_TRIGGER: the next trigger of a port is issued. -/
def execCamTrigger (port : Nat) (s : State) : Host.Outcome State Fault Refusal := evt (State.camTrigger port) s

/-! ## Frame start (R183, R194) -/

/-- The receiver of a port works: configured and clocked. -/
def State.receives (s : State) (p : Nat) : Bool := decide (p < 4) && (s.camN p).linkSet && !s.visGated

/-- REF and FF of a frame are still nominal (R191). -/
def State.nominalFrame (s : State) (p f : Nat) : Bool :=
  !(s.cal.data.flat.get {} p).loaded && match (s.camN p).pendFlat with | some (_, n) => decide (f < n) | none => true

/-- A frame opens with the number that follows, if triggers of it have been issued. -/
def State.openFrame (p : Nat) (s : State) : State :=
  let k := s.camN p
  if k.trigs ≤ k.frames * 256 then s
  else
    let first := k.epoch != k.frameEpoch
    let marks : BitVec 16 := (if first then 0x40 else 0) ||| (if s.nominalFrame p k.frames then 0x20 else 0)
    s.updCam p fun k => { k with
      frame := some { number := k.frames, epoch := k.epoch, exp := k.exp, marks := marks, uid := k.frameUid }, frames := k.frames + 1,
      frameUid := k.frameUid + 1, frameEpoch := k.epoch, unfilteredNext := k.unfilteredNext || first }

/-- The header ECC of a packet (Table 06-1): 0 good, 1 a single-bit error corrected and counted, 2 more bits wrong, which is counted
and discards the packet. `f` is what a packet that is not discarded does. -/
def State.withEcc (p ecc : Nat) (f : State → State) (s : State) : State :=
  if ecc = 2 then s.updCam p fun k => { k with eccUncorr := k.eccUncorr + 1 }
  else f (if ecc = 1 then s.updCam p fun k => { k with eccCorr := k.eccCorr + 1 } else s)

/-- A packet of a port that receives. -/
def State.packet (p ecc : Nat) (f : State → State) (s : State) : State := if s.receives p then s.withEcc p ecc f else s

/-- CSI_FS_RX: a frame starts; one still open without its FE is closed. -/
def execCsiFsRx (x : CsiPacket) (s : State) : Host.Outcome State Fault Refusal :=
  evt (State.packet x.port x.ecc fun s => ((s.closeFrame x.port).openFrame x.port).updCam x.port fun k => { k with curLine := [] }) s

/-! ## Lines (R183, R184, R189) -/

/-- Changes the frame in reception. -/
def State.updFrame (p : Nat) (f : Frame → Frame) (s : State) : State := s.updCam p fun k => { k with frame := k.frame.map f }

/-- The virtual channels of a port. -/
def CamLink.vcs (l : CamLink) : List Nat := l.vcLong :: l.vcShort.toList

/-- CSI_LS_RX: the line number of the lines that follow on a virtual channel. -/
def execCsiLsRx (x : CsiPacket) (vc line : Nat) (s : State) : Host.Outcome State Fault Refusal :=
  evt (State.packet x.port x.ecc fun s => s.updCam x.port fun k => { k with curLine := k.curLine.set 0 vc line }) s

/-- A line is discarded (R184); one lost to a link error marks the frame and raises the alert. -/
def State.discardLine (p : Nat) (link : Bool) (count : Cam → Cam) (s : State) : State :=
  let s := s.updCam p fun k => { count k with unfilteredNext := true }
  if link then (s.updFrame p fun f => { f with marks := f.marks ||| 4 }).raise .cam 1 else s

/-- A complete line enters the FIFO, or is dropped whole when 64 lines wait (R189). -/
def State.pushLine (p n : Nat) (long : List Nat) (short : Option (List Nat)) (s : State) : State :=
  let k := s.camN p
  match k.frame with
  | none => s
  | some f =>
    let s := s.updFrame p fun f => { f with good := n :: f.good }
    if 64 ≤ k.fifo.length then
      (s.updFrame p fun f => { f with dropped := f.dropped + 1 }).updCam p fun k => { k with
        dropped := k.dropped + 1, unfilteredNext := true }
    else
      let l : CamLine := { frame := f.number, line := n, pos := k.slot f.number n, long := long, short := short, epoch := f.epoch,
                           exp := f.exp, warmup := k.unfilteredNext, uid := f.uid }
      (s.updCam p fun k => { k with fifo := k.fifo ++ [l], linesOk := k.linesOk + 1, unfilteredNext := false }).markHotspot p f.uid

/-- Writes an exposure of a line into the raw frame ring (R189): 4 frames of 256 lines, the long exposures first, 2 bytes a sample
(log 66). -/
def State.rawWrite (p n : Nat) (isShort : Bool) (smp : List Nat) (s : State) : State :=
  let k := s.camN p
  match k.frame with
  | none => s
  | some f =>
    let row := 2 * k.link.pixels * k.link.channels
    s.dramWrite ((s.region 2).1 + k.rawBase + f.number % 4 * k.frameBytes + ((if isShort then 256 else 0) + n - 1) * row) (smp.flatMap (le 2))

/-- One good exposure of line `n`: the line is complete with the other exposure, or at once under single exposure. -/
def State.takeExposure (p n : Nat) (isShort : Bool) (smp : List Nat) (s : State) : State :=
  let k := s.camN p
  if k.link.vcShort.isNone then s.pushLine p n smp none
  else
    let s := s.updFrame p fun f =>
      if isShort then { f with shorts := f.shorts.set none n (some smp) } else { f with longs := f.longs.set none n (some smp) }
    match (s.camN p).frame.bind fun f => f.longs.get none n, (s.camN p).frame.bind fun f => f.shorts.get none n with
    | some a, some b => s.pushLine p n a (some b)
    | _, _ => s

/-- A line's number is out of range or has been received in the frame already (R184). -/
def Cam.badNumber (k : Cam) (vc : Nat) : Bool :=
  let n := k.curLine.get 0 vc
  n == 0 || decide (256 < n) || match k.frame with | some f => f.seen.contains (n, vc) | none => false

/-- A long packet of the port's data type: discarded and counted under R184, or taken into its frame. A good line while no frame is
open has no frame to belong to and is dropped without a count (log 66). -/
def State.csiLine (p : Nat) (l : CsiLine) (s : State) : State :=
  if l.ecc = 2 then s.discardLine p true fun k => { k with eccUncorr := k.eccUncorr + 1 }
  else
    let s := if l.ecc = 1 then s.updCam p fun k => { k with eccCorr := k.eccCorr + 1 } else s
    let k := s.camN p
    let n := k.curLine.get 0 l.vc
    if !k.link.vcs.contains l.vc then s.updCam p fun k => { k with dtOther := k.dtOther + 1 }
    else if k.badNumber l.vc then
      (s.updFrame p fun f => { f with extra := f.extra + 1 }).discardLine p false fun k => { k with seqErr := k.seqErr + 1 }
    else
      let s := s.updFrame p fun f => { f with seen := (n, l.vc) :: f.seen }
      if l.samples.length ≠ k.link.pixels * k.link.channels then s.discardLine p false fun k => { k with seqErr := k.seqErr + 1 }
      else if !l.crcOk then s.discardLine p true fun k => { k with crcErr := k.crcErr + 1 }
      else
        let isShort := some l.vc == k.link.vcShort
        (s.rawWrite p n isShort l.samples).takeExposure p n isShort l.samples

/-- CSI_LINE_RX: one exposure of a line. -/
def execCsiLineRx (port : Nat) (l : CsiLine) (s : State) : Host.Outcome State Fault Refusal :=
  evt (fun s => if s.receives port then s.csiLine port l else s) s

/-- CSI_OTHER_PACKET_RX: discarded and counted (Table 06-1). -/
def execCsiOtherPacketRx (x : CsiPacket) (s : State) : Host.Outcome State Fault Refusal :=
  evt (State.packet x.port x.ecc fun s => s.updCam x.port fun k => { k with dtOther := k.dtOther + 1 }) s

/-- CSI_FE_RX: the frame ends (R195). -/
def execCsiFeRx (x : CsiPacket) (s : State) : Host.Outcome State Fault Refusal :=
  evt (State.packet x.port x.ecc fun s => s.closeFrame x.port) s

end Sys2Proof.Machine
end

