-- ==== Sys2Proof/Machine/EncCmd.lean ====
section
/-! DEFINITION. The ENC commands (spec/08 R232, R241, R260, R262, Tables 08-4 to 08-7). -/

namespace Sys2Proof.Machine

/-- ENC above 3. -/
def encBad (enc : Byte) : Bool := decide (3 < enc.toNat)

/-- ENC_BUSY (R260). -/
def State.encBusy (s : State) (n : Nat) : Bool :=
  (n == 0 && !s.bat.pages.isEmpty) || s.srcArmed n ||
    (n == 0 && (List.range 8).any fun a => match (s.axisN a).gear with | some g => g.engaged | none => false)

/-! ## ENC_SET_INPUT -/

/-- Bytes `o` to `o + n − 1` of the payload as a number; the parameters start at offset 8. -/
def encField (p : EncInputReq) (o n : Nat) : Nat := ofLe ((p.params.drop (o - 8)).take n)

/-- Toothed parameters (Table 08-5). -/
def toothOf (p : EncInputReq) : Tooth :=
  { teeth := encField p 8 2, edges := encField p 10 1, refKind := encField p 11 1, dirSource := encField p 12 1,
    gapHi := encField p 14 2, gapLo := encField p 16 2 }

/-- SSI parameters (Table 08-6). -/
def ssiOf (p : EncInputReq) : Ssi :=
  { clkKhz := encField p 8 2, posBits := encField p 10 1, errMode := encField p 11 1, crcBits := encField p 12 1,
    crcPoly := encField p 13 1, gray := encField p 14 1 == 1, badLimit := encField p 15 1, timeoutUs := encField p 16 2,
    latchNs := encField p 18 2, rxDelayNs := encField p 20 2, periodNs := encField p 22 4, maxStep := encField p 26 4 }

/-- A reserved field is set (Tables 08-4 to 08-6). -/
def encRsv (p : EncInputReq) : Bool :=
  decide (1 < p.flags.toNat) ||
    (p.type == 0 && p.params.any (· != 0)) || (p.type == 1 && (encField p 13 1 != 0 || encField p 18 14 != 0)) ||
    (p.type == 2 && encField p 30 2 != 0)

/-- A count field is zero: TEETH, EDGES, POS_BITS. -/
def encZero (p : EncInputReq) : Bool :=
  (p.type == 1 && (encField p 8 2 == 0 || encField p 10 1 == 0)) || (p.type == 2 && encField p 10 1 == 0)

/-- Bits of an SSI frame. -/
def Ssi.bits (x : Ssi) : Nat := x.posBits + (if x.errMode = 0 then 0 else 1) + x.crcBits

/-- Toothed parameters out of range. -/
def Tooth.bad (t : Tooth) : Bool :=
  out t.teeth 8 4096 || decide (2 < t.edges) || decide (2 < t.refKind) || decide (1 < t.dirSource) || out t.gapHi 0x0140 0x0300 ||
    out t.gapLo 0x0080 0x00E0

/-- SSI parameters out of range; PERIOD_NS takes at least one CLK period a bit and the timeout. -/
def Ssi.bad (x : Ssi) (code : Nat) : Bool :=
  out x.clkKhz 100 10000 || out x.posBits 8 40 || decide (2 < x.errMode) || decide (8 < x.crcBits) || decide (1 < code) ||
    decide (x.badLimit = 0) || out x.timeoutUs 1 100 || decide (10000 < x.latchNs) || decide (2000 < x.rxDelayNs) ||
    decide (x.periodNs * x.clkKhz < x.bits * 1000000 + x.timeoutUs * 1000 * x.clkKhz) || out x.maxStep 1 (2 ^ (x.posBits - 2))

/-- The field checks of ENC_SET_INPUT (R260). -/
def encInputBad (p : EncInputReq) : Option Nat :=
  firstBad [
    (encBad p.enc, 0x0A01),
    (decide (2 < p.type.toNat) || decide (63 < p.filterTicks.toNat) || out p.standstillUs.toNat 100 1000000 ||
      (p.type == 1 && (toothOf p).bad) || (p.type == 2 && (ssiOf p).bad (encField p 14 1)), 0x0A02)]

/-- The type of an input. -/
def encTypeOf (t : Byte) : EncType := if t = 1 then .toothed else if t = 2 then .ssi else .quad

/-- An input restarts as after reset, with new settings: its lines, its error counters and its SSI offset stay. -/
def Enc.restart (p : EncInputReq) (e : Enc) : Enc :=
  { typ := encTypeOf p.type, invert := p.flags.getLsbD 0, filterTicks := p.filterTicks.toNat, standstillUs := p.standstillUs.toNat,
    tooth := if p.type = 1 then toothOf p else {}, ssi := if p.type = 2 then ssiOf p else {}, lineA := e.lineA, lineB := e.lineB,
    ssiOffset := e.ssiOffset, errIllegal := e.errIllegal, errRef := e.errRef, errBad := e.errBad, errFaults := e.errFaults }

/-- Restarts an input; on ENC_0 the estimator starts anew. -/
def State.encRestart (n : Nat) (p : EncInputReq) (s : State) : State :=
  let s := s.updEnc n (Enc.restart p)
  if n = 0 then s.updEst fun _ => {} else s

/-- ENC_SET_INPUT's rules. -/
def encSetInputBody (p : EncInputReq) (s : State) : Answer :=
  checked (encInputBad p) (fun s =>
    if s.encBusy p.enc.toNat then fail 0x0A03 s else ok (s.encRestart p.enc.toNat p)) s

/-- ENC_SET_INPUT, opcode 0x0A01. -/
def srvEncSetInput (h : MbHdr) (p : EncInputReq) (s : State) : State :=
  mbServe { op := 0x0A01, len := 32, rsv := encRsv p, zero := encZero p } h (encSetInputBody p) s
/-- ENC_SET_INPUT. -/
def execEncSetInput (h : MbHdr) (p : EncInputReq) (s : State) : Host.Outcome State Fault Refusal :=
  mbCmd h (.encSetInput h p) (srvEncSetInput h p) s

/-! ## ENC_GET_STATUS, ENC_SET_COUNT -/

/-- The ENC_GET_STATUS response (Table 08-7). -/
def Enc.bytes (e : Enc) : List Byte :=
  le 1 e.st.code ++ le 1 (bit e.reverse 0 + bit e.fault 1 + bit e.refSeen 2) ++ zeros 2 ++ le 4 e.revs.toNat ++ leI 8 e.count ++
    leI 8 (nearest (e.speed * 65536)) ++ le 8 e.lastSec.sec.toNat ++ le 4 e.lastSec.ns.toNat ++ zeros 4 ++ leI 8 e.refCount ++
    [e.errIllegal, e.errRef, e.errBad, e.errFaults].flatMap fun c => le 4 c.toNat

/-- ENC_GET_STATUS, opcode 0x0A02. -/
def srvEncGetStatus (h : MbHdr) (enc : Byte) (rsv : BitVec 24) (s : State) : State :=
  mbServe { op := 0x0A02, len := 4, rsv := rsv != 0 } h
    (fun s => if encBad enc then fail 0x0A01 s else okWith (s.encN enc.toNat).bytes s) s
/-- ENC_GET_STATUS. -/
def execEncGetStatus (h : MbHdr) (enc : Byte) (rsv : BitVec 24) (s : State) : Host.Outcome State Fault Refusal :=
  mbCmd h (.encGetStatus h enc rsv) (srvEncGetStatus h enc rsv) s

/-- The count takes a value, and E moves with it (Table 08-7); an SSI input keeps the offset that gives it. -/
def Enc.setCount (c : Int) (e : Enc) : Enc :=
  { e with
    count := c, extreme := e.extreme + (c - e.count),
    ssiOffset := if e.typ = .ssi then c - (e.prevWord.getD 0 : Nat) else e.ssiOffset }

/-- The estimator moves with ENC_0 (R241). -/
def Est.shift (d : Int) (e : Est) : Est := { e with window := e.window.map fun x => (x.1 + d, x.2), p := e.p + d }

/-- ENC_SET_COUNT's effect. -/
def State.encSetCount (n : Nat) (c : Int) (s : State) : State :=
  let d := c - (s.encN n).count
  let s := s.updEnc n (Enc.setCount c)
  if n = 0 then s.updEst (Est.shift d) else s

/-- ENC_SET_COUNT, opcode 0x0A03. -/
def srvEncSetCount (h : MbHdr) (enc : Byte) (rsv : BitVec 56) (count : BitVec 64) (s : State) : State :=
  mbServe { op := 0x0A03, len := 16, rsv := rsv != 0 } h
    (fun s => if encBad enc then fail 0x0A01 s else if s.encBusy enc.toNat then fail 0x0A03 s
      else ok (s.encSetCount enc.toNat count.toInt)) s
/-- ENC_SET_COUNT. -/
def execEncSetCount (h : MbHdr) (enc : Byte) (rsv : BitVec 56) (count : BitVec 64) (s : State) : Host.Outcome State Fault Refusal :=
  mbCmd h (.encSetCount h enc rsv count) (srvEncSetCount h enc rsv count) s

end Sys2Proof.Machine
end

