-- ==== Sys2Proof/Machine/Fire.lean ====
section
/-! DEFINITION. The FIRE commands and the interlocks (spec/03 R76, R81, R91, R95, R96, R99–R103, R113, Tables 03-5, 03-14 to
03-16): levels, compensation rules, gap-work settings, interlock settings, FIRE_PERMIT, and the hiding report. -/

namespace Sys2Proof.Machine

/-! ## Interlock inputs and FIRE_PERMIT (R100–R102) -/

/-- RAW: the pins at their active level (R100, Table 03-5). -/
def State.ilkRaw (s : State) : Byte := ~~~(s.fire.ilkPins ^^^ s.fire.ilkPolarity)

/-- ILK_STATUS (Table 03-5). -/
def State.ilkStatus (s : State) : Nat :=
  s.ilkRaw.toNat + s.ilkActive.toNat * 2 ^ 8 + s.fire.ilkLatched.toNat * 2 ^ 16 + bit s.fire.permit 24 + s.fire.dropCause * 2 ^ 25

/-- An enabled input became active (R101): nothing beyond LATCHED while FIRE_PERMIT is low. -/
def State.ilkTrip (s : State) : State :=
  if !s.fire.permit then s
  else
    let s := (s.dropPermit 1).raise .fire 0
    s.logEvent 0x0401 0 s.ilkStatus

/-- Inputs become active while enabled, or are enabled while active: LATCHED, the trip, and the axes that stop (spec/08
R253). -/
def State.ilkLatch (m : Byte) (s : State) : State :=
  if m = 0 then s else ((s.updFire fun f => { f with ilkLatched := f.ilkLatched ||| m }).ilkTrip).ilkStops m

/-- The bit of an interlock input. -/
def ilkBit (i : Nat) : Byte := if i < 8 then BitVec.twoPow 8 i else 0

/-- The pin of input `i` stands at its active or its inactive level; RAW shows it before any debounce. -/
def State.ilkPin (i : Nat) (active : Bool) (s : State) : State :=
  let b := ilkBit i
  s.updFire fun f => { f with
    ilkPins := (f.ilkPins &&& ~~~b) ||| ((if active then f.ilkPolarity else ~~~f.ilkPolarity) &&& b) }

/-- Input `i` has held its level for its debounce time, DEBOUNCE_US (R100). -/
def State.debounced (s : State) (i heldUs : Nat) : Bool := decide (s.fire.debounce.get 50 i ≤ heldUs)

/-- Input `i` has held its active level for `heldUs`; a shorter pulse moves RAW alone. -/
def State.ilkGoesActive (i heldUs : Nat) (s : State) : State :=
  let b := ilkBit i
  let s := s.ilkPin i true
  if s.fire.ilkDeb &&& b != 0 || !s.debounced i heldUs then s
  else (s.updFire fun f => { f with ilkDeb := f.ilkDeb ||| b }).ilkLatch (s.fire.ilkEnable &&& b)

/-- Input `i` has held its inactive level for `heldUs`. -/
def State.ilkGoesInactive (i heldUs : Nat) (s : State) : State :=
  let s := s.ilkPin i false
  if s.debounced i heldUs then s.updFire fun f => { f with ilkDeb := f.ilkDeb &&& ~~~(ilkBit i) } else s

/-- ILK_INPUT_ACTIVE: an input stands at its active level, and becomes active once it has held it. -/
def execIlkInputActive (x : IlkLevel) (s : State) : Host.Outcome State Fault Refusal := evt (State.ilkGoesActive x.input x.heldUs) s
/-- ILK_INPUT_INACTIVE: an input stands at its inactive level, and becomes inactive once it has held it. -/
def execIlkInputInactive (x : IlkLevel) (s : State) : Host.Outcome State Fault Refusal := evt (State.ilkGoesInactive x.input x.heldUs) s

/-! ## FIRE_SET_LEVELS -/

/-- Level targets break R76. -/
def levelsBad (a b c : Nat) : Bool :=
  out a 0x2000 0x6000 || out b 0x2000 0x6000 || out c 0x2000 0x6000 || decide (b ≤ a) || decide (c ≤ b)

/-- Targets are journaled; they and the codes come into force with the record's commit (R80, R81, R84). -/
def State.setLevels (a b c : Nat) (s : State) : State := (s.journal (.levels a b c)).restartAll

/-- FIRE_SET_LEVELS' rules. -/
def fireSetLevelsBody (a b c : BitVec 16) (s : State) : Answer :=
  twinGate (if levelsBad a.toNat b.toNat c.toNat then some 0x0402 else none) 0x0401
    (le 2 a.toNat ++ le 2 b.toNat ++ le 2 c.toNat ++ zeros 2)
    (fun s => if s.bat.pages.isEmpty then ok (s.setLevels a.toNat b.toNat c.toNat) else fail 0x0401 s) s

/-- FIRE_SET_LEVELS, opcode 0x0401. -/
def srvFireSetLevels (h : MbHdr) (targetS targetM targetL : BitVec 16) (rsv : BitVec 16) (s : State) : State :=
  mbServe { op := 0x0401, len := 8, rsv := rsv != 0 } h (fireSetLevelsBody targetS targetM targetL) s
/-- FIRE_SET_LEVELS. -/
def execFireSetLevels (h : MbHdr) (targetS targetM targetL : BitVec 16) (rsv : BitVec 16) (s : State) :
    Host.Outcome State Fault Refusal :=
  mbCmd h (.fireSetLevels h targetS targetM targetL rsv) (srvFireSetLevels h targetS targetM targetL rsv) s

/-! ## FIRE_SET_COMP, FIRE_SET_WARM, FIRE_SET_MEASURE -/

/-- Compensation rules for later released lines (R91). -/
def State.setComp (a b c reach : Byte) (s : State) : State :=
  s.updFire fun f => { f with ruleS := a, ruleM := b, ruleL := c, reach := reach.toNat }

/-- FIRE_SET_COMP's rules; on a pair in UP they apply from the APPLY_KEY's line (spec/09 R275). -/
def fireSetCompBody (a b c reach : Byte) (s : State) : Answer :=
  let key := s.applyKey
  twinGateAt key (if (a &&& 3) = 3 ∨ (b &&& 3) = 3 ∨ (c &&& 3) = 3 ∨ out reach.toNat 1 4 then some 0x0403 else none) 0x0402
    [a, b, c, reach]
    (fun s => ok (if s.pairUp && key != atOnce then s.applyLater key (.comp a b c reach) else s.setComp a b c reach)) s

/-- FIRE_SET_COMP, opcode 0x0402. -/
def srvFireSetComp (h : MbHdr) (ruleS ruleM ruleL reach : Byte) (s : State) : State :=
  mbServe { op := 0x0402, len := 4, rsv := 15 < ruleS.toNat || 15 < ruleM.toNat || 15 < ruleL.toNat } h
    (fireSetCompBody ruleS ruleM ruleL reach) s
/-- FIRE_SET_COMP. -/
def execFireSetComp (h : MbHdr) (ruleS ruleM ruleL reach : Byte) (s : State) : Host.Outcome State Fault Refusal :=
  mbCmd h (.fireSetComp h ruleS ruleM ruleL reach) (srvFireSetComp h ruleS ruleM ruleL reach) s

/-- Warming settings (R95). -/
def State.setWarm (code gain rate : Nat) (s : State) : State :=
  s.updFire fun f => { f with warmCode := code, warmGain := gain, warmRateMax := rate }

/-- FIRE_SET_WARM, opcode 0x0403. -/
def srvFireSetWarm (h : MbHdr) (warmCode rsv : Byte) (warmGain : BitVec 16) (warmRateMax : BitVec 32) (s : State) : State :=
  mbServe { op := 0x0403, len := 8, rsv := rsv != 0 } h
    (twinGate (if out warmCode.toNat 1 80 || out warmGain.toNat 1 30000 || out warmRateMax.toNat 1 30000 then some 0x0403 else none)
      0x0403 ([warmCode, 0] ++ le 2 warmGain.toNat ++ le 4 warmRateMax.toNat)
      fun s => ok (s.setWarm warmCode.toNat warmGain.toNat warmRateMax.toNat)) s
/-- FIRE_SET_WARM. -/
def execFireSetWarm (h : MbHdr) (warmCode rsv : Byte) (warmGain : BitVec 16) (warmRateMax : BitVec 32) (s : State) :
    Host.Outcome State Fault Refusal :=
  mbCmd h (.fireSetWarm h warmCode rsv warmGain warmRateMax) (srvFireSetWarm h warmCode rsv warmGain warmRateMax) s

/-- The measurement period (R96). -/
def State.setMeasure (n : Nat) (s : State) : State := s.updFire fun f => { f with measPeriodS := n }

/-- FIRE_SET_MEASURE, opcode 0x0404. -/
def srvFireSetMeasure (h : MbHdr) (measPeriodS : BitVec 32) (s : State) : State :=
  mbServe { op := 0x0404, len := 4 } h
    (twinGate (if out measPeriodS.toNat 60 86400 then some 0x0403 else none) 0x0404 (le 4 measPeriodS.toNat)
      fun s => ok (s.setMeasure measPeriodS.toNat)) s
/-- FIRE_SET_MEASURE. -/
def execFireSetMeasure (h : MbHdr) (measPeriodS : BitVec 32) (s : State) : Host.Outcome State Fault Refusal :=
  mbCmd h (.fireSetMeasure h measPeriodS) (srvFireSetMeasure h measPeriodS) s

/-! ## FIRE_SET_ILK, FIRE_ARM, FIRE_DISARM, FIRE_GET_HIDING -/

/-- Interlock settings (R100, R101): an input enabled while active latches and trips. -/
def State.setIlk (enable polarity : Byte) (deb : List Nat) (s : State) : State :=
  (s.updFire fun f => { f with
    ilkEnable := enable, ilkPolarity := polarity, debounce := SMap.setList 50 [] 0 deb }).ilkLatch
    (s.fire.ilkDeb &&& enable &&& ~~~s.fire.ilkEnable)

/-- FIRE_SET_ILK, opcode 0x0405. -/
def srvFireSetIlk (h : MbHdr) (enable polarity : Byte) (rsv : BitVec 16) (debounceUs : List (BitVec 16)) (s : State) : State :=
  mbServe { op := 0x0405, len := 20, rsv := rsv != 0 } h
    (twinGate (if debounceUs.any fun d => out d.toNat 1 10000 then some 0x0403 else none) 0x0405
      ([enable, polarity, 0, 0] ++ debounceUs.flatMap fun d => le 2 d.toNat)
      fun s => ok (s.setIlk enable polarity (debounceUs.map (·.toNat)))) s
/-- FIRE_SET_ILK. -/
def execFireSetIlk (h : MbHdr) (enable polarity : Byte) (rsv : BitVec 16) (debounceUs : List (BitVec 16)) (s : State) :
    Host.Outcome State Fault Refusal :=
  mbCmd h (.fireSetIlk h enable polarity rsv debounceUs) (srvFireSetIlk h enable polarity rsv debounceUs) s

/-- FIRE_PERMIT may rise (R102). -/
def State.armable (s : State) : Bool := s.ilkActive == 0 && !s.boot.coresHeld && s.pwr.st == .run

/-- FIRE_ARM's rule (R102). -/
def fireArmBody (s : State) : Answer :=
  if s.armable then ok (s.updFire fun f => { f with permit := true }) else fail 0x0404 s

/-- FIRE_ARM, opcode 0x0406. -/
def srvFireArm (h : MbHdr) (s : State) : State := mbServe { op := 0x0406, len := 0 } h fireArmBody s
/-- FIRE_ARM. -/
def execFireArm (h : MbHdr) (s : State) : Host.Outcome State Fault Refusal := mbCmd h (.fireArm h) (srvFireArm h) s

/-- FIRE_DISARM, opcode 0x0407. -/
def srvFireDisarm (h : MbHdr) (s : State) : State := mbServe { op := 0x0407, len := 0 } h (fun s => ok (s.dropPermit 2)) s
/-- FIRE_DISARM. -/
def execFireDisarm (h : MbHdr) (s : State) : Host.Outcome State Fault Refusal := mbCmd h (.fireDisarm h) (srvFireDisarm h) s

/-- The FIRE_GET_HIDING response (R92). -/
def State.hidingBytes (s : State) : List Byte :=
  le 4 s.fire.vHide ++ le 1 s.fire.hideState ++ zeros 3 ++ le 4 (s.firstBare.getD 0xFFFFFFFF) ++ le 4 s.fire.rateClamps.toNat ++
    le 8 s.fire.substPixels.toNat ++ le 8 s.fire.compPixels.toNat ++ le 8 s.fire.unhidden.toNat

/-- FIRE_GET_HIDING, opcode 0x0408. -/
def srvFireGetHiding (h : MbHdr) (s : State) : State :=
  mbServe { op := 0x0408, len := 0 } h (fun s => okWith s.hidingBytes s) s
/-- FIRE_GET_HIDING. -/
def execFireGetHiding (h : MbHdr) (s : State) : Host.Outcome State Fault Refusal := mbCmd h (.fireGetHiding h) (srvFireGetHiding h) s

end Sys2Proof.Machine
end

