-- ==== Sys2Proof/Machine/HeadCmd.lean ====
section
/-! DEFINITION. The HEAD commands (spec/03 R78–R84, R98, R104, R107, R110, R111, R113, Tables 03-8 to 03-13, spec/04 R406): drive
settings, characteristic tables, thermal thresholds, nozzle entries, and the reports of one port. -/

namespace Sys2Proof.Machine

/-! ## Ports a command names -/

/-- PORT names one enabled port. -/
def State.badPort (s : State) (port : Byte) : Bool := !s.portEnabled port.toNat

/-- PORT names one enabled port, or is 0xFF. -/
def State.badPortAll (s : State) (port : Byte) : Bool := port != 0xFF && !s.portEnabled port.toNat

/-- The ports named. -/
def State.portsOf (s : State) (port : Byte) : List Nat := if port = 0xFF then s.enabledPorts else [port.toNat]

/-- A page is admitted: the command is refused (R81). -/
def State.pagesAdmitted (s : State) : Bool := !s.bat.pages.isEmpty

/-! ## HEAD_GET_INFO -/

/-- LINK of Table 03-8. -/
def LinkSt.infoCode : LinkSt → Nat
  | .up => 1 | .dropped => 2 | .mismatch => 3 | _ => 0

/-- THERMAL of Table 03-8; a head that has never reported is no head withheld under R108. -/
def State.thermalCode (s : State) (p : Nat) : Nat :=
  match (s.portN p).withheld, (s.portN p).temp with
  | .cut, _ => 3
  | .telemetry, _ => 4
  | .stop, _ => 2
  | .none, none => 0
  | .none, some t => if (s.cal.data.thermal.get {} p).tWarn ≤ t then 1 else 0

/-- The number of nozzles of a port in a state. -/
def State.countState (s : State) (p st : Nat) : Nat := ((List.range (s.nozCount p)).filter fun i => (s.nozN p i).state == st).length

/-- The HEAD_GET_INFO response (Table 03-8). -/
def State.headInfo (s : State) (p : Nat) : List Byte :=
  let q := s.portN p
  let d := s.cal.data.drive.get {} p
  le 1 p ++ le 1 q.st.infoCode ++ le 1 (s.thermalCode p) ++ le 1 q.throttle ++ le 2 (q.headNozzles.getD 0) ++ le 2 d.mainPulseNs.toNat ++
    le 8 (q.headSerial.getD 0).toNat ++ leI 2 (q.temp.getD 0) ++ le 2 d.nominalDw.toNat ++
    le 2 (s.countState p 0) ++ le 2 (s.countState p 1) ++ le 2 (s.countState p 2) ++ le 2 (s.countState p 3) ++
    le 1 (s.cal.data.char.get {} p).source ++ zeros 3

/-- HEAD_GET_INFO, opcode 0x0301. -/
def srvHeadGetInfo (h : MbHdr) (port : Byte) (rsv : BitVec 24) (s : State) : State :=
  mbServe { op := 0x0301, len := 4, rsv := rsv != 0 } h
    (fun s => if s.badPort port then fail 0x0301 s else okWith (s.headInfo port.toNat) s) s
/-- HEAD_GET_INFO. -/
def execHeadGetInfo (h : MbHdr) (port : Byte) (rsv : BitVec 24) (s : State) : Host.Outcome State Fault Refusal :=
  mbCmd h (.headGetInfo h port rsv) (srvHeadGetInfo h port rsv) s

/-! ## HEAD_SET_DRIVE -/

/-- Drive settings are journaled; they and the head write come with the record's commit (R81). -/
def State.setDrive (d : Drive) (p : Nat) (s : State) : State := (s.journal (.drive p d)).restartPort p

/-- HEAD_SET_DRIVE's payload (Table 03-9). -/
def drivePayload (port : Byte) (mainPulseNs preheatGapNs nominalDw : BitVec 16) : List Byte :=
  [port, 0] ++ le 2 mainPulseNs.toNat ++ le 2 preheatGapNs.toNat ++ le 2 nominalDw.toNat

/-- HEAD_SET_DRIVE's rules. -/
def headSetDriveBody (port : Byte) (mainPulseNs preheatGapNs nominalDw : BitVec 16) (s : State) : Answer :=
  twinGate (firstBad [
      (s.badPortAll port, 0x0301),
      (out mainPulseNs.toNat 200 5000 || out preheatGapNs.toNat 20 1000 || out nominalDw.toNat 1 1000, 0x0309)])
    0x0302 (drivePayload port mainPulseNs preheatGapNs nominalDw)
    (fun s => if s.pagesAdmitted then fail 0x0302 s
      else ok ((s.portsOf port).foldl (fun t p => t.setDrive ⟨mainPulseNs, preheatGapNs, nominalDw⟩ p) s)) s

/-- HEAD_SET_DRIVE, opcode 0x0302. -/
def srvHeadSetDrive (h : MbHdr) (port rsv : Byte) (mainPulseNs preheatGapNs nominalDw : BitVec 16) (s : State) : State :=
  mbServe { op := 0x0302, len := 8, rsv := rsv != 0 } h (headSetDriveBody port mainPulseNs preheatGapNs nominalDw) s
/-- HEAD_SET_DRIVE. -/
def execHeadSetDrive (h : MbHdr) (port rsv : Byte) (mainPulseNs preheatGapNs nominalDw : BitVec 16) (s : State) :
    Host.Outcome State Fault Refusal :=
  mbCmd h (.headSetDrive h port rsv mainPulseNs preheatGapNs nominalDw)
    (srvHeadSetDrive h port rsv mainPulseNs preheatGapNs nominalDw) s

/-! ## HEAD_SET_CHAR -/

/-- A table is non-decreasing (R78). -/
def nonDecreasing : List Nat → Bool
  | a :: b :: l => decide (a ≤ b) && nonDecreasing (b :: l)
  | _ => true

/-- Stages or drops a first half. -/
def State.stageChar (p : Nat) (v : Option (List Nat)) (s : State) : State :=
  s.updCal fun c => { c with charStaged := c.charStaged.set none p v }

/-- A table with the serial number of its head is journaled, and comes into force with the record's commit (R78, R81, R84). -/
def State.setChar (p : Nat) (table : List Nat) (s : State) : State :=
  let c : Char := { serial := (s.portN p).headSerial <|> (s.cal.data.char.get {} p).serial, table := some table }
  ((s.journal (.char p c)).stageChar p none).restartPort p

/-- HEAD_SET_CHAR's rules behind PORT and HALF: the table check of R78 and R110, a rejected table discarding the staged half,
then R81. -/
def headSetCharApply (p : Nat) (half : Byte) (entries : List Nat) (s : State) : Answer :=
  match s.cal.charStaged.get none p with
  | none =>
    if half = 1 then fail 0x0304 s
    else if s.pagesAdmitted then fail 0x0302 s else ok (s.stageChar p (some entries))
  | some l =>
    if half = 1 ∧ !nonDecreasing (l ++ entries) then fail 0x0304 (s.stageChar p none)
    else if s.pagesAdmitted then fail 0x0302 s
    else if half = 1 then ok (s.setChar p (l ++ entries)) else ok (s.stageChar p (some entries))

/-- HEAD_SET_CHAR's rules. -/
def headSetCharBody (port half : Byte) (entries : List (BitVec 16)) (s : State) : Answer :=
  twinGate (firstBad [(s.badPort port, 0x0301), (decide (1 < half.toNat), 0x0309)])
    0x0303 ([port, half, 0, 0] ++ entries.flatMap fun e => le 2 e.toNat)
    (headSetCharApply port.toNat half (entries.map (·.toNat))) s

/-- HEAD_SET_CHAR, opcode 0x0303. -/
def srvHeadSetChar (h : MbHdr) (port half : Byte) (rsv : BitVec 16) (entries : List (BitVec 16)) (s : State) : State :=
  mbServe { op := 0x0303, len := 260, rsv := rsv != 0 } h (headSetCharBody port half entries) s
/-- HEAD_SET_CHAR. -/
def execHeadSetChar (h : MbHdr) (port half : Byte) (rsv : BitVec 16) (entries : List (BitVec 16)) (s : State) :
    Host.Outcome State Fault Refusal :=
  mbCmd h (.headSetChar h port half rsv entries) (srvHeadSetChar h port half rsv entries) s

/-! ## HEAD_SET_THERMAL -/

/-- The thresholds of a payload. -/
def thermalOfReq (p : HeadThermalReq) : Thermal :=
  { tTarget := p.tTarget.toInt, tWarn := p.tWarn.toInt, tStop := p.tStop.toInt, tCut := p.tCut.toInt, hyst := p.hyst.toInt }

/-- Thresholds satisfy R104. -/
def Thermal.good (t : Thermal) : Bool :=
  decide (320 ≤ t.tTarget ∧ t.tTarget ≤ t.tWarn - t.hyst ∧ t.tWarn < t.tStop ∧ t.tStop < t.tCut ∧ t.tCut ≤ 1360 ∧ 8 ≤ t.hyst ∧
    t.hyst ≤ 128)

/-- Thresholds come into force at once, are journaled, and a changed T_CUT is loaded into the head (R104, R107). -/
def State.setThermal (v : Thermal) (p : Nat) (s : State) : State :=
  let was := (s.cal.data.thermal.get {} p).tCut
  let s := (s.updData fun d => { d with thermal := d.thermal.set {} p v }).journal (.thermal p v)
  if was = v.tCut then s else s.headWrite p adrTCut v.cutBytes

/-- HEAD_SET_THERMAL's rules. -/
def headSetThermalBody (p : HeadThermalReq) (s : State) : Answer :=
  let v := thermalOfReq p
  twinGate (firstBad [(s.badPortAll p.port, 0x0301), (!v.good, 0x0303)]) 0x0304 ([p.port, 0] ++ v.bytes)
    (fun s => ok ((s.portsOf p.port).foldl (fun t n => t.setThermal v n) s)) s

/-- HEAD_SET_THERMAL, opcode 0x0304. -/
def srvHeadSetThermal (h : MbHdr) (p : HeadThermalReq) (s : State) : State :=
  mbServe { op := 0x0304, len := 12, rsv := p.rsv != 0 } h (headSetThermalBody p) s
/-- HEAD_SET_THERMAL. -/
def execHeadSetThermal (h : MbHdr) (p : HeadThermalReq) (s : State) : Host.Outcome State Fault Refusal :=
  mbCmd h (.headSetThermal h p) (srvHeadSetThermal h p) s

/-! ## HEAD_RESUME -/

/-- Ends a cut (R107). -/
def State.resumeHead (p : Nat) (s : State) : State :=
  ((s.updPort p fun q => { q with withheld := .none, clearing := true }).headWrite p adrCutClear (le 4 1)).rehide

/-- HEAD_RESUME's rules (R107, R406). -/
def headResumeBody (port : Byte) (s : State) : Answer :=
  let p := port.toNat
  twinGate (firstBad [(s.badPort port, 0x0301)]) 0x0305 [port, 0, 0, 0]
    (fun s =>
      if (s.portN p).withheld != .cut then fail 0x0305 s
      else if (s.portN p).st != .up then fail 0x0308 s
      else
        match (s.portN p).report with
        | some t => if (s.cal.data.thermal.get {} p).tWarn ≤ t then fail 0x0306 s else ok (s.resumeHead p)
        | none => fail 0x0306 s) s

/-- HEAD_RESUME, opcode 0x0305. -/
def srvHeadResume (h : MbHdr) (port : Byte) (rsv : BitVec 24) (s : State) : State :=
  mbServe { op := 0x0305, len := 4, rsv := rsv != 0 } h (headResumeBody port) s
/-- HEAD_RESUME. -/
def execHeadResume (h : MbHdr) (port : Byte) (rsv : BitVec 24) (s : State) : Host.Outcome State Fault Refusal :=
  mbCmd h (.headResume h port rsv) (srvHeadResume h port rsv) s

/-! ## HEAD_GET_NOZZLE and HEAD_SET_NOZZLE -/

/-- HEAD_GET_NOZZLE's rules (Table 03-12). -/
def headGetNozzleBody (port : Byte) (first count : BitVec 16) (s : State) : Answer :=
  let n := s.nozCount port.toNat
  checked (firstBad [
      (s.badPort port, 0x0301),
      (decide (n ≤ first.toNat), 0x0307),
      (decide (64 < count.toNat), 0x0309),
      (decide (n < first.toNat + count.toNat), 0x0307)])
    (fun s => okWith ((List.range count.toNat).flatMap fun k => s.nozEntry port.toNat (first.toNat + k)) s) s

/-- HEAD_GET_NOZZLE, opcode 0x0306. -/
def srvHeadGetNozzle (h : MbHdr) (port rsv : Byte) (first count : BitVec 16) (rsv2 : BitVec 16) (s : State) : State :=
  mbServe { op := 0x0306, len := 8, rsv := rsv != 0 || rsv2 != 0, zero := count == 0 } h (headGetNozzleBody port first count) s
/-- HEAD_GET_NOZZLE. -/
def execHeadGetNozzle (h : MbHdr) (port rsv : Byte) (first count : BitVec 16) (rsv2 : BitVec 16) (s : State) :
    Host.Outcome State Fault Refusal :=
  mbCmd h (.headGetNozzle h port rsv first count rsv2) (srvHeadGetNozzle h port rsv first count rsv2) s

/-- A nozzle's entry as it will be once every record waiting has committed. -/
def State.nozAhead (s : State) (p i : Nat) : NozCal := s.dataAhead.nozN p i

/-- Journals a nozzle's new entry (R84). -/
def State.journalNoz (p i : Nat) (n : NozCal) (s : State) : State := s.journal (.nozzle [(p, i, n)])

/-- What an action makes of a nozzle's entry (Table 03-13, R98, R111); none where it is refused. RETIRE keeps CAUSE and OK_RUN (log
115). -/
def nozAction (action value : Nat) (n : NozCal) : Option NozCal :=
  match action with
  | 1 => some { n with state := 3 }
  | 2 => if n.state = 3 then some { n with state := 0, cause := 0 } else none
  | 3 => if n.state = 1 ∨ n.state = 2 then some { n with state := 0, cause := 0 } else none
  | _ => some { n with resBase := value }

/-- The VALUE of an action is out of range (Table 03-13). -/
def nozValueBad (action value : Nat) : Bool := if action = 4 then out value 1000 1048574 else value != 0

/-- HEAD_SET_NOZZLE's payload. -/
def nozPayload (port action : Byte) (nozzle : BitVec 16) (value : BitVec 32) : List Byte :=
  [port, action] ++ le 2 nozzle.toNat ++ le 4 value.toNat

/-- Journals an accepted action; CLEAR and UNRETIRE set OK_RUN to 0. On a pair in UP its effect waits for the APPLY_KEY's line
(spec/09 R275). -/
def State.actNozzle (key : BitVec 32) (port action : Byte) (nozzle : BitVec 16) (value : BitVec 32) (n : NozCal) (s : State) :
    State :=
  let p := port.toNat
  let i := nozzle.toNat
  let s := s.journalNoz p i n
  let s := if action = 2 ∨ action = 3 then s.updVol p i fun v => { v with okRun := 0 } else s
  if s.pairUp && key != atOnce then s.applyLater key (.nozAct p action.toNat i value.toNat) else s

/-- HEAD_SET_NOZZLE's rules (R84, R98, R111). -/
def headSetNozzleBody (port action : Byte) (nozzle : BitVec 16) (value : BitVec 32) (s : State) : Answer :=
  let key := s.applyKey
  twinGateAt key (firstBad [
      (s.badPort port, 0x0301),
      (out action.toNat 1 4, 0x0307),
      (decide (s.nozCount port.toNat ≤ nozzle.toNat), 0x0307),
      (nozValueBad action.toNat value.toNat, 0x0307)])
    0x0307 (nozPayload port action nozzle value)
    (fun s => match nozAction action.toNat value.toNat (s.nozAhead port.toNat nozzle.toNat) with
      | some n => ok (s.actNozzle key port action nozzle value n)
      | none => fail 0x0307 s) s

/-- HEAD_SET_NOZZLE, opcode 0x0307. -/
def srvHeadSetNozzle (h : MbHdr) (port action : Byte) (nozzle : BitVec 16) (value : BitVec 32) (s : State) : State :=
  mbServe { op := 0x0307, len := 8 } h (headSetNozzleBody port action nozzle value) s
/-- HEAD_SET_NOZZLE. -/
def execHeadSetNozzle (h : MbHdr) (port action : Byte) (nozzle : BitVec 16) (value : BitVec 32) (s : State) :
    Host.Outcome State Fault Refusal :=
  mbCmd h (.headSetNozzle h port action nozzle value) (srvHeadSetNozzle h port action nozzle value) s

/-! ## HEAD_MEASURE -/

/-- Makes every nozzle of a port due for measurement (R96). -/
def State.makeDue (p : Nat) (s : State) : State :=
  s.updCal fun c => { c with vol := c.vol.set [] p ((List.range (s.nozCount p)).map fun i => (i, { c.volN p i with due := true })) }

/-- HEAD_MEASURE's rules (R96, R406). -/
def headMeasureBody (port : Byte) (s : State) : Answer :=
  twinGate (firstBad [(s.badPortAll port, 0x0301)]) 0x0308 [port, 0, 0, 0]
    (fun s =>
      if port != 0xFF && (s.portN port.toNat).st != .up then fail 0x0308 s
      else ok (((s.portsOf port).filter fun p => (s.portN p).st == .up).foldl (fun t p => t.makeDue p) s)) s

/-- HEAD_MEASURE, opcode 0x0308. -/
def srvHeadMeasure (h : MbHdr) (port : Byte) (rsv : BitVec 24) (s : State) : State :=
  mbServe { op := 0x0308, len := 4, rsv := rsv != 0 } h (headMeasureBody port) s
/-- HEAD_MEASURE. -/
def execHeadMeasure (h : MbHdr) (port : Byte) (rsv : BitVec 24) (s : State) : Host.Outcome State Fault Refusal :=
  mbCmd h (.headMeasure h port rsv) (srvHeadMeasure h port rsv) s

end Sys2Proof.Machine
end

