-- ==== Sys2Proof/Machine/MapLine.lean ====
section
/-! DEFINITION. The mapping of a decoded line onto nozzles (spec/03 R83, R87–R91): usable nozzles, substitution, neighbour
compensation, and the FIRE_LINE encoding (spec/04 R131, R132). Pure functions over the snapshot a released line holds. -/

namespace Sys2Proof.Machine

/-- The geometry in force with its web settings. -/
def State.bar? (s : State) : Option (Geo × Web) :=
  match s.geo.committed with
  | some g => g.web.map fun w => (g, w)
  | none => none

/-- A nozzle is usable for a line (R87), by the snapshot of its release (R22). -/
def Line.usable (l : Line) (nz : Nat × Nat) : Bool := !l.unusable.contains nz.1 && !l.badNoz.contains nz

/-- The nozzle R88 fires for a non-zero pixel of column `c`, and whether it belongs to the other row (R88, R90). -/
def Line.place (g : Geo) (w : Web) (par : Nat) (l : Line) (c : Nat) : Option (Nat × Nat × Bool) :=
  let r := w.rowOf par l.line
  let own := g.select r l.line c
  match [own.1, own.2].find? fun x => match x with | some z => l.usable z | none => false with
  | some (some z) => some (z.1, z.2, false)
  | _ =>
    if !w.dual then none
    else
      let q := g.partner w.dual r c
      let q2 := (g.servers (!r) c).find? fun z => some z != q
      match [q, q2].find? fun x => match x with | some z => l.usable z && l.ivOk.contains z.1 | none => false with
      | some (some z) => some (z.1, z.2, true)
      | _ => none

/-- A compensation rule (Table 03-2). -/
structure CompRule where
  lift : Nat
  both : Bool
  fill : Bool

/-- The rule for a missing level, from the three rule bytes and REACH that a line holds. -/
def compRule (rules : List Nat) (level : Nat) : CompRule :=
  let b := rules.getD (level - 1) 0
  ⟨b % 4, hasBit b 2, hasBit b 3⟩

/-- Tries to raise the pixel of column `c` (the inner loop of R91): none where the side goes on. -/
def raiseOne (r : CompRule) (missing : List Nat) (placeable : Nat → Bool) (pix : List Nat) (c : Nat) : Option (List Nat × Nat) :=
  let v := pix.getD c 0
  if missing.contains c then none
  else if v = 0 && (!r.fill || !placeable c) then none
  else
    let new := min 3 (v + r.lift)
    some (pix.set c new, new - v)

/-- One side of R91: the first column that takes the raise. -/
def raiseSide (r : CompRule) (missing : List Nat) (placeable : Nat → Bool) : List Nat → List Nat → List Nat × Nat
  | [], pix => (pix, 0)
  | c :: cs, pix =>
    match raiseOne r missing placeable pix c with
    | some x => x
    | none => raiseSide r missing placeable cs pix

/-- The columns of the left side of `c` at distances 1 to `reach`. -/
def leftOf (c reach : Nat) : List Nat := ((List.range reach).map (· + 1)).filterMap fun d => if d ≤ c then some (c - d) else none
/-- The columns of the right side, below `columns`. -/
def rightOf (c reach columns : Nat) : List Nat :=
  ((List.range reach).map (· + 1)).filterMap fun d => if c + d < columns then some (c + d) else none

/-- compensate(n, c, L) of R91: the pixels after it, and what it added. -/
def compensate (rules : List Nat) (n : Nat) (missing : List Nat) (placeable : Nat → Bool) (pix : List Nat) (c level : Nat) :
    List Nat × Nat :=
  let r := compRule rules level
  let reach := rules.getD 3 0
  let left := r.both || n % 2 == 0
  let right := r.both || n % 2 == 1
  let a := if left then raiseSide r missing placeable (leftOf c reach) pix else (pix, 0)
  let b := if right then raiseSide r missing placeable (rightOf c reach pix.length) a.1 else (a.1, 0)
  (b.1, a.2 + b.2)

/-- Compensation of all missing pixels, ascending: the pixels, how many gained something, and how many gained nothing. -/
def compensateAll (rules : List Nat) (n : Nat) (placeable : Nat → Bool) (missing : List (Nat × Nat)) (pix : List Nat) :
    List Nat × Nat × Nat :=
  missing.foldl (fun a m =>
    let x := compensate rules n (missing.map (·.1)) placeable a.1 m.1 m.2
    (x.1, if x.2 = 0 then a.2.1 else a.2.1 + 1, if x.2 = 0 then a.2.2 + 1 else a.2.2)) (pix, 0, 0)

/-- The pixels of a decoded line; a blanked segment's columns are 0 (spec/05 R170). -/
def Line.pixels (g : Geo) (w : Web) (l : Line) : List Nat :=
  (List.range (g.segments w)).flatMap fun j =>
    if l.blanked.contains j then List.replicate (g.segWidth w j) 0 else l.cols.get [] j

/-- The levels of a port's nozzles from what each column fires: 0 no drop, 1 small, 2 medium, 3 large (spec/03 R74). -/
def portLevels (p : Nat) (c : PortCfg) (cells : List (Nat × Option (Nat × Nat × Bool))) : List Nat :=
  let seg := (cells.drop c.low).take c.nozzles
  ((if c.dir then seg.reverse else seg).zipIdx).map fun x =>
    match x.1.2 with
    | some z => if z.1 = p ∧ z.2.1 = x.2 then x.1.1 else 0
    | none => 0

/-- What the mapping of a line yields: the levels of every port, the pixels fired by a partner, those compensated, and those
left unhidden (R88, R91). -/
structure Mapped where
  levels : SMap (List Nat)
  subst : Nat
  comp : Nat
  unhidden : Nat

/-- map_line of R88. -/
def Line.map (g : Geo) (w : Web) (par : Nat) (l : Line) : Mapped :=
  let pix := l.pixels g w
  let places := (List.range pix.length).map (l.place g w par)
  let missing := (pix.zip places).zipIdx.filterMap fun x => if x.1.1 != 0 && x.1.2.isNone then some (x.2, x.1.1) else none
  let out := compensateAll l.rules l.line (fun c => (places.getD c none).isSome) missing pix
  let cells := out.1.zip places
  { levels := g.ports.map fun p => (p.1, portLevels p.1 p.2 cells),
    subst := (cells.filter fun x => x.1 != 0 && match x.2 with | some z => z.2.2 | none => false).length,
    comp := out.2.1, unhidden := out.2.2 }

/-! ## Frames (spec/04 R131, R132) -/

/-- The sparse entries of a frame's levels: nozzle and level. -/
def sparseEntries (lv : List Nat) : List (Nat × Nat) := lv.zipIdx.filterMap fun x => if x.1 = 0 then none else some (x.2, x.1)

/-- Four levels to a byte. -/
def denseBytes : List Nat → List Byte
  | a :: b :: c :: d :: l => BitVec.ofNat 8 (a + 4 * b + 16 * c + 64 * d) :: denseBytes l
  | _ => []

/-- FIRST_NOZZLE, COUNT, SPARSE and PIXELS of a frame: the smaller encoding, dense where they are equal (R132, log 31). -/
def encodePixels (lv : List Nat) : Nat × Nat × Bool × List Byte :=
  let sp := sparseEntries lv
  match sp.head?, sp.getLast? with
  | some a, some b =>
    let first := a.1 / 4 * 4
    let n := b.1 / 4 * 4 + 4 - first
    if 2 * sp.length < n / 4 then (0, sp.length, true, sp.flatMap fun e => le 2 (e.1 + e.2 * 8192))
    else (first, n, false, denseBytes ((lv.drop first).take n))
  | _, _ => (0, 0, false, [])

/-- The FIRE_LINE payload of a port's levels (Table 04-7); FIRE_TIME is written from the Ridge time of `fire`. -/
def fireFrame (fire : Int) (throttle release : Nat) (subst : Bool) (lv : List Nat) : FireLine :=
  let e := encodePixels lv
  { fireTime := BitVec.ofInt 48 fire, throttle := BitVec.ofNat 8 throttle,
    ctl := BitVec.ofNat 8 (release % 16 + bit subst 4 + bit e.2.2.1 5), firstNozzle := BitVec.ofNat 16 e.1,
    count := BitVec.ofNat 16 e.2.1, pixels := e.2.2.2 }

end Sys2Proof.Machine
end

