-- ==== Sys2Proof/Machine/Lines.lean ====
section
/-! DEFINITION. The print path (spec/01 R20–R22, spec/02 R54–R64, spec/03 R84–R92, R105, spec/04 R131–R133, spec/05 R168–R170):
releasing, decoding and mapping a line, building its frames, firing, the late line, the placement check, leaving the queue; and
what a new estimate does to sent lines (R58, R59, R62, R86). -/

namespace Sys2Proof.Machine

/-! ## Changes that wait for a released line (spec/09 R275, spec/03 R84) -/

/-- A nozzle's entry comes into force: the warm mask follows its STATE (R95), the hiding figure is computed again (R92). -/
def State.applyNoz (p i : Nat) (n : NozCal) (s : State) : State :=
  let old := s.nozN p i
  let s := s.updData (CalData.updNoz p i fun _ => n)
  if old.state = n.state then s
  else
    let s := if decide (old.state ≤ 1) != decide (n.state ≤ 1) then
      s.headWrite p (adrWarmMask + 4 * (i / 32)) (s.warmMaskWord p (i / 32)) else s
    s.rehide

/-- A change comes into force at its line (R275). -/
def State.applyChange (c : Later) (s : State) : State :=
  match c with
  | .comp a b c reach => s.setComp a b c reach
  | .nozAct p action i v =>
    match nozAction action v (s.nozN p i) with
    | some n => s.applyNoz p i n
    | none => s
  | .noz p i n => s.applyNoz p i n
  | .gains factory r => s.updData (if factory then (JBody.factory [r]).apply else (JBody.gainUpdate [r]).apply)

/-- The line an APPLY_KEY names has been released, or its page is no longer queued. -/
def State.keyReached (s : State) (key : BitVec 32) : Bool :=
  match s.page? (key.toNat / 2 ^ 20) with
  | some pg => decide (key.toNat % 2 ^ 20 < pg.nextLine)
  | none => true

/-- Brings every change whose line has come into force. -/
def State.applyDue (s : State) : State :=
  let due := s.twin.apply.filter fun a => s.keyReached a.1
  let s := s.updTwin fun t => { t with apply := t.apply.filter fun a => !s.keyReached a.1 }
  due.foldl (fun t a => t.applyChange a.2) s

/-! ## Times of own lines (spec/02 R63, spec/03 R89) -/

/-- A port's part of a line has its frame built or sent. -/
def LineSt.timed : LineSt → Bool
  | .queued | .sent => true
  | _ => false

/-- The fire time last sent, or waiting to be sent, for a port's part of a line. -/
def State.timeOf (s : State) (p : Nat) (l : Line) : Int :=
  match (s.portN p).txQ.findSome? fun f => match f with
    | .retime tag t _ => if tag.setWidth 28 = lineKey l.handle l.line then some t else none
    | _ => none with
  | some t => t
  | none => (l.port.get {} p).fire

/-- The fire time of a port's own line before a line: the last one sent or waiting to be sent, else the last one fired. -/
def State.prevSent (s : State) (h n p : Nat) : Option Int :=
  let before := s.bat.lines.takeWhile fun l => !(l.handle == h && l.line == n)
  match (before.filter fun l => let x := l.port.get {} p; x.st.timed && !x.subst).getLast? with
  | some l => some (s.timeOf p l)
  | none => s.bat.lastOwn.get none p

/-- The predicted fire time of line `n` of a page on port `p`, or the time already sent. -/
def State.lineTime (s : State) (g : Geo) (w : Web) (pg : Page) (n p : Nat) : Option Int :=
  match s.line? pg.handle n with
  | some l => if (l.port.get {} p).st.timed || (l.port.get {} p).st == .fired then some (s.timeOf p l) else s.fireTime g w pg.top n p
  | none => s.fireTime g w pg.top n p

/-- The queued page before or after a page. -/
def pageBefore (h : Nat) : List Page → Option Page
  | a :: b :: l => if b.handle = h then some a else pageBefore h (b :: l)
  | _ => none
def pageAfter (h : Nat) : List Page → Option Page
  | a :: b :: l => if a.handle = h then some b else pageAfter h (b :: l)
  | _ => none

/-- The last own line of a row in a page. -/
def Web.lastOwn (w : Web) (pg : Page) (rowB : Bool) : Option Nat :=
  if w.owns pg.parity rowB (pg.lines - 1) then some (pg.lines - 1) else if 2 ≤ pg.lines then some (pg.lines - 2) else none

/-- interval_ok of R89 for line `n` of a page on a port of the other row: 16.667 µs after the port's previous own line and before its
next. -/
def State.intervalOk (s : State) (g : Geo) (w : Web) (pg : Page) (n : Nat) (p : Nat × PortCfg) : Bool :=
  let row := p.2.rowB
  let prev := if 1 ≤ n then s.lineTime g w pg (n - 1) p.1
    else match pageBefore pg.handle s.bat.pages with
      | some q => (w.lastOwn q row).bind fun m => s.lineTime g w q m p.1
      | none => s.bat.lastOwn.get none p.1
  let next := if n + 1 < pg.lines then s.fireTime g w pg.top (n + 1) p.1
    else match pageAfter pg.handle s.bat.pages with
      | some q => let m := if w.owns q.parity row 0 then 0 else 1
                  if m < q.lines then s.fireTime g w q.top m p.1 else none
      | none => none
  match s.fireTime g w pg.top n p.1 with
  | none => false
  | some t =>
    (match prev with | some a => decide (minInterval256 ≤ t - a) | none => true) &&
      (match next with | some b => decide (minInterval256 ≤ b - t) | none => true)

/-! ## LINE_RELEASE (R54, R59, R21, R22) -/

/-- Some predicted fire time of a line exists, and the web moves forward (R54, R61). -/
def State.predicted (s : State) (g : Geo) (w : Web) (pg : Page) (n : Nat) : Bool :=
  s.forward && g.ports.any fun p => (s.fireTime g w pg.top n p.1).isSome

/-- A line-buffer slot is free (R21, R30). -/
def State.slotFree (s : State) (w : Web) : Bool := (s.takeSlot w).isSome

/-- LEAD_TIME_US in 1/256 ns. -/
def Web.lead256 (w : Web) : Int := (w.leadTimeUs * 256000 : Nat)

/-- The earliest predicted fire time of a line over a list of ports. -/
def State.earliestOf (s : State) (g : Geo) (w : Web) (pg : Page) (n : Nat) (ps : List Nat) : Option Int :=
  let ts := ps.filterMap fun p => s.fireTime g w pg.top n p
  if ts.isEmpty then none else some (minInt ts)

/-- The earliest predicted fire time of a line over all ports. -/
def State.earliest (s : State) (g : Geo) (w : Web) (pg : Page) (n : Nat) : Option Int :=
  s.earliestOf g w pg n (g.ports.map (·.1))

/-- LEAD_TIME_US before a time has come (R54, R22). -/
def State.leadReached (s : State) (w : Web) (t : Option Int) : Bool :=
  match t with | some t => decide (t - w.lead256 ≤ s.now256) | none => false

/-- No frame that carries a time can be sent by the limit of R20 any more. -/
def State.tooLate (s : State) (t : Option Int) : Bool :=
  match t with | some t => decide (t - us10 < s.now256) | none => false

/-- A target lies closer to where the web last stood than the standstill need (R61). -/
def State.nearRestart (s : State) (target : Int) : Bool :=
  match s.bat.restartTo with | some x => decide (target < x) | none => false

/-- The nearest target of a line over a list of ports. -/
def Geo.nearest (g : Geo) (w : Web) (pg : Page) (n : Nat) (ps : List Nat) : Int := minInt (ps.map fun p => g.target w pg.top n p)

/-- A port's schedule has passed the target of a line (R22, R56): the port has fired it or a later one, its fire time is over, or,
where none is predicted, the web is there. -/
def State.portPassed (s : State) (g : Geo) (w : Web) (pg : Page) (n p : Nat) : Bool :=
  (match pg.floor.get none p with | some f => decide (g.target w pg.top n p ≤ f) | none => false) ||
  (match if s.forward then s.fireTime g w pg.top n p else none with
    | some t => decide (t ≤ s.now256)
    | none => decide (g.target w pg.top n p ≤ s.webPos))

/-- Every port's schedule has passed the target of a line. -/
def State.linePassed (s : State) (g : Geo) (w : Web) (pg : Page) (n : Nat) : Bool :=
  g.ports.all fun p => s.portPassed g w pg n p.1

/-- Ring entries of a page whose lines have nothing left to fire and are not passed (R22), among the lines below `n`, of at most
`fuel` looked at. -/
def State.heldBelow (s : State) (g : Geo) (w : Web) (pg : Page) : Nat → Nat → Nat
  | 0, _ | _, 0 => 0
  | fuel + 1, n + 1 =>
    if s.linePassed g w pg n then 0
    else (match s.line? pg.handle n with | some l => if l.mapped && !l.open_ then 1 else 0 | none => 1) + s.heldBelow g w pg fuel n

/-- The ring has a free entry (R22): chunks are reserved for it, and lines in work and entries held do not fill it. -/
def State.ringFree (s : State) (g : Geo) (w : Web) : Bool :=
  decide (0 < s.geo.ringChunks) && decide ((s.bat.lines.filter fun l => !l.mapped || l.open_).length +
    (s.bat.pages.map fun pg => s.heldBelow g w pg (g.ringLines w) pg.nextLine).sum < g.ringLines w)

/-- The line a page releases next is line `n`, and no earlier page has one. -/
def State.nextFor (s : State) (pg : Page) (n : Nat) : Bool :=
  pg.nextLine == n && decide (n < pg.lines) &&
    (s.bat.pages.takeWhile fun q => q.handle != pg.handle).all fun q => decide (q.lines ≤ q.nextLine)

/-- The segments of a line still under the treatment of a decode error (spec/05 R170). -/
def Page.blankedAt (pg : Page) (segments n : Nat) : List Nat := (List.range segments).filter fun j => decide (n < pg.skipTo.get 0 j)

/-- The nozzles out of use for a line besides those of unusable ports (R87). -/
def State.badNozzles (s : State) (g : Geo) : List (Nat × Nat) :=
  g.ports.flatMap fun p => (s.cal.data.noz.get [] p.1).filterMap fun e => if 2 ≤ e.2.state then some (p.1, e.1) else none

/-- A line at its first release, with what its mapping will look at (R22). `fires` says whether its own ports will get it. -/
def State.newLine (s : State) (g : Geo) (w : Web) (pg : Page) (n : Nat) (fires : Bool) : Line :=
  let segs := g.segments w
  let blank := pg.blankedAt segs n
  { handle := pg.handle, line := n, slot := (s.takeSlot w).getD 0,
    toStart := (List.range segs).filter fun j => !blank.contains j, blanked := blank,
    ivOk := (g.ports.filter fun p => !w.owns pg.parity p.2.rowB n && s.intervalOk g w pg n p).map (·.1),
    unusable := (g.ports.filter fun p => !s.portUsable p.1).map (·.1),
    badNoz := s.badNozzles g,
    rules := [s.fire.ruleS.toNat, s.fire.ruleM.toNat, s.fire.ruleL.toNat, s.fire.reach], late := !fires,
    port := ((g.ports.filter fun p => w.owns pg.parity p.2.rowB n && fires).map fun p =>
      (p.1, ({ st := if s.portRuns p.1 then .waiting else .absent } : PortLine))) }

/-- The marks of withheld heads over a released line (R106–R108). On the chip of a pair that does not supervise, the supervisor's
WITHHELD bit withholds the head (spec/09 R276), and its own reports say only whether the head is cut. -/
def State.markWithheld (h n : Nat) (s : State) : State :=
  s.enabledPorts.foldl (fun t p =>
    if !t.headWithheld p then t
    else if (t.portN p).withheld = .cut then t.markPage h 9 n n
    else t.markPage h 8 n n) s

/-- Writes the mapping of line `n` into the ring (R22, R88, R91): substitution frames appear, the counters move. -/
def State.mapOne (g : Geo) (w : Web) (l : Line) (s : State) : State :=
  if l.late then s.updLine l.handle l.line fun x => { x with mapped := true, cols := [] }
  else
  let par := match s.page? l.handle with | some pg => pg.parity | none => 0
  let m := l.map g w par
  let s := s.updLine l.handle l.line fun x =>
    { x with
      mapped := true, cols := [], levels := m.levels,
      port := (m.levels.filter fun e => !w.owns par (g.port.get {} e.1).rowB l.line && s.portRuns e.1 && e.2.any (· != 0)).foldl
        (fun q e => SMap.set {} q e.1 { st := .waiting, subst := true }) x.port }
  let s := s.updFire fun f => { f with
    substPixels := f.substPixels + BitVec.ofNat 64 m.subst, compPixels := f.compPixels + BitVec.ofNat 64 m.comp,
    unhidden := f.unhidden + BitVec.ofNat 64 m.unhidden }
  if m.unhidden = 0 then s else (s.markPage l.handle 10 l.line l.line).raise .fire 5

/-- Maps every line whose decode is complete, in order of release. -/
def State.mapReady (s : State) : State :=
  match s.bar? with
  | none => s
  | some (g, w) =>
    ((s.bat.lines.filter fun l => !l.mapped && l.toStart.isEmpty && l.running.isEmpty).foldl (fun t l => t.mapOne g w l) s).pruneLines

/-- Frees the entries of lines with nothing left to fire whose targets every port's schedule has passed (R22). -/
def State.dropPassed (g : Geo) (w : Web) (s : State) : State :=
  s.dropLines fun l => l.mapped && !l.open_ && match s.page? l.handle with | some pg => s.linePassed g w pg l.line | none => true

/-- The first release of line `n`: it enters the line buffer and the ring, gap windows of the heads it carries close (R93),
waiting changes come into force (spec/09 R275). -/
def State.releaseNew (g : Geo) (w : Web) (pg : Page) (n : Nat) (fires : Bool) (s : State) : State :=
  let s := ((s.dropPassed g w).updPage pg.handle fun p => { p with nextLine := n + 1, lateNext := false }).applyDue
  let l := s.newLine g w pg n fires
  let s := l.port.foldl (fun t e => t.closeGap e.1) s
  let s := s.updBat fun b => { b with lines := b.lines ++ [l] }
  ((s.markWithheld pg.handle n).mapReady).speedCheck

/-- A line not yet released is late (R55): it is decoded all the same (spec/05 R169) and fires on no port; its decode waits for a
line-buffer slot and a ring entry (R21, R22). -/
def State.lateUnreleased (g : Geo) (w : Web) (pg : Page) (n : Nat) (s : State) : State :=
  let cause := if s.nearRestart (g.nearest w pg n (g.ports.map (·.1))) then 1 else 4
  let s :=
    if s.slotFree w && s.ringFree g w then s.releaseNew g w pg n false
    else s.updPage pg.handle fun q => { q with lateNext := true }
  (s.updPage pg.handle (Page.markLate cause n)).raise .place 5

/-- LATE_CAUSE of a released line that cannot be sent: RESTART, DECODE or LINK (R61, R66, log 54). -/
def State.lateCauseOf (s : State) (l : Line) : Nat :=
  let near : Bool := match s.bar?, s.page? l.handle with
    | some (g, w), some pg =>
      let ps := (l.port.filter fun e => e.2.st.open_ && !e.2.subst).map (·.1)
      !ps.isEmpty && s.nearRestart (g.nearest w pg l.line ps)
    | _, _ => false
  if near then 1 else if !l.mapped then 3 else 2

/-- A released line is late: it fires on no port that has not fired it yet (R55, R146). -/
def State.lateReleased (l : Line) (s : State) : State :=
  let cause := s.lateCauseOf l
  let s := if l.mapped then s else s.updLine l.handle l.line fun x => { x with late := true }
  let s := (l.port.foldl (fun t e => t.ceasePort false l.handle l.line e.1) s).pruneLines
  (s.updPage l.handle (Page.markLate cause l.line)).raise .place 5

/-- A ceased line is released again with the next RELEASE (R59, R131). -/
def State.releaseAgain (h n : Nat) (s : State) : State :=
  (s.updLine h n fun l => { l with port := l.port.map fun e =>
    (e.1, if e.2.st = .ceased then { e.2 with st := .waiting, release := (e.2.release + 1) % 16, resend := false } else e.2) }).speedCheck

/-- Every CEASE of a line was sent 20 µs ago or earlier (R59). -/
def State.ceaseOver (s : State) (l : Line) : Bool :=
  l.port.all fun e => e.2.st != .ceased || match e.2.ceasedAt with | some t => decide (t + us20 ≤ s.now256) | none => false

/-- The release of a line that was ceased (R59, R61). -/
def State.lineAgain (g : Geo) (w : Web) (pg : Page) (l : Line) (s : State) : State :=
  let ps := (l.port.filter fun e => e.2.st == .ceased).map (·.1)
  if ps.isEmpty then s
  else if s.nearRestart (g.nearest w pg l.line ps) then s.lateReleased l
  else if s.ceaseOver l && s.leadReached w (s.earliestOf g w pg l.line ps) then s.releaseAgain l.handle l.line
  else s

/-- The first release of line `n` (R54): LEAD_TIME_US before its earliest fire time, once a slot and a ring entry are free; a line
that is late by then, or lies too near after a stop, fires on no port (R55, R61). -/
def State.lineFirst (g : Geo) (w : Web) (pg : Page) (n : Nat) (s : State) : State :=
  let t := s.earliest g w pg n
  if !(s.leadReached w t && s.slotFree w && s.ringFree g w) then s
  else if pg.lateNext then s.releaseNew g w pg n false
  else if s.tooLate t || s.nearRestart (g.nearest w pg n (g.ports.map (·.1))) then s.lateUnreleased g w pg n
  else s.releaseNew g w pg n true

/-- The rules of a release. -/
def State.lineRelease (h n : Nat) (s : State) : State :=
  match s.bar?, s.page? h with
  | some (g, w), some pg =>
    if !s.predicted g w pg n then s
    else
      match s.line? h n with
      | some l => s.lineAgain g w pg l
      | none => if s.nextFor pg n then s.lineFirst g w pg n else s
  | _, _ => s

/-- LINE_RELEASE: a line is released for decode (R54), or again after its CEASE (R59). -/
def execLineRelease (handle line : Nat) (s : State) : Host.Outcome State Fault Refusal := evt (State.lineRelease handle line) s

/-! ## DECODE_JOB_START, DECODE_JOB_DONE (spec/05 R168–R170) -/

/-- The next job in release order: handle, line, segment; a segment's line waits for its line before. -/
def nextJob : List Nat → List Line → Option (Nat × Nat × Nat)
  | _, [] => none
  | busy, l :: ls =>
    match l.toStart.find? fun j => !busy.contains j with
    | some j => some (l.handle, l.line, j)
    | none => nextJob (busy ++ l.toStart ++ l.running.map (·.1)) ls

/-- The segments in work on lines before each line count as busy for it, those of the line itself too. -/
def State.jobToStart (s : State) : Option (Nat × Nat × Nat) :=
  nextJob (s.bat.lines.flatMap fun l => l.running.map (·.1)) s.bat.lines

/-- A decoder takes its job. -/
def State.startJob (d : Nat) (s : State) : State :=
  if 16 ≤ d || s.health.sdRetired.getLsbD d || (s.slate.jobs.get none d).isSome || s.pixGated then s
  else
    match s.jobToStart with
    | none => s
    | some (h, n, j) =>
      (s.updSlate fun t => { t with jobs := t.jobs.set none d (some (h, n, j)) }).updLine h n fun l =>
        { l with toStart := l.toStart.filter (· != j), running := l.running ++ [(j, d)] }

/-- DECODE_JOB_START: an idle decoder takes the next segment job. -/
def execDecodeJobStart (decoder : Nat) (s : State) : Host.Outcome State Fault Refusal := evt (State.startJob decoder) s

/-- The codec state a segment's line starts from: each page begins at its first KEY block (R169). -/
def State.decState (s : State) (n j : Nat) : CodecSt := if n = 0 then decStart else s.slate.dec.get {} j

/-- The stream of a page's segment. -/
def State.streamOf (s : State) (pg : Page) (j : Nat) : Stream :=
  match s.entry? pg.entry with
  | some e => e.stream.get {} j
  | none => {}

/-- The treatment of a decode error in segment `j` of line `n` (R170). -/
def State.decodeError (code j n : Nat) (pg : Page) (s : State) : State :=
  let bytes := (s.streamOf pg j).data
  let d := enterBlock (s.streamOf pg j).width 2 bytes (s.decState n j)
  let key := nextKey bytes (bytes.length + 1) d.blockEnd
  let skip := match key with | some o => fieldAt bytes (o + 4) 4 | none => pg.lines
  let s := s.updSlate fun t => { t with
    dec := t.dec.set {} j { d with nextLine := skip, offset := (key.map (· + 16)).getD d.blockEnd, blockLeft := 0, needKey := true },
    decodeErrors := t.decodeErrors + 1 }
  let s := s.updPage pg.handle fun p => { (p.mark 13 n (max n (skip - 1))) with skipTo := SMap.set 0 p.skipTo j skip }
  let s := s.updBat fun b => { b with lines := b.lines.map fun l =>
    if l.handle = pg.handle ∧ (l.line = n ∨ (n < l.line ∧ l.line < skip)) then
      { l with toStart := l.toStart.filter (· != j), blanked := if l.blanked.contains j then l.blanked else l.blanked ++ [j] }
    else l }
  s.logEvent 0x0601 0 (code + j * 2 ^ 8 + n * 2 ^ 16)

/-- The end of a job, with a DRAM error of the stream or without (R168, R170): the segment's columns enter the line buffer, and a
complete line is mapped. -/
def State.finishJob (d : Nat) (poison : Bool) (s : State) : State :=
  match s.slate.jobs.get none d with
  | none => s
  | some (h, n, j) =>
    let s := (s.updSlate fun t => { t with jobs := t.jobs.set none d none }).updLine h n fun l =>
      { l with running := l.running.filter fun r => r.2 != d }
    match s.page? h with
    | none => s
    | some pg =>
      let st := s.streamOf pg j
      let s := s.updSlate fun t => { t with decHdr := t.decHdr.set (0, 0) j (st.width, st.tag) }
      match (if poison then .error 21 else decodeNext st.width 2 st.data (s.decState n j)) with
      | .error c => (s.decodeError c j n pg).mapReady
      | .ok (xs, c) =>
        ((s.updSlate fun t => { t with dec := t.dec.set {} j c, linesDecoded := t.linesDecoded + 1 }).updLine h n fun l =>
          { l with cols := SMap.set [] l.cols j xs }).mapReady

/-- DECODE_JOB_DONE: a decoder completes its segment job. -/
def execDecodeJobDone (decoder : Nat) (s : State) : Host.Outcome State Fault Refusal := evt (State.finishJob decoder false) s

/-! ## FRAME_BUILD (spec/01 R22, spec/02 R62, R63, spec/03 R85, R91) -/

/-- A port's part of a line never fires. -/
def State.dropPart (h n p : Nat) (s : State) : State :=
  (s.updPortLine h n p fun x => { x with st := .gone }).pruneLines

/-- A line not fired under an overspeed policy: OVERSPEED over it, and the alert (R63). -/
def State.overspeed (h n : Nat) (s : State) : State := (s.markPage h 2 n n).raise .place 3

/-- The CUT policy ends a page at line `n` (R63): its lines from `n` on cease, earlier ones that were sent still fire. -/
def State.cutPage (h n : Nat) (s : State) : State :=
  match s.page? h with
  | none => s
  | some pg =>
    let next := s.firstUnfired pg
    let unsent := (s.bat.lines.filter fun l => l.handle == h && l.port.any fun e =>
      e.2.st == .waiting || e.2.st == .queued || e.2.st == .ceased).map (·.line)
    let first := unsent.foldl min n
    let s := s.bat.lines.foldl (fun t l => if l.handle = h ∧ n ≤ l.line then t.ceaseLine false l else t) s
    let s := ((s.markPage h 2 first (pg.lines - 1)).markPage h 4 first (pg.lines - 1)).raise .place 3
    let s := if s.boot.twinEn && s.isLead then s.mirrorSend (.pageEvent (pageEvent 2 h pg.entry first)) else s
    match s.page? h with
    | some pg => (s.leavePage next pg).finishHeld
    | none => s

/-- Ends a page from line `n` (spec/09 R273): its lines from `n` on cease under a mark, earlier ones that were sent still fire. -/
def State.endPageFrom (mark h n : Nat) (s : State) : State :=
  match s.page? h with
  | none => s
  | some pg =>
    let next := s.firstUnfired pg
    let s := s.bat.lines.foldl (fun t l => if l.handle = h ∧ n ≤ l.line then t.ceaseLine false l else t) s
    let s := s.markPage h mark (min n (pg.lines - 1)) (pg.lines - 1)
    match s.page? h with
    | some pg => (s.leavePage next pg).finishHeld
    | none => s

/-- A nozzle may fire at a time in a line (R85): 16.667 µs away from its last firing and from every time sent for it in other lines. -/
def State.rateOk (s : State) (h n p i : Nat) (t : Int) : Bool :=
  (match SMap.get none (SMap.get [] s.bat.lastNoz p) i with | some a => decide (minInterval256 ≤ |t - a|) | none => true) &&
    s.bat.lines.all fun l =>
      let x := l.port.get {} p
      (l.handle == h && l.line == n) || !x.st.timed || x.lv.getD i 0 == 0 || decide (minInterval256 ≤ |t - s.timeOf p l|)

/-- The check of R85 over a frame's levels: the levels after it and after compensation within the frame, pixels cleared, and of those
the ones that gained something and nothing. -/
def State.clampFrame (s : State) (g : Geo) (w : Web) (par : Nat) (l : Line) (p : Nat) (t : Int) (lv : List Nat) :
    List Nat × Nat × Nat × Nat :=
  let c := g.port.get {} p
  let bad := lv.zipIdx.filter fun x => x.1 != 0 && !s.rateOk l.handle l.line p x.2 t
  if bad.isEmpty then (lv, 0, 0, 0)
  else
    let cols := List.range g.columns
    let mine : Nat → Option Nat := fun x => match l.place g w par x with | some z => if z.1 = p then some z.2.1 else none | none => none
    let pix := cols.map fun x => match mine x with | some i => lv.getD i 0 | none => 0
    let missing := ((bad.map fun x => (c.col x.2, x.1)).mergeSort fun a b => decide (a.1 ≤ b.1))
    let r := compensateAll l.rules l.line
      (fun x => match mine x with | some i => s.rateOk l.handle l.line p i t | none => false) missing pix
    let gone := missing.map (·.1)
    (lv.zipIdx.map fun x =>
        if gone.contains (c.col x.2) then 0 else if mine (c.col x.2) = some x.2 then r.1.getD (c.col x.2) 0 else x.1,
      bad.length, r.2.1, r.2.2)

/-- Puts a port's frame of a line into its transmit queue with fire time `t` (R22, R85, R132). -/
def State.queueFrame (g : Geo) (w : Web) (par : Nat) (l : Line) (p : Nat) (t : Int) (s : State) : State :=
  let x := l.port.get {} p
  let (lv, cleared, comp, bare) := s.clampFrame g w par l p t (l.levels.get [] p)
  let s := if cleared = 0 then s else
    (s.updFire fun f => { f with
      rateClamps := f.rateClamps + BitVec.ofNat 32 cleared, compPixels := f.compPixels + BitVec.ofNat 64 comp,
      unhidden := f.unhidden + BitVec.ofNat 64 bare }).raise .fire 6
  let s := if bare = 0 then s else (s.markPage l.handle 10 l.line l.line).raise .fire 5
  let thr := (s.portN p).throttle
  (s.updPort p fun q => { q with
    txQ := q.txQ ++ [.fireLine (s.tagOf p l.handle l.line) (fireFrame t thr x.release x.subst lv) t] }).updPortLine l.handle l.line p
    fun y => { y with st := .queued, fire := t, lv := lv, thr := thr, resend := false, stretch := 0 }

/-- Builds a port's frame of a line once its fire time lies no more than LEAD_TIME_US ahead (R22): no line at or behind the port's
last fired target (R62), none that is late (R55) or too near after a stop (R61), own lines under the overspeed policy (R63). -/
def State.frameBuild (p h n : Nat) (s : State) : State :=
  match s.bar?, s.page? h, s.line? h n with
  | some (g, w), some pg, some l =>
    let x := l.port.get {} p
    if !l.mapped || (x.st != .waiting && x.st != .absent) || !s.portRuns p || !s.forward then s
    else if (match pg.floor.get none p with | some f => decide (g.target w pg.top n p ≤ f) | none => false) then s.dropPart h n p
    else
      match s.fireTime g w pg.top n p with
      | none => s
      | some t =>
        let bound := if x.subst then none else (s.prevSent h n p).map (· + minInterval256)
        if !s.leadReached w (some t) then s
        else if s.nearRestart (g.target w pg.top n p) || s.tooLate (some (max t (bound.getD t))) then s.lateReleased l
        else
        match bound with
        | none => s.queueFrame g w pg.parity l p t
        | some b =>
          if b ≤ t then s.queueFrame g w pg.parity l p t
          else if pg.policy = 0 then
            ((s.raise .place 3).queueFrame g w pg.parity l p b).updPortLine h n p fun y => { y with stretch := b - t }
          else if pg.policy = 1 then ((s.overspeed h n).markPage h 3 n n).dropPart h n p
          else s.cutPage h n
  | _, _, _ => s

/-- FRAME_BUILD: a port's FIRE_LINE frame of a mapped line is built from the ring. -/
def execFrameBuild (port handle line : Nat) (s : State) : Host.Outcome State Fault Refusal :=
  evt (State.frameBuild port handle line) s

/-! ## LINE_LATE (R55, R61, R146) -/

/-- The rules of a late line. -/
def State.lineLate (h n : Nat) (s : State) : State :=
  match s.bar?, s.page? h with
  | some (g, w), some pg =>
    match s.line? h n with
    | some l => if l.open_ then s.lateReleased l else s
    | none => if s.nextFor pg n && !pg.lateNext then s.lateUnreleased g w pg n else s
  | _, _ => s

/-- LINE_LATE: a line whose frames could not be sent in time is not fired, and its page is marked LATE. -/
def execLineLate (handle line : Nat) (s : State) : Host.Outcome State Fault Refusal := evt (State.lineLate handle line) s

/-! ## LINE_FIRED (R64, R62, spec/03 R77, R105) -/

/-- What the coverage trace takes of a fired line (R77). -/
def State.traceRec (s : State) (g : Geo) (w : Web) (pg : Page) (n p : Nat) (x : PortLine) : TraceRec :=
  let c := g.port.get {} p
  let weight := fun v => if v = 1 then s.cal.data.levelS else if v = 2 then s.cal.data.levelM else if v = 3 then s.cal.data.levelL else 0
  { handle := pg.handle, line := n, target := w.linePos pg.top n,
    weights := x.lv.zipIdx.foldl (fun m e => if e.1 = 0 then m else SMap.upd 0 m (c.col e.2) (· + weight e.1)) [],
    cols := if w.owns pg.parity c.rowB n then (List.range c.nozzles).map c.col else [],
    throttled := x.thr != 0, port := p }

/-- THROTTLE after one line more fired on the head (R105). -/
def Port.countLine (t : Thermal) (q : Port) : Port :=
  match q.report with
  | none => q
  | some x =>
    if t.tWarn ≤ x then
      if q.warnLines + 1 = 100 then { q with warnLines := 0, coolLines := 0, throttle := min 32 (q.throttle + 1) }
      else { q with warnLines := q.warnLines + 1, coolLines := 0 }
    else if x < t.tWarn - t.hyst then
      if q.coolLines + 1 = 100 then { q with warnLines := 0, coolLines := 0, throttle := q.throttle - 1 }
      else { q with warnLines := 0, coolLines := q.coolLines + 1 }
    else q

/-- The line counts towards THROTTLE; a rise from 0 sets TEMP_WARN. -/
def State.throttleLine (p : Nat) (s : State) : State :=
  let old := (s.portN p).throttle
  let s := s.updPort p (Port.countLine (s.cal.data.thermal.get {} p))
  if old = 0 ∧ (s.portN p).throttle ≠ 0 then s.raise .fire 1 else s

/-- An IMMEDIATE switch is seen from the first line fired after it (spec/07 R216): the columns of the port wait for this line. -/
def State.staleImm (p : Nat) (key : BitVec 28) (s : State) : State :=
  let cs := (s.loop.stale.filter fun e => e.2.imm.contains p).map (·.1)
  s.updLoop fun l => { l with stale := l.stale.updAll {} cs fun _ x => { x with imm := x.imm.filter (· != p), keys := (p, key) :: x.keys } }

/-- The columns of a rung whose expected nozzle was not usable while it fired (spec/06 R201, class COVERED). -/
def Thatch.cover (g : Geo) (w : Web) (pg : Page) (l : Line) (t : Thatch) : Thatch :=
  if t.handle ≠ pg.handle ∨ t.left ∨ l.line < t.firstLine ∨ t.firstLine + t.step * t.rungLines ≤ l.line ∨
      w.rowOf pg.parity l.line ≠ t.rowB then t
  else
    let r := (l.line - t.firstLine) / t.rungLines
    { t with covered := (List.range g.columns).foldl (fun a c =>
        if c % t.step ≠ r ∨ a.contains c then a
        else match (g.servers t.rowB c).head? with
          | some z => if l.usable z then a else c :: a
          | none => c :: a) t.covered }

/-- A line fired on a port: it counts once, and the port's last fired target moves up. -/
def Page.fired (n p : Nat) (target : Int) (q : Page) : Page :=
  { q with
    firedLines := if q.firedLines.contains n then q.firedLines else n :: q.firedLines,
    floor := q.floor.upd none p fun f => match f with | some a => some (max a target) | none => some target }

/-- What a fired line leaves in its page (R62, R64, R66), or in the report of a page that has left (log 68). -/
def State.pageFired (w : Web) (pg : Page) (n p : Nat) (target : Int) (s : State) : State :=
  let h := pg.handle
  let s :=
    if (s.page? h).isSome then s.updPage h (Page.fired n p target)
    else s.updBat fun b => { b with
      left := b.left.map fun q => if q.handle = h then q.fired n p target else q,
      reports := b.reports.upd none h fun r => r.map fun x => { x with linesFired := (pg.fired n p target).firedLines.length } }
  let s := if (pg.vContract : Rat) < |s.webVel| * w.countLenPm / 1000000000 then s.markPage h 6 n n else s
  match pg.reversedAt with
  | some m => (s.markPage h 5 (min m n) (max m n)).updPage h fun q => { q with reversedAt := none }
  | none => s

/-- The scheduled fire time of a sent line passes on a port. -/
def State.lineFired (p h n : Nat) (s : State) : State :=
  match s.line? h n with
  | none => s
  | some l =>
    let x := l.port.get {} p
    if x.st ≠ .sent ∨ s.now256 < x.fire then s
    else
      let key := lineKey h n
      let s := s.updPortLine h n p fun y => { y with st := .fired }
      let s := s.updPort p fun q => { q with
        lastFireT := some x.fire, armKey := if q.armKey = some key then none else q.armKey }
      let s := s.updBat fun b => { b with
        lastOwn := if x.subst then b.lastOwn else b.lastOwn.set none p (some x.fire),
        lastNoz := b.lastNoz.upd [] p fun m => x.lv.zipIdx.foldl (fun m e => if e.1 = 0 then m else SMap.set none m e.2 (some x.fire)) m }
      let s := (s.throttleLine p).staleImm p key
      let s := match s.bar?, s.pageOf? h with
        | some (g, w), some pg =>
          let target := g.target w pg.top n p
          let s := s.updBat fun b => { b with checks := b.checks ++ [(h, n, p, target, x.fire)] }
          let s := s.updFire fun f => { f with trace := f.trace ++ [s.traceRec g w pg n p x] }
          let s := s.updVis fun v => { v with thatch := v.thatch.map (Thatch.cover g w pg l) }
          let s := if 0 < x.stretch ∧ w.pitchCounts / 8 < secOf (x.stretch * 65536) * |s.webVel| then s.markPage h 2 n n else s
          s.pageFired w pg n p target
        | _, _ => s
      s.pruneLines.speedCheck

/-- LINE_FIRED: a sent line counts as fired on its port. -/
def execLineFired (port handle line : Nat) (s : State) : Host.Outcome State Fault Refusal :=
  evt (State.lineFired port handle line) s

/-! ## PLACEMENT_CHECK (R60) -/

/-- The web position at a time in 2^-24 ns between the two edges that bracket it, in sub-counts; edges newest first. -/
def posBetween (t : Int) : List (Int × Int) → Option Rat
  | (p1, t1) :: (p0, t0) :: l =>
    if t0 ≤ t ∧ t ≤ t1 then
      some (((p0 : Rat) + ((p1 - p0 : Int) : Rat) * ((t - t0 : Int) : Rat) / ((max 1 (t1 - t0) : Int) : Rat)) * 65536)
    else posBetween t ((p0, t0) :: l)
  | _ => none

/-- Checks where a fired line landed. -/
def State.placementCheck (p h n : Nat) (s : State) : State :=
  match s.bar?, s.bat.checks.find? fun c => c.1 == h && c.2.1 == n && c.2.2.1 == p with
  | some (g, w), some (_, _, _, target, fire) =>
    match posBetween ((fire + (g.port.get {} p).dropFlightNs * 256) * 65536) s.bat.fireEdges with
    | none => s
    | some x =>
      let s := s.updBat fun b => { b with checks := b.checks.filter fun c => !(c.1 == h && c.2.1 == n && c.2.2.1 == p) }
      if w.pitchCounts * 65536 / 8 < |x - target| then s.markPage h 1 n n else s
  | _, _ => s

/-- PLACEMENT_CHECK: the landing position of a fired line is checked. -/
def execPlacementCheck (port handle line : Nat) (s : State) : Host.Outcome State Fault Refusal :=
  evt (State.placementCheck port handle line) s

/-! ## PAGE_DONE, HANDLE_FREE (R56) -/

/-- Every port's schedule has passed the target of a page's last line. -/
def State.passed (s : State) (pg : Page) : Bool :=
  match s.bar? with
  | some (g, w) =>
    pg.nextLine == pg.lines && (s.bat.lines.all fun l => l.handle != pg.handle || (l.mapped && !l.open_)) && s.linePassed g w pg (pg.lines - 1)
  | none => false

/-- A page leaves the queue when it is done. -/
def State.pageDone (h : Nat) (s : State) : State :=
  match s.page? h with
  | some pg => if s.passed pg then (s.leavePage pg.lines pg).finishHeld else s
  | none => s

/-- PAGE_DONE: a page leaves the Batten queue. -/
def execPageDone (handle : Nat) (s : State) : Host.Outcome State Fault Refusal := evt (State.pageDone handle) s

/-- HANDLE_FREE: the quiet time of a handle ends. -/
def execHandleFree (handle : Nat) (s : State) : Host.Outcome State Fault Refusal :=
  evt (fun s => s.updBat fun b => { b with quiet := b.quiet.filter (· != handle) }) s

/-! ## What a new estimate does to sent lines (R58, R59, R62, R86) -/

/-- The largest change of a fire time that needs no RETIME, in 1/256 ns: pitch / (32 × |v|) (R58). -/
def State.retimeLimit (s : State) (w : Web) : Rat := w.pitchCounts / (32 * |s.est.v|) * (1000000000 * 256)

/-- Sends a RETIME when its time differs from the one last sent and lies at least 3 µs ahead (R58). -/
def State.retime (h n p : Nat) (t : Int) (s : State) : State :=
  match s.line? h n with
  | none => s
  | some l =>
    let x := l.port.get {} p
    if t ≠ s.timeOf p l ∧ us3 ≤ t - s.now256 then
      s.updPort p fun q => { q with
        txQ := (q.txQ.filter fun f => match f with | .retime tag _ _ => tag.setWidth 28 != lineKey h n | _ => true) ++
          [.retime (s.tagOf p h n) t x.release] }
    else s

/-- A substitution frame that a refit would bring too close is ceased; its pixels count as unhidden (R86). -/
def State.ceaseSubst (h n p : Nat) (s : State) : State :=
  match s.line? h n with
  | none => s
  | some l =>
    let s := s.ceasePort false h n p
    match s.line? h n with
    | none => s
    | some l' =>
      if (l'.port.get {} p).st = .sent then s
      else
        let lost := ((l.port.get {} p).lv.filter (· != 0)).length
        ((s.updFire fun f => { f with unhidden := f.unhidden + BitVec.ofNat 64 lost }).markPage h 10 n n).raise .fire 5

/-- A port's time of its next own line after a line, if sent. -/
def State.nextSent (s : State) (h n p : Nat) : Option Int :=
  let after := (s.bat.lines.dropWhile fun l => !(l.handle == h && l.line == n)).drop 1
  (after.find? fun l => let x := l.port.get {} p; x.st.timed && !x.subst).map fun l => s.timeOf p l

/-- The time a sent line wants after a refit (R58): the new prediction, compared exactly with the time last sent, where it differs
enough and lies at least 3 µs ahead, else the time last sent. -/
def State.wanted (s : State) (w : Web) (sent : Int) (t : Surd) : Int :=
  if t.farFrom sent (s.retimeLimit w) && !(t.scale (-1) 0).above (-((s.now256 + us3 : Int) : Rat)) then t.round else sent

/-- A sent own line that wants time `t'`, predicted `t`, against the interval to the own line before it, which ends at `b` (R86). -/
def State.refitOwn (w : Web) (pg : Page) (l : Line) (p : Nat) (t t' : Int) (b : Option Int) (s : State) : State :=
  let h := l.handle
  let n := l.line
  match b.filter fun b => decide (t' < b) with
  | none =>
    let s := s.retime h n p t'
    if |((t' - t : Int) : Rat)| ≤ s.retimeLimit w then s.updPortLine h n p fun y => { y with stretch := 0 } else s
  | some b =>
    if pg.policy = 0 then
      let s := if b = s.timeOf p l then s else s.raise .place 3
      (s.retime h n p b).updPortLine h n p fun y => { y with stretch := b - t }
    else if s.timeOf p l - s.now256 < us3 then s
    else if pg.policy = 1 then ((s.overspeed h n).markPage h 3 n n).ceasePort false h n p
    else s.cutPage h n

/-- A sent substitution frame that wants time `t'`: where it or an own line of its port moves and the two come too close, it ceases. -/
def State.refitSubst (l : Line) (p : Nat) (t' : Int) (moved : Bool) (s : State) : State :=
  let near := (match s.prevSent l.handle l.line p with | some a => decide (t' < a + minInterval256) | none => false) ||
    (match s.nextSent l.handle l.line p with | some b => decide (b < t' + minInterval256) | none => false)
  if near && (moved || t' != s.timeOf p l) then s.ceaseSubst l.handle l.line p else s.retime l.handle l.line p t'

/-- One sent line on one port against the new estimate; `moved` are the ports on which an own line has moved. -/
def State.refitPart (g : Geo) (w : Web) (moved : List Nat) (h n p : Nat) (s : State) : State :=
  match s.pageOf? h, s.line? h n with
  | some pg, some l =>
    let x := l.port.get {} p
    if x.st ≠ .sent then s
    else
      match s.fireMoment g w pg.top n p with
      | none => s.ceasePort true h n p
      | some t =>
        let t' := s.wanted w (s.timeOf p l) t
        if x.subst then s.refitSubst l p t' (moved.contains p)
        else s.refitOwn w pg l p t.round t' ((s.prevSent h n p).map (· + minInterval256))
  | _, _ => s

/-- The sent parts of lines, those of own lines or those of substitution frames. -/
def State.sentParts (subst : Bool) (s : State) : List (Nat × Nat × Nat) :=
  s.bat.lines.flatMap fun l => l.port.filterMap fun e =>
    if e.2.st = .sent ∧ e.2.subst = subst then some (l.handle, l.line, e.1) else none

/-- The times sent for the own lines of the ports. -/
def State.ownTimes (s : State) : List (Nat × Nat × Nat × Int) :=
  s.bat.lines.flatMap fun l => l.port.filterMap fun e =>
    if e.2.st.timed ∧ !e.2.subst then some (e.1, l.handle, l.line, s.timeOf e.1 l) else none

/-- Every sent, unfired line against a new estimate, own lines before substitution frames (R58, R59, R86). -/
def State.refitLines (s : State) : State :=
  match s.bar? with
  | none => s
  | some (g, w) =>
    let t := (s.sentParts false).foldl (fun t x => t.refitPart g w [] x.1 x.2.1 x.2.2) s
    let old := s.ownTimes
    let moved := (t.ownTimes.filter fun x => !old.contains x).map (·.1)
    ((t.sentParts true).foldl (fun t x => t.refitPart g w moved x.1 x.2.1 x.2.2) t).pruneLines

/-- The estimator leaves MOVING forward (R59): every sent line ceases, to be released again. -/
def State.ceaseAll (s : State) : State := s.bat.lines.foldl (fun t l => t.ceaseLine true l) s

/-- The web reverses during pages (R62): each remembers its first unfired line. -/
def State.noteReverse (s : State) : State :=
  s.updBat fun b => { b with restartTo := none, pages := b.pages.map fun p =>
    if (p.firedLines.isEmpty && !(b.lines.any fun l => l.handle == p.handle)) || p.reversedAt.isSome then p
    else { p with reversedAt := some (s.firstUnfired p) } }

/-- The web stands with pages queued: when it moves again, targets nearer than the standstill need to where it halted are late
with cause RESTART (R61). -/
def State.noteRestart (s : State) : State :=
  match s.bar? with
  | some (g, w) =>
    if s.bat.pages.isEmpty then s
    else s.updBat fun b => { b with restartTo := some ((s.encN 0).count * 65536 + (g.needStill w * 65536).ceil) }
  | none => s

/-- What the print path does at an ENC_0 edge of time `t`, given the estimator's state and the direction before it: the edge is kept for R60, a turn and
a stop cease the lines sent, a refit retimes them. -/
def State.webEdge (t : Int) (was : MoveSt) (wasReverse : Bool) (s : State) : State :=
  let e := s.encN 0
  let s := s.updBat fun b => { b with
    fireEdges := (e.count, t) :: (if b.lines.isEmpty && b.checks.isEmpty then b.fireEdges.take 1 else b.fireEdges) }
  let s := if e.reverse && !s.bat.pages.isEmpty && !wasReverse then s.noteReverse else s
  let s := if was == .moving && s.est.st != .moving && !s.bat.pages.isEmpty then s.raise .place 6 else s
  let s := if s.forward then s.refitLines else s.ceaseAll
  s.speedCheck

end Sys2Proof.Machine
end

