-- ==== Sys2Proof/Machine/EncEvents.lean ====
section
/-! DEFINITION. The encoder inputs' events (spec/08 R232–R241): quadrature, toothed and SSI counting, the accepted direction, speed and
state, and what an edge of ENC_0 does to the estimator, the gears and the print path. -/

namespace Sys2Proof.Machine

/-! ## One edge (R239, R240) -/

/-- The accepted direction and its extreme count after the count moved to `c` (R239): (reverse, E). -/
def Enc.direction (c : Int) (e : Enc) : Bool × Int :=
  if e.reverse then
    if c < e.extreme then (true, c) else if 2 ≤ c - e.extreme then (false, c) else (true, e.extreme)
  else
    if e.extreme < c then (false, c) else if 2 ≤ e.extreme - c then (true, c) else (false, e.extreme)

/-- The speed at an edge of `δ` counts at time `t` (R240), none where it is not valid. -/
def Enc.speedAt (t : Int) (δ : Int) (reverse : Bool) (e : Enc) : Option Rat :=
  match e.lastEdge with
  | none => none
  | some t0 =>
    let up := decide (0 < δ)
    if up = e.lastUp ∧ up = !reverse ∧ 0 < t - t0 ∧ t - t0 < (e.standstillUs * 1000 * 16777216 : Nat) then some (δ / secOf (t - t0))
    else none

/-- An edge of `δ` counts at time `t`. -/
def Enc.edge (t δ : Int) (e : Enc) : Enc :=
  let c := e.count + δ
  let d := e.direction c
  let v := e.speedAt t δ d.1
  { e with
    count := c, reverse := d.1, extreme := d.2, speed := v.getD 0, st := if v.isSome then .moving else .acquiring,
    lastEdge := some t, lastSec := LocalTime.ofUnits t.toNat, lastUp := decide (0 < δ) }

/-! ## What an edge sets going -/

/-- The estimator at an edge of ENC_0 (R241, spec/02 R45). -/
def Est.onEdge (w : Option Web) (e : Enc) (t : Int) (x : Est) : Est :=
  let plain := fun (v : Rat) (st : MoveSt) (win : List (Int × Int)) =>
    ({ st := st, window := win, p := e.count, v := v, a := 0, tN := t, quad := false } : Est)
  if e.st ≠ .moving then plain 0 .acquiring []
  else
    let y := Est.join (w.getD Web.estDefault) e.count t { x with st := .moving }
    if y.window.length < 2 then plain e.speed .moving y.window else y

/-- Input `n` has counted `δ` at time `t`: compares, gears, estimator and print path follow. -/
def State.encCounted (n : Nat) (t δ : Int) (s : State) : State :=
  let prev := (s.encN n).count
  let s1 := s.updEnc n (Enc.edge t δ)
  let now := (s1.encN n).count
  let s1 := s1.srcMoved n prev now
  if n ≠ 0 then s1
  else
    let s2 := s1.gearMoved ((s.encN 0).lastEdge.map fun t0 => secOf (t - t0)) prev now
    (s2.updEst fun x => x.onEdge s.web? (s2.encN 0) t).webEdge t s.est.st (s.encN 0).reverse

/-- ENC_ERR of an input (Table 08-2). -/
def State.encErr (n : Nat) (s : State) : State := s.raise .mot (16 + n)

/-! ## Quadrature (R234) -/

/-- A transition of a quadrature input: both lines at once are illegal. -/
def State.quadEdge (n : Nat) (t : Int) (a b : Bool) (s : State) : State :=
  let e := s.encN n
  let s := s.updEnc n fun e => { e with lineA := a, lineB := b }
  if a ≠ e.lineA ∧ b ≠ e.lineB then (s.updEnc n fun e => { e with errIllegal := e.errIllegal + 1 }).encErr n
  else if a = e.lineA ∧ b = e.lineB then s
  else
    let lead := if a ≠ e.lineA then a != b else b == a
    s.encCounted n t (if lead != e.invert then 1 else -1)

/-! ## Toothed wheels (R235, R236) -/

/-- The direction of a toothed input's count. -/
def Enc.toothUp (e : Enc) : Bool := e.tooth.dirSource == 0 || e.lineB != e.invert

/-- What a rising edge at interval `Δ` is: 0 a tooth, 1 a missing-tooth reference, 2 the extra tooth (R235). -/
def Enc.refAt (t : Int) (e : Enc) : Nat :=
  match e.lastRise, e.ivNow, e.ivPrev with
  | some r, some iv, some _ =>
    if e.tooth.refKind = 1 ∧ iv * e.tooth.gapHi < (t - r) * 256 then 1
    else if e.tooth.refKind = 2 ∧ (t - r) * 256 < iv * e.tooth.gapLo then 2
    else 0
  | _, _, _ => 0

/-- A reference: REF_COUNT, REVS, and the check of TEETH pitches since the last (R235, R236). -/
def State.encRef (n : Nat) (s : State) : State :=
  let e := s.encN n
  let bad := e.sinceRef && e.pitches != e.tooth.teeth
  let s := s.updEnc n fun e => { e with
    revs := e.revs + 1, refSeen := true, refCount := e.count, pitches := 0, sinceRef := true,
    errRef := if bad then e.errRef + 1 else e.errRef }
  if bad then s.encErr n else s

/-- A counted rising edge takes over as the last one. -/
def Enc.rise (t : Int) (pitches : Nat) (e : Enc) : Enc :=
  { e with
    ivPrev := e.ivNow, ivNow := e.lastRise.map fun r => t - r, lastRise := some t, pitches := e.pitches + pitches }

/-- A turn starts the intervals anew. -/
def Enc.turned (up : Bool) (e : Enc) : Enc :=
  if e.lastUp = up then e else { e with lastRise := none, ivNow := none, ivPrev := none }

/-- An edge of line A of a toothed input. -/
def State.toothEdge (n : Nat) (t : Int) (level : Bool) (s : State) : State :=
  let up := (s.encN n).toothUp
  let s := s.updEnc n (Enc.turned up)
  let e := s.encN n
  let sign : Int := if up then 1 else -1
  if level then
    match e.refAt t with
    | 2 => (s.encRef n).updEnc n fun e => { e with skipFall := true }
    | 1 => ((s.encCounted n t (sign * (e.tooth.edges + 1 : Nat))).updEnc n (Enc.rise t 2)).encRef n
    | _ => (s.encCounted n t sign).updEnc n (Enc.rise t 1)
  else if e.skipFall then s.updEnc n fun e => { e with skipFall := false }
  else if e.tooth.edges = 2 then s.encCounted n t sign
  else s

/-! ## ENCODER_EDGE -/

/-- The lines after an event. -/
def LineEdge.lines (e : Enc) : LineEdge → Bool × Bool
  | .a l => (l, e.lineB)
  | .b l => (e.lineA, l)
  | .both x y => (x, y)

/-- The local time of the first of `held` samples, 2.5 ns apart, of which the last is now. -/
def State.firstSample (s : State) (held : Nat) : Int := s.now - ((held - 1) * s.time.inc.toNat : Nat)

/-- A change of an input's lines at local time `t`, the filter passed. -/
def State.lineChange (n : Nat) (t : Int) (x : LineEdge) (s : State) : State :=
  let e := s.encN n
  let l := LineEdge.lines e x
  match e.typ with
  | .quad => s.quadEdge n t l.1 l.2
  | .toothed =>
    let s := s.updEnc n fun e => { e with lineA := l.1, lineB := l.2 }
    if l.1 = e.lineA then s else s.toothEdge n t l.1
  | .ssi => s.updEnc n fun e => { e with lineA := l.1, lineB := l.2 }

/-- New levels of an input that have held for `held` samples (R233): a change once they have held for FILTER_TICKS + 1, with the time of the
first of them; a shorter pulse is ignored. -/
def State.encoderEdge (n : Nat) (x : LineEdge) (held : Nat) (s : State) : State :=
  if 3 < n ∨ held < (s.encN n).filterTicks + 1 then s else s.lineChange n (s.firstSample held) x

/-- ENCODER_EDGE: levels on an encoder input. -/
def execEncoderEdge (enc : Nat) (e : HeldEdge) (s : State) : Host.Outcome State Fault Refusal := evt (State.encoderEdge enc e.edge e.held) s

/-! ## ENC_STANDSTILL (R240, R241) -/

/-- No edge for STANDSTILL_US. -/
def State.encStill (n : Nat) (s : State) : State :=
  if 3 < n then s
  else
    let s1 := s.updEnc n fun e => { e with
      st := .standstill, speed := 0, lastEdge := none, lastRise := none, ivNow := none, ivPrev := none }
    if n ≠ 0 then s1
    else
      let s1 := s1.updEst fun _ => { st := .standstill, p := (s1.encN 0).count, tN := s1.now }
      let s1 := if s.est.st == .moving && !s.bat.pages.isEmpty then s1.raise .place 6 else s1
      s1.noteRestart.ceaseAll.speedCheck

/-- ENC_STANDSTILL: no edge for STANDSTILL_US. -/
def execEncStandstill (enc : Nat) (s : State) : Host.Outcome State Fault Refusal := evt (State.encStill enc) s

/-! ## SSI (R237, R238) -/

/-- The CRC of bits, most significant first, with a generator of `w` bits whose top bit is implicit. -/
def ssiCrc (w poly : Nat) (bits : List Bool) : Nat :=
  bits.foldl (fun c b =>
    let top := (c.testBit (w - 1)) != b
    (if top then (2 * c) ^^^ poly else 2 * c) % 2 ^ w) 0

/-- The low `n` bits, most significant first. -/
def bitsMsb (n v : Nat) : List Bool := (List.range n).reverse.map v.testBit

/-- Gray to binary (R237). -/
def grayToBin (n v : Nat) : Nat := (List.range n).foldl (fun a i => a ^^^ (v >>> i)) 0

/-- The signed difference of two position words modulo 2^POS_BITS. -/
def Ssi.diff (x : Ssi) (a b : Nat) : Int := sext x.posBits (2 ^ x.posBits + a - b)

/-- A frame is bad by its own bits, or by its step from the previous good position (R238). -/
def Ssi.badFrame (x : Ssi) (prev : Option Nat) (raw : Nat) (errBit : Bool) (crc : Byte) (pos : Nat) : Bool :=
  let bits := bitsMsb x.posBits raw ++ (if x.errMode = 0 then [] else [errBit])
  (x.crcBits != 0 && ssiCrc x.crcBits (x.crcPoly % 2 ^ x.crcBits) bits != crc.toNat % 2 ^ x.crcBits) ||
    (x.errMode == 1 && !errBit) || (x.errMode == 2 && errBit) ||
    (match prev with | some p => decide (x.maxStep < (x.diff pos p).natAbs) | none => false)

/-- A bad frame: it changes nothing, counts BAD_FRAME, and BAD_LIMIT of them in a row are a FAULT. -/
def State.ssiBad (n : Nat) (s : State) : State :=
  let s := (s.updEnc n fun e => { e with errBad := e.errBad + 1, badRun := e.badRun + 1, frameAt := none }).encErr n
  let e := s.encN n
  if e.ssi.badLimit ≤ e.badRun ∧ !e.fault then s.updEnc n fun e => { e with fault := true, errFaults := e.errFaults + 1 } else s

/-- A good frame at position `pos` with timestamp `t`. -/
def State.ssiGood (n pos : Nat) (t : Int) (s : State) : State :=
  let e := s.encN n
  let s := s.updEnc n fun e => { e with prevWord := some pos, badRun := 0, fault := false, frameAt := none }
  match e.prevWord with
  | none => s.updEnc n fun e => { e with count := pos + e.ssiOffset, extreme := pos + e.ssiOffset }
  | some p => if e.ssi.diff pos p = 0 then s else s.encCounted n t (e.ssi.diff pos p)

/-- An input of type SSI. -/
def State.isSsi (s : State) (n : Nat) : Bool := decide (n ≤ 3) && (s.encN n).typ == .ssi

/-- SSI_FRAME_START: a frame read starts; with DATA low it waits. -/
def execSsiFrameStart (enc : Nat) (dataHigh : Bool) (s : State) : Host.Outcome State Fault Refusal :=
  evt (fun s => if s.isSsi enc then s.updEnc enc fun e => { e with frameAt := if dataHigh then some s.now else none } else s) s

/-- A frame completes. -/
def State.ssiDone (n word : Nat) (errBit : Bool) (crc : Byte) (s : State) : State :=
  let e := s.encN n
  match (if s.isSsi n then e.frameAt else none) with
  | none => s
  | some t0 =>
    let raw := word % 2 ^ e.ssi.posBits
    let pos := if e.ssi.gray then grayToBin e.ssi.posBits raw else raw
    if e.ssi.badFrame e.prevWord raw errBit crc pos then s.ssiBad n else s.ssiGood n pos (t0 + (e.ssi.latchNs * 16777216 : Nat))

/-- SSI_FRAME_DONE: a frame completes and is judged. -/
def execSsiFrameDone (enc : Nat) (word : Nat) (errBit : Bool) (crc : Byte) (s : State) : Host.Outcome State Fault Refusal :=
  evt (State.ssiDone enc word errBit crc) s

/-- SSI_TIMEOUT: DATA does not return high; the frame is bad. -/
def execSsiTimeout (enc : Nat) (s : State) : Host.Outcome State Fault Refusal :=
  evt (fun s => if s.isSsi enc then s.ssiBad enc else s) s

end Sys2Proof.Machine
end

