-- ==== Sys2Proof/Machine/Frames.lean ====
section
/-! DEFINITION. Ridge Link frames as bytes and symbols (spec/04 R115–R118, R127–R132, R138, R139): headers, payloads, CRC, what a
transmitter puts on its lane, how long it takes, and what a receiver finds wrong with a frame. The 8b/10b code of a symbol is left out
(log 97). -/

namespace Sys2Proof.Machine

/-! ## Times -/

/-- A time in 1/256 ns as Ridge time. -/
def ridgeTime (t : Int) : BitVec 48 := BitVec.ofInt 48 t

/-- The time of `n` symbols at 2.4 Gbaud in 1/256 ns, rounded up (R114). -/
def symTime (n : Nat) : Int := ceilDiv (n * 3200) 3

/-! ## Symbols (Table 04-2) -/

def symCom : Sym := .k 0xBC
def symSkp : Sym := .k 0x1C
def symTe : Sym := .k 0x3C
def symSof : Sym := .k 0xFB
def symEof : Sym := .k 0xFD

/-- D10.2. -/
def symD102 : Sym := .d 0x4A

/-- A training burst (R118): 31 TS1 and one TS_END, 128 symbols. -/
def trainingBurst : List Sym :=
  (List.replicate 31 [symCom, symD102, symD102, symD102]).flatten ++ [symCom, symTe, symTe, symTe]

/-- The SKIP ordered set (R117). -/
def skipSet : List Sym := [symCom, symSkp]

/-! ## A frame (R127, R128) -/

/-- The most LEN may be. -/
def maxLen : Nat := 2064

/-- The header (Table 04-5). -/
def frameHeader (type : Nat) (resp retry : Bool) (tag : BitVec 32) (payload : List Byte) : List Byte :=
  le 1 type ++ le 1 (bit resp 0 + bit retry 1) ++ le 2 payload.length ++ le 4 tag.toNat

/-- Header, payload and CRC. -/
def frameBytes (type : Nat) (resp retry : Bool) (tag : BitVec 32) (payload : List Byte) : List Byte :=
  let b := frameHeader type resp retry tag payload ++ payload
  b ++ le 4 (crc32 b).toNat

/-- The bytes of a frame between SOF and EOF. -/
def framed (bs : List Byte) : List Sym := symSof :: bs.map Sym.d ++ [symEof]

/-- A Ridge time in a field of 6 bytes with 2 reserved ones. -/
def time8 (t : BitVec 48) : List Byte := le 6 t.toNat ++ zeros 2

/-- The payload of a FIRE_LINE frame (Table 04-7). -/
def fireLinePayload (f : FireLine) : List Byte :=
  le 6 f.fireTime.toNat ++ [f.throttle, f.ctl] ++ le 2 f.firstNozzle.toNat ++ le 2 f.count.toNat ++ f.pixels

/-- The bytes of a downstream frame of head port `p` (Tables 04-5 to 04-9, 04-12, R138); the ordered sets have none. -/
def DownFrame.bytes (p : Nat) : DownFrame → List Byte
  | .fireLine tag f _ => frameBytes 0x01 false false tag (fireLinePayload f)
  | .retime tag t rel => frameBytes 0x02 false false tag (le 6 (ridgeTime t).toNat ++ le 1 rel ++ zeros 1)
  | .cease tag rel => frameBytes 0x03 false false tag (le 1 rel ++ zeros 3)
  | .ctrlWr seq a d retry => frameBytes 0x04 false retry seq (le 4 a.toNat ++ d)
  | .ctrlRd seq a n retry => frameBytes 0x05 false retry seq (le 4 a.toNat ++ le 2 n.toNat ++ zeros 2)
  | .measure seq ns => frameBytes 0x07 false false seq (le 2 ns.length ++ zeros 2 ++ ns.flatMap (le 2))
  | .time seq t => frameBytes 0x08 false false seq (time8 t)
  | .echo seq t => frameBytes 0x09 false false seq (time8 t)
  | .hello e => frameBytes 0x0A false false 0 (le 1 1 ++ le 1 e.toNat ++ le 1 p ++ zeros 13)
  | .trainBurst | .skip => []

/-- What a downstream frame or ordered set puts on the lane. -/
def DownFrame.symbols (p : Nat) (f : DownFrame) : List Sym :=
  match f with
  | .trainBurst => trainingBurst
  | .skip => skipSet
  | f => framed (f.bytes p)

/-- The payload of a STATUS frame (Table 04-11). -/
def statusPayload (f : StatusFrame) : List Byte :=
  le 2 f.temp.toNat ++ [f.flags, f.eye] ++ le 4 f.lastFired.toNat ++ le 4 f.firedCount.toNat ++
    [f.dupDiscard, f.staleEpoch, f.retimeLate, f.retimeAfterFire, f.retimeUnknown, f.ceaseLate, f.rateDrop, f.lateFrame, f.crcErr,
      f.codeErr, f.divergePix, f.divergeTime].flatMap fun c => le 2 c.toNat

/-- A Ridge time in a field of 8 bytes. -/
def time64 (t : BitVec 48) : List Byte := le 8 t.toNat

/-- The bytes of an upstream frame (Tables 04-5, 04-6, 04-9, 04-11, 04-12, R138). -/
def UpFrame.bytes : UpFrame → List Byte
  | .status seq f => frameBytes 0x06 false false seq (statusPayload f)
  | .hello f => frameBytes 0x0A false false 0 ([f.proto, f.flags] ++ le 2 f.nozzles.toNat ++ le 8 f.serial.toNat ++ [f.epochEcho] ++ zeros 3)
  | .ctrlWrResp seq r => frameBytes 0x04 true false seq (le 4 r.toNat)
  | .ctrlRdResp seq r d => frameBytes 0x05 true false seq (le 4 r.toNat ++ d)
  | .measureResp seq st rs =>
    frameBytes 0x07 true false seq ([st, 0] ++ le 2 rs.length ++ rs.flatMap fun r => le 4 r.a.toNat ++ le 4 r.b.toNat)
  | .echoResp seq t1 t2 t3 => frameBytes 0x09 true false seq (time64 t1 ++ time64 t2 ++ time64 t3)

/-- A transmission: a lane in electrical idle leaves it with a training burst (R118). -/
def onLane (idle : Bool) (x : List Sym) : List Sym := (if idle then trainingBurst else []) ++ x

/-! ## What a receiver checks (R129, R130) -/

/-- Whether a frame has a TYPE of Table 04-6 in its direction and the LEN that goes with it; `b` is header and payload. -/
def frameFits (up : Bool) (b : List Byte) : Bool :=
  let type := fieldAt b 0 1
  let resp := hasBit (fieldAt b 1 1) 0
  let len := fieldAt b 2 2
  decide (len ≤ maxLen) && len + 8 == b.length &&
    (if up then
      if resp then
        (type == 0x04 && len == 4) || (type == 0x05 && (if fieldAt b 8 4 = 0 then decide (8 ≤ len ∧ len ≤ 1028) else len == 4)) ||
          (type == 0x07 && len == 4 + 8 * fieldAt b 10 2) || (type == 0x09 && len == 24)
      else (type == 0x06 && len == 36) || (type == 0x0A && len == 16)
    else
      !resp &&
        ((type == 0x01 && len == 12 + (if hasBit (fieldAt b 15 1) 5 then 2 * fieldAt b 18 2 else (fieldAt b 18 2 + 3) / 4)) ||
          (type == 0x02 && len == 8) || (type == 0x03 && len == 4) || (type == 0x04 && decide (8 ≤ len ∧ len ≤ 1028)) ||
          (type == 0x05 && len == 8) || (type == 0x07 && len == 4 + 2 * fieldAt b 8 2) || (type == 0x08 && len == 8) ||
          (type == 0x09 && len == 8) || (type == 0x0A && len == 16)))

/-- What a receiver finds wrong with a frame, in the order R130 lists the counters (log 104); none for a good frame. -/
def RawFrame.fault (up : Bool) (f : RawFrame) : Option FrameFault :=
  let b := f.bytes.take (f.bytes.length - 4)
  if f.eofBad then some .eofBad
  else if f.codeErr then some .codeErr
  else if 12 ≤ f.bytes.length ∧ fieldAt f.bytes (f.bytes.length - 4) 4 ≠ (crc32 b).toNat then some .crcErr
  else if 12 ≤ f.bytes.length ∧ frameFits up b then none
  else some .frameErr

end Sys2Proof.Machine
end

