-- ==== Sys2Proof/Machine/Ridge.lean ====
section
/-! DEFINITION. The Ridge Link ports' events (spec/04 R117–R123, R133, R134, R139, R140, R147–R151) with head temperature (spec/03
R105–R108): transmission, link states, eye scores, discovery, control frames, echo, STATUS. -/

namespace Sys2Proof.Machine

/-- A head port's number. -/
def isPort (p : Nat) : Bool := decide (p < 48)

/-! ## RIDGE_FRAME_TX (R133, R118) -/

/-- A frame came up the lane: its receiver has left electrical idle (R118). -/
def State.heard (p : Nat) (s : State) : State := s.updPort p fun q => if q.st.framed then { q with rxIdle := false } else q

/-- The class of a waiting frame, the lowest first (R129, R133). -/
def DownFrame.rank : DownFrame → Nat
  | .cease _ _ => 0
  | .retime _ _ _ => 1
  | .time _ _ => 2
  | .fireLine _ _ _ => 3
  | .ctrlWr _ _ _ _ | .ctrlRd _ _ _ _ | .measure _ _ => 4
  | .echo _ _ => 5
  | .hello _ => 6
  | .trainBurst | .skip => 7

/-- What orders frames of one class: FIRE_LINE by fire time. -/
def DownFrame.due : DownFrame → Int
  | .fireLine _ _ t => t
  | _ => 0

/-- The waiting frame that goes first; frames of equal standing in the order they came. -/
def firstFrame : List DownFrame → Option DownFrame
  | [] => none
  | f :: l =>
    match firstFrame l with
    | some g => if g.rank < f.rank ∨ (g.rank = f.rank ∧ g.due < f.due) then some g else some f
    | none => some f

/-- Lines sent on a port and not yet fired. -/
def State.linesSent (s : State) (p : Nat) : Nat := (s.bat.lines.filter fun l => (l.port.get {} p).st == .sent).length

/-- The median of a list of times; of an even count, the middle of the two middle values, rounded down (log 33). -/
def medianInt (l : List Int) : Int :=
  let m := l.mergeSort fun a b => decide (a ≤ b)
  if m.isEmpty then 0 else (m.getD ((m.length - 1) / 2) 0 + m.getD (m.length / 2) 0) / 2

/-- d_down of a port in 1/256 ns (R148). -/
def State.delayDown (s : State) (p : Nat) : Int := medianInt (s.portN p).dVals + (s.portN p).asym * 256 / 2000

/-- A changed ASYM reaches the head by at most 1 ns with each TIME frame (spec/10 R297). -/
def State.stepAsym (p : Nat) (s : State) : State :=
  s.updPort p fun q => { q with asym := q.asym + max (-1000) (min 1000 (s.time.asymRidge.get 0 p - q.asym)) }

/-- The lane carries a frame or ordered set; from electrical idle a training burst goes first (R118). -/
def Port.emit (p : Nat) (f : DownFrame) (q : Port) : Port :=
  { q with lastTx := some f, lane := onLane q.idle (f.symbols p), idle := false }

/-- The waiting frame `f` goes on the lane as `out`. -/
def State.putOnLane (p : Nat) (f out : DownFrame) (s : State) : State :=
  s.updPort p fun q => ({ q with txQ := q.txQ.erase f }).emit p out

/-- A frame that starts now ends at least 10 µs before the fire time it carries (spec/01 R20). -/
def State.inTime (s : State) (p : Nat) (f : DownFrame) (t : Int) : Bool :=
  decide (s.now256 + symTime (onLane (s.portN p).idle (f.symbols p)).length + us10 ≤ t)

/-- A FIRE_LINE starts; one that would end within 10 µs of its fire time is not sent, and its line is late (spec/01 R20, spec/02 R55). -/
def State.sendLine (p : Nat) (f : DownFrame) (tag : BitVec 32) (t : Int) (s : State) : State :=
  let k := tag.toNat % 2 ^ 28
  match s.line? (k / 2 ^ 20) (k % 2 ^ 20) with
  | none => s.updPort p fun q => { q with txQ := q.txQ.erase f }
  | some l =>
    if s.inTime p f t then
      ((s.putOnLane p f f).updPortLine (k / 2 ^ 20) (k % 2 ^ 20) p fun x => { x with st := .sent }).updPort p fun q =>
        { q with awaiting := q.awaiting ++ [(tag.setWidth 28, t)] }
    else (s.updPort p fun q => { q with txQ := q.txQ.erase f }).lateReleased l

/-- A port starts a frame: T_ARRIVE and T1 are inserted, a line frame counts as sent, a late line or RETIME is dropped. -/
def State.sendFrame (p : Nat) (f : DownFrame) (s : State) : State :=
  match f with
  | .fireLine tag _ t => s.sendLine p f tag t
  | .retime tag t _ =>
    let k := tag.toNat % 2 ^ 28
    if t - s.now256 < us3 then (s.updPort p fun q => { q with txQ := q.txQ.erase f }).countPort p 7 1
    else
      ((s.putOnLane p f f).updPortLine (k / 2 ^ 20) (k % 2 ^ 20) p fun x => { x with fire := t }).updPort p fun q =>
        { q with awaiting := q.awaiting.map fun a => if a.1 = tag.setWidth 28 then (a.1, t) else a }
  | .cease tag _ =>
    let k := tag.toNat % 2 ^ 28
    (s.putOnLane p f f).updPortLine (k / 2 ^ 20) (k % 2 ^ 20) p fun x => if x.st = .ceased then { x with ceasedAt := some s.now256 } else x
  | .time seq _ => (s.stepAsym p).putOnLane p f (.time seq (ridgeTime (s.now256 + (s.stepAsym p).delayDown p)))
  | .echo seq _ => s.putOnLane p f (.echo seq (ridgeTime s.now256))
  | f => s.putOnLane p f f

/-- The frame a port may start now: with 256 lines sent and unfired no further line (R133). -/
def State.nextFrame (s : State) (p : Nat) : Option DownFrame :=
  let q := s.portN p
  firstFrame (if 256 ≤ s.linesSent p then q.txQ.filter fun f => f.rank != 3 else q.txQ)

/-- RIDGE_FRAME_TX: a port starts its highest-priority waiting frame. -/
def execRidgeFrameTx (port : Nat) (s : State) : Host.Outcome State Fault Refusal :=
  evt (fun s => match (if (s.portN port).st.framed then s.nextFrame port else none) with
    | some f => s.sendFrame port f
    | none => s) s

/-! ## Withholding a head (spec/03 R106–R108) -/

/-- Ceases the sent lines of a head for good; the lowest line ceased of each page. -/
def State.ceaseHead (p : Nat) (s : State) : State × List (Nat × Nat) :=
  let sent := s.bat.lines.filter fun l => (l.port.get {} p).st == .sent
  let t := (sent.foldl (fun t l => t.ceasePort false l.handle l.line p) s)
  let ceased := sent.filter fun l => match t.line? l.handle l.line with | some x => (x.port.get {} p).st == .gone | none => true
  (t.pruneLines, ceased.map fun l => (l.handle, l.line))

/-- The chip of a pair in UP that does not supervise: R106 to R108 act there only on lines already sent (spec/09 R276). -/
def State.sentOnly (s : State) : Bool := s.pairUp && !s.twin.supervisor

/-- Withholds a head: sent lines cease, a mark covers each page from its first ceased line to its last released, or to the last ceased on
the chip that does not supervise. -/
def State.withhold (p : Nat) (why : Withheld) (mark : Nat) (s : State) : State :=
  let r := s.ceaseHead p
  let s := r.1.bat.pages.foldl (fun t pg =>
    match (r.2.filter fun x => x.1 = pg.handle).map (·.2) with
    | [] => t
    | n :: ns => t.markPage pg.handle mark (ns.foldl min n)
        (if s.sentOnly then ns.foldl max n else max (ns.foldl min n) (pg.nextLine - 1))) r.1
  (s.updPort p fun q => { q with withheld := why }).rehide

/-- A cut (R107): TEMP_CUT from the first line not fully fired on the head. -/
def State.cutHead (p temp : Nat) (s : State) : State :=
  let from_ := s.bat.pages.map fun pg => (pg.handle, s.firstOnPort pg p, pg.nextLine)
  let s := s.withhold p .cut 9
  let s := from_.foldl (fun t x => if x.2.1 < x.2.2 ∧ !s.sentOnly then t.markPage x.1 9 x.2.1 (x.2.2 - 1) else t) s
  (s.raise .fire 3).headEvent 0x0303 p temp

/-- A report's temperature against the thresholds (R105–R108). A CUT flag counts for nothing between HEAD_RESUME and the first report
that shows it clear (log 101); reports that resume at T_STOP − HYST or above keep the head withheld as R106 does. -/
def State.thermalReport (p : Nat) (temp : BitVec 16) (cut : Bool) (s : State) : State :=
  let t := s.cal.data.thermal.get {} p
  let x := temp.toInt
  let s := s.updPort p fun q => { q with temp := some x, silent := false, clearing := q.clearing && cut }
  let cut := cut && !(s.portN p).clearing
  let w := (s.portN p).withheld
  if cut || decide (t.tCut ≤ x) then (if w = .cut then s else s.cutHead p temp.toNat)
  else if w = .cut then s
  else if t.tStop ≤ x then (if w = .stop then s else (s.withhold p .stop 8).raise .fire 2)
  else if x < t.tStop - t.hyst ∧ w ≠ .none then (s.updPort p fun q => { q with withheld := .none }).rehide
  else if w = .telemetry then s.updPort p fun q => { q with withheld := .stop }
  else s

/-- No temperature for 1 ms (R108), of a head that the geometry gives or that is up. -/
def State.telemetryLost (p : Nat) (s : State) : State :=
  let w := (s.portN p).withheld
  if ((s.portN p).st ≠ .up ∧ s.portEnabled p = false) ∨ (s.portN p).silent then s
  else
    let s := if w = .none then s.withhold p .telemetry 8 else s
    (s.updPort p fun q => { q with silent := true }).raise .fire 7

/-- TELEMETRY_TIMEOUT: a head that has sent no temperature for 1 ms is withheld. -/
def execTelemetryTimeout (port : Nat) (s : State) : Host.Outcome State Fault Refusal :=
  evt (fun s => if isPort port then s.telemetryLost port else s) s

/-- UPSTREAM_SILENT: no upstream frame for 1 ms (R151, R108). -/
def execUpstreamSilent (port : Nat) (s : State) : Host.Outcome State Fault Refusal :=
  evt (fun s => if isPort port then (s.telemetryLost port).resyncPort port rowSilent else s) s

/-- THROTTLE_DECAY: a millisecond without a fired line on a cool head (R105). -/
def State.throttleDecay (p : Nat) (s : State) : State :=
  let t := s.cal.data.thermal.get {} p
  match (s.portN p).report with
  | some x => if isPort p && decide (x < t.tWarn - t.hyst) then s.updPort p fun q => { q with throttle := q.throttle - 1 } else s
  | none => s
/-- THROTTLE_DECAY. -/
def execThrottleDecay (port : Nat) (s : State) : Host.Outcome State Fault Refusal := evt (State.throttleDecay port) s

/-! ## Errors (R130, R151) -/

/-- CRC and code errors within any 1 ms; 16 of them resync the port. -/
def State.linkErrors (p n : Nat) (s : State) : State :=
  if n = 0 then s
  else
    let s := s.updPort p fun q =>
      { q with errs := (s.time.ticks, n) :: q.errs.filter fun e => decide (s.time.ticks - e.1 < ticksPerSec / 1000) }
    if 16 ≤ ((s.portN p).errs.map (·.2)).sum then (s.updPort p fun q => { q with errs := [] }).resyncPort p rowErrors else s

/-- A frame with an error is discarded and counted; in electrical idle nothing counts (R118). -/
def State.portFault (p : Nat) (f : FrameFault) (s : State) : State :=
  if !(s.portN p).st.framed || (s.portN p).rxIdle then s
  else
    match f with
    | .crcErr => (s.countPort p 0 1).linkErrors p 1
    | .codeErr => (s.countPort p 1 1).linkErrors p 1
    | .frameErr => s.countPort p 2 1
    | .eofBad => s
/-- One of a head's upstream ports. -/
def Head.upN (x : Head) (u : Nat) : UPort := x.up.get {} u
/-- Changes an upstream port. -/
def Head.updUp (u : Nat) (f : UPort → UPort) (x : Head) : Head := { x with up := x.up.upd {} u f }

/-- The upstream port of its heads that this chip uses: 0 alone or preferred (R125). -/
def State.ownUport (s : State) : Nat := if s.boot.twinEn && !s.boot.twinPrefer then 1 else 0
/-- A head's upstream port has a chip: UPORT 1 only of a twin pair (R125). -/
def State.uportUsed (s : State) (u : Nat) : Bool := u == s.ownUport || (s.boot.twinEn && decide (u < 2))

/-- A head's receiver discards a frame and counts it in CRC_ERR or CODE_ERR of its STATUS (R130); in electrical idle, which the chip
takes its own lane into, nothing counts (R118). -/
def State.headFault (p u : Nat) (f : FrameFault) (s : State) : State :=
  if !s.uportUsed u || ((s.headN p).upN u).st == .detect || (u == s.ownUport && (s.portN p).idle) then s
  else
    match f with
    | .crcErr => s.updHead p fun x => x.updUp u fun q => { q with crcErr := q.crcErr + 1 }
    | .codeErr => s.updHead p fun x => x.updUp u fun q => { q with codeErr := q.codeErr + 1 }
    | .frameErr | .eofBad => s

/-- A frame as a receiver hears it: of port `p`, or of the upstream port `u` of its head. One without a fault has its effect as the
event of its type. -/
def State.badFrame (p : Nat) (u : Option Nat) (f : RawFrame) (s : State) : State :=
  match RawFrame.fault u.isNone f, u with
  | some e, none => if s.alive then s.portFault p e else s
  | some e, some u => s.headFault p u e
  | none, _ => s
/-- RL_BAD_FRAME: a received frame is discarded. -/
def execRlBadFrame (port : Nat) (x : HeardFrame) (s : State) : Host.Outcome State Fault Refusal :=
  evtAny (State.badFrame port x.uport x.frame) s

/-- COMMA_LOSS: no K28.5 in 8,192 symbols outside electrical idle. -/
def execCommaLoss (port : Nat) (s : State) : Host.Outcome State Fault Refusal :=
  evt (fun s => if (s.portN port).rxIdle then s else s.resyncPort port rowComma) s

/-! ## Link states (R117–R124) -/

/-- DETECT_BURST: a port in DETECT sends a training burst. -/
def execDetectBurst (port : Nat) (s : State) : Host.Outcome State Fault Refusal :=
  evt (fun s => if (s.portN port).st == .detect then s.updPort port (Port.emit port .trainBurst) else s) s

/-- LINK_ALIGNED: three aligned ordered sets take a port from DETECT to TRAIN. -/
def execLinkAligned (port : Nat) (s : State) : Host.Outcome State Fault Refusal :=
  evt (fun s => if (s.portN port).st == .detect then s.enterSt port .train 0 else s) s

/-- The equaliser setting of the highest score, the first of equals. -/
def bestSetting (scores : List Nat) : Nat × Nat :=
  scores.zipIdx.foldl (fun b x => if b.2 < x.1 then (x.2, x.1) else b) (0, scores.headD 0)

/-- The sweep of TRAIN ends (R120): with a score of 64 or more the port goes to DISCOVER. -/
def State.sweepDone (p : Nat) (scores : List Nat) (s : State) : State :=
  if (s.portN p).st ≠ .train then s
  else
    let b := bestSetting (scores.take 16)
    let v := min 255 b.2
    let s := s.updPort p fun q => { q with eqSetting := b.1, eyeRx := BitVec.ofNat 8 v }
    if 64 ≤ v then s.enterSt p .discover 0 else s
/-- TRAIN_SWEEP_DONE: the equaliser sweep ends. -/
def execTrainSweepDone (port : Nat) (scores : List Nat) (s : State) : Host.Outcome State Fault Refusal :=
  evt (State.sweepDone port scores) s

/-- The step of adaptation in UP below 96 (R120): the better neighbour, when its score is higher. -/
def Port.adapt (score up down : Nat) (q : Port) : Port :=
  if 96 ≤ score then q
  else if score < up ∧ down ≤ up ∧ q.eqSetting < 15 then { q with eqSetting := q.eqSetting + 1 }
  else if score < down ∧ 0 < q.eqSetting then { q with eqSetting := q.eqSetting - 1 }
  else q

/-- The runs of samples below 64 in UP, one for either score, and EYE_LOW_SAMPLES (R121). -/
def Port.lowSamples (q : Port) : Port :=
  let rx := decide (q.eyeRx.toNat < 64)
  let hd := decide (q.eyeHead.toNat < 64)
  { q.count 8 (if rx || hd then 1 else 0) with
    eyeLowRx := if rx then q.eyeLowRx + 1 else 0, eyeLowHead := if hd then q.eyeLowHead + 1 else 0 }

/-- A sample of the eye scores: 16 low ones in a row in UP drop the port (R121). -/
def State.eyeSampled (p score up down : Nat) (s : State) : State :=
  if !(s.portN p).st.framed then s
  else
    let s := s.updPort p fun q => { q with eyeRx := BitVec.ofNat 8 (min 255 score) }
    if (s.portN p).st ≠ .up then s
    else
      let s := s.updPort p fun q => (q.adapt score up down).lowSamples
      if 16 ≤ (s.portN p).eyeLowRx ∨ 16 ≤ (s.portN p).eyeLowHead then s.dropPort p 1 else s
/-- EYE_SAMPLE: the 1 ms sample of the eye scores. -/
def execEyeSample (port score scoreUp scoreDown : Nat) (s : State) : Host.Outcome State Fault Refusal :=
  evt (State.eyeSampled port score scoreUp scoreDown) s

/-- TRAIN_TIMEOUT: 10 ms after entering TRAIN the port is not in UP (R123). -/
def execTrainTimeout (port : Nat) (s : State) : Host.Outcome State Fault Refusal :=
  evt (fun s => match (s.portN port).st with
    | .train | .discover | .load => s.dropPort port 3
    | _ => s) s

/-- SIGNAL_LOSS: no receiver signal for 1 ms (R123). -/
def execSignalLoss (port : Nat) (s : State) : Host.Outcome State Fault Refusal :=
  evt (fun s => match (s.portN port).st with
    | .off | .dropped | .mismatch | .detect => s
    | _ => s.enterSt port .detect 0) s

/-- SKIP_SEND: a SKIP ordered set between frames (R117). -/
def execSkipSend (port : Nat) (s : State) : Host.Outcome State Fault Refusal :=
  evt (fun s =>
    let q := s.portN port
    if (q.st.framed || q.st == .dropped || q.st == .mismatch) && !q.idle then s.updPort port (Port.emit port .skip)
    else s) s

/-- ELECTRICAL_IDLE_ENTRY: a silent lane enters electrical idle when RL_CONFIG.IDLE_EN allows it (R118). -/
def execElectricalIdleEntry (port : Nat) (s : State) : Host.Outcome State Fault Refusal :=
  evt (fun s =>
    let q := s.portN port
    if s.rlConfig.getLsbD 3 && q.st.framed && q.txQ.isEmpty then s.updPort port fun q => { q with idle := true } else s) s

/-! ## Discovery (R112, R139, R140, Table 04-3) -/

/-- A head with another serial number than the stored one (spec/03 R112). -/
def State.isNewHead (s : State) (p : Nat) (serial : BitVec 64) : Bool := (s.dataAhead.char.get {} p).serial != some serial

/-- The steps of R112: journal and event at once, entries and table with the record's commit (spec/03 R84); a HALF 0 staged for the
port goes (log 110). The supervisor takes them. -/
def State.newHead (p : Nat) (serial : BitVec 64) (s : State) : State :=
  if !s.supervises then s
  else
    let s := (s.updCal fun c => { c with charStaged := c.charStaged.set none p none }).journal (.newHead p serial)
    s.headEvent 0x0301 p serial.toNat

/-- A HELLO that echoes the epoch moves DISCOVER on (Table 04-3). -/
def State.discovered (p : Nat) (f : HelloUp) (s : State) : State :=
  let s := s.updPort p fun q => { q with echoed := true }
  if f.nozzles.toNat ≠ s.nozCount p then s.enterSt p .mismatch 4
  else
    let other := s.isNewHead p f.serial
    let s := if other then s.newHead p f.serial else s
    if f.flags.getLsbD 1 || other || (s.portN p).holds then s.enterSt p .load 0 else s

/-- The chip's HELLO again, at most once per 100 µs (R140). -/
def State.helloAgain (p : Nat) (s : State) : State :=
  let q := s.portN p
  if (match q.helloTick with | some t => decide (s.time.ticks - t < ticksPerSec / 10000) | none => false) then s
  else s.updPort p fun q => { q with txQ := q.txQ ++ [.hello q.epoch], helloTick := some s.time.ticks, ctrlSeq := 0 }

/-- A head's HELLO. -/
def State.helloRx (p : Nat) (f : HelloUp) (s : State) : State :=
  let q := s.portN p
  if !q.st.framed then s
  else
    let fresh := f.flags.getLsbD 1 || q.headSerial != some f.serial
    let s := s.updPort p fun q => { q with
      prev := if fresh then none else q.prev, headNozzles := some f.nozzles.toNat, headSerial := some f.serial, rxIdle := false }
    if q.st ≠ .discover then s
    else if f.epochEcho = q.epoch.setWidth 8 then (if q.echoed then s else s.discovered p f)
    else if q.echoed then s
    else s.helloAgain p
/-- RL_HELLO_RX: a head HELLO is received. -/
def execRlHelloRx (port : Nat) (f : HelloUp) (s : State) : Host.Outcome State Fault Refusal := evt (State.helloRx port f) s

/-! ## Control frames (R134) -/

/-- A failed control frame: CTRL_FAIL, and a resync in which LOAD repeats the write (R134, R406). -/
def State.ctrlFail (p : Nat) (s : State) : State := (s.countPort p 4 1).resyncPort p rowCtrl

/-- A response completes the outstanding control frame. -/
def State.ctrlResp (p : Nat) (seq result : BitVec 32) (s : State) : State :=
  match (s.portN p).ctrlOut with
  | none => s
  | some o =>
    if !(s.portN p).st.framed || o.seq != seq then s
    else if result ≠ 0 then s.ctrlFail p
    else (s.updPort p fun q => { q with ctrlOut := none }.pump s.ctrlRetries).handTry
/-- RL_CTRL_RESP_RX: a CTRL_WR or CTRL_RD response. -/
def execRlCtrlRespRx (port : Nat) (seq result : BitVec 32) (_data : List Byte) (s : State) : Host.Outcome State Fault Refusal :=
  evt (fun s => (s.ctrlResp port seq result).heard port) s

/-- The frame of an outstanding request, sent again. -/
def CtrlOut.again (o : CtrlOut) : List DownFrame :=
  match o.req with
  | .write a d => [.ctrlWr o.seq a d true]
  | .read a n => [.ctrlRd o.seq a n true]
  | .measure _ => []

/-- No answer within CTRL_TIMEOUT_US. -/
def State.ctrlTimeout (p : Nat) (s : State) : State :=
  match (s.portN p).ctrlOut with
  | none => s
  | some o =>
    if !(s.portN p).st.framed then s
    else if o.retriesLeft = 0 then s.ctrlFail p
    else
      (s.updPort p fun q => { q with ctrlOut := some { o with retriesLeft := o.retriesLeft - 1 }, txQ := q.txQ ++ o.again }).countPort p 3 1
/-- CTRL_TIMEOUT: a control frame stays unanswered. -/
def execCtrlTimeout (port : Nat) (s : State) : Host.Outcome State Fault Refusal := evt (State.ctrlTimeout port) s

/-! ## Echo and time (R148, R149) -/

/-- ECHO_SEND: an ECHO in UP, and in LOAD of the chip that supervises (R148, spec/09 R277). -/
def execEchoSend (port : Nat) (s : State) : Host.Outcome State Fault Refusal :=
  evt (fun s => if (s.portN port).st == .up || ((s.portN port).st == .load && s.supervises) then
      s.updPort port fun q => { q with txQ := q.txQ ++ [.echo q.echoSeq 0], echoSeq := q.echoSeq + 1 }
    else s) s

/-- D of an ECHO response in 1/256 ns (R148). -/
def echoDelay (t1 t2 t3 t4 : BitVec 48) : Int := ((t4 - t1).toInt - (t3 - t2).toInt) / 2

/-- A value of D: kept among the last 8, or an outlier. -/
def State.echoResp (p : Nat) (t1 t2 t3 : BitVec 48) (s : State) : State :=
  let q := s.portN p
  let d := echoDelay t1 t2 t3 (ridgeTime s.now256)
  if !q.st.writes then s
  else if 2000 * 256 < d ∨ (q.dVals ≠ [] ∧ (20 * 256 < (d - medianInt q.dVals).natAbs)) then s.countPort p 6 1
  else s.updPort p fun q => { q with dVals := (d :: q.dVals).take 8 }
/-- ECHO_RESP_RX: an ECHO response. -/
def execEchoRespRx (port : Nat) (t1 t2 t3 : BitVec 48) (s : State) : Host.Outcome State Fault Refusal :=
  evt (fun s => (s.echoResp port t1 t2 t3).heard port) s

/-- TIME_SEND: a TIME frame in UP, in LOAD, and in DISCOVER once the epoch is echoed. -/
def execTimeSend (port : Nat) (s : State) : Host.Outcome State Fault Refusal :=
  evt (fun s =>
    let q := s.portN port
    if q.st.writes || (q.st == .discover && q.echoed) then
      s.updPort port fun q => { q with txQ := q.txQ ++ [.time q.timeSeq 0], timeSeq := q.timeSeq + 1 }
    else s) s

/-! ## STATUS (R139, R147) -/

/-- The difference of two 16-bit counters. -/
def diff16 (a b : BitVec 16) : Nat := (a - b).toNat

/-- The head's counters into the port's (Table 04-17). -/
def Port.addCounters (f : StatusFrame) (b : StatusFrame) (q : Port) : Port :=
  (((((((((q.count 10 (diff16 f.crcErr b.crcErr)).count 11 (diff16 f.codeErr b.codeErr)).count 12 (diff16 f.staleEpoch b.staleEpoch)).count
    13 (diff16 f.dupDiscard b.dupDiscard)).count 14 (diff16 f.retimeLate b.retimeLate + diff16 f.retimeAfterFire b.retimeAfterFire +
      diff16 f.retimeUnknown b.retimeUnknown)).count 15 (diff16 f.ceaseLate b.ceaseLate)).count 16 (diff16 f.rateDrop b.rateDrop)).count
    17 (diff16 f.lateFrame b.lateFrame)).count 18 (diff16 f.divergePix b.divergePix)).count 19 (diff16 f.divergeTime b.divergeTime)

/-- A STATUS with every counter 0: what stands before the first (R139). -/
def noStatus : StatusFrame := ⟨0, 0, 0, 0, 0, 0, 0, 0, 0, 0, 0, 0, 0, 0, 0, 0, 0⟩

/-- LINES_MISSED (R147): the lines due by LAST_FIRED against the advance of FIRED_COUNT. -/
def State.missedLines (p : Nat) (f b : StatusFrame) (s : State) : State :=
  let q := s.portN p
  match q.awaiting.find? fun a => a.1 == f.lastFired.setWidth 28 with
  | none => s
  | some (_, t) =>
    let due := q.awaiting.filter fun a => decide (a.2 ≤ t)
    let s := s.updPort p fun q => { q with awaiting := q.awaiting.filter fun a => decide (t < a.2) }
    let n := (f.firedCount - b.firedCount).toNat
    if due.length ≤ n then s
    else due.foldl (fun t a => t.updPage (a.1.toNat / 2 ^ 20) (Page.markLate 2 (a.1.toNat % 2 ^ 20))) (s.countPort p 9 (due.length - n))

/-- The queue of LOAD still holds the switch of banks. -/
def Port.switchAhead (q : Port) : Bool := q.ctrlQ.any fun r => match r with | .write a _ => a.toNat == adrApply | _ => false

/-- BANK has switched in LOAD: it differs from the BANK that a STATUS told before the switch went out; where none did, the acknowledged
write of IMMEDIATE says so (log 107). The chip that does not supervise compares with the BANK the supervisor sees, the head's own (spec/09
R277, log 108). -/
def State.switched (s : State) (p : Nat) : Bool :=
  let q := s.portN p
  if s.supervises then q.bankAtLoad != some q.bank else q.bank == (s.headN p).bank

/-- A STATUS moves DISCOVER and LOAD on to UP (Table 04-3). -/
def State.statusMoves (p : Nat) (f : StatusFrame) (s : State) : State :=
  let q := s.portN p
  let lock := f.flags.getLsbD 2
  match q.st with
  | .discover => if !q.echoed then s else if q.holds then s.enterSt p .load 0 else if lock then s.enterSt p .up 0 else s
  | .load => if lock && q.ctrlOut.isNone && q.ctrlQ.isEmpty && !s.nvm.newHeadWaits p && s.switched p then s.enterSt p .up 0 else s
  | _ => s

/-- A STATUS frame from a head. -/
def State.statusRx (p : Nat) (f : StatusFrame) (s : State) : State :=
  let q := s.portN p
  if !q.st.framed then s
  else
    let b := q.prev.getD noStatus
    let lock := f.flags.getLsbD 2
    let s := s.updPort p fun q => { (q.addCounters f b) with
      prev := some f, eyeHead := f.eye, timeLock := lock, bank := f.flags.getLsbD 3, rxIdle := false,
      bankAtLoad := if q.st == .load && q.bankAtLoad.isNone && q.switchAhead then some (f.flags.getLsbD 3) else q.bankAtLoad }
    let s := s.missedLines p f b
    let s := s.thermalReport p f.temp (f.flags.getLsbD 0)
    let s := s.linkErrors p (diff16 f.crcErr b.crcErr + diff16 f.codeErr b.codeErr)
    let s := if (s.portN p).st = .up ∧ q.timeLock ∧ !lock then s.resyncPort p rowTimeLock else s
    s.statusMoves p f
/-- RL_STATUS_RX: a STATUS frame from a head. -/
def execRlStatusRx (port : Nat) (f : StatusFrame) (s : State) : Host.Outcome State Fault Refusal := evt (State.statusRx port f) s

end Sys2Proof.Machine
end

