-- ==== Sys2Proof/Machine/GapWork.lean ====
section
/-! DEFINITION. Gap work (spec/03 R93–R98, spec/04 R134, R138): the windows of the heads, warming, resistance measurement and the
classification of readings. -/

namespace Sys2Proof.Machine

/-! ## Windows (R93) -/

/-- No window is open while FIRE_PERMIT is low, or outside RUN at PL_0 to PL_2. -/
def State.gapAllowed (s : State) : Bool := s.fire.permit && s.pwr.st == .run && decide (s.pwr.level ≤ 2)

/-- Some released line has still to fire on the port. -/
def State.portBusy (s : State) (p : Nat) : Bool := s.bat.lines.any fun l => (l.port.get {} p).st.open_

/-- The predicted first fire time of the lines not yet released on a port. -/
def State.nextFire (s : State) (p : Nat) : Option Int :=
  match s.bar? with
  | some (g, w) => s.bat.pages.findSome? fun pg =>
      let row := (g.port.get {} p).rowB
      let n := if w.owns pg.parity row pg.nextLine then pg.nextLine else pg.nextLine + 1
      if n < pg.lines then s.fireTime g w pg.top n p else none
  | none => none

/-- The window's predicted length is at least 5 ms, no page is queued, or no next fire time is predicted (log 34). -/
def State.gapLong (s : State) (p : Nat) : Bool :=
  s.bat.pages.isEmpty || match s.nextFire p with
    | some t => decide (5000000 * 256 ≤ t - (s.portN p).lastFireT.getD s.now256)
    | none => true

/-- A window opens; the port's fire sequencer runs its known-answer mapping in it (spec/14 Table 14-1). -/
def State.gapOpens (p : Nat) (fsMismatch : Bool) (s : State) : State :=
  if !isPort p || (s.portN p).gapOpen || (s.portN p).st != .up || !s.gapAllowed || s.portBusy p || !s.gapLong p then s
  else
    let s := s.updPort p fun q => { q with gapOpen := true }
    if s.health.fsRetired.getLsbD (p / 3) then s else s.knownAnswer 1 (p / 3) (!fsMismatch)
/-- GAP_WINDOW_OPEN: a head's gap window opens. -/
def execGapWindowOpen (port : Nat) (fsMismatch : Bool) (s : State) : Host.Outcome State Fault Refusal :=
  evt (State.gapOpens port fsMismatch) s

/-- GAP_WINDOW_CLOSE: a gap window closes, with warming rate 0. -/
def execGapWindowClose (port : Nat) (s : State) : Host.Outcome State Fault Refusal := evt (fun s => s.closeGap port) s

/-! ## Warming (R95) -/

/-- r of R95 for a temperature in 1/16 °C, rounded down. -/
def warmRateAt (gain max_ : Nat) (target t : Int) : Nat := if t < target then min max_ (gain * (target - t).toNat / 16) else 0

/-- The warming rate of a head is computed again from its latest temperature and written; rate 0 with code 0. -/
def State.warmEvaluate (p : Nat) (s : State) : State :=
  let q := s.portN p
  match q.temp with
  | none => s
  | some t =>
    if !q.gapOpen || q.measuring.isSome || !s.supervises then s
    else
      let r := warmRateAt s.fire.warmGain s.fire.warmRateMax (s.cal.data.thermal.get {} p).tTarget t
      (s.headWrite p adrWarm (warmBytes r (if r = 0 then 0 else s.fire.warmCode))).updPort p fun q => { q with warmRate := r }
/-- WARM_EVALUATE: each 1 ms in an open window. -/
def execWarmEvaluate (port : Nat) (s : State) : Host.Outcome State Fault Refusal := evt (State.warmEvaluate port) s

/-! ## Measurement (R96, R138) -/

/-- Ticks since a nozzle's last reading; none when it has never been read. -/
def NozVol.age (now : Nat) (v : NozVol) : Option Nat := if v.resMeas = 0 then none else some (now - v.readTick)

/-- A nozzle is due: HEAD_MEASURE named it, it has never been read, or half its period is over, so that a window of the other half still
measures it in time (log 114). -/
def NozVol.isDue (now periodS : Nat) (v : NozVol) : Bool :=
  v.due || match v.age now with | some a => decide (periodS * ticksPerSec ≤ 2 * a) | none => true

/-- The due nozzles of a port in ascending order of time since their last reading, never-read ones last. -/
def State.dueNozzles (s : State) (p : Nat) : List Nat :=
  let now := s.time.ticks
  let due := (List.range (s.nozCount p)).filter fun i => (s.volN p i).isDue now s.fire.measPeriodS
  let read := due.filterMap fun i => ((s.volN p i).age now).map fun a => (a, i)
  (read.mergeSort fun a b => decide (a.1 ≤ b.1)).map (·.2) ++ due.filter fun i => ((s.volN p i).age now).isNone

/-- 500 µs in 1/256 ns. -/
def us500 : Int := 500000 * 256

/-- The window stays open for at least 500 µs: it closes LEAD_TIME_US and 500 µs before the predicted first fire time (R93, R96). -/
def State.staysOpen (s : State) (p : Nat) : Bool :=
  match s.web?, s.nextFire p with
  | some w, some t => decide (s.now256 + us500 ≤ t - w.lead256 - us500)
  | _, _ => true

/-- A slice of up to 256 due nozzles goes to the head; warming stops for it. -/
def State.measureSlice (p : Nat) (s : State) : State :=
  let q := s.portN p
  let ns := (s.dueNozzles p).take 256
  if q.st != .up || !q.gapOpen || !s.controls || q.measuring.isSome || q.ctrlQ.any (·.isMeasure) || ns.isEmpty || !s.staysOpen p then s
  else
    let s := (s.headWrite p adrWarm (warmBytes 0 0)).updPort p fun q => { q with warmRate := 0 }
    s.updPort p fun q => { q with ctrlQ := q.ctrlQ ++ [CtrlReq.measure ns] }.pump s.ctrlRetries
/-- MEASURE_SLICE_SEND: a MEASURE frame of up to 256 due nozzles. -/
def execMeasureSliceSend (port : Nat) (s : State) : Host.Outcome State Fault Refusal := evt (State.measureSlice port) s

/-- Classes of Table 03-3: 0 open, 1 short, 2 first, 3 drift, 4 in band, 5 hold. -/
def classify (b m : Nat) : Nat :=
  let d := (m - b) + (b - m)
  if m = 0xFFFFF ∨ (b ≠ 0 ∧ 13 * b < 10 * m) then 0
  else if m < 1000 ∨ (b ≠ 0 ∧ 10 * m < 7 * b) then 1
  else if b = 0 then 2
  else if 8 * b < 100 * d then 3
  else if 100 * d ≤ 6 * b then 4
  else 5

/-- What a reading's class makes of an entry and of OK_RUN (R97, R98); `same` says the repeat gave the same class. A DEAD nozzle
stays DEAD but for another cause, which the repeat must confirm too; OK_RUN stays 1 where the repeat of the second in-band reading differs,
and is 0 once the nozzle is OK (log 35). -/
def classEffect (c m : Nat) (same : Bool) (n : NozCal) (okRun : Nat) : NozCal × Nat :=
  if n.state = 3 then (n, okRun)
  else
    match c with
    | 0 => (if same then { n with state := 2, cause := 1 } else n, okRun)
    | 1 => (if same then { n with state := 2, cause := 2 } else n, okRun)
    | 2 => ({ n with resBase := m }, okRun)
    | 3 => if n.state = 2 then (n, 0) else (if same then { n with state := 1, cause := 3 } else n, 0)
    | 4 =>
      if n.state ≠ 1 then (n, okRun)
      else if okRun + 1 < 2 then (n, okRun + 1)
      else if same then ({ n with state := 0, cause := 0 }, 0)
      else (n, 1)
    | _ => (n, 0)

/-- One reading pair of a nozzle. -/
def State.reading (p i : Nat) (r : Reading) (s : State) : State :=
  let m := r.a.toNat
  let n := s.nozAhead p i
  let c := classify n.resBase m
  let e := classEffect c m (classify n.resBase r.b.toNat == c) n (s.volN p i).okRun
  let s := s.updVol p i fun v => { v with resMeas := m, readTick := s.time.ticks, due := false, okRun := e.2 }
  if e.1 = n then s
  else
    let s := s.journalNoz p i e.1
    if e.1.state ≠ n.state ∧ (e.1.state = 1 ∨ e.1.state = 2) then
      (s.raise .fire 4).headEvent 0x0302 p (i + e.1.state * 2 ^ 13 + e.1.cause * 2 ^ 15)
    else s

/-- A slice's result: discarded when its STATUS is not 0 or its window closed. -/
def State.measureResult (p : Nat) (status : Byte) (rs : List Reading) (s : State) : State :=
  match (s.portN p).measuring with
  | none => s
  | some ns =>
    let s := s.updPort p fun q => { q with measuring := none }.pump s.ctrlRetries
    (if status ≠ 0 then s else (ns.zip rs).foldl (fun t x => t.reading p x.1 x.2) s).handTry
/-- MEASURE_RESULT_RX: the readings of a slice are classified. -/
def execMeasureResultRx (port : Nat) (status : Byte) (readings : List Reading) (s : State) : Host.Outcome State Fault Refusal :=
  evt (fun s => (s.measureResult port status readings).heard port) s

/-- MEASURE_TIMEOUT: a result missing after 500 µs leaves its nozzles due (R134). -/
def execMeasureTimeout (port : Nat) (s : State) : Host.Outcome State Fault Refusal :=
  evt (fun s => (s.updPort port fun q => if q.measuring.isSome then { q with measuring := none }.pump s.ctrlRetries else q).handTry) s

end Sys2Proof.Machine
end

