-- ==== Sys2Proof/Machine/HeadMod.lean ====
section
/-! DEFINITION. The head modules (spec/04 R118, R130–R145, R148, R149): what a head does with line frames, control frames, time and
discovery, and how it fires, warms and cuts. A head has its own supply: its events do not need the chip's. -/

namespace Sys2Proof.Machine

/-! ## Frame of a head's event -/

/-- Head time in 1/256 ns, modulo 2^48. -/
def State.headTime (s : State) (h : Nat) : BitVec 48 := BitVec.ofInt 48 (s.time.ticks * 640 + (s.headN h).clockOff)

/-- The signed difference of two Ridge times (R141). -/
def ridgeDiff (a b : BitVec 48) : Int := (a - b).toInt

/-- A head sends a frame upstream; its lane leaves electrical idle with a training burst (R118). -/
def Head.send (u : Nat) (f : UpFrame) (x : Head) : Head :=
  x.updUp u fun p => { p with lastUp := some f, lane := onLane p.idle (framed f.bytes), idle := false }

/-- An event of head `h`. -/
def onHead (h : Nat) (f : Head → Head) (s : State) : State := if h < 48 then s.updHead h f else s

/-- An event at upstream port `u` of head `h`; a port without a chip stays in DETECT (R125). -/
def atHead (h u : Nat) (f : Head → Head) (s : State) : State := if s.uportUsed u then onHead h f s else s

/-- A frame at upstream port `u` of head `h`: in DETECT none arrives and none is sent. -/
def frameAt (h u : Nat) (f : Head → Head) (s : State) : State :=
  if ((s.headN h).upN u).st = .detect then s else atHead h u f s

/-- 2 µs in 1/256 ns: the head's lock (R133, R141). -/
def us2 : Int := 2000 * 256

/-! ## Line frames (R131, R141) -/

/-- newer(a, b) of R131. -/
def newer (a b : Nat) : Bool := let d := (a + 16 - b % 16) % 16; decide (1 ≤ d ∧ d ≤ 7)

/-- The levels a FIRE_LINE carries, nozzle and level, ascending (Table 04-7). -/
def FireLine.levels (f : Sys2Proof.FireLine) : List (Nat × Nat) :=
  let pairs := if f.ctl.getLsbD 5 then
      (chunkWrites (f.pixels.length + 1) 0 f.pixels).flatMap fun c =>
        (List.range (c.2.length / 2)).map fun i => let v := fieldAt c.2 (2 * i) 2; (v % 8192, v / 8192 % 4)
    else
      f.pixels.zipIdx.flatMap fun b => (List.range 4).map fun j =>
        (f.firstNozzle.toNat + 4 * b.2 + j, b.1.toNat / 4 ^ j % 4)
  (pairs.filter fun x => x.2 != 0).mergeSort fun a b => decide (a.1 ≤ b.1)

/-- Counts a duplicate and its differences from the kept copy. -/
def Head.duplicate (f : Sys2Proof.FireLine) (r : HeadRec) (x : Head) : Head :=
  { x with
    dupDiscard := x.dupDiscard + 1,
    divergePix := if FireLine.levels f = r.pixels then x.divergePix else x.divergePix + 1,
    divergeTime := if 64 * 256 < (ridgeDiff f.fireTime r.fire).natAbs then x.divergeTime + 1 else x.divergeTime }

/-- on FIRE_LINE of R141. -/
def Head.fireLineRx (now : BitVec 48) (u : Nat) (tag : BitVec 32) (f : Sys2Proof.FireLine) (x : Head) : Head :=
  let key := tag.toNat % 2 ^ 28
  let d := ridgeDiff f.fireTime now
  let rel := f.ctl.toNat % 16
  let kept : HeadRec := ⟨.pending, rel, f.fireTime, FireLine.levels f, f.throttle.toNat, u⟩
  if d < us2 ∨ 1000000000 * 256 < d then { x with lateFrame := x.lateFrame + 1 }
  else
    match x.recs.get none key with
    | none => { x with recs := x.recs.set none key (some kept) }
    | some r =>
      if newer rel r.release then { x with recs := x.recs.set none key (some kept) }
      else if rel = r.release ∧ r.st ≠ .ceased then x.duplicate f r
      else x

/-- on RETIME of R141. -/
def Head.retimeRx (now : BitVec 48) (key : Nat) (t : BitVec 48) (rel : Nat) (x : Head) : Head :=
  match x.recs.get none key with
  | none => { x with retimeUnknown := x.retimeUnknown + 1 }
  | some r =>
    if r.st = .ceased ∨ r.release ≠ rel then { x with retimeUnknown := x.retimeUnknown + 1 }
    else if r.st = .fired then { x with retimeAfterFire := x.retimeAfterFire + 1 }
    else if ridgeDiff r.fire now < us2 ∨ ridgeDiff t now < us2 then { x with retimeLate := x.retimeLate + 1 }
    else { x with recs := x.recs.set none key (some { r with fire := t }) }

/-- on CEASE of R141. -/
def Head.ceaseRx (now : BitVec 48) (u key rel : Nat) (x : Head) : Head :=
  let ceased : HeadRec := ⟨.ceased, rel, now, [], 0, u⟩
  match x.recs.get none key with
  | none => { x with recs := x.recs.set none key (some ceased) }
  | some r =>
    if r.st = .fired ∨ (r.st = .pending ∧ ridgeDiff r.fire now < us2) then { x with ceaseLate := x.ceaseLate + 1 }
    else if rel = r.release || newer rel r.release then { x with recs := x.recs.set none key (some ceased) }
    else x

/-- A line frame of another epoch is discarded and counted (R131). -/
def Head.sameEpoch (u : Nat) (tag : BitVec 32) (f : Head → Head) (x : Head) : Head :=
  if (x.upN u).epoch.toNat = tag.toNat / 2 ^ 28 then f x else x.updUp u fun p => { p with staleEpoch := p.staleEpoch + 1 }

/-- HEAD_FIRE_LINE_RX. -/
def execHeadFireLineRx (head uport : Nat) (tag : BitVec 32) (f : FireLine) (s : State) : Host.Outcome State Fault Refusal :=
  evtAny (fun s => frameAt head uport (fun x => x.sameEpoch uport tag (Head.fireLineRx (s.headTime head) uport tag f)) s) s

/-- HEAD_RETIME_RX. -/
def execHeadRetimeRx (head uport : Nat) (tag : BitVec 32) (fireTime : BitVec 48) (release : Byte) (s : State) :
    Host.Outcome State Fault Refusal :=
  evtAny (fun s => frameAt head uport (fun x => x.sameEpoch uport tag
    (Head.retimeRx (s.headTime head) (tag.toNat % 2 ^ 28) fireTime (release.toNat % 16))) s) s

/-- HEAD_CEASE_RX. -/
def execHeadCeaseRx (head uport : Nat) (tag : BitVec 32) (release : Byte) (s : State) : Host.Outcome State Fault Refusal :=
  evtAny (fun s => frameAt head uport (fun x => x.sameEpoch uport tag
    (Head.ceaseRx (s.headTime head) uport (tag.toNat % 2 ^ 28) (release.toNat % 16))) s) s

/-! ## Registers (R136, Table 04-10) -/

/-- A code word of a bank. -/
def headCodeN (x : Head) (i : Nat) : Nat := (x.staged.get 0 i).toNat

/-- A register's word as a CTRL_RD gives it; none at an address not listed. -/
def Head.readWord (a : Nat) (x : Head) : Option Nat :=
  if a = 0 then some (x.serial.toNat % 2 ^ 32)
  else if a = 4 then some (x.serial.toNat / 2 ^ 32)
  else if a = 8 then some (x.nozzles % 2 ^ 14 + 2 ^ 16)
  else if a = adrDrive then some (x.mainPulseNs.toNat + x.preheatGapNs.toNat * 2 ^ 16)
  else if a = adrTCut then some x.tCut.toNat
  else if a = adrWarm then some (x.warmRate + x.warmCode * 2 ^ 16)
  else if a = adrApply then some (x.applyKey.toNat + bit x.arm 31)
  else if a = adrCutClear then some 0
  else if adrWarmMask ≤ a ∧ a < adrWarmMask + 4 * ceilDiv x.nozzles 32 then some (x.warmMask.get 0 ((a - adrWarmMask) / 4)).toNat
  else if adrCodes ≤ a ∧ a < adrCodes + 4 * x.nozzles then some (headCodeN x ((a - adrCodes) / 4))
  else none

/-- The switch of banks (R137): the staged bank becomes active, BANK toggles, ARM clears. -/
def Head.switch (x : Head) : Head := { x with active := x.staged, bank := !x.bank, arm := false }

/-- Writes one word: the head after it, or RESULT 1 or 3. A read-only register is no address to write (log 36). -/
def Head.writeWord (permit : Bool) (a v : Nat) (x : Head) : Except Nat Head :=
  if a = adrDrive then .ok { x with mainPulseNs := BitVec.ofNat 16 v, preheatGapNs := BitVec.ofNat 16 (v / 2 ^ 16) }
  else if a = adrTCut then (if 2 ^ 16 ≤ v then .error 3 else .ok { x with tCut := BitVec.ofNat 16 v })
  else if a = adrWarm then
    let rate := v % 2 ^ 16
    let code := v / 2 ^ 16
    if 30000 < rate ∨ 80 < code ∨ (code = 0 ∧ rate ≠ 0) then .error 3
    else .ok { x with warmRate := rate, warmCode := code, warmHeld := false, warming := rate != 0 && permit && !x.cut }
  else if a = adrApply then
    if v / 2 ^ 28 % 4 ≠ 0 then .error 3
    else
      let x := { x with applyKey := BitVec.ofNat 28 v, arm := hasBit v 31 }
      .ok (if hasBit v 30 then x.switch else x)
  else if a = adrCutClear then (if 1 < v then .error 3 else .ok (if v = 1 then { x with cut := false } else x))
  else if adrWarmMask ≤ a ∧ a < adrWarmMask + 4 * ceilDiv x.nozzles 32 then
    .ok { x with warmMask := x.warmMask.set 0 ((a - adrWarmMask) / 4) (BitVec.ofNat 32 v) }
  else if adrCodes ≤ a ∧ a < adrCodes + 4 * x.nozzles then
    if 2 ^ 24 ≤ v then .error 3 else .ok { x with staged := x.staged.set 0 ((a - adrCodes) / 4) (BitVec.ofNat 24 v) }
  else .error 1

/-- Writes words from an address upward. -/
def Head.writeWords (permit : Bool) : Nat → List Byte → Head → Except Nat Head
  | a, b0 :: b1 :: b2 :: b3 :: bs, x =>
    match x.writeWord permit a (ofLe [b0, b1, b2, b3]) with
    | .ok y => Head.writeWords permit (a + 4) bs y
    | .error e => .error e
  | _, _, x => .ok x

/-- A length of 4 to 1,024 bytes in words. -/
def badLen (n : Nat) : Bool := n < 4 || 1024 < n || n % 4 != 0

/-- A CTRL_WR executed: RESULT and the head; nothing changes unless RESULT is 0. -/
def Head.ctrlWr (permit : Bool) (a : Nat) (d : List Byte) (x : Head) : Nat × Head :=
  if a % 4 ≠ 0 then (1, x)
  else if badLen d.length then (2, x)
  else match x.writeWords permit a d with | .ok y => (0, { y with fresh := false }) | .error e => (e, x)

/-- A control frame at a port: a SEQ already executed is answered again (R135). -/
def Head.control (u : Nat) (seq : BitVec 32) (exec : Head → UpFrame × Head) (x : Head) : Head :=
  let p := x.upN u
  if seq = p.lastSeq then match p.lastAns with | some a => x.send u a | none => x
  else
    let r := exec x
    (r.2.updUp u fun p => { p with lastSeq := seq, lastAns := some r.1 }).send u r.1

/-- HEAD_CTRL_WR_RX. -/
def execHeadCtrlWrRx (head uport : Nat) (seq addr : BitVec 32) (data : List Byte) (s : State) : Host.Outcome State Fault Refusal :=
  evtAny (fun s => frameAt head uport (Head.control uport seq fun x =>
    let r := x.ctrlWr s.fire.permit addr.toNat data
    (.ctrlWrResp seq (BitVec.ofNat 32 r.1), r.2)) s) s

/-- The words from an address upward, none where one is not listed. -/
def Head.readWords (x : Head) : Nat → Nat → Option (List Byte)
  | 0, _ => some []
  | n + 1, a =>
    match x.readWord a, Head.readWords x n (a + 4) with
    | some v, some bs => some (le 4 v ++ bs)
    | _, _ => none

/-- A CTRL_RD executed. -/
def Head.ctrlRd (a n : Nat) (x : Head) : Nat × List Byte :=
  if a % 4 ≠ 0 then (1, [])
  else if badLen n then (2, [])
  else match x.readWords (n / 4) a with | some bs => (0, bs) | none => (1, [])

/-- HEAD_CTRL_RD_RX. -/
def execHeadCtrlRdRx (head uport : Nat) (seq addr : BitVec 32) (bytes : BitVec 16) (s : State) : Host.Outcome State Fault Refusal :=
  evtAny (frameAt head uport (Head.control uport seq fun x =>
    let r := x.ctrlRd addr.toNat bytes.toNat
    (.ctrlRdResp seq (BitVec.ofNat 32 r.1) r.2, x))) s

/-- 16.667 µs in 1/256 ns: what keeps firings, measurement and warming pulses of a nozzle apart (R138, R145). -/
def us16 : Int := 16667 * 256

/-- READ_A and READ_B of a nozzle lie this far apart: 10 µs in 1/256 ns (R138). -/
def readGap : Int := 10000 * 256

/-- A pulse kept at `a` lies within 16.667 µs of `now`. -/
def nearPulse (now : BitVec 48) (a : Option Int) : Bool :=
  match a with
  | some t => decide ((ridgeDiff now (BitVec.ofInt 48 t)).natAbs < us16)
  | none => false

/-- A pending line fires nozzle `n` within 16.667 µs of `now` or of the time `later` after it. -/
def Head.firesNear (now : BitVec 48) (later : Int) (n : Nat) (x : Head) : Bool :=
  x.recs.any fun e => match e.2 with
    | some r =>
      let d := ridgeDiff r.fire now
      r.st == .pending && decide (-us16 < d ∧ d < later + us16) && r.pixels.any fun p => p.1 == n
    | none => false

/-- The pulses of a measurement would come within 16.667 µs of a firing of one of its nozzles. -/
def Head.cannotMeasure (now : BitVec 48) (ns : List (BitVec 16)) (x : Head) : Bool :=
  ns.any fun n => nearPulse now (x.lastEdge.get none n.toNat) || x.firesNear now readGap n.toNat

/-- A MEASURE (R138): refused, aborted where a firing is too near (log 105), or done; warming stops. What a refused or aborted result
holds as readings is open: the readings told stand there (log 105). -/
def Head.measure (permit : Bool) (now : BitVec 48) (seq : BitVec 32) (ns : List (BitVec 16)) (rs : List Reading) (x : Head) :
    UpFrame × Head :=
  let st : Byte := if !permit then 1 else if x.cut then 2 else if x.cannotMeasure now ns then 3 else 0
  let x := { x with warming := false, warmHeld := true }
  (.measureResp seq st rs, if st = 0 then
    { x with lastMeas := ns.foldl (fun m n => m.set none n.toNat (some ((now + BitVec.ofInt 48 readGap).toNat : Int))) x.lastMeas } else x)

/-- HEAD_MEASURE_FRAME: the readings of a slice (R138). -/
def execHeadMeasureFrame (head uport : Nat) (seq : BitVec 32) (nozzles : List (BitVec 16)) (readA readB : List (BitVec 20))
    (s : State) : Host.Outcome State Fault Refusal :=
  evtAny (fun s => frameAt head uport
    (Head.control uport seq (Head.measure s.fire.permit (s.headTime head) seq nozzles (readA.zipWith Reading.mk readB))) s) s

/-! ## Time, echo, discovery, telemetry (R139, R140, R148, R149) -/

/-- A TIME frame: two in a row within 8 ns lock, one beyond 50 ns steps the clock and unlocks. -/
def Head.timeRx (δ : Int) (x : Head) : Head :=
  let n := δ.natAbs
  let x := { x with clockOff := x.clockOff + δ }
  if 50 * 256 < n then { x with timeLock := false, agree := 0 }
  else if 8 * 256 < n then { x with agree := 0 }
  else { x with agree := min 2 (x.agree + 1), timeLock := x.timeLock || decide (2 ≤ x.agree + 1) }

/-- HEAD_TIME_RX. -/
def execHeadTimeRx (head uport : Nat) (tArrive : BitVec 48) (s : State) : Host.Outcome State Fault Refusal :=
  evtAny (fun s => frameAt head uport (Head.timeRx (ridgeDiff tArrive (s.headTime head))) s) s

/-- HEAD_ECHO_RX: T2 and T3 are the head's time. -/
def execHeadEchoRx (head uport : Nat) (seq : BitVec 32) (t1 : BitVec 48) (s : State) : Host.Outcome State Fault Refusal :=
  evtAny (fun s => frameAt head uport (Head.send uport (.echoResp seq t1 (s.headTime head) (s.headTime head))) s) s

/-- The head's HELLO on a port. -/
def Head.hello (u : Nat) (x : Head) : UpFrame :=
  .hello ⟨1, BitVec.ofNat 8 (u + bit x.fresh 1), BitVec.ofNat 16 x.nozzles, x.serial, (x.upN u).echo⟩

/-- A HELLO of the EF4896: pending lines of that port are gone, the new epoch stands, and the head echoes it (R140). -/
def Head.helloRx (u : Nat) (epoch : Byte) (x : Head) : Head :=
  let x := { x with recs := x.recs.filter fun e => match e.2 with
    | some r => !(r.st == RecSt.pending && r.uport == u)
    | none => true }
  let x := x.updUp u fun p => { p with
    st := .linked, epoch := epoch.setWidth 4, echo := epoch &&& 0x0F, lastSeq := 0xFFFFFFFF, lastAns := none }
  x.send u (x.hello u)

/-- HEAD_HELLO_RX. -/
def execHeadHelloRx (head uport : Nat) (epoch : Byte) (s : State) : Host.Outcome State Fault Refusal :=
  evtAny (frameAt head uport (Head.helloRx uport epoch)) s

/-- Another serial number or nozzle count is another head module, at its registers' reset values (R136, R139). -/
def Head.as (serial : BitVec 64) (nozzles : Nat) (x : Head) : Head :=
  if x.serial = serial ∧ x.nozzles = nozzles then x else { serial := serial, nozzles := nozzles }

/-- A HELLO has come over the port since its link last trained: this chip's port shows that by its epoch (R124, R140); of the other
chip's port the event alone tells (log 106). -/
def State.answered (s : State) (h u : Nat) : Bool :=
  let p := (s.headN h).upN u
  p.st == .linked && u == s.ownUport && p.epoch == (s.portN h).epoch

/-- HEAD_HELLO_SEND: a head in DISCOVER sends HELLO until the EF4896's HELLO answers it (R140). -/
def execHeadHelloSend (head : Nat) (m : HeadModule) (s : State) : Host.Outcome State Fault Refusal :=
  evtAny (fun s =>
    let same := (s.headN head).serial == m.serial && (s.headN head).nozzles == m.nozzles
    if same && s.answered head m.uport then s
    else atHead head m.uport (fun x =>
      let x := (x.as m.serial m.nozzles).updUp m.uport fun p => { p with st := .discover }
      x.send m.uport (x.hello m.uport)) s) s

/-- The STATUS of a head on a port (Table 04-11). -/
def Head.status (permit : Bool) (u : Nat) (x : Head) : StatusFrame :=
  let p := x.upN u
  { temp := x.temp,
    flags := BitVec.ofNat 8 (bit x.cut 0 + bit permit 1 + bit x.timeLock 2 + bit x.bank 3 + bit x.arm 4), eye := p.eye,
    lastFired := x.lastFired.setWidth 32, firedCount := x.firedCount, dupDiscard := x.dupDiscard, staleEpoch := p.staleEpoch,
    retimeLate := x.retimeLate, retimeAfterFire := x.retimeAfterFire, retimeUnknown := x.retimeUnknown, ceaseLate := x.ceaseLate,
    rateDrop := x.rateDrop, lateFrame := x.lateFrame, crcErr := p.crcErr, codeErr := p.codeErr, divergePix := x.divergePix,
    divergeTime := x.divergeTime }

/-- A STATUS with the temperature and the eye score the head measures (R119, R139). -/
def Head.sendStatus (permit : Bool) (u : Nat) (temp : BitVec 16) (eye : Nat) (x : Head) : Head :=
  let x := { x with temp := temp }.updUp u fun p => { p with eye := BitVec.ofNat 8 (min 255 eye) }
  (x.send u (.status (x.upN u).statusSeq (x.status permit u))).updUp u fun p => { p with statusSeq := p.statusSeq + 1 }

/-- HEAD_STATUS_SEND. -/
def execHeadStatusSend (head : Nat) (x : HeadSense) (s : State) : Host.Outcome State Fault Refusal :=
  evtAny (fun s => frameAt head x.uport (Head.sendStatus s.fire.permit x.uport x.temp x.eye) s) s

/-- HEAD_ELECTRICAL_IDLE_ENTRY: the upstream lane goes idle, and the receiver it reaches counts no errors (R118). A chip uses upstream
port 0 when it is alone or preferred (R125). -/
def execHeadElectricalIdleEntry (head uport : Nat) (s : State) : Host.Outcome State Fault Refusal :=
  evtAny (fun s =>
    let s := frameAt head uport (Head.updUp uport fun p => { p with idle := true }) s
    if head < 48 ∧ uport = s.ownUport then
      s.updPort head fun q => if q.st.framed then { q with rxIdle := true } else q
    else s) s

/-! ## Firing and heat (R137, R142–R145) -/

/-- One pixel fired, with its pre-heat code less the throttle (spec/03 R75): not within 16,600 ns of the nozzle's last main pulse
(R143). -/
def Head.firePixel (t : BitVec 48) (throttle : Nat) (x : Head) (e : Nat × Nat) : Head :=
  let near := match x.lastEdge.get none e.1 with
    | some a => decide ((ridgeDiff t (BitVec.ofInt 48 a)).natAbs < 16600 * 256)
    | none => false
  if near then { x with rateDrop := x.rateDrop + 1 }
  else
    let code := (x.active.get 0 e.1).toNat / 256 ^ (e.2 - 1) % 256
    { x with lastEdge := x.lastEdge.set none e.1 (some (t.toNat : Int)), lastShot := x.lastShot ++ [(e.1, code - throttle)] }

/-- A pending line at its fire time. -/
def Head.fire (permit : Bool) (key : BitVec 28) (x : Head) : Head :=
  match x.recs.get none key.toNat with
  | none => x
  | some r =>
    if r.st ≠ .pending then x
    else
      let x := if x.arm && x.applyKey == key then x.switch else x
      let x := { x with recs := x.recs.set none key.toNat (some { r with st := .fired }), lastShot := [] }
      if !permit || x.cut || !x.timeLock then x
      else
        { r.pixels.foldl (Head.firePixel r.fire r.throttle) x with firedCount := x.firedCount + 1, lastFired := key }

/-- HEAD_FIRE_LINE: a head fires a pending line. -/
def execHeadFireLine (head : Nat) (key : BitVec 28) (s : State) : Host.Outcome State Fault Refusal :=
  evtAny (fun s => onHead head (Head.fire s.fire.permit key) s) s

/-- HEAD_RECORD_EXPIRY: a head discards the record of a fired or ceased line (R142). -/
def execHeadRecordExpiry (head : Nat) (key : BitVec 28) (s : State) : Host.Outcome State Fault Refusal :=
  evtAny (onHead head fun x => match x.recs.get none key.toNat with
    | some r => if r.st = .pending then x else { x with recs := x.recs.set none key.toNat none }
    | none => x) s

/-- HEAD_T_CUT: a head's own temperature reaches T_CUT (R144). -/
def execHeadTCut (head : Nat) (temp : BitVec 16) (s : State) : Host.Outcome State Fault Refusal :=
  evtAny (onHead head fun x =>
    let x := { x with temp := temp }
    if x.tCut.toInt ≤ temp.toInt then { x with cut := true, warming := false } else x) s

/-- HEAD_FIRE_ENABLE_LOW: a head's fire-enable input is low; heater energy stops (R144, R145). -/
def execHeadFireEnableLow (head : Nat) (s : State) : Host.Outcome State Fault Refusal :=
  evtAny (fun s => if s.fire.permit then s else onHead head (fun x => { x with warming := false }) s) s

/-- A head may warm a nozzle now (R145): WARM_RATE above 0, its WARM_MASK bit set, no MEASURE since the last WARM write (log 105), fire-enable
high, no cut, no firing and no measurement pulse of it within 16.667 µs. -/
def Head.mayWarm (permit : Bool) (now : BitVec 48) (n : Nat) (x : Head) : Bool :=
  x.warmRate != 0 && !x.warmHeld && permit && !x.cut && decide (n < x.nozzles) && (x.warmMask.get 0 (n / 32)).getLsbD (n % 32) &&
    !nearPulse now (x.lastEdge.get none n) && !nearPulse now (x.lastMeas.get none n) && !x.firesNear now 0 n

/-- A warming pulse of WARM_CODE × 5 ns (R145). -/
def Head.warmPulse (permit : Bool) (now : BitVec 48) (n : Nat) (x : Head) : Head :=
  if x.mayWarm permit now n then { x with warming := true, warmPulses := x.warmPulses + 1, lastWarm := some (n, x.warmCode * 5) } else x

/-- WARMING_PULSE: a pre-heat-only pulse to a nozzle whose WARM_MASK bit is set (R145). -/
def execWarmingPulse (head nozzle : Nat) (s : State) : Host.Outcome State Fault Refusal :=
  evtAny (fun s => onHead head (Head.warmPulse s.fire.permit (s.headTime head) nozzle) s) s

end Sys2Proof.Machine
end

