-- ==== Sys2Proof/Machine/LogCmd.lean ====
section
/-! DEFINITION. The event recorder's ring and the LOG commands (spec/14 R381–R386, Tables 14-4, 14-5). -/

namespace Sys2Proof.Machine

/-- The record of a sequence while it is held (R384). -/
def State.heldRec (s : State) (q : BitVec 32) : Option EventRec :=
  match s.log.ring.get none (q.toNat % 32768) with
  | some e => if e.seq == q && !logCleared s.log.clearedSeq q then some e else none
  | none => none

/-- OLDEST_SEQ: the oldest held record, or NEXT_SEQ. -/
def State.oldestSeq (s : State) : BitVec 32 :=
  let dist (q : BitVec 32) : Nat := (s.log.nextSeq - q).toNat
  s.log.ring.foldl (fun m e =>
    match e.2 with
    | some r => if !logCleared s.log.clearedSeq r.seq && decide (dist m < dist r.seq) then r.seq else m
    | none => m) s.log.nextSeq

/-- Puts the oldest staged record into the ring (R382): LOG_ALERT.NEW by its severity, WRAP_UNCLEARED when it overwrites a
record that no LOG_CLEAR named (R385); with room again, LOG_OVERFLOW is staged first. -/
def State.writeEvent (s : State) : State :=
  match s.log.stage with
  | [] => s
  | e :: rest =>
    let slot := e.seq.toNat % 32768
    let lap := match s.log.ring.get none slot with
      | some o => !logCleared s.log.clearedSeq o.seq
      | none => false
    let s := s.updLog fun l => { l with
      stage := rest, ring := l.ring.set none slot (some e), nextSeq := e.seq + 1 }
    let s := if s.log.alertSev ≤ e.severity then s.raise .log 0 else s
    let s := if lap then s.raise .log 2 else s
    if s.log.dropped = 0 then s
    else
      let r := s.mkEvent 0x0F01 0 s.log.dropped false true false
      s.updLog fun l => { l with stage := l.stage ++ [r], dropped := 0 }

/-- EVENT_RECORD_WRITE. -/
def execEventRecordWrite (s : State) : Host.Outcome State Fault Refusal := evt State.writeEvent s

/-! ## LOG commands -/

/-- The LOG_STATUS response. -/
def State.logStatusBytes (s : State) : List Byte :=
  le 4 s.log.nextSeq.toNat ++ le 4 s.oldestSeq.toNat ++ le 4 (s.log.clearedSeq.getD 0).toNat ++ le 4 s.log.lostTotal.toNat ++
    le 4 s.log.suppressedTotal.toNat ++ le 4 s.log.stage.length ++ zeros 8

/-- LOG_STATUS, opcode 0x0F01. -/
def srvLogStatus (h : MbHdr) (s : State) : State :=
  mbServe { op := 0x0F01, len := 0 } h (fun s => okWith s.logStatusBytes s) s
/-- LOG_STATUS. -/
def execLogStatus (h : MbHdr) (s : State) : Host.Outcome State Fault Refusal := mbCmd h (.logStatus h) (srvLogStatus h) s

/-- A sequence at or beyond NEXT_SEQ. -/
def State.logBeyond (s : State) (q : BitVec 32) : Bool := decide ((q - s.log.nextSeq).toNat < 2 ^ 31)

/-- LOG_CLEAR's rules (R385). -/
def logClearBody (q : BitVec 32) (s : State) : Answer :=
  let below := match s.log.clearedSeq with | some c => !seqLe c q | none => false
  if s.logBeyond q || below then fail 0x0F01 s
  else
    let s := s.updLog fun l => { l with clearedSeq := some q }
    let s := s.updNvm fun n => { n with id := { n.id with clearedSeq := some q } }
    ok (s.logEvent 0x0F02 0 q.toNat)

/-- LOG_CLEAR, opcode 0x0F02. -/
def srvLogClear (h : MbHdr) (upToSeq : BitVec 32) (s : State) : State := mbServe { op := 0x0F02, len := 4 } h (logClearBody upToSeq) s
/-- LOG_CLEAR. -/
def execLogClear (h : MbHdr) (upToSeq : BitVec 32) (s : State) : Host.Outcome State Fault Refusal :=
  mbCmd h (.logClear h upToSeq) (srvLogClear h upToSeq) s

/-- LOG_SET, opcode 0x0F03. -/
def srvLogSet (h : MbHdr) (alertSeverity : Byte) (rsv : BitVec 24) (s : State) : State :=
  mbServe { op := 0x0F03, len := 4, rsv := rsv != 0 } h
    (fun s => if 2 < alertSeverity.toNat then fail 0x0F02 s else ok (s.updLog fun l => { l with alertSev := alertSeverity.toNat })) s
/-- LOG_SET. -/
def execLogSet (h : MbHdr) (alertSeverity : Byte) (rsv : BitVec 24) (s : State) : Host.Outcome State Fault Refusal :=
  mbCmd h (.logSet h alertSeverity rsv) (srvLogSet h alertSeverity rsv) s

/-- The records LOG_READ returns. -/
def State.readRecords (s : State) (from_ : BitVec 32) (count : Nat) : List Byte :=
  if s.logBeyond from_ then []
  else
    let old := s.oldestSeq
    let start := if seqLe old from_ then from_ else old
    let n := min count (s.log.nextSeq - start).toNat
    (List.range n).flatMap fun i => match s.heldRec (start + BitVec.ofNat 32 i) with | some e => e.bytes | none => []

/-- LOG_READ, opcode 0x0F04. -/
def srvLogRead (h : MbHdr) (fromSeq : BitVec 32) (count rsv : BitVec 16) (s : State) : State :=
  mbServe { op := 0x0F04, len := 8, rsv := rsv != 0, zero := count == 0 } h
    (fun s => if 63 < count.toNat then fail 0x0F02 s else okWith (s.readRecords fromSeq count.toNat) s) s
/-- LOG_READ. -/
def execLogRead (h : MbHdr) (fromSeq : BitVec 32) (count rsv : BitVec 16) (s : State) : Host.Outcome State Fault Refusal :=
  mbCmd h (.logRead h fromSeq count rsv) (srvLogRead h fromSeq count rsv) s

end Sys2Proof.Machine
end

