-- ==== Sys2Proof/Machine/Sys.lean ====
section
/-! DEFINITION. The SYS commands (spec/12 R348–R352, Tables 12-14, 12-15). -/

namespace Sys2Proof.Machine

/-! ## SYS_GET_INFO, SYS_RESET -/

/-- STAGE's code (Table 12-4). -/
def Stage.code : Stage → Nat
  | .rom => 0 | .imageLoad => 1 | .verify => 2 | .dramTrain => 3 | .storeRestore => 4 | .ready => 5 | .recovery => 6 | .failed => 7
  | .restarting => 8

/-- Link speed in GT/s × 10 of a PCI Express generation. -/
def linkSpeed (gen : Nat) : Nat := if gen = 1 then 25 else if gen = 2 then 50 else if gen = 3 then 80 else 160

/-- The SYS_GET_INFO response; the link runs at what the board record allows. -/
def State.infoBytes (s : State) : List Byte :=
  let b := s.boot
  le 8 s.fuse.serial.toNat ++ le 1 0xB0 ++ le 1 b.stage.code ++ le 1 b.bootSlot ++
    le 1 (b.bootMode + bit b.xspiOctal 2 + bit b.twinEn 3 + bit b.twinPrefer 4) ++ le 4 b.fwVersion.toNat ++ le 2 b.imgSvn ++
    le 2 s.fuse.otpCounter ++ le 2 (linkSpeed b.board.pcieGen) ++ le 1 b.board.pcieWidth ++ le 1 s.fuse.revoked.toNat ++
    le 1 b.bootErr ++ zeros 7

/-- SYS_GET_INFO, opcode 0x0101: served before READY. -/
def srvSysGetInfo (h : MbHdr) (s : State) : State :=
  mbServe { op := 0x0101, len := 0, early := fun _ => true } h (fun s => okWith s.infoBytes s) s
/-- SYS_GET_INFO. -/
def execSysGetInfo (h : MbHdr) (s : State) : Host.Outcome State Fault Refusal := mbCmd h (.sysGetInfo h) (srvSysGetInfo h) s

/-- SYS_RESET's rules (R352); its effect follows the response. -/
def sysResetBody (mode : Nat) (s : State) : Answer :=
  if mode ≠ 1 ∧ mode ≠ 2 then fail 0x0109 s else if !s.bat.pages.isEmpty then fail 0x0106 s else ok s

/-- SYS_RESET, opcode 0x0102: the response is written before the firmware restart or the chip reset. -/
def srvSysReset (h : MbHdr) (mode : Byte) (rsv : BitVec 24) (s : State) : State :=
  let c : MbCheck := { op := 0x0102, len := 4, rsv := rsv != 0 }
  let t := mbServe c h (sysResetBody mode.toNat) s
  match mbCommon c h s, sysResetBody mode.toNat s with
  | none, .done 0 _ _ => if mode = 1 then t.restartFirmware else t.chipReset
  | _, _ => t
/-- SYS_RESET. -/
def execSysReset (h : MbHdr) (mode : Byte) (rsv : BitVec 24) (s : State) : Host.Outcome State Fault Refusal :=
  mbCmd h (.sysReset h mode rsv) (srvSysReset h mode rsv) s

/-! ## Updates (R349) -/

/-- The slot an update may write: the one not booted, or A after a recovery boot. -/
def State.updatable (s : State) : Nat := if s.boot.bootSlot = 0 then 1 else 0

/-- SYS_UPDATE_BEGIN's rules. -/
def updateBeginBody (slot : Nat) (s : State) : Answer :=
  if 1 < slot then fail 0x0109 s
  else if slot ≠ s.updatable then fail 0x0105 s
  else ok ((s.flashErase slot).updBoot fun b => { b with updSlot := some slot })

/-- SYS_UPDATE_BEGIN, opcode 0x0103. -/
def srvSysUpdateBegin (h : MbHdr) (slot : Byte) (rsv : BitVec 24) (s : State) : State :=
  mbServe { op := 0x0103, len := 4, rsv := rsv != 0 } h (updateBeginBody slot.toNat) s
/-- SYS_UPDATE_BEGIN. -/
def execSysUpdateBegin (h : MbHdr) (slot : Byte) (rsv : BitVec 24) (s : State) : Host.Outcome State Fault Refusal :=
  mbCmd h (.sysUpdateBegin h slot rsv) (srvSysUpdateBegin h slot rsv) s

/-- Ranges of BYTES: 16–2,016, a multiple of 16. -/
def blockBad (n : Nat) : Bool := out n 16 2016 || n % 16 != 0

/-- SYS_UPDATE_DATA's rules. -/
def updateDataBody (off n : Nat) (data : List Byte) (s : State) : Answer :=
  if off % 16 ≠ 0 ∨ off < 0x1000 ∨ slotBytes < off + n ∨ blockBad n then fail 0x0109 s
  else
    match s.boot.updSlot with
    | none => fail 0x0105 s
    | some k => ok (s.flashWrite (slotBase k + off) (data.take n))

/-- SYS_UPDATE_DATA, opcode 0x0104: its payload is the fixed fields and DATA (R335). -/
def srvSysUpdateData (h : MbHdr) (offset bytes : BitVec 32) (rsv : BitVec 64) (data : List Byte) (s : State) : State :=
  mbServe { op := 0x0104, len := 16 + bytes.toNat, rsv := rsv != 0, zero := bytes == 0 } h
    (updateDataBody offset.toNat bytes.toNat data) s
/-- SYS_UPDATE_DATA. -/
def execSysUpdateData (h : MbHdr) (offset bytes : BitVec 32) (rsv : BitVec 64) (data : List Byte) (s : State) :
    Host.Outcome State Fault Refusal := mbCmd h (.sysUpdateData h offset bytes rsv data) (srvSysUpdateData h offset bytes rsv data) s

/-- SYS_UPDATE_END's rules: the slot is verified, its record is written last. -/
def updateEndBody (s : State) : Answer :=
  match s.boot.updSlot with
  | none => fail 0x0105 s
  | some k =>
    let rd := s.slotByte k
    let code := s.imageCode rd
    if code ≠ 0 then .done 0x0101 (le 1 code ++ zeros 3) s
    else
      let q := match s.slotSeq (1 - k) with | some q => q + 1 | none => 1
      let i := imageInfo rd
      okWith (le 4 i.fwVersion.toNat ++ le 2 i.svn ++ zeros 2)
        ((s.flashWrite (slotBase k) (slotRecord q)).updBoot fun b => { b with updSlot := none })

/-- SYS_UPDATE_END, opcode 0x0105. -/
def srvSysUpdateEnd (h : MbHdr) (s : State) : State := mbServe { op := 0x0105, len := 0 } h updateEndBody s
/-- SYS_UPDATE_END. -/
def execSysUpdateEnd (h : MbHdr) (s : State) : Host.Outcome State Fault Refusal := mbCmd h (.sysUpdateEnd h) (srvSysUpdateEnd h) s

/-! ## The fuses (R346, R352) -/

/-- SYS_SET_SVN's rules: the counter rises to SVN. -/
def setSvnBody (svn : Nat) (s : State) : Answer :=
  if 64 < svn then fail 0x0109 s
  else if svn < s.fuse.otpCounter ∨ s.boot.imgSvn < svn then fail 0x0102 s
  else okWith (le 2 svn ++ zeros 2) { s with fuse := { s.fuse with otpCounter := svn } }

/-- SYS_SET_SVN, opcode 0x0106. -/
def srvSysSetSvn (h : MbHdr) (svn rsv : BitVec 16) (s : State) : State :=
  mbServe { op := 0x0106, len := 4, rsv := rsv != 0 } h (setSvnBody svn.toNat) s

/-- The frame of the two commands that blow fuses. -/
def fuseCmd (h : MbHdr) (i : Instr) (serve : State → State) (s : State) : Host.Outcome State Fault Refusal :=
  .next { settle s (mbDoor h i serve s) with pending := s.pending }

/-- SYS_SET_SVN. -/
def execSysSetSvn (h : MbHdr) (svn rsv : BitVec 16) (s : State) : Host.Outcome State Fault Refusal :=
  fuseCmd h (.sysSetSvn h svn rsv) (srvSysSetSvn h svn rsv) s

/-- Slots not revoked. -/
def Fuses.keysLeft (f : Fuses) : Nat := ((List.range 4).filter fun k => !f.revoked.getLsbD k).length

/-- SYS_REVOKE_KEY's rules: neither the running image's slot nor the last one left. -/
def revokeBody (k : Nat) (s : State) : Answer :=
  if 3 < k then fail 0x0109 s
  else if k = s.boot.imgKey ∨ (s.fuse.keysLeft ≤ 1 ∧ !s.fuse.revoked.getLsbD k) then fail 0x010A s
  else ok { s with fuse := { s.fuse with revoked := s.fuse.revoked ||| BitVec.twoPow 4 k } }

/-- SYS_REVOKE_KEY, opcode 0x0107. -/
def srvSysRevokeKey (h : MbHdr) (keyIndex : Byte) (rsv : BitVec 24) (s : State) : State :=
  mbServe { op := 0x0107, len := 4, rsv := rsv != 0 } h (revokeBody keyIndex.toNat) s
/-- SYS_REVOKE_KEY. -/
def execSysRevokeKey (h : MbHdr) (keyIndex : Byte) (rsv : BitVec 24) (s : State) : Host.Outcome State Fault Refusal :=
  fuseCmd h (.sysRevokeKey h keyIndex rsv) (srvSysRevokeKey h keyIndex rsv) s

/-! ## Debug unlock (R350, R351) -/

/-- A fresh nonce: free bytes. -/
def drawBytes : Nat → State → List Byte × State
  | 0, s => ([], s)
  | n + 1, s =>
    let (b, s) := s.drawBelow 256
    let (bs, s) := drawBytes n s
    (BitVec.ofNat 8 b :: bs, s)

/-- SYS_DEBUG_CHALLENGE's rules. -/
def challengeBody (s : State) : Answer :=
  if s.fuse.debugFused then fail 0x0104 s
  else
    let (n, s) := drawBytes 32 s
    okWith n (s.updBoot fun b => { b with nonce := some n, nonceTick := s.time.ticks })

/-- SYS_DEBUG_CHALLENGE, opcode 0x0108. -/
def srvSysDebugChallenge (h : MbHdr) (s : State) : State := mbServe { op := 0x0108, len := 0 } h challengeBody s
/-- SYS_DEBUG_CHALLENGE. -/
def execSysDebugChallenge (h : MbHdr) (s : State) : Host.Outcome State Fault Refusal :=
  mbCmd h (.sysDebugChallenge h) (srvSysDebugChallenge h) s

/-- Whether an unlock is valid: a live nonce, the key's hash, the signature over nonce, SERIAL and SCOPE. -/
def State.unlockOk (s : State) (scope : Byte) (pub sigR sigS : List Byte) : Bool :=
  match s.boot.nonce with
  | none => false
  | some n =>
    decide (s.time.ticks - s.boot.nonceTick ≤ 60 * ticksPerSec) && Config.sha384 pub == s.fuse.debugHash &&
      Config.ecdsaP384 pub (Config.sha384 (n ++ le 8 s.fuse.serial.toNat ++ [scope])) sigR sigS

/-- SYS_DEBUG_UNLOCK's rules: every unlock uses up the nonce. -/
def unlockBody (scope : Byte) (pub sigR sigS : List Byte) (s : State) : Answer :=
  if scope ≠ 1 ∧ scope ≠ 2 then fail 0x0109 s
  else if s.fuse.debugFused then fail 0x0104 s
  else
    let good := s.unlockOk scope pub sigR sigS
    let s := s.updBoot fun b => { b with nonce := none }
    if good then ok ((s.updBoot fun b => { b with debugScope := scope.toNat }).logEvent 0x0105 0 scope.toNat) else fail 0x0103 s

/-- SYS_DEBUG_UNLOCK, opcode 0x0109. -/
def srvSysDebugUnlock (h : MbHdr) (scope : Byte) (rsv : BitVec 24) (pubkey : List Byte) (rsv2 : BitVec 24) (sigR sigS : List Byte)
    (s : State) : State :=
  mbServe { op := 0x0109, len := 200, rsv := rsv != 0 || rsv2 != 0 } h (unlockBody scope pubkey sigR sigS) s
/-- SYS_DEBUG_UNLOCK. -/
def execSysDebugUnlock (h : MbHdr) (scope : Byte) (rsv : BitVec 24) (pubkey : List Byte) (rsv2 : BitVec 24) (sigR sigS : List Byte)
    (s : State) : Host.Outcome State Fault Refusal :=
  mbCmd h (.sysDebugUnlock h scope rsv pubkey rsv2 sigR sigS) (srvSysDebugUnlock h scope rsv pubkey rsv2 sigR sigS) s

/-! ## Recovery (R348) -/

/-- RECOVERY. -/
def State.inRecovery (s : State) : Bool := s.boot.stage == .recovery

/-- The bytes of the image loaded into SB_20…SB_27. -/
def State.recByte (s : State) (i : Nat) : Byte := s.boot.recImage.get 0 i

/-- SYS_RECOVERY_LOAD's rules. -/
def recoveryLoadBody (off n : Nat) (data : List Byte) (s : State) : Answer :=
  if off % 16 ≠ 0 ∨ 4194304 < off + n ∨ blockBad n then fail 0x0109 s
  else if !s.inRecovery then fail 0x0107 s
  else ok (s.updBoot fun b => { b with recImage := SMap.setList 0 b.recImage off (data.take n) })

/-- SYS_RECOVERY_LOAD, opcode 0x010A. -/
def srvSysRecoveryLoad (h : MbHdr) (offset bytes : BitVec 32) (rsv : BitVec 64) (data : List Byte) (s : State) : State :=
  mbServe { op := 0x010A, len := 16 + bytes.toNat, rsv := rsv != 0, zero := bytes == 0, early := State.inRecovery } h
    (recoveryLoadBody offset.toNat bytes.toNat data) s
/-- SYS_RECOVERY_LOAD. -/
def execSysRecoveryLoad (h : MbHdr) (offset bytes : BitVec 32) (rsv : BitVec 64) (data : List Byte) (s : State) :
    Host.Outcome State Fault Refusal :=
  mbCmd h (.sysRecoveryLoad h offset bytes rsv data) (srvSysRecoveryLoad h offset bytes rsv data) s

/-- SYS_RECOVERY_BOOT's rules: the loaded image under R345, then start-up at DRAM_TRAIN. -/
def recoveryBootBody (s : State) : Answer :=
  if !s.inRecovery then fail 0x0107 s
  else
    let code := s.imageCode s.recByte
    if code ≠ 0 then .done 0x0101 (le 1 code ++ zeros 3) (s.updBoot fun b => { b with bootErr := code })
    else ok (s.enterImage 2 (imageInfo s.recByte))

/-- SYS_RECOVERY_BOOT, opcode 0x010B. -/
def srvSysRecoveryBoot (h : MbHdr) (s : State) : State := mbServe { op := 0x010B, len := 0, early := State.inRecovery } h recoveryBootBody s
/-- SYS_RECOVERY_BOOT. -/
def execSysRecoveryBoot (h : MbHdr) (s : State) : Host.Outcome State Fault Refusal :=
  mbCmd h (.sysRecoveryBoot h) (srvSysRecoveryBoot h) s

end Sys2Proof.Machine
end

