-- ==== Sys2Proof/Machine/TwinCmd.lean ====
section
/-! DEFINITION. The TWIN commands (spec/09 R275, R282–R285, R288, Tables 09-10, 09-11). -/

namespace Sys2Proof.Machine

/-- The chip's strap makes it the preferred one (R263). -/
def State.preferred (s : State) : Bool := s.boot.twinEn && s.boot.twinPrefer

/-- The pair has not formed (Table 09-12). -/
def State.unpaired (s : State) : Bool := !s.boot.twinEn || !s.twin.formed

/-! ## TWIN_GET_STATUS -/

/-- LINK_STATE (Table 09-10). -/
def TwinLinkSt.code : TwinLinkSt → Nat
  | .off => 0 | .detect => 1 | .train => 2 | .discover => 3 | .sync => 4 | .up => 5

/-- UNMIRRORED: bound streams not yet acknowledged with LAST. -/
def State.unmirrored (s : State) : Nat :=
  (s.slate.entries.map fun e => match e.2 with
    | some en => (en.stream.filter fun x => x.2.st != .unbound && !x.2.lastAcked).length
    | none => 0).sum

/-- Admissions are frozen (R263, R283). -/
def State.isFrozen (s : State) : Bool := s.boot.twinEn && (s.twin.frozen || s.twin.conflict)

/-- The TWIN_GET_STATUS response. -/
def State.twinBytes (s : State) : List Byte :=
  let t := s.twin
  le 1 t.link.code ++ le 1 t.width ++ le 1 s.roleNow.code ++
    le 1 (bit s.supervises 0 + bit s.preferred 1 + bit t.solo 2 + bit s.isFrozen 3 + bit t.beatSeen 4 + bit t.beatIn 5) ++
    le 4 t.roleSeq.toNat ++ le 4 s.unmirrored ++ le 1 t.divPort ++ zeros 3 ++ le 4 t.outOfOrder.toNat ++ le 4 t.retrain.toNat ++
    le 8 t.partnerSerial.toNat

/-- TWIN_GET_STATUS, opcode 0x0C01. -/
def srvTwinGetStatus (h : MbHdr) (s : State) : State := mbServe { op := 0x0C01, len := 0 } h (fun s => okWith s.twinBytes s) s
/-- TWIN_GET_STATUS. -/
def execTwinGetStatus (h : MbHdr) (s : State) : Host.Outcome State Fault Refusal := mbCmd h (.twinGetStatus h) (srvTwinGetStatus h) s

/-! ## TWIN_SET_MODE -/

/-- The mode of a payload. -/
def modeOfReq (p : TwinModeReq) : TwinMode :=
  ⟨p.mode.toNat, p.holdoffS.toNat, p.castlePages.toNat, p.castleHours.toNat, p.divergeLimit.toNat, p.reportS.toNat⟩

/-- The layout of Table 09-11. -/
def TwinMode.bytes (m : TwinMode) : List Byte :=
  le 1 m.mode ++ zeros 1 ++ le 2 m.holdoffS ++ le 2 m.castlePages ++ le 2 m.castleHours ++ le 4 m.divergeLimit ++ le 2 m.reportS ++
    zeros 2

/-- The field ranges of Table 09-11. -/
def TwinMode.bad (m : TwinMode) : Bool :=
  decide (2 < m.mode) || out m.holdoffS 1 3600 || decide (8760 < m.castleHours) || decide (m.divergeLimit = 0) || out m.reportS 1 3600 ||
    (m.mode == 1 && m.castlePages == 0 && m.castleHours == 0)

/-- The divergence counts of a port (R153, R285). -/
def State.divCount (s : State) (p : Nat) : BitVec 32 := (s.portN p).cnt.get 0 18 + (s.portN p).cnt.get 0 19

/-- A REPORT_S interval starts: the counts it is measured from. -/
def State.watchFrom (s : State) : State := s.updTwin fun t => { t with divSums := SMap.setList 0 [] 0 ((List.range 48).map s.divCount) }

/-- A mode comes into force (R284, R285): outside CASTLING no castle is due, and entering WATCH starts an interval. -/
def State.setTwinMode (m : TwinMode) (s : State) : State :=
  let s := if m.mode = 2 ∧ s.twin.mode.mode ≠ 2 then s.watchFrom else s
  let s := s.updTwin fun t => { t with mode := m, castleDue := t.castleDue && m.mode == 1 }
  if m.mode = 1 ∧ m.castlePages ≠ 0 ∧ m.castlePages ≤ s.twin.pagesSince ∧ !s.twin.castleDue then s.castleFallsDue else s

/-- TWIN_SET_MODE's rules. -/
def twinSetModeBody (p : TwinModeReq) (s : State) : Answer :=
  let m := modeOfReq p
  twinGate (firstBad [(m.bad, 0x0C03), (s.unpaired, 0x0C01)]) 0x0C02 m.bytes (fun s => ok (s.setTwinMode m)) s

/-- TWIN_SET_MODE, opcode 0x0C02. -/
def srvTwinSetMode (h : MbHdr) (p : TwinModeReq) (s : State) : State :=
  mbServe { op := 0x0C02, len := 16, rsv := p.rsv != 0 || p.rsv2 != 0 } h (twinSetModeBody p) s
/-- TWIN_SET_MODE. -/
def execTwinSetMode (h : MbHdr) (p : TwinModeReq) (s : State) : Host.Outcome State Fault Refusal :=
  mbCmd h (.twinSetMode h p) (srvTwinSetMode h p) s

/-! ## TWIN_SWITCHBACK, TWIN_RESOLVE -/

/-- Hands LEAD back (Table 09-11's text): at an empty queue, or at once with every queued page marked (spec/02 R57). -/
def State.switchback (atEmpty : Bool) (s : State) : State :=
  if atEmpty then (s.updTwin fun t => { t with atEmpty := true }).castleTry else s.markSwitch.handLead 1

/-- TWIN_SWITCHBACK's rules. -/
def twinSwitchbackBody (flags : Byte) (s : State) : Answer :=
  if s.unpaired then fail 0x0C01 s
  else if s.twin.role != .lead || s.preferred || !s.pairUp then fail 0x0C04 s
  else ok (s.switchback (flags.getLsbD 0))

/-- TWIN_SWITCHBACK, opcode 0x0C03. -/
def srvTwinSwitchback (h : MbHdr) (flags : Byte) (rsv : BitVec 24) (s : State) : State :=
  mbServe { op := 0x0C03, len := 4, rsv := 1 < flags.toNat || rsv != 0 } h (twinSwitchbackBody flags) s
/-- TWIN_SWITCHBACK. -/
def execTwinSwitchback (h : MbHdr) (flags : Byte) (rsv : BitVec 24) (s : State) : Host.Outcome State Fault Refusal :=
  mbCmd h (.twinSwitchback h flags rsv) (srvTwinSwitchback h flags rsv) s

/-- Ends every page this chip admitted, marked ABORTED and TWIN_SWITCH from its first unfired line (R282). -/
def State.endOwnPages (s : State) : State :=
  (s.bat.pages.filter (·.own)).foldl (fun t p =>
    (t.markPage p.handle 14 (min (t.firstUnfired p) (p.lines - 1)) (p.lines - 1)).endPage 12 p.handle) s

/-- Steps down: ROLE KIND 4, RESERVE, its pages ended (R282). -/
def State.stepDown (s : State) : State :=
  let s := s.updTwin fun t => { t with roleSeq := t.roleSeq + 1 }
  let s := s.twinSend (.role (s.roleFrame 4))
  ((s.updTwin fun t => { t with role := .reserve, frozen := false, stalemate := false, pagesSince := 0 }).roleEvent false).endOwnPages

/-- Keeps or takes LEAD and ends the freeze (R283). -/
def State.keepLead (s : State) : State :=
  let was := s.twin.role
  let s := s.updTwin fun t => { t with role := .lead, frozen := false, stalemate := false }
  if was = .lead then s
  else (s.updTwin fun t => { t with roleSeq := t.roleSeq + 1, pagesSince := 0 }).roleEvent false

/-- TWIN_RESOLVE's rules. -/
def twinResolveBody (action : Byte) (s : State) : Answer :=
  if 1 < action.toNat then fail 0x0C03 s
  else if s.unpaired then fail 0x0C01 s
  else if !s.twin.stalemate then fail 0x0C05 s
  else ok (if action = 0 then s.stepDown else s.keepLead)

/-- TWIN_RESOLVE, opcode 0x0C04. -/
def srvTwinResolve (h : MbHdr) (action : Byte) (rsv : BitVec 24) (s : State) : State :=
  mbServe { op := 0x0C04, len := 4, rsv := rsv != 0 } h (twinResolveBody action) s
/-- TWIN_RESOLVE. -/
def execTwinResolve (h : MbHdr) (action : Byte) (rsv : BitVec 24) (s : State) : Host.Outcome State Fault Refusal :=
  mbCmd h (.twinResolve h action rsv) (srvTwinResolve h action rsv) s

end Sys2Proof.Machine
end

