-- ==== Sys2Proof/Machine/Flags.lean ====
section
/-! DEFINITION. What the registers of BAR0 read (spec/12 R333, R334, Tables 12-2 to 12-5, R336, R343; the tables of the other
chapters): the status fields derived from the state, and the 32-bit word at an offset. -/

namespace Sys2Proof.Machine

/-! ## Status fields -/

/-- SYS_STATUS (Table 12-4). -/
def State.sysStatus (s : State) : Nat :=
  s.boot.stage.code + s.boot.bootSlot * 2 ^ 4 + s.boot.bootErr * 2 ^ 8 + bit s.replaceReq 16 + bit (s.boot.debugScope != 0) 17 +
    bit s.host.mbProtocol 18 + bit s.host.restarted 19

/-- The RO fields beside the W1C bits of an alert register (Tables 02-3, 08-2, 09-8, 10-4, 11-3, 14-6; spec/02 R68, spec/06 R203,
spec/07 R230, spec/08 R259, spec/09 R287, spec/11 R319). -/
def State.alertRo (s : State) (r : AlertReg) : Nat :=
  match r with
  | .place => bit s.bat.speedLimit 0
  | .twin => bit s.twin.castleDue 11 + s.roleNow.code * 2 ^ 12 + bit s.supervises 14 + bit s.isFrozen 15
  | .cam => ((List.range 4).map fun n => bit ((s.camN n).st != .stopped) (8 + n)).sum
  | .cal => s.loopState * 2 ^ 9
  | .dram => bit s.dram.mapHotspot 5 + (match s.chDown with | some c => 2 ^ (6 + c) | none => 0) + bit s.single 8
  | .health => s.causes.toNat * 2 ^ 16 + bit s.replaceReq 27
  | .time => (match s.time.st with | .freerun => 0 | .acquiring => 1 | .locked => 2 | .holdover => 3 | .steered => 4) * 2 ^ 8
  | .mot => ((List.range 4).map fun n => bit (s.encN n).fault (20 + n)).sum
  | _ => 0

/-- An alert register as it reads (also spec/11 R319). -/
def State.alertWord (s : State) (r : AlertReg) : Nat := (s.alertOf r).toNat + s.alertRo r

/-- PWR_STATUS (Table 13-8): STEP is the handshake step being asked. -/
def State.pwrStatus (s : State) : Nat :=
  let p := s.pwr
  let step := match p.trans with | some t => t.left.head?.getD 0 | none => 0
  p.st.code % 4 + p.level * 2 ^ 2 + bit p.trans.isSome 4 + step * 2 ^ 5 + bit p.droop 9 + bit p.supplyFault 10 + bit p.lost 11 +
    p.lastWake * 2 ^ 12 + bit p.retBrownout 15 + bit p.wakeFail 16 + bit p.thermalOff 17

/-- STATE of a port (Table 04-3). -/
def LinkSt.code : LinkSt → Nat
  | .off => 0 | .detect => 1 | .train => 2 | .discover => 3 | .load => 4 | .up => 5 | .dropped => 6 | .mismatch => 7

/-- RL_PORT_STATUS (Table 04-15). -/
def Port.status (q : Port) : Nat :=
  q.st.code + q.epoch.toNat * 2 ^ 4 + q.eyeRx.toNat * 2 ^ 8 + q.eyeHead.toNat * 2 ^ 16 + bit q.timeLock 24 + bit q.bank 25 +
    q.dropCause * 2 ^ 26 + bit q.changed 29

/-- STATE of a DMA channel (Table 11-10). -/
def DmaSt.code : DmaSt → Nat
  | .idle => 0 | .ready => 1 | .running => 2 | .done => 3 | .halted => 4 | .stopped => 5

/-- DMA_CH_STATUS (Table 11-10). -/
def Dma.status (d : Dma) : Nat :=
  d.st.code + d.err.toNat * 2 ^ 8 + bit d.doneSet 16 + bit d.haltSet 17 + bit d.ptrErr 18 + bit d.readback 19

/-- The doubleword `k` of a DMA channel block (Table 11-8). -/
def Dma.word (d : Dma) (k : Nat) : Nat :=
  match k with
  | 0 => d.prod.toNat % 2 ^ 32 | 1 => d.prod.toNat / 2 ^ 32
  | 2 => d.cons.toNat % 2 ^ 32 | 3 => d.cons.toNat / 2 ^ 32
  | 4 => d.remain.toNat % 2 ^ 32 | 5 => d.remain.toNat / 2 ^ 32
  | 7 => bit d.runHeld 0 + bit d.stopping 1 + bit d.intEn 3
  | 8 => d.status
  | _ => 0

/-! ## The BAR0 map (Table 12-2) -/

/-- The alert register at an offset, and whether the offset is that of its mask. -/
def alertAt (o : Nat) : Option (AlertReg × Bool) :=
  match o with
  | 0x100 => some (.place, false) | 0x104 => some (.place, true)
  | 0x108 => some (.fire, false) | 0x10C => some (.fire, true)
  | 0x118 => some (.twin, false) | 0x11C => some (.twin, true)
  | 0x120 => some (.pwr, false) | 0x124 => some (.pwr, true)
  | 0x130 => some (.cam, false) | 0x134 => some (.cam, true)
  | 0x138 => some (.cal, false) | 0x13C => some (.cal, true)
  | 0x140 => some (.health, false) | 0x144 => some (.health, true)
  | 0x148 => some (.dram, false) | 0x14C => some (.dram, true)
  | 0x150 => some (.time, false) | 0x154 => some (.time, true)
  | 0x158 => some (.mot, false) | 0x15C => some (.mot, true)
  | 0x160 => some (.log, false) | 0x164 => some (.log, true)
  | _ => none

/-- The response area of a slot as bytes (Table 12-7); RESP_BYTES counts header and payload. -/
def Resp.bytes (r : Resp) : List Byte :=
  le 2 r.opcode.toNat ++ [r.tag, r.gen] ++ le 2 (16 + r.payload.length) ++ le 2 r.status.toNat ++ le 4 r.doneNs.toNat ++ zeros 4 ++
    r.payload

/-- Four bytes of a list as a word. -/
def wordOf (bs : List Byte) (o : Nat) : Nat := ofLe ((bs.drop o).take 4)

/-- INT_PENDING (R343). -/
def State.intPendingWord (s : State) : Nat := ((List.range 42).map fun v => bit (s.intPending v) v).sum

/-- An event record of the window (R384). -/
def State.windowBytes (s : State) (i : Nat) : List Byte :=
  match s.heldRec (s.log.baseSeq + BitVec.ofNat 32 i) with
  | some e => e.bytes
  | none => []

/-- A doubleword of a mailbox slot; a response area never written reads 0. -/
def State.slotWord (s : State) (slot o : Nat) : Nat :=
  if o < 0x800 then ofLe ((List.range 4).map fun i => s.host.reqArea.get 0 (slot * 0x1000 + o + i))
  else if s.host.resp.get {} slot = {} then 0
  else wordOf (s.host.resp.get {} slot).bytes (o - 0x800)

/-- The registers below 0x100, ILK_STATUS, PWR_STATUS, LOG_CURSOR and RL_CONFIG. -/
def State.sysWord (s : State) (o : Nat) : Nat :=
  match o with
  | 0x00 => 0x48961E3C
  | 0x04 => 0xB0
  | 0x08 => s.sysStatus
  | 0x0C => s.boot.fwVersion.toNat
  | 0x10 => s.fuse.serial.toNat % 2 ^ 32
  | 0x14 => s.fuse.serial.toNat / 2 ^ 32
  | 0x40 => s.host.doorbell.toNat
  | 0x44 => s.host.busy.toNat
  | 0x48 => s.host.done.toNat
  | 0x4C => s.host.cancel.toNat
  | 0x50 => s.host.intMask.toNat
  | 0x60 => s.intPendingWord % 2 ^ 32
  | 0x64 => s.intPendingWord / 2 ^ 32
  | 0x110 => s.ilkStatus
  | 0x128 => s.pwrStatus
  | 0x168 => s.log.baseSeq.toNat
  | 0x16C => s.log.nextSeq.toNat
  | 0x200 => s.rlConfig.toNat
  | _ => 0

/-- The doubleword at a BAR0 offset; 0 where Table 12-2 assigns none. -/
def State.reg32 (s : State) (o : Nat) : Nat :=
  if o % 4 ≠ 0 then 0
  else
    match alertAt o with
    | some (r, false) => s.alertWord r
    | some (r, true) => (s.maskOf r).toNat
    | none =>
      if o < 0x204 then s.sysWord o
      else if 0x300 ≤ o ∧ o < 0x3C0 then (s.portN ((o - 0x300) / 4)).status
      else if 0x1000 ≤ o ∧ o < 0x1000 + 80 * 48 then ((s.portN ((o - 0x1000) / 80)).cnt.get 0 ((o - 0x1000) % 80 / 4)).toNat
      else if 0x2000 ≤ o ∧ o < 0x2800 then (s.dmaN ((o - 0x2000) / 64)).word ((o - 0x2000) % 64 / 4)
      else if 0x3000 ≤ o ∧ o < 0x4000 then wordOf (s.windowBytes ((o - 0x3000) / 32)) ((o - 0x3000) % 32)
      else if 0x4000 ≤ o ∧ o < 0x4400 then
        if o % 16 = 12 then bit (s.host.msixVecMask.getLsbD ((o - 0x4000) / 16)) 0 else (s.host.msixTable.get 0 ((o - 0x4000) / 4)).toNat
      else if o = 0x4800 then s.host.msixPba.toNat % 2 ^ 32
      else if o = 0x4804 then s.host.msixPba.toNat / 2 ^ 32
      else if 0x8000 ≤ o ∧ o < 0x10000 then s.slotWord ((o - 0x8000) / 0x1000) (o % 0x1000)
      else 0

end Sys2Proof.Machine
end

