-- ==== Sys2Proof/Machine/MotCmd.lean ====
section
/-! DEFINITION. The MOT commands (spec/08 R243–R258, R261, R262, Tables 08-8 to 08-13). -/

namespace Sys2Proof.Machine

/-- AXIS names one axis. -/
def axisBad (axis : Byte) : Bool := decide (7 < axis.toNat)
/-- AXIS names one axis or all. -/
def axisBadAll (axis : Byte) : Bool := axis != 0xFF && decide (7 < axis.toNat)
/-- The axes named. -/
def axesOf (axis : Byte) : List Nat := if axis = 0xFF then List.range 8 else [axis.toNat]

/-- MOT is gated (spec/01 R35, R258). -/
def State.motClosed (s : State) : Bool := s.motGated
/-- Motion may not start: gated, or the motion block accepted a handshake (spec/13 R359). -/
def State.motHeld (s : State) : Bool := s.motGated || s.stepAccepted 2

/-! ## MOT_SET_AXIS, MOT_SET_RATES, MOT_SET_POSITION -/

/-- An axis is at rest, not geared, and no source of an armed compare (R261). -/
def State.axisFree (s : State) (n : Nat) : Bool :=
  (s.axisN n).st.resting && (s.axisN n).gear.isNone && !s.srcArmed (8 + n)

/-- Settings of a MOT_SET_AXIS payload (Table 08-8). -/
def Axis.configure (p : AxisReq) (a : Axis) : Axis :=
  { a with
    enable := p.flags.getLsbD 0, dirInvert := p.flags.getLsbD 1, stepLow := p.flags.getLsbD 2, ilkStop := p.ilkStop,
    pulseNs := p.pulseNs.toNat, dirSetupNs := p.dirSetupNs.toNat, dirHoldNs := p.dirHoldNs.toNat, vLimit := p.vLimit.toNat,
    qsDecel := p.qsDecel.toNat,
    st := if !p.flags.getLsbD 0 then .disabled else if a.st = .disabled then .idle else a.st }

/-- MOT_SET_AXIS' rules. -/
def motSetAxisBody (p : AxisReq) (s : State) : Answer :=
  checked (firstBad [
      (axisBadAll p.axis, 0x0B01),
      (out p.pulseNs.toNat 50 50000 || out p.dirSetupNs.toNat 20 50000 || out p.dirHoldNs.toNat 20 50000 ||
        out p.vLimit.toNat 1 5000000 || p.qsDecel == 0 || decide (1000000000 < 2 * p.pulseNs.toNat * p.vLimit.toNat), 0x0B02)])
    (fun s => if (axesOf p.axis).all s.axisFree then ok ((axesOf p.axis).foldl (fun t n => t.updAxis n (Axis.configure p)) s)
      else fail 0x0B03 s) s

/-- MOT_SET_AXIS, opcode 0x0B01. -/
def srvMotSetAxis (h : MbHdr) (p : AxisReq) (s : State) : State :=
  mbServe { op := 0x0B01, len := 20, rsv := 7 < p.flags.toNat || p.rsv != 0 || p.rsv2 != 0 } h (motSetAxisBody p) s
/-- MOT_SET_AXIS. -/
def execMotSetAxis (h : MbHdr) (p : AxisReq) (s : State) : Host.Outcome State Fault Refusal :=
  mbCmd h (.motSetAxis h p) (srvMotSetAxis h p) s

/-- The rates of a payload. -/
def ratesOfReq (p : RatesReq) : Rates := ⟨p.vStart.toNat, p.vMax.toNat, p.vStop.toNat, p.accel.toNat, p.decel.toNat⟩

/-- Rates an axis cannot run: R249, or no acceleration at all. -/
def Rates.bad (r : Rates) (a : Axis) : Bool :=
  decide (r.vMax < r.vStart) || decide (r.vMax < r.vStop) || decide (a.vLimit < r.vMax) || r.vMax == 0 || r.accel == 0 || r.decel == 0

/-- The states in which new rates wait (R251). -/
def AxisSt.holdsRates : AxisSt → Bool
  | .decel | .reversing | .table | .geared => true
  | _ => false

/-- New rates, held or in force from the next step with the profile replanned (R251). -/
def State.setRates (r : Rates) (n : Nat) (s : State) : State :=
  let a := s.axisN n
  if a.st.holdsRates then s.updAxis n fun a => { a with heldRates := some r }
  else
    let a := { a with rates := r, heldRates := none }
    if (a.st = .accel ∨ a.st = .cruise) then s.updAxis n fun _ => (a.replan a.target).1 else s.updAxis n fun _ => a

/-- MOT_SET_RATES' rules (Table 08-9). -/
def motSetRatesBody (p : RatesReq) (s : State) : Answer :=
  let r := ratesOfReq p
  checked (firstBad [
      (axisBadAll p.axis, 0x0B01),
      ((axesOf p.axis).any fun n => r.bad (s.axisN n), 0x0B02)])
    (fun s => .done (if (axesOf p.axis).any fun n => (s.axisN n).st.holdsRates then 0x0B04 else 0) []
      ((axesOf p.axis).foldl (fun t n => t.setRates r n) s)) s

/-- MOT_SET_RATES, opcode 0x0B02. -/
def srvMotSetRates (h : MbHdr) (p : RatesReq) (s : State) : State :=
  mbServe { op := 0x0B02, len := 24, rsv := p.rsv != 0 } h (motSetRatesBody p) s
/-- MOT_SET_RATES. -/
def execMotSetRates (h : MbHdr) (p : RatesReq) (s : State) : Host.Outcome State Fault Refusal :=
  mbCmd h (.motSetRates h p) (srvMotSetRates h p) s

/-- MOT_SET_POSITION's rules. -/
def motSetPositionBody (axis : Byte) (position : BitVec 64) (s : State) : Answer :=
  if axisBad axis then fail 0x0B01 s
  else if !s.axisFree axis.toNat then fail 0x0B03 s
  else ok (s.updAxis axis.toNat fun a => { a with pos := position.toInt, target := position.toInt, unhomed := false })

/-- MOT_SET_POSITION, opcode 0x0B0D. -/
def srvMotSetPosition (h : MbHdr) (axis : Byte) (rsv : BitVec 56) (position : BitVec 64) (s : State) : State :=
  mbServe { op := 0x0B0D, len := 16, rsv := rsv != 0 } h (motSetPositionBody axis position) s
/-- MOT_SET_POSITION. -/
def execMotSetPosition (h : MbHdr) (axis : Byte) (rsv : BitVec 56) (position : BitVec 64) (s : State) :
    Host.Outcome State Fault Refusal :=
  mbCmd h (.motSetPosition h axis rsv position) (srvMotSetPosition h axis rsv position) s

/-! ## MOT_MOVE, MOT_STOP, MOT_QUICK_STOP -/

/-- TABLE, GEARED and QUICK_STOPPING (R261). -/
def AxisSt.busy : AxisSt → Bool
  | .table | .geared | .quickStopping => true
  | _ => false

/-- The refusals common to MOT_MOVE, MOT_RUN_TABLE and MOT_GEAR (R261). -/
def State.motRefusal (s : State) (n : Nat) : Option Nat :=
  if !(s.axisN n).enable then some 0x0B08 else if (s.axisN n).st.busy then some 0x0B03 else none

/-- A move to a target (R249, R250). -/
def State.motMove (n : Nat) (target : Int) (s : State) : State :=
  let r := (s.axisN n).replan target
  let s := s.updAxis n fun _ => { r.1 with cause := 0 }
  if r.2 then s.axisDone n else s

/-- MOT_MOVE's rules. -/
def motMoveBody (axis flags : Byte) (target : BitVec 64) (s : State) : Answer :=
  let n := axis.toNat
  if axisBad axis then fail 0x0B01 s
  else
    match s.motRefusal n with
    | some c => fail c s
    | none => ok (s.motMove n (if flags.getLsbD 0 then (s.axisN n).pos + target.toInt else target.toInt))

/-- MOT_MOVE, opcode 0x0B03. -/
def srvMotMove (h : MbHdr) (axis flags : Byte) (rsv : BitVec 48) (target : BitVec 64) (s : State) : State :=
  mbServe { op := 0x0B03, len := 16, rsv := 1 < flags.toNat || rsv != 0, gated := State.motHeld } h (motMoveBody axis flags target) s
/-- MOT_MOVE. -/
def execMotMove (h : MbHdr) (axis flags : Byte) (rsv : BitVec 48) (target : BitVec 64) (s : State) :
    Host.Outcome State Fault Refusal :=
  mbCmd h (.motMove h axis flags rsv target) (srvMotMove h axis flags rsv target) s

/-- MOT_STOP, opcode 0x0B04. -/
def srvMotStop (h : MbHdr) (axis : Byte) (rsv : BitVec 24) (s : State) : State :=
  mbServe { op := 0x0B04, len := 4, rsv := rsv != 0, gated := State.motClosed } h
    (fun s => if axisBadAll axis then fail 0x0B01 s else ok ((axesOf axis).foldl (fun t n => t.axisStop n) s)) s
/-- MOT_STOP. -/
def execMotStop (h : MbHdr) (axis : Byte) (rsv : BitVec 24) (s : State) : Host.Outcome State Fault Refusal :=
  mbCmd h (.motStop h axis rsv) (srvMotStop h axis rsv) s

/-- MOT_QUICK_STOP, opcode 0x0B05. -/
def srvMotQuickStop (h : MbHdr) (axis : Byte) (rsv : BitVec 24) (s : State) : State :=
  mbServe { op := 0x0B05, len := 4, rsv := rsv != 0, gated := State.motClosed } h
    (fun s => if axisBadAll axis then fail 0x0B01 s else ok ((axesOf axis).foldl (fun t n => t.quickStop 1 n) s)) s
/-- MOT_QUICK_STOP. -/
def execMotQuickStop (h : MbHdr) (axis : Byte) (rsv : BitVec 24) (s : State) : Host.Outcome State Fault Refusal :=
  mbCmd h (.motQuickStop h axis rsv) (srvMotQuickStop h axis rsv) s

/-! ## MOT_LOAD_TABLE, MOT_RUN_TABLE (R254) -/

/-- A segment's 16 bytes. -/
def segOf (b : List Byte) : Seg := ⟨ofLe (b.take 4), sext 64 (ofLe ((b.drop 4).take 8)), sext 32 (ofLe ((b.drop 12).take 4))⟩

/-- The segments at an address. -/
def State.segsAt (s : State) (a n : Nat) : List Seg := (List.range n).map fun i => segOf (s.dramRead (a + 16 * i) 16)

/-- FIRST and COUNT out of range. -/
def segRange (first count : Byte) : Bool := decide (63 < first.toNat) || decide (64 < first.toNat + count.toNat)

/-- MOT_LOAD_TABLE's rules. -/
def motLoadTableBody (axis first count : Byte) (addr : BitVec 64) (s : State) : Answer :=
  checked (firstBad [
      (axisBad axis, 0x0B01),
      (segRange first count || !s.addrOk addr.toNat (16 * count.toNat) ||
        (s.segsAt addr.toNat count.toNat).any fun g => decide (g.durationNs < 1000), 0x0B02)])
    (fun s => ok (s.updAxis axis.toNat fun a => { a with segs := SMap.setList {} a.segs first.toNat (s.segsAt addr.toNat count.toNat) })) s

/-- MOT_LOAD_TABLE, opcode 0x0B06. -/
def srvMotLoadTable (h : MbHdr) (axis first count : Byte) (rsv : BitVec 40) (addr : BitVec 64) (s : State) : State :=
  mbServe { op := 0x0B06, len := 16, rsv := rsv != 0, zero := count == 0 } h (motLoadTableBody axis first count addr) s
/-- MOT_LOAD_TABLE. -/
def execMotLoadTable (h : MbHdr) (axis first count : Byte) (rsv : BitVec 40) (addr : BitVec 64) (s : State) :
    Host.Outcome State Fault Refusal :=
  mbCmd h (.motLoadTable h axis first count rsv addr) (srvMotLoadTable h axis first count rsv addr) s

/-- The table cannot run (R254). -/
def tableBad (a : Axis) (segs : List Seg) : Bool :=
  (match segs.getLast? with | some g => g.endVel != 0 | none => true) || (tablePath a.vLimit 0 0 0 segs).2 || !a.st.resting

/-- A table starts; it ends with the time of its last segment. -/
def State.runTable (n : Nat) (segs : List Seg) (s : State) : State :=
  s.updAxis n fun a =>
    let turns := (tablePath a.vLimit 0 0 0 segs).1.map fun x => (x.1, a.pos + x.2)
    { a with
      st := .table, cause := 0, speed2 := 0, target := (turns.getLast?.map (·.2)).getD a.pos, run := some ⟨segs, s.now, a.pos, turns⟩ }

/-- MOT_RUN_TABLE's rules. -/
def motRunTableBody (axis first count : Byte) (s : State) : Answer :=
  let n := axis.toNat
  if axisBad axis then fail 0x0B01 s
  else if segRange first count then fail 0x0B02 s
  else
    match s.motRefusal n with
    | some c => fail c s
    | none =>
      let segs := SMap.getList {} (s.axisN n).segs first.toNat count.toNat
      if tableBad (s.axisN n) segs then fail 0x0B07 s else ok (s.runTable n segs)

/-- MOT_RUN_TABLE, opcode 0x0B07. -/
def srvMotRunTable (h : MbHdr) (axis first count rsv : Byte) (s : State) : State :=
  mbServe { op := 0x0B07, len := 4, rsv := rsv != 0, zero := count == 0, gated := State.motHeld } h (motRunTableBody axis first count) s
/-- MOT_RUN_TABLE. -/
def execMotRunTable (h : MbHdr) (axis first count rsv : Byte) (s : State) : Host.Outcome State Fault Refusal :=
  mbCmd h (.motRunTable h axis first count rsv) (srvMotRunTable h axis first count rsv) s

/-! ## MOT_GEAR, MOT_GEAR_RATIO (R255, R256) -/

/-- The gearing of a payload. -/
def gearOfReq (p : GearReq) : Gear :=
  { engagePos := p.engagePos.toInt, ratio := (p.num.toInt : Rat) / p.den.toNat, blend := p.blendCounts.toNat,
    followLimit := p.followLimit.toNat }

/-- Disengages (R255): the axis decelerates to rest; an engagement still awaited is dropped; STOPPED_QUICK is left (R252). -/
def State.disengage (n : Nat) (s : State) : State :=
  if (s.axisN n).st = .geared then (s.updAxis n fun a => { a with pend := [] }).axisStop n
  else s.updAxis n fun a =>
    if a.st = .stoppedQuick then { a with gear := none, st := .idle, cause := 0 } else { a with gear := none }

/-- MOT_GEAR with ENGAGE: at once, or awaiting ENGAGE_POS. -/
def State.gearOn (n : Nat) (now : Bool) (g : Gear) (s : State) : State :=
  s.updAxis n fun a =>
    let a := { a with cause := 0, st := if a.st = AxisSt.stoppedQuick then .idle else a.st }
    if now then a.engage g else { a with gear := some g }

/-- MOT_GEAR's rules (Table 08-10). Disengaging is accepted in GEARED. -/
def motGearBody (p : GearReq) (s : State) : Answer :=
  let n := p.axis.toNat
  let a := s.axisN n
  let engage := p.flags.getLsbD 0
  checked (firstBad [
      (axisBad p.axis, 0x0B01),
      (p.den == 0 || p.blendCounts == 0 || p.followLimit == 0, 0x0B02),
      (!a.enable, 0x0B08),
      (a.st.busy && (engage || a.st != .geared), 0x0B03),
      (engage && !p.flags.getLsbD 1 && decide (p.engagePos.toInt ≤ (s.encN 0).count * 65536), 0x0B05)])
    (fun s => ok (if engage then s.gearOn n (p.flags.getLsbD 1) (gearOfReq p) else s.disengage n)) s

/-- MOT_GEAR, opcode 0x0B08. -/
def srvMotGear (h : MbHdr) (p : GearReq) (s : State) : State :=
  mbServe { op := 0x0B08, len := 32, rsv := 3 < p.flags.toNat || p.rsv != 0 || p.rsv2 != 0, gated := State.motHeld } h (motGearBody p) s
/-- MOT_GEAR. -/
def execMotGear (h : MbHdr) (p : GearReq) (s : State) : Host.Outcome State Fault Refusal :=
  mbCmd h (.motGear h p) (srvMotGear h p) s

/-- MOT_GEAR_RATIO's rules. -/
def motGearRatioBody (axis : Byte) (num den : BitVec 32) (atPos : BitVec 64) (s : State) : Answer :=
  let n := axis.toNat
  checked (firstBad [
      (axisBad axis, 0x0B01),
      (den == 0, 0x0B02),
      (decide (4 ≤ (s.axisN n).pend.length), 0x0B03),
      (decide (atPos.toInt ≤ (s.encN 0).count * 65536), 0x0B05)])
    (fun s => ok (s.updAxis n fun a => { a with pend := a.pend ++ [(atPos.toInt, (num.toInt : Rat) / den.toNat)] })) s

/-- MOT_GEAR_RATIO, opcode 0x0B09. -/
def srvMotGearRatio (h : MbHdr) (axis : Byte) (rsv : BitVec 24) (num den rsv2 : BitVec 32) (atPos : BitVec 64) (s : State) : State :=
  mbServe { op := 0x0B09, len := 24, rsv := rsv != 0 || rsv2 != 0, gated := State.motClosed } h (motGearRatioBody axis num den atPos) s
/-- MOT_GEAR_RATIO. -/
def execMotGearRatio (h : MbHdr) (axis : Byte) (rsv : BitVec 24) (num den rsv2 : BitVec 32) (atPos : BitVec 64) (s : State) :
    Host.Outcome State Fault Refusal :=
  mbCmd h (.motGearRatio h axis rsv num den rsv2 atPos) (srvMotGearRatio h axis rsv num den rsv2 atPos) s

/-! ## MOT_SET_COMPARE (R243–R246) -/

/-- A compare of a payload, armed. -/
def trigOfReq (p : CompareReq) : Trig :=
  { mode := p.mode.toNat, source := p.source.toNat, dir := p.flags.toNat % 4, activeLow := p.flags.getLsbD 2,
    widthNs := p.widthNs.toNat, position := p.position.toInt,
    interval := if p.mode = 2 then p.interval.toNat else 0, repeats := if p.mode = 2 then p.repeats.toNat else 1, st := .armed }

/-- A first point strictly ahead of the count in the compare's direction (R244). -/
def pointAhead (dir : Nat) (count point : Int) : Bool :=
  if dir = 0 then decide (count * 65536 < point) else if dir = 1 then decide (point < count * 65536) else point != count * 65536

/-- MOT_SET_COMPARE's rules (Table 08-11). -/
def motSetCompareBody (p : CompareReq) (s : State) : Answer :=
  let n := p.trig.toNat
  let t := trigOfReq p
  checked (firstBad [
      (decide (7 < n), 0x0B01),
      (decide (2 < t.mode), 0x0B02),
      (decide (3 < t.source) && out t.source 8 15, 0x0B01),
      (t.dir == 3 || out t.widthNs 20 1000000000 || (t.mode == 2 && decide (t.interval < 65536)), 0x0B02),
      ((s.trigN n).st == .cameraOwned, 0x0B06)])
    (fun s =>
      if t.mode = 0 then ok (s.updTrig n fun _ => { t with st := .idle })
      else if pointAhead t.dir (s.srcCount t.source) t.position then ok (s.updTrig n fun _ => t)
      else fail 0x0B09 (s.trigMissed n)) s

/-- MOT_SET_COMPARE, opcode 0x0B0A. -/
def srvMotSetCompare (h : MbHdr) (p : CompareReq) (s : State) : State :=
  mbServe { op := 0x0B0A, len := 24, rsv := 7 < p.flags.toNat, zero := p.mode == 2 && p.repeats == 0, gated := State.motClosed } h
    (motSetCompareBody p) s
/-- MOT_SET_COMPARE. -/
def execMotSetCompare (h : MbHdr) (p : CompareReq) (s : State) : Host.Outcome State Fault Refusal :=
  mbCmd h (.motSetCompare h p) (srvMotSetCompare h p) s

/-! ## MOT_GET_STATUS, MOT_GET_COMPARE -/

/-- The state's code (Table 08-12). -/
def AxisSt.code : AxisSt → Nat
  | .idle => 0 | .accel => 1 | .cruise => 2 | .decel => 3 | .reversing => 4 | .table => 5 | .geared => 6 | .quickStopping => 7
  | .stoppedQuick => 8 | .disabled => 9

/-- Gearing that awaits ENGAGE_POS. -/
def Axis.awaits (a : Axis) : Bool := match a.gear with | some g => !g.engaged | none => false

/-- q − position of an engaged axis, rounded down. -/
def Axis.followErr (a : Axis) : Int :=
  match a.gear with | some g => if g.engaged then (g.q - a.pos).floor else 0 | none => 0

/-- The MOT_GET_STATUS response. -/
def State.axisBytes (s : State) (n : Nat) : List Byte :=
  let a := s.axisN n
  le 1 a.st.code ++ le 1 (bit a.heldRates.isSome 0 + bit a.awaits 1 + bit a.unhomed 2) ++ le 1 a.cause ++ le 1 a.pend.length ++
    le 4 a.stepLate.toNat ++ leI 8 a.pos ++ leI 8 (s.axisVel a) ++ leI 8 a.target ++ leI 4 a.followErr ++ zeros 4

/-- MOT_GET_STATUS, opcode 0x0B0B. -/
def srvMotGetStatus (h : MbHdr) (axis : Byte) (rsv : BitVec 24) (s : State) : State :=
  mbServe { op := 0x0B0B, len := 4, rsv := rsv != 0 } h
    (fun s => if axisBad axis then fail 0x0B01 s else okWith (s.axisBytes axis.toNat) s) s
/-- MOT_GET_STATUS. -/
def execMotGetStatus (h : MbHdr) (axis : Byte) (rsv : BitVec 24) (s : State) : Host.Outcome State Fault Refusal :=
  mbCmd h (.motGetStatus h axis rsv) (srvMotGetStatus h axis rsv) s

/-- A compare's state code (Table 08-13). -/
def TrigSt.code : TrigSt → Nat
  | .idle => 0 | .armed => 1 | .done => 2 | .cameraOwned => 3

/-- The MOT_GET_COMPARE response. -/
def Trig.bytes (t : Trig) : List Byte :=
  le 1 t.st.code ++ le 1 t.mode ++ zeros 2 ++ le 4 t.fired.toNat ++ le 4 t.missed.toNat ++ zeros 4 ++ le 8 t.lastSec.toNat ++
    le 4 t.lastNs.toNat ++ zeros 4 ++ leI 8 t.next

/-- MOT_GET_COMPARE, opcode 0x0B0C. -/
def srvMotGetCompare (h : MbHdr) (trig : Byte) (rsv : BitVec 24) (s : State) : State :=
  mbServe { op := 0x0B0C, len := 4, rsv := rsv != 0 } h
    (fun s => if 7 < trig.toNat then fail 0x0B01 s else okWith (s.trigN trig.toNat).bytes s) s
/-- MOT_GET_COMPARE. -/
def execMotGetCompare (h : MbHdr) (trig : Byte) (rsv : BitVec 24) (s : State) : Host.Outcome State Fault Refusal :=
  mbCmd h (.motGetCompare h trig rsv) (srvMotGetCompare h trig rsv) s

/-! ## The motion events -/

/-- AXIS_STEP: an axis issues a step. Nothing steps while MOT is gated. -/
def execAxisStep (axis : Nat) (s : State) : Host.Outcome State Fault Refusal :=
  evt (fun s => if s.motGated then s else s.axisStep axis) s

/-- TRIG_PULSE_END: an output returns inactive (R243). -/
def execTrigPulseEnd (trig : Nat) (s : State) : Host.Outcome State Fault Refusal :=
  evt (fun s => if 7 < trig then s else s.updTrig trig fun t => { t with active := false }) s

end Sys2Proof.Machine
end

