-- ==== Sys2Proof/Machine/Requests.lean ====
section
/-! DEFINITION. The command that the bytes of a request area spell (spec/12 R335, Table 12-6, and the payload table of each command), and the
header and opcode of a command. -/

namespace Sys2Proof.Machine

/-- Bytes of a payload; those beyond its end are 0. -/
def part (b : List Byte) (o n : Nat) : List Byte := ((b.drop o).take n) ++ zeros (n - (b.drop o).length)

/-- Consecutive values of `w` bits. -/
def vals (w : Nat) (b : List Byte) (o n : Nat) : List (BitVec w) :=
  (List.range n).map fun i => BitVec.ofNat w (fieldAt b (o + w / 8 * i) (w / 8))

/-- A field of a payload as a bit vector. -/
def valAt {w : Nat} (b : List Byte) (o n : Nat) : BitVec w := BitVec.ofNat w (fieldAt b o n)

/-- The SYS requests: opcode, header, payload. -/
def reqSys (op : Nat) (h : MbHdr) (b : List Byte) : Option Instr :=
  match op with
  | 0x0101 => some (.sysGetInfo h)
  | 0x0102 => some (.sysReset h (byteAt b 0) (valAt b 1 3))
  | 0x0103 => some (.sysUpdateBegin h (byteAt b 0) (valAt b 1 3))
  | 0x0104 => some (.sysUpdateData h (valAt b 0 4) (valAt b 4 4) (valAt b 8 8) (part b 16 (fieldAt b 4 4)))
  | 0x0105 => some (.sysUpdateEnd h)
  | 0x0106 => some (.sysSetSvn h (valAt b 0 2) (valAt b 2 2))
  | 0x0107 => some (.sysRevokeKey h (byteAt b 0) (valAt b 1 3))
  | 0x0108 => some (.sysDebugChallenge h)
  | 0x0109 => some (.sysDebugUnlock h (byteAt b 0) (valAt b 1 3) (part b 4 97) (valAt b 101 3) (part b 104 48) (part b 152 48))
  | 0x010A => some (.sysRecoveryLoad h (valAt b 0 4) (valAt b 4 4) (valAt b 8 8) (part b 16 (fieldAt b 4 4)))
  | 0x010B => some (.sysRecoveryBoot h)
  | _ => none

/-- The BAR requests: opcode, header, payload. -/
def reqBar (op : Nat) (h : MbHdr) (b : List Byte) : Option Instr :=
  match op with
  | 0x0201 => some (.barSetWeb h ⟨byteAt b 0, byteAt b 1, valAt b 2 2, valAt b 4 4, valAt b 8 4, valAt b 12 4, valAt b 16 4, valAt b
      20 2, valAt b 22 2, valAt b 24 2, valAt b 26 2, valAt b 28 2, valAt b 30 2⟩)
  | 0x0202 => some (.barSetPort h ⟨byteAt b 0, byteAt b 1, valAt b 2 2, valAt b 4 4, valAt b 8 4, valAt b 12 4⟩)
  | 0x0203 => some (.barCommit h)
  | 0x0204 => some (.barSetPolicy h (byteAt b 0) (byteAt b 1) (valAt b 2 2))
  | 0x0205 => some (.barGet h)
  | 0x0206 => some (.barGetPort h (byteAt b 0) (valAt b 1 3))
  | _ => none

/-- The HEAD requests: opcode, header, payload. -/
def reqHead (op : Nat) (h : MbHdr) (b : List Byte) : Option Instr :=
  match op with
  | 0x0301 => some (.headGetInfo h (byteAt b 0) (valAt b 1 3))
  | 0x0302 => some (.headSetDrive h (byteAt b 0) (byteAt b 1) (valAt b 2 2) (valAt b 4 2) (valAt b 6 2))
  | 0x0303 => some (.headSetChar h (byteAt b 0) (byteAt b 1) (valAt b 2 2) (vals 16 b 4 128))
  | 0x0304 => some (.headSetThermal h ⟨byteAt b 0, byteAt b 1, valAt b 2 2, valAt b 4 2, valAt b 6 2, valAt b 8 2, valAt b 10 2⟩)
  | 0x0305 => some (.headResume h (byteAt b 0) (valAt b 1 3))
  | 0x0306 => some (.headGetNozzle h (byteAt b 0) (byteAt b 1) (valAt b 2 2) (valAt b 4 2) (valAt b 6 2))
  | 0x0307 => some (.headSetNozzle h (byteAt b 0) (byteAt b 1) (valAt b 2 2) (valAt b 4 4))
  | 0x0308 => some (.headMeasure h (byteAt b 0) (valAt b 1 3))
  | _ => none

/-- The FIRE requests: opcode, header, payload. -/
def reqFire (op : Nat) (h : MbHdr) (b : List Byte) : Option Instr :=
  match op with
  | 0x0401 => some (.fireSetLevels h (valAt b 0 2) (valAt b 2 2) (valAt b 4 2) (valAt b 6 2))
  | 0x0402 => some (.fireSetComp h (byteAt b 0) (byteAt b 1) (byteAt b 2) (byteAt b 3))
  | 0x0403 => some (.fireSetWarm h (byteAt b 0) (byteAt b 1) (valAt b 2 2) (valAt b 4 4))
  | 0x0404 => some (.fireSetMeasure h (valAt b 0 4))
  | 0x0405 => some (.fireSetIlk h (byteAt b 0) (byteAt b 1) (valAt b 2 2) (vals 16 b 4 8))
  | 0x0406 => some (.fireArm h)
  | 0x0407 => some (.fireDisarm h)
  | 0x0408 => some (.fireGetHiding h)
  | _ => none

/-- The PAGE requests: opcode, header, payload. -/
def reqPage (op : Nat) (h : MbHdr) (b : List Byte) : Option Instr :=
  match op with
  | 0x0501 => some (.pageAdmit h ⟨byteAt b 0, byteAt b 1, valAt b 2 2, valAt b 4 4, valAt b 8 8, valAt b 16 4, valAt b 20 4⟩)
  | 0x0502 => some (.pageAbort h (byteAt b 0) (byteAt b 1) (valAt b 2 2))
  | 0x0503 => some (.pageQuery h (byteAt b 0) (valAt b 1 3))
  | 0x0504 => some (.pageReport h (byteAt b 0) (valAt b 1 3))
  | 0x0505 => some (.pageGetWeb h)
  | _ => none

/-- The SLATE requests: opcode, header, payload. -/
def reqSlate (op : Nat) (h : MbHdr) (b : List Byte) : Option Instr :=
  match op with
  | 0x0601 => some (.slateOpen h (byteAt b 0) (byteAt b 1) (valAt b 2 2) (valAt b 4 4))
  | 0x0602 => some (.slateBind h (valAt b 0 2) (byteAt b 2) (byteAt b 3) (valAt b 4 4))
  | 0x0603 => some (.slateStatus h (valAt b 0 2) (valAt b 2 2))
  | 0x0604 => some (.slateStreamStatus h (valAt b 0 2) (byteAt b 2) (byteAt b 3))
  | 0x0605 => some (.slateFree h (valAt b 0 2) (valAt b 2 2))
  | 0x0606 => some (.slateStoreInfo h)
  | 0x0607 => some (.slateEncOpen h ⟨byteAt b 0, byteAt b 1, byteAt b 2, byteAt b 3, valAt b 4 2, valAt b 6 2, valAt b 8 4⟩)
  | 0x0608 => some (.slateEncClose h (byteAt b 0) (valAt b 1 3))
  | 0x0609 => some (.slateStateRead h (byteAt b 0) (byteAt b 1) (valAt b 2 6) (valAt b 8 8))
  | 0x060A => some (.slateEncRestore h (byteAt b 0) (byteAt b 1) (valAt b 2 6) (valAt b 8 8))
  | 0x060B => some (.slateGetCounters h)
  | _ => none

/-- The CAM requests: opcode, header, payload. -/
def reqCam (op : Nat) (h : MbHdr) (b : List Byte) : Option Instr :=
  match op with
  | 0x0701 => some (.camSetLink h ⟨byteAt b 0, byteAt b 1, byteAt b 2, byteAt b 3, byteAt b 4, byteAt b 5, valAt b 6 2, valAt b 8 2,
      valAt b 10 2⟩)
  | 0x0702 => some (.camSetPlace h ⟨byteAt b 0, byteAt b 1, byteAt b 2, byteAt b 3, valAt b 4 4, valAt b 8 4, valAt b 12 4, valAt b
      16 4⟩)
  | 0x0703 => some (.camSetExposure h ⟨byteAt b 0, byteAt b 1, valAt b 2 2, valAt b 4 4, valAt b 8 2, valAt b 10 2, vals 16 b 12 6⟩)
  | 0x0704 => some (.camLoadFlat h (byteAt b 0) (byteAt b 1) (valAt b 2 6) (valAt b 8 8))
  | 0x0705 => some (.camStart h (byteAt b 0) (valAt b 1 7) (valAt b 8 8))
  | 0x0706 => some (.camStop h (byteAt b 0) (byteAt b 1) (valAt b 2 2))
  | 0x0707 => some (.camGetStatus h (byteAt b 0) (valAt b 1 3))
  | 0x0708 => some (.camGetFrames h (byteAt b 0) (byteAt b 1) (valAt b 2 2))
  | _ => none

/-- The VIS requests: opcode, header, payload. -/
def reqVis (op : Nat) (h : MbHdr) (b : List Byte) : Option Instr :=
  match op with
  | 0x0801 => some (.visSetNr h (byteAt b 0) (byteAt b 1) (byteAt b 2) (byteAt b 3) (valAt b 4 4))
  | 0x0802 => some (.visSetMatrix h (byteAt b 0) (valAt b 1 3) (vals 16 b 4 9) (vals 16 b 22 3))
  | 0x0803 => some (.visSetPreview h ⟨byteAt b 0, byteAt b 1, byteAt b 2, byteAt b 3, valAt b 4 4, valAt b 8 8⟩)
  | 0x0804 => some (.visSetEgress h (byteAt b 0) (byteAt b 1) (byteAt b 2) (byteAt b 3))
  | 0x0805 => some (.visSetDefect h ⟨byteAt b 0, byteAt b 1, valAt b 2 2, valAt b 4 2, valAt b 6 2, valAt b 8 2, valAt b 10 2⟩)
  | 0x0806 => some (.visGetDefects h (valAt b 0 4) (valAt b 4 2) (valAt b 6 2))
  | 0x0807 => some (.visThatchArm h ⟨byteAt b 0, byteAt b 1, byteAt b 2, byteAt b 3, valAt b 4 4, valAt b 8 4, valAt b 12 8, valAt b
      20 2, valAt b 22 2, valAt b 24 2, valAt b 26 2⟩)
  | 0x0808 => some (.visGetDensity h (valAt b 0 4) (valAt b 4 4) (valAt b 8 8))
  | 0x0809 => some (.visGetStatus h)
  | _ => none

/-- The CAL requests: opcode, header, payload. -/
def reqCal (op : Nat) (h : MbHdr) (b : List Byte) : Option Instr :=
  match op with
  | 0x0901 => some (.calSetLoop h ⟨byteAt b 0, byteAt b 1, valAt b 2 2, valAt b 4 4, valAt b 8 2, valAt b 10 2, valAt b 12 2, valAt
      b 14 2, valAt b 16 2, valAt b 18 2⟩)
  | 0x0902 => some (.calGetStatus h)
  | 0x0903 => some (.calGetColumns h (valAt b 0 4) (valAt b 4 4) (valAt b 8 8))
  | 0x0904 => some (.calSetFactory h (byteAt b 0) (byteAt b 1) (valAt b 2 2) (valAt b 4 4) (valAt b 8 8))
  | 0x0905 => some (.calRecal h ⟨byteAt b 0, byteAt b 1, valAt b 2 2, valAt b 4 2, valAt b 6 2, valAt b 8 4⟩)
  | 0x0906 => some (.calRecalStop h (byteAt b 0) (valAt b 1 3))
  | _ => none

/-- The NVM requests: opcode, header, payload. -/
def reqNvm (op : Nat) (h : MbHdr) (b : List Byte) : Option Instr :=
  match op with
  | 0x1001 => some (.nvmGetStatus h)
  | 0x1002 => some (.nvmRead h (valAt b 0 4) (valAt b 4 4) (valAt b 8 8))
  | 0x1003 => some (.nvmCompact h)
  | 0x1004 => some (.nvmEraseCal h)
  | _ => none

/-- The ENC requests: opcode, header, payload. -/
def reqEnc (op : Nat) (h : MbHdr) (b : List Byte) : Option Instr :=
  match op with
  | 0x0A01 => some (.encSetInput h ⟨byteAt b 0, byteAt b 1, byteAt b 2, byteAt b 3, valAt b 4 4, part b 8 24⟩)
  | 0x0A02 => some (.encGetStatus h (byteAt b 0) (valAt b 1 3))
  | 0x0A03 => some (.encSetCount h (byteAt b 0) (valAt b 1 7) (valAt b 8 8))
  | _ => none

/-- The MOT requests: opcode, header, payload. -/
def reqMot (op : Nat) (h : MbHdr) (b : List Byte) : Option Instr :=
  match op with
  | 0x0B01 => some (.motSetAxis h ⟨byteAt b 0, byteAt b 1, byteAt b 2, byteAt b 3, valAt b 4 2, valAt b 6 2, valAt b 8 2, valAt b 10
      2, valAt b 12 4, valAt b 16 4⟩)
  | 0x0B02 => some (.motSetRates h ⟨byteAt b 0, valAt b 1 3, valAt b 4 4, valAt b 8 4, valAt b 12 4, valAt b 16 4, valAt b 20 4⟩)
  | 0x0B03 => some (.motMove h (byteAt b 0) (byteAt b 1) (valAt b 2 6) (valAt b 8 8))
  | 0x0B04 => some (.motStop h (byteAt b 0) (valAt b 1 3))
  | 0x0B05 => some (.motQuickStop h (byteAt b 0) (valAt b 1 3))
  | 0x0B06 => some (.motLoadTable h (byteAt b 0) (byteAt b 1) (byteAt b 2) (valAt b 3 5) (valAt b 8 8))
  | 0x0B07 => some (.motRunTable h (byteAt b 0) (byteAt b 1) (byteAt b 2) (byteAt b 3))
  | 0x0B08 => some (.motGear h ⟨byteAt b 0, byteAt b 1, valAt b 2 2, valAt b 4 4, valAt b 8 4, valAt b 12 4, valAt b 16 4, valAt b
      20 4, valAt b 24 8⟩)
  | 0x0B09 => some (.motGearRatio h (byteAt b 0) (valAt b 1 3) (valAt b 4 4) (valAt b 8 4) (valAt b 12 4) (valAt b 16 8))
  | 0x0B0A => some (.motSetCompare h ⟨byteAt b 0, byteAt b 1, byteAt b 2, byteAt b 3, valAt b 4 4, valAt b 8 8, valAt b 16 4, valAt
      b 20 4⟩)
  | 0x0B0B => some (.motGetStatus h (byteAt b 0) (valAt b 1 3))
  | 0x0B0C => some (.motGetCompare h (byteAt b 0) (valAt b 1 3))
  | 0x0B0D => some (.motSetPosition h (byteAt b 0) (valAt b 1 7) (valAt b 8 8))
  | _ => none

/-- The TWIN requests: opcode, header, payload. -/
def reqTwin (op : Nat) (h : MbHdr) (b : List Byte) : Option Instr :=
  match op with
  | 0x0C01 => some (.twinGetStatus h)
  | 0x0C02 => some (.twinSetMode h ⟨byteAt b 0, byteAt b 1, valAt b 2 2, valAt b 4 2, valAt b 6 2, valAt b 8 4, valAt b 12 2, valAt
      b 14 2⟩)
  | 0x0C03 => some (.twinSwitchback h (byteAt b 0) (valAt b 1 3))
  | 0x0C04 => some (.twinResolve h (byteAt b 0) (valAt b 1 3))
  | _ => none

/-- The TIME requests: opcode, header, payload. -/
def reqTime (op : Nat) (h : MbHdr) (b : List Byte) : Option Instr :=
  match op with
  | 0x0D01 => some (.timeSetClock h ⟨valAt b 0 4, valAt b 4 4, valAt b 8 2, byteAt b 10, byteAt b 11, valAt b 12 4, valAt b 16 2,
      valAt b 18 2, valAt b 20 2, valAt b 22 2, valAt b 24 4, valAt b 28 2, valAt b 30 2⟩)
  | 0x0D02 => some (.timeSetPtp h ⟨byteAt b 0, byteAt b 1, byteAt b 2, byteAt b 3, byteAt b 4, byteAt b 5, valAt b 6 2, valAt b 8 2,
      byteAt b 10, byteAt b 11⟩)
  | 0x0D03 => some (.timeSetPort h ⟨byteAt b 0, byteAt b 1, byteAt b 2, byteAt b 3, byteAt b 4, byteAt b 5, valAt b 6 6, valAt b 12
      4, valAt b 16 2, valAt b 18 2⟩)
  | 0x0D04 => some (.timeSetAsym h (byteAt b 0) (byteAt b 1) (valAt b 2 2) (valAt b 4 4))
  | 0x0D05 => some (.timeGetStatus h)
  | 0x0D06 => some (.timeGetTime h)
  | 0x0D07 => some (.timeSetCalendar h (valAt b 0 6) (valAt b 6 2))
  | 0x0D08 => some (.timeSetPress h (byteAt b 0) (valAt b 1 3) (valAt b 4 4) (valAt b 8 8))
  | 0x0D09 => some (.timeSendStop h)
  | 0x0D0A => some (.timeGetPress h (byteAt b 0) (valAt b 1 3))
  | _ => none

/-- The PWR requests: opcode, header, payload. -/
def reqPwr (op : Nat) (h : MbHdr) (b : List Byte) : Option Instr :=
  match op with
  | 0x0E01 => some (.pwrSetState h (byteAt b 0) (valAt b 1 3))
  | 0x0E02 => some (.pwrSetLevel h (byteAt b 0) (valAt b 1 3))
  | 0x0E03 => some (.pwrSetRetention h (valAt b 0 8) (valAt b 8 2) (valAt b 10 6))
  | 0x0E04 => some (.pwrSetWake h (byteAt b 0) (byteAt b 1) (valAt b 2 6) (valAt b 8 8))
  | 0x0E05 => some (.pwrSetDroop h (valAt b 0 2) (valAt b 2 2) (valAt b 4 2) (valAt b 6 2))
  | 0x0E06 => some (.pwrSetSupply h (byteAt b 0) (byteAt b 1) (valAt b 2 2) (valAt b 4 2) (valAt b 6 2))
  | 0x0E07 => some (.pwrGetStatus h)
  | _ => none

/-- The LOG requests: opcode, header, payload. -/
def reqLog (op : Nat) (h : MbHdr) (b : List Byte) : Option Instr :=
  match op with
  | 0x0F01 => some (.logStatus h)
  | 0x0F02 => some (.logClear h (valAt b 0 4))
  | 0x0F03 => some (.logSet h (byteAt b 0) (valAt b 1 3))
  | 0x0F04 => some (.logRead h (valAt b 0 4) (valAt b 4 2) (valAt b 6 2))
  | _ => none

/-- The HEALTH requests: opcode, header, payload. -/
def reqHealth (op : Nat) (h : MbHdr) (b : List Byte) : Option Instr :=
  match op with
  | 0x1301 => some (.healthGetReport h)
  | 0x1302 => some (.healthClear h (valAt b 0 2) (valAt b 2 2))
  | 0x1303 => some (.healthSet h (valAt b 0 2) (valAt b 2 2))
  | 0x1304 => some (.healthUnretire h (byteAt b 0) (byteAt b 1) (valAt b 2 2))
  | _ => none

/-- The DRAM requests: opcode, header, payload. -/
def reqDram (op : Nat) (h : MbHdr) (b : List Byte) : Option Instr :=
  match op with
  | 0x1101 => some (.dramGetConfig h)
  | 0x1102 => some (.dramSetMap h (byteAt b 0) (byteAt b 1) (valAt b 2 6) (vals 64 b 8 6))
  | 0x1103 => some (.dramSetRegions h (valAt b 0 2) (valAt b 2 2) (valAt b 4 2) (valAt b 6 2))
  | 0x1104 => some (.dramGetRegions h)
  | 0x1105 => some (.dramSetQos h (part b 0 7) (byteAt b 7) (byteAt b 8) (byteAt b 9) (valAt b 10 2))
  | 0x1106 => some (.dramSetHealth h (valAt b 0 2) (valAt b 2 2) (valAt b 4 4) (valAt b 8 2) (valAt b 10 2))
  | 0x1107 => some (.dramGetCounters h (byteAt b 0) (valAt b 1 3))
  | 0x1108 => some (.dramRetire h (byteAt b 0) (byteAt b 1) (valAt b 2 2))
  | _ => none

/-- The DMA requests: opcode, header, payload. -/
def reqDma (op : Nat) (h : MbHdr) (b : List Byte) : Option Instr :=
  match op with
  | 0x1201 => some (.dmaSetChannel h ⟨byteAt b 0, byteAt b 1, byteAt b 2, byteAt b 3, byteAt b 4, byteAt b 5, byteAt b 6, byteAt b
      7, valAt b 8 8, valAt b 16 8, valAt b 24 8⟩)
  | 0x1202 => some (.dmaGetChannel h (byteAt b 0) (valAt b 1 3))
  | _ => none

/-- The command of a request; none for a reserved or undefined opcode (spec/00 R10, R11). -/
def reqOf (op : Nat) (h : MbHdr) (b : List Byte) : Option Instr :=
  match op / 256 with
  | 0x01 => reqSys op h b
  | 0x02 => reqBar op h b
  | 0x03 => reqHead op h b
  | 0x04 => reqFire op h b
  | 0x05 => reqPage op h b
  | 0x06 => reqSlate op h b
  | 0x07 => reqCam op h b
  | 0x08 => reqVis op h b
  | 0x09 => reqCal op h b
  | 0x10 => reqNvm op h b
  | 0x0A => reqEnc op h b
  | 0x0B => reqMot op h b
  | 0x0C => reqTwin op h b
  | 0x0D => reqTime op h b
  | 0x0E => reqPwr op h b
  | 0x0F => reqLog op h b
  | 0x13 => reqHealth op h b
  | 0x11 => reqDram op h b
  | 0x12 => reqDma op h b
  | _ => none

/-- Header and opcode of a mailbox command. -/
def mailOf : Instr → Option (MbHdr × Nat)
  | .sysGetInfo h => some (h, 0x0101)
  | .sysReset h _ _ => some (h, 0x0102)
  | .sysUpdateBegin h _ _ => some (h, 0x0103)
  | .sysUpdateData h _ _ _ _ => some (h, 0x0104)
  | .sysUpdateEnd h => some (h, 0x0105)
  | .sysSetSvn h _ _ => some (h, 0x0106)
  | .sysRevokeKey h _ _ => some (h, 0x0107)
  | .sysDebugChallenge h => some (h, 0x0108)
  | .sysDebugUnlock h _ _ _ _ _ _ => some (h, 0x0109)
  | .sysRecoveryLoad h _ _ _ _ => some (h, 0x010A)
  | .sysRecoveryBoot h => some (h, 0x010B)
  | .barSetWeb h _ => some (h, 0x0201)
  | .barSetPort h _ => some (h, 0x0202)
  | .barCommit h => some (h, 0x0203)
  | .barSetPolicy h _ _ _ => some (h, 0x0204)
  | .barGet h => some (h, 0x0205)
  | .barGetPort h _ _ => some (h, 0x0206)
  | .headGetInfo h _ _ => some (h, 0x0301)
  | .headSetDrive h _ _ _ _ _ => some (h, 0x0302)
  | .headSetChar h _ _ _ _ => some (h, 0x0303)
  | .headSetThermal h _ => some (h, 0x0304)
  | .headResume h _ _ => some (h, 0x0305)
  | .headGetNozzle h _ _ _ _ _ => some (h, 0x0306)
  | .headSetNozzle h _ _ _ _ => some (h, 0x0307)
  | .headMeasure h _ _ => some (h, 0x0308)
  | .fireSetLevels h _ _ _ _ => some (h, 0x0401)
  | .fireSetComp h _ _ _ _ => some (h, 0x0402)
  | .fireSetWarm h _ _ _ _ => some (h, 0x0403)
  | .fireSetMeasure h _ => some (h, 0x0404)
  | .fireSetIlk h _ _ _ _ => some (h, 0x0405)
  | .fireArm h => some (h, 0x0406)
  | .fireDisarm h => some (h, 0x0407)
  | .fireGetHiding h => some (h, 0x0408)
  | .pageAdmit h _ => some (h, 0x0501)
  | .pageAbort h _ _ _ => some (h, 0x0502)
  | .pageQuery h _ _ => some (h, 0x0503)
  | .pageReport h _ _ => some (h, 0x0504)
  | .pageGetWeb h => some (h, 0x0505)
  | .slateOpen h _ _ _ _ => some (h, 0x0601)
  | .slateBind h _ _ _ _ => some (h, 0x0602)
  | .slateStatus h _ _ => some (h, 0x0603)
  | .slateStreamStatus h _ _ _ => some (h, 0x0604)
  | .slateFree h _ _ => some (h, 0x0605)
  | .slateStoreInfo h => some (h, 0x0606)
  | .slateEncOpen h _ => some (h, 0x0607)
  | .slateEncClose h _ _ => some (h, 0x0608)
  | .slateStateRead h _ _ _ _ => some (h, 0x0609)
  | .slateEncRestore h _ _ _ _ => some (h, 0x060A)
  | .slateGetCounters h => some (h, 0x060B)
  | .camSetLink h _ => some (h, 0x0701)
  | .camSetPlace h _ => some (h, 0x0702)
  | .camSetExposure h _ => some (h, 0x0703)
  | .camLoadFlat h _ _ _ _ => some (h, 0x0704)
  | .camStart h _ _ _ => some (h, 0x0705)
  | .camStop h _ _ _ => some (h, 0x0706)
  | .camGetStatus h _ _ => some (h, 0x0707)
  | .camGetFrames h _ _ _ => some (h, 0x0708)
  | .visSetNr h _ _ _ _ _ => some (h, 0x0801)
  | .visSetMatrix h _ _ _ _ => some (h, 0x0802)
  | .visSetPreview h _ => some (h, 0x0803)
  | .visSetEgress h _ _ _ _ => some (h, 0x0804)
  | .visSetDefect h _ => some (h, 0x0805)
  | .visGetDefects h _ _ _ => some (h, 0x0806)
  | .visThatchArm h _ => some (h, 0x0807)
  | .visGetDensity h _ _ _ => some (h, 0x0808)
  | .visGetStatus h => some (h, 0x0809)
  | .calSetLoop h _ => some (h, 0x0901)
  | .calGetStatus h => some (h, 0x0902)
  | .calGetColumns h _ _ _ => some (h, 0x0903)
  | .calSetFactory h _ _ _ _ _ => some (h, 0x0904)
  | .calRecal h _ => some (h, 0x0905)
  | .calRecalStop h _ _ => some (h, 0x0906)
  | .nvmGetStatus h => some (h, 0x1001)
  | .nvmRead h _ _ _ => some (h, 0x1002)
  | .nvmCompact h => some (h, 0x1003)
  | .nvmEraseCal h => some (h, 0x1004)
  | .encSetInput h _ => some (h, 0x0A01)
  | .encGetStatus h _ _ => some (h, 0x0A02)
  | .encSetCount h _ _ _ => some (h, 0x0A03)
  | .motSetAxis h _ => some (h, 0x0B01)
  | .motSetRates h _ => some (h, 0x0B02)
  | .motMove h _ _ _ _ => some (h, 0x0B03)
  | .motStop h _ _ => some (h, 0x0B04)
  | .motQuickStop h _ _ => some (h, 0x0B05)
  | .motLoadTable h _ _ _ _ _ => some (h, 0x0B06)
  | .motRunTable h _ _ _ _ => some (h, 0x0B07)
  | .motGear h _ => some (h, 0x0B08)
  | .motGearRatio h _ _ _ _ _ _ => some (h, 0x0B09)
  | .motSetCompare h _ => some (h, 0x0B0A)
  | .motGetStatus h _ _ => some (h, 0x0B0B)
  | .motGetCompare h _ _ => some (h, 0x0B0C)
  | .motSetPosition h _ _ _ => some (h, 0x0B0D)
  | .twinGetStatus h => some (h, 0x0C01)
  | .twinSetMode h _ => some (h, 0x0C02)
  | .twinSwitchback h _ _ => some (h, 0x0C03)
  | .twinResolve h _ _ => some (h, 0x0C04)
  | .timeSetClock h _ => some (h, 0x0D01)
  | .timeSetPtp h _ => some (h, 0x0D02)
  | .timeSetPort h _ => some (h, 0x0D03)
  | .timeSetAsym h _ _ _ _ => some (h, 0x0D04)
  | .timeGetStatus h => some (h, 0x0D05)
  | .timeGetTime h => some (h, 0x0D06)
  | .timeSetCalendar h _ _ => some (h, 0x0D07)
  | .timeSetPress h _ _ _ _ => some (h, 0x0D08)
  | .timeSendStop h => some (h, 0x0D09)
  | .timeGetPress h _ _ => some (h, 0x0D0A)
  | .pwrSetState h _ _ => some (h, 0x0E01)
  | .pwrSetLevel h _ _ => some (h, 0x0E02)
  | .pwrSetRetention h _ _ _ => some (h, 0x0E03)
  | .pwrSetWake h _ _ _ _ => some (h, 0x0E04)
  | .pwrSetDroop h _ _ _ _ => some (h, 0x0E05)
  | .pwrSetSupply h _ _ _ _ _ => some (h, 0x0E06)
  | .pwrGetStatus h => some (h, 0x0E07)
  | .logStatus h => some (h, 0x0F01)
  | .logClear h _ => some (h, 0x0F02)
  | .logSet h _ _ => some (h, 0x0F03)
  | .logRead h _ _ _ => some (h, 0x0F04)
  | .healthGetReport h => some (h, 0x1301)
  | .healthClear h _ _ => some (h, 0x1302)
  | .healthSet h _ _ => some (h, 0x1303)
  | .healthUnretire h _ _ _ => some (h, 0x1304)
  | .dramGetConfig h => some (h, 0x1101)
  | .dramSetMap h _ _ _ _ => some (h, 0x1102)
  | .dramSetRegions h _ _ _ _ => some (h, 0x1103)
  | .dramGetRegions h => some (h, 0x1104)
  | .dramSetQos h _ _ _ _ _ => some (h, 0x1105)
  | .dramSetHealth h _ _ _ _ _ => some (h, 0x1106)
  | .dramGetCounters h _ _ => some (h, 0x1107)
  | .dramRetire h _ _ _ => some (h, 0x1108)
  | .dmaSetChannel h _ => some (h, 0x1201)
  | .dmaGetChannel h _ _ => some (h, 0x1202)
  | _ => none

end Sys2Proof.Machine
end

