-- ==== Sys2Proof/Machine/TimeOps.lean ====
section
/-! DEFINITION. Operations on the local clock (spec/10 R289–R295): slew and step, the servo, the clock states, holdover, and the
best master clock algorithm of IEEE 1588-2019 (Table 10-1). -/

namespace Sys2Proof.Machine

/-! ## Increments and the clock (R290) -/

/-- A share of NOMINAL_INC in ppb, toward zero. -/
def TimeUnit.ofPpb (t : TimeUnit) (ppb : Int) : Int := (t.nominalInc.toNat * ppb).tdiv 1000000000

/-- The increment's offset from NOMINAL_INC in ppb, to the nearest. -/
def TimeUnit.freqPpb (t : TimeUnit) : Int :=
  let d : Int := (t.inc.toNat : Int) - t.nominalInc.toNat
  if t.nominalInc = 0 then 0 else (d * 2000000000 + t.nominalInc.toNat) / (2 * (t.nominalInc.toNat : Int))

/-- A value within bounds. -/
def clampI (lo hi v : Int) : Int := max lo (min hi v)

/-- A correction in ppb takes effect within MAX_ADJ_PPB and FREQ_STEP_PPB (R290). -/
def TimeUnit.slewTo (ppb : Int) (t : TimeUnit) : TimeUnit :=
  let want := (t.nominalInc.toNat : Int) + t.ofPpb (clampI (-t.maxAdjPpb) t.maxAdjPpb ppb)
  let d := t.ofPpb t.freqStepPpb
  { t with inc := BitVec.ofInt 32 (clampI (t.inc.toNat - d) (t.inc.toNat + d) want) }

/-- The increment in FREERUN: NOMINAL_INC, or MAX_ADJ_PPB from it while a correction is slewed. -/
def TimeUnit.freeRun (t : TimeUnit) : TimeUnit :=
  { t with inc := if t.slew = 0 then t.nominalInc
      else BitVec.ofInt 32 (t.nominalInc.toNat + t.ofPpb (if 0 < t.slew then t.maxAdjPpb else -t.maxAdjPpb)) }

/-- Moves a held timestamp. -/
def moveT (d : Int) (t : Option Int) : Option Int := t.map (· + d)

/-- Moves the timestamps of an encoder. -/
def Enc.shiftT (d : Int) (e : Enc) : Enc :=
  { e with lastEdge := moveT d e.lastEdge, lastRise := moveT d e.lastRise, frameAt := moveT d e.frameAt,
           lastSec := LocalTime.ofUnits ((e.lastSec.units : Int) + d).toNat }

/-- Moves the timestamps of a compare. -/
def Trig.shiftT (d : Int) (t : Trig) : Trig :=
  let l := LocalTime.ofUnits (((({ sec := t.lastSec, ns := t.lastNs } : LocalTime).units : Int) + d).toNat)
  { t with lastSec := l.sec, lastNs := l.ns }

/-- Moves the estimator's window. -/
def Est.shiftT (d : Int) (e : Est) : Est := { e with window := e.window.map fun x => (x.1, x.2 + d), tN := e.tN + d }

/-- Moves the times of a released line, by 1/256 ns. -/
def Line.shiftT (d : Int) (l : Line) : Line :=
  { l with port := l.port.map fun e => (e.1, { e.2 with fire := e.2.fire + d, ceasedAt := moveT d e.2.ceasedAt }) }

/-- Moves the times of the Batten queue: what fired, and where ENC_0 was (R85, R40). -/
def Batten.shiftT (d : Int) (b : Batten) : Batten :=
  let e := d / 65536
  { b with
    lines := b.lines.map (Line.shiftT e), lastOwn := b.lastOwn.map fun x => (x.1, moveT e x.2),
    lastNoz := b.lastNoz.map fun x => (x.1, x.2.map fun y => (y.1, moveT e y.2)), fireEdges := b.fireEdges.map fun x => (x.1, x.2 + d),
    checks := b.checks.map fun c => (c.1, c.2.1, c.2.2.1, c.2.2.2.1, c.2.2.2.2 + e) }

/-- Moves the times of the lines sent on a Ridge port, by 1/256 ns. -/
def Port.shiftT (d : Int) (q : Port) : Port :=
  { q with awaiting := q.awaiting.map fun a => (a.1, a.2 + d), lastFireT := moveT d q.lastFireT }

/-- A step of the clock by `d` units of 2^-24 ns (R290): every held timestamp moves with it, and every Ridge port in UP
resyncs. -/
def State.stepClock (d : Int) (s : State) : State :=
  let s := s.updTime fun t => { t with
    clock := LocalTime.ofUnits ((t.clock.units : Int) + d).toNat, steps := t.steps + 1, slew := 0 }
  let s := (List.range 4).foldl (fun t n => t.updEnc n (Enc.shiftT d)) s
  let s := (List.range 8).foldl (fun t n =>
    if (t.trigN n).fired = 0 then t else t.updTrig n (Trig.shiftT d)) (s.updEst (Est.shiftT d))
  let s := (List.range 4).foldl (fun t n => t.updCam n fun k =>
    { k with lastTrig := moveT d k.lastTrig, times := k.times.map fun e => (e.1, e.2 + d) }) s
  let s := (List.range 8).foldl (fun t n => t.updAxis n fun a =>
    { a with run := a.run.map fun r => { r with startT := r.startT + d } }) s
  let s := (s.updBat (Batten.shiftT d)).updPorts fun m => m.map fun e => (e.1, e.2.shiftT (d / 65536))
  let s := s.updTwin fun t => { t with evidence := t.evidence.map fun e => (((e.1 : Int) + d / 65536).toNat, e.2) }
  let s := s.updTime fun t => { t with port := t.port.map fun e => (e.1, { e.2 with reqNs := moveT (d / 16777216) e.2.reqNs }) }
  let s := s.raise .time 1
  (List.range 48).foldl (fun t p => if (t.portN p).st = .up then t.resyncPort p rowForced else t) s

/-- A correction of `d` units may be a step now (R290). -/
def State.mayStep (s : State) (d : Int) : Bool :=
  s.time.stepEn && decide (s.time.stepNs * 16777216 < d.natAbs) && s.bat.pages.isEmpty

/-! ## Clock states (Table 10-2) -/

/-- The clock enters a state; STATE_CHANGE where it differs. -/
def State.setClockSt (st : ClockSt) (s : State) : State :=
  if s.time.st = st then s else (s.updTime fun t => { t with st := st }).raise .time 0

/-- Keeps an increment of LOCKED operation, with the window of HOLD_AVG_S. -/
def TimeUnit.remember (t : TimeUnit) : TimeUnit :=
  { t with history := ((t.ticks, t.inc.toNat) :: t.history).filter fun e => decide (t.ticks ≤ e.1 + t.holdAvgS * ticksPerSec) }

/-- The increment HOLDOVER holds (R294): the mean over the window, or the last when it was locked for less time. -/
def TimeUnit.holdInc (t : TimeUnit) : Nat :=
  if t.st = .locked ∧ t.lockTick + t.holdAvgS * ticksPerSec ≤ t.ticks ∧ !t.history.isEmpty then
    (t.history.map (·.2)).sum / t.history.length
  else t.inc.toNat

/-- F of R294 in ppb: the largest deviation from that mean, at least 1. -/
def TimeUnit.holdDev (t : TimeUnit) (mean : Nat) : Rat :=
  (t.history.map fun e => |((e.2 : Rat) - mean)| * 1000000000 / mean).foldl max 1

/-- HOLDOVER begins (R294). -/
def State.enterHoldover (s : State) : State :=
  let t := s.time
  let m := t.holdInc
  (s.updTime fun t => { t with
    inc := BitVec.ofNat 32 m, holdMean := m, holdF := t.holdDev m, e0 := t.offsetNs.natAbs, holdTick := t.ticks,
    holdovers := t.holdovers + 1, history := [], lockRun := 0, integral := 0 }).setClockSt .holdover

/-- HOLDOVER from ACQUIRING or LOCKED. -/
def State.loseMaster (s : State) : State :=
  if s.time.st = .acquiring ∨ s.time.st = .locked then s.enterHoldover else s

/-- E(t) in ns (R294); |OFFSET_NS| outside HOLDOVER. -/
def TimeUnit.estErr (t : TimeUnit) : Rat :=
  if t.st = .holdover then
    let x : Rat := ((t.ticks - t.holdTick : Nat) : Rat) / ticksPerSec
    t.e0 + t.holdF * x + (t.aging : Rat) / 256 * x * x / 2
  else t.offsetNs.natAbs

/-! ## The servo (R290, R293) -/

/-- What the servo asks for in ppb (R293): KP and KI in Q0.16 weigh the offset and the sum of the offsets. -/
def TimeUnit.servoPpb (t : TimeUnit) : Int :=
  -nearest (Config.servoGain * ((t.kp * t.offsetNs + t.ki * t.integral : Int) : Rat) / 65536)

/-- One servo update from an offset to the master in ns: a step where one is allowed, else a slew. -/
def State.servo (offset : Int) (s : State) : State :=
  let d := -offset * 16777216
  let s := s.updTime fun t => { t with offsetNs := offset, integral := t.integral + offset }
  if s.mayStep d then s.stepClock d
  else if s.time.stepEn && decide (s.time.stepNs < offset.natAbs) then
    s.updTime fun t => t.slewTo (if 0 < offset then -t.maxAdjPpb else t.maxAdjPpb)
  else s.updTime fun t => t.slewTo t.servoPpb

/-- A Sync's offset takes the clock through ACQUIRING to LOCKED (Table 10-2). -/
def State.syncOffset (offset : Int) (s : State) : State :=
  let s := if s.time.st = .freerun ∨ s.time.st = .holdover then
      (s.updTime fun t => { t with lockRun := 0, integral := 0, slew := 0 }).setClockSt .acquiring
    else s
  let s := s.servo offset
  let s := s.updTime fun t => { t with lockRun := if offset.natAbs < t.lockNs then t.lockRun + 1 else 0 }
  let s := if s.time.st = .acquiring ∧ 16 ≤ s.time.lockRun then
      (s.updTime fun t => { t with lockTick := t.ticks, history := [] }).setClockSt .locked
    else s
  if s.time.st = .locked then s.updTime TimeUnit.remember else s

/-- A correction of the clock in FREERUN by `d` units (TIME_SET_CALENDAR, under R290): a step, or a slew at MAX_ADJ_PPB. -/
def State.correctFree (d : Int) (s : State) : State :=
  if d = 0 then s
  else if s.mayStep d then s.stepClock d
  else s.updTime fun t => TimeUnit.freeRun { t with slew := d }

/-! ## Ports and the best master clock (R291, R293, R295) -/

def State.ethN (s : State) (p : Nat) : EthPort := s.time.port.get {} p
def State.updEth (p : Nat) (f : EthPort → EthPort) (s : State) : State := s.updTime fun t => { t with port := t.port.upd {} p f }

/-- A port takes part in PTP under the role. -/
def State.ptpOn (s : State) (p : Nat) : Bool :=
  (s.ethN p).flags.getLsbD 0 && decide (p < 2) &&
    (match s.time.role with | 0 => false | 1 => p == 0 | _ => true)

/-- The clockIdentity of this chip: the EUI-64 of port 0's MAC (PRESUMED: IEEE 1588). -/
def State.clockId (s : State) : BitVec 64 :=
  let m := s.ethN 0 |>.mac
  let b := fun i => (m.extractLsb' (8 * i) 8 : BitVec 8)
  b 0 ++ b 1 ++ b 2 ++ (0xFFFE : BitVec 16) ++ b 3 ++ b 4 ++ b 5

/-- The data set of the chip's own clock. -/
def State.ownData (s : State) : AnnounceMsg :=
  let t := s.time
  { domain := BitVec.ofNat 8 t.domain, priority1 := t.priority1, clockClass := t.clockClass, clockAccuracy := t.clockAccuracy,
    oslv := t.oslv, priority2 := t.priority2, gmIdentity := s.clockId, stepsRemoved := 0, senderIdentity := s.clockId,
    utcOffset := BitVec.ofNat 16 t.utcOffset, utcValid := t.utcValid }

/-- What the best master clock algorithm takes for this chip: its own data set, or as the STEERED chip of a pair the preferred chip's parent and
grandmaster data one step further (R295). -/
def State.bmcData (s : State) : AnnounceMsg :=
  match s.time.st, s.twin.gm with
  | .steered, some m => { m with stepsRemoved := m.stepsRemoved + 1, senderIdentity := s.clockId }
  | _, _ => s.ownData

/-- The grandmaster's rank as one number, lower better. -/
def gmRank (m : AnnounceMsg) : Nat :=
  ((((m.priority1.toNat * 256 + m.clockClass.toNat) * 256 + m.clockAccuracy.toNat) * 65536 + m.oslv.toNat) * 256 +
    m.priority2.toNat) * 2 ^ 64 + m.gmIdentity.toNat

/-- The data set comparison of IEEE 1588: by grandmaster, then by path. -/
def gmBetter (a b : AnnounceMsg) : Bool :=
  if a.gmIdentity ≠ b.gmIdentity then decide (gmRank a < gmRank b)
  else if a.stepsRemoved ≠ b.stepsRemoved then decide (a.stepsRemoved.toNat < b.stepsRemoved.toNat)
  else decide (a.senderIdentity.toNat < b.senderIdentity.toNat)

/-- The best announced clock and the port that hears it. -/
def State.ebest (s : State) : Option (Nat × AnnounceMsg) :=
  ([0, 1].filter s.ptpOn).foldl (fun b p =>
    match (s.ethN p).best, b with
    | some m, some (q, n) => if gmBetter m n then some (p, m) else some (q, n)
    | some m, none => some (p, m)
    | none, b => b) none

/-- The state the algorithm gives a port (R291, R295). -/
def State.portDecision (s : State) (p : Nat) : PtpSt :=
  let own := s.bmcData
  let q := s.ethN p
  if !s.ptpOn p then .disabled
  else if q.best.isNone && q.st == .listening then .listening
  else if s.time.role = 3 ∨ own.clockClass.toNat ≤ 127 then
    (match q.best with | some m => if gmBetter m own then .passive else .master | none => .master)
  else
    match s.ebest with
    | none => .master
    | some (e, m) =>
      if gmBetter own m then .master
      else if p = e then (if s.time.st = ClockSt.steered then .passive else .slave)
      else
        match q.best with
        | some n => if n.gmIdentity = m.gmIdentity then .passive else .master
        | none => .master

/-- The port in SLAVE. -/
def State.slavePort (s : State) : Option Nat := [0, 1].find? fun p => (s.ethN p).st == .slave

/-- Runs the algorithm: port states, the parent's data, MASTER_CHANGE and HOLDOVER (Tables 10-2, 10-4). -/
def State.bmca (s : State) : State :=
  let was := s.slavePort
  let d0 := s.portDecision 0
  let d1 := s.portDecision 1
  let s := (s.updEth 0 fun q => { q with st := d0 }).updEth 1 fun q => { q with st := d1 }
  let m := s.slavePort.bind fun p => (s.ethN p).best
  let pair := if s.time.st = .steered then s.twin.gm else none
  let gm := match m, pair with | some m, _ => m.gmIdentity | none, some m => m.gmIdentity | none, none => if s.time.role = 0 then 0 else s.clockId
  let parent := m.map (·.senderIdentity)
  let changed := s.time.parent.isSome && (parent != s.time.parent || (m.map (·.gmIdentity)) != some s.time.gmIdentity)
  let s := if gm = s.time.gmIdentity then s else s.raise .time 2
  let s := s.updTime fun t => { t with
    gmIdentity := gm, parent := parent, stepsRemoved := match m <|> pair with | some m => m.stepsRemoved + 1 | none => 0,
    rxUtcOffset := match m <|> pair with | some m => m.utcOffset.toNat | none => t.rxUtcOffset,
    utcValid := match m <|> pair with | some m => m.utcValid | none => false,
    pathNs := match s.slavePort with | some p => (s.ethN p).pathNs | none => t.pathNs }
  if changed || (was.isSome && s.slavePort != was) then s.loseMaster else s

/-- PTP starts again on every port (TIME_SET_PTP, TIME_SET_PORT). -/
def State.ptpRestart (s : State) : State :=
  let s := [0, 1].foldl (fun t p => t.updEth p fun q => { q with
    best := none, syncDiff := none, reqNs := none, st := if t.ptpOn p then .listening else .disabled }) s
  let s := s.bmca
  if s.time.st ≠ .steered ∧ (s.time.role = 0 ∨ s.time.role = 3) then
    (s.updTime fun t => (if t.st = .freerun then t else { t with slew := 0 }).freeRun).setClockSt .freerun
  else s

/-- A discarded frame is counted (R291, R292). -/
def State.ethDiscard (s : State) : State := s.updTime fun t => { t with discarded := t.discarded + 1 }

end Sys2Proof.Machine
end

