-- ==== Sys2Proof/Machine/TimeCmd.lean ====
section
/-! DEFINITION. The TIME commands (spec/10 R289–R303, Tables 10-6 to 10-9). -/

namespace Sys2Proof.Machine

/-! ## TIME_SET_CLOCK, TIME_SET_PTP, TIME_SET_PORT, TIME_SET_ASYM -/

/-- The field ranges of Table 10-6. -/
def clockBad (p : ClockReq) : Bool :=
  decide (1000 * 0x02800000 < ((p.nominalInc.toNat : Int) - 0x02800000).natAbs * 1000000) || out p.maxAdjPpb.toNat 1000 1000000 ||
    out p.freqStepPpb.toNat 1 10000 || decide (1 < p.stepEn.toNat) || out p.stepNs.toNat 100 1000000000 || out p.lockNs.toNat 10 10000 ||
    out p.holdAvgS.toNat 1 3600 || out p.holdLimitNs.toNat 10 1000000000

/-- Clock parameters come into force; a new NOMINAL_INC at once in FREERUN. -/
def State.setClock (p : ClockReq) (s : State) : State :=
  s.updTime fun t => { t with
    nominalInc := p.nominalInc, maxAdjPpb := p.maxAdjPpb.toNat, freqStepPpb := p.freqStepPpb.toNat, stepEn := p.stepEn == 1,
    stepNs := p.stepNs.toNat, kp := p.kp.toNat, ki := p.ki.toNat, lockNs := p.lockNs.toNat, holdAvgS := p.holdAvgS.toNat,
    holdLimitNs := p.holdLimitNs.toNat, aging := p.agingPpbS.toNat } |> fun t => if t.st = .freerun then t.freeRun else t

/-- TIME_SET_CLOCK, opcode 0x0D01. -/
def srvTimeSetClock (h : MbHdr) (p : ClockReq) (s : State) : State :=
  mbServe { op := 0x0D01, len := 32, rsv := p.rsv != 0 || p.rsv2 != 0 } h
    (fun s => if clockBad p then fail 0x0D01 s else ok (s.setClock p)) s
/-- TIME_SET_CLOCK. -/
def execTimeSetClock (h : MbHdr) (p : ClockReq) (s : State) : Host.Outcome State Fault Refusal :=
  mbCmd h (.timeSetClock h p) (srvTimeSetClock h p) s

/-- ROLE needs a port that is disabled (Table 10-10). -/
def roleConflict (role : Nat) (on0 on1 : Bool) : Bool := ((role == 1 || role == 2) && !on0) || (role == 2 && !on1)

/-- PTP settings come into force. -/
def State.setPtp (p : PtpReq) (s : State) : State :=
  (s.updTime fun t => { t with
    role := p.role.toNat, domain := p.domain.toNat, priority1 := p.priority1, priority2 := p.priority2, clockClass := p.clockClass,
    clockAccuracy := p.clockAccuracy, oslv := p.oslv, utcOffset := p.utcOffset.toNat, barId := p.barId.toNat }).ptpRestart

/-- TIME_SET_PTP's rules (Table 10-7). -/
def timeSetPtpBody (p : PtpReq) (s : State) : Answer :=
  checked (firstBad [
      (decide (3 < p.role.toNat) || decide (127 < p.domain.toNat) || decide (63 < p.barId.toNat), 0x0D01),
      (roleConflict p.role.toNat ((s.ethN 0).flags.getLsbD 0) ((s.ethN 1).flags.getLsbD 0), 0x0D04)])
    (fun s => ok (s.setPtp p)) s

/-- TIME_SET_PTP, opcode 0x0D02. -/
def srvTimeSetPtp (h : MbHdr) (p : PtpReq) (s : State) : State :=
  mbServe { op := 0x0D02, len := 12, rsv := p.rsv != 0 } h (timeSetPtpBody p) s
/-- TIME_SET_PTP. -/
def execTimeSetPtp (h : MbHdr) (p : PtpReq) (s : State) : Host.Outcome State Fault Refusal :=
  mbCmd h (.timeSetPtp h p) (srvTimeSetPtp h p) s

/-- The field ranges of Table 10-8. -/
def ethBad (p : EthPortReq) : Bool :=
  outI p.logSync.toInt (-7) 1 || outI p.logDelay.toInt (-7) 1 || outI p.logAnnounce.toInt (-3) 4 || out p.announceTimeout.toNat 2 10 ||
    p.mac.getLsbD 0 || decide (10000 < p.ingressLatNs.toNat) || decide (10000 < p.egressLatNs.toNat)

/-- Port settings come into force. -/
def State.setEth (p : EthPortReq) (s : State) : State :=
  (s.updEth p.port.toNat fun q => { q with
    flags := p.flags, logSync := p.logSync.toInt, logDelay := p.logDelay.toInt, logAnnounce := p.logAnnounce.toInt,
    announceTimeout := p.announceTimeout.toNat, mac := p.mac, ipv4 := p.ipv4, ingressLatNs := p.ingressLatNs.toNat,
    egressLatNs := p.egressLatNs.toNat }).ptpRestart

/-- Port `q` would be enabled after the payload. -/
def State.ethOnAfter (s : State) (p : EthPortReq) (q : Nat) : Bool :=
  if p.port.toNat = q then p.flags.getLsbD 0 else (s.ethN q).flags.getLsbD 0

/-- TIME_SET_PORT's rules. -/
def timeSetPortBody (p : EthPortReq) (s : State) : Answer :=
  checked (firstBad [
      (decide (1 < p.port.toNat), 0x0D02),
      (ethBad p, 0x0D01),
      (roleConflict s.time.role (s.ethOnAfter p 0) (s.ethOnAfter p 1), 0x0D04)])
    (fun s => ok (s.setEth p)) s

/-- TIME_SET_PORT, opcode 0x0D03. -/
def srvTimeSetPort (h : MbHdr) (p : EthPortReq) (s : State) : State :=
  mbServe { op := 0x0D03, len := 20, rsv := 31 < p.flags.toNat } h (timeSetPortBody p) s
/-- TIME_SET_PORT. -/
def execTimeSetPort (h : MbHdr) (p : EthPortReq) (s : State) : Host.Outcome State Fault Refusal :=
  mbCmd h (.timeSetPort h p) (srvTimeSetPort h p) s

/-- KIND and INDEX name no port. -/
def asymBad (kind index : Byte) : Bool :=
  match kind.toNat with
  | 0 => decide (1 < index.toNat)
  | 1 => decide (47 < index.toNat)
  | 2 => index != 0
  | _ => true

/-- An asymmetry comes into force (R297). -/
def State.setAsym (kind index : Nat) (ps : Int) (s : State) : State :=
  s.updTime fun t =>
    match kind with
    | 0 => { t with asymEth := t.asymEth.set 0 index ps }
    | 1 => { t with asymRidge := t.asymRidge.set 0 index ps }
    | _ => { t with asymTwin := ps }

/-- TIME_SET_ASYM, opcode 0x0D04. -/
def srvTimeSetAsym (h : MbHdr) (kind index : Byte) (rsv : BitVec 16) (asymPs : BitVec 32) (s : State) : State :=
  mbServe { op := 0x0D04, len := 8, rsv := rsv != 0 } h
    (fun s => if asymBad kind index then fail 0x0D02 s else if outI asymPs.toInt (-1000000) 1000000 then fail 0x0D01 s
      else ok (s.setAsym kind.toNat index.toNat asymPs.toInt)) s
/-- TIME_SET_ASYM. -/
def execTimeSetAsym (h : MbHdr) (kind index : Byte) (rsv : BitVec 16) (asymPs : BitVec 32) (s : State) :
    Host.Outcome State Fault Refusal :=
  mbCmd h (.timeSetAsym h kind index rsv asymPs) (srvTimeSetAsym h kind index rsv asymPs) s

/-! ## TIME_GET_STATUS, TIME_GET_TIME -/

/-- The clock state's code (Table 10-2). -/
def ClockSt.code : ClockSt → Nat
  | .freerun => 0 | .acquiring => 1 | .locked => 2 | .holdover => 3 | .steered => 4

/-- portState of IEEE 1588. -/
def PtpSt.code : PtpSt → Nat
  | .disabled => 3 | .listening => 4 | .master => 6 | .passive => 7 | .slave => 9

/-- UTC_OFFSET in force. -/
def TimeUnit.utcNow (t : TimeUnit) : Nat := if t.parent.isSome || t.st == .steered && t.utcValid then t.rxUtcOffset else t.utcOffset

/-- The TIME_GET_STATUS response (Table 10-9). -/
def State.timeBytes (s : State) : List Byte :=
  let t := s.time
  le 1 t.st.code ++ le 1 ((s.ethN 0).st.code + (s.ethN 1).st.code * 16) ++ le 2 t.stepsRemoved.toNat ++ leI 4 t.offsetNs ++
    le 4 t.pathNs.toNat ++ le 4 (min 0xFFFFFFFF t.estErr.floor.toNat) ++ leI 4 t.freqPpb ++ le 8 t.gmIdentity.toNat ++ le 2 t.utcNow ++
    zeros 2 ++ le 4 t.steps.toNat ++ le 4 t.holdovers.toNat ++ le 4 t.discarded.toNat ++ le 4 t.pressAccepted.toNat

/-- TIME_GET_STATUS, opcode 0x0D05. -/
def srvTimeGetStatus (h : MbHdr) (s : State) : State := mbServe { op := 0x0D05, len := 0 } h (fun s => okWith s.timeBytes s) s
/-- TIME_GET_STATUS. -/
def execTimeGetStatus (h : MbHdr) (s : State) : Host.Outcome State Fault Refusal := mbCmd h (.timeGetStatus h) (srvTimeGetStatus h) s

/-- The TIME_GET_TIME response: local time, calendar time, CALENDAR_VALID (log 19), rounded up to 4 bytes (spec/12 R335). -/
def State.timeNow (s : State) : List Byte := s.time.clock.bytes ++ le 8 s.calendar64 ++ le 1 s.time.calValid.toNat ++ zeros 3

/-- TIME_GET_TIME, opcode 0x0D06. -/
def srvTimeGetTime (h : MbHdr) (s : State) : State := mbServe { op := 0x0D06, len := 0 } h (fun s => okWith s.timeNow s) s
/-- TIME_GET_TIME. -/
def execTimeGetTime (h : MbHdr) (s : State) : Host.Outcome State Fault Refusal := mbCmd h (.timeGetTime h) (srvTimeGetTime h) s

/-! ## TIME_SET_CALENDAR (R298) -/

/-- The network disciplines the RTC. -/
def State.ptpOwns (s : State) : Bool := (s.time.st == .locked || s.time.st == .steered) && s.time.utcValid

/-- The RTC's rate is measured against the local clock and the crystal trimmed to within 1 ppm (R298). -/
def State.trimRtc (s : State) : State :=
  s.updTime fun t => { t with rtcTrim := clampI (-1000) 1000 (Config.trimErrPpb t.ticks) - Config.crystalPpb }

/-- The RTC takes a calendar time in units of 2^-16 s. -/
def State.setRtc (sec : BitVec 48) (frac : BitVec 16) (s : State) : State :=
  s.updTime fun t => { t with calSec := sec, calFrac := frac, calTick := t.ticks, calValid := true }

/-- FRACTION in ns: × 15,258.79, rounded down. -/
def fracNs (f : Nat) : Nat := f * 1525879 / 100

/-- TIME_SET_CALENDAR's effect; in FREERUN the local clock follows under R290. -/
def State.setCalendar (sec : BitVec 48) (frac : BitVec 16) (s : State) : State :=
  let s := s.setRtc sec frac
  if s.time.st = .freerun then
    let t : LocalTime := { sec := sec + BitVec.ofNat 48 s.time.utcOffset, ns := BitVec.ofNat 32 (fracNs frac.toNat) }
    s.correctFree ((t.units : Int) - s.time.clock.units)
  else s

/-- TIME_SET_CALENDAR, opcode 0x0D07. -/
def srvTimeSetCalendar (h : MbHdr) (seconds : BitVec 48) (fraction : BitVec 16) (s : State) : State :=
  mbServe { op := 0x0D07, len := 8 } h
    (fun s => if s.ptpOwns then fail 0x0D03 s else ok (s.setCalendar seconds fraction)) s
/-- TIME_SET_CALENDAR. -/
def execTimeSetCalendar (h : MbHdr) (seconds : BitVec 48) (fraction : BitVec 16) (s : State) : Host.Outcome State Fault Refusal :=
  mbCmd h (.timeSetCalendar h seconds fraction) (srvTimeSetCalendar h seconds fraction) s

/-! ## Press messages (R299–R301) -/

/-- TIME_SET_PRESS, opcode 0x0D08. -/
def srvTimeSetPress (h : MbHdr) (flags : Byte) (rsv : BitVec 24) (group : BitVec 32) (rxMask : BitVec 64) (s : State) : State :=
  mbServe { op := 0x0D08, len := 16, rsv := 7 < flags.toNat || rsv != 0 } h
    (fun s => ok (s.updTime fun t => { t with pressFlags := flags, pressGroup := group, rxMask := rxMask })) s
/-- TIME_SET_PRESS. -/
def execTimeSetPress (h : MbHdr) (flags : Byte) (rsv : BitVec 24) (group : BitVec 32) (rxMask : BitVec 64) (s : State) :
    Host.Outcome State Fault Refusal :=
  mbCmd h (.timeSetPress h flags rsv group rxMask) (srvTimeSetPress h flags rsv group rxMask) s

/-- TIME_SEND_STOP, opcode 0x0D09. -/
def srvTimeSendStop (h : MbHdr) (s : State) : State :=
  mbServe { op := 0x0D09, len := 0 } h (fun s => ok (s.pressSend 2 2 0 0 0 0)) s
/-- TIME_SEND_STOP. -/
def execTimeSendStop (h : MbHdr) (s : State) : Host.Outcome State Fault Refusal := mbCmd h (.timeSendStop h) (srvTimeSendStop h) s

/-- The newest `n` messages of the ring, newest first, those not received as zeros. -/
def TimeUnit.pressNewest (t : TimeUnit) (n : Nat) : List Byte :=
  (List.range n).flatMap fun i => match t.pressRing[i]? with | some m => m | none => zeros 52

/-- TIME_GET_PRESS, opcode 0x0D0A. -/
def srvTimeGetPress (h : MbHdr) (count : Byte) (rsv : BitVec 24) (s : State) : State :=
  mbServe { op := 0x0D0A, len := 4, rsv := rsv != 0, zero := count == 0 } h
    (fun s => if 16 < count.toNat then fail 0x0D01 s else okWith (s.time.pressNewest count.toNat) s) s
/-- TIME_GET_PRESS. -/
def execTimeGetPress (h : MbHdr) (count : Byte) (rsv : BitVec 24) (s : State) : Host.Outcome State Fault Refusal :=
  mbCmd h (.timeGetPress h count rsv) (srvTimeGetPress h count rsv) s

end Sys2Proof.Machine
end

