-- ==== Sys2Proof/Machine/VisCmd.lean ====
section
/-! DEFINITION. The VIS commands (spec/06 R192, R196–R200, R204, R205, Tables 06-15 to 06-18). -/

namespace Sys2Proof.Machine

/-! ## VIS_SET_NR, VIS_SET_MATRIX -/

/-- VIS_SET_NR's rules (Table 06-15). -/
def visSetNrBody (port flags alpha : Byte) (thresh : BitVec 32) (s : State) : Answer :=
  if camBad port ∨ alpha = 0 ∨ 4194240 < thresh.toNat then fail 0x0801 s
  else ok (s.updCam port.toNat fun k => { k with
    nr := ⟨flags.getLsbD 0, flags.getLsbD 1, alpha.toNat, thresh.toNat⟩ })

/-- VIS_SET_NR, opcode 0x0801. -/
def srvVisSetNr (h : MbHdr) (port flags alpha rsv : Byte) (thresh : BitVec 32) (s : State) : State :=
  mbServe { op := 0x0801, len := 8, rsv := 3 < flags.toNat || rsv != 0 } h (visSetNrBody port flags alpha thresh) s
/-- VIS_SET_NR. -/
def execVisSetNr (h : MbHdr) (port flags alpha rsv : Byte) (thresh : BitVec 32) (s : State) : Host.Outcome State Fault Refusal :=
  mbCmd h (.visSetNr h port flags alpha rsv thresh) (srvVisSetNr h port flags alpha rsv thresh) s

/-- VIS_SET_MATRIX' rules: in force from the next frame boundary. -/
def visSetMatrixBody (port : Byte) (m off : List (BitVec 16)) (s : State) : Answer :=
  if camBad port then fail 0x0801 s
  else ok (s.updCam port.toNat fun k => { k with pendMatrix := some (⟨m.map (·.toInt), off.map (·.toInt)⟩, k.frames) })

/-- VIS_SET_MATRIX, opcode 0x0802. -/
def srvVisSetMatrix (h : MbHdr) (port : Byte) (rsv : BitVec 24) (m off : List (BitVec 16)) (s : State) : State :=
  mbServe { op := 0x0802, len := 28, rsv := rsv != 0 } h (visSetMatrixBody port m off) s
/-- VIS_SET_MATRIX. -/
def execVisSetMatrix (h : MbHdr) (port : Byte) (rsv : BitVec 24) (m off : List (BitVec 16)) (s : State) :
    Host.Outcome State Fault Refusal :=
  mbCmd h (.visSetMatrix h port rsv m off) (srvVisSetMatrix h port rsv m off) s

/-! ## VIS_SET_PREVIEW (R196) -/

/-- VIS_SET_PREVIEW's rules (Table 06-16). Enabled while CAM_0 runs, the rows begin with the group of its next trigger (log 117). -/
def visSetPreviewBody (p : PreviewReq) (s : State) : Answer :=
  let bc := p.binCols.toNat
  let row := previewRowBytes s.barColumns bc (p.flags.getLsbD 1)
  checked (firstBad [
      (decide (64 < bc) || decide (16384 < ceilDiv s.barColumns bc) || decide (64 < p.binLines.toNat) ||
        decide (65536 < p.rows.toNat), 0x0801),
      (!s.addrOk p.addr.toNat (row * p.rows.toNat), 0x0803)])
    (fun s => ok (s.updVis fun v => { v with
      preview := { enable := p.flags.getLsbD 0, colour := p.flags.getLsbD 1, binCols := bc, binLines := p.binLines.toNat,
                   rows := p.rows.toNat, addr := p.addr.toNat,
                   row := if (s.camN 0).runs then (s.camN 0).trigs / p.binLines.toNat + 1 else 0 } })) s

/-- VIS_SET_PREVIEW, opcode 0x0803. -/
def srvVisSetPreview (h : MbHdr) (p : PreviewReq) (s : State) : State :=
  mbServe { op := 0x0803, len := 16, rsv := 3 < p.flags.toNat || p.rsv != 0,
            zero := p.binCols == 0 || p.binLines == 0 || p.rows == 0 } h (visSetPreviewBody p) s
/-- VIS_SET_PREVIEW. -/
def execVisSetPreview (h : MbHdr) (p : PreviewReq) (s : State) : Host.Outcome State Fault Refusal :=
  mbCmd h (.visSetPreview h p) (srvVisSetPreview h p) s

/-! ## VIS_SET_EGRESS (R197) -/

/-- WIDTH of a source. -/
def CamLink.sourceWidth (l : CamLink) (source : Nat) : Nat := if source = 1 then l.pixels else l.pixels * l.channels

/-- VIS_SET_EGRESS' rules. -/
def visSetEgressBody (es port source depth : Byte) (s : State) : Answer :=
  checked (firstBad [
      (decide (7 < es.toNat) || camBad port || decide (2 < source.toNat) || !([8, 12, 16].contains depth.toNat) ||
        decide (16384 < (s.camN port.toNat).link.sourceWidth source.toNat), 0x0801),
      ((s.esN es.toNat).isOpen, 0x0802)])
    (fun s => ok (s.updEs es.toNat fun e => { e with
      srcSet := true, srcPort := port.toNat, srcKind := source.toNat, srcDepth := depth.toNat })) s

/-- VIS_SET_EGRESS, opcode 0x0804. -/
def srvVisSetEgress (h : MbHdr) (es port source depth : Byte) (s : State) : State :=
  mbServe { op := 0x0804, len := 4 } h (visSetEgressBody es port source depth) s
/-- VIS_SET_EGRESS. -/
def execVisSetEgress (h : MbHdr) (es port source depth : Byte) (s : State) : Host.Outcome State Fault Refusal :=
  mbCmd h (.visSetEgress h es port source depth) (srvVisSetEgress h es port source depth) s

/-! ## VIS_SET_DEFECT, VIS_GET_DEFECTS (R199) -/

/-- VIS_SET_DEFECT's rules (Table 06-17). -/
def visSetDefectBody (p : DefectReq) (s : State) : Answer :=
  if 1 < p.enable.toNat ∨ p.streakLines.toNat < 16 ∨ out p.spotMin.toNat 1 1024 then fail 0x0801 s
  else ok (s.updVis fun v => { v with
    defect := ⟨p.enable == 1, p.streakLines.toNat, p.streakThresh.toNat, p.spotThresh.toNat, p.spotMin.toNat⟩ })

/-- VIS_SET_DEFECT, opcode 0x0805. -/
def srvVisSetDefect (h : MbHdr) (p : DefectReq) (s : State) : State :=
  mbServe { op := 0x0805, len := 12, rsv := p.rsv != 0 || p.rsv2 != 0, zero := p.streakLines == 0 } h (visSetDefectBody p) s
/-- VIS_SET_DEFECT. -/
def execVisSetDefect (h : MbHdr) (p : DefectReq) (s : State) : Host.Outcome State Fault Refusal :=
  mbCmd h (.visSetDefect h p) (srvVisSetDefect h p) s

/-- A defect record (Table 06-6). -/
def DefectRec.bytes (r : DefectRec) : List Byte :=
  le 4 r.seq.toNat ++ le 1 r.kind ++ le 1 r.port ++ [r.epoch] ++ zeros 1 ++ le 4 r.firstCol ++ le 4 r.lastCol ++ leI 8 r.pos ++
    le 4 r.length ++ leI 2 r.magnitude ++ zeros 2

/-- The records from FROM_SEQ on, oldest first, at most `n`. -/
def Vis.defectsFrom (v : Vis) (seq : BitVec 32) (n : Nat) : List DefectRec := (v.defects.filter fun r => seqLe seq r.seq).take n

/-- VIS_GET_DEFECTS' rules. -/
def visGetDefectsBody (fromSeq : BitVec 32) (count : BitVec 16) (s : State) : Answer :=
  if 63 < count.toNat then fail 0x0801 s
  else okWith ((s.vis.defectsFrom fromSeq count.toNat).flatMap DefectRec.bytes) s

/-- VIS_GET_DEFECTS, opcode 0x0806. -/
def srvVisGetDefects (h : MbHdr) (fromSeq : BitVec 32) (count rsv : BitVec 16) (s : State) : State :=
  mbServe { op := 0x0806, len := 8, rsv := rsv != 0, zero := count == 0 } h (visGetDefectsBody fromSeq count) s
/-- VIS_GET_DEFECTS. -/
def execVisGetDefects (h : MbHdr) (fromSeq : BitVec 32) (count rsv : BitVec 16) (s : State) : Host.Outcome State Fault Refusal :=
  mbCmd h (.visGetDefects h fromSeq count rsv) (srvVisGetDefects h fromSeq count rsv) s

/-! ## VIS_THATCH_ARM (R200) -/

/-- The strip is too fine for an owning camera (R200). -/
def State.thatchFine (s : State) (step rung : Nat) : Bool :=
  let pitch := match s.web? with | some w => w.pitch | none => 0
  s.owners.any fun p =>
    let k := (s.camN p).place
    decide (step * 65536 < 2 * k.colsPerPx) || decide (rung * pitch < 4 * k.linePitch * 65536)

/-- Row B under single coverage. -/
def State.noRowB (s : State) : Bool := match s.web? with | some w => !w.dual | none => true

/-- The arm of a payload. -/
def thatchOfReq (p : ThatchReq) : Thatch :=
  { handle := p.handle.toNat, rowB := p.row == 1, step := p.step.toNat, level := p.level.toNat, firstLine := p.firstLine.toNat,
    rungLines := p.rungLines.toNat, addr := p.addr.toNat, faint := p.faint.toNat, miss := p.miss.toNat, deflect := p.deflect.toNat }

/-- VIS_THATCH_ARM's rules: an arm of the same handle is replaced. -/
def visThatchArmBody (p : ThatchReq) (s : State) : Answer :=
  let t := thatchOfReq p
  let others := s.vis.thatch.filter fun a => a.left || a.handle != t.handle
  checked (firstBad [
      ((s.page? t.handle).isSome || decide (1 < p.row.toNat) || (t.rowB && s.noRowB) || out t.step 4 64 || out t.level 1 3 ||
        decide (65536 < t.rungLines), 0x0801),
      (!s.addrOk t.addr (32 + 8 * s.barColumns), 0x0803),
      (s.thatchFine t.step t.rungLines, 0x0804),
      (decide (4 ≤ (others.filter fun a => !a.left).length), 0x0805)])
    (fun s => ok (s.updVis fun v => { v with thatch := others ++ [t] })) s

/-- VIS_THATCH_ARM, opcode 0x0807. -/
def srvVisThatchArm (h : MbHdr) (p : ThatchReq) (s : State) : State :=
  mbServe { op := 0x0807, len := 28, rsv := p.rsv != 0, zero := p.step == 0 || p.rungLines == 0, gated := State.visGated } h (visThatchArmBody p) s
/-- VIS_THATCH_ARM. -/
def execVisThatchArm (h : MbHdr) (p : ThatchReq) (s : State) : Host.Outcome State Fault Refusal :=
  mbCmd h (.visThatchArm h p) (srvVisThatchArm h p) s

/-! ## VIS_GET_DENSITY, VIS_GET_STATUS -/

/-- VIS_GET_DENSITY's rules (R198). -/
def visGetDensityBody (lines : BitVec 32) (addr : BitVec 64) (s : State) : Answer :=
  checked (firstBad [
      (decide (65536 < lines.toNat), 0x0801),
      (!s.addrOk addr.toNat (32 + 4 * s.barColumns), 0x0803),
      (s.vis.density.isSome, 0x0802),
      (s.owners.isEmpty, 0x0806)])
    (fun s => ok (s.updVis fun v => { v with density := some { lines := lines.toNat, addr := addr.toNat } })) s

/-- VIS_GET_DENSITY, opcode 0x0808. -/
def srvVisGetDensity (h : MbHdr) (lines rsv : BitVec 32) (addr : BitVec 64) (s : State) : State :=
  mbServe { op := 0x0808, len := 16, rsv := rsv != 0, zero := lines == 0, gated := State.visGated } h (visGetDensityBody lines addr) s
/-- VIS_GET_DENSITY. -/
def execVisGetDensity (h : MbHdr) (lines rsv : BitVec 32) (addr : BitVec 64) (s : State) : Host.Outcome State Fault Refusal :=
  mbCmd h (.visGetDensity h lines rsv addr) (srvVisGetDensity h lines rsv addr) s

/-- The VIS_GET_STATUS response. -/
def State.visStatus (s : State) : List Byte :=
  le 4 s.vis.preview.nextRow ++ le 4 s.vis.nextSeq.toNat ++ le 1 (s.vis.thatch.filter fun a => !a.left).length ++
    le 1 (~~~s.health.veRetired).toNat ++ zeros 6 ++ le 8 s.vis.linesDone.toNat ++ le 8 s.vis.samplesDone.toNat

/-- VIS_GET_STATUS, opcode 0x0809. -/
def srvVisGetStatus (h : MbHdr) (s : State) : State := mbServe { op := 0x0809, len := 0 } h (fun s => okWith s.visStatus s) s
/-- VIS_GET_STATUS. -/
def execVisGetStatus (h : MbHdr) (s : State) : Host.Outcome State Fault Refusal := mbCmd h (.visGetStatus h) (srvVisGetStatus h) s

end Sys2Proof.Machine
end

