-- ==== Sys2Proof/Machine/Serve.lean ====
section
/-! DEFINITION. Serving a mailbox command by its row: what doorbells held over a restart of the control cores (spec/01 R18) and doorbells
rung on a request area come to. -/

namespace Sys2Proof.Machine

/-- Serves a command that touches no fuse. -/
def servePlain (i : Instr) (s : State) : State :=
  match i with
  | .sysGetInfo h => srvSysGetInfo h s
  | .sysReset h a0 a1 => srvSysReset h a0 a1 s
  | .sysUpdateBegin h a0 a1 => srvSysUpdateBegin h a0 a1 s
  | .sysUpdateData h a0 a1 a2 a3 => srvSysUpdateData h a0 a1 a2 a3 s
  | .sysUpdateEnd h => srvSysUpdateEnd h s
  | .sysDebugChallenge h => srvSysDebugChallenge h s
  | .sysDebugUnlock h a0 a1 a2 a3 a4 a5 => srvSysDebugUnlock h a0 a1 a2 a3 a4 a5 s
  | .sysRecoveryLoad h a0 a1 a2 a3 => srvSysRecoveryLoad h a0 a1 a2 a3 s
  | .sysRecoveryBoot h => srvSysRecoveryBoot h s
  | .barSetWeb h a0 => srvBarSetWeb h a0 s
  | .barSetPort h a0 => srvBarSetPort h a0 s
  | .barCommit h => srvBarCommit h s
  | .barSetPolicy h a0 a1 a2 => srvBarSetPolicy h a0 a1 a2 s
  | .barGet h => srvBarGet h s
  | .barGetPort h a0 a1 => srvBarGetPort h a0 a1 s
  | .headGetInfo h a0 a1 => srvHeadGetInfo h a0 a1 s
  | .headSetDrive h a0 a1 a2 a3 a4 => srvHeadSetDrive h a0 a1 a2 a3 a4 s
  | .headSetChar h a0 a1 a2 a3 => srvHeadSetChar h a0 a1 a2 a3 s
  | .headSetThermal h a0 => srvHeadSetThermal h a0 s
  | .headResume h a0 a1 => srvHeadResume h a0 a1 s
  | .headGetNozzle h a0 a1 a2 a3 a4 => srvHeadGetNozzle h a0 a1 a2 a3 a4 s
  | .headSetNozzle h a0 a1 a2 a3 => srvHeadSetNozzle h a0 a1 a2 a3 s
  | .headMeasure h a0 a1 => srvHeadMeasure h a0 a1 s
  | .fireSetLevels h a0 a1 a2 a3 => srvFireSetLevels h a0 a1 a2 a3 s
  | .fireSetComp h a0 a1 a2 a3 => srvFireSetComp h a0 a1 a2 a3 s
  | .fireSetWarm h a0 a1 a2 a3 => srvFireSetWarm h a0 a1 a2 a3 s
  | .fireSetMeasure h a0 => srvFireSetMeasure h a0 s
  | .fireSetIlk h a0 a1 a2 a3 => srvFireSetIlk h a0 a1 a2 a3 s
  | .fireArm h => srvFireArm h s
  | .fireDisarm h => srvFireDisarm h s
  | .fireGetHiding h => srvFireGetHiding h s
  | .pageAdmit h a0 => srvPageAdmit h a0 s
  | .pageAbort h a0 a1 a2 => srvPageAbort h a0 a1 a2 s
  | .pageQuery h a0 a1 => srvPageQuery h a0 a1 s
  | .pageReport h a0 a1 => srvPageReport h a0 a1 s
  | .pageGetWeb h => srvPageGetWeb h s
  | .slateOpen h a0 a1 a2 a3 => srvSlateOpen h a0 a1 a2 a3 s
  | .slateBind h a0 a1 a2 a3 => srvSlateBind h a0 a1 a2 a3 s
  | .slateStatus h a0 a1 => srvSlateStatus h a0 a1 s
  | .slateStreamStatus h a0 a1 a2 => srvSlateStreamStatus h a0 a1 a2 s
  | .slateFree h a0 a1 => srvSlateFree h a0 a1 s
  | .slateStoreInfo h => srvSlateStoreInfo h s
  | .slateEncOpen h a0 => srvSlateEncOpen h a0 s
  | .slateEncClose h a0 a1 => srvSlateEncClose h a0 a1 s
  | .slateStateRead h a0 a1 a2 a3 => srvSlateStateRead h a0 a1 a2 a3 s
  | .slateEncRestore h a0 a1 a2 a3 => srvSlateEncRestore h a0 a1 a2 a3 s
  | .slateGetCounters h => srvSlateGetCounters h s
  | .camSetLink h a0 => srvCamSetLink h a0 s
  | .camSetPlace h a0 => srvCamSetPlace h a0 s
  | .camSetExposure h a0 => srvCamSetExposure h a0 s
  | .camLoadFlat h a0 a1 a2 a3 => srvCamLoadFlat h a0 a1 a2 a3 s
  | .camStart h a0 a1 a2 => srvCamStart h a0 a1 a2 s
  | .camStop h a0 a1 a2 => srvCamStop h a0 a1 a2 s
  | .camGetStatus h a0 a1 => srvCamGetStatus h a0 a1 s
  | .camGetFrames h a0 a1 a2 => srvCamGetFrames h a0 a1 a2 s
  | .visSetNr h a0 a1 a2 a3 a4 => srvVisSetNr h a0 a1 a2 a3 a4 s
  | .visSetMatrix h a0 a1 a2 a3 => srvVisSetMatrix h a0 a1 a2 a3 s
  | .visSetPreview h a0 => srvVisSetPreview h a0 s
  | .visSetEgress h a0 a1 a2 a3 => srvVisSetEgress h a0 a1 a2 a3 s
  | .visSetDefect h a0 => srvVisSetDefect h a0 s
  | .visGetDefects h a0 a1 a2 => srvVisGetDefects h a0 a1 a2 s
  | .visThatchArm h a0 => srvVisThatchArm h a0 s
  | .visGetDensity h a0 a1 a2 => srvVisGetDensity h a0 a1 a2 s
  | .visGetStatus h => srvVisGetStatus h s
  | .calSetLoop h a0 => srvCalSetLoop h a0 s
  | .calGetStatus h => srvCalGetStatus h s
  | .calGetColumns h a0 a1 a2 => srvCalGetColumns h a0 a1 a2 s
  | .calSetFactory h a0 a1 a2 a3 a4 => srvCalSetFactory h a0 a1 a2 a3 a4 s
  | .calRecal h a0 => srvCalRecal h a0 s
  | .calRecalStop h a0 a1 => srvCalRecalStop h a0 a1 s
  | .nvmGetStatus h => srvNvmGetStatus h s
  | .nvmRead h a0 a1 a2 => srvNvmRead h a0 a1 a2 s
  | .nvmCompact h => srvNvmCompact h s
  | .nvmEraseCal h => srvNvmEraseCal h s
  | .encSetInput h a0 => srvEncSetInput h a0 s
  | .encGetStatus h a0 a1 => srvEncGetStatus h a0 a1 s
  | .encSetCount h a0 a1 a2 => srvEncSetCount h a0 a1 a2 s
  | .motSetAxis h a0 => srvMotSetAxis h a0 s
  | .motSetRates h a0 => srvMotSetRates h a0 s
  | .motMove h a0 a1 a2 a3 => srvMotMove h a0 a1 a2 a3 s
  | .motStop h a0 a1 => srvMotStop h a0 a1 s
  | .motQuickStop h a0 a1 => srvMotQuickStop h a0 a1 s
  | .motLoadTable h a0 a1 a2 a3 a4 => srvMotLoadTable h a0 a1 a2 a3 a4 s
  | .motRunTable h a0 a1 a2 a3 => srvMotRunTable h a0 a1 a2 a3 s
  | .motGear h a0 => srvMotGear h a0 s
  | .motGearRatio h a0 a1 a2 a3 a4 a5 => srvMotGearRatio h a0 a1 a2 a3 a4 a5 s
  | .motSetCompare h a0 => srvMotSetCompare h a0 s
  | .motGetStatus h a0 a1 => srvMotGetStatus h a0 a1 s
  | .motGetCompare h a0 a1 => srvMotGetCompare h a0 a1 s
  | .motSetPosition h a0 a1 a2 => srvMotSetPosition h a0 a1 a2 s
  | .twinGetStatus h => srvTwinGetStatus h s
  | .twinSetMode h a0 => srvTwinSetMode h a0 s
  | .twinSwitchback h a0 a1 => srvTwinSwitchback h a0 a1 s
  | .twinResolve h a0 a1 => srvTwinResolve h a0 a1 s
  | .timeSetClock h a0 => srvTimeSetClock h a0 s
  | .timeSetPtp h a0 => srvTimeSetPtp h a0 s
  | .timeSetPort h a0 => srvTimeSetPort h a0 s
  | .timeSetAsym h a0 a1 a2 a3 => srvTimeSetAsym h a0 a1 a2 a3 s
  | .timeGetStatus h => srvTimeGetStatus h s
  | .timeGetTime h => srvTimeGetTime h s
  | .timeSetCalendar h a0 a1 => srvTimeSetCalendar h a0 a1 s
  | .timeSetPress h a0 a1 a2 a3 => srvTimeSetPress h a0 a1 a2 a3 s
  | .timeSendStop h => srvTimeSendStop h s
  | .timeGetPress h a0 a1 => srvTimeGetPress h a0 a1 s
  | .pwrSetState h a0 a1 => srvPwrSetState h a0 a1 s
  | .pwrSetLevel h a0 a1 => srvPwrSetLevel h a0 a1 s
  | .pwrSetRetention h a0 a1 a2 => srvPwrSetRetention h a0 a1 a2 s
  | .pwrSetWake h a0 a1 a2 a3 => srvPwrSetWake h a0 a1 a2 a3 s
  | .pwrSetDroop h a0 a1 a2 a3 => srvPwrSetDroop h a0 a1 a2 a3 s
  | .pwrSetSupply h a0 a1 a2 a3 a4 => srvPwrSetSupply h a0 a1 a2 a3 a4 s
  | .pwrGetStatus h => srvPwrGetStatus h s
  | .logStatus h => srvLogStatus h s
  | .logClear h a0 => srvLogClear h a0 s
  | .logSet h a0 a1 => srvLogSet h a0 a1 s
  | .logRead h a0 a1 a2 => srvLogRead h a0 a1 a2 s
  | .healthGetReport h => srvHealthGetReport h s
  | .healthClear h a0 a1 => srvHealthClear h a0 a1 s
  | .healthSet h a0 a1 => srvHealthSet h a0 a1 s
  | .healthUnretire h a0 a1 a2 => srvHealthUnretire h a0 a1 a2 s
  | .dramGetConfig h => srvDramGetConfig h s
  | .dramSetMap h a0 a1 a2 a3 => srvDramSetMap h a0 a1 a2 a3 s
  | .dramSetRegions h a0 a1 a2 a3 => srvDramSetRegions h a0 a1 a2 a3 s
  | .dramGetRegions h => srvDramGetRegions h s
  | .dramSetQos h a0 a1 a2 a3 a4 => srvDramSetQos h a0 a1 a2 a3 a4 s
  | .dramSetHealth h a0 a1 a2 a3 a4 => srvDramSetHealth h a0 a1 a2 a3 a4 s
  | .dramGetCounters h a0 a1 => srvDramGetCounters h a0 a1 s
  | .dramRetire h a0 a1 a2 => srvDramRetire h a0 a1 a2 s
  | .dmaSetChannel h a0 => srvDmaSetChannel h a0 s
  | .dmaGetChannel h a0 a1 => srvDmaGetChannel h a0 a1 s
  | _ => s

/-- Serves a command: only SYS_SET_SVN and SYS_REVOKE_KEY touch the fuses (spec/12 R346). -/
def serve (i : Instr) (s : State) : State :=
  match i with
  | .sysSetSvn h a0 a1 => srvSysSetSvn h a0 a1 s
  | .sysRevokeKey h a0 a1 => srvSysRevokeKey h a0 a1 s
  | i => { servePlain i s with fuse := s.fuse }

end Sys2Proof.Machine
end

