-- ==== Sys2Proof/Machine/HostIf.lean ====
section
/-! DEFINITION. The host's side (spec/12 R330–R343, R347, spec/04 R152, spec/01 R18): doorbells over the request areas, cancels, held
doorbells, register writes, the BAR2 window, the resets of the host interface. -/

namespace Sys2Proof.Machine

/-! ## Requests in the mailbox slots (R335–R339) -/

/-- The bytes of a slot's request area. -/
def State.areaBytes (s : State) (slot o n : Nat) : List Byte := (List.range n).map fun i => s.host.reqArea.get 0 (slot * 0x1000 + o + i)

/-- Header and opcode of the request in a slot (Table 12-6). -/
def State.reqHdr (s : State) (slot : Nat) : MbHdr × Nat :=
  let b := s.areaBytes slot 0 16
  (⟨BitVec.ofNat 3 slot, byteAt b 2, byteAt b 3, valAt b 4 2, valAt b 6 10⟩, fieldAt b 0 2)

/-- Copies and serves the request of a slot: BAD_OPCODE where the opcode is reserved or undefined, behind NOT_READY (R340). -/
def State.serveSlot (slot : Nat) (s : State) : State :=
  let (h, op) := s.reqHdr slot
  match reqOf op h (s.areaBytes slot 16 2032) with
  | some i => serve i s
  | none => (s.mbStart h).mbComplete h op (if s.isReady then 0x0001 else 0x0004) []

/-- The slot of a doorbell held. -/
def slotOf (e : HeldDoor) : Nat :=
  match e with
  | .slot n => n
  | .cmd i => match mailOf i with | some (h, _) => h.slot.toNat | none => 0

/-- Header and opcode of a doorbell held. -/
def State.heldHdr (e : HeldDoor) (s : State) : MbHdr × Nat :=
  match e with
  | .slot n => s.reqHdr n
  | .cmd i => (mailOf i).getD (s.reqHdr (slotOf e))

/-- The bit of a slot by its number. -/
def bit8 (slot : Nat) : Byte := BitVec.twoPow 8 slot

/-- A doorbell of one slot (R336, R338, spec/01 R18). -/
def State.door (slot : Nat) (s : State) : State :=
  let b := bit8 slot
  if (s.host.busy ||| s.host.done) &&& b != 0 then s.updHost fun m => { m with mbProtocol := true }
  else if s.host.doorbell &&& b != 0 then s
  else if !s.coresRun then s.updHost fun m => { m with doorbell := m.doorbell ||| b, held := m.held ++ [.slot slot] }
  else s.serveSlot slot

/-- Doorbells of one write, in ascending slot order (R337). -/
def State.doorbells (bits : Byte) (s : State) : State :=
  ((List.range 8).filter fun k => bits.getLsbD k).foldl (fun t k => t.door k) s

/-- What a host access leaves: the frame of a meaning that may serve SYS_SET_SVN and SYS_REVOKE_KEY. -/
def hostFuse (f : State → State) (s : State) : Host.Outcome State Fault Refusal :=
  .next { settle s (if s.alive && s.host.live then f s else s) with pending := s.pending }

/-- MB_DOORBELL. -/
def execMbDoorbell (bits : Byte) (s : State) : Host.Outcome State Fault Refusal := hostFuse (State.doorbells bits) s

/-- A cancel of one slot: CANCELLED where its command has not started, kept until completion where it has, else nothing (R339). -/
def State.cancelSlot (slot : Nat) (s : State) : State :=
  let b := bit8 slot
  if s.host.busy &&& b != 0 then s.updHost fun m => { m with cancel := m.cancel ||| b }
  else
    match s.host.held.find? fun e => slotOf e == slot with
    | none => s
    | some e =>
      let (h, op) := s.heldHdr e
      (s.updHost fun m => { m with held := m.held.erase e }).mbComplete h op 0x0007 []
/-- MB_CANCEL. -/
def execMbCancel (bits : Byte) (s : State) : Host.Outcome State Fault Refusal :=
  hostAcc (fun s => ((List.range 8).filter fun k => bits.getLsbD k).foldl (fun t k => t.cancelSlot k) s) s

/-! ## The end of a firmware restart (spec/01 R18, R341) -/

/-- Serves a held command; after a reset its doorbell is gone, after another restart it is held again. -/
def State.serveHeld (e : HeldDoor) (s : State) : State :=
  if s.host.doorbell &&& bit8 (slotOf e) = 0 then s
  else if !s.coresRun then s.updHost fun m => { m with held := m.held ++ [e] }
  else
    match e with
    | .slot n => s.serveSlot n
    | .cmd i => serve i s

/-- RESTARTED is set, the commands in execution answer RESTARTED, then the held doorbells are served in their order. -/
def State.restartDone (s : State) : State :=
  if s.boot.stage ≠ .restarting then s
  else
    let s := (s.updBoot fun b => { b with stage := .ready }).updHost fun m => { m with restarted := true }
    let s := s.updTwin fun t => { t with returning := s.boot.twinEn }
    let n := (s.host.inflight.filter fun i => i.wait == .restart).length
    let s := (List.range n).foldl (fun t _ => t.finishWait .restart 0x0008) s
    let hs := s.host.held
    hs.foldl (fun t i => t.serveHeld i) (s.updHost fun m => { m with held := [] })
/-- FIRMWARE_RESTART_DONE. -/
def execFirmwareRestartDone (s : State) : Host.Outcome State Fault Refusal :=
  .next { settle s (if s.alive then s.restartDone else s) with pending := s.pending }

/-! ## RL_PORT_CTRL (spec/04 R152) -/

/-- REVIVE of a DROPPED or MISMATCH port; with DROP in the same write, DROP wins. -/
def State.reviveBit (p : Nat) (s : State) : State :=
  if p < 48 ∧ ((s.portN p).st = .dropped ∨ (s.portN p).st = .mismatch) then s.enterSt p .detect 0 else s
/-- RESYNC of a port in UP. -/
def State.resyncBit (p : Nat) (s : State) : State := if p < 48 ∧ (s.portN p).st = .up then s.resyncPort p rowForced else s
/-- DROP outside OFF, DROPPED and MISMATCH. -/
def State.dropBit (p : Nat) (s : State) : State :=
  match (s.portN p).st with
  | .off | .dropped | .mismatch => s
  | _ => if p < 48 then s.dropPort p 5 else s

/-- REVIVE. -/
def execRevive (port : Nat) (withDrop : Bool) (s : State) : Host.Outcome State Fault Refusal :=
  hostAcc (fun s => if withDrop then s.dropBit port else s.reviveBit port) s
/-- RESYNC. -/
def execResync (port : Nat) (s : State) : Host.Outcome State Fault Refusal := hostAcc (State.resyncBit port) s
/-- DROP. -/
def execDrop (port : Nat) (s : State) : Host.Outcome State Fault Refusal := hostAcc (State.dropBit port) s

/-- A write of RL_PORT_CTRL. -/
def State.writeCtrl (p v : Nat) (s : State) : State :=
  let s := if hasBit v 2 then s.dropBit p else if hasBit v 0 then s.reviveBit p else s
  if hasBit v 1 then s.resyncBit p else s

/-! ## Register writes (R333, R342, R343, spec/00 R7–R9) -/

/-- The vector an alert register feeds (Table 12-9). -/
def AlertReg.vector : AlertReg → Nat
  | .log => 33 | .place => 34 | .fire => 34 | .twin => 35 | .pwr => 36 | .cam => 37 | .cal => 38 | .health => 39 | .dram => 39
  | .time => 40 | .mot => 41

/-- After a write that cleared source bits of a vector, one still pending is sent again (R343). -/
def State.resendIf (cleared : Bool) (v : Nat) (s : State) : State := if cleared && s.intPending v then s.sendVector v else s

/-- Clears W1C bits of an alert register. -/
def State.clearAlert (r : AlertReg) (v : BitVec 32) (s : State) : State :=
  let hit := s.alertOf r &&& v
  (s.updHost fun h => { h with alert := h.alert.upd 0 r.key fun a => a &&& ~~~v }).resendIf (hit != 0) r.vector

/-- Writes a mask register: its reserved bits are discarded. -/
def State.writeMask (r : AlertReg) (v : BitVec 32) (s : State) : State :=
  s.updHost fun h => { h with mask := h.mask.set 0 r.key (v &&& r.bits) }

/-- RL_CONFIG with a value written: a field outside its range keeps its value (Table 04-14). -/
def rlConfigWrite (old v : Nat) : Nat :=
  let f (lo w : Nat) (x : Nat) : Nat := x / 2 ^ lo % 2 ^ w
  let keep (lo w : Nat) (bad : Bool) : Nat := (if bad then f lo w old else f lo w v) * 2 ^ lo
  keep 0 4 false + keep 4 8 (f 4 8 v == 0) + keep 12 8 (decide (f 12 8 v < 5)) + keep 20 2 (f 20 2 v == 3)

/-- A write of DMA_CH_CTRL (Table 11-9). -/
def State.writeDmaCtrl (c v : Nat) (s : State) : State :=
  let s := s.updDma c fun d => { d with intEn := hasBit v 3 }
  let s := if hasBit v 2 then s.dmaClear c else s
  if hasBit v 0 then s.dmaRun c (hasBit v 1) else if hasBit v 1 then s.updDma c Dma.halt else s

/-- A write of DMA_CH_STATUS: its W1C bits. -/
def State.writeDmaStatus (c v : Nat) (s : State) : State :=
  let d := s.dmaN c
  let hit := (hasBit v 16 && d.doneSet) || (hasBit v 17 && d.haltSet)
  (s.updDma c fun d => { d with
    doneSet := d.doneSet && !hasBit v 16, haltSet := d.haltSet && !hasBit v 17, ptrErr := d.ptrErr && !hasBit v 18 }).resendIf hit c

/-- A 32-bit write into a DMA channel block. -/
def State.writeDma (c k : Nat) (v : BitVec 32) (s : State) : State :=
  match k with
  | 0 => s.prodWrite c (.lower v) | 1 => s.prodWrite c (.upper v)
  | 2 => s.consWrite c (.lower v) | 3 => s.consWrite c (.upper v)
  | 6 => s.updDma c (Dma.add v)
  | 7 => s.writeDmaCtrl c v.toNat
  | 8 => s.writeDmaStatus c v.toNat
  | _ => s

/-- A vector that is unmasked is sent when it was held pending (R342). -/
def State.releaseVector (v : Nat) (s : State) : State :=
  if s.host.msixPba.getLsbD v && s.host.msixEnable && !s.host.msixFuncMask && !s.host.msixVecMask.getLsbD v then
    s.updHost fun h => { h with msixPba := h.msixPba &&& ~~~(BitVec.twoPow 64 v), msixSent := h.msixSent.upd 0 v (· + 1) }
  else s

/-- A write into the MSI-X table: address and data, or bit 0 of vector control. -/
def State.writeMsix (o : Nat) (v : BitVec 32) (s : State) : State :=
  if o % 16 = 12 then
    let n := o / 16
    (s.updHost fun h => { h with
      msixVecMask := if v.getLsbD 0 then h.msixVecMask ||| BitVec.twoPow 64 n else h.msixVecMask &&& ~~~(BitVec.twoPow 64 n)
      }).releaseVector n
  else s.updHost fun h => { h with msixTable := h.msixTable.set 0 (o / 4) v }

/-- A write of MB_DONE: W1C. -/
def State.clearDone (v : Byte) (s : State) : State :=
  let hit := s.host.done &&& v
  (s.updHost fun m => { m with done := m.done &&& ~~~v }).resendIf (hit != 0) 32

/-- The system and mailbox registers but MB_DOORBELL, ILK_STATUS, LOG_CURSOR and RL_CONFIG. -/
def State.writeSys (o : Nat) (v : BitVec 32) (s : State) : State :=
  let b := v.setWidth 8
  match o with
  | 0x08 => s.updHost fun m => { m with mbProtocol := m.mbProtocol && !v.getLsbD 18, restarted := m.restarted && !v.getLsbD 19 }
  | 0x48 => s.clearDone b
  | 0x4C => ((List.range 8).filter fun k => b.getLsbD k).foldl (fun t k => t.cancelSlot k) s
  | 0x50 => s.updHost fun m => { m with intMask := b }
  | 0x110 => s.updFire fun f => { f with ilkLatched := f.ilkLatched &&& ~~~(v.extractLsb' 16 8) }
  | 0x168 => s.updLog fun l => { l with baseSeq := v }
  | 0x200 => { s with rlConfig := BitVec.ofNat 32 (rlConfigWrite s.rlConfig.toNat v.toNat) }
  | _ => s

/-- A 32-bit write (Table 12-2) to any other register than MB_DOORBELL; an unassigned or read-only offset ignores it. -/
def State.writeOther (o : Nat) (v : BitVec 32) (s : State) : State :=
  if o % 4 ≠ 0 then s
  else
    match alertAt o with
    | some (r, false) => s.clearAlert r v
    | some (r, true) => s.writeMask r v
    | none =>
      if o < 0x204 then s.writeSys o v
      else if 0x300 ≤ o ∧ o < 0x3C0 then
        s.updPort ((o - 0x300) / 4) fun q => { q with changed := q.changed && !v.getLsbD 29 }
      else if 0x400 ≤ o ∧ o < 0x4C0 then s.writeCtrl ((o - 0x400) / 4) v.toNat
      else if 0x2000 ≤ o ∧ o < 0x2800 then s.writeDma ((o - 0x2000) / 64) ((o - 0x2000) % 64 / 4) v
      else if 0x4000 ≤ o ∧ o < 0x4400 then s.writeMsix (o - 0x4000) v
      else if 0x8000 ≤ o ∧ o < 0x10000 ∧ o % 0x1000 < 0x800 then
        s.updHost fun m => { m with reqArea := SMap.setList 0 m.reqArea (o - 0x8000) (le 4 v.toNat) }
      else s

/-- A 32-bit write: only a doorbell can reach a fuse, through the commands it starts (R346). -/
def State.write32 (o : Nat) (v : BitVec 32) (s : State) : State :=
  if o = 0x40 then s.doorbells (v.setWidth 8) else { s.writeOther o v with fuse := s.fuse }

/-- A 64-bit register whose halves take effect together. -/
def isProd (o : Nat) : Bool := decide (0x2000 ≤ o ∧ o < 0x2800) && o % 64 == 0
def isCons (o : Nat) : Bool := decide (0x2000 ≤ o ∧ o < 0x2800) && o % 64 == 8

/-- A write of the host to BAR0: two 32-bit writes, the lower first, where 32-bit registers lie (R333). -/
def State.writeReg (o : Nat) (wide : Bool) (v : BitVec 64) (s : State) : State :=
  let lo : BitVec 32 := v.setWidth 32
  let hi : BitVec 32 := v.extractLsb' 32 32
  if !wide then s.write32 o lo
  else if o % 8 ≠ 0 then s
  else if isProd o then s.prodWrite ((o - 0x2000) / 64) (.whole v)
  else if isCons o then s.consWrite ((o - 0x2000) / 64) (.whole v)
  else (s.write32 o lo).write32 (o + 4) hi
/-- REGISTER_WRITE. -/
def execRegisterWrite (offset : Nat) (wide : Bool) (value : BitVec 64) (s : State) : Host.Outcome State Fault Refusal :=
  hostFuse (State.writeReg offset wide value) s

/-! ## Reads of BAR0 (R333): the table has no row for them (log 42) -/

/-- The offset is the lower half of a 64-bit register (Tables 12-2, 11-8). -/
def isWide (o : Nat) : Bool :=
  [0x10, 0x60, 0x168, 0x4800].contains o || (decide (0x2000 ≤ o ∧ o < 0x2800) && [0, 8, 16].contains (o % 64))

/-- What a read of BAR0 returns, and what it leaves: a 32-bit read of a lower half latches the upper half for its next read. -/
def State.readReg (o : Nat) (wide : Bool) (s : State) : BitVec 64 × State :=
  let word (o : Nat) : BitVec 32 := BitVec.ofNat 32 (s.reg32 o)
  if wide then (if o % 8 ≠ 0 then 0 else join64 (word (o + 4)) (word o), s)
  else if isWide o then ((word o).setWidth 64, s.updHost fun h => { h with hiHeld := h.hiHeld.set none o (some (word (o + 4))) })
  else if 4 ≤ o ∧ isWide (o - 4) then
    (((s.host.hiHeld.get none (o - 4)).getD (word o)).setWidth 64, s.updHost fun h => { h with hiHeld := h.hiHeld.set none (o - 4) none })
  else ((word o).setWidth 64, s)

/-! ## BAR2 (R330, R331) -/

/-- An access lies within the window and the Free region. -/
def State.bar2In (s : State) (o n : Nat) : Bool := decide (o + n ≤ s.freeSize)

/-- BAR2 is present and holds the offset. -/
def State.bar2Has (s : State) (o : Nat) : Bool := s.boot.board.bar2Log2 != 0 && decide (o < 2 ^ s.boot.board.bar2Log2)

/-- A write through BAR2; one beyond the Free region is dropped and counted. -/
def State.bar2Put (o : Nat) (data : List Byte) (s : State) : State :=
  if !s.bar2Has o then s
  else if s.bar2In o data.length then s.dramWrite (s.freeBase + o) data
  else s.updHost fun h => { h with aerDropped := h.aerDropped + 1 }
/-- BAR2_WRITE. -/
def execBar2Write (offset : Nat) (data : List Byte) (s : State) : Host.Outcome State Fault Refusal := hostAcc (State.bar2Put offset data) s

/-- A read through BAR2: the bytes, or Unsupported Request. -/
def State.bar2Get (o n : Nat) (s : State) : State :=
  if !s.bar2Has o then s
  else
    let r := if s.bar2In o n then some (s.dramRead (s.freeBase + o) n) else none
    s.updHost fun h => { h with bar2Out := r }
/-- BAR2_READ. -/
def execBar2Read (offset len : Nat) (s : State) : Host.Outcome State Fault Refusal := hostAcc (State.bar2Get offset len) s

/-! ## The resets of the host interface (R332) -/

/-- The slots emptied, MSI-X and masks at reset; what was started completes internally. -/
def HostIf.cleared (h : HostIf) : HostIf :=
  { h with
    doorbell := 0, busy := 0, done := 0, cancel := 0, intMask := 0, resp := [], reqArea := [], held := [],
    inflight := h.inflight.map fun i => { i with discard := true }, mask := [], msixEnable := true, msixFuncMask := false,
    msixVecMask := BitVec.allOnes 64, msixPba := 0, msixTable := [], loHeld := [], hiHeld := [], bar2Out := none }

/-- A reset of the host interface alone, with its event. -/
def State.hostReset (kind : Nat) (s : State) : State := ((s.updHost HostIf.cleared).dmaIdle).logEvent 0x0104 0 kind

/-- FUNCTION_LEVEL_RESET. -/
def execFunctionLevelReset (s : State) : Host.Outcome State Fault Refusal := hostAcc (State.hostReset 1) s
/-- HOT_RESET. -/
def execHotReset (s : State) : Host.Outcome State Fault Refusal := hostAcc (State.hostReset 2) s
/-- LINK_DOWN. -/
def execLinkDown (s : State) : Host.Outcome State Fault Refusal :=
  hostAcc (fun s => (s.hostReset 3).updHost fun h => { h with live := false }) s
/-- PERST_ASSERT. -/
def execPerstAssert (s : State) : Host.Outcome State Fault Refusal :=
  evtAny (fun s =>
    let s := s.updHost fun h => { h with perst := true }
    if s.alive then (s.hostReset 4).updHost fun h => { h with live := false } else s) s

/-- PCIE_LINK_UP: with PERST# high. -/
def execPcieLinkUp (s : State) : Host.Outcome State Fault Refusal :=
  evt (fun s => if s.host.perst then s else s.updHost fun h => { h with live := true }) s

end Sys2Proof.Machine
end

