-- ==== Sys2Proof/Machine/Records.lean ====
section
/-! DEFINITION. Journal records and base images as read back from their bytes (spec/07 R222, R223, Tables 07-3 to 07-5, spec/09
R270, R278): what the chip without head supervision does with the fragments it receives. -/

namespace Sys2Proof.Machine

/-- A signed 16-bit field. -/
def fieldI (bs : List Byte) (o : Nat) : Int := sext 16 (fieldAt bs o 2)

/-- A nozzle mirror entry (Table 07-3). -/
def nozOf (w : Nat) : NozCal :=
  { resBase := w % 2 ^ 20, state := w / 2 ^ 20 % 4, cause := w / 2 ^ 22 % 4, gain := w / 2 ^ 24 % 2 ^ 16, gainFac := w / 2 ^ 40 % 2 ^ 16 }

/-- `n` halfwords. -/
def halfwords (bs : List Byte) (o n : Nat) : List Nat := (List.range n).map fun i => fieldAt bs (o + 2 * i) 2

/-- The runs of a GAIN_UPDATE or FACTORY record. -/
def runsOfBytes : Nat → List Byte → List GainRun
  | 0, _ => []
  | _, [] => []
  | f + 1, bs =>
    let n := fieldAt bs 4 2
    ⟨fieldAt bs 0 1, fieldAt bs 2 2, BitVec.ofNat 32 (fieldAt bs 8 4), halfwords bs 12 n⟩ ::
      runsOfBytes f (bs.drop (12 + (n + 1) / 2 * 4))

/-- The entries of a NOZZLE record. -/
def nozEntriesOf (bs : List Byte) : List (Nat × Nat × NozCal) :=
  (List.range (bs.length / 12)).map fun i =>
    (fieldAt bs (12 * i) 1, fieldAt bs (12 * i + 2) 2, nozOf (fieldAt bs (12 * i + 4) 8))

/-- A characteristic block: serial, source, 512 table bytes at given offsets. -/
def charOf (serial source : Nat) (table : List Nat) : Char :=
  { serial := if serial = 0 then none else some (BitVec.ofNat 64 serial), table := if source = 1 then some table else none }

/-- A camera's 64 KiB block as a FLAT record carries it: a load or a recalibration has given it. -/
def flatOfBlock (bs : List Byte) : Flat :=
  { ref := [0, 4, 8].map fun o => fieldAt bs o 4, ff := SMap.setList 0x1000 [] 0 (halfwords bs 12 32762), loaded := true }

/-- A camera's block in a base image, which carries no mark of a load: REF and FF at their reset values are the nominal ones of R191
(log 120). -/
def flatOfImage (bs : List Byte) : Flat :=
  let f := flatOfBlock bs
  { f with loaded := f.ref != ({} : Flat).ref || f.ff != [] }

/-- The loop settings and those of the recalibrations. -/
def loopOf (bs : List Byte) : LoopCfg :=
  { enable := fieldAt bs 0 1 == 1, updateBlocks := fieldAt bs 1 1, beta := fieldAt bs 2 2, windowLines := fieldAt bs 4 4,
    stepLimit := fieldAt bs 8 2, devLimit := fieldAt bs 10 2, varMin := fieldAt bs 12 2, nMin := fieldAt bs 14 2,
    medianMin := fieldAt bs 16 2,
    recal := (List.range 4).foldl (fun m p =>
      let o := 20 + 12 * p
      SMap.set {} m p ⟨fieldAt bs o 2, fieldAt bs (o + 2) 2, fieldAt bs (o + 4) 2, fieldAt bs (o + 8) 4⟩) [] }

/-- A port's thresholds. -/
def thermalOf (bs : List Byte) (o : Nat) : Thermal :=
  ⟨fieldI bs o, fieldI bs (o + 2), fieldI bs (o + 4), fieldI bs (o + 6), fieldI bs (o + 8)⟩

/-- A port's drive settings. -/
def driveOf (bs : List Byte) (o : Nat) : Drive :=
  ⟨BitVec.ofNat 16 (fieldAt bs o 2), BitVec.ofNat 16 (fieldAt bs (o + 2) 2), BitVec.ofNat 16 (fieldAt bs (o + 4) 2)⟩

/-- The body of a record from its TYPE and payload (Table 07-5); a SETTINGS record whose first half is zero holds the thermal
thresholds of one port (log 25). -/
def bodyOf (type : Nat) (p : List Byte) : Option JBody :=
  match type with
  | 1 => some (.gainUpdate (runsOfBytes p.length p))
  | 2 => some (.nozzle (nozEntriesOf p))
  | 3 => some (.levels (fieldAt p 0 2) (fieldAt p 2 2) (fieldAt p 4 2))
  | 4 => some (.drive (fieldAt p 0 1) (driveOf p 2))
  | 5 => some (.char (fieldAt p 0 1) (charOf (fieldAt p 4 8) (fieldAt p 1 1) (halfwords p 12 256)))
  | 6 => some (.flat (fieldAt p 0 1) (flatOfBlock (p.drop 4)))
  | 7 => some (.factory (runsOfBytes p.length p))
  | 8 => some (.newHead (fieldAt p 0 1) (BitVec.ofNat 64 (fieldAt p 4 8)))
  | 9 => some (if (p.take 2048).all (· == 0) then .thermal (fieldAt p 2048 1) (thermalOf p 2050) else .settings (loopOf p))
  | 0xFF => some .wrap
  | _ => none

/-- TYPE and payload of a record whose MAGIC and CRCs are good (Table 07-4). -/
def recordOf (bs : List Byte) : Option (Nat × List Byte) :=
  let n := fieldAt bs 12 4
  let p := (bs.drop 32).take n
  if bs.take 4 = [0x47, 0x4A, 0x52, 0x4E] ∧ fieldAt bs 28 4 = (crc32 (bs.take 28)).toNat ∧ 40 + n ≤ bs.length ∧
      fieldAt bs (32 + n) 4 = (crc32 p).toNat then some (fieldAt bs 4 2, p)
  else none

/-- TYPE of a record that carries a base image on the twin link. -/
def typeBaseImage : Nat := 0xFE

/-- The bytes of a base area from its header on (R222). -/
def BaseArea.allBytes (b : BaseArea) : List Byte :=
  let body := (List.range (imageLength - 0x1000)).map fun i => b.image.imageByte b.geo (0x1000 + i)
  [0x47, 0x42, 0x41, 0x53] ++ le 4 b.seqFolded.toNat ++ le 4 imageLength ++ le 4 (crc32 body).toNat ++ zeros (0x1000 - 16) ++ body

/-- A BASE_IMAGE record of a base area. -/
def baseRecord (b : BaseArea) (time : BitVec 64) : List Byte :=
  let p := b.allBytes
  let h := [0x47, 0x4A, 0x52, 0x4E] ++ le 2 typeBaseImage ++ zeros 2 ++ le 4 b.seqFolded.toNat ++ le 4 p.length ++ le 8 time.toNat ++ zeros 4
  h ++ le 4 (crc32 h).toNat ++ p ++ le 4 (crc32 p).toNat ++ zeros 4 ++ [0x43, 0x4D, 0x49, 0x54] ++ le 4 b.seqFolded.toNat

/-- The calibration content of an image's bytes for a geometry (Table 07-3); none where its header or BASE_CRC fails. -/
def imageOf (g : Geo) (bs : List Byte) : Option CalData :=
  if bs.take 4 = [0x47, 0x42, 0x41, 0x53] ∧ fieldAt bs 8 4 = bs.length ∧ fieldAt bs 12 4 = (crc32 (bs.drop 0x1000)).toNat then
    some
      { levelS := fieldAt bs 0x18D000 2, levelM := fieldAt bs 0x18D002 2, levelL := fieldAt bs 0x18D004 2,
        drive := (List.range 48).foldl (fun m p => SMap.set {} m p (driveOf bs (0x18D008 + 6 * p))) [],
        thermal := (List.range 48).foldl (fun m p => SMap.set {} m p (thermalOf bs (0x18D128 + 10 * p))) [],
        char := (List.range 48).foldl (fun m p =>
          let o := 0x181000 + 1024 * p
          SMap.set {} m p (charOf (fieldAt bs o 8) (fieldAt bs (o + 8) 1) (halfwords bs (o + 16) 256))) [],
        noz := g.ports.foldl (fun m p => SMap.set [] m p.1 ((List.range p.2.nozzles).foldl (fun r i =>
          SMap.set {} r i (nozOf (fieldAt bs (0x1000 + (g.nozBase p.1 + i) * 8) 8))) [])) [],
        flat := (List.range 4).foldl (fun m c => SMap.set {} m c (flatOfImage ((bs.drop (0x18E000 + 65536 * c)).take 65536))) [],
        loop := loopOf ((bs.drop 0x1CE000).take 68) }
  else none

end Sys2Proof.Machine
end

