-- ==== Sys2Proof/Machine/Journal.lean ====
section
/-! DEFINITION. The Gable store at work (spec/07 R213, R216, R223–R226, R229, spec/01 R24, spec/09 R278): a record is written, committed
and takes effect, goes to the partner; a compaction ends. -/

namespace Sys2Proof.Machine

/-! ## JOURNAL_RECORD_WRITE (R223, R224, R226) -/

/-- A record fits before the end of the ring, a WRAP record still fitting behind it (log 23). -/
def fitsEnd (off size : Nat) : Bool := decide (off + size + JBody.wrap.size ≤ journalBytes)

/-- The next record to write: a WRAP first where the waiting one does not fit before the end. -/
def Nvm.nextBody (n : Nvm) (b : JBody) : JBody := if fitsEnd n.nextOff b.size then b else .wrap

/-- The bytes of the ring that the next record takes. -/
def Nvm.needs (n : Nvm) (b : JBody) : Nat := if fitsEnd n.nextOff b.size then b.size else journalBytes - n.nextOff

/-- The 64 KiB pieces of the journal whose start a record covers: each is rewritten once more (R229). -/
def piecesOf (off size : Nat) : List Nat := (List.range 15).filter fun k => decide (off ≤ k * 65536) && decide (k * 65536 < off + size)

/-- The record waiting next: the chip's own before those of the partner's supervisor. -/
def Nvm.head (n : Nvm) : Option (JBody × Bool) :=
  match n.waiting, n.rxWait with
  | b :: _, _ => some (b, false)
  | [], b :: _ => some (b, true)
  | [], [] => none

/-- Takes a record off its queue. -/
def Nvm.unqueue (rx : Bool) (n : Nvm) : Nvm := if rx then { n with rxWait := n.rxWait.drop 1 } else { n with waiting := n.waiting.drop 1 }

/-- The record overlaps a range of the ring. -/
def JRec.overlaps (r : JRec) (off size : Nat) : Bool := decide (r.off < off + size) && decide (off < r.off + r.body.size)

/-- A record starts: PENDING, header, payload and its CRC; or it waits for a compaction (R226). -/
def State.writeRecord (s : State) : State :=
  if s.nvm.writing.isSome then s
  else
    match s.nvm.head with
    | none => s
    | some (b, rx) =>
      if s.nvm.freeBytes < s.nvm.needs b then (s.raise .cal 7).startCompaction
      else
        let body := s.nvm.nextBody b
        let fits := fitsEnd s.nvm.nextOff b.size
        let off := s.nvm.nextOff
        let r : JRec := { seq := s.nvm.nextSeq, off := off, time := s.recordTime.1, body := body }
        let s := s.updNvm fun n => { (if fits then n.unqueue rx else n) with
          journal := n.journal.filter fun q => !q.overlaps off body.size, pendingWord := n.nextSeq, writing := some r, writingRx := rx && fits }
        (piecesOf off body.size).foldl (fun t k => t.addWear (16 + k)) s

/-- JOURNAL_RECORD_WRITE: the next record starts being written. -/
def execJournalRecordWrite (s : State) : Host.Outcome State Fault Refusal := evt State.writeRecord s

/-! ## What a committed record does (R24, R213, R216, spec/03 R80, R84, R112) -/

/-- The columns and nozzles of the runs of a record: port and its nozzles. -/
def runNozzles (rs : List GainRun) : List (Nat × List Nat) :=
  rs.map fun r => (r.port, (List.range r.gains.length).map (r.first + ·))

/-- The columns STALE by new codes, once a port's codes are written, wait for the line named or for the next line fired (R216). -/
def State.nameStale (p : Nat) (s : State) : State :=
  let cs := (s.portCols p).filter fun c =>
    let t := s.loop.stale.get {} c; t.codes && !(t.keys.any fun e => e.1 == p) && !t.imm.contains p
  match (s.portN p).armKey with
  | some k => s.updLoop fun l => { l with stale := l.stale.updAll {} cs fun _ t => { t with keys := t.keys ++ [(p, k)] } }
  | none => s.updLoop fun l => { l with stale := l.stale.updAll {} cs fun _ t => { t with imm := t.imm ++ [p] } }

/-- Writes the codes of a record's nozzles to the heads. -/
def State.writeRuns (rs : List GainRun) (s : State) : State :=
  let ps := (List.range 48).filter fun p => rs.any fun r => r.port == p
  ps.foldl (fun t p => (t.writeCodes p ((runNozzles rs).flatMap fun e => if e.1 = p then e.2 else [])).nameStale p) s

/-- Windows of the columns of a record's nozzles restart (R215). -/
def State.restartRuns (rs : List GainRun) (s : State) : State :=
  match s.geo.committed with
  | some g => s.restartCols ((runNozzles rs).flatMap fun e => e.2.map (g.port.get {} e.1).col)
  | none => s

/-- The gains of runs come into force: at once, or on a pair at the line a run's APPLY_KEY names (spec/09 R275). -/
def State.takeRuns (factory : Bool) (rs : List GainRun) (s : State) : State :=
  rs.foldl (fun t r =>
    if t.pairUp && !t.keyReached r.applyKey then t.applyLater r.applyKey (.gains factory r) else t.applyChange (.gains factory r)) s

/-- A committed nozzle entry comes into force (spec/03 R84): at the line its command named, or on a pair at a line that a CONFIG frame
names to the partner (spec/09 R275, log 109), else now. -/
def State.takeNoz (rx : Bool) (p i : Nat) (n : NozCal) (s : State) : State :=
  let key := s.applyKey
  if s.nozWaits p i then s
  else if !rx && s.pairUp && key != atOnce then
    (s.forward9 0x0307 key ([BitVec.ofNat 8 p, 0] ++ le 2 i ++ zeros 4 ++ n.mirror)).applyLater key (.noz p i n)
  else s.applyNoz p i n

/-- A new head's entries and table come into force; its LOAD, or its codes, follow (spec/01 R24, spec/03 R112). -/
def State.takeHead (p : Nat) (b : JBody) (s : State) : State :=
  let s := (((s.updData b.apply).updCal fun c => { c with vol := c.vol.set [] p [] }).restartPort p).rehide
  if (s.portN p).st = .load then s.startLoad p else s.reloadCodes p

/-- The effect of a record's commit: what it holds comes into force, then the heads are written (spec/01 R24, spec/03 R81, R84). Loop
settings and thermal thresholds of this chip's own commands were in force when they were accepted; a record of the partner's supervisor
comes into force here (spec/09 R278). `wait` holds the head writes of a GAIN_UPDATE back. -/
def State.commitEffect (rx wait : Bool) (r : JRec) (s : State) : State :=
  let load := fun (s : State) => if rx then s.updData r.body.apply else s
  match r.body with
  | .gainUpdate rs =>
    let s := ((s.takeRuns false rs).restartRuns rs).raise .cal 0
    let s := s.updLoop fun l => { l with lastSeq := r.seq }
    if wait then s else s.writeRuns rs
  | .factory rs => ((s.takeRuns true rs).restartRuns rs).writeRuns rs
  | .nozzle es => es.foldl (fun t e => t.takeNoz rx e.1 e.2.1 e.2.2) s
  | .levels _ _ _ =>
    let s := s.updData r.body.apply
    let s := if rx then s.restartAll else s
    s.enabledPorts.foldl (fun t p => t.reloadCodes p) s
  | .drive p d =>
    let s := s.updData r.body.apply
    (if rx then s.restartPort p else s).headWrite p adrDrive d.bytes
  | .char p _ =>
    let s := s.updData r.body.apply
    (if rx then s.restartPort p else s).reloadCodes p
  | .flat p f => if rx then s.updCam p fun k => { k with pendFlat := some (f, k.frames) } else s
  | .newHead p _ => s.takeHead p r.body
  | .settings _ => load s
  | .thermal _ _ => load s
  | .wrap => s

/-! ## Fragments to the partner (spec/09 R270, R278) -/

/-- The JOURNAL frames of a record. -/
def journalFrames (seq : BitVec 32) (bs : List Byte) : List JournalFrame :=
  let n := ceilDiv bs.length 2048
  (List.range n).map fun i => ⟨seq, BitVec.ofNat 16 i, BitVec.ofNat 16 n, (bs.drop (2048 * i)).take 2048⟩

/-- The supervisor sends a committed record to its partner, and knows the SEQ of its last fragment. -/
def State.sendRecord (seq : BitVec 32) (bs : List Byte) (s : State) : State :=
  (journalFrames seq bs).foldl (fun t f => t.mirrorSend (.journal f)) s

/-- Records go to the partner. -/
def State.sharesStore (s : State) : Bool := s.twinOpen && s.twin.supervisor && !s.twin.solo

/-! ## JOURNAL_COMMIT (R224) -/

/-- The record being written is committed: COMMIT, then PENDING erased. -/
def Nvm.commitRec (r : JRec) (n : Nvm) : Nvm :=
  { n with
    journal := (n.journal.filter fun q => !q.overlaps r.off r.body.size) ++ [{ r with committed := true }],
    writing := none, writingRx := false, nextSeq := n.nextSeq + 1, nextOff := r.after, pendingWord := 0xFFFFFFFF }

/-- The commit of the record in writing, its effect, its way to the partner. -/
def State.commitRecord (s : State) : State :=
  match s.nvm.writing with
  | none => s
  | some r =>
    let rx := s.nvm.writingRx
    let s := (s.updNvm (Nvm.commitRec r)).updStore r.body.apply
    let shares := s.sharesStore && !rx && r.body.type != 0xFF
    let s := if shares then s.sendRecord r.seq { r with committed := true }.bytes else s
    let gain := match r.body with | .gainUpdate _ => true | _ => false
    let wait := gain && shares && s.pairUp
    let s := if wait then s.updTwin fun t => { t with gainWait := t.gainWait ++ [(t.txSeq - 1, r.seq)] } else s
    (s.commitEffect rx wait r).maybeCompact

/-- JOURNAL_COMMIT: the record's COMMIT is written. -/
def execJournalCommit (s : State) : Host.Outcome State Fault Refusal := evt State.commitRecord s

/-- The head writes of a GAIN_UPDATE that waited (spec/09 R278). -/
def State.writeWaited (seq : BitVec 32) (s : State) : State :=
  match s.nvm.journal.find? fun r => r.seq == seq with
  | some r => match r.body with
    | .gainUpdate rs => s.writeRuns rs
    | _ => s
  | none => s

/-! ## COMPACTION_DONE (R226, spec/02 R69, NVM_ERASE_CAL) -/

/-- Where the record after sequence `q` lies. -/
def Nvm.offAfter (n : Nvm) (q : BitVec 32) : Nat :=
  match (n.journal ++ n.writing.toList).find? fun r => r.seq == q + 1 with
  | some r => r.off
  | none => n.nextOff

/-- Gains and tables at nominal come into force with the base image that holds them, the records behind it on top; the codes follow
(NVM_ERASE_CAL). -/
def State.takeErase (after : List JBody) (s : State) : State :=
  let put := fun d => after.foldl (fun d b => b.apply d) (CalData.erased d)
  let s := (s.updData put).updStore put
  s.enabledPorts.foldl (fun t p => t.reloadCodes p) s

/-- The base image is written and the root switched; what waited for it goes on. -/
def State.compacted (s : State) : State :=
  match s.nvm.compacting with
  | none => s
  | some q =>
    let erase := s.nvm.erasing
    let fresh := s.nvm.dropPorts.filter s.portEnabled
    let after := (s.nvm.liveRecs.filter fun r => !seqLe r.seq q).map (·.body)
    let s := s.updStore fun d => after.foldl (fun d b => b.apply d) (d.without s.nvm.dropPorts)
    let image := (s.nvm.imageUpTo q).without s.nvm.dropPorts
    let image := if erase then image.erased else image
    let s := s.writeBase image q (s.nvm.offAfter q)
    let s := s.updNvm fun n => { n with compacting := none, compactions := n.compactions + 1, dropPorts := [], erasing := false }
    let s := s.raise .cal 8
    let s := if erase then s.takeErase after else fresh.foldl (fun t p => t.reloadCodes p) s
    (s.finishWait .commit 0).maybeCompact

/-- COMPACTION_DONE: a compaction ends. -/
def execCompactionDone (s : State) : Host.Outcome State Fault Refusal := evt State.compacted s

end Sys2Proof.Machine
end

