-- ==== Sys2Proof/Machine/Vision.lean ====
section
/-! DEFINITION. What a processed camera line feeds (spec/06 R196–R201): preview rows, egress lines, the density request, the defect
map and the thatch strips. -/

namespace Sys2Proof.Machine

/-- The vision engine that does the start-up work of VE_`w`: VE_`w` itself, or when it is retired the first in service of VE_3, VE_0, VE_1
and VE_2 (spec/01 R17); none when all four are retired. -/
def State.veFor (s : State) (w : Nat) : Option Nat :=
  if s.health.veRetired.getLsbD w then [3, 0, 1, 2].find? fun e => !s.health.veRetired.getLsbD e else some w

/-- The works the engines are given at start-up (spec/01 R17): density, the defect map, thatch strips, the regression. -/
inductive VeWork
  | density | defects | thatch | regression
  deriving DecidableEq, Repr

/-- The engine a work starts on. -/
def VeWork.engine : VeWork → Nat
  | .density => 0 | .defects => 1 | .thatch => 2 | .regression => 3

/-- Does a work of the vision engines, unless no engine is left for it (log 111). -/
def onEngine (w : VeWork) (f : State → State) (s : State) : State := if (s.veFor w.engine).isSome then f s else s

/-! ## Preview (R196) -/

/-- The ratios min(1, y / REF) a column shows: three channels in colour, else channel 1 of a colour camera or channel 0. -/
def Seen.ratios (v : Seen) (colour : Bool) (x : Nat) : List Rat :=
  let n := v.link.channels
  let one := fun ch => min 1 (refRatio (v.y.getD (x * n + ch) 0) (v.flat.ref.getD ch 0))
  if colour then [one 0, one (min 1 (n - 1)), one (min 2 (n - 1))] else [one (if n = 3 then 1 else 0)]

/-- A line of a column's owner enters the row in progress. -/
def Seen.addRow (v : Seen) (q : Preview) : Preview :=
  v.cols.foldl (fun q e => { q with
    counts := q.counts.upd 0 e.1 (· + 1),
    sums := (v.ratios q.colour e.2).zipIdx.foldl (fun m r => SMap.upd 0 m (e.1 * 3 + r.2) (· + r.1)) q.sums }) q

/-- Preview: rows follow CAM_0's trigger sequence; a line of a row that is written already, or of a run before, has none (log 117). -/
def Seen.preview (v : Seen) (s : State) : State :=
  let q := s.vis.preview
  if !q.enable then s
  else
    let row := v.trig / q.binLines + 1
    if v.port ≠ 0 then (if q.row = 0 then s else s.updVis fun x => { x with preview := v.addRow x.preview })
    else if v.line.uid < (s.camN 0).runUid ∨ row < q.row then s
    else
      let s := (s.rowsTo row).updVis fun x => { x with preview := { v.addRow x.preview with row := row } }
      if (v.trig + 1) % q.binLines = 0 then s.writeRow else s

/-! ## Egress (R197) -/

/-- Egress: the line joins the job of its frame on every open stream of the port. -/
def Seen.egress (v : Seen) (s : State) : State :=
  (s.streamsOf v.port).foldl (fun t i =>
    let e := t.esN i
    t.updCam v.port fun k => { k with
      esLines := k.esLines.upd [] i fun l => l ++ [(v.line.uid, v.line.line - 1, egressSamples v.link v.flat e.srcKind e.srcDepth v.y v.d)] }) s

/-! ## Density requests (R198) -/

/-- A line joins the request: its port's lines count from its first line on, and again from there at a new epoch (R194), until LINES of
them have passed. A line of a camera that owns no column gives nothing. -/
def Seen.addDensity (v : Seen) (stale : Nat → Bool) (q : DensReq) : DensReq :=
  let p := v.port
  if q.ended.contains p ∨ v.cols = [] then q
  else
    let start := q.first.get 0 p
    let fresh := decide (start = 0) || decide (v.trig + 1 < start) || q.epoch.get 0 p != v.epoch
    let q := if fresh then { q with
        first := q.first.set 0 p (v.trig + 1), epoch := q.epoch.set 0 p v.epoch, span := q.span.set none p none,
        sums := q.sums.filter fun e => !(v.cols.any fun c => c.1 == e.1) } else q
    let k := v.trig + 1 - q.first.get 0 p
    let q := if k < q.lines then { q with
        sums := v.cols.foldl (fun m c => if stale c.1 then m else SMap.upd (0, 0) m c.1 fun a => (a.1 + v.d0 c.2, a.2 + 1)) q.sums,
        span := q.span.upd none p fun a => match a with
          | some (lo, hi) => some (min lo v.centre, max hi v.centre)
          | none => some (v.centre, v.centre) } else q
    if q.lines ≤ k + 1 then { q with ended := p :: q.ended } else q

/-- Density: the line joins an outstanding request. -/
def Seen.density (v : Seen) (s : State) : State :=
  match s.vis.density with
  | none => s
  | some q => (s.updVis fun x => { x with density := some (v.addDensity s.isStale q) }).densityDone

/-! ## The defect map (R199) -/

/-- ρ of the line's columns in Q4.12 units, those that are STALE left out. -/
def Seen.residuals (v : Seen) (s : State) : List (Nat × Rat) :=
  let rs := v.recs s
  v.cols.filterMap fun c => if s.isStale c.1 then none else some (c.1, (v.d0 c.2 : Rat) - s.loop.k * meanWeight rs c.1)

/-- The median over the eight entries nearest to a column, itself left out; of two as near, the lower comes first. -/
def nearMedian (l : List (Nat × Rat)) (c : Nat) : Option Rat :=
  let near := (l.filter fun e => e.1 != c).mergeSort fun a b =>
    decide (((a.1 : Int) - c).natAbs < ((b.1 : Int) - c).natAbs) || (((a.1 : Int) - c).natAbs == ((b.1 : Int) - c).natAbs && decide (a.1 ≤ b.1))
  if near.isEmpty then none else some (medianRat ((near.take 8).map (·.2)))

/-- The deviations beyond a threshold: column and signed deviation. -/
def deviations (all mine : List (Nat × Rat)) (thresh : Nat) : List (Nat × Rat) :=
  mine.filterMap fun e => match nearMedian all e.1 with
    | some m => if (thresh : Rat) < |e.2 - m| then some (e.1, e.2 - m) else none
    | none => none

/-- Splits deviations, columns ascending, into runs of adjacent columns of one sign. -/
def runsOf (l : List (Nat × Rat)) : List (List (Nat × Rat)) :=
  (l.foldl (fun (acc : List (List (Nat × Rat))) e =>
    match acc with
    | (f :: r) :: rest => if e.1 = f.1 + 1 ∧ (decide (0 < e.2) == decide (0 < f.2)) then (e :: f :: r) :: rest else [e] :: (f :: r) :: rest
    | _ => [e] :: acc) []).reverse.map List.reverse

/-- A record of the means that ended a streak window. -/
def Seen.streakRec (v : Seen) (run : List (Nat × Rat)) (s : State) : State :=
  let dark := match run.head? with | some e => decide (0 < e.2) | none => true
  let m := s.magnitude ((run.map (·.2)).sum / (run.length : Rat))
  m.2.addDefect { kind := if dark then 0 else 1, port := v.port, epoch := v.epoch, firstCol := (run.head?.map (·.1)).getD 0,
                  lastCol := (run.getLast?.map (·.1)).getD 0,
                  pos := (s.vis.streakPos.get none ((run.head?.map (·.1)).getD 0)).getD v.centre,
                  length := s.vis.defect.streakLines, magnitude := m.1 }

/-- Streaks: residuals join their columns' averages; the columns whose STREAK_LINES lines are complete are compared with their
neighbours and start anew. -/
def Seen.streaks (v : Seen) (rho : List (Nat × Rat)) (s : State) : State :=
  let n := s.vis.defect.streakLines
  let s := s.updVis fun x => { x with
    streakPos := rho.foldl (fun m e => if (SMap.get (0, 0) x.streak e.1).2 = 0 then SMap.set none m e.1 (some v.centre) else m) x.streakPos,
    streak := rho.foldl (fun m e => SMap.upd (0, 0) m e.1 fun a => (a.1 + e.2, a.2 + 1)) x.streak }
  let means := (s.vis.streak.filter fun e => (s.owner e.1).isSome).map fun e => (e.1, e.2.1 / (e.2.2 : Rat))
  let full := (s.vis.streak.filter fun e => decide (n ≤ e.2.2) && rho.any fun r => r.1 == e.1).map (·.1)
  let s := (runsOf (deviations means (means.filter fun e => full.contains e.1) s.vis.defect.streakThresh)).foldl
    (fun t r => v.streakRec r t) s
  s.updVis fun x => { x with streak := x.streak.filter fun e => !full.contains e.1 }

/-- A run of deviations touches a region: same camera, epoch and sign, and a sample of the line before on one of its columns. -/
def Spot.touches (x : Spot) (v : Seen) (run : List (Nat × Rat)) : Bool :=
  x.port == v.port && x.epoch == v.epoch && (match run.head? with | some e => decide (0 < e.2) == x.dark | none => false) &&
    run.any fun e => x.samples.any fun q => q.1 == e.1 && q.2 + 1 == v.trig

/-- A run joins the regions it touches, which become one, or starts a region. -/
def Seen.joinRun (v : Seen) (spots : List Spot) (run : List (Nat × Rat)) : List Spot :=
  let hit := spots.filter fun x => x.touches v run
  let new : Spot := { port := v.port, epoch := v.epoch, dark := match run.head? with | some e => decide (0 < e.2) | none => true,
                      samples := run.map (fun e => (e.1, v.trig)) ++ hit.flatMap (·.samples),
                      sum := (run.map (·.2)).sum + (hit.map (·.sum)).sum, pos := (hit.map (·.pos)).foldl min v.centre }
  (spots.filter fun x => !x.touches v run) ++ [new]

/-- Spots: the line's deviations join the growing regions; a region of the camera that the line did not reach is closed. -/
def Seen.spots (v : Seen) (rho : List (Nat × Rat)) (s : State) : State :=
  let all := (runsOf (deviations rho rho s.vis.defect.spotThresh)).foldl v.joinRun s.vis.spots
  let closed := all.filter fun x => x.port == v.port && !(x.samples.any fun q => q.2 == v.trig)
  let s := s.updVis fun x => { x with spots := all.filter fun x => !(x.port == v.port && !(x.samples.any fun q => q.2 == v.trig)) }
  closed.foldl (fun t x => t.spotRec x) s

/-- The defect map takes a line. -/
def Seen.defects (v : Seen) (s : State) : State :=
  if !s.vis.defect.enable then s
  else
    let rho := v.residuals s
    v.spots rho (v.streaks rho s)

/-! ## Thatch strips (R200, R201) -/

/-- The rung a camera line shows: none within one line pitch of a rung's edges. -/
def Thatch.rungAt (w : Web) (t : Thatch) (v : Seen) : Option Nat :=
  match t.page with
  | none => none
  | some (top, _) =>
    let lp := 2 * v.half
    (List.range t.step).find? fun r =>
      let a := w.linePos top (t.firstLine + r * t.rungLines)
      let b := w.linePos top (t.firstLine + (r + 1) * t.rungLines)
      decide (a + lp ≤ v.centre) && decide (v.centre < b - lp)

/-- The centre of a pixel in 2^-16 column (R187). -/
def CamPlace.pixelCentre (k : CamPlace) (x : Nat) : Int :=
  let off : Int := x * k.colsPerPx + k.colsPerPx / 2
  if k.dir then k.firstCol * 65536 - off else k.firstCol * 65536 + off

/-- Mass and first moment of D_0 about a column's centre over the pixels within half a step of it. -/
def Seen.moment (v : Seen) (k : CamPlace) (step c : Nat) : Nat × Int :=
  (List.range v.link.pixels).foldl (fun a x =>
    let off := k.pixelCentre x - (c * 65536 + 32768 : Int)
    if off.natAbs * 2 ≤ step * 65536 then (a.1 + v.d0 x, a.2 + v.d0 x * off) else a) (0, 0)

/-- A line joins the stripes of its rung; lines of another epoch start a stripe anew. -/
def Seen.addThatch (v : Seen) (w : Web) (k : CamPlace) (bad : Bool) (stale : Nat → Bool) (t : Thatch) : Thatch :=
  match t.rungAt w v with
  | none => t
  | some r =>
    let f := (v.port, v.line.uid)
    { t with
      frames := if t.frames.contains f then t.frames else f :: t.frames, incomplete := t.incomplete || bad,
      stripes := v.cols.foldl (fun m c =>
        if c.1 % t.step ≠ r ∨ stale c.1 then m
        else
          let mo := v.moment k t.step c.1
          SMap.upd {} m c.1 fun a =>
            let a : Stripe := if a.epoch = v.epoch then a else {}
            { lines := a.lines + 1, sum := a.sum + v.d0 c.2, mass := a.mass + mo.1, moment := a.moment + mo.2, epoch := v.epoch }) t.stripes }

/-- The frame was closed incomplete. -/
def State.frameBad (s : State) (p u : Nat) : Bool := s.frameMarked p u 0

/-- Thatch: the line joins the strips of its rung. -/
def Seen.thatch (v : Seen) (s : State) : State :=
  match s.web? with
  | none => s
  | some w =>
    let k := (s.camN v.port).place
    let bad := s.frameBad v.port v.line.uid
    s.updVis fun x => { x with thatch := x.thatch.map (v.addThatch w k bad s.isStale) }

end Sys2Proof.Machine
end

