-- ==== Sys2Proof/Machine/Recal.lean ====
section
/-! DEFINITION. What a processed line gives the uniformity loop and a substrate recalibration (spec/07 R206–R208, R216, R219, R220),
and the end of a recalibration. -/

namespace Sys2Proof.Machine

/-! ## STALE columns (R216, R220) -/

/-- The columns whose wait for new codes ends with this line: it shows a line that was named for them, fired on its port, or a later one. -/
def Seen.fresh (v : Seen) (s : State) : List Nat :=
  (v.cols.map (·.1)).filter fun c =>
    (s.loop.stale.get {} c).keys.any fun e =>
      s.fire.trace.any fun r => r.port == e.1 && lineKey r.handle r.line == e.2 && decide (r.target < v.centre + v.half)

/-- STALE by new codes ends for the columns that show them. -/
def Seen.endStale (v : Seen) (s : State) : State :=
  let cs := v.fresh s
  s.updLoop fun l => { l with stale := l.stale.updAll {} cs fun _ x => { x with codes := false, keys := [], imm := [] } }

/-- A new REF and FF come into force: windows restart, and the port's columns are STALE over a block's length of web travel. -/
def State.applyFlat (p : Nat) (f : Flat) (s : State) : State :=
  let cs := s.ownedCols p
  let len := match s.web? with | some w => (s.cal.data.loop.windowLines / 16 * w.pitch / 65536 : Nat) | none => 0
  let pos := s.webPos + len
  let s := (s.updData fun d => { d with flat := d.flat.set {} p f }).updCam p fun k => { k with pendFlat := none }
  let s := (s.restartCols cs).restartStreaks cs
  s.updLoop fun l => { l with stale := l.stale.updAll {} cs fun _ x => { x with until_ := some pos } }

/-- What waits for a frame boundary takes effect before the first line of the frame (R191, VIS_SET_MATRIX). -/
def State.frameBoundary (p f : Nat) (s : State) : State :=
  let s := match (s.camN p).pendFlat with | some (x, n) => if n ≤ f then s.applyFlat p x else s | none => s
  match (s.camN p).pendMatrix with
  | some (x, n) => if n ≤ f then s.updCam p fun k => { k with matrix := x, pendMatrix := none } else s
  | none => s

/-- The first line of another epoch: every statistic of the port's columns starts anew (spec/06 R194, R215). -/
def State.newEpoch (p : Nat) (s : State) : State :=
  let cs := s.ownedCols p
  let s := (s.restartCols cs).restartStreaks cs
  (s.updLoop fun l => { l with acc := l.acc.filter fun e => !cs.contains e.1 }).updCam p fun k => { k with
    recal := { k.recal with counts := [], sums := [] } }

/-! ## Samples of the loop (R206–R208) -/

/-- An accumulator entry without samples. -/
def AccEntry.none : AccEntry := ⟨0, 0, 0, 0, 0⟩

/-- Adds a sample. -/
def AccEntry.add (a : AccEntry) (x y : Nat) : AccEntry := ⟨a.n + 1, a.sx + x, a.sy + y, a.sxx + x * x, a.sxy + x * y⟩

/-- A print line of the range has its target from `a` to below `b`. -/
def Spoilt.meets (w : Web) (a b : Int) (e : Spoilt) : Bool :=
  let n0 := max e.lo ((a - e.top) * 65536 / (w.pitch : Int)).toNat - 1
  ((List.range 4).map (n0 + ·)).any fun n =>
    decide (e.lo ≤ n) && decide (n ≤ e.hi) && decide (a ≤ w.linePos e.top n) && decide (w.linePos e.top n < b)

/-- A print line in the footprint lies in the range of a mark that spoils samples. -/
def Seen.spoilt (v : Seen) (s : State) : Bool :=
  match s.web? with
  | some w => s.fire.spoilt.any (Spoilt.meets w (v.centre - v.half) (v.centre + v.half))
  | none => false

/-- A column takes no sample of this line (R207). -/
def Seen.leftOut (v : Seen) (s : State) (rs : List TraceRec) (c : Nat) : Bool :=
  !v.flat.loaded || s.seenBy c != some v.port || s.isStale c || v.spoilt s || rs.any fun r => r.throttled && r.covers c

/-- The samples of the line enter the accumulators. -/
def Seen.loop (v : Seen) (s : State) : State :=
  if !s.cal.data.loop.enable then s
  else
    let rs := v.recs s
    let cs := v.cols.filter fun c => !v.leftOut s rs c.1
    s.updLoop fun l => { l with
      openPos := if (s.camN v.port).runs then l.openPos.upd none v.port fun a => some (a.getD v.centre) else l.openPos,
      blk := if (l.openPos.get none v.port).isSome then l.blk else l.blk.set 0 v.port l.block,
      acc := cs.foldl (fun m c =>
        SMap.upd AccEntry.none m c.1 fun a => AccEntry.add a (min 255 (roundNat (128 * meanWeight rs c.1))) (v.d0 c.2 / 16)) l.acc }

/-! ## Substrate recalibration (R219) -/

/-- The columns a pixel touches. -/
def CamPlace.pixelCols (k : CamPlace) (x : Nat) : List Nat :=
  let a : Int := if k.dir then k.firstCol * 65536 - (x + 1) * k.colsPerPx else k.firstCol * 65536 + x * k.colsPerPx
  let b := a + k.colsPerPx
  let lo := a / 65536
  ((List.range 18).map fun (i : Nat) => lo + i).filterMap fun c => if 0 ≤ c ∧ c * 65536 < b then some c.toNat else none

/-- The pixel's sample is of bare substrate. -/
def Seen.bare (v : Seen) (k : CamPlace) (rs : List TraceRec) (x : Nat) : Bool :=
  (rs.all fun r => (k.pixelCols x).all fun c => r.weights.get 0 c == 0) &&
    (List.range v.link.channels).all fun ch => decide (v.flat.ref.getD ch 0 ≤ 2 * v.y.getD (x * v.link.channels + ch) 0)

/-- The substrate samples of a line. -/
def Seen.collect (v : Seen) (s : State) : State :=
  let k := s.camN v.port
  let guard := match s.web? with | some w => ((s.cal.data.loop.recal.get {} v.port).guard * w.pitch / 65536 : Nat) | none => 0
  let rs := s.traceIn (v.centre - v.half - guard) (v.centre + v.half + guard)
  let n := v.link.channels
  let xs := (List.range v.link.pixels).filter fun x => v.bare k.place rs x
  s.updCam v.port fun k => { k with
    recal := { k.recal with
      counts := k.recal.counts.updAll 0 xs fun _ c => c + 1,
      sums := xs.foldl (fun m x => (List.range n).foldl (fun m ch => SMap.upd 0 m (x * n + ch) (· + v.y.getD (x * n + ch) 0)) m) k.recal.sums } }

/-- ȳ of a pixel and channel, none without samples. -/
def Recal.mean (r : Recal) (n x ch : Nat) : Option Rat :=
  let c := r.counts.get 0 x
  let sum : Nat := r.sums.get 0 (x * n + ch)
  if c = 0 then none else some ((sum : Rat) / c)

/-- The new FF of a pixel's channel; none where the pixel keeps its old one. -/
def newFf (old : Flat) (i : Nat) (yt m : Rat) : Option Nat :=
  let ff := old.ff.get 0x1000 i
  if m = 0 then none
  else
    let v := roundNat (ff * yt / m)
    if out v 0x0800 0x2000 then none
    else if old.loaded && decide ((ff : Rat) < 8 * |(v : Rat) - ff|) then none
    else some v

/-- The new FF of all channels of a pixel. -/
def newPixel (old : Flat) (r : Recal) (subMin n : Nat) (yt : List Rat) (x : Nat) : Option (List Nat) :=
  if r.counts.get 0 x < subMin then none
  else (List.range n).mapM fun ch => match r.mean n x ch with
    | some m => newFf old (x * n + ch) (yt.getD ch 0) m
    | none => none

/-- Collection of a port ends and is evaluated. -/
def State.finishRecal (p : Nat) (s : State) : State :=
  let k := s.camN p
  let n := k.link.channels
  let old := s.cal.data.flat.get {} p
  let cfg := s.cal.data.loop.recal.get {} p
  let yt := (List.range n).map fun ch => medianRat ((List.range k.link.pixels).filterMap fun x => k.recal.mean n x ch)
  let new := (List.range k.link.pixels).map fun x => newPixel old k.recal cfg.subMin n yt x
  let got := (new.filter Option.isSome).length
  let s := s.stopRecal p
  if 10 * got < 9 * k.link.pixels then s.raise .cal 5
  else
    let ff := new.zipIdx.foldl (fun m e => match e.1 with | some l => SMap.setList 0x1000 m (e.2 * n) l | none => m) old.ff
    let ref := (List.range 3).map fun ch => if ch < n then roundNat (yt.getD ch 0) % 2 ^ 22 else old.ref.getD ch 0
    let s := (s.newFlat p { ref := ref, ff := ff, loaded := true }).raise .cal 3
    if got < k.link.pixels then s.raise .cal 4 else s

/-- Every pixel has its samples. -/
def State.recalFull (s : State) (p : Nat) : Bool :=
  (List.range (s.camN p).link.pixels).all fun x =>
    decide ((s.cal.data.loop.recal.get {} p).subMin ≤ (s.camN p).recal.counts.get 0 x)

/-- Recalibration: a collecting port takes the line. -/
def Seen.recal (v : Seen) (s : State) : State :=
  if !(s.camN v.port).recal.collecting then s
  else
    let s := v.collect s
    if s.recalFull v.port then s.finishRecal v.port else s

/-- RECAL_TIMEOUT: collection ends RECAL_TIMEOUT_S after its start. -/
def execRecalTimeout (port : Nat) (s : State) : Host.Outcome State Fault Refusal :=
  evt (fun s => if decide (port < 4) && (s.camN port).recal.collecting then s.finishRecal port else s) s

/-- RECAL_PERIOD_RESTART: PERIOD_S after an end, collection starts again on a running port. -/
def execRecalPeriodRestart (port : Nat) (s : State) : Host.Outcome State Fault Refusal :=
  evt (fun s =>
    let k := s.camN port
    if decide (port < 4) && k.runs && k.recal.started && !k.recal.collecting && (s.cal.data.loop.recal.get {} port).periodS != 0 then
      s.startRecal port
    else s) s

end Sys2Proof.Machine
end

