-- ==== Sys2Proof/Machine/LoopEval.lean ====
section
/-! DEFINITION. The uniformity loop's blocks and evaluations (spec/07 R208–R214, R216, R218, spec/09 R278): a block closes, windows are
evaluated, gains are proposed and journaled. -/

namespace Sys2Proof.Machine

/-! ## Blocks (R208) -/

/-- The length of a block in sub-counts. -/
def State.blockLen (s : State) : Int :=
  match s.web? with | some w => (s.cal.data.loop.windowLines / 16 * w.pitch / 65536 : Nat) | none => 0

/-- A camera has seen the web travel a block's length past the position at which its block in progress opened. -/
def State.blockPassed (s : State) (p : Nat) : Bool :=
  (s.camN p).runs && match s.loop.openPos.get none p, (s.camN p).lastDone with
    | some a, some (pos, _) => decide (a + s.blockLen ≤ pos - s.camOffset p)
    | _, _ => false

/-- Sum of two accumulator entries. -/
def AccEntry.plus (a b : AccEntry) : AccEntry := ⟨a.n + b.n, a.sx + b.sx, a.sy + b.sy, a.sxx + b.sxx, a.sxy + b.sxy⟩

/-- Adds an entry into a column's sums for block `n`; its ring holds the newest 16 blocks. -/
def addBlock (n : Nat) (e : AccEntry) (l : List (Nat × AccEntry)) : List (Nat × AccEntry) :=
  if l.any fun x => x.1 == n then l.map fun x => if x.1 = n then (n, AccEntry.plus x.2 e) else x else ((n, e) :: l).take 16

/-- Puts an entry in the place of a column's sums for block `n`. -/
def setBlock (n : Nat) (e : AccEntry) (l : List (Nat × AccEntry)) : List (Nat × AccEntry) := addBlock n e (l.filter fun x => x.1 != n)

/-- The columns the loop sees through a camera. -/
def State.seenCols (s : State) (p : Nat) : List Nat := (List.range s.barColumns).filter fun c => s.seenBy c == some p

/-- The number of a camera's block in progress, as ACCUM frames and rings carry it. -/
def Loop.blockOf (l : Loop) (p : Nat) : Nat := l.blk.get 0 p % 65536

/-- ACCUM frames of runs of adjacent columns, 128 each (spec/09 Table 09-2). -/
def accumFrames (block : Nat) (acc : SMap AccEntry) : Nat → List Nat → List AccumFrame
  | 0, _ => []
  | _, [] => []
  | f + 1, c :: cs =>
    let run := (((c :: cs).zipIdx.takeWhile fun e => decide (e.2 < 128) && e.1 == c + e.2)).map (·.1)
    ⟨BitVec.ofNat 32 c, BitVec.ofNat 16 block, run.map fun x => SMap.get AccEntry.none acc x⟩ ::
      accumFrames block acc f ((c :: cs).drop run.length)

/-- A camera's block closes: the entries of its columns go into their rings and are cleared, and its next block opens where this one
ends; the chip that does not supervise sends them. A column whose entry for the block came from the partner as the owner keeps that. -/
def State.copyBlock (p : Nat) (s : State) : State :=
  let cs := s.seenCols p
  let n := s.loop.blockOf p
  let s := if s.pairUp && !s.twin.supervisor then
      (accumFrames n s.loop.acc (cs.length + 1) cs).foldl (fun t f => t.mirrorSend (.accum f)) s
    else s
  let mine := cs.filter fun c => s.loop.peer.get 0 c != n + 1
  s.updLoop fun l => { l with
    ring := mine.foldl (fun m c => SMap.upd [] m c (addBlock n (SMap.get AccEntry.none l.acc c))) l.ring,
    acc := l.acc.filter fun e => !cs.contains e.1, blk := l.blk.upd 0 p (· + 1),
    openPos := l.openPos.upd none p fun a => a.map (· + s.blockLen) }

/-! ## Evaluation (R210–R214) -/

/-- How a column's sums are judged: its slope, or the reason it is UNTRUSTED (result code 4 LOW_N, 5 LOW_VAR, 6 NO_SLOPE). -/
def slopeOf (l : LoopCfg) (a : AccEntry) : Rat ⊕ Nat :=
  let sxx : Int := (a.n * a.sxx : Nat) - (a.sx * a.sx : Nat)
  let sxy : Int := (a.n * a.sxy : Nat) - (a.sx * a.sy : Nat)
  if a.n < l.nMin then .inr 4
  else if sxx < (l.varMin * (a.n * a.n) : Nat) then .inr 5
  else if sxy ≤ 0 then .inr 6
  else .inl (if sxx = 0 then 0 else (sxy : Rat) / sxx)

/-- A column with a full window and its judgement. -/
def State.judged (s : State) : List (Nat × (Rat ⊕ Nat)) :=
  (s.loop.ring.filter fun e => decide (16 ≤ e.2.length)).map fun e =>
    (e.1, slopeOf s.cal.data.loop ((e.2.map (·.2)).foldl AccEntry.plus AccEntry.none))

/-- The slopes of the trusted columns. -/
def trustedOf (l : List (Nat × (Rat ⊕ Nat))) : List (Nat × Rat) :=
  l.filterMap fun e => match e.2 with | .inl x => some (e.1, x) | .inr _ => none

/-- What an evaluation makes of a trusted column: the ratio r, the result, and the new gains of its nozzles. -/
structure Verdict where
  col : Nat
  r : Rat
  result : Nat
  gains : List (Nat × Nat × Nat)

/-- The proposed gain lies within DEV_LIMIT of the factory gain. -/
def gainInRange (l : LoopCfg) (new fac : Nat) : Bool := decide (((new : Int) - fac).natAbs * 65536 ≤ l.devLimit * fac)

/-- The verdict on a trusted column (R212). -/
def State.verdict (s : State) (med : Rat) (c : Nat) (slope : Rat) : Verdict :=
  let l := s.cal.data.loop
  let r := if med = 0 then 0 else slope / med
  let step := (l.beta : Rat) / 65536 * (r - 1)
  let nz := match s.geo.committed, s.web? with | some g, some w => g.allServers w c | _, _ => []
  let new := nz.map fun n => (n.1, n.2, roundNat (((s.nozN n.1 n.2).gain : Rat) * (1 + step)))
  let bad := decide ((l.stepLimit : Rat) < |step| * 65536) || new.any fun g => !gainInRange l g.2.2 (s.nozN g.1 g.2.1).gainFac
  let same := new.all fun g => g.2.2 == (s.nozN g.1 g.2.1).gain
  ⟨c, r, if bad then 3 else if same then 1 else 2, if bad || same then [] else new⟩

/-- Splits (nozzle, gain) pairs, nozzles ascending, into runs. -/
def gainRuns (p : Nat) (key : BitVec 32) (l : List (Nat × Nat)) : List GainRun :=
  (l.foldl (fun (acc : List (Nat × List Nat)) e =>
    match acc with
    | (first, gs) :: rest => if e.1 = first + gs.length then (first, gs ++ [e.2]) :: rest else (e.1, [e.2]) :: acc
    | [] => [(e.1, [e.2])]) []).reverse.map fun x => ⟨p, x.1, key, x.2⟩

/-- The runs of a GAIN_UPDATE record (R213). -/
def State.runsOf (s : State) (vs : List Verdict) : List GainRun :=
  let all := vs.flatMap (·.gains)
  (List.range 48).flatMap fun p =>
    let mine := ((all.filter fun g => g.1 == p).map (·.2)).mergeSort fun a b => decide (a.1 ≤ b.1)
    if mine.isEmpty then [] else gainRuns p (s.runKey p) mine

/-- A ratio as unsigned Q2.14; outside the format a free value (log 6). -/
def State.ratioField (r : Rat) (s : State) : Nat × State :=
  let q := roundNat (r * 16384)
  if q < 65536 then (q, s) else s.drawBelow 65536

/-- Notes a verdict: result, consecutive rejections, and the event at the eighth (R214). -/
def State.noteVerdict (s : State) (v : Verdict) : State :=
  let (r, s) := s.ratioField v.r
  let n := if v.result = 3 then min 255 ((s.loop.col.get {} v.col).rejects + 1) else 0
  let s := s.updLoop fun l => { l with col := l.col.set {} v.col ⟨r, v.result, n⟩ }
  if n = 8 ∧ v.result = 3 then s.logEvent 0x0901 0 (v.col + r * 2 ^ 32) else s

/-- Notes the columns without a verdict: UNTRUSTED, or not seen at all. -/
def State.noteOthers (js : List (Nat × (Rat ⊕ Nat))) (seen : List Nat) (s : State) : State :=
  let s := js.foldl (fun t e => match e.2 with
    | .inr code => t.updLoop fun l => { l with col := l.col.upd {} e.1 fun x => { x with result := code, rejects := 0 } }
    | .inl _ => t) s
  s.updLoop fun l => { l with
    col := ((List.range s.barColumns).filter fun c => !seen.contains c).foldl (fun m c => SMap.upd {} m c fun x => { x with result := 7 }) l.col }

/-- K of an evaluation (R211); outside its format a free value (log 6). -/
def State.setSlope (med : Rat) (s : State) : State :=
  let k := roundNat (med * 2048)
  let (k, s) := if k < 65536 then (k, s) else s.drawBelow 65536
  s.updLoop fun l => { l with k := k }

/-- The columns updated are STALE from now (R216), and their streak averages start anew (R221). -/
def State.makeStale (cs : List Nat) (s : State) : State :=
  (s.updLoop fun l => { l with stale := l.stale.updAll {} cs fun _ x => { x with codes := true, keys := [], imm := [] } }).restartStreaks cs

/-- Applies the verdicts of an evaluation that is not skipped. -/
def State.applyVerdicts (vs : List Verdict) (s : State) : State :=
  let s := vs.foldl State.noteVerdict s
  let up := vs.filter fun v => v.result == 2
  let rej := vs.filter fun v => v.result == 3
  let s := s.updLoop fun l => { l with updated := up.length, rejected := rej.length }
  let s := if rej.isEmpty then s else s.raise .cal 1
  if up.isEmpty then s else (s.makeStale (up.map (·.col))).journal (.gainUpdate (s.runsOf up))

/-- An evaluation over every column with a full window (R210–R214). -/
def State.evaluate (s : State) : State :=
  let js := s.judged
  let tr := trustedOf js
  let seen := (List.range s.barColumns).filter fun c => (s.seenBy c).isSome || !(s.loop.ring.get [] c).isEmpty
  let s := s.updLoop fun l => { l with
    evaluations := l.evaluations + 1, seen := seen.length, trusted := tr.length, updated := 0, rejected := 0 }
  if tr.isEmpty ∨ tr.length * 65536 < s.cal.data.loop.medianMin * seen.length then s.raise .cal 2
  else
    let med := medianRat (tr.map (·.2))
    let vs := tr.map fun e => s.verdict med e.1 e.2
    ((s.noteOthers js seen).setSlope med).applyVerdicts vs

/-- How many blocks every camera at work has closed. -/
def State.blocksClosed (s : State) : Nat :=
  let ns := ((List.range 4).filter fun p => (s.camN p).runs && (s.loop.openPos.get none p).isSome).map fun p => s.loop.blk.get 0 p
  max s.loop.block (ns.foldl min (ns.headD 0))

/-- Counts the blocks that every camera has closed, with the evaluation due at every UPDATE_BLOCKS-th close on the supervisor (R209,
R218). -/
def State.countBlocks (s : State) : State :=
  let n := s.loop.closes + (s.blocksClosed - s.loop.block)
  let due := decide (s.loop.closes / s.cal.data.loop.updateBlocks < n / s.cal.data.loop.updateBlocks)
  let s := s.updLoop fun l => { l with block := s.blocksClosed, closes := n }
  if s.supervises && s.coresRun && due then s.evaluate else s

/-- The block in progress closes for every camera that has seen it pass, its columns with it (R208). -/
def State.closeBlock (s : State) : State :=
  if !s.cal.data.loop.enable then s
  else (((List.range 4).filter s.blockPassed).foldl (fun t p => t.copyBlock p) s).countBlocks

/-- BLOCK_CLOSE: the block in progress closes. -/
def execBlockClose (s : State) : Host.Outcome State Fault Refusal := evt State.closeBlock s

end Sys2Proof.Machine
end

