-- ==== Sys2Proof/Machine/Pipe.lean ====
section
/-! DEFINITION. The shared image pipeline and the Slate encoder at work (spec/06 R190–R199, spec/05 R176–R178): the line taken next, a
line processed with all it feeds, and encode jobs. -/

namespace Sys2Proof.Machine

/-! ## PIPELINE_LINE_START (R190) -/

/-- The next port in round-robin order that has a line queued. -/
def State.nextPort (s : State) : Option Nat :=
  ((List.range 4).map fun i => (s.vis.rrNext + i) % 4).find? fun p => !(s.camN p).fifo.isEmpty

/-- The pipeline takes a line. -/
def State.lineStart (s : State) : State :=
  if s.vis.cur.isSome || s.visGated then s
  else
    match s.nextPort with
    | none => s
    | some p =>
      match (s.camN p).fifo with
      | [] => s
      | l :: ls =>
        (s.updCam p fun k => { k with fifo := ls }).updVis fun v => { v with cur := some (p, l), rrNext := (p + 1) % 4 }

/-- PIPELINE_LINE_START: the pipeline takes the next queued line. -/
def execPipelineLineStart (s : State) : Host.Outcome State Fault Refusal := evt State.lineStart s

/-! ## PIPELINE_LINE_DONE (R191–R199) -/

/-- A line passed the temporal step unfiltered: its frame counts it and is marked NR_WARMUP (R192). -/
def State.warmLine (p u : Nat) (s : State) : State :=
  (s.markFrame p u 2).updCam p fun k => { k with
    frame := k.frame.map fun x => if x.uid = u then { x with unfiltered := x.unfiltered + 1 } else x,
    recs := k.recs.map fun r => if r.uid = u then { r with unfiltered := r.unfiltered + 1 } else r }

/-- The marks that processing a line gives its frame (Table 06-4). -/
def State.marksOfLine (p u : Nat) (s : State) : State :=
  let s := s.markHotspot p u
  let s := if s.pwr.droop then s.markFrame p u 0x10 else s
  if (s.ownedCols p).any s.isStale then s.markFrame p u 0x80 else s

/-- The stages of Table 06-2 over a line. -/
def State.develop (s : State) (p : Nat) (l : CamLine) : Seen :=
  let k := s.camN p
  let flat := s.cal.data.flat.get {} p
  let m := mergedLine k.link flat l
  let y := reduceNoise k.nr k.link.channels l.warmup k.yPrev m
  { port := p, line := l, trig := l.frame * 256 + l.line - 1, centre := l.pos - s.camOffset p, half := k.place.linePitch / 2,
    link := k.link, flat := flat, y := y, d := lineDensity k.matrix k.link flat y,
    cols := (s.ownedCols p).filterMap fun c => (k.pixelOf c).map fun x => (c, x) }

/-- What the processed line feeds: egress, preview and recalibration in the pipeline, the rest on the vision engines (spec/01 R17). -/
def Seen.feed (v : Seen) (s : State) : State :=
  let s := v.preview (v.egress s)
  let s := onEngine .density v.density s
  let s := onEngine .defects v.defects s
  let s := onEngine .thatch v.thatch s
  v.recal (onEngine .regression v.loop s)

/-- The oldest bar-reference position a running camera can still need, none while one has shown nothing yet. -/
def State.traceFloor (s : State) : Option Int :=
  let l := ((List.range 4).filter fun p => (s.camN p).runs).map fun p =>
    (s.camN p).lastDone.map fun d => d.1 - s.camOffset p - (s.camN p).place.linePitch
  let pitch : Int := match s.web? with | some w => (w.pitch / 65536 : Nat) | none => 0
  match l.mapM id with
  | some (a :: as) => some (as.foldl min a - 65 * pitch)
  | _ => none

/-- Drops what the coverage trace holds behind every camera. -/
def State.pruneTrace (s : State) : State :=
  match s.traceFloor with
  | some a => s.updFire fun f => { f with
      trace := f.trace.filter fun r => decide (a ≤ r.target),
      spoilt := f.spoilt.filter fun e => match s.web? with | some w => decide (a ≤ w.linePos e.top e.hi) | none => true }
  | none => s

/-- The line at the pipeline's end. -/
def State.lineDone (s : State) : State :=
  match s.vis.cur with
  | none => s
  | some (p, l) =>
    if s.visGated then s
    else
      let s := s.frameBoundary p l.frame
      let s := if (s.camN p).doneEpoch = l.epoch then s else s.newEpoch p
      let k := s.camN p
      let s := if k.nr.temporal && (l.warmup || k.yPrev.isNone) then s.warmLine p l.uid else s
      let v := s.develop p l
      let s := (v.endStale s).marksOfLine p l.uid
      let s := v.feed s
      let n := l.long.length * (if l.short.isSome then 2 else 1)
      let s := s.updCam p fun k => { k with yPrev := some v.y, lastDone := some (l.pos, l.epoch), doneEpoch := l.epoch }
      let s := s.updVis fun x => { x with cur := none, linesDone := x.linesDone + 1, samplesDone := x.samplesDone + BitVec.ofNat 64 n }
      (s.linesThrough p).thatchDone.pruneTrace

/-- PIPELINE_LINE_DONE: the line in the pipeline is processed. -/
def execPipelineLineDone (s : State) : Host.Outcome State Fault Refusal := evt State.lineDone s

/-! ## Encode jobs (spec/05 R176–R178) -/

/-- The free space of an egress ring: what it can still take, less what is published and not yet moved. -/
def Dma.ringSpace (d : Dma) : Nat := min (2 ^ d.ringLog2 - (d.prod - d.cons).toNat) d.remain.toNat - d.out.length

/-- ENCODE_JOB_START: the encoder takes the next job and notes the free space of its stream's ring. -/
def execEncodeJobStart (s : State) : Host.Outcome State Fault Refusal :=
  evt (fun s =>
    if s.slate.encBusy.isSome || s.visGated then s
    else
      match s.slate.encJobs with
      | [] => s
      | j :: js => s.updSlate fun t => { t with encJobs := js, encBusy := some (j, (s.dmaN (s.esN j.es).channel).ringSpace) }) s

/-- The output of a job, with the stream header of a stream's first, and the codec state after it. -/
def State.jobOutput (s : State) (j : EncJob) : List Byte × CodecSt :=
  let e := s.esN j.es
  let w := s.esWidth e
  let head := if e.headerDone then [] else streamHeader e.srcDepth 1 j.es w 0xFFFFFFFF 0 e.tag
  let st := if e.headerDone then e.codec else { e.codec with offset := 32 }
  let r := encodeBlocks w e.srcDepth e.level e.blockLines e.keyInterval (j.lines.length + 1) j.lines st
  (head ++ r.1, r.2)

/-- The job in the encoder is over: published whole, or discarded (R177); a close that waited takes effect (R178). -/
def State.jobDone (s : State) : State :=
  match s.slate.encBusy with
  | none => s
  | some (j, space) =>
    let e := s.esN j.es
    let r := s.jobOutput j
    let s := s.updSlate fun t => { t with encBusy := none }
    let s :=
      if r.1.length ≤ space then
        ((s.publish e.channel r.1).updEs j.es fun e => { e with codec := r.2, headerDone := true }).updSlate fun t => { t with
          encJobsDone := t.encJobsDone + 1 }
      else
        ((s.updEs j.es fun e => { e with codec := { e.codec with needKey := true } }).updSlate fun t => { t with
          encNoSpace := t.encNoSpace + 1 }).logEvent 0x0602 j.es j.es
    if (s.esN j.es).closing then s.closeEs j.es else s

/-- ENCODE_JOB_DONE: the job in the encoder is over. -/
def execEncodeJobDone (s : State) : Host.Outcome State Fault Refusal :=
  evt (fun s => if s.visGated then s else s.jobDone) s

end Sys2Proof.Machine
end

