-- ==== Sys2Proof/Machine/Poison.lean ====
section
/-! DEFINITION. An uncorrectable DRAM error returns poisoned data to its reader (spec/11 R312). -/

namespace Sys2Proof.Machine

/-- A closed frame has lost one more line to MISSING. -/
def State.missClosed (p u : Nat) (s : State) : State :=
  let was := s.frameMarked p u 0
  let s := s.updCam p fun k => { k with
    recs := k.recs.map fun r => if r.uid = u then { r with missing := r.missing + 1, marks := r.marks ||| 1 } else r,
    framesIncomplete := if was then k.framesIncomplete else k.framesIncomplete + 1 }
  ((s.thatchIncomplete p u).raise .cam 0).linesThrough p

/-- A frame has lost one more line to MISSING. -/
def State.missLine (p u n : Nat) (s : State) : State :=
  let k := s.camN p
  match k.frame with
  | some x =>
    if x.uid = u then s.updCam p fun k => { k with frame := k.frame.map fun y => { y with good := y.good.filter (· != n) } }
    else s.missClosed p u
  | none => s.missClosed p u

/-- The oldest queued line. -/
def State.poisonFifo (p : Nat) (s : State) : State :=
  match (s.camN p).fifo with
  | [] => s
  | l :: ls => (s.updCam p fun k => { k with fifo := ls, yPrev := none }).missLine p l.uid l.line

/-- A camera's line in the pipeline, or its oldest queued, is discarded as MISSING. -/
def State.poisonCam (p : Nat) (s : State) : State :=
  let lose (l : CamLine) (s : State) : State := (s.updCam p fun k => { k with yPrev := none }).missLine p l.uid l.line
  match s.vis.cur with
  | some (q, l) => if q = p then lose l (s.updVis fun v => { v with cur := none }) else s.poisonFifo p
  | none => s.poisonFifo p

/-- A ring read for a port of a line: the nozzles named fire nothing there, and the page is marked over the line. -/
def State.poisonRing (h n p : Nat) (zs : List Nat) (s : State) : State :=
  match s.line? h n with
  | none => s
  | some l =>
    if !l.mapped then s
    else
      (s.updLine h n fun l => { l with
        levels := SMap.set [] l.levels p ((SMap.get [] l.levels p).zipIdx.map fun e => if zs.contains e.2 then 0 else e.1) }).markPage h 13 n n

/-- The firmware restarts as R18 describes, with its event; no lockstep mismatch is counted. -/
def State.poisonCore (s : State) : State := if s.coresRun then (s.logEvent 0x0102 0 s.boot.mismatches).restartFirmware else s

/-- What the reader makes of the poisoned data. -/
def State.poison (r : DramReader) (s : State) : State :=
  match r with
  | .slate d => s.finishJob d true
  | .ring h n p zs => s.poisonRing h n p zs
  | .camera p => s.poisonCam p
  | .egress c => if c < 32 ∧ (s.dmaN c).st = .running ∧ (s.dmaN c).egress then s.updDma c (Dma.stopWith 0x05) else s
  | .core => s.poisonCore

/-- DRAM_UE. -/
def execDramUe (channel : Nat) (addr : BitVec 64) (reader : DramReader) (s : State) : Host.Outcome State Fault Refusal :=
  evt (fun s => if channel < 2 then (s.countUe channel addr).poison reader else s) s

end Sys2Proof.Machine
end

