-- ==== Sys2Proof/Machine/Ptp.lean ====
section
/-! DEFINITION. The events of the press time network and of the RTC (spec/10 R291–R301). -/

namespace Sys2Proof.Machine

/-- A PTP message is one this port takes: PTP runs on it and the domain is ours (R291). -/
def State.ptpTakes (s : State) (p : Nat) (domain : Byte) : Bool := s.ptpOn p && domain.toNat == s.time.domain

/-- The offset from the master in ns (IEEE 1588): ingress − origin − path − correction, with INGRESS_LAT_NS (R296) and
delayAsymmetry −ASYM/2 (R297). -/
def State.syncError (s : State) (p : Nat) (origin ingress corr : Int) : Int :=
  (ingress - (s.ethN p).ingressLatNs) - origin - corr + s.time.asymEth.get 0 p / 2000 - (s.ethN p).pathNs

/-- PTP_SYNC_RX: a Sync on the SLAVE port runs the servo (R293). -/
def execPtpSyncRx (port : Nat) (domain : Byte) (originNs ingressNs correctionNs : Int) (s : State) :
    Host.Outcome State Fault Refusal :=
  evt (fun s =>
    if !s.ptpTakes port domain then s.ethDiscard
    else if (s.ethN port).st != .slave || s.time.st == .steered then s
    else
      (s.syncOffset (s.syncError port originNs ingressNs correctionNs)).updEth port fun q =>
        { q with syncDiff := some (ingressNs - q.ingressLatNs - originNs - correctionNs) }) s

/-- PTP_ANNOUNCE_RX: the best master clock algorithm (R291). -/
def execPtpAnnounceRx (port : Nat) (m : AnnounceMsg) (s : State) : Host.Outcome State Fault Refusal :=
  evt (fun s =>
    if !s.ptpTakes port m.domain then s.ethDiscard
    else
      (s.updEth port fun q => { q with best := match q.best with
        | some b => if b.senderIdentity = m.senderIdentity ∨ gmBetter m b then some m else some b
        | none => some m }).bmca) s

/-- A port uses peer delay (Table 10-8). -/
def EthPort.peer (q : EthPort) : Bool := q.flags.getLsbD 2

/-- The mean path delay a response gives (IEEE 1588): of the delay request mechanism from the last Sync and the request's arrival at the master,
of the peer delay mechanism from the request and the response alone. -/
def EthPort.pathOf (r : DelayResp) (q : EthPort) : Option Int :=
  let peer := r.ingressNs - q.ingressLatNs - (r.responseTxNs - r.requestRxNs) - r.correctionNs
  match q.reqNs, q.syncDiff with
  | some t, some x =>
    some ((if r.peer then peer - t else x + (r.requestRxNs - t - r.correctionNs)) / 2)
  | some t, none => if r.peer then some ((peer - t) / 2) else none
  | none, _ => none

/-- A delay response completes the outstanding request. -/
def State.delayDone (p : Nat) (path : Int) (s : State) : State :=
  let s := s.updEth p fun q => { q with reqNs := none, pathNs := path }
  if s.slavePort = some p then s.updTime fun t => { t with pathNs := path } else s

/-- PTP_DELAY_RESP_RX: the path delay (R291). -/
def execPtpDelayRespRx (port : Nat) (domain : Byte) (r : DelayResp) (s : State) : Host.Outcome State Fault Refusal :=
  evt (fun s =>
    if !s.ptpTakes port domain || (s.ethN port).peer != r.peer then s.ethDiscard
    else match (s.ethN port).pathOf r with
      | some d => s.delayDone port d
      | none => s) s

/-- The address of PTP messages (Table 10-1): the general group, or that of peer delay. -/
def ptpDest (l2 peer : Bool) : BitVec 48 :=
  match l2, peer with
  | false, false => 0xE0000181
  | false, true => 0xE000006B
  | true, false => 0x011B19000000
  | true, true => 0x0180C200000E

/-- The messages of the peer delay mechanism. -/
def PtpOut.isPeer : PtpOut → Bool
  | .pdelayReq _ | .pdelayResp _ _ _ _ | .pdelayRespFollowUp _ _ => true
  | .sync _ _ _ | .followUp _ _ | .announce _ _ | .delayReq _ | .delayResp _ _ => false

/-- Hands PTP messages to a port, over its transport. -/
def State.ptpPut (p : Nat) (ms : List PtpOut) (s : State) : State :=
  let l2 := (s.ethN p).flags.getLsbD 1
  s.updTime fun t => { t with ethTx := t.ethTx ++ ms.map fun m => .ptp p l2 (ptpDest l2 m.isPeer) m }

/-- The transmit timestamp of a message that leaves now, at the media side (R296). -/
def State.egressNs (s : State) (p : Nat) : Int := s.now / 16777216 + (s.ethN p).egressLatNs

/-- A port sends two-step messages. -/
def EthPort.twoStep (q : EthPort) : Bool := q.flags.getLsbD 3

/-- The answer to a delay request that arrived at `rx`. -/
def State.delayAnswer (p : Nat) (peer : Bool) (requester : BitVec 64) (rx : Int) (s : State) : State :=
  let tx := s.egressNs p
  if !peer then s.ptpPut p [.delayResp requester rx]
  else if (s.ethN p).twoStep then s.ptpPut p [.pdelayResp requester rx 0 true, .pdelayRespFollowUp requester tx]
  else s.ptpPut p [.pdelayResp requester rx (tx - rx) false]

/-- PTP_DELAY_REQ_RX: a MASTER port answers, and every port with peer delay (R291). -/
def execPtpDelayReqRx (port : Nat) (domain : Byte) (r : DelayReq) (s : State) : Host.Outcome State Fault Refusal :=
  evt (fun s =>
    if !s.ptpTakes port domain || (s.ethN port).peer != r.peer then s.ethDiscard
    else if (s.ethN port).st == .master || r.peer then
      s.delayAnswer port r.peer r.requester (r.ingressNs - (s.ethN port).ingressLatNs)
    else s) s

/-- A port in this state sends messages of this kind. -/
def State.ptpSends (s : State) (p : Nat) : PtpKind → Bool
  | .sync | .announce => (s.ethN p).st == .master
  | .delayReq => (s.ethN p).st == .slave || (s.ptpOn p && (s.ethN p).peer)

/-- The data an Announce carries: the parent's one step further, or this clock's own; a grandmaster's unchanged (R293, R295). -/
def State.announceData (s : State) : AnnounceMsg :=
  match s.slavePort.bind fun p => (s.ethN p).best with
  | some m => { m with stepsRemoved := m.stepsRemoved + 1, senderIdentity := s.clockId }
  | none => s.bmcData

/-- The messages that go out for a kind. -/
def State.ptpMessages (s : State) (p : Nat) : PtpKind → List PtpOut
  | .sync =>
    if (s.ethN p).twoStep then [.sync (s.ethN p).seq true 0, .followUp (s.ethN p).seq (s.egressNs p)]
    else [.sync (s.ethN p).seq false (s.egressNs p)]
  | .announce => [.announce (s.ethN p).seq s.announceData]
  | .delayReq => if (s.ethN p).peer then [.pdelayReq (s.ethN p).seq] else [.delayReq (s.ethN p).seq]

/-- PTP_MESSAGE_SEND: a message leaves at its interval (R291). -/
def execPtpMessageSend (port : Nat) (kind : PtpKind) (s : State) : Host.Outcome State Fault Refusal :=
  evt (fun s =>
    if !s.ptpSends port kind then s
    else (s.ptpPut port (s.ptpMessages port kind)).updEth port fun q =>
      { q with seq := q.seq + 1, reqNs := if kind = .delayReq then some (s.egressNs port) else q.reqNs }) s

/-- ANNOUNCE_TIMEOUT: the port loses its master; a listening port becomes MASTER (R291, R293). -/
def execAnnounceTimeout (port : Nat) (s : State) : Host.Outcome State Fault Refusal :=
  evt (fun s =>
    if !s.ptpOn port then s
    else
      let s := if (s.ethN port).st == .slave then s.loseMaster else s
      (s.updEth port fun q => { q with best := none, st := .master }).bmca) s

/-- HOLDOVER_LIMIT: the estimated error exceeds HOLD_LIMIT_NS (R294). -/
def execHoldoverLimit (s : State) : Host.Outcome State Fault Refusal :=
  evt (fun s => if s.time.st = .holdover ∧ (s.time.holdLimitNs : Rat) < s.time.estErr then s.raise .time 3 else s) s

/-- ARP_REQUEST_RX: answered for the port's address, else discarded (R292). -/
def execArpRequestRx (port : Nat) (ipv4 : BitVec 32) (s : State) : Host.Outcome State Fault Refusal :=
  evt (fun s =>
    if 1 < port then s
    else if ipv4 = (s.ethN port).ipv4 then s.updTime fun t => { t with ethTx := t.ethTx ++ [.arpReply port ipv4] }
    else s.ethDiscard) s

/-- ETH_OTHER_RX: discarded and counted (R292). -/
def execEthOtherRx (port : Nat) (s : State) : Host.Outcome State Fault Refusal := evt (fun s => if 1 < port then s else s.ethDiscard) s

/-! ## Press messages received (R301) -/

/-- Why a press message is accepted: MAGIC, VERSION, length and CRC, a bar in RX_MASK that is not this one. -/
def State.pressGood (s : State) (m : List Byte) : Bool :=
  m.length == 52 && m.take 5 == [0x45, 0x46, 0x50, 0x4D, 1] && fieldAt m 48 4 == (crc32 (m.take 48)).toNat &&
    s.time.rxMask.getLsbD (fieldAt m 6 1) && fieldAt m 6 1 != s.time.barId

/-- Files an accepted message; an accepted STOP drops FIRE_PERMIT when STOP_ACT is set. -/
def State.pressAccept (m : List Byte) (s : State) : State :=
  let bar := fieldAt m 6 1
  let seq := BitVec.ofNat 32 (fieldAt m 8 4)
  let s := (s.updTime fun t => { t with
    pressAccepted := t.pressAccepted + 1, pressRing := (m :: t.pressRing).take 64,
    pressSeen := t.pressSeen.upd [] bar fun l => (seq :: l).take 16 }).raise .time 4
  if fieldAt m 5 1 = 2 ∧ s.time.pressFlags.getLsbD 2 ∧ s.fire.permit then (s.dropPermit 5).raise .time 5 else s

/-- A press message is accepted unless its SEQ is among the last 16 of its bar (R301). -/
def State.pressReceive (m : List Byte) (s : State) : State :=
  if !s.pressGood m then s.ethDiscard
  else if (s.time.pressSeen.get [] (fieldAt m 6 1)).contains (BitVec.ofNat 32 (fieldAt m 8 4)) then s.ethDiscard
  else s.pressAccept m

/-- PRESS_MESSAGE_RX: a datagram to the group and the UDP port of press messages (R299); one sent elsewhere is discarded and counted (R292). -/
def execPressMessageRx (port : Nat) (m : PressDatagram) (s : State) : Host.Outcome State Fault Refusal :=
  evt (fun s =>
    if 1 < port then s else if m.group ≠ s.time.pressGroup ∨ m.udpPort ≠ pressUdp then s.ethDiscard else s.pressReceive m.bytes) s

/-- RTC_DISCIPLINE: once a second the RTC follows the local clock (R298). -/
def execRtcDiscipline (s : State) : Host.Outcome State Fault Refusal :=
  evt (fun s =>
    if s.ptpOwns then
      s.trimRtc.setRtc (s.time.clock.sec - BitVec.ofNat 48 s.time.utcNow) (BitVec.ofNat 16 (s.time.clock.ns.toNat * 65536 / 1000000000))
    else s) s

end Sys2Proof.Machine
end

