-- ==== Sys2Proof/Machine/TwinEvents.lean ====
section
/-! DEFINITION. The twin link at work (spec/09 R263–R286): the link and its SYNC, BEAT and the judgement of the partner, sequenced
frames in both directions, the moves of LEAD and of supervision, the clock of the pair, WATCH. -/

namespace Sys2Proof.Machine

/-! ## The link (R267–R270) -/

/-- A frame handed to the link. -/
def State.twinPut (f : TwinOut) (s : State) : State := s.updTwin fun t => { t with txQ := t.txQ ++ [f] }

/-- Numbering, acknowledgement and what was learnt of the partner start anew (R269). -/
def Twin.fresh (t : Twin) : Twin :=
  { t with
    txSeq := 0, rxExp := 0, unacked := [], resends := 0, ackDue := none, rxLast := none, castling := none, handing := false,
    syncRun := false, syncLast := none, beatSent := false, beatSeen := false, quietBeats := 0, dVals := [], gm := none, eyeLow := [],
    txQ := [] }

/-- What the link's leaving UP brings with it (R276, spec/10 R295). -/
def State.leftUp (s : State) : State :=
  let s := if s.time.st = .steered then s.enterHoldover.bmca else s
  s.rehide.speedCheck

/-- The link leaves SYNC or UP, its epoch advancing where it trains (spec/04 R124); fragments not complete are discarded (spec/07
R228). -/
def State.twinDown (st : TwinLinkSt) (s : State) : State :=
  let was := s.twin.link
  let s := s.updTwin fun t => { t.fresh with link := st, epoch := if st = .train then t.epoch + 1 else t.epoch, peerEpoch := none }
  let s := s.updNvm fun n => { n with rx := none }
  if was = .up then s.leftUp else s

/-- Own HELLO. -/
def State.ownHello (s : State) : TwinOut :=
  .hello (BitVec.ofNat 8 (bit s.preferred 0 + bit s.boot.twinEn 1)) s.twin.epoch s.fuse.serial

/-- A HELLO with the other strap level: the pair forms and passes to SYNC, ending SOLO (R270, R272). -/
def State.formPair (epoch : Byte) (s : State) : State :=
  let s := if s.twinOpen then s.twinDown .train else s
  (s.updTwin fun t => { t.fresh with
    link := .sync, formed := true, conflict := false, solo := false, peerEpoch := some epoch }).twinPut s.ownHello

/-- The straps agree: no pair (R263). -/
def State.strapConflict (s : State) : State :=
  if s.twin.conflict then s
  else ((s.updTwin fun t => { t with conflict := true, formed := false, link := .discover }).raise .twin 10).logEvent 0x0C02 0 0

/-- The link carries frames: its lanes are trained (spec/04 Table 04-3). -/
def TwinLinkSt.framed : TwinLinkSt → Bool
  | .discover | .sync | .up => true
  | .off | .detect | .train => false

/-- A HELLO of the partner. -/
def State.twinHello (flags epoch : Byte) (serial : BitVec 64) (s : State) : State :=
  if !s.boot.twinEn || !s.twin.link.framed then s
  else
    let pref := flags.getLsbD 0
    let s := s.updTwin fun t => { t with partnerSerial := serial, partnerPreferred := pref }
    if pref == s.boot.twinPrefer then s.strapConflict
    else if s.twinOpen && s.twin.peerEpoch == some epoch then s
    else s.formPair epoch
/-- TWIN_HELLO_RX. -/
def execTwinHelloRx (flags epoch : Byte) (serial : BitVec 64) (s : State) : Host.Outcome State Fault Refusal :=
  evt (State.twinHello flags epoch serial) s

/-! ## SYNC (R270) -/

/-- The LEAD sends what its entries have received. -/
def State.syncEntries (s : State) : State :=
  s.slate.entries.foldl (fun t e => match e.2 with
    | some en => en.stream.foldl (fun t x =>
        (mirrorFrames e.1 x.1 en.lines en.segments en.autoFree x.2.declared (x.2.data.length + 1) 0 x.2.data).foldl
          (fun t f => t.mirrorSend (.mirror f)) t) t
    | none => t) s

/-- The LEAD sends the ADMIT record of every queued page. -/
def State.syncPages (s : State) : State := s.bat.pages.foldl (fun t p => t.mirrorSend (.admission (t.admitFrame p))) s

/-- The supervisor sends the records after a sequence. -/
def State.syncRecords (q : BitVec 32) (s : State) : State :=
  (s.nvm.liveRecs.filter fun r => !seqLe r.seq q && r.body.type != 0xFF).foldl (fun t r => t.sendRecord r.seq r.bytes) s

/-- The supervisor sends its base image. -/
def State.syncBase (s : State) : State :=
  s.sendRecord s.nvm.curRoot.seqFolded (baseRecord (s.nvm.baseN s.nvm.curRoot.base) s.recordTime.1)

/-- The supervisor brings the partner's store up to its own. -/
def State.syncStore (q : BitVec 32) (s : State) : State :=
  let folded := s.nvm.curRoot.seqFolded
  if seqLe folded q then s.syncRecords q else s.syncBase.syncRecords folded

/-- SYNC starts once a BEAT has gone each way: the partner's tells its JOURNAL_SEQ, and this chip's the role it sends in (log 84). -/
def State.startSync (s : State) : State :=
  match s.twin.partner with
  | some b =>
    if s.twin.link ≠ .sync ∨ s.twin.syncRun ∨ !s.twin.beatSeen ∨ !s.twin.beatSent then s
    else
      let was := s.twin.txSeq
      let s := if s.twin.role = .lead then s.syncEntries.syncPages else s
      let s := if s.twin.supervisor then s.syncStore b.journalSeq else s
      s.updTwin fun t => { t with syncRun := true, syncLast := if t.txSeq = was then none else some (t.txSeq - 1) }
  | none => s

/-- BEATs without a sequenced frame among them that show that the partner has nothing unacknowledged: they span the 20 µs after which it would
resend (R269). -/
def quietEnough : Nat := 3

/-- The partner sends no more of SYNC: it holds neither LEAD nor supervision, or its sequenced frames have ceased (log 84). -/
def Twin.partnerSent (t : Twin) : Bool :=
  (match t.partner with | some b => b.role != 1 && !b.flags.getLsbD 0 | none => false) || decide (quietEnough ≤ t.quietBeats)

/-- The last frame of SYNC is acknowledged in both directions. -/
def State.synced (s : State) : Bool :=
  s.twin.link == .sync && s.twin.syncRun && s.twin.ackDue.isNone && s.twin.partnerSent &&
    match s.twin.syncLast with
    | some q => !(s.twin.unacked.any fun x => x.1 == q)
    | none => true

/-- The link reaches UP: SYNC_DONE; the non-preferred chip steers its clock (R286). -/
def State.syncTry (s : State) : State :=
  if !s.synced then s
  else
    let s := (s.updTwin fun t => { t with link := .up, syncLast := none, resends := 0 }).raise .twin 5
    let s := if s.preferred then s else (s.setClockSt .steered).bmca
    s.rehide.speedCheck.castleTry

/-- The pair passes through SYNC again. -/
def State.syncAgain (s : State) : State :=
  if s.twin.link ≠ .up then s
  else (s.updTwin fun t => { t with
    link := .sync, beatSent := false, beatSeen := false, quietBeats := 0, syncRun := false, syncLast := none }).leftUp

/-! ## Supervision and LEAD (R277, R279, R281–R284) -/

/-- Gains supervision: committed codes into the staged bank of every up head, and ARM (R277). -/
def State.gainSupervision (s : State) : State :=
  let s := s.updTwin fun t => { t with supervisor := true }
  ((List.range 48).filter fun p => (s.portN p).st == .up).foldl (fun t p => t.reloadCodes p) s

/-- The next ROLE_SEQ. -/
def State.nextRole (s : State) : State := s.updTwin fun t => { t with roleSeq := t.roleSeq + 1 }

/-- The streams not mirrored whole become UNBOUND on a new LEAD (R281). -/
def State.unbindUnmirrored (s : State) : State :=
  s.slate.entries.foldl (fun t e => match e.2 with
    | some en => en.stream.foldl (fun t x =>
        if x.2.st == .unbound || x.2.lastAcked then t else (t.freeStream x.1 x.2).updStream e.1 x.1 fun _ => {}) t
    | none => t) s

/-- Takes LEAD from another chip: the queued pages carry TWIN_SWITCH (spec/02 R57). -/
def State.takeLead (s : State) : State :=
  (s.updTwin fun t => { t with role := .lead, pagesSince := 0, castleDue := false, atEmpty := false, castling := none }).markSwitch

/-- The partner is judged lost (R281): every class is taken. -/
def State.partnerLost (s : State) : State :=
  if s.twin.lost then s
  else
    let lead := s.twin.role == .lead
    let sup := s.twin.supervisor
    let s := (s.updTwin fun t => { t with lost := true, frozen := false, stalemate := false, handing := false }).nextRole
    let s := if lead then s else s.takeLead.unbindUnmirrored
    let s := if sup then s else s.gainSupervision
    (s.raise .twin 1).roleEvent true

/-- The partner's ROLE_SEQ lies after this chip's: a change of LEAD or supervision this chip has not seen. -/
def State.behindOf (s : State) : Bool :=
  match s.twin.partner with
  | some b => b.roleSeq != s.twin.roleSeq && seqLe s.twin.roleSeq b.roleSeq
  | none => false

/-- The partner's ROLE_SEQ lies before this chip's: it has not seen the last change. -/
def State.aheadOf (s : State) : Bool :=
  match s.twin.partner with
  | some b => b.roleSeq != s.twin.roleSeq && seqLe b.roleSeq s.twin.roleSeq
  | none => false

/-- R282: the preferred chip keeps LEAD, with a ROLE_SEQ after the partner's, the other steps down and hands supervision over. -/
def State.resolve (s : State) : State :=
  let s := s.raise .twin 7
  if s.preferred then
    (if s.behindOf then s.updTwin fun t => { t with roleSeq := (match t.partner with | some b => b.roleSeq | none => t.roleSeq) + 1 }
     else s).keepLead
  else
    let s := s.stepDown
    (if s.twin.supervisor then s.handSupervision else s).syncAgain

/-- A stalemate without information (R283). -/
def State.enterStalemate (s : State) : State :=
  let s := s.updTwin fun t => { t with role := if t.role = .reserve then .claim else t.role, frozen := true, stalemate := true }
  let s := (s.raise .twin 6).logEvent 0x0C06 0 0
  if s.preferred == s.twin.supervisor then s
  else if s.preferred then (s.nextRole.gainSupervision).roleEvent false
  else ((s.updTwin fun t => { t with supervisor := false }).nextRole).roleEvent false

/-! ## BEAT (R266, R268, R280) -/

/-- The BEAT this chip sends (Table 09-3). -/
def State.beat (s : State) : Beat :=
  { role := BitVec.ofNat 8 s.roleNow.code,
    flags := BitVec.ofNat 8 (bit s.supervises 0 + bit s.preferred 1 + bit s.boot.coresHeld 2 + bit (s.boot.stage == .restarting) 3 +
      bit s.fire.permit 4 + bit (s.pwr.st == .run) 5 + bit s.isFrozen 6),
    ilkActive := s.ilkActive,
    mode := BitVec.ofNat 8 s.twin.mode.mode,
    portsUp := BitVec.ofNat 64 ((List.range 48).map fun p => bit ((s.portN p).st == .up) p).sum,
    withheld := if s.supervises then BitVec.ofNat 64 ((List.range 48).map fun p => bit ((s.portN p).withheld != .none) p).sum else 0,
    roleSeq := s.twin.roleSeq, journalSeq := s.nvm.lastSeq }

/-- The level of TWIN_BEAT_OUT: it toggles every 1 µs in RUN while the control cores are not held, and is static otherwise (R266; low then,
log 88). -/
def State.beatOut (s : State) : Bool :=
  s.boot.twinEn && s.pwr.st == .run && !s.boot.coresHeld && s.time.ticks / 400 % 2 == 1

/-- A waiting BEAT. -/
def TwinOut.isBeat : TwinOut → Bool
  | .beat _ => true
  | _ => false

/-- A BEAT is due: the newest BEAT alone waits; SYNC starts where the partner's has come. -/
def State.beatSend (s : State) : State :=
  if !s.twinOpen then s
  else (s.updTwin fun t => { t with beatSent := true, txQ := (t.txQ.filter fun f => !f.isBeat) ++ [.beat s.beat] }).startSync
/-- BEAT_SEND. -/
def execBeatSend (s : State) : Host.Outcome State Fault Refusal := evt State.beatSend s

/-- 100 ms in ticks. -/
def ms100 : Nat := 100 * 400000

/-- What a BEAT says of the partner is kept (R266, R280). -/
def State.noteBeat (b : Beat) (s : State) : State :=
  let differ := b.ilkActive &&& ~~~s.ilkActive != 0
  let restarting := b.flags.getLsbD 3
  s.updTwin fun t => { t with
    partner := some b, beatSeen := true, quietBeats := t.quietBeats + bit t.syncRun 0, evidence := none,
    restartSince := if restarting then t.restartSince <|> some s.time.ticks else none,
    disagreeSince := if differ then t.disagreeSince <|> some s.time.ticks else none }

/-- The partner's BEAT shows it lost: CORES_HELD, RESTARTING for over 100 ms, or IN_RUN clear (Table 09-6). -/
def State.beatLost (b : Beat) (s : State) : Bool :=
  b.flags.getLsbD 2 || !b.flags.getLsbD 5 || match s.twin.restartSince with
    | some t => decide (ms100 < s.time.ticks - t)
    | none => false

/-- A chip that comes back finds its partner in the roles it took meanwhile, and leaves them to it: LEAD goes back only on
TWIN_SWITCHBACK, supervision after HOLDOFF_S (Tables 09-1, 09-7, log 85). -/
def State.yieldRoles (b : Beat) (s : State) : State :=
  let s := if b.flags.getLsbD 0 ∧ s.twin.supervisor then
      (s.updTwin fun t => { t with supervisor := false, handing := false }).dropWaiting false
    else s
  let s := s.updTwin fun t => { t with
    role := if b.role = 1 then .reserve else t.role, roleSeq := b.roleSeq, pagesSince := 0, castleDue := false, atEmpty := false }
  (s.roleEvent false).syncAgain

/-- The roles both chips show (R282, Tables 09-1, 09-7). A chip whose cores do not run decides nothing; one that took LEAD from the partner
waits for the partner to see it. -/
def State.settleRoles (b : Beat) (s : State) : State :=
  if !s.coresRun || s.beatLost b then s
  else
    let both := s.twin.role ≠ .reserve ∧ b.role ≠ 0
    let s :=
      if s.twin.returning ∧ s.behindOf ∧ ((s.twin.role ≠ .reserve ∧ b.role = 1) ∨ (s.twin.supervisor ∧ b.flags.getLsbD 0)) then s.yieldRoles b
      else if both ∧ !s.aheadOf then s.resolve
      else s
    s.updTwin fun t => { t with returning := false }

/-- The partner is judged by its BEAT (Table 09-6). One seen healthy again passes SYNC with this chip, once the roles are settled. -/
def State.judgeBeat (b : Beat) (s : State) : State :=
  if s.twin.link ≠ .up then (if !s.beatLost b && (b.role == 0 || s.twin.role == .reserve) then s.updTwin fun t => { t with lost := false } else s)
  else if s.beatLost b then s.partnerLost
  else if s.twin.lost ∧ (b.role = 0 ∨ s.twin.role = .reserve) then
    (s.updTwin fun t => { t with lost := false, solo := false }).syncAgain
  else s

/-- A BEAT of the partner: the roles are settled first, then the partner is judged, SYNC goes on; what the figures take from PORTS_UP and
WITHHELD is computed again (R276). -/
def State.beatRx (b : Beat) (s : State) : State :=
  if !s.twinOpen then s
  else ((((s.noteBeat b).settleRoles b).judgeBeat b).startSync.syncTry).rehide.speedCheck
/-- BEAT_RX. -/
def execBeatRx (b : Beat) (s : State) : Host.Outcome State Fault Refusal := evt (State.beatRx b) s

/-- DUP_DISCARD of every head as last reported. -/
def State.dupNow (s : State) : SMap (BitVec 16) :=
  SMap.setList 0 [] 0 ((List.range 48).map fun p => match (s.portN p).prev with | some f => f.dupDiscard | none => 0)

/-- Opens the 1 ms window of head evidence (Table 09-6). -/
def State.openEvidence (s : State) : State :=
  if s.twin.lost || s.twin.evidence.isSome then s
  else s.updTwin fun t => { t with evidence := some (s.now256.toNat, s.dupNow) }

/-- The partner is alive and the link failed: SOLO, LINK_DOWN. -/
def State.linkFailed (s : State) : State :=
  ((s.updTwin fun t => { t with solo := true }).raise .twin 2).raise .twin 3

/-- No BEAT for 100 µs: the link is down; with TWIN_BEAT_IN toggling the partner lives, else the heads are asked. -/
def State.beatTimeout (s : State) : State :=
  if !s.boot.twinEn || !s.twin.formed || !s.twinOpen then s
  else
    let s := s.twinDown .detect
    if s.twin.beatIn then s.linkFailed else s.openEvidence
/-- BEAT_TIMEOUT. -/
def execBeatTimeout (s : State) : Host.Outcome State Fault Refusal := evt State.beatTimeout s

/-- TWIN_BEAT_IN_SILENT: no edge for 100 µs; without BEATs the heads are asked. -/
def State.beatInSilent (s : State) : State :=
  if !s.boot.twinEn then s
  else
    let s := s.updTwin fun t => { t with beatIn := false }
    if s.twin.formed && !s.twinOpen then s.openEvidence else s
/-- TWIN_BEAT_IN_SILENT. -/
def execTwinBeatInSilent (s : State) : Host.Outcome State Fault Refusal := evt State.beatInSilent s

/-- Lines were due on the port since the window opened. -/
def State.dueSince (s : State) (t0 p : Nat) : Bool := match (s.portN p).lastFireT with | some t => decide ((t0 : Int) ≤ t) | none => false

/-- The window of head evidence ends (Table 09-6). -/
def State.judge (s : State) : State :=
  match s.twin.evidence with
  | none => s
  | some (t0, snap) =>
    let s := s.updTwin fun t => { t with evidence := none }
    let due := (List.range 48).filter (s.dueSince t0)
    let now := s.dupNow
    if s.twin.beatIn then s.linkFailed
    else if due.isEmpty then s.enterStalemate
    else if due.any fun p => SMap.get 0 now p != SMap.get 0 snap p then s.linkFailed
    else s.partnerLost
/-- PARTNER_EVIDENCE_END. -/
def execPartnerEvidenceEnd (s : State) : Host.Outcome State Fault Refusal := evt State.judge s

/-- ILK_DISAGREE: the partner sees an active input that this chip does not (R266). -/
def State.ilkDisagree (s : State) : State :=
  if s.twin.disagreeSince.isNone then s
  else
    let a := match s.twin.partner with | some b => b.ilkActive.toNat | none => 0
    (((s.dropPermit 1).raise .twin 9).logEvent 0x0C04 0 a).updTwin fun t => { t with disagreeSince := none }
/-- ILK_DISAGREE. -/
def execIlkDisagree (s : State) : Host.Outcome State Fault Refusal := evt State.ilkDisagree s

/-! ## Sequenced frames received (R269) -/

/-- Takes the next expected frame; any other is counted, and answered by an ACK of the last accepted SEQ. -/
def State.accept (seq : BitVec 32) (f : State → State) (s : State) : State :=
  if !s.twinOpen then s
  else if seq ≠ s.twin.rxExp then
    s.updTwin fun t => { t with outOfOrder := t.outOfOrder + 1, ackDue := t.rxLast, quietBeats := 0 }
  else f (s.updTwin fun t => { t with rxExp := t.rxExp + 1, ackDue := some seq, rxLast := some seq, quietBeats := 0 })

/-! ### MIRROR_DATA, ADMIT, PAGE_EVENT (R271–R274) -/

/-- Stream bytes of the LEAD, kept in the twin mirror; OFFSET 0 starts the stream anew. Validated when whole. -/
def Stream.mirror (seg lines off : Nat) (last : Bool) (bs : List Byte) (t : Stream) : Stream :=
  let t : Stream := if off = 0 then { st := .receiving } else t
  if off ≠ t.received then t
  else
    let n := off + bs.length
    let t := { t with data := t.data ++ bs, received := n, declared := n }
    if last then { t with lastAcked := true }.check seg lines else t

/-- The RESERVE stores mirrored bytes. -/
def State.mirrorRx (f : MirrorFrame) (s : State) : State :=
  if s.twin.role ≠ .reserve then s
  else
    let e := f.storeEntry.toNat
    let en : Entry := match s.entry? e with
      | some en => en
      | none => { segments := f.segments.toNat, lines := f.lines.toNat, autoFree := f.entryFlags.getLsbD 0 }
    let seg := f.seg.toNat
    let old := en.stream.get {} seg
    let new := old.mirror seg en.lines f.offset.toNat (f.flags.getLsbD 0) f.data
    (s.updSlate fun t => { t with
      entries := t.entries.set none e (some { en with stream := en.stream.set {} seg new }) }).countStream old.st new.st
/-- MIRROR_DATA_RX. -/
def execMirrorDataRx (seq : BitVec 32) (f : MirrorFrame) (s : State) : Host.Outcome State Fault Refusal :=
  evt (State.accept seq (State.mirrorRx f)) s

/-- The page of an ADMIT frame. -/
def pageOfFrame (f : AdmitFrame) : Page :=
  { handle := f.handle.toNat, entry := f.storeEntry.toNat, lines := f.lines.toNat, top := f.top.toInt,
    vContract := f.vContract.toNat, parity := f.startParity.toNat, policy := f.policy.toNat, standstill := f.flags.getLsbD 0,
    own := false }

/-- The RESERVE enters a page without the checks of R52 (R273); one it holds already stays as it is. -/
def State.admitRx (f : AdmitFrame) (s : State) : State :=
  if s.twin.role ≠ .reserve ∨ (s.page? f.handle.toNat).isSome then s else s.queuePage (pageOfFrame f)
/-- ADMIT_RX. -/
def execAdmitRx (seq : BitVec 32) (f : AdmitFrame) (s : State) : Host.Outcome State Fault Refusal :=
  evt (State.accept seq (State.admitRx f)) s

/-- Marks that come before the page has left this chip's queue. -/
def State.keepMarks (h : Nat) (pm : PeerMark) (s : State) : State :=
  if (s.page? h).isSome then s.updTwin fun t => { t with peerMarks := t.peerMarks.set none h (some pm) } else s

/-- Marks of the partner for a page: on the LEAD they complete its report or wait for it; on the RESERVE they are the combined
record (R274, log 29). -/
def State.marksRx (h : Nat) (pm : PeerMark) (s : State) : State :=
  if s.twin.role = .lead then
    match s.bat.reports.get none h with
    | some r =>
      if r.awaitTwin then s.completeMirrored h (r.combine pm) else s
    | none => s.keepMarks h pm
  else
    match s.bat.reports.get none h with
    | some r =>
      if r.awaitTwin then s.completeCombined h pm r
      else s.updBat fun b => { b with reports := b.reports.set none h (some (r.become pm)) }
    | none => s.keepMarks h pm

/-- A page event of the partner. -/
def State.pageEventRx (f : PageEventFrame) (s : State) : State :=
  let h := f.handle.toNat
  match f.kind.toNat with
  | 1 => if s.twin.role = .reserve then s.endPageFrom 12 h f.line.toNat else s
  | 2 => if s.twin.role = .reserve then s.cutPage h f.line.toNat else s
  | 3 => s.marksRx h (PageEventFrame.peer f)
  | 4 => if s.twin.role = .reserve then s.freeEntry f.storeEntry.toNat else s
  | _ => s
/-- PAGE_EVENT_RX. -/
def execPageEventRx (seq : BitVec 32) (f : PageEventFrame) (s : State) : Host.Outcome State Fault Refusal :=
  evt (State.accept seq (State.pageEventRx f)) s

/-! ### CONFIG (R275) -/

/-- Does what a command does, without journaling: the record comes in JOURNAL frames. -/
def unjournaled (f : State → State) (s : State) : State :=
  let t := f s
  t.updNvm fun n => { n with waiting := s.nvm.waiting }

/-- The state a command's own rules leave when they accept it. -/
def Answer.accepted (s : State) : Answer → State
  | .done 0 _ t => t
  | .later _ _ t => t
  | _ => s

/-- A BAR_SET_WEB payload. -/
def webReqOf (b : List Byte) : BarWebReq :=
  let f := fieldAt b
  ⟨byteAt b 0, byteAt b 1, BitVec.ofNat 16 (f 2 2), BitVec.ofNat 32 (f 4 4), BitVec.ofNat 32 (f 8 4), BitVec.ofNat 32 (f 12 4),
    BitVec.ofNat 32 (f 16 4), BitVec.ofNat 16 (f 20 2), BitVec.ofNat 16 (f 22 2), BitVec.ofNat 16 (f 24 2), BitVec.ofNat 16 (f 26 2),
    BitVec.ofNat 16 (f 28 2), BitVec.ofNat 16 (f 30 2)⟩

/-- A BAR_SET_PORT payload. -/
def portReqOf (b : List Byte) : BarPortReq :=
  let f := fieldAt b
  ⟨byteAt b 0, byteAt b 1, BitVec.ofNat 16 (f 2 2), BitVec.ofNat 32 (f 4 4), BitVec.ofNat 32 (f 8 4), BitVec.ofNat 32 (f 12 4)⟩

/-- A CAL_SET_LOOP payload. -/
def loopReqOf (b : List Byte) : LoopReq :=
  let f := fieldAt b
  ⟨byteAt b 0, byteAt b 1, BitVec.ofNat 16 (f 2 2), BitVec.ofNat 32 (f 4 4), BitVec.ofNat 16 (f 8 2), BitVec.ofNat 16 (f 10 2),
    BitVec.ofNat 16 (f 12 2), BitVec.ofNat 16 (f 14 2), BitVec.ofNat 16 (f 16 2), 0⟩

/-- A TWIN_SET_MODE payload. -/
def modeOf (b : List Byte) : TwinMode :=
  let f := fieldAt b
  ⟨f 0 1, f 2 2, f 4 2, f 6 2, f 8 4, f 12 2⟩

/-- The ports of a payload whose first byte is PORT, 0xFF for all. -/
def State.portsIn (s : State) (b : List Byte) : List Nat := s.portsOf (byteAt b 0)

/-- A forwarded HEAD command. -/
def State.configHead (op : Nat) (b : List Byte) (s : State) : State :=
  match op with
  | 0x0302 => unjournaled (fun s => (s.portsIn b).foldl (fun t p => t.setDrive (driveOf b 2) p) s) s
  | 0x0303 => unjournaled (fun s => (headSetCharApply (byteAt b 0).toNat (byteAt b 1) (halfwords b 4 128) s).accepted s) s
  | 0x0304 => unjournaled (fun s => (s.portsIn b).foldl (fun t p => t.setThermal (thermalOf b 2) p) s) s
  | 0x0305 => s.resumeHead (byteAt b 0).toNat
  | 0x0308 => ((s.portsIn b).filter fun p => (s.portN p).st == .up).foldl (fun t p => t.makeDue p) s
  | _ => s

/-- A forwarded FIRE command that applies at once. -/
def State.configFire (op : Nat) (b : List Byte) (s : State) : State :=
  match op with
  | 0x0401 => unjournaled (State.setLevels (fieldAt b 0 2) (fieldAt b 2 2) (fieldAt b 4 2)) s
  | 0x0402 => s.setComp (byteAt b 0) (byteAt b 1) (byteAt b 2) (byteAt b 3)
  | 0x0403 => s.setWarm (byteAt b 0).toNat (fieldAt b 2 2) (fieldAt b 4 4)
  | 0x0404 => s.setMeasure (fieldAt b 0 4)
  | 0x0405 => s.setIlk (byteAt b 0) (byteAt b 1) (halfwords b 4 8)
  | _ => s

/-- A forwarded BAR command. -/
def State.configBar (op : Nat) (b : List Byte) (s : State) : State :=
  match op with
  | 0x0201 => stageWeb (webReqOf b) s
  | 0x0202 => stagePort (portReqOf b) s
  | 0x0203 => (barCommitBody s).accepted s
  | 0x0204 => setPolicy (byteAt b 0).toNat (fieldAt b 2 2) s
  | _ => s

/-- HEAD_SET_NOZZLE: the new entry comes in a JOURNAL record; CLEAR and UNRETIRE set OK_RUN to 0 here too. ACTION 0 tells the line of a
measured entry (log 109). -/
def State.configNozzle (key : BitVec 32) (b : List Byte) (s : State) : State :=
  let p := (byteAt b 0).toNat
  let act := (byteAt b 1).toNat
  let i := fieldAt b 2 2
  let s := if act = 2 ∨ act = 3 then s.updVol p i fun v => { v with okRun := 0 } else s
  if key = atOnce then s
  else s.applyLater key (if act = 0 then .noz p i (nozOf (fieldAt b 8 8)) else .nozAct p act i (fieldAt b 4 4))

/-- A command of Table 09-5 that the supervisor has accepted. CAL_SET_FACTORY takes effect through its record. -/
def State.configRx (op : Nat) (key : BitVec 32) (b : List Byte) (s : State) : State :=
  if s.twin.supervisor then s
  else if op = 0x0307 then s.configNozzle key b
  else if op = 0x0402 ∧ key ≠ atOnce then s.applyLater key (.comp (byteAt b 0) (byteAt b 1) (byteAt b 2) (byteAt b 3))
  else
    match op / 256 with
    | 2 => s.configBar op b
    | 3 => s.configHead op b
    | 4 => s.configFire op b
    | 9 => if op = 0x0901 then unjournaled (State.setLoop (loopReqOf b)) s else s
    | 0x0C => if op = 0x0C02 then s.setTwinMode (modeOf b) else s
    | 0x10 => if op = 0x1004 then s.eraseCal else s
    | _ => s
/-- CONFIG_RX. -/
def execConfigRx (seq : BitVec 32) (opcode : BitVec 16) (applyKey : BitVec 32) (payload : List Byte) (s : State) :
    Host.Outcome State Fault Refusal :=
  evt (State.accept seq (State.configRx opcode.toNat applyKey payload)) s

/-! ### JOURNAL (R278, spec/07 R228) -/

/-- Installs a base image whose checks pass (R228). -/
def State.installBase (folded : BitVec 32) (d : CalData) (s : State) : State :=
  let s := s.writeBase d folded 0
  let s := s.updNvm fun n => { n with
    pendingWord := 0xFFFFFFFF, nextSeq := folded + 1, nextOff := 0, rxNext := some (folded + 1), rxWait := [],
    writing := none, writingRx := false, compacting := none,
    waiting := (if n.writingRx then [] else (n.writing.toList.map (·.body))) ++ n.waiting }
  ((s.updData fun _ => d).updStore fun _ => d).restartAll.rehide

/-- A record whose fragments are complete. Behind an installed image the supervisor's records are taken from SEQ_FOLDED + 1 on, those
before it being in the image (R228); they enter this chip's journal under its own sequence numbers (log 72). -/
def State.recordRx (bs : List Byte) (s : State) : State :=
  match recordOf bs with
  | none => s
  | some (ty, p) =>
    if ty = typeBaseImage then
      match imageOf (s.geo.committed.getD {}) p with
      | some d => s.installBase (BitVec.ofNat 32 (fieldAt bs 8 4)) d
      | none => s
    else if ty = 0xFF then s
    else
      let q := BitVec.ofNat 32 (fieldAt bs 8 4)
      match bodyOf ty p with
      | some b =>
        if s.nvm.rxNext.any fun e => !seqLe e q then s
        else s.updNvm fun n => { n with rxWait := n.rxWait ++ [b], rxNext := n.rxNext.map fun _ => q + 1 }
      | none => s

/-- A fragment of the supervisor's record. -/
def State.journalRx (f : JournalFrame) (s : State) : State :=
  if s.twin.supervisor then s
  else
    let have_ : List Byte × Nat := match s.nvm.rx with
      | some (q, bs, n) => if q = f.gableSeq ∧ f.frag ≠ 0 then (bs, n) else ([], 0)
      | none => ([], 0)
    if have_.2 ≠ f.frag.toNat then s.updNvm fun n => { n with rx := none }
    else
      let bs := have_.1 ++ f.data
      if f.frag.toNat + 1 < f.frags.toNat then s.updNvm fun n => { n with rx := some (f.gableSeq, bs, f.frag.toNat + 1) }
      else (s.updNvm fun n => { n with rx := none }).recordRx bs
/-- JOURNAL_RX. -/
def execJournalRx (seq : BitVec 32) (f : JournalFrame) (s : State) : Host.Outcome State Fault Refusal :=
  evt (State.accept seq (State.journalRx f)) s

/-! ### ACCUM (R278) -/

/-- One column's entry of the partner for block `n`: added to this chip's sums for the block where no camera here sees the column; where
one does, the preferred chip's camera owns it. -/
def State.accumCol (n c : Nat) (e : AccEntry) (s : State) : State :=
  if !(s.seenBy c).isSome then s.updLoop fun l => { l with ring := SMap.upd [] l.ring c (addBlock n e) }
  else if s.preferred then s
  else s.updLoop fun l => { l with ring := SMap.upd [] l.ring c (setBlock n e), peer := l.peer.set 0 c (n + 1) }

/-- The supervisor takes the partner's entries. -/
def State.accumRx (f : AccumFrame) (s : State) : State :=
  if !s.twin.supervisor then s
  else f.entries.zipIdx.foldl (fun t e => t.accumCol f.block.toNat (f.firstCol.toNat + e.2) e.1) s
/-- ACCUM_RX. -/
def execAccumRx (seq : BitVec 32) (f : AccumFrame) (s : State) : Host.Outcome State Fault Refusal :=
  evt (State.accept seq (State.accumRx f)) s

/-! ### ROLE (R279, R282, R284) -/

/-- The partner's ROLE as its BEAT showed it last. -/
def State.setPartnerRole (r : Byte) (s : State) : State :=
  s.updTwin fun t => { t with partner := t.partner.map fun b => { b with role := r } }

/-- A role frame of the partner. -/
def State.roleRx (f : RoleFrame) (s : State) : State :=
  match f.kind.toNat with
  | 1 =>
    if s.twin.role = .lead then s
    else ((s.updTwin fun t => { t with roleSeq := f.roleSeq }).takeLead.setPartnerRole 0).roleEvent false
  | 2 =>
    if s.twin.supervisor then s
    else ((s.updTwin fun t => { t with roleSeq := f.roleSeq }).gainSupervision).roleEvent false
  | 3 => let s := s.setPartnerRole 2; if s.twin.role = .reserve then s else s.resolve
  | 4 =>
    let s := s.setPartnerRole 0
    if s.twin.role = .reserve then s
    else ((s.updTwin fun t => { t with roleSeq := f.roleSeq }).raise .twin 7).keepLead.syncAgain
  | 5 => if s.twin.role = .lead then s else s.updTwin fun t => { t with castling := some f.roleSeq }
  | _ => s
/-- ROLE_RX. -/
def execRoleRx (seq : BitVec 32) (f : RoleFrame) (s : State) : Host.Outcome State Fault Refusal :=
  evt (State.accept seq (State.roleRx f)) s

/-! ## Acknowledgement (R269, R272, R278) -/

/-- A castle is complete: every frame up to LAST_SEQ is acknowledged, no page carries TWIN_SWITCH (R284). -/
def State.castled (s : State) : State :=
  match s.twin.castling with
  | none => s
  | some q =>
    ((s.updTwin fun t => { t with
      role := .lead, roleSeq := q, castling := none, pagesSince := 0, castleDue := false, atEmpty := false }).setPartnerRole 0).roleEvent false

/-- ACK_SEND. -/
def State.ackSend (s : State) : State :=
  match s.twin.ackDue with
  | none => s
  | some q =>
    if !s.twinOpen then s
    else (((s.updTwin fun t => { t with ackDue := none }).twinPut (.ack q)).castled).syncTry
/-- ACK_SEND. -/
def execAckSend (s : State) : Host.Outcome State Fault Refusal := evt State.ackSend s

/-- A mirrored admission completes with OK, and its press message goes out (spec/10 R300). -/
def State.admitDone (h : Nat) (s : State) : State :=
  if !s.twin.admits.contains h then s
  else
    let waits := s.host.inflight.any fun i => i.wait == .admission
    let s := s.updTwin fun t => { t with admits := t.admits.erase h }
    if waits then (s.finishWait .admission 0).pageStart h else s

/-- What the acknowledgement of a frame completes. -/
def State.frameAcked (x : BitVec 32 × SeqFrame) (s : State) : State :=
  match x.2 with
  | .admission f => s.admitDone f.handle.toNat
  | .mirror f =>
    if f.flags.getLsbD 0 then s.updStream f.storeEntry.toNat f.seg.toNat fun t => { t with lastAcked := true } else s
  | .journal _ =>
    let mine := s.twin.gainWait.filter fun g => g.1 == x.1
    mine.foldl (fun t g => t.writeWaited g.2) (s.updTwin fun t => { t with gainWait := t.gainWait.filter fun g => g.1 != x.1 })
  | _ => s

/-- An ACK: the frames up to it are done, and those the window held back go out. -/
def State.ackRx (q : BitVec 32) (s : State) : State :=
  let u := s.twin.unacked
  if !s.twinOpen || !(u.any fun x => x.1 == q) then s
  else
    let acked := (u.takeWhile fun x => x.1 != q).length + 1
    let left := u.drop acked
    let s := s.updTwin fun t => { t with
      unacked := left, resends := 0,
      txQ := t.txQ ++ ((left.take twinWindow).drop (twinWindow - acked)).map fun x => TwinOut.seq x.1 false x.2 }
    ((u.take acked).foldl (fun t x => t.frameAcked x) s).syncTry
/-- ACK_RX. -/
def execAckRx (ackSeq : BitVec 32) (s : State) : Host.Outcome State Fault Refusal := evt (State.ackRx ackSeq) s

/-- No advance for 20 µs: the unacknowledged frames go out again with RETRY, and after 8 times the link retrains. -/
def State.twinResend (s : State) : State :=
  if !s.twinOpen || s.twin.unacked.isEmpty then s
  else if 8 ≤ s.twin.resends then (s.updTwin fun t => { t with retrain := t.retrain + 1 }).twinDown .train
  else s.updTwin fun t => { t with
    resends := t.resends + 1, txQ := t.txQ ++ (t.unacked.take twinWindow).map fun x => TwinOut.seq x.1 true x.2 }
/-- TWIN_RESEND. -/
def execTwinResend (s : State) : Host.Outcome State Fault Refusal := evt State.twinResend s

/-- SOLO with its alert. -/
def State.enterSolo (s : State) : State :=
  ((s.updTwin fun t => { t with solo := true, returning := false }).raise .twin 2).rehide.speedCheck

/-- The ACK of an ADMIT has not come in 20 µs (R272): the admissions complete alone, in SOLO. -/
def State.admitAlone (s : State) : State :=
  if s.twin.admits.isEmpty then s else s.twin.admits.foldl (fun t h => t.admitDone h) s.enterSolo
/-- ADMIT_ACK_TIMEOUT. -/
def execAdmitAckTimeout (s : State) : Host.Outcome State Fault Refusal := evt State.admitAlone s

/-- The partner's ACK of a GAIN_UPDATE has not come in 20 ms (R278): the head writes proceed. -/
def State.gainAlone (s : State) : State :=
  if s.twin.gainWait.isEmpty then s
  else
    let w := s.twin.gainWait
    w.foldl (fun t g => t.writeWaited g.2) ((s.updTwin fun t => { t with gainWait := [] }).enterSolo)
/-- JOURNAL_ACK_TIMEOUT. -/
def execJournalAckTimeout (s : State) : Host.Outcome State Fault Refusal := evt State.gainAlone s

/-- KIND 3 has not come in 10 ms (R274): the LEAD's own marks stand, and those of a chip left without its LEAD. -/
def State.reportAlone (h : Nat) (s : State) : State :=
  match s.bat.reports.get none h with
  | some r =>
    if !r.awaitTwin then s
    else if s.isLead then s.completeMirrored h r
    else if s.pairUp then s
    else s.completeReport h r
  | none => s
/-- PAGE_REPORT_TIMEOUT. -/
def execPageReportTimeout (handle : Nat) (s : State) : Host.Outcome State Fault Refusal := evt (State.reportAlone handle) s

/-! ## The clock of the pair (R286) -/

/-- TWIN_ECHO_SEND. -/
def execTwinEchoSend (s : State) : Host.Outcome State Fault Refusal :=
  evt (fun s => if s.boot.twinEn && s.twin.link == .up then s.twinPut (.echo (ridgeTime s.now256)) else s) s

/-- This clock less the preferred chip's in ns, from the response's T3, its arrival, and the delay of its direction. -/
def State.twinOffset (s : State) (t3 : BitVec 48) : Int :=
  let up := medianInt s.twin.dVals - s.time.asymTwin * 256 / 2000
  let d := (ridgeTime s.now256 - t3).toInt - up
  (d + 128) / 256

/-- An ECHO exchange: the non-preferred chip steers its clock, and takes the preferred chip's parent data, for which the spec names no frame
(spec/10 R295, log 82). -/
def State.twinEcho (t1 t2 t3 : BitVec 48) (gm : Option AnnounceMsg) (s : State) : State :=
  if !s.boot.twinEn || s.twin.link != .up then s
  else
    let d := echoDelay t1 t2 t3 (ridgeTime s.now256)
    if 2000 * 256 < d ∨ (s.twin.dVals ≠ [] ∧ (20 * 256 < (d - medianInt s.twin.dVals).natAbs)) then s
    else
      let s := s.updTwin fun t => { t with dVals := (d :: t.dVals).take 8 }
      if s.preferred then s
      else
        let o := s.twinOffset t3
        ((s.updTwin fun t => { t with partnerOffset := o, gm := gm }).servo o).bmca
/-- A request of the partner is answered with T1, its arrival and the time of the answer (Table 04-12). -/
def State.twinEchoAnswer (t1 : BitVec 48) (s : State) : State :=
  if s.boot.twinEn && s.twin.link == .up then s.twinPut (.echoResp t1 (ridgeTime s.now256) (ridgeTime s.now256)) else s
/-- TWIN_ECHO_RX: a request, or a response. -/
def execTwinEchoRx (resp : Bool) (t : EchoTimes) (gm : Option AnnounceMsg) (s : State) : Host.Outcome State Fault Refusal :=
  evt (if resp then State.twinEcho t.t1 t.t2 t.t3 gm else State.twinEchoAnswer t.t1) s

/-! ## Lanes, castling, WATCH (R267, R279, R284, R285) -/

/-- The next narrower width. -/
def narrower (w : Nat) : Nat := if w = 4 then 2 else 1

/-- The link goes on with fewer lanes. -/
def State.narrow (s : State) : State :=
  let w := narrower s.twin.width
  if w = s.twin.width then s.twinDown .train
  else
    let s := ((s.updTwin fun t => { t with width := w }).raise .twin 4).logEvent 0x0C03 0 w
    (s.setCause 9 0).twinDown .train

/-- The link trains at its width, all four lanes at first. -/
def State.twinTrain (s : State) : State := s.updTwin fun t => { t with link := .train, epoch := t.epoch + 1, width := if t.width = 0 then 4 else t.width }

/-- The HELLO of DISCOVER. -/
def State.sayHello (s : State) : State := (s.updTwin fun t => { t with link := .discover }).twinPut s.ownHello

/-- The eye samples of the lanes. In DETECT a signal on lane 0 starts training, in TRAIN open eyes on every active lane end it, in DISCOVER the
HELLO goes out (log 84); in TRAIN, SYNC and UP an active lane below 64 for 16 samples is dropped. -/
def State.twinEye (scores : List Nat) (s : State) : State :=
  if !s.boot.twinEn then s
  else if s.twin.link = .detect then (if 0 < scores.headD 0 then s.twinTrain else s)
  else if s.twin.link = .discover then s.sayHello
  else if s.twin.link = .train ∧ s.twin.width ≤ scores.length ∧ ((scores.take s.twin.width).all fun x => decide (64 ≤ x)) then s.sayHello
  else if s.twin.link = .off then s
  else
    let low := (scores.take s.twin.width).zipIdx.foldl (fun m e =>
      if e.1 < 64 then SMap.upd 0 m e.2 (· + 1) else SMap.set 0 m e.2 0) s.twin.eyeLow
    let s := s.updTwin fun t => { t with eyeLow := low }
    if low.any fun e => decide (16 ≤ e.2) then s.narrow else s
/-- TWIN_BEAT_IN has shown an edge (R266). -/
def State.beatEdge (edge : Bool) (s : State) : State :=
  if edge && s.boot.twinEn then s.updTwin fun t => { t with beatIn := true } else s

/-- TWIN_EYE_SAMPLE: the lanes' eyes, and the edges of TWIN_BEAT_IN, every 1 ms. -/
def execTwinEyeSample (x : TwinSample) (s : State) : Host.Outcome State Fault Refusal :=
  evt (fun s => (s.beatEdge x.beatEdge).twinEye x.scores) s

/-- REPORT_RX: the partner's health summary. -/
def execReportRx (summary : List Byte) (s : State) : Host.Outcome State Fault Refusal :=
  evt (fun s => if s.twinOpen then s.updTwin fun t => { t with report := summary } else s) s

/-- CASTLE_TIMER: CASTLE_HOURS have passed since the last change of LEAD. -/
def State.castleTimer (s : State) : State :=
  if !s.boot.twinEn || s.twin.mode.mode != 1 || s.twin.mode.castleHours == 0 || s.twin.castleDue then s else s.castleFallsDue
/-- CASTLE_TIMER. -/
def execCastleTimer (s : State) : Host.Outcome State Fault Refusal := evt State.castleTimer s

/-- SUPERVISION_RETURN: the chip that is not preferred hands supervision back. -/
def State.supervisionReturn (s : State) : State :=
  if s.pairUp && s.twin.supervisor && !s.preferred && !s.twin.lost && !s.twin.handing then s.handSupervision else s
/-- SUPERVISION_RETURN. -/
def execSupervisionReturn (s : State) : Host.Outcome State Fault Refusal := evt State.supervisionReturn s

/-- A REPORT_S interval ends: the sum of the ports' advances against DIVERGE_LIMIT, and REPORT. -/
def State.watch (s : State) : State :=
  if !s.boot.twinEn || s.twin.mode.mode != 2 then s
  else
    let adv := (List.range 48).map fun p => (p, (s.divCount p - s.twin.divSums.get 0 p).toNat)
    let sum := (adv.map (·.2)).sum
    let s := s.watchFrom
    let s := if sum < s.twin.mode.divergeLimit then s
      else
        let p := match adv.find? fun e => decide (0 < e.2) with | some e => e.1 | none => 0xFF
        ((s.updTwin fun t => { t with divPort := p }).raise .twin 8).logEvent 0x0C05 0 (p + sum * 256)
    if s.twinOpen then s.twinPut (.report s.healthSummary) else s
/-- WATCH_INTERVAL. -/
def execWatchInterval (s : State) : Host.Outcome State Fault Refusal := evt State.watch s

end Sys2Proof.Machine
end

