-- ==== Sys2Proof/Machine/Dispatch.lean ====
section
/-! DEFINITION. One arm per command: each calls its meaning. -/

namespace Sys2Proof.Machine

def exec (i : Instr) (s : State) : Host.Outcome State Fault Refusal :=
  match i with
  | .sysGetInfo a0 => Sys2Proof.Machine.execSysGetInfo a0 s
  | .sysReset a0 a1 a2 => Sys2Proof.Machine.execSysReset a0 a1 a2 s
  | .sysUpdateBegin a0 a1 a2 => Sys2Proof.Machine.execSysUpdateBegin a0 a1 a2 s
  | .sysUpdateData a0 a1 a2 a3 a4 => Sys2Proof.Machine.execSysUpdateData a0 a1 a2 a3 a4 s
  | .sysUpdateEnd a0 => Sys2Proof.Machine.execSysUpdateEnd a0 s
  | .sysSetSvn a0 a1 a2 => Sys2Proof.Machine.execSysSetSvn a0 a1 a2 s
  | .sysRevokeKey a0 a1 a2 => Sys2Proof.Machine.execSysRevokeKey a0 a1 a2 s
  | .sysDebugChallenge a0 => Sys2Proof.Machine.execSysDebugChallenge a0 s
  | .sysDebugUnlock a0 a1 a2 a3 a4 a5 a6 => Sys2Proof.Machine.execSysDebugUnlock a0 a1 a2 a3 a4 a5 a6 s
  | .sysRecoveryLoad a0 a1 a2 a3 a4 => Sys2Proof.Machine.execSysRecoveryLoad a0 a1 a2 a3 a4 s
  | .sysRecoveryBoot a0 => Sys2Proof.Machine.execSysRecoveryBoot a0 s
  | .barSetWeb a0 a1 => Sys2Proof.Machine.execBarSetWeb a0 a1 s
  | .barSetPort a0 a1 => Sys2Proof.Machine.execBarSetPort a0 a1 s
  | .barCommit a0 => Sys2Proof.Machine.execBarCommit a0 s
  | .barSetPolicy a0 a1 a2 a3 => Sys2Proof.Machine.execBarSetPolicy a0 a1 a2 a3 s
  | .barGet a0 => Sys2Proof.Machine.execBarGet a0 s
  | .barGetPort a0 a1 a2 => Sys2Proof.Machine.execBarGetPort a0 a1 a2 s
  | .headGetInfo a0 a1 a2 => Sys2Proof.Machine.execHeadGetInfo a0 a1 a2 s
  | .headSetDrive a0 a1 a2 a3 a4 a5 => Sys2Proof.Machine.execHeadSetDrive a0 a1 a2 a3 a4 a5 s
  | .headSetChar a0 a1 a2 a3 a4 => Sys2Proof.Machine.execHeadSetChar a0 a1 a2 a3 a4 s
  | .headSetThermal a0 a1 => Sys2Proof.Machine.execHeadSetThermal a0 a1 s
  | .headResume a0 a1 a2 => Sys2Proof.Machine.execHeadResume a0 a1 a2 s
  | .headGetNozzle a0 a1 a2 a3 a4 a5 => Sys2Proof.Machine.execHeadGetNozzle a0 a1 a2 a3 a4 a5 s
  | .headSetNozzle a0 a1 a2 a3 a4 => Sys2Proof.Machine.execHeadSetNozzle a0 a1 a2 a3 a4 s
  | .headMeasure a0 a1 a2 => Sys2Proof.Machine.execHeadMeasure a0 a1 a2 s
  | .fireSetLevels a0 a1 a2 a3 a4 => Sys2Proof.Machine.execFireSetLevels a0 a1 a2 a3 a4 s
  | .fireSetComp a0 a1 a2 a3 a4 => Sys2Proof.Machine.execFireSetComp a0 a1 a2 a3 a4 s
  | .fireSetWarm a0 a1 a2 a3 a4 => Sys2Proof.Machine.execFireSetWarm a0 a1 a2 a3 a4 s
  | .fireSetMeasure a0 a1 => Sys2Proof.Machine.execFireSetMeasure a0 a1 s
  | .fireSetIlk a0 a1 a2 a3 a4 => Sys2Proof.Machine.execFireSetIlk a0 a1 a2 a3 a4 s
  | .fireArm a0 => Sys2Proof.Machine.execFireArm a0 s
  | .fireDisarm a0 => Sys2Proof.Machine.execFireDisarm a0 s
  | .fireGetHiding a0 => Sys2Proof.Machine.execFireGetHiding a0 s
  | .pageAdmit a0 a1 => Sys2Proof.Machine.execPageAdmit a0 a1 s
  | .pageAbort a0 a1 a2 a3 => Sys2Proof.Machine.execPageAbort a0 a1 a2 a3 s
  | .pageQuery a0 a1 a2 => Sys2Proof.Machine.execPageQuery a0 a1 a2 s
  | .pageReport a0 a1 a2 => Sys2Proof.Machine.execPageReport a0 a1 a2 s
  | .pageGetWeb a0 => Sys2Proof.Machine.execPageGetWeb a0 s
  | .slateOpen a0 a1 a2 a3 a4 => Sys2Proof.Machine.execSlateOpen a0 a1 a2 a3 a4 s
  | .slateBind a0 a1 a2 a3 a4 => Sys2Proof.Machine.execSlateBind a0 a1 a2 a3 a4 s
  | .slateStatus a0 a1 a2 => Sys2Proof.Machine.execSlateStatus a0 a1 a2 s
  | .slateStreamStatus a0 a1 a2 a3 => Sys2Proof.Machine.execSlateStreamStatus a0 a1 a2 a3 s
  | .slateFree a0 a1 a2 => Sys2Proof.Machine.execSlateFree a0 a1 a2 s
  | .slateStoreInfo a0 => Sys2Proof.Machine.execSlateStoreInfo a0 s
  | .slateEncOpen a0 a1 => Sys2Proof.Machine.execSlateEncOpen a0 a1 s
  | .slateEncClose a0 a1 a2 => Sys2Proof.Machine.execSlateEncClose a0 a1 a2 s
  | .slateStateRead a0 a1 a2 a3 a4 => Sys2Proof.Machine.execSlateStateRead a0 a1 a2 a3 a4 s
  | .slateEncRestore a0 a1 a2 a3 a4 => Sys2Proof.Machine.execSlateEncRestore a0 a1 a2 a3 a4 s
  | .slateGetCounters a0 => Sys2Proof.Machine.execSlateGetCounters a0 s
  | .camSetLink a0 a1 => Sys2Proof.Machine.execCamSetLink a0 a1 s
  | .camSetPlace a0 a1 => Sys2Proof.Machine.execCamSetPlace a0 a1 s
  | .camSetExposure a0 a1 => Sys2Proof.Machine.execCamSetExposure a0 a1 s
  | .camLoadFlat a0 a1 a2 a3 a4 => Sys2Proof.Machine.execCamLoadFlat a0 a1 a2 a3 a4 s
  | .camStart a0 a1 a2 a3 => Sys2Proof.Machine.execCamStart a0 a1 a2 a3 s
  | .camStop a0 a1 a2 a3 => Sys2Proof.Machine.execCamStop a0 a1 a2 a3 s
  | .camGetStatus a0 a1 a2 => Sys2Proof.Machine.execCamGetStatus a0 a1 a2 s
  | .camGetFrames a0 a1 a2 a3 => Sys2Proof.Machine.execCamGetFrames a0 a1 a2 a3 s
  | .visSetNr a0 a1 a2 a3 a4 a5 => Sys2Proof.Machine.execVisSetNr a0 a1 a2 a3 a4 a5 s
  | .visSetMatrix a0 a1 a2 a3 a4 => Sys2Proof.Machine.execVisSetMatrix a0 a1 a2 a3 a4 s
  | .visSetPreview a0 a1 => Sys2Proof.Machine.execVisSetPreview a0 a1 s
  | .visSetEgress a0 a1 a2 a3 a4 => Sys2Proof.Machine.execVisSetEgress a0 a1 a2 a3 a4 s
  | .visSetDefect a0 a1 => Sys2Proof.Machine.execVisSetDefect a0 a1 s
  | .visGetDefects a0 a1 a2 a3 => Sys2Proof.Machine.execVisGetDefects a0 a1 a2 a3 s
  | .visThatchArm a0 a1 => Sys2Proof.Machine.execVisThatchArm a0 a1 s
  | .visGetDensity a0 a1 a2 a3 => Sys2Proof.Machine.execVisGetDensity a0 a1 a2 a3 s
  | .visGetStatus a0 => Sys2Proof.Machine.execVisGetStatus a0 s
  | .calSetLoop a0 a1 => Sys2Proof.Machine.execCalSetLoop a0 a1 s
  | .calGetStatus a0 => Sys2Proof.Machine.execCalGetStatus a0 s
  | .calGetColumns a0 a1 a2 a3 => Sys2Proof.Machine.execCalGetColumns a0 a1 a2 a3 s
  | .calSetFactory a0 a1 a2 a3 a4 a5 => Sys2Proof.Machine.execCalSetFactory a0 a1 a2 a3 a4 a5 s
  | .calRecal a0 a1 => Sys2Proof.Machine.execCalRecal a0 a1 s
  | .calRecalStop a0 a1 a2 => Sys2Proof.Machine.execCalRecalStop a0 a1 a2 s
  | .nvmGetStatus a0 => Sys2Proof.Machine.execNvmGetStatus a0 s
  | .nvmRead a0 a1 a2 a3 => Sys2Proof.Machine.execNvmRead a0 a1 a2 a3 s
  | .nvmCompact a0 => Sys2Proof.Machine.execNvmCompact a0 s
  | .nvmEraseCal a0 => Sys2Proof.Machine.execNvmEraseCal a0 s
  | .encSetInput a0 a1 => Sys2Proof.Machine.execEncSetInput a0 a1 s
  | .encGetStatus a0 a1 a2 => Sys2Proof.Machine.execEncGetStatus a0 a1 a2 s
  | .encSetCount a0 a1 a2 a3 => Sys2Proof.Machine.execEncSetCount a0 a1 a2 a3 s
  | .motSetAxis a0 a1 => Sys2Proof.Machine.execMotSetAxis a0 a1 s
  | .motSetRates a0 a1 => Sys2Proof.Machine.execMotSetRates a0 a1 s
  | .motMove a0 a1 a2 a3 a4 => Sys2Proof.Machine.execMotMove a0 a1 a2 a3 a4 s
  | .motStop a0 a1 a2 => Sys2Proof.Machine.execMotStop a0 a1 a2 s
  | .motQuickStop a0 a1 a2 => Sys2Proof.Machine.execMotQuickStop a0 a1 a2 s
  | .motLoadTable a0 a1 a2 a3 a4 a5 => Sys2Proof.Machine.execMotLoadTable a0 a1 a2 a3 a4 a5 s
  | .motRunTable a0 a1 a2 a3 a4 => Sys2Proof.Machine.execMotRunTable a0 a1 a2 a3 a4 s
  | .motGear a0 a1 => Sys2Proof.Machine.execMotGear a0 a1 s
  | .motGearRatio a0 a1 a2 a3 a4 a5 a6 => Sys2Proof.Machine.execMotGearRatio a0 a1 a2 a3 a4 a5 a6 s
  | .motSetCompare a0 a1 => Sys2Proof.Machine.execMotSetCompare a0 a1 s
  | .motGetStatus a0 a1 a2 => Sys2Proof.Machine.execMotGetStatus a0 a1 a2 s
  | .motGetCompare a0 a1 a2 => Sys2Proof.Machine.execMotGetCompare a0 a1 a2 s
  | .motSetPosition a0 a1 a2 a3 => Sys2Proof.Machine.execMotSetPosition a0 a1 a2 a3 s
  | .twinGetStatus a0 => Sys2Proof.Machine.execTwinGetStatus a0 s
  | .twinSetMode a0 a1 => Sys2Proof.Machine.execTwinSetMode a0 a1 s
  | .twinSwitchback a0 a1 a2 => Sys2Proof.Machine.execTwinSwitchback a0 a1 a2 s
  | .twinResolve a0 a1 a2 => Sys2Proof.Machine.execTwinResolve a0 a1 a2 s
  | .timeSetClock a0 a1 => Sys2Proof.Machine.execTimeSetClock a0 a1 s
  | .timeSetPtp a0 a1 => Sys2Proof.Machine.execTimeSetPtp a0 a1 s
  | .timeSetPort a0 a1 => Sys2Proof.Machine.execTimeSetPort a0 a1 s
  | .timeSetAsym a0 a1 a2 a3 a4 => Sys2Proof.Machine.execTimeSetAsym a0 a1 a2 a3 a4 s
  | .timeGetStatus a0 => Sys2Proof.Machine.execTimeGetStatus a0 s
  | .timeGetTime a0 => Sys2Proof.Machine.execTimeGetTime a0 s
  | .timeSetCalendar a0 a1 a2 => Sys2Proof.Machine.execTimeSetCalendar a0 a1 a2 s
  | .timeSetPress a0 a1 a2 a3 a4 => Sys2Proof.Machine.execTimeSetPress a0 a1 a2 a3 a4 s
  | .timeSendStop a0 => Sys2Proof.Machine.execTimeSendStop a0 s
  | .timeGetPress a0 a1 a2 => Sys2Proof.Machine.execTimeGetPress a0 a1 a2 s
  | .pwrSetState a0 a1 a2 => Sys2Proof.Machine.execPwrSetState a0 a1 a2 s
  | .pwrSetLevel a0 a1 a2 => Sys2Proof.Machine.execPwrSetLevel a0 a1 a2 s
  | .pwrSetRetention a0 a1 a2 a3 => Sys2Proof.Machine.execPwrSetRetention a0 a1 a2 a3 s
  | .pwrSetWake a0 a1 a2 a3 a4 => Sys2Proof.Machine.execPwrSetWake a0 a1 a2 a3 a4 s
  | .pwrSetDroop a0 a1 a2 a3 a4 => Sys2Proof.Machine.execPwrSetDroop a0 a1 a2 a3 a4 s
  | .pwrSetSupply a0 a1 a2 a3 a4 a5 => Sys2Proof.Machine.execPwrSetSupply a0 a1 a2 a3 a4 a5 s
  | .pwrGetStatus a0 => Sys2Proof.Machine.execPwrGetStatus a0 s
  | .logStatus a0 => Sys2Proof.Machine.execLogStatus a0 s
  | .logClear a0 a1 => Sys2Proof.Machine.execLogClear a0 a1 s
  | .logSet a0 a1 a2 => Sys2Proof.Machine.execLogSet a0 a1 a2 s
  | .logRead a0 a1 a2 a3 => Sys2Proof.Machine.execLogRead a0 a1 a2 a3 s
  | .healthGetReport a0 => Sys2Proof.Machine.execHealthGetReport a0 s
  | .healthClear a0 a1 a2 => Sys2Proof.Machine.execHealthClear a0 a1 a2 s
  | .healthSet a0 a1 a2 => Sys2Proof.Machine.execHealthSet a0 a1 a2 s
  | .healthUnretire a0 a1 a2 a3 => Sys2Proof.Machine.execHealthUnretire a0 a1 a2 a3 s
  | .dramGetConfig a0 => Sys2Proof.Machine.execDramGetConfig a0 s
  | .dramSetMap a0 a1 a2 a3 a4 => Sys2Proof.Machine.execDramSetMap a0 a1 a2 a3 a4 s
  | .dramSetRegions a0 a1 a2 a3 a4 => Sys2Proof.Machine.execDramSetRegions a0 a1 a2 a3 a4 s
  | .dramGetRegions a0 => Sys2Proof.Machine.execDramGetRegions a0 s
  | .dramSetQos a0 a1 a2 a3 a4 a5 => Sys2Proof.Machine.execDramSetQos a0 a1 a2 a3 a4 a5 s
  | .dramSetHealth a0 a1 a2 a3 a4 a5 => Sys2Proof.Machine.execDramSetHealth a0 a1 a2 a3 a4 a5 s
  | .dramGetCounters a0 a1 a2 => Sys2Proof.Machine.execDramGetCounters a0 a1 a2 s
  | .dramRetire a0 a1 a2 a3 => Sys2Proof.Machine.execDramRetire a0 a1 a2 a3 s
  | .dmaSetChannel a0 a1 => Sys2Proof.Machine.execDmaSetChannel a0 a1 s
  | .dmaGetChannel a0 a1 a2 => Sys2Proof.Machine.execDmaGetChannel a0 a1 a2 s
  | .mbCancel a0 => Sys2Proof.Machine.execMbCancel a0 s
  | .revive a0 a1 => Sys2Proof.Machine.execRevive a0 a1 s
  | .resync a0 => Sys2Proof.Machine.execResync a0 s
  | .drop a0 => Sys2Proof.Machine.execDrop a0 s
  | .run a0 a1 => Sys2Proof.Machine.execRun a0 a1 s
  | .stop a0 => Sys2Proof.Machine.execStop a0 s
  | .clear a0 => Sys2Proof.Machine.execClear a0 s
  | .dmaProdWrite a0 a1 => Sys2Proof.Machine.execDmaProdWrite a0 a1 s
  | .dmaConsWrite a0 a1 => Sys2Proof.Machine.execDmaConsWrite a0 a1 s
  | .dmaCountAdd a0 a1 => Sys2Proof.Machine.execDmaCountAdd a0 a1 s
  | .registerWrite a0 a1 a2 => Sys2Proof.Machine.execRegisterWrite a0 a1 a2 s
  | .bar2Write a0 a1 => Sys2Proof.Machine.execBar2Write a0 a1 s
  | .bar2Read a0 a1 => Sys2Proof.Machine.execBar2Read a0 a1 s
  | .functionLevelReset => Sys2Proof.Machine.execFunctionLevelReset s
  | .hotReset => Sys2Proof.Machine.execHotReset s
  | .linkDown => Sys2Proof.Machine.execLinkDown s
  | .perstAssert => Sys2Proof.Machine.execPerstAssert s
  | .resetNFall => Sys2Proof.Machine.execResetNFall s
  | .resetNRise a0 => Sys2Proof.Machine.execResetNRise a0 s
  | .imageLoadDone a0 a1 => Sys2Proof.Machine.execImageLoadDone a0 a1 s
  | .dramTrainDone a0 => Sys2Proof.Machine.execDramTrainDone a0 s
  | .ready a0 => Sys2Proof.Machine.execReady a0 s
  | .lockstepMismatch => Sys2Proof.Machine.execLockstepMismatch s
  | .firmwareRestartDone => Sys2Proof.Machine.execFirmwareRestartDone s
  | .encoderEdge enc e => Sys2Proof.Machine.execEncoderEdge enc e s
  | .encStandstill a0 => Sys2Proof.Machine.execEncStandstill a0 s
  | .ssiFrameStart a0 a1 => Sys2Proof.Machine.execSsiFrameStart a0 a1 s
  | .ssiFrameDone a0 a1 a2 a3 => Sys2Proof.Machine.execSsiFrameDone a0 a1 a2 a3 s
  | .ssiTimeout a0 => Sys2Proof.Machine.execSsiTimeout a0 s
  | .lineRelease a0 a1 => Sys2Proof.Machine.execLineRelease a0 a1 s
  | .decodeJobStart a0 => Sys2Proof.Machine.execDecodeJobStart a0 s
  | .decodeJobDone a0 => Sys2Proof.Machine.execDecodeJobDone a0 s
  | .frameBuild a0 a1 a2 => Sys2Proof.Machine.execFrameBuild a0 a1 a2 s
  | .ridgeFrameTx a0 => Sys2Proof.Machine.execRidgeFrameTx a0 s
  | .lineLate a0 a1 => Sys2Proof.Machine.execLineLate a0 a1 s
  | .placementCheck a0 a1 a2 => Sys2Proof.Machine.execPlacementCheck a0 a1 a2 s
  | .pageDone a0 => Sys2Proof.Machine.execPageDone a0 s
  | .handleFree a0 => Sys2Proof.Machine.execHandleFree a0 s
  | .ilkInputActive x => Sys2Proof.Machine.execIlkInputActive x s
  | .ilkInputInactive x => Sys2Proof.Machine.execIlkInputInactive x s
  | .rlStatusRx a0 a1 => Sys2Proof.Machine.execRlStatusRx a0 a1 s
  | .throttleDecay a0 => Sys2Proof.Machine.execThrottleDecay a0 s
  | .upstreamSilent a0 => Sys2Proof.Machine.execUpstreamSilent a0 s
  | .gapWindowOpen a0 a1 => Sys2Proof.Machine.execGapWindowOpen a0 a1 s
  | .gapWindowClose a0 => Sys2Proof.Machine.execGapWindowClose a0 s
  | .warmEvaluate a0 => Sys2Proof.Machine.execWarmEvaluate a0 s
  | .measureSliceSend a0 => Sys2Proof.Machine.execMeasureSliceSend a0 s
  | .measureResultRx a0 a1 a2 => Sys2Proof.Machine.execMeasureResultRx a0 a1 a2 s
  | .measureTimeout a0 => Sys2Proof.Machine.execMeasureTimeout a0 s
  | .detectBurst a0 => Sys2Proof.Machine.execDetectBurst a0 s
  | .linkAligned a0 => Sys2Proof.Machine.execLinkAligned a0 s
  | .trainSweepDone a0 a1 => Sys2Proof.Machine.execTrainSweepDone a0 a1 s
  | .eyeSample a0 a1 a2 a3 => Sys2Proof.Machine.execEyeSample a0 a1 a2 a3 s
  | .trainTimeout a0 => Sys2Proof.Machine.execTrainTimeout a0 s
  | .signalLoss a0 => Sys2Proof.Machine.execSignalLoss a0 s
  | .commaLoss a0 => Sys2Proof.Machine.execCommaLoss a0 s
  | .skipSend a0 => Sys2Proof.Machine.execSkipSend a0 s
  | .electricalIdleEntry a0 => Sys2Proof.Machine.execElectricalIdleEntry a0 s
  | .rlHelloRx a0 a1 => Sys2Proof.Machine.execRlHelloRx a0 a1 s
  | .rlCtrlRespRx a0 a1 a2 a3 => Sys2Proof.Machine.execRlCtrlRespRx a0 a1 a2 a3 s
  | .ctrlTimeout a0 => Sys2Proof.Machine.execCtrlTimeout a0 s
  | .echoSend a0 => Sys2Proof.Machine.execEchoSend a0 s
  | .echoRespRx a0 a1 a2 a3 => Sys2Proof.Machine.execEchoRespRx a0 a1 a2 a3 s
  | .timeSend a0 => Sys2Proof.Machine.execTimeSend a0 s
  | .rlBadFrame port x => Sys2Proof.Machine.execRlBadFrame port x s
  | .headFireLineRx a0 a1 a2 a3 => Sys2Proof.Machine.execHeadFireLineRx a0 a1 a2 a3 s
  | .headRetimeRx a0 a1 a2 a3 a4 => Sys2Proof.Machine.execHeadRetimeRx a0 a1 a2 a3 a4 s
  | .headCeaseRx a0 a1 a2 a3 => Sys2Proof.Machine.execHeadCeaseRx a0 a1 a2 a3 s
  | .headCtrlWrRx a0 a1 a2 a3 a4 => Sys2Proof.Machine.execHeadCtrlWrRx a0 a1 a2 a3 a4 s
  | .headCtrlRdRx a0 a1 a2 a3 a4 => Sys2Proof.Machine.execHeadCtrlRdRx a0 a1 a2 a3 a4 s
  | .headMeasureFrame head uport seq nozzles readA readB => Sys2Proof.Machine.execHeadMeasureFrame head uport seq nozzles readA readB s
  | .headTimeRx a0 a1 a2 => Sys2Proof.Machine.execHeadTimeRx a0 a1 a2 s
  | .headEchoRx a0 a1 a2 a3 => Sys2Proof.Machine.execHeadEchoRx a0 a1 a2 a3 s
  | .headHelloRx a0 a1 a2 => Sys2Proof.Machine.execHeadHelloRx a0 a1 a2 s
  | .headHelloSend head m => Sys2Proof.Machine.execHeadHelloSend head m s
  | .headStatusSend head x => Sys2Proof.Machine.execHeadStatusSend head x s
  | .headFireLine a0 a1 => Sys2Proof.Machine.execHeadFireLine a0 a1 s
  | .headRecordExpiry a0 a1 => Sys2Proof.Machine.execHeadRecordExpiry a0 a1 s
  | .headTCut a0 a1 => Sys2Proof.Machine.execHeadTCut a0 a1 s
  | .headFireEnableLow a0 => Sys2Proof.Machine.execHeadFireEnableLow a0 s
  | .dmaIngressTransfer a0 a1 => Sys2Proof.Machine.execDmaIngressTransfer a0 a1 s
  | .dmaEgressTransfer a0 a1 => Sys2Proof.Machine.execDmaEgressTransfer a0 a1 s
  | .dmaReadbackDone a0 => Sys2Proof.Machine.execDmaReadbackDone a0 s
  | .dmaBusError a0 => Sys2Proof.Machine.execDmaBusError a0 s
  | .dmaRetry a0 => Sys2Proof.Machine.execDmaRetry a0 s
  | .camTrigger a0 => Sys2Proof.Machine.execCamTrigger a0 s
  | .trigPulseEnd a0 => Sys2Proof.Machine.execTrigPulseEnd a0 s
  | .csiFsRx x => Sys2Proof.Machine.execCsiFsRx x s
  | .csiLsRx x vc line => Sys2Proof.Machine.execCsiLsRx x vc line s
  | .csiLineRx a0 a1 => Sys2Proof.Machine.execCsiLineRx a0 a1 s
  | .csiOtherPacketRx x => Sys2Proof.Machine.execCsiOtherPacketRx x s
  | .csiFeRx x => Sys2Proof.Machine.execCsiFeRx x s
  | .pipelineLineStart => Sys2Proof.Machine.execPipelineLineStart s
  | .pipelineLineDone => Sys2Proof.Machine.execPipelineLineDone s
  | .encodeJobStart => Sys2Proof.Machine.execEncodeJobStart s
  | .encodeJobDone => Sys2Proof.Machine.execEncodeJobDone s
  | .blockClose => Sys2Proof.Machine.execBlockClose s
  | .recalTimeout a0 => Sys2Proof.Machine.execRecalTimeout a0 s
  | .recalPeriodRestart a0 => Sys2Proof.Machine.execRecalPeriodRestart a0 s
  | .journalRecordWrite => Sys2Proof.Machine.execJournalRecordWrite s
  | .journalCommit => Sys2Proof.Machine.execJournalCommit s
  | .compactionDone => Sys2Proof.Machine.execCompactionDone s
  | .eventRecordWrite => Sys2Proof.Machine.execEventRecordWrite s
  | .twinHelloRx a0 a1 a2 => Sys2Proof.Machine.execTwinHelloRx a0 a1 a2 s
  | .beatSend => Sys2Proof.Machine.execBeatSend s
  | .beatRx a0 => Sys2Proof.Machine.execBeatRx a0 s
  | .twinBeatInSilent => Sys2Proof.Machine.execTwinBeatInSilent s
  | .beatTimeout => Sys2Proof.Machine.execBeatTimeout s
  | .partnerEvidenceEnd => Sys2Proof.Machine.execPartnerEvidenceEnd s
  | .ilkDisagree => Sys2Proof.Machine.execIlkDisagree s
  | .mirrorDataRx a0 a1 => Sys2Proof.Machine.execMirrorDataRx a0 a1 s
  | .admitRx a0 a1 => Sys2Proof.Machine.execAdmitRx a0 a1 s
  | .pageEventRx a0 a1 => Sys2Proof.Machine.execPageEventRx a0 a1 s
  | .configRx a0 a1 a2 a3 => Sys2Proof.Machine.execConfigRx a0 a1 a2 a3 s
  | .journalRx a0 a1 => Sys2Proof.Machine.execJournalRx a0 a1 s
  | .accumRx a0 a1 => Sys2Proof.Machine.execAccumRx a0 a1 s
  | .roleRx a0 a1 => Sys2Proof.Machine.execRoleRx a0 a1 s
  | .ackRx a0 => Sys2Proof.Machine.execAckRx a0 s
  | .ackSend => Sys2Proof.Machine.execAckSend s
  | .twinResend => Sys2Proof.Machine.execTwinResend s
  | .admitAckTimeout => Sys2Proof.Machine.execAdmitAckTimeout s
  | .journalAckTimeout => Sys2Proof.Machine.execJournalAckTimeout s
  | .pageReportTimeout a0 => Sys2Proof.Machine.execPageReportTimeout a0 s
  | .twinEchoSend => Sys2Proof.Machine.execTwinEchoSend s
  | .twinEchoRx resp t gm => Sys2Proof.Machine.execTwinEchoRx resp t gm s
  | .reportRx a0 => Sys2Proof.Machine.execReportRx a0 s
  | .twinEyeSample x => Sys2Proof.Machine.execTwinEyeSample x s
  | .castleTimer => Sys2Proof.Machine.execCastleTimer s
  | .supervisionReturn => Sys2Proof.Machine.execSupervisionReturn s
  | .watchInterval => Sys2Proof.Machine.execWatchInterval s
  | .ptpSyncRx a0 a1 a2 a3 a4 => Sys2Proof.Machine.execPtpSyncRx a0 a1 a2 a3 a4 s
  | .ptpAnnounceRx a0 a1 => Sys2Proof.Machine.execPtpAnnounceRx a0 a1 s
  | .ptpDelayRespRx port domain r => Sys2Proof.Machine.execPtpDelayRespRx port domain r s
  | .ptpDelayReqRx port domain r => Sys2Proof.Machine.execPtpDelayReqRx port domain r s
  | .ptpMessageSend a0 a1 => Sys2Proof.Machine.execPtpMessageSend a0 a1 s
  | .announceTimeout a0 => Sys2Proof.Machine.execAnnounceTimeout a0 s
  | .holdoverLimit => Sys2Proof.Machine.execHoldoverLimit s
  | .arpRequestRx a0 a1 => Sys2Proof.Machine.execArpRequestRx a0 a1 s
  | .ethOtherRx a0 => Sys2Proof.Machine.execEthOtherRx a0 s
  | .pressMessageRx port m => Sys2Proof.Machine.execPressMessageRx port m s
  | .rtcDiscipline => Sys2Proof.Machine.execRtcDiscipline s
  | .axisStep a0 => Sys2Proof.Machine.execAxisStep a0 s
  | .scrubDone => Sys2Proof.Machine.execScrubDone s
  | .hotspotWindowEnd a0 => Sys2Proof.Machine.execHotspotWindowEnd a0 s
  | .dqsDriftCheck a0 a1 => Sys2Proof.Machine.execDqsDriftCheck a0 a1 s
  | .dramUe a0 a1 a2 => Sys2Proof.Machine.execDramUe a0 a1 a2 s
  | .handshakeReask => Sys2Proof.Machine.execHandshakeReask s
  | .handshakeBoundExpiry => Sys2Proof.Machine.execHandshakeBoundExpiry s
  | .pmbusWriteDone a0 a1 => Sys2Proof.Machine.execPmbusWriteDone a0 a1 s
  | .vsettleExpiry => Sys2Proof.Machine.execVsettleExpiry s
  | .wakeIn => Sys2Proof.Machine.execWakeIn s
  | .rtcAlarm => Sys2Proof.Machine.execRtcAlarm s
  | .perstRise => Sys2Proof.Machine.execPerstRise s
  | .encMove => Sys2Proof.Machine.execEncMove s
  | .corePgRise a0 => Sys2Proof.Machine.execCorePgRise a0 s
  | .corePgTimeout => Sys2Proof.Machine.execCorePgTimeout s
  | .pwrEnRetry => Sys2Proof.Machine.execPwrEnRetry s
  | .corePgFall => Sys2Proof.Machine.execCorePgFall s
  | .droopTrip a0 => Sys2Proof.Machine.execDroopTrip a0 s
  | .droopClear a0 => Sys2Proof.Machine.execDroopClear a0 s
  | .droopRestore => Sys2Proof.Machine.execDroopRestore s
  | .droopLong a0 => Sys2Proof.Machine.execDroopLong a0 s
  | .thermalShutdown a0 => Sys2Proof.Machine.execThermalShutdown a0 s
  | .thermalOff => Sys2Proof.Machine.execThermalOff s
  | .decoderSelftest a0 a1 => Sys2Proof.Machine.execDecoderSelftest a0 a1 s
  | .veSelftest a0 a1 => Sys2Proof.Machine.execVeSelftest a0 a1 s
  | .pllMarginCheck a0 => Sys2Proof.Machine.execPllMarginCheck a0 s
  | .tjCheck a0 => Sys2Proof.Machine.execTjCheck a0 s
  | .sramEccError a0 a1 a2 => Sys2Proof.Machine.execSramEccError a0 a1 a2 s
  | .mbDoorbell a0 => Sys2Proof.Machine.execMbDoorbell a0 s
  | .telemetryTimeout a0 => Sys2Proof.Machine.execTelemetryTimeout a0 s
  | .lineFired a0 a1 a2 => Sys2Proof.Machine.execLineFired a0 a1 a2 s
  | .dramCorrectedError a0 a1 => Sys2Proof.Machine.execDramCorrectedError a0 a1 s
  | .retBrownout => Sys2Proof.Machine.execRetBrownout s
  | .aonPowerLoss => Sys2Proof.Machine.execAonPowerLoss s
  | .pcieLinkUp => Sys2Proof.Machine.execPcieLinkUp s
  | .warmingPulse a0 a1 => Sys2Proof.Machine.execWarmingPulse a0 a1 s
  | .headElectricalIdleEntry a0 a1 => Sys2Proof.Machine.execHeadElectricalIdleEntry a0 a1 s
  | .tapInstruction a0 => Sys2Proof.Machine.execTapInstruction a0 s

end Sys2Proof.Machine
end

