-- ==== Sys2Proof/Safety.lean ====
section
/-! DEFINITION. The terms claims use: what counts as a safe run, when a mailbox command is served and how it is answered
(spec/12 R336–R340), and what the interrupts of a step may change (R342). -/

namespace Sys2Proof

open Machine

/-- The fuses hold what only SYS_SET_SVN and SYS_REVOKE_KEY may leave (spec/12 R346): a counter of at most 64, and a key slot that
is not revoked. -/
def Safety.FusesGood (s : State) : Prop := s.fuse.otpCounter ≤ 64 ∧ 1 ≤ s.fuse.keysLeft

/-- A doorbell of the slot is taken now: the link is up, the control cores run and the slot is empty (R336, R338, spec/01 R18). -/
def Safety.rings (s : State) (h : MbHdr) : Bool :=
  s.alive && s.host.live && s.coresRun && ((s.host.busy ||| s.host.done) &&& slotBit h.slot == 0) &&
    (s.host.doorbell &&& slotBit h.slot == 0)

/-- The request header is one R340 takes for a payload of `len` bytes. -/
def Safety.header (h : MbHdr) (len : Nat) : Bool :=
  h.reqBytes.toNat == 16 + len && decide (h.reqBytes.toNat ≤ 2048) && h.rsv == 0

/-- A command with a payload of `len` bytes is served by its own rules: at READY, with a good header (R340). -/
def Safety.served (s : State) (h : MbHdr) (len : Nat) : Bool := Safety.rings s h && s.isReady && Safety.header h len

/-- The slot answered with a status and a payload (R336, Table 12-7): the response is written whole, the slot's cancel bit is clear
and its done bit is set, its doorbell and busy bits as before, clear; nothing else of the host interface changed but alert bits and
the interrupts sent. -/
def Safety.AnsweredWith (h : MbHdr) (op status : Nat) (payload : List Byte) (s t : State) : Prop :=
  ∃ al pba sent, t.host = { s.host with
    resp := s.host.resp.set {} h.slot.toNat
      ⟨BitVec.ofNat 16 op, h.tag, h.gen, BitVec.ofNat 16 status, t.time.clock.ns, payload⟩,
    cancel := s.host.cancel &&& ~~~(slotBit h.slot), done := s.host.done ||| slotBit h.slot,
    alert := al, msixPba := pba, msixSent := sent }

/-- The slot answered, and no alert bit changed. -/
def Safety.Answered (h : MbHdr) (op status : Nat) (payload : List Byte) (s t : State) : Prop :=
  Safety.AnsweredWith h op status payload s t ∧ t.host.alert = s.host.alert

/-- The slot holds a completed command's response: its status and payload, its done bit set. -/
def Safety.Completed (h : MbHdr) (op status : Nat) (payload : List Byte) (t : State) : Prop :=
  t.host.resp.get {} h.slot.toNat =
    ⟨BitVec.ofNat 16 op, h.tag, h.gen, BitVec.ofNat 16 status, t.time.clock.ns, payload⟩ ∧
  t.host.done &&& slotBit h.slot = slotBit h.slot

/-- Nothing that a handshake asks about is under way (Table 13-4): no page, no moving axis, no camera port with a frame, no queued
camera line, no gain update, no open egress stream, no DMA activity, no store work. -/
def Safety.Resting (s : State) : Prop :=
  s.bat.pages = [] ∧ s.axisMoving = false ∧ s.camLinesQueued = false ∧
  (∀ p, p < 4 → (s.camN p).st = .stopped ∧ (s.camN p).frame = none) ∧ s.gainBusy = false ∧ s.slate.encBusy = none ∧
  (∀ i, i < 8 → (s.esN i).isOpen = false) ∧ s.dmaActive = false ∧ s.storeBusy = false

/-- The slot is busy with a command that completes when `w` ends, with a payload for its response (R336). -/
def Safety.Waits (h : MbHdr) (op : Nat) (w : Wait) (payload : List Byte) (s t : State) : Prop :=
  ∃ al pba sent, t.host = { s.host with
    doorbell := s.host.doorbell ||| slotBit h.slot, busy := s.host.busy ||| slotBit h.slot,
    inflight := s.host.inflight ++ [⟨h, BitVec.ofNat 16 op, w, payload, false⟩],
    alert := al, msixPba := pba, msixSent := sent }

/-- Of the host interface only interrupts sent changed. -/
def Safety.Quiet (s t : State) : Prop := ∃ pba sent, t.host = { s.host with msixPba := pba, msixSent := sent }

/-- Of the host interface only alert bits and interrupts sent changed. -/
def Safety.Alerted (s t : State) : Prop := ∃ al pba sent, t.host = { s.host with alert := al, msixPba := pba, msixSent := sent }

/-- Of the host interface only what `f` changes changed, and interrupts sent. -/
def Safety.QuietHost (f : HostIf → HostIf) (s t : State) : Prop :=
  ∃ pba sent, t.host = { f s.host with msixPba := pba, msixSent := sent }

/-- Of the host interface only what `f` changes changed, alert bits, and interrupts sent. -/
def Safety.AlertedHost (f : HostIf → HostIf) (s t : State) : Prop :=
  ∃ al pba sent, t.host = { f s.host with alert := al, msixPba := pba, msixSent := sent }

/-- The bit of an alert register is set (R342). -/
def Safety.Raised (r : AlertReg) (n : Nat) (t : State) : Prop := (t.alertOf r).getLsbD n = true

end Sys2Proof
end

