-- ==== Sys2Proof/Certificates/Slice0/Obligations.lean ====
section
/-! DEFINITION. The statements for the provers: what the commands do, what they leave alone, and what every step keeps. -/

open Sys2Proof
open Sys2Proof.Machine

/-- SYS_GET_INFO and the update commands answer and write only their slot. With an empty slot and a good header, SYS_GET_INFO
answers OK with the 40 bytes of its layout, before READY too, and changes nothing else. At READY, SYS_UPDATE_BEGIN of the slot
that may be updated erases exactly that slot's flash; SYS_UPDATE_DATA with an accepted offset and length writes exactly its DATA
bytes at its offset in the slot; SYS_UPDATE_END of a slot whose image verifies writes exactly the 12 bytes of the slot record and
ends the update. Every other component of the state is unchanged. (spec/12 Table 12-14; spec/12 R348, R349; spec/12 R336) -/
def Obligations.SystemInfoAndUpdate : Prop :=
(∀ (s : State) (h : MbHdr), Safety.rings s h = true → Safety.header h 0 = true →
    ∃ t, exec (.sysGetInfo h) s = .next t ∧ Safety.Answered h 0x0101 0 s.infoBytes s t ∧ t = { s with host := t.host }) ∧
  (∀ (s : State) (h : MbHdr) (slot : Byte), Safety.served s h 4 = true → slot.toNat = s.updatable →
    ∃ t, exec (.sysUpdateBegin h slot 0) s = .next t ∧ Safety.Answered h 0x0103 0 [] s t ∧
      t = { s with host := t.host, boot := t.boot } ∧
      t.boot = { s.boot with flash := t.boot.flash, updSlot := some slot.toNat } ∧
      ∀ a, t.flashByte a = if slotBase slot.toNat ≤ a ∧ a < slotBase slot.toNat + slotBytes then 0xFF else s.flashByte a) ∧
  (∀ (s : State) (h : MbHdr) (offset bytes : BitVec 32) (data : List Byte) (k : Nat),
    Safety.served s h (16 + bytes.toNat) = true → s.boot.updSlot = some k → data.length = bytes.toNat →
    offset.toNat % 16 = 0 → 0x1000 ≤ offset.toNat → offset.toNat + bytes.toNat ≤ slotBytes →
    16 ≤ bytes.toNat → bytes.toNat ≤ 2016 → bytes.toNat % 16 = 0 →
    ∃ t, exec (.sysUpdateData h offset bytes 0 data) s = .next t ∧ Safety.Answered h 0x0104 0 [] s t ∧
      t = { s with host := t.host, boot := t.boot } ∧ t.boot = { s.boot with flash := t.boot.flash } ∧
      ∀ a, t.flashByte a =
        if slotBase k + offset.toNat ≤ a ∧ a < slotBase k + offset.toNat + bytes.toNat then
          data.getD (a - (slotBase k + offset.toNat)) 0xFF
        else s.flashByte a) ∧
  (∀ (s : State) (h : MbHdr) (k : Nat), Safety.served s h 0 = true → s.boot.updSlot = some k → s.imageCode (s.slotByte k) = 0 →
    ∃ t p, exec (.sysUpdateEnd h) s = .next t ∧ Safety.Answered h 0x0105 0 p s t ∧
      p = le 4 (imageInfo (s.slotByte k)).fwVersion.toNat ++ le 2 (imageInfo (s.slotByte k)).svn ++ zeros 2 ∧
      t = { s with host := t.host, boot := t.boot } ∧ t.boot = { s.boot with flash := t.boot.flash, updSlot := none } ∧
      ∀ a, t.flashByte a =
        if slotBase k ≤ a ∧ a < slotBase k + 12 then
          (slotRecord (match s.slotSeq (1 - k) with | some q => q + 1 | none => 1)).getD (a - slotBase k) 0xFF
        else s.flashByte a)

/-- SYS_SET_SVN raises the counter and SYS_REVOKE_KEY revokes a key slot. At READY, SYS_SET_SVN with an SVN not below the counter,
not above the running image's and at most 64 sets the counter to SVN and answers it; SYS_REVOKE_KEY of one of the four slots that
is neither the running image's nor the last one left sets exactly its revocation bit. SYS_SET_SVN below the counter or above the
image's SVN answers 0x0102 and leaves the fuses as they were. The debug commands: where debug is not fused off,
SYS_DEBUG_CHALLENGE answers a nonce of 32 bytes, which it keeps; SYS_DEBUG_UNLOCK with a valid unlock opens exactly its SCOPE and
uses up the nonce. (spec/12 R346, R352; spec/12 Table 12-14; spec/12 Table 12-15) -/
def Obligations.FuseCommandsRun : Prop :=
(∀ (s : State) (h : MbHdr) (svn : BitVec 16), Safety.served s h 4 = true → s.fuse.otpCounter ≤ svn.toNat →
    svn.toNat ≤ s.boot.imgSvn → svn.toNat ≤ 64 →
    ∃ t, exec (.sysSetSvn h svn 0) s = .next t ∧ Safety.Answered h 0x0106 0 (le 2 svn.toNat ++ zeros 2) s t ∧
      t = { s with host := t.host, fuse := { s.fuse with otpCounter := svn.toNat } }) ∧
  (∀ (s : State) (h : MbHdr) (svn : BitVec 16), Safety.served s h 4 = true → svn.toNat ≤ 64 →
    (svn.toNat < s.fuse.otpCounter ∨ s.boot.imgSvn < svn.toNat) →
    ∃ t, exec (.sysSetSvn h svn 0) s = .next t ∧ Safety.Answered h 0x0106 0x0102 [] s t ∧ t = { s with host := t.host }) ∧
  (∀ (s : State) (h : MbHdr) (k : Byte), Safety.served s h 4 = true → k.toNat < 4 → k.toNat ≠ s.boot.imgKey →
    (2 ≤ s.fuse.keysLeft ∨ s.fuse.revoked.getLsbD k.toNat = true) →
    ∃ t, exec (.sysRevokeKey h k 0) s = .next t ∧ Safety.Answered h 0x0107 0 [] s t ∧
      t = { s with host := t.host, fuse := { s.fuse with revoked := s.fuse.revoked ||| BitVec.twoPow 4 k.toNat } }) ∧
  (∀ (s : State) (h : MbHdr), Safety.served s h 0 = true → s.fuse.debugFused = false →
    ∃ t nonce, exec (.sysDebugChallenge h) s = .next t ∧ Safety.Answered h 0x0108 0 nonce s t ∧ nonce.length = 32 ∧
      t = { s with host := t.host, free := t.free, boot := { s.boot with nonce := some nonce, nonceTick := s.time.ticks } }) ∧
  (∀ (s : State) (h : MbHdr) (scope : Byte) (pub r g : List Byte), Safety.served s h 200 = true → (scope = 1 ∨ scope = 2) →
    s.fuse.debugFused = false → s.unlockOk scope pub r g = true →
    ∃ t, exec (.sysDebugUnlock h scope 0 pub 0 r g) s = .next t ∧ Safety.AnsweredWith h 0x0109 0 [] s t ∧
      t = { s with host := t.host, log := t.log, boot := { s.boot with nonce := none, debugScope := scope.toNat } })

/-- Recovery loads and boots an image, SYS_RESET restarts the firmware or the chip after its answer. In RECOVERY,
SYS_RECOVERY_LOAD with an accepted offset and length puts exactly its DATA at its offset of the loaded image, and
SYS_RECOVERY_BOOT of an image that verifies answers OK and starts it at DRAM_TRAIN with the image's version, SVN and key. At READY
with no page admitted, SYS_RESET MODE 1 answers OK, leaves the firmware restarting, and every command already under way then waits
for the restart; MODE 2 performs the reset of RESET_N. (spec/12 R348; spec/12 R352; spec/12 Table 12-14; spec/01 R18) -/
def Obligations.RecoveryAndReset : Prop :=
(∀ (s : State) (h : MbHdr) (offset bytes : BitVec 32) (data : List Byte), Safety.rings s h = true →
    Safety.header h (16 + bytes.toNat) = true → s.boot.stage = .recovery → data.length = bytes.toNat → offset.toNat % 16 = 0 →
    offset.toNat + bytes.toNat ≤ 4194304 → 16 ≤ bytes.toNat → bytes.toNat ≤ 2016 → bytes.toNat % 16 = 0 →
    ∃ t, exec (.sysRecoveryLoad h offset bytes 0 data) s = .next t ∧ Safety.Answered h 0x010A 0 [] s t ∧
      t = { s with host := t.host, boot := t.boot } ∧ t.boot = { s.boot with recImage := t.boot.recImage } ∧
      ∀ i, t.recByte i =
        if offset.toNat ≤ i ∧ i < offset.toNat + bytes.toNat then data.getD (i - offset.toNat) 0 else s.recByte i) ∧
  (∀ (s : State) (h : MbHdr), Safety.rings s h = true → Safety.header h 0 = true → s.boot.stage = .recovery →
    s.imageCode s.recByte = 0 →
    ∃ t, exec (.sysRecoveryBoot h) s = .next t ∧ Safety.Answered h 0x010B 0 [] s t ∧ t = { s with host := t.host, boot := t.boot } ∧
      t.boot = { s.boot with
        stage := .dramTrain, bootSlot := 2, fwVersion := (imageInfo s.recByte).fwVersion, imgSvn := (imageInfo s.recByte).svn,
        imgKey := (imageInfo s.recByte).key, board := (imageInfo s.recByte).board }) ∧
  (∀ (s : State) (h : MbHdr), Safety.served s h 4 = true → s.bat.pages = [] →
    ∃ t, exec (.sysReset h 1 0) s = .next t ∧ t.boot = { s.boot with stage := .restarting } ∧
      t = { s with host := t.host, boot := t.boot } ∧
      SMap.get {} t.host.resp h.slot.toNat = ⟨0x0102, h.tag, h.gen, 0, s.time.clock.ns, []⟩ ∧
      t.host.done = s.host.done ||| slotBit h.slot ∧
      t.host.inflight = s.host.inflight.map fun i => { i with wait := .restart, payload := [] }) ∧
  (∀ (s : State) (h : MbHdr), Safety.served s h 4 = true → s.bat.pages = [] →
    ∃ t, exec (.sysReset h 2 0) s = .next t ∧ t.boot.stage = (if s.boot.bootMode = 2 then Stage.recovery else Stage.rom) ∧ t.host.resp = [] ∧ t.bat.pages = [] ∧ t.port = [] ∧
      t.fire.permit = false ∧ t.fuse = s.fuse ∧ t.boot.flash = s.boot.flash)

/-- BAR_SET_WEB and BAR_SET_PORT stage settings, BAR_SET_POLICY sets policy and fraction. Served on the chip that supervises,
BAR_SET_WEB and BAR_SET_PORT whose fields are in range answer OK and change exactly the staged web settings, or the staged
settings of the one port; BAR_SET_POLICY with a policy of 0 to 2 and a fraction of at least 0x8000 sets both, journals the
fraction, and touches no more than the speed check. The twin unit changes only by the CONFIG frame of a pair in UP. A field out of
range answers its status and changes nothing. On the chip that does not supervise each answers TWIN_NOT_SUPERVISOR, 0x0C02, and
changes nothing. (spec/02 R53, R69, R71; spec/02 Table 02-5; spec/02 Table 02-6; spec/09 R275) -/
def Obligations.BarSettingsStage : Prop :=
(∀ (s : State) (h : MbHdr) (p : BarWebReq), Safety.served s h 32 = true → s.notSupervisor = false → p.altPhase.toNat ≤ 1 →
    p.estEdges ≠ 0 → p.segWidth ≠ 0 → barWebBad p = none →
    ∃ t, exec (.barSetWeb h p) s = .next t ∧ Safety.Answered h 0x0201 0 [] s t ∧
      t = { s with host := t.host, twin := t.twin,
                   geo := { s.geo with staged := { s.geo.staged with web := some (webOfReq p) } } } ∧
      (s.pairUp = false → t.twin = s.twin)) ∧
  (∀ (s : State) (h : MbHdr) (p : BarPortReq), Safety.served s h 16 = true → s.notSupervisor = false → p.flags.toNat ≤ 7 →
    p.nozzles ≠ 0 → barPortBad p = none →
    ∃ t, exec (.barSetPort h p) s = .next t ∧ Safety.Answered h 0x0202 0 [] s t ∧
      t = { s with host := t.host, twin := t.twin,
                   geo := { s.geo with staged := { s.geo.staged with
                     port := s.geo.staged.port.set {} p.port.toNat (portOfReq p) } } } ∧
      (s.pairUp = false → t.twin = s.twin)) ∧
  (∀ (s : State) (h : MbHdr) (policy : Byte) (fraction : BitVec 16), Safety.served s h 4 = true → s.notSupervisor = false →
    policy.toNat ≤ 2 → 0x8000 ≤ fraction.toNat →
    ∃ t, exec (.barSetPolicy h policy 0 fraction) s = .next t ∧ Safety.AnsweredWith h 0x0204 0 [] s t ∧
      t = { s with host := t.host, twin := t.twin, bat := t.bat,
                   geo := { s.geo with policy := policy.toNat, fraction := fraction.toNat },
                   nvm := { s.nvm with id := { s.nvm.id with policyFraction := fraction.toNat } } } ∧
      t.bat = { s.bat with speedLimit := t.bat.speedLimit } ∧ (s.pairUp = false → t.twin = s.twin)) ∧
  (∀ (s : State) (h : MbHdr) (p : BarWebReq) (c : Nat), Safety.served s h 32 = true → p.altPhase.toNat ≤ 1 → p.estEdges ≠ 0 →
    p.segWidth ≠ 0 → barWebBad p = some c →
    ∃ t, exec (.barSetWeb h p) s = .next t ∧ Safety.Answered h 0x0201 c [] s t ∧ t = { s with host := t.host }) ∧
  (∀ (s : State) (h : MbHdr) (p : BarPortReq), Safety.served s h 16 = true → s.notSupervisor = true → p.flags.toNat ≤ 7 →
    p.nozzles ≠ 0 → barPortBad p = none →
    ∃ t, exec (.barSetPort h p) s = .next t ∧ Safety.Answered h 0x0202 0x0C02 [] s t ∧ t = { s with host := t.host })

/-- BAR_COMMIT makes the staged geometry current, and the BAR reports give it. Served on the chip that supervises, with every
check passed on the state whose slot has started, BAR_COMMIT makes the staged geometry the committed one and journals it; it
answers OK with the derived figures at once, or, when the layout of the nozzles changes, once a compaction has been done. With a
page admitted it answers 0x0201 with DETAIL 0xFFFFFFFF and changes nothing. BAR_GET answers the committed web settings and derived
figures, BAR_GET_PORT the committed settings of the port, and without a committed geometry both answer 0x020C; neither changes
anything. (spec/02 R69, R70, R71; spec/02 R405; spec/02 Table 02-7) -/
def Obligations.BarCommitMakesCurrent : Prop :=
(∀ (s : State) (h : MbHdr) (w : Web) (u : State), Safety.served s h 0 = true → s.notSupervisor = false →
    barCommitCheck (s.mbStart h) = .inr (w, u) →
    ∃ t, exec (.barCommit h) s = .next t ∧ t.geo.committed = some s.geo.staged ∧ t.nvm.id.geo = some s.geo.staged ∧
      if layoutChanges s.geo.committed s.geo.staged then
        Safety.Waits h 0x0203 .commit (s.geo.staged.commitBytes w) s t
      else Safety.AnsweredWith h 0x0203 0 (s.geo.staged.commitBytes w) s t) ∧
  (∀ (s : State) (h : MbHdr), Safety.served s h 0 = true → s.notSupervisor = false → s.bat.pages ≠ [] →
    ∃ t, exec (.barCommit h) s = .next t ∧ Safety.Answered h 0x0203 0x0201 (zeros 20 ++ [0xFF, 0xFF, 0xFF, 0xFF]) s t ∧
      t = { s with host := t.host }) ∧
  (∀ (s : State) (h : MbHdr) (g : Geo) (w : Web), Safety.served s h 0 = true → s.geo.committed = some g → g.web = some w →
    ∃ t, exec (.barGet h) s = .next t ∧ Safety.Answered h 0x0205 0 (w.bytes ++ g.commitBytes w) s t ∧ t = { s with host := t.host }) ∧
  (∀ (s : State) (h : MbHdr) (g : Geo) (port : Byte), Safety.served s h 4 = true → s.geo.committed = some g → port.toNat < 48 →
    ∃ t, exec (.barGetPort h port 0) s = .next t ∧
      Safety.Answered h 0x0206 0 ((g.port.get {} port.toNat).bytes port.toNat) s t ∧ t = { s with host := t.host }) ∧
  (∀ (s : State) (h : MbHdr), Safety.served s h 0 = true → s.geo.committed = none →
    ∃ t, exec (.barGet h) s = .next t ∧ Safety.Answered h 0x0205 0x020C [] s t ∧ t = { s with host := t.host })

/-- HEAD_SET_DRIVE and HEAD_SET_CHAR journal their settings, HEAD_SET_THERMAL puts its thresholds into force. On the chip that
supervises, HEAD_SET_DRIVE with values in range and no page admitted journals the drive settings of exactly the named ports, which
come into force with the records' commits, not before; HEAD_SET_THERMAL with thresholds that satisfy R104 gives exactly the named
ports the thresholds; HEAD_SET_CHAR stages a first half, and a second half that makes a non-decreasing table with the staged one
journals the table with the serial number of the port's head and clears the stage, the table in force as before. With a page
admitted HEAD_SET_DRIVE answers 0x0302 and changes nothing. (spec/03 R78, R81, R104; spec/03 Table 03-9; spec/03 Table 03-11;
spec/09 R275) -/
def Obligations.HeadSettingsApply : Prop :=
(∀ (s : State) (h : MbHdr) (port : Byte) (m g w : BitVec 16), Safety.served s h 8 = true → s.notSupervisor = false →
    s.badPortAll port = false → 200 ≤ m.toNat ∧ m.toNat ≤ 5000 → 20 ≤ g.toNat ∧ g.toNat ≤ 1000 → 1 ≤ w.toNat ∧ w.toNat ≤ 1000 →
    s.bat.pages = [] →
    ∃ t, exec (.headSetDrive h port 0 m g w) s = .next t ∧ Safety.Answered h 0x0302 0 [] s t ∧
      t = { s with host := t.host, twin := t.twin, nvm := t.nvm, loop := { s.loop with ring := t.loop.ring } } ∧
      t.nvm = { s.nvm with waiting := s.nvm.waiting ++ (s.portsOf port).map fun p => .drive p ⟨m, g, w⟩ }) ∧
  (∀ (s : State) (h : MbHdr) (port : Byte) (m g w : BitVec 16), Safety.served s h 8 = true → s.notSupervisor = false →
    s.badPortAll port = false → 200 ≤ m.toNat ∧ m.toNat ≤ 5000 → 20 ≤ g.toNat ∧ g.toNat ≤ 1000 → 1 ≤ w.toNat ∧ w.toNat ≤ 1000 →
    s.bat.pages ≠ [] →
    ∃ t, exec (.headSetDrive h port 0 m g w) s = .next t ∧ Safety.Answered h 0x0302 0x0302 [] s t ∧ t = { s with host := t.host }) ∧
  (∀ (s : State) (h : MbHdr) (r : HeadThermalReq), Safety.served s h 12 = true → s.notSupervisor = false → r.rsv = 0 →
    s.badPortAll r.port = false → (thermalOfReq r).good = true →
    ∃ t, exec (.headSetThermal h r) s = .next t ∧ Safety.Answered h 0x0304 0 [] s t ∧
      t = { s with host := t.host, twin := t.twin, cal := t.cal, nvm := t.nvm, port := t.port } ∧
      (∀ p, t.cal.data.thermal.get {} p = if p ∈ s.portsOf r.port then thermalOfReq r else s.cal.data.thermal.get {} p) ∧
      t.cal = { s.cal with data := { s.cal.data with thermal := t.cal.data.thermal } }) ∧
  (∀ (s : State) (h : MbHdr) (port : Byte) (e : List (BitVec 16)), Safety.served s h 260 = true → s.notSupervisor = false →
    s.badPort port = false → s.bat.pages = [] →
    ∃ t, exec (.headSetChar h port 0 0 e) s = .next t ∧ Safety.Answered h 0x0303 0 [] s t ∧
      t = { s with host := t.host, twin := t.twin,
                   cal := { s.cal with charStaged := s.cal.charStaged.set none port.toNat (some (e.map (·.toNat))) } }) ∧
  (∀ (s : State) (h : MbHdr) (port : Byte) (e : List (BitVec 16)) (l : List Nat), Safety.served s h 260 = true →
    s.notSupervisor = false → s.badPort port = false → s.bat.pages = [] → s.cal.charStaged.get none port.toNat = some l →
    nonDecreasing (l ++ e.map (·.toNat)) = true →
    ∃ t, exec (.headSetChar h port 1 0 e) s = .next t ∧ Safety.Answered h 0x0303 0 [] s t ∧
      t = { s with host := t.host, twin := t.twin, cal := t.cal, nvm := t.nvm, loop := { s.loop with ring := t.loop.ring } } ∧
      t.cal = { s.cal with charStaged := t.cal.charStaged } ∧ t.cal.charStaged.get none port.toNat = none ∧
      (∀ p, p ≠ port.toNat → t.cal.charStaged.get none p = s.cal.charStaged.get none p) ∧
      ∃ x, t.nvm = { s.nvm with waiting := s.nvm.waiting ++ [.char port.toNat { serial := x, table := some (l ++ e.map (·.toNat)) }] } ∧
        ∀ v, (s.portN port.toNat).headSerial = some v → x = some v)

/-- HEAD_RESUME, HEAD_SET_NOZZLE and HEAD_MEASURE act on their port, the HEAD reports answer. On the chip that supervises,
HEAD_RESUME of a cut head in UP below T_WARN ends the withholding; HEAD_SET_NOZZLE with an action its entry allows journals the
entry; HEAD_MEASURE of a port in UP makes each of its nozzles due. HEAD_GET_INFO answers the port's report and HEAD_GET_NOZZLE the
entries asked for; neither changes anything. HEAD_GET_INFO of a port that is not enabled answers 0x0301. (spec/03 R84, R96, R98,
R107, R111; spec/03 Table 03-8; spec/03 Table 03-12; spec/04 R406) -/
def Obligations.HeadActionsAndReports : Prop :=
(∀ (s : State) (h : MbHdr) (port : Byte) (x : Int), Safety.served s h 4 = true → s.notSupervisor = false →
    s.badPort port = false → (s.portN port.toNat).st = .up → (s.portN port.toNat).withheld = .cut →
    (s.portN port.toNat).report = some x → x < (s.cal.data.thermal.get {} port.toNat).tWarn →
    ∃ t, exec (.headResume h port 0) s = .next t ∧ Safety.AnsweredWith h 0x0305 0 [] s t ∧
      t = { s with host := t.host, twin := t.twin, port := t.port, fire := t.fire, log := t.log } ∧
      (t.portN port.toNat).withheld = .none ∧ ∀ p, p ≠ port.toNat → t.portN p = s.portN p) ∧
  (∀ (s : State) (h : MbHdr) (port action : Byte) (nozzle : BitVec 16) (value : BitVec 32) (n : NozCal),
    Safety.served s h 8 = true → s.notSupervisor = false → s.badPort port = false → 1 ≤ action.toNat ∧ action.toNat ≤ 4 →
    nozzle.toNat < s.nozCount port.toNat → nozValueBad action.toNat value.toNat = false →
    nozAction action.toNat value.toNat (s.nozAhead port.toNat nozzle.toNat) = some n →
    ∃ t, exec (.headSetNozzle h port action nozzle value) s = .next t ∧ Safety.Answered h 0x0307 0 [] s t ∧
      t = { s with host := t.host, twin := t.twin, cal := t.cal, nvm := t.nvm } ∧ t.cal.data = s.cal.data ∧
      t.nvm = { s.nvm with waiting := s.nvm.waiting ++ [.nozzle [(port.toNat, nozzle.toNat, n)]] }) ∧
  (∀ (s : State) (h : MbHdr) (port : Byte), Safety.served s h 4 = true → s.notSupervisor = false → s.badPort port = false →
    port ≠ 0xFF → (s.portN port.toNat).st = .up →
    ∃ t, exec (.headMeasure h port 0) s = .next t ∧ Safety.Answered h 0x0308 0 [] s t ∧
      t = { s with host := t.host, twin := t.twin, cal := t.cal } ∧
      (∀ i, i < s.nozCount port.toNat → (t.cal.volN port.toNat i).due = true) ∧
      ∀ p, p ≠ port.toNat → SMap.get [] t.cal.vol p = SMap.get [] s.cal.vol p) ∧
  (∀ (s : State) (h : MbHdr) (port : Byte), Safety.served s h 4 = true → s.badPort port = false →
    ∃ t, exec (.headGetInfo h port 0) s = .next t ∧ Safety.Answered h 0x0301 0 (s.headInfo port.toNat) s t ∧
      t = { s with host := t.host }) ∧
  (∀ (s : State) (h : MbHdr) (port : Byte), Safety.served s h 4 = true → s.badPort port = true →
    ∃ t, exec (.headGetInfo h port 0) s = .next t ∧ Safety.Answered h 0x0301 0x0301 [] s t ∧ t = { s with host := t.host }) ∧
  (∀ (s : State) (h : MbHdr) (port : Byte) (first count : BitVec 16), Safety.served s h 8 = true → s.badPort port = false →
    1 ≤ count.toNat ∧ count.toNat ≤ 64 → first.toNat + count.toNat ≤ s.nozCount port.toNat →
    ∃ t, exec (.headGetNozzle h port 0 first count 0) s = .next t ∧
      Safety.Answered h 0x0306 0 ((List.range count.toNat).flatMap fun k => s.nozEntry port.toNat (first.toNat + k)) s t ∧
      t = { s with host := t.host })

/-- FIRE_SET_LEVELS, FIRE_SET_COMP, FIRE_SET_WARM and FIRE_SET_MEASURE set what they name, FIRE_GET_HIDING reports. On the chip
that supervises, FIRE_SET_LEVELS with targets that satisfy R76 and no page admitted journals the three targets, which come into
force with the record's commit, and restarts the loop's windows; FIRE_SET_COMP with rules 0 to 2 and a reach of 1 to 4 sets the
rules and the reach while no pair is in UP; FIRE_SET_WARM and FIRE_SET_MEASURE in range set exactly their settings.
FIRE_GET_HIDING answers its report and changes nothing. (spec/03 R76, R81, R91, R92, R95, R96; spec/03 Table 03-14; spec/09 R275)
-/
def Obligations.FireSettingsApply : Prop :=
(∀ (s : State) (h : MbHdr) (a b c : BitVec 16), Safety.served s h 8 = true → s.notSupervisor = false →
    0x2000 ≤ a.toNat → a.toNat < b.toNat → b.toNat < c.toNat → c.toNat ≤ 0x6000 → s.bat.pages = [] →
    ∃ t, exec (.fireSetLevels h a b c 0) s = .next t ∧ Safety.Answered h 0x0401 0 [] s t ∧
      t = { s with host := t.host, twin := t.twin, nvm := t.nvm, loop := { s.loop with ring := [] } } ∧
      t.nvm = { s.nvm with waiting := s.nvm.waiting ++ [.levels a.toNat b.toNat c.toNat] }) ∧
  (∀ (s : State) (h : MbHdr) (a b c r : Byte), Safety.served s h 4 = true → s.notSupervisor = false → s.pairUp = false →
    a.toNat ≤ 15 → b.toNat ≤ 15 → c.toNat ≤ 15 → a &&& 3 ≠ 3 → b &&& 3 ≠ 3 → c &&& 3 ≠ 3 → 1 ≤ r.toNat → r.toNat ≤ 4 →
    ∃ t, exec (.fireSetComp h a b c r) s = .next t ∧ Safety.Answered h 0x0402 0 [] s t ∧
      t = { s with host := t.host, fire := { s.fire with ruleS := a, ruleM := b, ruleL := c, reach := r.toNat } }) ∧
  (∀ (s : State) (h : MbHdr) (code : Byte) (gain : BitVec 16) (rate : BitVec 32), Safety.served s h 8 = true →
    s.notSupervisor = false → 1 ≤ code.toNat ∧ code.toNat ≤ 80 → 1 ≤ gain.toNat ∧ gain.toNat ≤ 30000 →
    1 ≤ rate.toNat ∧ rate.toNat ≤ 30000 →
    ∃ t, exec (.fireSetWarm h code 0 gain rate) s = .next t ∧ Safety.Answered h 0x0403 0 [] s t ∧
      t = { s with host := t.host, twin := t.twin,
                   fire := { s.fire with warmCode := code.toNat, warmGain := gain.toNat, warmRateMax := rate.toNat } }) ∧
  (∀ (s : State) (h : MbHdr) (n : BitVec 32), Safety.served s h 4 = true → s.notSupervisor = false →
    60 ≤ n.toNat ∧ n.toNat ≤ 86400 →
    ∃ t, exec (.fireSetMeasure h n) s = .next t ∧ Safety.Answered h 0x0404 0 [] s t ∧
      t = { s with host := t.host, twin := t.twin, fire := { s.fire with measPeriodS := n.toNat } }) ∧
  (∀ (s : State) (h : MbHdr), Safety.served s h 0 = true →
    ∃ t, exec (.fireGetHiding h) s = .next t ∧ Safety.Answered h 0x0408 0 s.hidingBytes s t ∧ t = { s with host := t.host })

/-- FIRE_ARM, FIRE_DISARM and the interlock inputs raise and drop FIRE_PERMIT. FIRE_ARM in RUN with no enabled input active and
the control cores not held raises FIRE_PERMIT and changes nothing else; otherwise it answers 0x0404 and changes nothing.
FIRE_DISARM leaves FIRE_PERMIT low, with cause 2 where it was high, and changes nothing where it was low. An interlock input that
goes active while enabled is latched and leaves FIRE_PERMIT low with cause 1 where it was high; while not enabled it changes only
the input's own bits. An input that goes inactive changes only its own bits, LATCHED stays. A level held for less than the input's
debounce time changes nothing but the pin. FIRE_SET_ILK in range sets enable, polarity and debounce times, and leaves FIRE_PERMIT
low where it enables an active input. (spec/03 R99, R100, R101, R102; spec/03 Table 03-5; spec/08 R253) -/
def Obligations.FirePermitAndInterlocks : Prop :=
(∀ (s : State) (h : MbHdr), Safety.served s h 0 = true → s.ilkActive = 0 → s.boot.coresHeld = false → s.pwr.st = .run →
    ∃ t, exec (.fireArm h) s = .next t ∧ Safety.Answered h 0x0406 0 [] s t ∧
      t = { s with host := t.host, fire := { s.fire with permit := true } }) ∧
  (∀ (s : State) (h : MbHdr), Safety.served s h 0 = true → (s.ilkActive ≠ 0 ∨ s.boot.coresHeld = true ∨ s.pwr.st ≠ .run) →
    ∃ t, exec (.fireArm h) s = .next t ∧ Safety.Answered h 0x0406 0x0404 [] s t ∧ t = { s with host := t.host }) ∧
  (∀ (s : State) (h : MbHdr), Safety.served s h 0 = true →
    ∃ t, exec (.fireDisarm h) s = .next t ∧ Safety.AnsweredWith h 0x0407 0 [] s t ∧ t.fire.permit = false ∧
      (s.fire.permit = true → t.fire.dropCause = 2) ∧ (s.fire.permit = false → t = { s with host := t.host })) ∧
  (∀ (s : State) (i us : Nat), s.alive = true → i < 8 → s.fire.debounce.get 50 i ≤ us → s.fire.ilkDeb.getLsbD i = false →
    s.fire.ilkEnable.getLsbD i = true →
    ∃ t, exec (.ilkInputActive ⟨i, us⟩) s = .next t ∧ t.fire.permit = false ∧ t.fire.ilkLatched = s.fire.ilkLatched ||| BitVec.twoPow 8 i ∧
      t.fire.ilkDeb = s.fire.ilkDeb ||| BitVec.twoPow 8 i ∧ (s.fire.permit = true → t.fire.dropCause = 1)) ∧
  (∀ (s : State) (i us : Nat), s.alive = true → i < 8 → s.fire.debounce.get 50 i ≤ us → s.fire.ilkDeb.getLsbD i = false →
    s.fire.ilkEnable.getLsbD i = false →
    ∃ t, exec (.ilkInputActive ⟨i, us⟩) s = .next t ∧ Safety.Quiet s t ∧ t = { s with host := t.host, fire := t.fire } ∧
      t.fire = { s.fire with ilkPins := t.fire.ilkPins, ilkDeb := s.fire.ilkDeb ||| BitVec.twoPow 8 i }) ∧
  (∀ (s : State) (i us : Nat), s.alive = true → i < 8 → s.fire.debounce.get 50 i ≤ us →
    ∃ t, exec (.ilkInputInactive ⟨i, us⟩) s = .next t ∧ Safety.Quiet s t ∧ t = { s with host := t.host, fire := t.fire } ∧
      t.fire = { s.fire with ilkPins := t.fire.ilkPins, ilkDeb := s.fire.ilkDeb &&& ~~~(BitVec.twoPow 8 i) }) ∧
  (∀ (s : State) (i us : Nat), s.alive = true → i < 8 → us < s.fire.debounce.get 50 i →
    ∃ t u, exec (.ilkInputActive ⟨i, us⟩) s = .next t ∧ exec (.ilkInputInactive ⟨i, us⟩) s = .next u ∧
      t = { s with fire := { s.fire with ilkPins := t.fire.ilkPins } } ∧
      u = { s with fire := { s.fire with ilkPins := u.fire.ilkPins } } ∧
      t.ilkRaw.getLsbD i = true ∧ u.ilkRaw.getLsbD i = false) ∧
  (∀ (s : State) (h : MbHdr) (enable polarity : Byte) (deb : List (BitVec 16)), Safety.served s h 20 = true →
    s.notSupervisor = false → (∀ d ∈ deb, 1 ≤ d.toNat ∧ d.toNat ≤ 10000) → deb.length = 8 →
    ∃ t, exec (.fireSetIlk h enable polarity 0 deb) s = .next t ∧ Safety.AnsweredWith h 0x0405 0 [] s t ∧
      t.fire.ilkEnable = enable ∧ t.fire.ilkPolarity = polarity ∧
      (∀ i, i < 8 → SMap.get 50 t.fire.debounce i = (deb.getD i 0).toNat) ∧
      (s.fire.ilkDeb &&& enable &&& ~~~s.fire.ilkEnable ≠ 0 → t.fire.permit = false) ∧
      (s.fire.ilkDeb &&& enable &&& ~~~s.fire.ilkEnable = 0 → t.fire.permit = s.fire.permit))

/-- PAGE_ADMIT queues the page in the order of its top, PAGE_ABORT ends it. With a committed geometry, fields in range, the Batten
queue not gated and every check of R52 passed, PAGE_ADMIT puts the page into the queue in ascending order of top and clears the
old report of its handle; on a chip alone or in SOLO it answers OK with the admission's figures at once, on a pair once the
partner has acknowledged. The checks look at the state after the speed check of R50; a failing check answers its status and
changes nothing but its slot. PAGE_ABORT of a queued handle on the LEAD answers OK and the handle is no longer queued. (spec/02
R52, R54, R67, R72; spec/02 Table 02-8; spec/02 Table 02-9; spec/09 R272) -/
def Obligations.PageCommandsQueue : Prop :=
(∀ (s : State) (h : MbHdr) (p : PageAdmitReq) (g : Geo) (w : Web), Safety.served s h 24 = true → s.geo.committed = some g →
    g.web = some w → p.flags.toNat ≤ 1 → p.rsv = 0 → p.lines ≠ 0 → s.batGated = false → s.stepAccepted 1 = false →
    pageParamBad p = none → admitBad g w p s.speedCheck = none →
    ∃ t, exec (.pageAdmit h p) s = .next t ∧
      t.bat.pages = insertPage (pageOfReq p (s.startParity w p.top.toInt) s.geo.policy) s.bat.pages ∧
      t.bat.reports.get none p.handle.toNat = none ∧ t.bat.lines = s.bat.lines ∧ t.geo = s.geo ∧ t.slate = s.slate ∧
      t.port = s.port ∧
      if s.boot.twinEn && !s.twin.solo then Safety.Waits h 0x0501 .admission (s.admitBytes g w p (s.startParity w p.top.toInt)) s t
      else Safety.AnsweredWith h 0x0501 0 (s.admitBytes g w p (s.startParity w p.top.toInt)) s t) ∧
  (∀ (s : State) (h : MbHdr) (p : PageAdmitReq) (g : Geo) (w : Web) (c : Nat), Safety.served s h 24 = true →
    s.geo.committed = some g → g.web = some w → p.flags.toNat ≤ 1 → p.rsv = 0 → p.lines ≠ 0 → s.batGated = false →
    s.stepAccepted 1 = false → pageParamBad p = none → admitBad g w p s.speedCheck = some c →
    ∃ t, exec (.pageAdmit h p) s = .next t ∧ Safety.Answered h 0x0501 c [] s t ∧
      t = { s with host := t.host }) ∧
  (∀ (s : State) (h : MbHdr) (handle : Byte) (p : Page), Safety.served s h 4 = true → s.isLead = true →
    s.page? handle.toNat = some p →
    ∃ t, exec (.pageAbort h handle 0 0) s = .next t ∧ Safety.AnsweredWith h 0x0502 0 [] s t ∧ t.page? handle.toNat = none)

/-- PAGE_QUERY, PAGE_REPORT and PAGE_GET_WEB answer and change nothing. PAGE_QUERY answers the state, first unfired line and marks
of a handle (all zero for an unknown one); PAGE_REPORT of a completed page answers its report and of a handle without one answers
0x0511; PAGE_GET_WEB answers the estimator's snapshot. None of them changes anything but its slot. (spec/02 R67, R73; spec/02
Table 02-10; spec/02 Table 02-11; spec/02 Table 02-12) -/
def Obligations.PageReportsAnswer : Prop :=
(∀ (s : State) (h : MbHdr) (handle : Byte), Safety.served s h 4 = true →
    ∃ t, exec (.pageQuery h handle 0) s = .next t ∧ Safety.Answered h 0x0503 0 (s.queryBytes handle.toNat) s t ∧
      t = { s with host := t.host }) ∧
  (∀ (s : State) (h : MbHdr) (handle : Byte) (r : Report), Safety.served s h 4 = true →
    s.bat.reports.get none handle.toNat = some r → r.awaitTwin = false →
    ∃ t, exec (.pageReport h handle 0) s = .next t ∧ Safety.Answered h 0x0504 0 r.bytes s t ∧ t = { s with host := t.host }) ∧
  (∀ (s : State) (h : MbHdr) (handle : Byte), Safety.served s h 4 = true → s.bat.reports.get none handle.toNat = none →
    ∃ t, exec (.pageReport h handle 0) s = .next t ∧ Safety.Answered h 0x0504 0x0511 [] s t ∧ t = { s with host := t.host }) ∧
  (∀ (s : State) (h : MbHdr), Safety.served s h 0 = true →
    ∃ t, exec (.pageGetWeb h) s = .next t ∧ Safety.Answered h 0x0505 0 s.webBytes s t ∧ t = { s with host := t.host })

/-- SLATE_OPEN, SLATE_BIND and SLATE_FREE open an entry, bind a stream and free the entry. On the LEAD, SLATE_OPEN with fields in
range opens the lowest free entry with its segments and lines and answers its number and the free chunks; SLATE_BIND whose checks
of R181 pass makes the stream RECEIVING on its channel and queues the bind behind the channel's earlier ones; SLATE_FREE of an
entry that is not in use leaves no such entry. SLATE_BIND that fails answers its first failing check and changes nothing. (spec/05
R171, R173, R174, R175, R181; spec/05 Table 05-8; spec/05 Table 05-9) -/
def Obligations.SlateEntriesRun : Prop :=
(∀ (s : State) (h : MbHdr) (seg flags : Byte) (lines : BitVec 32) (e : Nat), Safety.served s h 8 = true → flags.toNat ≤ 1 →
    1 ≤ seg.toNat ∧ seg.toNat ≤ 48 → 1 ≤ lines.toNat ∧ lines.toNat ≤ 1048576 → s.isLead = true → s.freeEntryNo = some e →
    ∃ t, exec (.slateOpen h seg flags 0 lines) s = .next t ∧
      Safety.Answered h 0x0601 0 (le 2 e ++ zeros 2 ++ le 4 s.freeChunks) s t ∧
      t = { s with host := t.host, slate := { s.slate with
        entries := s.slate.entries.set none e
          (some { segments := seg.toNat, lines := lines.toNat, autoFree := flags.getLsbD 0 }) } }) ∧
  (∀ (s : State) (h : MbHdr) (e : BitVec 16) (seg ch : Byte) (n : BitVec 32), Safety.served s h 8 = true → n ≠ 0 →
    bindBad e.toNat seg ch n.toNat s = none →
    ∃ t en, exec (.slateBind h e seg ch n) s = .next t ∧ Safety.Answered h 0x0602 0 [] s t ∧
      t = { s with host := t.host, slate := t.slate } ∧ t.entry? e.toNat = some en ∧
      (en.stream.get {} seg.toNat).st = .receiving ∧ (en.stream.get {} seg.toNat).channel = ch.toNat ∧
      (en.stream.get {} seg.toNat).declared = n.toNat ∧
      SMap.get [] t.slate.binds ch.toNat =
        SMap.get [] s.slate.binds ch.toNat ++ [{ entry := e.toNat, seg := seg.toNat, bytesLeft := n.toNat }]) ∧
  (∀ (s : State) (h : MbHdr) (e : BitVec 16) (seg ch : Byte) (n : BitVec 32) (c : Nat), Safety.served s h 8 = true → n ≠ 0 →
    bindBad e.toNat seg ch n.toNat s = some c →
    ∃ t, exec (.slateBind h e seg ch n) s = .next t ∧ Safety.Answered h 0x0602 c [] s t ∧ t = { s with host := t.host }) ∧
  (∀ (s : State) (h : MbHdr) (e : BitVec 16), Safety.served s h 4 = true → s.isLead = true → (s.entry? e.toNat).isSome = true →
    s.entryInUse e.toNat = false →
    ∃ t, exec (.slateFree h e 0) s = .next t ∧ Safety.Answered h 0x0605 0 [] s t ∧
      t = { s with host := t.host, slate := t.slate, twin := t.twin } ∧ t.entry? e.toNat = none)

/-- SLATE_STATUS, SLATE_STREAM_STATUS, SLATE_STORE_INFO and SLATE_GET_COUNTERS answer and change nothing. Each of the four reports
of the page store answers its layout from the state and changes nothing but its slot; SLATE_STREAM_STATUS of a segment the entry
does not have answers 0x0603. (spec/05 Table 05-10; spec/05 Table 05-11; spec/05 Table 05-14; spec/05 Table 05-15) -/
def Obligations.SlateReportsAnswer : Prop :=
(∀ (s : State) (h : MbHdr) (e : BitVec 16), Safety.served s h 4 = true → e.toNat ≤ 1023 →
    ∃ t, exec (.slateStatus h e 0) s = .next t ∧ Safety.Answered h 0x0603 0 (s.entryBytes e.toNat) s t ∧
      t = { s with host := t.host }) ∧
  (∀ (s : State) (h : MbHdr) (e : BitVec 16) (seg : Byte) (en : Entry), Safety.served s h 4 = true → s.entry? e.toNat = some en →
    seg.toNat < en.segments →
    ∃ t, exec (.slateStreamStatus h e seg 0) s = .next t ∧ Safety.Answered h 0x0604 0 (en.stream.get {} seg.toNat).bytes s t ∧
      t = { s with host := t.host }) ∧
  (∀ (s : State) (h : MbHdr) (e : BitVec 16) (seg : Byte) (en : Entry), Safety.served s h 4 = true → s.entry? e.toNat = some en →
    en.segments ≤ seg.toNat →
    ∃ t, exec (.slateStreamStatus h e seg 0) s = .next t ∧ Safety.Answered h 0x0604 0x0603 [] s t ∧ t = { s with host := t.host }) ∧
  (∀ (s : State) (h : MbHdr), Safety.served s h 0 = true →
    ∃ t, exec (.slateStoreInfo h) s = .next t ∧ Safety.Answered h 0x0606 0 s.storeInfo s t ∧ t = { s with host := t.host }) ∧
  (∀ (s : State) (h : MbHdr), Safety.served s h 0 = true →
    ∃ t, exec (.slateGetCounters h) s = .next t ∧ Safety.Answered h 0x060B 0 s.slate.counters s t ∧ t = { s with host := t.host })

/-- SLATE_ENC_OPEN, SLATE_ENC_CLOSE, SLATE_ENC_RESTORE and SLATE_STATE_READ run on an egress stream. With the inspection block not
gated, SLATE_ENC_OPEN of a closed stream on a configured egress channel opens it with its level, channel and intervals at its
start; SLATE_ENC_CLOSE of an open stream with no job of it in the encoder closes it and publishes its END; SLATE_ENC_RESTORE of a
record that fits the stream's source opens it where the record left off; SLATE_STATE_READ writes the state record at ADDR and
answers its length. SLATE_ENC_CLOSE of a stream that is not open answers 0x060A. (spec/05 R167, R176, R178, R179, R180; spec/05
Table 05-12; spec/05 Table 05-13) -/
def Obligations.SlateEncoderRuns : Prop :=
(∀ (s : State) (h : MbHdr) (p : EncOpenReq), Safety.served s h 12 = true → p.rsv = 0 → s.visGated = false →
    s.stepAccepted 5 = false → p.es.toNat ≤ 7 → p.level.toNat ≤ 7 → p.channel.toNat ≤ 31 →
    1 ≤ p.blockLines.toNat ∧ p.blockLines.toNat ≤ 4096 → p.keyInterval ≠ 0 → (s.esN p.es.toNat).isOpen = false →
    s.channelFor p.channel true = true →
    ∃ t, exec (.slateEncOpen h p) s = .next t ∧ Safety.Answered h 0x0607 0 [] s t ∧ t = { s with host := t.host, slate := t.slate } ∧
      t.esN p.es.toNat = { s.esN p.es.toNat with
        isOpen := true, closing := false, level := p.level.toNat, channel := p.channel.toNat, blockLines := p.blockLines.toNat,
        keyInterval := p.keyInterval.toNat, tag := p.streamTag, headerDone := false, codec := {}, nextFrame := 0 } ∧
      ∀ i, i ≠ p.es.toNat → t.esN i = s.esN i) ∧
  (∀ (s : State) (h : MbHdr) (es : Byte), Safety.served s h 4 = true → s.visGated = false → es.toNat ≤ 7 →
    (s.esN es.toNat).isOpen = true → s.encBusyOn es.toNat = false →
    ∃ t, exec (.slateEncClose h es 0) s = .next t ∧ Safety.Answered h 0x0608 0 [] s t ∧
      t = { s with host := t.host, slate := t.slate, dma := t.dma } ∧ (t.esN es.toNat).isOpen = false ∧
      (t.dmaN (s.esN es.toNat).channel).out = (s.dmaN (s.esN es.toNat).channel).out ++ endBlock (s.esN es.toNat).codec ∧
      (t.esN es.toNat).codec = { (s.esN es.toNat).codec with
        offset := (s.esN es.toNat).codec.offset + (endBlock (s.esN es.toNat).codec).length }) ∧
  (∀ (s : State) (h : MbHdr) (es : Byte), Safety.served s h 4 = true → s.visGated = false → es.toNat ≤ 7 →
    (s.esN es.toNat).isOpen = false →
    ∃ t, exec (.slateEncClose h es 0) s = .next t ∧ Safety.Answered h 0x0608 0x060A [] s t ∧ t = { s with host := t.host }) ∧
  (∀ (s : State) (h : MbHdr) (es ch : Byte) (addr : BitVec 64) (tag : BitVec 32) (d : CodecSt), Safety.served s h 16 = true →
    s.visGated = false → s.stepAccepted 5 = false → es.toNat ≤ 7 → ch.toNat ≤ 31 →
    s.addrOk addr.toNat (recordBytes (s.esWidth (s.esN es.toNat)) (s.esN es.toNat).srcDepth) = true →
    (s.esN es.toNat).isOpen = false → s.channelFor ch true = true → (s.esN es.toNat).srcSet = true →
    readRecord (s.dramRead addr.toNat (recordBytes (s.esWidth (s.esN es.toNat)) (s.esN es.toNat).srcDepth))
      (s.esN es.toNat).srcDepth (s.esWidth (s.esN es.toNat)) = some (1, tag, d) →
    ∃ t, exec (.slateEncRestore h es ch 0 addr) s = .next t ∧ Safety.Answered h 0x060A 0 [] s t ∧
      t = { s with host := t.host, slate := t.slate } ∧ (t.esN es.toNat).isOpen = true ∧ (t.esN es.toNat).channel = ch.toNat ∧
      (t.esN es.toNat).tag = tag ∧ (t.esN es.toNat).codec = d ∧ ∀ i, i ≠ es.toNat → t.esN i = s.esN i) ∧
  (∀ (s : State) (h : MbHdr) (kind index : Byte) (addr : BitVec 64), Safety.served s h 16 = true →
    (kind = 0 ∧ index.toNat ≤ 47 ∧ s.pixGated = false ∨ kind = 1 ∧ index.toNat ≤ 7 ∧ s.visGated = false) →
    s.addrOk addr.toNat (s.stateRec kind.toNat index.toNat).length = true →
    ∃ t, exec (.slateStateRead h kind index 0 addr) s = .next t ∧
      Safety.Answered h 0x0609 0 (le 4 (s.stateRec kind.toNat index.toNat).length) s t ∧ t = { s with host := t.host, dram := t.dram } ∧
      t.dram = s.dram.writeAll addr.toNat (s.stateRec kind.toNat index.toNat))

/-- CAM_SET_LINK, CAM_SET_PLACE, CAM_SET_EXPOSURE and CAM_LOAD_FLAT set what they name for one camera port. For a camera port that
is not running, CAM_SET_LINK and CAM_SET_PLACE with fields in range set exactly that port's link and placement (the trigger line
not used by another port); on a running port CAM_SET_LINK answers 0x0702 and changes nothing. CAM_SET_EXPOSURE in range answers
the frame it applies from and the next epoch and holds the setting for that frame. CAM_LOAD_FLAT DIRECTION 0 holds the table at
ADDR for the next frame and journals it; DIRECTION 1 writes the port's table to ADDR. (spec/06 R191; spec/06 Table 06-11; spec/06
Table 06-12; spec/06 Table 06-13; spec/05 R180) -/
def Obligations.CameraSettingsApply : Prop :=
(∀ (s : State) (h : MbHdr) (p : CamLinkReq), Safety.served s h 12 = true → p.rsv = 0 → p.lanes ≠ 0 → p.channels ≠ 0 →
    p.pixels ≠ 0 → linkBad p = none → (s.camN p.port.toNat).runs = false →
    ∃ t, exec (.camSetLink h p) s = .next t ∧ Safety.Answered h 0x0701 0 [] s t ∧ t = { s with host := t.host, cam := t.cam } ∧
      t.camN p.port.toNat = { s.camN p.port.toNat with linkSet := true, link := linkOfReq p } ∧
      ∀ q, q ≠ p.port.toNat → t.camN q = s.camN q) ∧
  (∀ (s : State) (h : MbHdr) (p : CamLinkReq), Safety.served s h 12 = true → p.rsv = 0 → p.lanes ≠ 0 → p.channels ≠ 0 →
    p.pixels ≠ 0 → linkBad p = none → (s.camN p.port.toNat).runs = true →
    ∃ t, exec (.camSetLink h p) s = .next t ∧ Safety.Answered h 0x0701 0x0702 [] s t ∧ t = { s with host := t.host }) ∧
  (∀ (s : State) (h : MbHdr) (p : CamPlaceReq), Safety.served s h 20 = true → p.rsv = 0 → p.flags.toNat ≤ 1 → p.port.toNat < 4 →
    p.trig.toNat ≤ 7 → p.firstCol.toNat ≤ 196607 → 0x10000 ≤ p.colsPerPx.toNat → p.colsPerPx.toNat ≤ 0x100000 →
    s.offsetShort p.offsetNm.toInt = false → 0x10000 ≤ p.linePitch.toNat → (s.camN p.port.toNat).runs = false →
    s.trigUsed p.port.toNat p.trig.toNat = false →
    ∃ t, exec (.camSetPlace h p) s = .next t ∧ Safety.Answered h 0x0702 0 [] s t ∧ t = { s with host := t.host, cam := t.cam } ∧
      t.camN p.port.toNat = { s.camN p.port.toNat with placeSet := true, place := placeOfReq p } ∧
      ∀ q, q ≠ p.port.toNat → t.camN q = s.camN q) ∧
  (∀ (s : State) (h : MbHdr) (p : CamExposureReq), Safety.served s h 24 = true → p.rsv = 0 → p.port.toNat < 4 →
    ((s.camN p.port.toNat).link.vcShort.isSome = true → 0x0100 ≤ p.ratio.toNat ∧ p.ratio.toNat ≤ 0x4000) →
    1000 ≤ p.exposureNs.toNat → p.exposureNs.toNat ≤ 1000000 → p.kneeLo.toNat < p.kneeHi.toNat →
    ∃ t, exec (.camSetExposure h p) s = .next t ∧
      Safety.Answered h 0x0703 0
        (le 4 (s.camN p.port.toNat).applyFrame ++ le 1 ((s.camN p.port.toNat).epoch + 1).toNat ++ zeros 3) s t ∧
      t = { s with host := t.host, cam := t.cam } ∧
      t.camN p.port.toNat = { s.camN p.port.toNat with pend := some (exposureOfReq p, (s.camN p.port.toNat).applyFrame) } ∧
      ∀ q, q ≠ p.port.toNat → t.camN q = s.camN q) ∧
  (∀ (s : State) (h : MbHdr) (port : Byte) (addr : BitVec 64) (n : Nat), Safety.served s h 16 = true → port.toNat < 4 →
    n = (s.camN port.toNat).link.pixels * (s.camN port.toNat).link.channels → s.addrOk addr.toNat (12 + 2 * n) = true →
    ∃ t, exec (.camLoadFlat h port 0 0 addr) s = .next t ∧ Safety.Answered h 0x0704 0 [] s t ∧
      t = { s with host := t.host, cam := t.cam, nvm := t.nvm } ∧
      (t.camN port.toNat).pendFlat =
        some (flatOfBytes (s.dramRead addr.toNat (12 + 2 * n)) n, (s.camN port.toNat).frames) ∧
      t.nvm = { s.nvm with waiting := s.nvm.waiting ++ [.flat port.toNat (flatOfBytes (s.dramRead addr.toNat (12 + 2 * n)) n)] }) ∧
  (∀ (s : State) (h : MbHdr) (port : Byte) (addr : BitVec 64) (n : Nat), Safety.served s h 16 = true → port.toNat < 4 →
    n = (s.camN port.toNat).link.pixels * (s.camN port.toNat).link.channels → s.addrOk addr.toNat (12 + 2 * n) = true →
    ∃ t, exec (.camLoadFlat h port 1 0 addr) s = .next t ∧ Safety.Answered h 0x0704 0 [] s t ∧
      t = { s with host := t.host, dram := s.dram.writeAll addr.toNat ((s.cal.data.flat.get {} port.toNat).table n) })

/-- CAM_START runs a camera port, CAM_STOP ends it, the camera reports answer. CAM_START of a port with link, placement and a
committed geometry, with START_POS ahead of the web and room for its frames, leaves the port running from START_POS with no
trigger yet and gives it its trigger line. CAM_STOP of a stopped port changes nothing; of a running port without the immediate
flag it stops the port at a frame's end and gives its trigger line back, and leaves it stopping within a frame; while the cameras
are gated it answers 0x0005 and changes nothing. CAM_GET_STATUS and CAM_GET_FRAMES answer the port's counters and its newest frame
records and change nothing. (spec/06 R186, R189; spec/06 Table 06-14; spec/06 Table 06-15; spec/08 R257) -/
def Obligations.CameraStartsAndStops : Prop :=
(∀ (s : State) (h : MbHdr) (port : Byte) (pos : BitVec 64), Safety.served s h 16 = true → s.visGated = false →
    s.stepAccepted 3 = false → port.toNat < 4 → (s.camN port.toNat).linkSet = true → (s.camN port.toNat).placeSet = true →
    s.geo.committed.isSome = true → s.webPos < pos.toInt → s.camNoRoom port.toNat = false →
    ∃ t, exec (.camStart h port 0 pos) s = .next t ∧ Safety.AnsweredWith h 0x0705 0 [] s t ∧ (t.camN port.toNat).st = .running ∧
      (t.camN port.toNat).startPos = pos.toInt ∧ (t.camN port.toNat).trigs = 0 ∧
      (t.trigN (s.camN port.toNat).place.trig).st = .cameraOwned) ∧
  (∀ (s : State) (h : MbHdr) (port : Byte), Safety.served s h 4 = true → port.toNat < 4 → s.visGated = false → (s.camN port.toNat).st = .stopped →
    ∃ t, exec (.camStop h port 0 0) s = .next t ∧ Safety.Answered h 0x0706 0 [] s t ∧ t = { s with host := t.host }) ∧
  (∀ (s : State) (h : MbHdr) (port : Byte), Safety.served s h 4 = true → port.toNat < 4 → s.visGated = false → (s.camN port.toNat).st = .running →
    (s.camN port.toNat).trigs % 256 ≠ 0 →
    ∃ t, exec (.camStop h port 0 0) s = .next t ∧ Safety.Answered h 0x0706 0 [] s t ∧ t = { s with host := t.host, cam := t.cam } ∧
      t.camN port.toNat = { s.camN port.toNat with st := .stopping } ∧ ∀ q, q ≠ port.toNat → t.camN q = s.camN q) ∧
  (∀ (s : State) (h : MbHdr) (port : Byte), Safety.served s h 4 = true → port.toNat < 4 → s.visGated = false →
    (s.camN port.toNat).st = .running → (s.camN port.toNat).trigs % 256 = 0 →
    ∃ t, exec (.camStop h port 0 0) s = .next t ∧ Safety.AnsweredWith h 0x0706 0 [] s t ∧ (t.camN port.toNat).st = .stopped ∧
      (t.trigN (s.camN port.toNat).place.trig).st = .idle ∧ t.loop.openPos.get none port.toNat = none ∧
      ∀ q, q ≠ port.toNat → t.camN q = s.camN q) ∧
  (∀ (s : State) (h : MbHdr) (port flags : Byte), Safety.served s h 4 = true → s.visGated = true →
    ∃ t, exec (.camStop h port (flags &&& 1) 0) s = .next t ∧ Safety.Answered h 0x0706 0x0005 [] s t ∧ t = { s with host := t.host }) ∧
  (∀ (s : State) (h : MbHdr) (port : Byte), Safety.served s h 4 = true → port.toNat < 4 →
    ∃ t, exec (.camGetStatus h port 0) s = .next t ∧ Safety.Answered h 0x0707 0 (s.camN port.toNat).bytes s t ∧
      t = { s with host := t.host }) ∧
  (∀ (s : State) (h : MbHdr) (port count : Byte), Safety.served s h 4 = true → port.toNat < 4 → 1 ≤ count.toNat →
    count.toNat ≤ 16 →
    ∃ t, exec (.camGetFrames h port count 0) s = .next t ∧
      Safety.Answered h 0x0708 0 ((s.camN port.toNat).frameBytesOf count.toNat) s t ∧ t = { s with host := t.host })

/-- VIS_SET_NR, VIS_SET_MATRIX, VIS_SET_PREVIEW, VIS_SET_EGRESS and VIS_SET_DEFECT set exactly what they name. With fields in
range each of the five commands answers OK and changes exactly its own setting: the noise reduction or the pending matrix of one
camera port, the preview, the source of one closed egress stream, the defect detection. VIS_SET_EGRESS of an open stream answers
0x0802 and changes nothing. (spec/06 R192, R193, R196, R197, R199; spec/06 Table 06-16; spec/06 Table 06-17) -/
def Obligations.VisionSettingsApply : Prop :=
(∀ (s : State) (h : MbHdr) (port flags alpha : Byte) (thresh : BitVec 32), Safety.served s h 8 = true → flags.toNat ≤ 3 →
    port.toNat < 4 → alpha ≠ 0 → thresh.toNat ≤ 4194240 →
    ∃ t, exec (.visSetNr h port flags alpha 0 thresh) s = .next t ∧ Safety.Answered h 0x0801 0 [] s t ∧
      t = { s with host := t.host, cam := t.cam } ∧
      t.camN port.toNat =
        { s.camN port.toNat with nr := ⟨flags.getLsbD 0, flags.getLsbD 1, alpha.toNat, thresh.toNat⟩ } ∧
      ∀ q, q ≠ port.toNat → t.camN q = s.camN q) ∧
  (∀ (s : State) (h : MbHdr) (port : Byte) (m off : List (BitVec 16)), Safety.served s h 28 = true → port.toNat < 4 →
    ∃ t, exec (.visSetMatrix h port 0 m off) s = .next t ∧ Safety.Answered h 0x0802 0 [] s t ∧
      t = { s with host := t.host, cam := t.cam } ∧
      t.camN port.toNat =
        { s.camN port.toNat with
          pendMatrix := some (⟨m.map (·.toInt), off.map (·.toInt)⟩, (s.camN port.toNat).frames) } ∧
      ∀ q, q ≠ port.toNat → t.camN q = s.camN q) ∧
  (∀ (s : State) (h : MbHdr) (p : PreviewReq), Safety.served s h 16 = true → p.flags.toNat ≤ 3 → p.rsv = 0 →
    1 ≤ p.binCols.toNat ∧ p.binCols.toNat ≤ 64 → ceilDiv s.barColumns p.binCols.toNat ≤ 16384 →
    1 ≤ p.binLines.toNat ∧ p.binLines.toNat ≤ 64 → 1 ≤ p.rows.toNat ∧ p.rows.toNat ≤ 65536 →
    s.addrOk p.addr.toNat (previewRowBytes s.barColumns p.binCols.toNat (p.flags.getLsbD 1) * p.rows.toNat) = true →
    ∃ t, exec (.visSetPreview h p) s = .next t ∧ Safety.Answered h 0x0803 0 [] s t ∧
      t = { s with host := t.host, vis := t.vis } ∧
      t.vis = { s.vis with preview := { enable := p.flags.getLsbD 0, colour := p.flags.getLsbD 1, binCols := p.binCols.toNat,
                                        binLines := p.binLines.toNat, rows := p.rows.toNat, addr := p.addr.toNat,
                                        row := if (s.camN 0).runs = true then (s.camN 0).trigs / p.binLines.toNat + 1 else 0 } }) ∧
  (∀ (s : State) (h : MbHdr) (es port source depth : Byte), Safety.served s h 4 = true → es.toNat ≤ 7 → port.toNat < 4 →
    source.toNat ≤ 2 → (depth = 8 ∨ depth = 12 ∨ depth = 16) →
    (s.camN port.toNat).link.sourceWidth source.toNat ≤ 16384 → (s.esN es.toNat).isOpen = false →
    ∃ t, exec (.visSetEgress h es port source depth) s = .next t ∧ Safety.Answered h 0x0804 0 [] s t ∧
      t = { s with host := t.host, slate := t.slate } ∧
      t.esN es.toNat = { s.esN es.toNat with
        srcSet := true, srcPort := port.toNat, srcKind := source.toNat, srcDepth := depth.toNat } ∧
      ∀ i, i ≠ es.toNat → t.esN i = s.esN i) ∧
  (∀ (s : State) (h : MbHdr) (es port source depth : Byte), Safety.served s h 4 = true → es.toNat ≤ 7 → port.toNat < 4 →
    source.toNat ≤ 2 → (depth = 8 ∨ depth = 12 ∨ depth = 16) →
    (s.camN port.toNat).link.sourceWidth source.toNat ≤ 16384 → (s.esN es.toNat).isOpen = true →
    ∃ t, exec (.visSetEgress h es port source depth) s = .next t ∧ Safety.Answered h 0x0804 0x0802 [] s t ∧
      t = { s with host := t.host }) ∧
  (∀ (s : State) (h : MbHdr) (p : DefectReq), Safety.served s h 12 = true → p.rsv = 0 → p.rsv2 = 0 → p.enable.toNat ≤ 1 →
    16 ≤ p.streakLines.toNat → 1 ≤ p.spotMin.toNat ∧ p.spotMin.toNat ≤ 1024 →
    ∃ t, exec (.visSetDefect h p) s = .next t ∧ Safety.Answered h 0x0805 0 [] s t ∧
      t = { s with host := t.host, vis := { s.vis with defect := ⟨p.enable == 1, p.streakLines.toNat, p.streakThresh.toNat,
                                                                  p.spotThresh.toNat, p.spotMin.toNat⟩ } })

/-- VIS_THATCH_ARM and VIS_GET_DENSITY start a request, VIS_GET_DEFECTS and VIS_GET_STATUS report. VIS_THATCH_ARM whose fields are
in range, whose pattern the owning cameras resolve and with fewer than four handles armed arms its handle in place of an earlier
arm of it, and one whose STEP or RUNG_LINES is 0 answers ZERO_FIELD; VIS_GET_DENSITY with no request running and a camera owning
columns starts one; VIS_GET_DEFECTS answers the records from a sequence number and VIS_GET_STATUS the status, and neither changes
anything. (spec/06 R198, R199, R200; spec/06 Table 06-18; spec/06 Table 06-19) -/
def Obligations.VisionRequestsRun : Prop :=
(∀ (s : State) (h : MbHdr) (p : ThatchReq), Safety.served s h 28 = true → p.rsv = 0 → p.rungLines ≠ 0 → s.visGated = false →
    s.page? p.handle.toNat = none → (p.row = 0 ∨ p.row = 1 ∧ s.noRowB = false) → 4 ≤ p.step.toNat ∧ p.step.toNat ≤ 64 →
    1 ≤ p.level.toNat ∧ p.level.toNat ≤ 3 → p.rungLines.toNat ≤ 65536 →
    s.addrOk p.addr.toNat (32 + 8 * s.barColumns) = true → s.thatchFine p.step.toNat p.rungLines.toNat = false →
    ((s.vis.thatch.filter fun a => a.left || a.handle != p.handle.toNat).filter fun a => !a.left).length < 4 →
    ∃ t, exec (.visThatchArm h p) s = .next t ∧ Safety.Answered h 0x0807 0 [] s t ∧
      t = { s with host := t.host, vis := { s.vis with
        thatch := (s.vis.thatch.filter fun a => a.left || a.handle != p.handle.toNat) ++ [thatchOfReq p] } }) ∧
  (∀ (s : State) (h : MbHdr) (p : ThatchReq), Safety.served s h 28 = true → p.rsv = 0 → s.visGated = false →
    p.step = 0 ∨ p.rungLines = 0 →
    ∃ t, exec (.visThatchArm h p) s = .next t ∧ Safety.Answered h 0x0807 0x0006 [] s t ∧ t = { s with host := t.host }) ∧
  (∀ (s : State) (h : MbHdr) (lines : BitVec 32) (addr : BitVec 64), Safety.served s h 16 = true → s.visGated = false →
    1 ≤ lines.toNat ∧ lines.toNat ≤ 65536 → s.addrOk addr.toNat (32 + 4 * s.barColumns) = true → s.vis.density = none →
    s.owners ≠ [] →
    ∃ t, exec (.visGetDensity h lines 0 addr) s = .next t ∧ Safety.Answered h 0x0808 0 [] s t ∧
      t = { s with host := t.host, vis := { s.vis with density := some { lines := lines.toNat, addr := addr.toNat } } }) ∧
  (∀ (s : State) (h : MbHdr) (q : BitVec 32) (count : BitVec 16), Safety.served s h 8 = true →
    1 ≤ count.toNat ∧ count.toNat ≤ 63 →
    ∃ t, exec (.visGetDefects h q count 0) s = .next t ∧
      Safety.Answered h 0x0806 0 ((s.vis.defectsFrom q count.toNat).flatMap DefectRec.bytes) s t ∧ t = { s with host := t.host }) ∧
  (∀ (s : State) (h : MbHdr), Safety.served s h 0 = true →
    ∃ t, exec (.visGetStatus h) s = .next t ∧ Safety.Answered h 0x0809 0 s.visStatus s t ∧ t = { s with host := t.host })

/-- CAL_SET_LOOP, CAL_SET_FACTORY, CAL_RECAL, CAL_RECAL_STOP set and start, the CAL reports answer. On the chip that supervises,
CAL_SET_LOOP in range sets the loop's settings, journals them and restarts every window; CAL_SET_FACTORY of all nozzles of an
enabled port with gains in range journals the gains at ADDR. CAL_RECAL of a running camera port in range journals its settings and
starts its collection; CAL_RECAL_STOP ends a collection, and answers 0x0005 while the cameras are gated. CAL_GET_STATUS answers
the loop's status and changes nothing; CAL_GET_COLUMNS writes exactly the columns' 8-byte entries at ADDR. (spec/07 R217, R219;
spec/07 Table 07-9; spec/07 Table 07-10; spec/07 Table 07-12; spec/09 R275) -/
def Obligations.CalibrationCommandsRun : Prop :=
(∀ (s : State) (h : MbHdr) (p : LoopReq), Safety.served s h 20 = true → s.notSupervisor = false → p.rsv = 0 →
    p.updateBlocks ≠ 0 → p.windowLines ≠ 0 → loopBad p = none →
    ∃ t, exec (.calSetLoop h p) s = .next t ∧ Safety.Answered h 0x0901 0 [] s t ∧
      t = { s with host := t.host, twin := t.twin, nvm := t.nvm, loop := { s.loop with ring := [], closes := 0 },
                   cal := { s.cal with data := { s.cal.data with loop := loopOfReq p s.cal.data.loop } } } ∧
      t.nvm = { s.nvm with waiting := s.nvm.waiting ++ [.settings (loopOfReq p s.cal.data.loop)] }) ∧
  (∀ (s : State) (h : MbHdr) (port : Byte) (n : BitVec 16) (addr : BitVec 64), Safety.served s h 16 = true →
    s.notSupervisor = false → n ≠ 0 → factoryBad port n.toNat addr.toNat s = none →
    ∃ t, exec (.calSetFactory h port 0 n 0 addr) s = .next t ∧ Safety.Answered h 0x0904 0 [] s t ∧
      t = { s with host := t.host, twin := t.twin, nvm := t.nvm } ∧
      t.nvm = { s.nvm with waiting := s.nvm.waiting ++
        [.factory [⟨port.toNat, 0, s.runKey port.toNat, s.gainsAt addr.toNat n.toNat⟩]] }) ∧
  (∀ (s : State) (h : MbHdr) (p : RecalReq), Safety.served s h 12 = true → p.rsv = 0 → p.port.toNat < 4 →
    1 ≤ p.guard.toNat ∧ p.guard.toNat ≤ 64 → 16 ≤ p.subMin.toNat ∧ p.subMin.toNat ≤ 4096 →
    1 ≤ p.timeoutS.toNat ∧ p.timeoutS.toNat ≤ 3600 → (p.periodS = 0 ∨ 60 ≤ p.periodS.toNat ∧ p.periodS.toNat ≤ 86400) →
    s.visGated = false → (s.camN p.port.toNat).runs = true →
    (s.camN p.port.toNat).recal.collecting = false →
    ∃ t, exec (.calRecal h p) s = .next t ∧ Safety.Answered h 0x0905 0 [] s t ∧
      t = { s with host := t.host, nvm := t.nvm, cal := t.cal, cam := t.cam } ∧
      (t.camN p.port.toNat).recal = { collecting := true, started := true } ∧
      t.cal.data.loop.recal.get {} p.port.toNat = recalOfReq p ∧ ∀ q, q ≠ p.port.toNat → t.camN q = s.camN q) ∧
  (∀ (s : State) (h : MbHdr) (port : Byte), Safety.served s h 4 = true → port.toNat < 4 → s.visGated = false →
    ∃ t, exec (.calRecalStop h port 0) s = .next t ∧ Safety.Answered h 0x0906 0 [] s t ∧ t = { s with host := t.host, cam := t.cam } ∧
      t.camN port.toNat = { s.camN port.toNat with
        recal := { (s.camN port.toNat).recal with collecting := false, counts := [], sums := [] } } ∧
      ∀ q, q ≠ port.toNat → t.camN q = s.camN q) ∧
  (∀ (s : State) (h : MbHdr) (port : Byte), Safety.served s h 4 = true → s.visGated = true →
    ∃ t, exec (.calRecalStop h port 0) s = .next t ∧ Safety.Answered h 0x0906 0x0005 [] s t ∧ t = { s with host := t.host }) ∧
  (∀ (s : State) (h : MbHdr), Safety.served s h 0 = true →
    ∃ t, exec (.calGetStatus h) s = .next t ∧ Safety.Answered h 0x0902 0 s.calStatus s t ∧ t = { s with host := t.host }) ∧
  (∀ (s : State) (h : MbHdr) (first n : BitVec 32) (addr : BitVec 64), Safety.served s h 16 = true → n ≠ 0 →
    first.toNat + n.toNat ≤ s.barColumns → s.addrOk addr.toNat (8 * n.toNat) = true →
    ∃ t, exec (.calGetColumns h first n addr) s = .next t ∧ Safety.Answered h 0x0903 0 [] s t ∧
      t = { s with host := t.host, dram := t.dram } ∧
      t.dram = s.dram.writeAll addr.toNat ((List.range n.toNat).flatMap fun i => s.colBytes (first.toNat + i)))

/-- NVM_COMPACT and NVM_ERASE_CAL start a compaction, NVM_READ copies the store, NVM_GET_STATUS reports. With no compaction under
way, NVM_COMPACT starts one from the last committed record, and NVM_ERASE_CAL with no page admitted on the chip that supervises
starts the compaction whose base image holds gains and tables at nominal, and restarts every window; with one under way
NVM_COMPACT answers 0x1002 and changes nothing. NVM_READ within the store copies exactly the bytes named to ADDR. NVM_GET_STATUS
answers the store's status and changes nothing. (spec/07 R226, R229, R231; spec/07 Table 07-13; spec/07 Table 07-14; spec/05 R180)
-/
def Obligations.StoreCommandsRun : Prop :=
(∀ (s : State) (h : MbHdr), Safety.served s h 0 = true → s.nvm.compacting = none →
    ∃ t, exec (.nvmCompact h) s = .next t ∧ Safety.Answered h 0x1003 0 [] s t ∧
      t = { s with host := t.host, nvm := { s.nvm with compacting := some s.nvm.lastSeq } }) ∧
  (∀ (s : State) (h : MbHdr) (q : BitVec 32), Safety.served s h 0 = true → s.nvm.compacting = some q →
    ∃ t, exec (.nvmCompact h) s = .next t ∧ Safety.Answered h 0x1003 0x1002 [] s t ∧ t = { s with host := t.host }) ∧
  (∀ (s : State) (h : MbHdr), Safety.served s h 0 = true → s.notSupervisor = false → s.bat.pages = [] →
    s.nvm.compacting = none →
    ∃ t, exec (.nvmEraseCal h) s = .next t ∧ Safety.Answered h 0x1004 0 [] s t ∧
      t = { s with host := t.host, twin := t.twin, nvm := t.nvm, loop := { s.loop with ring := [] } } ∧
      t.nvm = { s.nvm with erasing := true, compacting := some s.nvm.lastSeq }) ∧
  (∀ (s : State) (h : MbHdr) (o n : BitVec 32) (addr : BitVec 64), Safety.served s h 16 = true → o.toNat % 8 = 0 →
    n.toNat % 8 = 0 → 8 ≤ n.toNat → n.toNat ≤ 1048576 → o.toNat + n.toNat ≤ 8388608 → s.addrOk addr.toNat n.toNat = true →
    ∃ t, exec (.nvmRead h o n addr) s = .next t ∧ Safety.Answered h 0x1002 0 [] s t ∧
      t = { s with host := t.host, dram := t.dram } ∧
      t.dram = s.dram.writeAll addr.toNat ((List.range n.toNat).map fun i => s.gableByte (o.toNat + i))) ∧
  (∀ (s : State) (h : MbHdr), Safety.served s h 0 = true →
    ∃ t, exec (.nvmGetStatus h) s = .next t ∧ Safety.Answered h 0x1001 0 s.nvm.statusBytes s t ∧ t = { s with host := t.host })

/-- ENC_SET_INPUT restarts an encoder, ENC_SET_COUNT moves its count, ENC_GET_STATUS reports. For an encoder that nothing uses,
ENC_SET_INPUT with fields in range gives it exactly the settings named, at its start, and ENC_SET_COUNT sets its count; the other
encoders are unchanged, and the estimator changes only with ENC_0. For an encoder in use both answer 0x0A03 and change nothing.
ENC_GET_STATUS answers the encoder's status and changes nothing. (spec/08 R234, R241; spec/08 Table 08-4; spec/08 Table 08-5;
spec/08 Table 08-6; spec/08 Table 08-7) -/
def Obligations.EncoderCommandsRun : Prop :=
(∀ (s : State) (h : MbHdr) (p : EncInputReq), Safety.served s h 32 = true → encRsv p = false → encZero p = false →
    encInputBad p = none → s.encBusy p.enc.toNat = false →
    ∃ t, exec (.encSetInput h p) s = .next t ∧ Safety.Answered h 0x0A01 0 [] s t ∧
      t = { s with host := t.host, enc := t.enc, est := t.est } ∧ t.encN p.enc.toNat = (s.encN p.enc.toNat).restart p ∧
      (∀ e, e ≠ p.enc.toNat → t.encN e = s.encN e) ∧ (p.enc ≠ 0 → t.est = s.est)) ∧
  (∀ (s : State) (h : MbHdr) (p : EncInputReq), Safety.served s h 32 = true → encRsv p = false → encZero p = false →
    encInputBad p = none → s.encBusy p.enc.toNat = true →
    ∃ t, exec (.encSetInput h p) s = .next t ∧ Safety.Answered h 0x0A01 0x0A03 [] s t ∧ t = { s with host := t.host }) ∧
  (∀ (s : State) (h : MbHdr) (e : Byte) (c : BitVec 64), Safety.served s h 16 = true → e.toNat ≤ 3 → s.encBusy e.toNat = false →
    ∃ t, exec (.encSetCount h e 0 c) s = .next t ∧ Safety.Answered h 0x0A03 0 [] s t ∧
      t = { s with host := t.host, enc := t.enc, est := t.est } ∧ (t.encN e.toNat).count = c.toInt ∧
      (∀ n, n ≠ e.toNat → t.encN n = s.encN n) ∧ (e ≠ 0 → t.est = s.est)) ∧
  (∀ (s : State) (h : MbHdr) (e : Byte), Safety.served s h 4 = true → e.toNat ≤ 3 →
    ∃ t, exec (.encGetStatus h e 0) s = .next t ∧ Safety.Answered h 0x0A02 0 (s.encN e.toNat).bytes s t ∧ t = { s with host := t.host })

/-- The motion settings set exactly the axis or trigger output they name, and the motion reports answer. With fields in range,
MOT_SET_AXIS of a free axis and MOT_SET_POSITION of a free axis set exactly its settings or its position; MOT_SET_RATES of an axis
at rest sets its rates at once, of one in a state that holds rates answers 0x0B04 and holds them; MOT_LOAD_TABLE puts exactly the
segments at ADDR into the axis's table; MOT_SET_COMPARE with a point ahead arms exactly its output. MOT_GET_STATUS and
MOT_GET_COMPARE answer and change nothing. (spec/08 R243, R246, R251, R254; spec/08 Table 08-8; spec/08 Table 08-9; spec/08 Table
08-11; spec/08 Table 08-12) -/
def Obligations.MotionSettingsApply : Prop :=
(∀ (s : State) (h : MbHdr) (p : AxisReq), Safety.served s h 20 = true → p.flags.toNat ≤ 7 → p.rsv = 0 → p.rsv2 = 0 →
    p.axis.toNat ≤ 7 → 50 ≤ p.pulseNs.toNat ∧ p.pulseNs.toNat ≤ 50000 → 20 ≤ p.dirSetupNs.toNat ∧ p.dirSetupNs.toNat ≤ 50000 →
    20 ≤ p.dirHoldNs.toNat ∧ p.dirHoldNs.toNat ≤ 50000 → 1 ≤ p.vLimit.toNat ∧ p.vLimit.toNat ≤ 5000000 → p.qsDecel ≠ 0 →
    2 * p.pulseNs.toNat * p.vLimit.toNat ≤ 1000000000 → s.axisFree p.axis.toNat = true →
    ∃ t, exec (.motSetAxis h p) s = .next t ∧ Safety.Answered h 0x0B01 0 [] s t ∧ t = { s with host := t.host, axis := t.axis } ∧
      t.axisN p.axis.toNat = (s.axisN p.axis.toNat).configure p ∧ ∀ n, n ≠ p.axis.toNat → t.axisN n = s.axisN n) ∧
  (∀ (s : State) (h : MbHdr) (p : RatesReq), Safety.served s h 24 = true → p.rsv = 0 → p.axis.toNat ≤ 7 →
    (ratesOfReq p).bad (s.axisN p.axis.toNat) = false → (s.axisN p.axis.toNat).st = .idle →
    ∃ t, exec (.motSetRates h p) s = .next t ∧ Safety.Answered h 0x0B02 0 [] s t ∧ t = { s with host := t.host, axis := t.axis } ∧
      t.axisN p.axis.toNat = { s.axisN p.axis.toNat with rates := ratesOfReq p, heldRates := none } ∧
      ∀ n, n ≠ p.axis.toNat → t.axisN n = s.axisN n) ∧
  (∀ (s : State) (h : MbHdr) (p : RatesReq), Safety.served s h 24 = true → p.rsv = 0 → p.axis.toNat ≤ 7 →
    (ratesOfReq p).bad (s.axisN p.axis.toNat) = false → (s.axisN p.axis.toNat).st.holdsRates = true →
    ∃ t, exec (.motSetRates h p) s = .next t ∧ Safety.Answered h 0x0B02 0x0B04 [] s t ∧ t = { s with host := t.host, axis := t.axis } ∧
      t.axisN p.axis.toNat = { s.axisN p.axis.toNat with heldRates := some (ratesOfReq p) } ∧
      ∀ n, n ≠ p.axis.toNat → t.axisN n = s.axisN n) ∧
  (∀ (s : State) (h : MbHdr) (a : Byte) (x : BitVec 64), Safety.served s h 16 = true → a.toNat ≤ 7 → s.axisFree a.toNat = true →
    ∃ t, exec (.motSetPosition h a 0 x) s = .next t ∧ Safety.Answered h 0x0B0D 0 [] s t ∧ t = { s with host := t.host, axis := t.axis } ∧
      t.axisN a.toNat = { s.axisN a.toNat with pos := x.toInt, target := x.toInt, unhomed := false } ∧
      ∀ n, n ≠ a.toNat → t.axisN n = s.axisN n) ∧
  (∀ (s : State) (h : MbHdr) (a first count : Byte) (addr : BitVec 64), Safety.served s h 16 = true → a.toNat ≤ 7 → count ≠ 0 →
    first.toNat + count.toNat ≤ 64 → s.addrOk addr.toNat (16 * count.toNat) = true →
    (∀ g ∈ s.segsAt addr.toNat count.toNat, 1000 ≤ g.durationNs) →
    ∃ t, exec (.motLoadTable h a first count 0 addr) s = .next t ∧ Safety.Answered h 0x0B06 0 [] s t ∧
      t = { s with host := t.host, axis := t.axis } ∧
      t.axisN a.toNat = { s.axisN a.toNat with
        segs := SMap.setList {} (s.axisN a.toNat).segs first.toNat (s.segsAt addr.toNat count.toNat) } ∧
      ∀ n, n ≠ a.toNat → t.axisN n = s.axisN n) ∧
  (∀ (s : State) (h : MbHdr) (p : CompareReq), Safety.served s h 24 = true → s.motClosed = false → p.flags.toNat ≤ 7 →
    p.trig.toNat ≤ 7 → (p.source.toNat ≤ 3 ∨ 8 ≤ p.source.toNat ∧ p.source.toNat ≤ 15) → (p.mode = 1 ∨ p.mode = 2) →
    p.flags.toNat % 4 ≠ 3 → 20 ≤ p.widthNs.toNat ∧ p.widthNs.toNat ≤ 1000000000 →
    (p.mode = 2 → 65536 ≤ p.interval.toNat ∧ p.repeats ≠ 0) → (s.trigN p.trig.toNat).st ≠ .cameraOwned →
    pointAhead (p.flags.toNat % 4) (s.srcCount p.source.toNat) p.position.toInt = true →
    ∃ t, exec (.motSetCompare h p) s = .next t ∧ Safety.Answered h 0x0B0A 0 [] s t ∧ t = { s with host := t.host, trig := t.trig } ∧
      t.trigN p.trig.toNat = trigOfReq p ∧ ∀ n, n ≠ p.trig.toNat → t.trigN n = s.trigN n) ∧
  (∀ (s : State) (h : MbHdr) (a : Byte), Safety.served s h 4 = true → a.toNat ≤ 7 →
    ∃ t, exec (.motGetStatus h a 0) s = .next t ∧ Safety.Answered h 0x0B0B 0 (s.axisBytes a.toNat) s t ∧ t = { s with host := t.host }) ∧
  (∀ (s : State) (h : MbHdr) (n : Byte), Safety.served s h 4 = true → n.toNat ≤ 7 →
    ∃ t, exec (.motGetCompare h n 0) s = .next t ∧ Safety.Answered h 0x0B0C 0 (s.trigN n.toNat).bytes s t ∧ t = { s with host := t.host })

/-- MOT_MOVE, MOT_STOP, MOT_QUICK_STOP, MOT_RUN_TABLE, MOT_GEAR and MOT_GEAR_RATIO move and stop an axis. With the motion block
open and no handshake step 2, MOT_MOVE of an enabled axis that is not busy plans it to its target; MOT_STOP and MOT_QUICK_STOP
take exactly the named axis through the ordinary and the quick stop; MOT_RUN_TABLE of a good table at rest runs it; MOT_GEAR
engages at once or awaits its position; MOT_GEAR_RATIO queues a ratio change ahead. No other axis changes, and of the rest only
motion alert bits. AXIS_STEP takes the axis's next step once its timer has run out and DIR allows it, and before changes nothing;
TRIG_PULSE_END ends the pulse of its output and changes nothing else. (spec/08 R248, R249, R252, R254, R255, R256; spec/08 Table
08-10; spec/08 Table 08-13) -/
def Obligations.MotionCommandsMove : Prop :=
(∀ (s : State) (h : MbHdr) (a flags : Byte) (x : BitVec 64), Safety.served s h 16 = true → s.motHeld = false → a.toNat ≤ 7 →
    flags.toNat ≤ 1 → (s.axisN a.toNat).enable = true → (s.axisN a.toNat).st.busy = false →
    ∃ t, exec (.motMove h a flags 0 x) s = .next t ∧ Safety.AnsweredWith h 0x0B03 0 [] s t ∧ t = { s with host := t.host, axis := t.axis } ∧
      t.axisN a.toNat = { ((s.axisN a.toNat).replan
        (if flags.getLsbD 0 then (s.axisN a.toNat).pos + x.toInt else x.toInt)).1 with cause := 0 } ∧
      ∀ n, n ≠ a.toNat → t.axisN n = s.axisN n) ∧
  (∀ (s : State) (h : MbHdr) (a : Byte), Safety.served s h 4 = true → s.motClosed = false → a.toNat ≤ 7 →
    (s.axisN a.toNat).st.resting = false → (s.axisN a.toNat).st ≠ .quickStopping →
    ∃ t, exec (.motStop h a 0) s = .next t ∧ Safety.AnsweredWith h 0x0B04 0 [] s t ∧ t = { s with host := t.host, axis := t.axis } ∧
      t.axisN a.toNat = (s.stopPlan (s.axisN a.toNat)).1 ∧ ∀ n, n ≠ a.toNat → t.axisN n = s.axisN n) ∧
  (∀ (s : State) (h : MbHdr) (a : Byte), Safety.served s h 4 = true → s.motClosed = false → a.toNat ≤ 7 →
    (s.axisN a.toNat).st ≠ .quickStopping →
    ∃ t, exec (.motQuickStop h a 0) s = .next t ∧ Safety.AnsweredWith h 0x0B05 0 [] s t ∧ t = { s with host := t.host, axis := t.axis } ∧
      ((t.axisN a.toNat).st = .quickStopping ∨ (t.axisN a.toNat).st = .stoppedQuick) ∧ (t.axisN a.toNat).cause = 1 ∧
      (t.axisN a.toNat).gear = none ∧ ∀ n, n ≠ a.toNat → t.axisN n = s.axisN n) ∧
  (∀ (s : State) (h : MbHdr) (a first count : Byte), Safety.served s h 4 = true → s.motHeld = false → a.toNat ≤ 7 → count ≠ 0 →
    first.toNat + count.toNat ≤ 64 → s.motRefusal a.toNat = none →
    tableBad (s.axisN a.toNat) (SMap.getList {} (s.axisN a.toNat).segs first.toNat count.toNat) = false →
    ∃ t, exec (.motRunTable h a first count 0) s = .next t ∧ Safety.AnsweredWith h 0x0B07 0 [] s t ∧
      t = { s with host := t.host, axis := t.axis } ∧ (t.axisN a.toNat).st = .table ∧
      (t.axisN a.toNat).cause = 0 ∧ (t.axisN a.toNat).pos = (s.axisN a.toNat).pos ∧ ∀ n, n ≠ a.toNat → t.axisN n = s.axisN n) ∧
  (∀ (s : State) (h : MbHdr) (p : GearReq), Safety.served s h 32 = true → s.motHeld = false → (p.flags = 1 ∨ p.flags = 3) →
    p.rsv = 0 → p.rsv2 = 0 → p.axis.toNat ≤ 7 → p.den ≠ 0 → p.blendCounts ≠ 0 → p.followLimit ≠ 0 →
    s.motRefusal p.axis.toNat = none → (p.flags = 1 → (s.encN 0).count * 65536 < p.engagePos.toInt) →
    ∃ t, exec (.motGear h p) s = .next t ∧ Safety.Answered h 0x0B08 0 [] s t ∧ t = { s with host := t.host, axis := t.axis } ∧
      (p.flags = 3 → (t.axisN p.axis.toNat).st = .geared) ∧ (p.flags = 1 → (t.axisN p.axis.toNat).gear = some (gearOfReq p)) ∧
      ∀ n, n ≠ p.axis.toNat → t.axisN n = s.axisN n) ∧
  (∀ (s : State) (h : MbHdr) (a : Byte) (num den : BitVec 32) (x : BitVec 64), Safety.served s h 24 = true → s.motClosed = false →
    a.toNat ≤ 7 → den ≠ 0 → (s.axisN a.toNat).pend.length < 4 → (s.encN 0).count * 65536 < x.toInt →
    ∃ t, exec (.motGearRatio h a 0 num den 0 x) s = .next t ∧ Safety.Answered h 0x0B09 0 [] s t ∧
      t = { s with host := t.host, axis := t.axis } ∧
      t.axisN a.toNat = { s.axisN a.toNat with
        pend := (s.axisN a.toNat).pend ++ [(x.toInt, (num.toInt : Rat) / (den.toNat : Rat))] } ∧
      ∀ n, n ≠ a.toNat → t.axisN n = s.axisN n) ∧
  (∀ (s : State) (n : Nat) (a : Axis), s.alive = true → s.motGated = false → n < 8 →
    a = ((s.axisN n).step (s.tableTime (s.axisN n))).1 → (s.axisN n).due ≤ s.time.ticks →
    (a.pos = (s.axisN n).pos ∨ (s.axisN n).turnAt (decide ((s.axisN n).pos < a.pos)) ≤ s.time.ticks) →
    ∃ t, exec (.axisStep n) s = .next t ∧ (t.axisN n).pos = a.pos ∧ (t.axisN n).st = a.st) ∧
  (∀ (s : State) (n : Nat), s.alive = true → s.time.ticks < (s.axisN n).due →
    ∃ t, exec (.axisStep n) s = .next t ∧ t = s) ∧
  (∀ (s : State) (n : Nat), s.alive = true → n < 8 →
    ∃ t, exec (.trigPulseEnd n) s = .next t ∧ Safety.Quiet s t ∧ t = { s with host := t.host, trig := t.trig } ∧
      t.trigN n = { s.trigN n with active := false } ∧ ∀ m, m ≠ n → t.trigN m = s.trigN m)

/-- TWIN_GET_STATUS reports, TWIN_SET_MODE sets, TWIN_SWITCHBACK hands LEAD back, TWIN_RESOLVE ends a stalemate. TWIN_GET_STATUS
answers the twin status and changes nothing. On the supervising chip of a formed pair TWIN_SET_MODE with fields in range stores
the mode, entering WATCH takes the counts its first interval is measured from, and outside CASTLING no castle stays due.
TWIN_SWITCHBACK on the LEAD that is not preferred, with the pair up, makes it RESERVE under the next ROLE_SEQ at once, or with
FLAGS bit 0 and pages queued notes that it waits for an empty queue and keeps LEAD. TWIN_RESOLVE in a stalemate makes this chip
RESERVE (STEP_DOWN) or LEAD (KEEP) and ends the stalemate and its freeze. (spec/09 R263, R275, R282–R284, R288; spec/09 Table
09-10; spec/09 Table 09-11; spec/09 Table 09-12) -/
def Obligations.TwinCommandsRun : Prop :=
(∀ (s : State) (h : MbHdr), Safety.served s h 0 = true →
    ∃ t, exec (.twinGetStatus h) s = .next t ∧ Safety.Answered h 0x0C01 0 s.twinBytes s t ∧ t = { s with host := t.host }) ∧
  (∀ (s : State) (h : MbHdr) (p : TwinModeReq), Safety.served s h 16 = true → p.rsv = 0 → p.rsv2 = 0 → s.notSupervisor = false →
    (modeOfReq p).bad = false → s.unpaired = false →
    ∃ t, exec (.twinSetMode h p) s = .next t ∧ Safety.AnsweredWith h 0x0C02 0 [] s t ∧
      t = { s with host := t.host, twin := t.twin, log := t.log } ∧ t.twin.mode = modeOfReq p ∧
      (p.mode = 2 → s.twin.mode.mode ≠ 2 → t.twin.divSums = SMap.setList 0 [] 0 ((List.range 48).map s.divCount)) ∧
      (p.mode ≠ 1 → t.twin.castleDue = false ∧ t.twin.role = s.twin.role ∧ t.log = s.log ∧ t.host.alert = s.host.alert)) ∧
  (∀ (s : State) (h : MbHdr) (flags : Byte), Safety.served s h 4 = true → flags.toNat ≤ 1 → s.unpaired = false →
    s.twin.role = .lead → s.preferred = false → s.pairUp = true →
    ∃ t, exec (.twinSwitchback h flags 0) s = .next t ∧ Safety.AnsweredWith h 0x0C03 0 [] s t ∧
      t = { s with host := t.host, twin := t.twin, bat := t.bat, fire := t.fire, log := t.log } ∧
      ((flags = 0 ∨ s.bat.pages = []) → t.twin.role = .reserve ∧ t.twin.roleSeq = s.twin.roleSeq + 1 ∧
        t.twin.castleDue = false ∧ t.twin.atEmpty = false) ∧
      (flags = 1 → s.bat.pages ≠ [] → t.twin = { s.twin with atEmpty := true } ∧ t.bat = s.bat ∧ t.fire = s.fire ∧ t.log = s.log)) ∧
  (∀ (s : State) (h : MbHdr), Safety.served s h 4 = true → s.unpaired = false → s.twin.stalemate = true →
    ∃ t, exec (.twinResolve h 1 0) s = .next t ∧ Safety.AnsweredWith h 0x0C04 0 [] s t ∧
      t = { s with host := t.host, twin := t.twin, log := t.log } ∧
      t.twin = { s.twin with
        role := .lead, frozen := false, stalemate := false,
        roleSeq := if s.twin.role = .lead then s.twin.roleSeq else s.twin.roleSeq + 1,
        pagesSince := if s.twin.role = .lead then s.twin.pagesSince else 0 }) ∧
  (∀ (s : State) (h : MbHdr), Safety.served s h 4 = true → s.unpaired = false → s.twin.stalemate = true →
    (∀ p ∈ s.bat.pages, p.own = false) →
    ∃ t, exec (.twinResolve h 0 0) s = .next t ∧ Safety.AnsweredWith h 0x0C04 0 [] s t ∧
      t = { s with host := t.host, twin := t.twin, log := t.log } ∧
      t.twin.role = .reserve ∧ t.twin.roleSeq = s.twin.roleSeq + 1 ∧ t.twin.frozen = false ∧ t.twin.stalemate = false)

/-- TIME_SET_CLOCK, TIME_SET_PTP, TIME_SET_PORT and TIME_SET_ASYM apply their settings. Fields in range come into force.
TIME_SET_CLOCK stores every clock parameter, and in FREERUN the new NOMINAL_INC becomes the increment at once, from which a slew
under way goes on; nothing else changes. TIME_SET_PTP needs the ports its ROLE uses enabled and stores the role, domain,
priorities, clock quality, UTC offset and BAR_ID; TIME_SET_PORT stores the port's settings and leaves the other port's flags; both
touch nothing outside TIME but alert bits. TIME_SET_ASYM stores the signed asymmetry of the named Ethernet port, Ridge port or
twin link. (spec/10 R290, R291, R297; spec/10 Table 10-6; spec/10 Table 10-7; spec/10 Table 10-8; spec/10 Table 10-10) -/
def Obligations.TimeSettingsApply : Prop :=
(∀ (s : State) (h : MbHdr) (p : ClockReq), Safety.served s h 32 = true → p.rsv = 0 → p.rsv2 = 0 → clockBad p = false →
    ∃ t, exec (.timeSetClock h p) s = .next t ∧ Safety.Answered h 0x0D01 0 [] s t ∧ t = { s with host := t.host, time := t.time } ∧
      (s.time.st = .freerun → s.time.slew = 0 → t.time.inc = p.nominalInc) ∧
      (s.time.st = .freerun → s.time.slew ≠ 0 → t.time.inc = BitVec.ofInt 32 (p.nominalInc.toNat +
        (p.nominalInc.toNat * (if 0 < s.time.slew then (p.maxAdjPpb.toNat : Int) else -(p.maxAdjPpb.toNat : Int))).tdiv 1000000000)) ∧
      t.time = { s.time with
        nominalInc := p.nominalInc, maxAdjPpb := p.maxAdjPpb.toNat, freqStepPpb := p.freqStepPpb.toNat, stepEn := (p.stepEn == 1),
        stepNs := p.stepNs.toNat, kp := p.kp.toNat, ki := p.ki.toNat, lockNs := p.lockNs.toNat, holdAvgS := p.holdAvgS.toNat,
        holdLimitNs := p.holdLimitNs.toNat, aging := p.agingPpbS.toNat,
        inc := if s.time.st = .freerun then t.time.inc else s.time.inc }) ∧
  (∀ (s : State) (h : MbHdr) (p : PtpReq), Safety.served s h 12 = true → p.rsv = 0 → p.role.toNat ≤ 3 → p.domain.toNat ≤ 127 →
    p.barId.toNat ≤ 63 → roleConflict p.role.toNat ((s.ethN 0).flags.getLsbD 0) ((s.ethN 1).flags.getLsbD 0) = false →
    ∃ t, exec (.timeSetPtp h p) s = .next t ∧ Safety.AnsweredWith h 0x0D02 0 [] s t ∧ t = { s with host := t.host, time := t.time } ∧
      t.time.role = p.role.toNat ∧ t.time.domain = p.domain.toNat ∧ t.time.priority1 = p.priority1 ∧ t.time.priority2 = p.priority2 ∧
      t.time.clockClass = p.clockClass ∧ t.time.clockAccuracy = p.clockAccuracy ∧ t.time.oslv = p.oslv ∧
      t.time.utcOffset = p.utcOffset.toNat ∧ t.time.barId = p.barId.toNat ∧ t.time.clock = s.time.clock) ∧
  (∀ (s : State) (h : MbHdr) (p : EthPortReq), Safety.served s h 20 = true → p.flags.toNat ≤ 31 → p.port.toNat ≤ 1 → ethBad p = false →
    roleConflict s.time.role (s.ethOnAfter p 0) (s.ethOnAfter p 1) = false →
    ∃ t, exec (.timeSetPort h p) s = .next t ∧ Safety.AnsweredWith h 0x0D03 0 [] s t ∧ t = { s with host := t.host, time := t.time } ∧
      (t.ethN p.port.toNat).flags = p.flags ∧ (t.ethN p.port.toNat).mac = p.mac ∧ (t.ethN p.port.toNat).ipv4 = p.ipv4 ∧
      (t.ethN p.port.toNat).logSync = p.logSync.toInt ∧ (t.ethN p.port.toNat).logAnnounce = p.logAnnounce.toInt ∧
      (t.ethN p.port.toNat).announceTimeout = p.announceTimeout.toNat ∧
      (∀ q, q ≠ p.port.toNat → (t.ethN q).flags = (s.ethN q).flags) ∧ t.time.clock = s.time.clock ∧ t.time.role = s.time.role) ∧
  (∀ (s : State) (h : MbHdr) (kind index : Byte) (ps : BitVec 32), Safety.served s h 8 = true → asymBad kind index = false →
    (-1000000 ≤ ps.toInt ∧ ps.toInt ≤ 1000000) →
    ∃ t, exec (.timeSetAsym h kind index 0 ps) s = .next t ∧ Safety.Answered h 0x0D04 0 [] s t ∧
      t = { s with host := t.host, time := t.time } ∧
      t.time = { s.time with
        asymEth := if kind = 0 then s.time.asymEth.set 0 index.toNat ps.toInt else s.time.asymEth,
        asymRidge := if kind = 1 then s.time.asymRidge.set 0 index.toNat ps.toInt else s.time.asymRidge,
        asymTwin := if kind = 2 then ps.toInt else s.time.asymTwin })

/-- The TIME reports answer, TIME_SET_CALENDAR sets the RTC, the press commands set, send and read. TIME_GET_STATUS and
TIME_GET_TIME answer the clock and change nothing. TIME_SET_CALENDAR, unless the network disciplines the RTC, makes calendar time
valid at the given value; outside FREERUN nothing but the RTC changes (in FREERUN the local clock follows under R290).
TIME_SET_PRESS stores flags, group and mask. TIME_SEND_STOP queues one STOP message of CAUSE 2 on each port whose PRESS flag is
set, all with one SEQ, and advances SEQ. TIME_GET_PRESS of 1 to 16 messages answers them newest first and changes nothing.
(spec/10 R290, R298–R301; spec/10 Table 10-3; spec/10 Table 10-9) -/
def Obligations.TimeCommandsRun : Prop :=
(∀ (s : State) (h : MbHdr), Safety.served s h 0 = true →
    ∃ t, exec (.timeGetStatus h) s = .next t ∧ Safety.Answered h 0x0D05 0 s.timeBytes s t ∧ t = { s with host := t.host }) ∧
  (∀ (s : State) (h : MbHdr), Safety.served s h 0 = true →
    ∃ t, exec (.timeGetTime h) s = .next t ∧
      Safety.Answered h 0x0D06 0 (s.time.clock.bytes ++ le 8 s.calendar64 ++ le 1 s.time.calValid.toNat ++ zeros 3) s t ∧
      t = { s with host := t.host }) ∧
  (∀ (s : State) (h : MbHdr) (sec : BitVec 48) (frac : BitVec 16), Safety.served s h 8 = true → s.ptpOwns = false →
    s.time.st ≠ .freerun →
    ∃ t, exec (.timeSetCalendar h sec frac) s = .next t ∧ Safety.Answered h 0x0D07 0 [] s t ∧
      t = { s with host := t.host,
                   time := { s.time with calSec := sec, calFrac := frac, calTick := s.time.ticks, calValid := true } }) ∧
  (∀ (s : State) (h : MbHdr) (sec : BitVec 48) (frac : BitVec 16), Safety.served s h 8 = true → s.time.st = .freerun →
    ∃ t, exec (.timeSetCalendar h sec frac) s = .next t ∧ Safety.Completed h 0x0D07 0 [] t ∧
      t.time.calSec = sec ∧ t.time.calFrac = frac ∧ t.time.calTick = s.time.ticks ∧ t.time.calValid = true ∧
      t.cal = s.cal ∧ t.nvm = s.nvm ∧ t.dram = s.dram ∧ t.dma = s.dma ∧ t.pwr = s.pwr ∧ t.geo = s.geo) ∧
  (∀ (s : State) (h : MbHdr) (flags : Byte) (group : BitVec 32) (mask : BitVec 64), Safety.served s h 16 = true → flags.toNat ≤ 7 →
    ∃ t, exec (.timeSetPress h flags 0 group mask) s = .next t ∧ Safety.Answered h 0x0D08 0 [] s t ∧
      t = { s with host := t.host, time := { s.time with pressFlags := flags, pressGroup := group, rxMask := mask } }) ∧
  (∀ (s : State) (h : MbHdr), Safety.served s h 0 = true →
    ∃ t, exec (.timeSendStop h) s = .next t ∧ Safety.Answered h 0x0D09 0 [] s t ∧
      t = { s with host := t.host, time := { s.time with
        pressSeq := s.time.pressSeq + 1,
        ethTx := s.time.ethTx ++ ([0, 1].filter fun p => (s.ethN p).flags.getLsbD 4).map fun p =>
            .press p s.time.pressGroup 47360 (s.pressBytes 2 2 0 0 0 0) } }) ∧
  (∀ (s : State) (h : MbHdr) (count : Byte), Safety.served s h 4 = true → 1 ≤ count.toNat → count.toNat ≤ 16 →
    ∃ t, exec (.timeGetPress h count 0) s = .next t ∧ Safety.Answered h 0x0D0A 0 (s.time.pressNewest count.toNat) s t ∧
      t = { s with host := t.host })

/-- PWR_SET_RETENTION, PWR_SET_WAKE, PWR_SET_DROOP and PWR_SET_SUPPLY set, PWR_GET_STATUS reports. A retention mask whose I_RET
stays within 60 mA at a limit of at most 105 °C is stored, and the response gives I_RET; one beyond 60 mA answers 0x0E03 and
changes nothing. PWR_SET_WAKE, PWR_SET_DROOP with thresholds in range and PWR_SET_SUPPLY with no transition under way store
exactly their fields. PWR_GET_STATUS answers the power status and changes nothing. (spec/13 R363, R367; spec/13 Table 13-13;
spec/13 Table 13-14; spec/13 Table 13-15; spec/13 Table 13-16) -/
def Obligations.PowerSettingsApply : Prop :=
(∀ (s : State) (h : MbHdr) (mask : BitVec 64) (temp : BitVec 16), Safety.served s h 16 = true → mask.toNat < 2 ^ 48 →
    temp.toNat ≤ 0x0690 → retCurrent mask temp.toNat ≤ 60000 →
    ∃ t, exec (.pwrSetRetention h mask temp 0) s = .next t ∧
      Safety.Answered h 0x0E03 0 (le 4 (retCurrent mask temp.toNat) ++ zeros 4 ++ le 8 s.retUseful) s t ∧
      t = { s with host := t.host, pwr := { s.pwr with retMask := mask, retTemp := temp } }) ∧
  (∀ (s : State) (h : MbHdr) (mask : BitVec 64) (temp : BitVec 16), Safety.served s h 16 = true → mask.toNat < 2 ^ 48 →
    temp.toNat ≤ 0x0690 → 60000 < retCurrent mask temp.toNat →
    ∃ t, exec (.pwrSetRetention h mask temp 0) s = .next t ∧ Safety.Answered h 0x0E03 0x0E03 [] s t ∧ t = { s with host := t.host }) ∧
  (∀ (s : State) (h : MbHdr) (enable flags : Byte) (alarm : BitVec 64), Safety.served s h 16 = true → enable.toNat < 16 →
    flags.toNat < 2 → (enable.getLsbD 1 = true → s.time.calValid = true ∧ s.calendar < calUnits alarm.toNat) →
    ∃ t, exec (.pwrSetWake h enable flags 0 alarm) s = .next t ∧ Safety.Answered h 0x0E04 0 [] s t ∧
      t = { s with host := t.host,
                   pwr := { s.pwr with wakeEnable := enable.setWidth 4, pcieWake := flags.getLsbD 0, alarm := alarm } }) ∧
  (∀ (s : State) (h : MbHdr) (en thresh rate : BitVec 16), Safety.served s h 8 = true → 20 ≤ thresh.toNat → thresh.toNat ≤ 100 →
    rate ≠ 0 →
    ∃ t, exec (.pwrSetDroop h en thresh rate 0) s = .next t ∧ Safety.Answered h 0x0E05 0 [] s t ∧
      t = { s with host := t.host,
                   pwr := { s.pwr with droopEnable := en, threshMv := thresh.toNat, rateLimit := rate.toNat } }) ∧
  (∀ (s : State) (h : MbHdr) (addr : Byte) (settle timeout : BitVec 16), Safety.served s h 8 = true → 0x08 ≤ addr.toNat →
    addr.toNat ≤ 0x77 → 10 ≤ settle.toNat → settle.toNat ≤ 5000 → 1 ≤ timeout.toNat → timeout.toNat ≤ 100 → s.pwr.trans = none →
    ∃ t, exec (.pwrSetSupply h addr 0 settle timeout 0) s = .next t ∧ Safety.Answered h 0x0E06 0 [] s t ∧
      t = { s with host := t.host,
                   pwr := { s.pwr with pmbusAddr := addr, vsettleUs := settle.toNat, pgTimeoutMs := timeout.toNat } }) ∧
  (∀ (s : State) (h : MbHdr), Safety.served s h 0 = true →
    ∃ t, exec (.pwrGetStatus h) s = .next t ∧ Safety.Answered h 0x0E07 0 s.pwrBytes s t ∧ t = { s with host := t.host })

/-- PWR_SET_STATE commits a resting chip's entry and returns from HOLD, PWR_SET_LEVEL starts the supply change. From RUN with
nothing under way and no alarm active, PWR_SET_STATE STANDBY or OFF commits at once: that state, PWR_EN low, the store as it
stands without power, no command completes. From HOLD, PWR_SET_STATE RUN at the voltage already in force returns to RUN and
completes with OK; else it waits for the supply. From RUN with no page admitted and a moving axis the entry is refused with block
2, reason 2, and nothing but the PWR alert and the last transition changes. In RUN, raising the level starts the PMBus write with
the clocks as they are; PL_0 to PL_1 within the decoders' budget moves the clocks first. (spec/13 R354, R356, R357, R359, R360,
R363; spec/13 Table 13-3; spec/13 Table 13-4) -/
def Obligations.PowerTransitionsRun : Prop :=
(∀ (s : State) (h : MbHdr) (b : Byte), Safety.served s h 4 = true → b = 2 ∨ b = 3 → s.pwr.st = .run → s.pwr.trans = none →
    (s.pwr.wakeEnable.getLsbD 1 && s.alarmActive) = false → Safety.Resting s →
    ∃ t, exec (.pwrSetState h b 0) s = .next t ∧ t.pwr.st = (if b = 2 then .standby else .off) ∧ t.pwr.pwrEn = false ∧
      t.pwr.lastSleep = BitVec.ofNat 64 s.calendar64 ∧ t.nvm = s.nvm.unpowered ∧ t.fuse = s.fuse) ∧
  (∀ (s : State) (h : MbHdr), Safety.served s h 4 = true → s.pwr.st = .hold → s.pwr.trans = none → s.pwr.voltLevel = s.pwr.level →
    (∀ i ∈ s.host.inflight, i.wait ≠ .power) →
    ∃ t, exec (.pwrSetState h 0 0) s = .next t ∧ Safety.Completed h 0x0E01 0 [] t ∧ t.pwr.st = .run ∧ t.pwr.trans = none ∧
      t.pwr.level = s.pwr.level) ∧
  (∀ (s : State) (h : MbHdr), Safety.served s h 4 = true → s.pwr.st = .hold → s.pwr.trans = none → s.pwr.voltLevel < s.pwr.level →
    (∀ i ∈ s.host.inflight, i.wait ≠ .power) →
    ∃ t, exec (.pwrSetState h 0 0) s = .next t ∧ Safety.Waits h 0x0E01 .power [] s t ∧ t.pwr.st = .run ∧
      t.pwr.trans.map (·.pmbus) = some true) ∧
  (∀ (s : State) (h : MbHdr) (b : Byte), Safety.served s h 4 = true → b = 1 ∨ b = 2 ∨ b = 3 → s.pwr.st = .run → s.pwr.trans = none →
    (s.pwr.wakeEnable.getLsbD 1 && s.alarmActive) = false → s.bat.pages = [] → s.axisMoving = true →
    (∀ i ∈ s.host.inflight, i.wait ≠ .power) →
    ∃ t, exec (.pwrSetState h b 0) s = .next t ∧ Safety.AnsweredWith h 0x0E01 0x0E01 ([2, 2, 0, 0] ++ zeros 4) s t ∧
      t = { s with host := t.host }) ∧
  (∀ (s : State) (h : MbHdr) (b : Byte), Safety.served s h 4 = true → s.pwr.st = .run → s.pwr.trans = none →
    b.toNat < s.pwr.level → b.toNat < s.pwr.voltLevel → s.pwr.level ≤ 3 → (∀ i ∈ s.host.inflight, i.wait ≠ .power) →
    ∃ t, exec (.pwrSetLevel h b 0) s = .next t ∧ Safety.Waits h 0x0E02 .power [] s t ∧
      t = { s with host := t.host,
                   pwr := { s.pwr with trans := some { goal := .level b.toNat, startTick := s.time.ticks, pmbus := true } } }) ∧
  (∀ (s : State) (h : MbHdr), Safety.served s h 4 = true → s.pwr.st = .run → s.pwr.trans = none → s.pwr.level = 0 →
    s.pwr.voltLevel = 0 → s.overBudget = false → (∀ i ∈ s.host.inflight, i.wait ≠ .power) →
    ∃ t, exec (.pwrSetLevel h 1 0) s = .next t ∧ Safety.Waits h 0x0E02 .power [] s t ∧
      t = { s with host := t.host, pwr := { s.pwr with
        level := 1,
        trans := some { goal := .level 1, startTick := s.time.ticks, accepted := [1], pmbus := true } } })

/-- The LOG commands report, clear, set and read the recorder; the HEALTH commands report, clear, set and unretire. LOG_STATUS and
LOG_READ answer from the ring and change nothing; LOG_SET stores ALERT_SEVERITY; LOG_CLEAR of a sequence held or cleared up to,
not below the last, journals CLEARED_SEQ. HEALTH_GET_REPORT answers the report of the state in which a new clock hour has ended
the droop-rate condition. HEALTH_CLEAR of causes none of which is active leaves none of them active or latched. HEALTH_SET stores
its thresholds. HEALTH_UNRETIRE of a retired part journals the request. (spec/14 R378–R380, R384, R385; spec/14 Table 14-3;
spec/14 Table 14-5; spec/14 Table 14-8) -/
def Obligations.LogAndHealthCommandsRun : Prop :=
(∀ (s : State) (h : MbHdr), Safety.served s h 0 = true →
    ∃ t, exec (.logStatus h) s = .next t ∧ Safety.Answered h 0x0F01 0 s.logStatusBytes s t ∧ t = { s with host := t.host }) ∧
  (∀ (s : State) (h : MbHdr) (q : BitVec 32), Safety.served s h 4 = true → s.logBeyond q = false →
    (∀ c, s.log.clearedSeq = some c → seqLe c q = true) →
    ∃ t, exec (.logClear h q) s = .next t ∧ Safety.AnsweredWith h 0x0F02 0 [] s t ∧
      t = { s with host := t.host, log := t.log, nvm := { s.nvm with id := { s.nvm.id with clearedSeq := some q } } } ∧
      t.log.clearedSeq = some q ∧ t.log.ring = s.log.ring ∧ t.log.nextSeq = s.log.nextSeq) ∧
  (∀ (s : State) (h : MbHdr) (sev : Byte), Safety.served s h 4 = true → sev.toNat ≤ 2 →
    ∃ t, exec (.logSet h sev 0) s = .next t ∧ Safety.Answered h 0x0F03 0 [] s t ∧
      t = { s with host := t.host, log := { s.log with alertSev := sev.toNat } }) ∧
  (∀ (s : State) (h : MbHdr) (q : BitVec 32) (count : BitVec 16), Safety.served s h 8 = true → 1 ≤ count.toNat → count.toNat ≤ 63 →
    ∃ t, exec (.logRead h q count 0) s = .next t ∧ Safety.Answered h 0x0F04 0 (s.readRecords q count.toNat) s t ∧
      t = { s with host := t.host }) ∧
  (∀ (s : State) (h : MbHdr), Safety.served s h 0 = true →
    ∃ t, exec (.healthGetReport h) s = .next t ∧ Safety.AnsweredWith h 0x1301 0 s.hourRoll.healthReport s t ∧
      t = { s with host := t.host, pwr := s.hourRoll.pwr, health := s.hourRoll.health, log := s.hourRoll.log } ∧
      (s.pwr.hour = s.hourNow → t.pwr = s.pwr ∧ t.health = s.health ∧ t.log = s.log ∧ t.host.alert = s.host.alert)) ∧
  (∀ (s : State) (h : MbHdr) (causes : BitVec 16), Safety.served s h 4 = true → causes.toNat < 2048 →
    (∀ c, c < 11 → causes.getLsbD c = true → s.hourRoll.health.active.getLsbD c = false) →
    ∃ t, exec (.healthClear h causes 0) s = .next t ∧ Safety.AnsweredWith h 0x1302 0 [] s t ∧
      t = { s with host := t.host, pwr := t.pwr, health := t.health, log := t.log } ∧
      ∀ c, c < 11 → causes.getLsbD c = true → t.health.active.getLsbD c = false ∧ t.health.latched.getLsbD c = false) ∧
  (∀ (s : State) (h : MbHdr) (tj pll : BitVec 16), Safety.served s h 4 = true → 0x0500 ≤ tj.toInt → tj.toInt ≤ 0x0690 →
    10 ≤ pll.toNat → pll.toNat ≤ 500 →
    ∃ t, exec (.healthSet h tj pll) s = .next t ∧ Safety.Answered h 0x1303 0 [] s t ∧
      t = { s with host := t.host, health := { s.health with tjWarn := tj.toInt, pllMin := pll.toNat } }) ∧
  (∀ (s : State) (h : MbHdr) (kind index : Byte), Safety.served s h 4 = true → kind.toNat ≤ 3 →
    index.toNat ≤ (if kind = 0 then 47 else if kind = 1 then 3 else 15) → s.partRetired kind.toNat index.toNat = true →
    ∃ t, exec (.healthUnretire h kind index 0) s = .next t ∧ Safety.Answered h 0x1304 0 [] s t ∧
      t = { s with host := t.host, nvm := { s.nvm with id := { s.nvm.id with
        unretire := s.nvm.id.unretire.filter (· != (kind.toNat, index.toNat)) ++ [(kind.toNat, index.toNat)] } } })

/-- The DRAM commands report, map, divide, set priorities and thresholds, count and retire. The DRAM reports answer and change
nothing (the burst counts of DRAM_GET_COUNTERS come from free values). With nothing using DRAM a good map is stored and journaled
and no byte outside the firmware region keeps a defined value. DRAM_SET_REGIONS of sizes that fit, page store unmoved, stores and
journals them. DRAM_SET_QOS of a permutation of 1 to 7 and DRAM_SET_HEALTH in range store their fields. DRAM_RETIRE with FLAGS 0
makes the channel RETIRING with its cause journaled; RESTORE clears the journaled retirement. (spec/11 R307–R318; spec/11 Table
11-5; spec/11 Table 11-6; spec/11 Table 11-7; spec/11 Table 11-12) -/
def Obligations.DramCommandsRun : Prop :=
(∀ (s : State) (h : MbHdr), Safety.served s h 0 = true →
    ∃ t, exec (.dramGetConfig h) s = .next t ∧ Safety.Answered h 0x1101 0 s.dramConfig s t ∧ t = { s with host := t.host }) ∧
  (∀ (s : State) (h : MbHdr) (mode grain : Byte) (ms : List (BitVec 64)), Safety.served s h 56 = true →
    (mode = 0 ∧ grain = 0 ∧ s.masksOk (ms.map BitVec.toNat) = true ∨ mode = 1 ∧ 8 ≤ grain.toNat ∧ grain.toNat ≤ 16) →
    s.dramBusy = false →
    ∃ t, exec (.dramSetMap h mode grain 0 ms) s = .next t ∧ Safety.Answered h 0x1102 0 [] s t ∧
      t = { s with host := t.host, dram := t.dram, nvm := { s.nvm with id := { s.nvm.id with
              map := some (mode.toNat, grain.toNat, ms.map BitVec.toNat) } }, free := t.free } ∧
      t.dram.interleave = (mode == 1) ∧ t.dram.grainLog2 = grain.toNat ∧ t.dram.regions = s.dram.regions ∧
      (mode = 0 → t.dram.masks = some (ms.map BitVec.toNat))) ∧
  (∀ (s : State) (h : MbHdr) (a b c d : BitVec 16), Safety.served s h 8 = true → a ≠ 0 ∧ b ≠ 0 ∧ c ≠ 0 ∧ d ≠ 0 →
    (a.toNat + b.toNat + c.toNat + d.toNat + 2) * unit256 ≤ s.dramBytes → s.regionsBusy true = false →
    (s.setRegions [a.toNat, b.toNat, c.toNat, d.toNat]).region 1 = s.region 1 →
    ∃ t, exec (.dramSetRegions h a b c d) s = .next t ∧ Safety.Answered h 0x1103 0 [] s t ∧
      t = { s with host := t.host, dram := t.dram, free := t.free, nvm := { s.nvm with id := { s.nvm.id with
              regions := some [a.toNat, b.toNat, c.toNat, d.toNat] } } } ∧
      t.dram.regions = some [a.toNat, b.toNat, c.toNat, d.toNat]) ∧
  (∀ (s : State) (h : MbHdr), Safety.served s h 0 = true →
    ∃ t, exec (.dramGetRegions h) s = .next t ∧
      Safety.Answered h 0x1104 0 ((List.range 7).flatMap fun i => le 8 (s.region i).1 ++ le 8 (s.region i).2) s t ∧
      t = { s with host := t.host }) ∧
  (∀ (s : State) (h : MbHdr) (pr : List Byte) (hi lo : Byte), Safety.served s h 12 = true → pr.length = 7 →
    (∀ p, p ∈ [1, 2, 3, 4, 5, 6, 7] → p ∈ pr.map BitVec.toNat) → 16 ≤ hi.toNat → hi.toNat ≤ 128 → lo.toNat + 16 ≤ hi.toNat →
    ∃ t, exec (.dramSetQos h pr 0 hi lo 0) s = .next t ∧ Safety.Answered h 0x1105 0 [] s t ∧
      t = { s with host := t.host,
                   dram := { s.dram with priority := pr.map BitVec.toNat, wmHigh := hi.toNat, wmLow := lo.toNat } }) ∧
  (∀ (s : State) (h : MbHdr) (w l : BitVec 16) (ce : BitVec 32) (scrub : BitVec 16), Safety.served s h 12 = true → 10 ≤ w.toNat →
    w.toNat ≤ 10000 → l ≠ 0 → ce ≠ 0 → 1 ≤ scrub.toNat → scrub.toNat ≤ 168 →
    ∃ t, exec (.dramSetHealth h w l ce scrub 0) s = .next t ∧ Safety.Answered h 0x1106 0 [] s t ∧
      t = { s with host := t.host, dram := { s.dram with
        hotWindowUs := w.toNat, hotLimit := l.toNat, ceLimit := ce.toNat, scrubHours := scrub.toNat } }) ∧
  (∀ (s : State) (h : MbHdr) (c : Byte), Safety.served s h 4 = true → c.toNat ≤ 1 →
    ∃ t r w, exec (.dramGetCounters h c 0) s = .next t ∧
      Safety.Answered h 0x1107 0 (le 8 r ++ le 8 w ++ le 8 (s.dram.ce.get 0 c.toNat).toNat ++ le 8 (s.dram.ue.get 0 c.toNat).toNat ++
        le 8 (s.dram.hotWindows.get 0 c.toNat).toNat ++ le 8 (s.dram.conflicts.get 0 c.toNat).toNat ++
        le 8 (s.dram.lastBank.get 0 c.toNat).toNat) s t ∧ t = { s with host := t.host, free := t.free }) ∧
  (∀ (s : State) (h : MbHdr) (c : Byte), Safety.served s h 4 = true → c.toNat ≤ 1 → s.chDown = none →
    ∃ t, exec (.dramRetire h c 0 0) s = .next t ∧ Safety.AnsweredWith h 0x1108 0 [] s t ∧
      t = { s with host := t.host, dram := { s.dram with retiring := some c.toNat }, health := t.health, log := t.log,
                   nvm := { s.nvm with id := { s.nvm.id with retiredCh := some c.toNat } } } ∧ t.health.active.getLsbD 0 = true) ∧
  (∀ (s : State) (h : MbHdr) (c : Byte), Safety.served s h 4 = true →
    ∃ t, exec (.dramRetire h c 2 0) s = .next t ∧ Safety.Answered h 0x1108 0 [] s t ∧
      t = { s with host := t.host, nvm := { s.nvm with id := { s.nvm.id with retiredCh := none } } })

/-- DMA_SET_CHANNEL sets a channel, RUN, STOP and CLEAR move its state, the pointer and count writes take effect. DMA_SET_CHANNEL
with good fields on an IDLE or READY channel makes it READY with both pointers 0 and changes no other channel; DMA_GET_CHANNEL
answers its settings and counters. Without a power handshake past step 6, RUN starts a READY or STOPPED channel; STOP stops one
with nothing outstanding, and lets what is outstanding finish first; CLEAR returns a stopped egress channel to READY with REMAIN
0. A pointer write that keeps order, alignment and size is stored, any other sets PTR_ERR; a COUNT_ADD of a positive multiple of 8
adds, and restarts a DONE channel. (spec/11 R321, R323, R325, R333; spec/11 Table 11-8; spec/11 Table 11-9; spec/11 Table 11-11)
-/
def Obligations.DmaChannelsSet : Prop :=
(∀ (s : State) (h : MbHdr) (p : DmaReq), Safety.served s h 32 = true → p.rsv = 0 → dmaBad p s = none →
    ∃ t, exec (.dmaSetChannel h p) s = .next t ∧ Safety.Answered h 0x1201 0 [] s t ∧ t = { s with host := t.host, dma := t.dma } ∧
      t.dmaN p.channel.toNat = { s.dmaN p.channel.toNat with
        st := .ready, egress := (p.dir == 1), dramRing := (p.endpoint == 1), priority := p.priority.toNat, retries := p.retries.toNat,
        ringLog2 := p.ringLog2.toNat, dramLog2 := p.dramLog2.toNat, ringBase := p.ringBase, wbAddr := p.wbAddr, dramBase := p.dramBase,
        prod := 0, cons := 0, dramPos := 0, retriesLeft := p.retries.toNat, retrying := false, stopping := false, rbOpen := none,
        reqs := [], writes := [] } ∧
      ∀ c, c ≠ p.channel.toNat → t.dmaN c = s.dmaN c) ∧
  (∀ (s : State) (h : MbHdr) (c : Byte), Safety.served s h 4 = true → c.toNat ≤ 31 →
    ∃ t, exec (.dmaGetChannel h c 0) s = .next t ∧ Safety.Answered h 0x1202 0 ((s.dmaN c.toNat).bytes c.toNat) s t ∧
      t = { s with host := t.host }) ∧
  (∀ (s : State) (c : Nat), s.alive = true → s.host.live = true → c < 32 → s.stepAccepted 6 = false →
    (s.dmaN c).st = .ready ∨ (s.dmaN c).st = .stopped →
    ∃ t, exec (.run c false) s = .next t ∧ Safety.Quiet s t ∧ t = { s with host := t.host, dma := t.dma } ∧
      t.dmaN c = { s.dmaN c with st := .running, runHeld := false } ∧ ∀ d, d ≠ c → t.dmaN d = s.dmaN d) ∧
  (∀ (s : State) (c : Nat), s.alive = true → s.host.live = true → c < 32 → (s.dmaN c).st = .running →
    ((s.dmaN c).retrying || (s.dmaN c).rbOpen.isSome || !(s.dmaN c).reqs.isEmpty) = false →
    ∃ t, exec (.stop c) s = .next t ∧ Safety.Quiet s t ∧ t = { s with host := t.host, dma := t.dma } ∧
      t.dmaN c = { s.dmaN c with st := .stopped } ∧ ∀ d, d ≠ c → t.dmaN d = s.dmaN d) ∧
  (∀ (s : State) (c : Nat), s.alive = true → s.host.live = true → c < 32 → (s.dmaN c).st = .running →
    ((s.dmaN c).retrying || (s.dmaN c).rbOpen.isSome || !(s.dmaN c).reqs.isEmpty) = true →
    ∃ t, exec (.stop c) s = .next t ∧ Safety.Quiet s t ∧ t = { s with host := t.host, dma := t.dma } ∧
      t.dmaN c = { s.dmaN c with stopping := true } ∧ ∀ d, d ≠ c → t.dmaN d = s.dmaN d) ∧
  (∀ (s : State) (c : Nat), s.alive = true → s.host.live = true → c < 32 → (s.dmaN c).egress = true →
    (s.dmaN c).st = .halted ∨ (s.dmaN c).st = .done ∨ (s.dmaN c).st = .stopped →
    ∃ t, exec (.clear c) s = .next t ∧ Safety.Quiet s t ∧ t = { s with host := t.host, dma := t.dma } ∧
      t.dmaN c = { s.dmaN c with st := .ready, remain := 0, err := 0, retrying := false, rbOpen := none, reqs := [],
                                 retriesLeft := (s.dmaN c).retries, stopping := false } ∧ ∀ d, d ≠ c → t.dmaN d = s.dmaN d) ∧
  (∀ (s : State) (c : Nat) (v : BitVec 64), s.alive = true → s.host.live = true → c < 32 → (s.dmaN c).egress = false →
    ∃ t, exec (.dmaProdWrite c (.whole v)) s = .next t ∧
      t = { s with host := t.host, dma := t.dma } ∧ (∀ d, d ≠ c → t.dmaN d = s.dmaN d) ∧
      t.dmaN c = if v.toNat % 8 = 0 ∧ (s.dmaN c).prod.toNat ≤ v.toNat ∧ (s.dmaN c).cons.toNat ≤ v.toNat ∧
        v.toNat - (s.dmaN c).cons.toNat ≤ 2 ^ (s.dmaN c).ringLog2 then { s.dmaN c with prod := v } else { s.dmaN c with ptrErr := true }) ∧
  (∀ (s : State) (c : Nat) (v : BitVec 64), s.alive = true → s.host.live = true → c < 32 → (s.dmaN c).egress = true →
    ∃ t, exec (.dmaConsWrite c (.whole v)) s = .next t ∧
      t = { s with host := t.host, dma := t.dma } ∧ (∀ d, d ≠ c → t.dmaN d = s.dmaN d) ∧
      t.dmaN c = if v.toNat % 8 = 0 ∧ (s.dmaN c).cons.toNat ≤ v.toNat ∧ v.toNat ≤ (s.dmaN c).prod.toNat ∧
        (s.dmaN c).prod.toNat - v.toNat ≤ 2 ^ (s.dmaN c).ringLog2 then { s.dmaN c with cons := v } else { s.dmaN c with ptrErr := true }) ∧
  (∀ (s : State) (c : Nat) (v : BitVec 32), s.alive = true → s.host.live = true → c < 32 →
    ∃ t, exec (.dmaCountAdd c v) s = .next t ∧ Safety.Quiet s t ∧ t = { s with host := t.host, dma := t.dma } ∧
      (∀ d, d ≠ c → t.dmaN d = s.dmaN d) ∧
      t.dmaN c = if v = 0 ∨ v.toNat % 8 ≠ 0 then { s.dmaN c with ptrErr := true }
        else { s.dmaN c with remain := (s.dmaN c).remain + v.setWidth 64,
                             st := if (s.dmaN c).st = .done then .running else (s.dmaN c).st })

/-- Doorbells, cancels, register writes and BAR2 accesses of the host act as their registers say. With the link up: a doorbell on
a free slot serves the request its area holds, or answers BAD_OPCODE; while the firmware restarts it is held. A cancel of a slot
whose command has not started completes it with CANCELLED, one of a busy slot stays set until completion, one of a slot without a
command does nothing. A W1C write clears exactly the alert bits named; a mask write stores the register's bits; MB_INT_MASK and
RL_CONFIG in range are stored; a misaligned write does nothing. A BAR2 access within window and Free region writes or reads the
bytes there; a write beyond the Free region is dropped and counted, a read beyond answers Unsupported Request. (spec/12 R331,
R333, R336–R340, R342, R343; spec/01 R18; spec/12 Table 12-2; spec/12 Table 12-5) -/
def Obligations.HostAccessesAct : Prop :=
(∀ (s : State) (k : Nat) (i : Instr), k < 8 → Safety.rings s (s.reqHdr k).1 = true →
    reqOf (s.reqHdr k).2 (s.reqHdr k).1 (s.areaBytes k 16 2032) = some i →
    ∃ t, exec (.mbDoorbell (bit8 k)) s = .next t ∧ t = { settle s (serve i s) with pending := s.pending }) ∧
  (∀ (s : State) (k : Nat), k < 8 → Safety.rings s (s.reqHdr k).1 = true → s.isReady = true →
    reqOf (s.reqHdr k).2 (s.reqHdr k).1 (s.areaBytes k 16 2032) = none →
    ∃ t, exec (.mbDoorbell (bit8 k)) s = .next t ∧ Safety.Answered (s.reqHdr k).1 (s.reqHdr k).2 0x0001 [] s t ∧
      t = { s with host := t.host }) ∧
  (∀ (s : State) (k : Nat), k < 8 → s.alive = true → s.host.live = true → s.boot.stage = .restarting →
    (s.host.busy ||| s.host.done) &&& bit8 k = 0 → s.host.doorbell &&& bit8 k = 0 →
    ∃ t, exec (.mbDoorbell (bit8 k)) s = .next t ∧ t = { s with host := t.host } ∧
      Safety.QuietHost (fun m => { m with doorbell := m.doorbell ||| bit8 k, held := m.held ++ [.slot k] }) s t) ∧
  (∀ (s : State) (k : Nat), k < 8 → s.alive = true → s.host.live = true → s.host.busy &&& bit8 k ≠ 0 →
    ∃ t, exec (.mbCancel (bit8 k)) s = .next t ∧ t = { s with host := t.host } ∧
      Safety.QuietHost (fun m => { m with cancel := m.cancel ||| bit8 k }) s t) ∧
  (∀ (s : State) (k : Nat) (e : HeldDoor), k < 8 → s.alive = true → s.host.live = true → s.host.busy &&& bit8 k = 0 →
    s.host.held.find? (fun x => slotOf x == k) = some e →
    ∃ t, exec (.mbCancel (bit8 k)) s = .next t ∧ t = { s with host := t.host } ∧ t.host.held = s.host.held.erase e ∧
      Safety.Completed (s.heldHdr e).1 (s.heldHdr e).2 0x0007 [] t ∧ t.host.alert = s.host.alert ∧
      (t.host.doorbell ||| t.host.busy ||| t.host.cancel) &&& slotBit (s.heldHdr e).1.slot = 0) ∧
  (∀ (s : State) (k : Nat), k < 8 → s.alive = true → s.host.live = true → s.host.busy &&& bit8 k = 0 →
    (∀ x ∈ s.host.held, slotOf x ≠ k) →
    ∃ t, exec (.mbCancel (bit8 k)) s = .next t ∧ Safety.Quiet s t ∧ t = { s with host := t.host }) ∧
  (∀ (s : State) (o : Nat) (r : AlertReg) (v : BitVec 64), s.alive = true → s.host.live = true → o % 4 = 0 → alertAt o = some (r, false) →
    ∃ t, exec (.registerWrite o false v) s = .next t ∧ t = { s with host := t.host } ∧
      t.alertOf r = s.alertOf r &&& ~~~(v.setWidth 32) ∧ ∀ q, q ≠ r → t.alertOf q = s.alertOf q) ∧
  (∀ (s : State) (o : Nat) (r : AlertReg) (v : BitVec 64), s.alive = true → s.host.live = true → o % 4 = 0 → alertAt o = some (r, true) →
    ∃ t, exec (.registerWrite o false v) s = .next t ∧ t = { s with host := t.host } ∧
      t.maskOf r = v.setWidth 32 &&& r.bits ∧ (∀ q, q ≠ r → t.maskOf q = s.maskOf q) ∧ t.host.alert = s.host.alert) ∧
  (∀ (s : State) (v : BitVec 64), s.alive = true → s.host.live = true →
    ∃ t, exec (.registerWrite 0x50 false v) s = .next t ∧ t = { s with host := t.host } ∧
      Safety.QuietHost (fun m => { m with intMask := v.setWidth 8 }) s t) ∧
  (∀ (s : State) (v : BitVec 64), s.alive = true → s.host.live = true → (v.extractLsb' 4 8).toNat ≠ 0 → 5 ≤ (v.extractLsb' 12 8).toNat →
    (v.extractLsb' 20 2).toNat ≠ 3 →
    ∃ t, exec (.registerWrite 0x200 false v) s = .next t ∧ Safety.Quiet s t ∧
      t = { s with host := t.host, rlConfig := (v.setWidth 22).setWidth 32 }) ∧
  (∀ (s : State) (o : Nat) (v : BitVec 64), s.alive = true → s.host.live = true → o % 4 ≠ 0 →
    ∃ t, exec (.registerWrite o false v) s = .next t ∧ Safety.Quiet s t ∧ t = { s with host := t.host }) ∧
  (∀ (s : State) (o : Nat) (d : List Byte), s.alive = true → s.host.live = true → s.bar2Has o = true → o + d.length ≤ s.freeSize →
    ∃ t, exec (.bar2Write o d) s = .next t ∧ Safety.Quiet s t ∧
      t = { s with host := t.host, dram := s.dram.writeAll (s.freeBase + o) d }) ∧
  (∀ (s : State) (o : Nat) (d : List Byte), s.alive = true → s.host.live = true → s.bar2Has o = true → s.freeSize < o + d.length →
    ∃ t, exec (.bar2Write o d) s = .next t ∧ t = { s with host := t.host } ∧
      Safety.QuietHost (fun m => { m with aerDropped := m.aerDropped + 1 }) s t) ∧
  (∀ (s : State) (o n : Nat), s.alive = true → s.host.live = true → s.bar2Has o = true →
    ∃ t, exec (.bar2Read o n) s = .next t ∧ t = { s with host := t.host } ∧
      Safety.QuietHost (fun m => { m with
        bar2Out := if o + n ≤ s.freeSize then some (s.dram.readAll (s.freeBase + o) n) else none }) s t)

/-- Function Level Reset, Hot Reset, link down and PERST# reset the host interface alone. Each empties the mailbox, takes every
DMA channel to IDLE, returns masks and MSI-X state to reset, marks started commands' responses discarded and writes an event;
nothing outside host interface, DMA, pending binds and recorder changes. LINK_DOWN and PERST# also end the link, which
PCIE_LINK_UP brings back when PERST# is high. PERST_RISE of a running chip releases PERST# and PCIE_WAKE_N. (spec/12 R332; spec/11
R325; spec/13 R365, R366; spec/12 Table 12-5) -/
def Obligations.HostResetsStayInside : Prop :=
(∀ (s : State), s.alive = true → s.host.live = true →
    ∃ t, exec .functionLevelReset s = .next t ∧ t = { s with host := t.host, dma := t.dma, slate := t.slate, log := t.log } ∧
      Safety.AlertedHost HostIf.cleared s t ∧ ∀ c, c < 32 → (t.dmaN c).st = .idle) ∧
  (∀ (s : State), s.alive = true → s.host.live = true →
    ∃ t, exec .hotReset s = .next t ∧ t = { s with host := t.host, dma := t.dma, slate := t.slate, log := t.log } ∧
      Safety.AlertedHost HostIf.cleared s t ∧ ∀ c, c < 32 → (t.dmaN c).st = .idle) ∧
  (∀ (s : State), s.alive = true → s.host.live = true →
    ∃ t, exec .linkDown s = .next t ∧ t = { s with host := t.host, dma := t.dma, slate := t.slate, log := t.log } ∧
      Safety.AlertedHost (fun m => { m.cleared with live := false }) s t ∧ ∀ c, c < 32 → (t.dmaN c).st = .idle) ∧
  (∀ (s : State), s.alive = true →
    ∃ t, exec .perstAssert s = .next t ∧ t = { s with host := t.host, dma := t.dma, slate := t.slate, log := t.log } ∧
      Safety.AlertedHost (fun m => { m.cleared with perst := true, live := false }) s t ∧ ∀ c, c < 32 → (t.dmaN c).st = .idle) ∧
  (∀ (s : State), s.alive = true → s.host.perst = false →
    ∃ t, exec .pcieLinkUp s = .next t ∧ t = { s with host := t.host } ∧ Safety.QuietHost (fun m => { m with live := true }) s t) ∧
  (∀ (s : State), s.pwr.st = .run → s.pwr.trans = none →
    ∃ t, exec .perstRise s = .next t ∧ t = { s with host := t.host, pwr := { s.pwr with pcieWakeN := true } } ∧
      Safety.QuietHost (fun m => { m with perst := false }) s t) ∧
  (∀ (h : HostIf), h.cleared.doorbell = 0 ∧ h.cleared.busy = 0 ∧ h.cleared.done = 0 ∧ h.cleared.cancel = 0 ∧ h.cleared.intMask = 0 ∧
    h.cleared.resp = [] ∧ h.cleared.reqArea = [] ∧ h.cleared.mask = [] ∧ h.cleared.msixPba = 0 ∧
    (∀ i ∈ h.cleared.inflight, i.discard = true) ∧ h.cleared.alert = h.alert)

/-- RESET_N, image, DRAM training and READY take the chip through start-up. A falling RESET_N takes the chip to reset, keeping
fuses, flash, heads and calendar. A rising one samples the straps and starts the boot ROM, or RECOVERY under BOOT_MODE 2. In ROM
the first readable image that R345 accepts runs (DRAM training next); with none, STAGE is FAILED or RECOVERY by BOOT_MODE.
Training of both channels of a chip without a retired one goes on to restoring the store; of neither gives BOOT_ERR 7. READY ends
start-up, and a pair's link leaves OFF. A TAP instruction acts as itself where accepted, else as BYPASS. (spec/12 R344–R347;
spec/11 R305, R306; spec/14 R376; spec/15 R395, R402; spec/12 Table 12-10) -/
def Obligations.StartUpRuns : Prop :=
(∀ (s : State), s.boot.resetN = true →
    ∃ t, exec .resetNFall s = .next t ∧ t.boot.resetN = false ∧ t.boot.stage = .rom ∧ t.fire.permit = false ∧ t.fuse = s.fuse ∧
      t.head = s.head ∧ t.boot.flash = s.boot.flash ∧ t.bat.pages = [] ∧ t.pwr.wakeEnable = 5 ∧ t.pwr.retMask = 0 ∧
      t.pwr.pwrEn = true ∧ t.time.calValid = s.time.calValid ∧ t.log.ring = s.log.ring) ∧
  (∀ (s : State) (straps : BitVec 5), s.boot.resetN = false → s.pwr.corePg = true →
    ∃ t, exec (.resetNRise straps) s = .next t ∧ t.boot.resetN = true ∧ t.boot.bootMode = straps.toNat % 4 ∧
      t.boot.xspiOctal = straps.getLsbD 2 ∧ t.boot.twinEn = straps.getLsbD 3 ∧ t.boot.twinPrefer = straps.getLsbD 4 ∧
      t.boot.stage = (if straps.toNat % 4 = 2 then .recovery else .rom) ∧
      t = { s with host := t.host, boot := t.boot, time := t.time, twin := t.twin }) ∧
  (∀ (s : State) (eA eB : Bool) (k : Nat), s.alive = true → s.boot.stage = .rom → s.slotOrder.head? = some k →
    (if k = 0 then eA else eB) = false → s.imageCode (s.slotByte k) = 0 →
    ∃ t, exec (.imageLoadDone eA eB) s = .next t ∧ Safety.Quiet s t ∧ t = { s with host := t.host, boot := { s.boot with
      stage := .dramTrain, bootSlot := k, fwVersion := (imageInfo (s.slotByte k)).fwVersion, imgSvn := (imageInfo (s.slotByte k)).svn,
      imgKey := (imageInfo (s.slotByte k)).key, board := (imageInfo (s.slotByte k)).board } }) ∧
  (∀ (s : State), s.alive = true → s.boot.stage = .rom →
    ∃ t, exec (.imageLoadDone true true) s = .next t ∧ Safety.Quiet s t ∧ t = { s with host := t.host, boot := { s.boot with
      stage := if s.boot.bootMode = 0 then .failed else .recovery, bootErr := 6 } }) ∧
  (∀ (s : State) (r : TrainReport), s.alive = true → s.boot.stage = .dramTrain → s.nvm.id.retiredCh = none → r.ok0 = true → r.ok1 = true →
    ∃ t, exec (.dramTrainDone r) s = .next t ∧ t.boot.stage = .storeRestore ∧ t.dram.trained = true ∧ t.dram.retired = none ∧
      t.boot.bootErr = s.boot.bootErr ∧ t.nvm.id.unretire = [] ∧ t.pwr = s.pwr ∧ t.time = s.time) ∧
  (∀ (s : State) (r : TrainReport), s.alive = true → s.boot.stage = .dramTrain → r.ok0 = false → r.ok1 = false →
    ∃ t, exec (.dramTrainDone r) s = .next t ∧ t.boot.bootErr = 7 ∧
      t.boot.stage = (if s.boot.bootMode = 0 then .failed else .recovery)) ∧
  (∀ (s : State) (ms : BitVec 32), s.alive = true → s.boot.stage = .storeRestore →
    ∃ t, exec (.ready ms) s = .next t ∧ t.boot.stage = .ready ∧ t.geo.committed = s.nvm.id.geo ∧ t.pwr.lastWake = s.pwr.aonWake ∧
      (s.boot.twinEn = true → t.twin.link = .detect)) ∧
  (∀ (s : State) (code : Byte),
    ∃ t, exec (.tapInstruction code) s = .next t ∧ Safety.Quiet s t ∧ t = { s with host := t.host, boot := { s.boot with
      tap := if code = 1 ∨ code = 2 then code else if code ∈ [0, 3, 4, 5, 6] ∧ s.boot.resetN = false then code else 0xFF } })

/-- PMBus, CORE_PG, PWR_EN and AON events drive the supply; a lockstep mismatch restarts the firmware and a second holds the
cores. An acknowledged PMBus write puts the goal's voltage in force, settling when it raised it; a faulty one ends the change with
SUPPLY_FAULT. The settle time moves the clocks and ends a raise to PL_0. CORE_PG starts a waking chip; its timeout drops PWR_EN,
and after the third attempt latches WAKE_FAIL; the retry raises it. CORE_PG falling resets the chip. RET_BROWNOUT latches. AON
loss invalidates the calendar. A first mismatch restarts the firmware, a second within 10 s holds the cores; the restart's end
makes the stage READY again and sets RESTARTED. (spec/13 R363–R365, R367, R368; spec/15 R392, R393; spec/01 R18, R19; spec/12
R341) -/
def Obligations.SupplyEventsAct : Prop :=
(∀ (s : State) (tr : Trans), s.alive = true → s.pwr.trans = some tr → tr.pmbus = true → tr.goal.voltage s.pwr.level < s.pwr.voltLevel →
    ∃ t, exec (.pmbusWriteDone true 0) s = .next t ∧ Safety.Quiet s t ∧ t = { s with host := t.host, pwr := { s.pwr with
      voltLevel := tr.goal.voltage s.pwr.level, supplyFault := false, trans := some { tr with pmbus := false, settling := true } } }) ∧
  (∀ (s : State) (tr : Trans) (v : Byte), s.alive = true → s.pwr.trans = some tr → tr.pmbus = true → v ≠ 0 →
    ∃ t, exec (.pmbusWriteDone true v) s = .next t ∧ t = { s with host := t.host, log := t.log, pwr := { s.pwr with
      supplyFault := true, trans := none } } ∧ Safety.Raised .pwr 7 t) ∧
  (∀ (s : State) (tr : Trans), s.alive = true → s.pwr.trans = some tr → tr.settling = true → tr.goal = .level 0 →
    ∃ t, exec .vsettleExpiry s = .next t ∧ t.pwr = { s.pwr with level := 0, trans := none } ∧ Safety.Raised .pwr 3 t) ∧
  (∀ (s : State) (bad : BitVec 64), s.pwr.corePg = false → s.pwr.pwrEn = true → s.pwr.st = .off → s.pwr.waking = true →
    s.pwr.fromStandby = false → s.boot.bootMode ≠ 2 →
    ∃ t, exec (.corePgRise bad) s = .next t ∧ t.pwr.st = .run ∧ t.pwr.corePg = true ∧ t.pwr.waking = false ∧ t.boot.stage = .rom) ∧
  (∀ (s : State), s.pwr.waking = true → s.pwr.pwrEn = true → s.pwr.corePg = false →
    ∃ t, exec .corePgTimeout s = .next t ∧ Safety.Quiet s t ∧ t = { s with host := t.host, pwr := t.pwr } ∧
      t.pwr = (if s.pwr.attempts < 3 then { s.pwr with pwrEn := false }
        else { s.pwr with pwrEn := false, waking := false, attempts := 0, aonWakeFail := true })) ∧
  (∀ (s : State), s.pwr.waking = true → s.pwr.pwrEn = false →
    ∃ t, exec .pwrEnRetry s = .next t ∧ Safety.Quiet s t ∧
      t = { s with host := t.host, pwr := { s.pwr with pwrEn := true, attempts := s.pwr.attempts + 1 } }) ∧
  (∀ (s : State), s.pwr.corePg = true → s.pwr.st = .run →
    ∃ t, exec .corePgFall s = .next t ∧ t.pwr.corePg = false ∧ t.fire.permit = false ∧ t.pwr.wakeEnable = s.pwr.wakeEnable ∧
      t.pwr.retMask = s.pwr.retMask ∧ t.fuse = s.fuse ∧ t.head = s.head) ∧
  (∀ (s : State), s.pwr.st = .standby →
    ∃ t, exec .retBrownout s = .next t ∧ Safety.Quiet s t ∧ t = { s with host := t.host, pwr := { s.pwr with aonBrownout := true } }) ∧
  (∀ (s : State),
    ∃ t, exec .aonPowerLoss s = .next t ∧ t.time.calValid = false ∧ t.boot.resetN = false ∧ t.pwr.corePg = false ∧
      t.pwr.retMask = 0 ∧ t.fuse = s.fuse ∧ t.boot.flash = s.boot.flash ∧ t.nvm.id = s.nvm.id) ∧
  (∀ (s : State), s.coresRun = true → s.boot.stage = .ready → s.boot.lastMismatch = none →
    ∃ t, exec .lockstepMismatch s = .next t ∧ t = { s with host := t.host, log := t.log, boot := { s.boot with
      mismatches := s.boot.mismatches + 1, lastMismatch := some s.time.ticks, stage := .restarting } }) ∧
  (∀ (s : State) (k : Nat), s.alive = true → s.boot.coresHeld = false → s.boot.lastMismatch = some k → s.time.ticks - k ≤ tenSeconds →
    ∃ t, exec .lockstepMismatch s = .next t ∧ t.boot.coresHeld = true ∧ t.health.active.getLsbD 10 = true) ∧
  (∀ (s : State), s.alive = true → s.boot.stage = .restarting → s.host.inflight = [] → s.host.held = [] →
    ∃ t, exec .firmwareRestartDone s = .next t ∧ Safety.QuietHost (fun m => { m with restarted := true }) s t ∧
      t = { s with host := t.host, boot := { s.boot with stage := .ready }, twin := { s.twin with returning := s.boot.twinEn } })

/-- Wake sources, handshake answers, droop sensors and the over-temperature limit act on the power manager. An enabled source
wakes a chip in STANDBY or OFF: PWR_EN rises and the cause is kept. A delayed block is asked again only once its condition has
cleared; at its bound the store refuses with reason 4 and the entry ends. A droop trip of an enabled, quiet sensor within the rate
limit doubles the dividers and is counted; its clear and the restore undo it; one beyond 1 ms is counted and reported. A reading
at 118 °C drops FIRE_PERMIT, and the shutdown after it leaves the chip in OFF with the reading latched. (spec/13 R357, R358, R361,
R362, R365, R371, R372; spec/15 R401; spec/01 R26; spec/13 Table 13-4; spec/13 Table 13-5) -/
def Obligations.WakeDroopAndThermalAct : Prop :=
(∀ (s : State), s.boot.resetN = true → s.pwr.wakeEnable.getLsbD 0 = true → s.pwr.st = .standby ∨ s.pwr.st = .off → s.pwr.waking = false →
    ∃ t, exec .wakeIn s = .next t ∧ Safety.Quiet s t ∧ t = { s with host := t.host, pwr := { s.pwr with
      aonWake := 1, waking := true, attempts := 1, pwrEn := true, resuming := true } }) ∧
  (∀ (s : State), s.boot.resetN = true → s.pwr.wakeEnable.getLsbD 1 = true → s.pwr.st = .standby ∨ s.pwr.st = .off →
    s.pwr.waking = false → s.alarmActive = true →
    ∃ t, exec .rtcAlarm s = .next t ∧ Safety.Quiet s t ∧ t = { s with host := t.host, pwr := { s.pwr with
      aonWake := 2, waking := true, attempts := 1, pwrEn := true, resuming := true } }) ∧
  (∀ (s : State), s.boot.resetN = true → s.pwr.wakeEnable.getLsbD 3 = true → s.pwr.st = .standby ∨ s.pwr.st = .off → s.pwr.waking = false →
    ∃ t, exec .encMove s = .next t ∧ Safety.Quiet s t ∧ t = { s with host := t.host, enc := t.enc, pwr := { s.pwr with
      aonWake := 4, waking := true, attempts := 1, pwrEn := true, resuming := true } } ∧ (t.encN 0).lineA = !(s.encN 0).lineA) ∧
  (∀ (s : State) (tr : Trans), s.alive = true → s.pwr.trans = some tr → tr.left = [7, 8, 9, 10, 11] → tr.delayed = true →
    tr.goal = .state .hold → s.storeBusy = false → s.pwr.voltLevel = 2 → s.fire.permit = false →
    ∃ t, exec .handshakeReask s = .next t ∧ t.pwr.st = .hold ∧ t.pwr.trans = none ∧ Safety.Raised .pwr 0 t) ∧
  (∀ (s : State) (tr : Trans) (l : List Nat), s.alive = true → s.pwr.trans = some tr → tr.left = 7 :: l → tr.delayed = true →
    (∃ g, tr.goal = .state g) → tr.accepted = [6, 5, 4, 3, 2, 1] →
    ∃ t, exec .handshakeBoundExpiry s = .next t ∧ t.pwr = { s.pwr with trans := none } ∧ Safety.Raised .pwr 2 t ∧ t.bat = s.bat) ∧
  (∀ (s : State) (i : Nat), s.alive = true → i < 16 → s.pwr.droopEnable.getLsbD i = true → s.pwr.sensors.getLsbD i = false →
    s.pwr.hour = s.hourNow → s.pwr.hourTrips < s.pwr.rateLimit →
    ∃ t, exec (.droopTrip i) s = .next t ∧ Safety.Quiet s t ∧ t = { s with host := t.host, pwr := { s.pwr with
      sensors := s.pwr.sensors ||| BitVec.twoPow 16 i, droop := true, droopTrips := s.pwr.droopTrips + 1,
      hourTrips := s.pwr.hourTrips + 1 } }) ∧
  (∀ (s : State) (i : Nat), s.alive = true → i < 16 →
    ∃ t, exec (.droopClear i) s = .next t ∧ Safety.Quiet s t ∧ t = { s with host := t.host, pwr := { s.pwr with
      sensors := s.pwr.sensors &&& ~~~(BitVec.twoPow 16 i) } }) ∧
  (∀ (s : State), s.alive = true → s.pwr.sensors = 0 →
    ∃ t, exec .droopRestore s = .next t ∧ Safety.Quiet s t ∧ t = { s with host := t.host, pwr := { s.pwr with droop := false } }) ∧
  (∀ (s : State) (us : BitVec 32), s.alive = true → s.pwr.droop = true → 1000 < us.toNat →
    ∃ t, exec (.droopLong us) s = .next t ∧ Safety.Alerted s t ∧ Safety.Raised .pwr 5 t ∧
      t = { s with host := t.host, log := t.log, pwr := { s.pwr with droopLong := s.pwr.droopLong + 1 } }) ∧
  (∀ (s : State) (temp : BitVec 16), s.alive = true → 1888 ≤ temp.toInt →
    ∃ t, exec (.thermalShutdown temp) s = .next t ∧ t.fire.permit = false ∧ t.pwr = { s.pwr with thermalPending := some temp } ∧
      (s.fire.permit = true → t.fire.dropCause = 6)) ∧
  (∀ (s : State) (temp : BitVec 16), s.alive = true → s.pwr.thermalPending = some temp →
    ∃ t, exec .thermalOff s = .next t ∧ t.pwr.st = .off ∧ t.pwr.pwrEn = false ∧ t.pwr.aonThermal = some temp ∧ t.fire.permit = false ∧
      t.fuse = s.fuse ∧ t.boot.flash = s.boot.flash)

/-- Self-tests, margin and temperature readings and SRAM errors retire, repair and report; staged events reach the ring. A
matching self-test clears its part's run; the second mismatch in a row retires the decoder or vision engine, journaled, with its
cause. A PLL margin within limits ends the condition, the third low one in a row raises cause 4. Temperatures are stored, and a
sensor newly above TJ_WARN raises TJ_HIGH. A first corrected SRAM error is noted, an uncorrectable one retires the bank. The
oldest staged event goes to its ring slot under its sequence. (spec/14 R376–R378, R382; spec/14 Table 14-1; spec/01 R17, R31;
spec/14 Table 14-7) -/
def Obligations.PartTestsAct : Prop :=
(∀ (s : State) (i : Nat), s.alive = true → i < 16 → s.health.sdRetired.getLsbD i = false → s.decoderBusy i = false → s.pixGated = false →
    ∃ t, exec (.decoderSelftest i true) s = .next t ∧ Safety.Quiet s t ∧
      t = { s with host := t.host, health := { s.health with sdMiss := s.health.sdMiss.set 0 i 0 } }) ∧
  (∀ (s : State) (i : Nat), s.alive = true → i < 16 → s.health.sdRetired.getLsbD i = false → s.decoderBusy i = false → s.pixGated = false →
    s.health.sdMiss.get 0 i = 1 →
    ∃ t, exec (.decoderSelftest i false) s = .next t ∧ Safety.Alerted s t ∧ Safety.Raised .health 3 t ∧
      t = { s with host := t.host, health := t.health, nvm := t.nvm, log := t.log } ∧ t.health.sdRetired.getLsbD i = true ∧
      t.nvm.id.sdRetired = t.health.sdRetired ∧ t.health.active.getLsbD 7 = true) ∧
  (∀ (s : State) (i : Nat), s.alive = true → i < 4 → s.health.veRetired.getLsbD i = false → s.visGated = false →
    s.health.sdMiss.get 0 (32 + i) = 1 →
    ∃ t, exec (.veSelftest i false) s = .next t ∧ Safety.Alerted s t ∧ Safety.Raised .health 3 t ∧
      t = { s with host := t.host, health := t.health, nvm := t.nvm, log := t.log } ∧ t.health.veRetired.getLsbD i = true ∧
      t.nvm.id.veRetired = t.health.veRetired ∧ t.health.active.getLsbD 6 = true) ∧
  (∀ (s : State) (m : BitVec 16), s.alive = true → s.health.pllMin ≤ m.toNat →
    ∃ t, exec (.pllMarginCheck m) s = .next t ∧ t = { s with host := t.host, health := t.health, log := t.log } ∧
      t.health.active.getLsbD 4 = false ∧ t.health.pllMargin = m.toNat ∧ t.health.pllLow = 0) ∧
  (∀ (s : State) (m : BitVec 16), s.alive = true → m.toNat < s.health.pllMin → 2 ≤ s.health.pllLow →
    ∃ t, exec (.pllMarginCheck m) s = .next t ∧ Safety.Alerted s t ∧ t = { s with host := t.host, health := t.health, log := t.log } ∧
      t.health.active.getLsbD 4 = true ∧ t.health.pllMargin = m.toNat) ∧
  (∀ (s : State) (ts : List (BitVec 16)), s.alive = true → ts.length = 8 →
    ∃ t, exec (.tjCheck ts) s = .next t ∧ Safety.Alerted s t ∧ t = { s with host := t.host, health := t.health, log := t.log } ∧
      (∀ i, i < 8 → t.health.tjHigh.getLsbD i = decide (s.health.tjWarn < (ts.getD i 0).toInt)) ∧
      (∀ i, i < 8 → s.health.tjHigh.getLsbD i = false → s.health.tjWarn < (ts.getD i 0).toInt → Safety.Raised .health 4 t)) ∧
  (∀ (s : State) (b row : Nat), s.alive = true → b < 48 → row < 65536 → s.health.bankRetired.getLsbD b = false →
    s.health.corrected.get 0 (b * 65536 + row) = 0 →
    ∃ t, exec (.sramEccError b row .corrected) s = .next t ∧ Safety.Quiet s t ∧ t = { s with host := t.host, health := { s.health with
      bankCe := s.health.bankCe.upd 0 b (· + 1),
      corrected := s.health.corrected.set 0 (b * 65536 + row) (s.time.ticks + 1) } }) ∧
  (∀ (s : State) (b row : Nat), s.alive = true → b < 48 → row < 65536 → s.health.bankRetired.getLsbD b = false →
    ∃ t, exec (.sramEccError b row .uncorrectable) s = .next t ∧ t.health.bankRetired.getLsbD b = true ∧
      t.nvm.id.bankRetired = t.health.bankRetired ∧ t.health.active.getLsbD 2 = true ∧
      t = { s with host := t.host, health := t.health, nvm := t.nvm, log := t.log, cal := t.cal, loop := t.loop, bat := t.bat,
                   slate := t.slate, cam := t.cam }) ∧
  (∀ (s : State) (e : EventRec) (l : List EventRec), s.alive = true → s.log.stage = e :: l → s.log.dropped = 0 →
    ∃ t, exec .eventRecordWrite s = .next t ∧ Safety.Alerted s t ∧ t = { s with host := t.host, log := { s.log with
      stage := l, ring := s.log.ring.set none (e.seq.toNat % 32768) (some e), nextSeq := e.seq + 1 } } ∧
      (s.log.alertSev ≤ e.severity → Safety.Raised .log 0 t))

/-- Scrub, hotspot and drift checks report; DRAM errors are counted and retire a channel. A patrol pass sets
DRAM_ALERT.SCRUB_DONE. A hotspot window with no bank over the limit clears MAP_HOTSPOT, one with a bank over it sets it, the alert
and the count. In RUN at READY a DQS drift beyond 4/64 UI is adjusted and counted, a smaller one changes nothing. A corrected
error of a channel in service is counted and sets CE; the one that exceeds CE_LIMIT in its clock hour makes the channel RETIRING.
An uncorrectable error of a running egress channel halts that channel with code 5 and is counted. (spec/11 R305, R312–R314;
spec/11 Table 11-7; spec/14 Table 14-1) -/
def Obligations.DramErrorsAct : Prop :=
(∀ (s : State), s.alive = true →
    ∃ t, exec .scrubDone s = .next t ∧ Safety.Alerted s t ∧ Safety.Raised .dram 4 t ∧ t = { s with host := t.host }) ∧
  (∀ (s : State), s.alive = true →
    ∃ t, exec (.hotspotWindowEnd []) s = .next t ∧ Safety.Quiet s t ∧
      t = { s with host := t.host, dram := { s.dram with mapHotspot := false } }) ∧
  (∀ (s : State) (b n : Nat), s.alive = true → s.dram.hotLimit < n →
    ∃ t, exec (.hotspotWindowEnd [(b, n)]) s = .next t ∧ Safety.Alerted s t ∧ Safety.Raised .dram 2 t ∧
      t = { s with host := t.host, dram := t.dram, log := t.log } ∧ t.dram.mapHotspot = true ∧
      t.dram.hotWindows.get 0 (b / s.boot.board.banks) = s.dram.hotWindows.get 0 (b / s.boot.board.banks) + 1) ∧
  (∀ (s : State) (rank drift : Nat), s.alive = true → s.pwr.st = .run → s.isReady = true → rank < 2 * s.boot.board.ranks →
    ∃ t, exec (.dqsDriftCheck rank drift) s = .next t ∧ Safety.Quiet s t ∧ t = { s with host := t.host, dram := t.dram } ∧
      t.dram = if 4 < drift then { s.dram with dqsAdjust := s.dram.dqsAdjust.upd 0 rank (· + 1) } else s.dram) ∧
  (∀ (s : State) (c : Nat) (a : BitVec 64), s.alive = true → s.channelUp c = true →
    ∃ t, exec (.dramCorrectedError c a) s = .next t ∧ Safety.Alerted s t ∧ Safety.Raised .dram 0 t ∧
      t = { s with host := t.host, dram := t.dram, nvm := t.nvm, health := t.health, log := t.log } ∧
      t.dram.ce.get 0 c = s.dram.ce.get 0 c + 1 ∧
      (s.chDown = none → s.dram.ceHour.get (0, 0) c = (s.hourNow, s.dram.ceLimit) → t.dram.retiring = some c ∧ Safety.Raised .dram 3 t)) ∧
  (∀ (s : State) (c d : Nat) (a : BitVec 64), s.alive = true → c < 2 → d < 32 → (s.dmaN d).st = .running → (s.dmaN d).egress = true →
    ∃ t, exec (.dramUe c a (.egress d)) s = .next t ∧ Safety.Alerted s t ∧ Safety.Raised .dram 1 t ∧
      t = { s with host := t.host, dram := t.dram, nvm := t.nvm, health := t.health, log := t.log, dma := t.dma } ∧
      t.dram.ue.get 0 c = s.dram.ue.get 0 c + 1 ∧ (t.dmaN d).st = .halted ∧ (t.dmaN d).err = 5 ∧ (t.dmaN d).haltSet = true)

/-- Ingress, egress and read-back move bytes and pointers; bus errors retry and then halt. An ingress transfer into a DRAM ring of
bytes that are published, counted, requested and not beyond the ring's end writes them there and advances DMA_CONS, the write-back
and the moved count and takes them off REMAIN; at REMAIN 0 the channel is DONE. Other channels change only by the reads they
request meanwhile. An egress transfer that fits, with a tag free, goes out in writes of at most 512 bytes, opens its read-back and
moves nothing yet; the read-back's end advances DMA_PROD. A bus error with retries left waits for one and takes it off, without
any it halts the channel with code 4; the retry is counted. (spec/11 R320–R325; spec/11 Table 11-8; spec/05 R171) -/
def Obligations.DmaTransfersMove : Prop :=
(∀ (s : State) (c : Nat) (d : List Byte), s.alive = true → c < 32 → (s.dmaN c).st = .running → (s.dmaN c).egress = false →
    (s.dmaN c).dramRing = true → (s.dmaN c).retrying = false → (s.dmaN c).stopping = false → d ≠ [] → d.length ≤ s.ingressRoom c →
    d.length ≤ ((s.issueReads dmaTags).dmaN c).reqs.sum →
    (s.dmaN c).dramPos % 2 ^ (s.dmaN c).dramLog2 + d.length ≤ 2 ^ (s.dmaN c).dramLog2 →
    ∃ t, exec (.dmaIngressTransfer c d) s = .next t ∧ Safety.Quiet s t ∧
      t = { s with host := t.host, dma := t.dma,
                   dram := s.dram.writeAll ((s.dmaN c).dramBase.toNat + (s.dmaN c).dramPos % 2 ^ (s.dmaN c).dramLog2) d } ∧
      (t.dmaN c).cons = (s.dmaN c).cons + BitVec.ofNat 64 d.length ∧ (t.dmaN c).wbValue = (t.dmaN c).cons ∧
      (t.dmaN c).remain = (s.dmaN c).remain - BitVec.ofNat 64 d.length ∧
      (t.dmaN c).moved = (s.dmaN c).moved + BitVec.ofNat 64 d.length ∧
      (t.dmaN c).st = (if (t.dmaN c).remain = 0 then .done else .running) ∧
      ∀ e, e ≠ c → t.dmaN e = { s.dmaN e with reqs := (t.dmaN e).reqs, turn := (t.dmaN e).turn }) ∧
  (∀ (s : State) (c n : Nat), s.alive = true → c < 32 → (s.dmaN c).st = .running → (s.dmaN c).egress = true →
    (s.dmaN c).retrying = false → (s.dmaN c).rbOpen = none → 0 < n → n ≤ (s.dmaN c).egressRoom →
    s.tagsUsed < 256 →
    ∃ t, exec (.dmaEgressTransfer c n) s = .next t ∧ Safety.Quiet s t ∧ t = { s with host := t.host, dma := t.dma } ∧
      t.dmaN c = { s.dmaN c with rbOpen := some n, writes := writeSizes n } ∧ (∀ k ∈ (t.dmaN c).writes, k ≤ 512) ∧ ∀ e, e ≠ c → t.dmaN e = s.dmaN e) ∧
  (∀ (s : State) (c n : Nat), s.alive = true → c < 32 → (s.dmaN c).st = .running → (s.dmaN c).egress = true →
    (s.dmaN c).retrying = false → (s.dmaN c).rbOpen = some n →
    ∃ t, exec (.dmaReadbackDone c) s = .next t ∧ Safety.Quiet s t ∧ t = { s with host := t.host, dma := t.dma } ∧
      (t.dmaN c).prod = (s.dmaN c).prod + BitVec.ofNat 64 n ∧ (t.dmaN c).rbOpen = none ∧ (t.dmaN c).readback = true ∧
      (t.dmaN c).remain = (s.dmaN c).remain - BitVec.ofNat 64 n ∧ ∀ e, e ≠ c → t.dmaN e = s.dmaN e) ∧
  (∀ (s : State) (c n : Nat), s.alive = true → c < 32 → (s.dmaN c).st = .running → (s.dmaN c).egress = true →
    (s.dmaN c).retrying = false → (s.dmaN c).rbOpen = some n →
    ∃ t, exec (.dmaBusError c) s = .next t ∧ Safety.Quiet s t ∧ t = { s with host := t.host, dma := t.dma } ∧
      (t.dmaN c).busErrors = (s.dmaN c).busErrors + 1 ∧ (t.dmaN c).prod = (s.dmaN c).prod ∧
      (0 < (s.dmaN c).retriesLeft → (t.dmaN c).retrying = true ∧ (t.dmaN c).retriesLeft = (s.dmaN c).retriesLeft - 1 ∧
        (t.dmaN c).st = .running) ∧
      ((s.dmaN c).retriesLeft = 0 → (t.dmaN c).st = .halted ∧ (t.dmaN c).err = 4 ∧ (t.dmaN c).haltSet = true) ∧
      ∀ e, e ≠ c → t.dmaN e = s.dmaN e) ∧
  (∀ (s : State) (c : Nat), s.alive = true → c < 32 → (s.dmaN c).st = .running → (s.dmaN c).retrying = true →
    ∃ t, exec (.dmaRetry c) s = .next t ∧ Safety.Quiet s t ∧ t = { s with host := t.host, dma := t.dma } ∧
      t.dmaN c = { s.dmaN c with retrying := false, retryCnt := (s.dmaN c).retryCnt + 1 } ∧ ∀ e, e ≠ c → t.dmaN e = s.dmaN e)

/-- Encoder edges count up or down or are illegal, standstill stops the input, SSI frames give positions or are bad. Levels that
have held for more than FILTER_TICKS samples count. A quadrature edge of one line moves the input's count by one, up when A leads
under INVERT, and on an input other than ENC_0 touches only inputs, sources of triggers and alerts; levels held for less change
nothing; both lines at once change no count, are counted as illegal and set the input's alert. A standstill sets its state and
speed 0. An SSI start notes the time with DATA high; a first good frame sets the count to its position plus the offset; a timeout
counts a bad frame and changes no count. (spec/08 R233–R241; spec/02 R45; spec/08 Table 08-2; spec/08 Table 08-4) -/
def Obligations.EncoderEventsCount : Prop :=
(∀ (s : State) (n k : Nat) (l : Bool), s.alive = true → n ≤ 3 → (s.encN n).filterTicks < k → (s.encN n).typ = .quad →
    l ≠ (s.encN n).lineA →
    ∃ t, exec (.encoderEdge n ⟨.a l, k⟩) s = .next t ∧ (t.encN n).lineA = l ∧ (t.encN n).lineB = (s.encN n).lineB ∧
      (t.encN n).count = (s.encN n).count + (if (l != (s.encN n).lineB) != (s.encN n).invert then 1 else -1) ∧
      (∀ m, m ≠ n → t.encN m = s.encN m) ∧ t.cal = s.cal ∧ t.nvm = s.nvm ∧ t.dram = s.dram ∧ t.pwr = s.pwr ∧ t.geo = s.geo ∧
      (n ≠ 0 → t = { s with host := t.host, enc := t.enc, trig := t.trig })) ∧
  (∀ (s : State) (n k : Nat) (l : Bool), s.alive = true → n ≤ 3 → (s.encN n).filterTicks < k → (s.encN n).typ = .quad →
    l ≠ (s.encN n).lineB →
    ∃ t, exec (.encoderEdge n ⟨.b l, k⟩) s = .next t ∧ (t.encN n).lineB = l ∧
      (t.encN n).count = (s.encN n).count + (if (l == (s.encN n).lineA) != (s.encN n).invert then 1 else -1)) ∧
  (∀ (s : State) (n k : Nat) (x : LineEdge), s.alive = true → n ≤ 3 → k ≤ (s.encN n).filterTicks →
    ∃ t, exec (.encoderEdge n ⟨x, k⟩) s = .next t ∧ t = s) ∧
  (∀ (s : State) (n k : Nat), s.alive = true → n ≤ 3 → (s.encN n).filterTicks < k → (s.encN n).typ = .quad →
    ∃ t, exec (.encoderEdge n ⟨.both (!(s.encN n).lineA) (!(s.encN n).lineB), k⟩) s = .next t ∧ Safety.Alerted s t ∧
      Safety.Raised .mot (16 + n) t ∧ t = { s with host := t.host, enc := t.enc } ∧ (∀ m, m ≠ n → t.encN m = s.encN m) ∧
      t.encN n = { s.encN n with lineA := !(s.encN n).lineA, lineB := !(s.encN n).lineB, errIllegal := (s.encN n).errIllegal + 1 }) ∧
  (∀ (s : State) (n : Nat), s.alive = true → n ≤ 3 →
    ∃ t, exec (.encStandstill n) s = .next t ∧ Safety.Alerted s t ∧
      t = { s with host := t.host, bat := t.bat, enc := t.enc, est := t.est, port := t.port } ∧ (∀ m, m ≠ n → t.encN m = s.encN m) ∧
      t.encN n = { s.encN n with
        st := .standstill, speed := 0, lastEdge := none, lastRise := none, ivNow := none, ivPrev := none } ∧
      (n = 0 → t.est.st = .standstill) ∧ (n ≠ 0 → t = { s with host := t.host, enc := t.enc })) ∧
  (∀ (s : State) (n : Nat) (d : Bool), s.alive = true → s.isSsi n = true →
    ∃ t, exec (.ssiFrameStart n d) s = .next t ∧ Safety.Quiet s t ∧ t = { s with host := t.host, enc := t.enc } ∧
      (∀ m, m ≠ n → t.encN m = s.encN m) ∧ t.encN n = { s.encN n with frameAt := if d then some s.now else none }) ∧
  (∀ (s : State) (n word : Nat) (e : Bool) (crc : Byte) (t0 : Int) (pos : Nat), s.alive = true → s.isSsi n = true →
    (s.encN n).frameAt = some t0 → (s.encN n).prevWord = none →
    pos = (if (s.encN n).ssi.gray then grayToBin (s.encN n).ssi.posBits (word % 2 ^ (s.encN n).ssi.posBits)
      else word % 2 ^ (s.encN n).ssi.posBits) →
    (s.encN n).ssi.badFrame none (word % 2 ^ (s.encN n).ssi.posBits) e crc pos = false →
    ∃ t, exec (.ssiFrameDone n word e crc) s = .next t ∧ Safety.Quiet s t ∧ t = { s with host := t.host, enc := t.enc } ∧
      (∀ m, m ≠ n → t.encN m = s.encN m) ∧ (t.encN n).count = pos + (s.encN n).ssiOffset ∧ (t.encN n).prevWord = some pos ∧
      (t.encN n).fault = false ∧ (t.encN n).frameAt = none) ∧
  (∀ (s : State) (n : Nat), s.alive = true → s.isSsi n = true →
    ∃ t, exec (.ssiTimeout n) s = .next t ∧ Safety.Alerted s t ∧ Safety.Raised .mot (16 + n) t ∧
      t = { s with host := t.host, enc := t.enc } ∧ (∀ m, m ≠ n → t.encN m = s.encN m) ∧
      (t.encN n).count = (s.encN n).count ∧ (t.encN n).errBad = (s.encN n).errBad + 1 ∧
      ((s.encN n).ssi.badLimit ≤ (s.encN n).badRun + 1 → (t.encN n).fault = true))

/-- A predicted line is released, decoded, framed, fired, checked; late lines are marked; pages leave the queue. The next line of
the first page with lines left is released LEAD_TIME_US before its earliest predicted fire time, when buffer and ring have room.
An idle decoder takes the next job; its end stores the codec state and counts the line. A waiting part past no floor and within
the interval, in time and within LEAD_TIME_US of its fire time, is framed with it and queued on its port alone. A sent line fires
once its fire time has come; its landing check is taken off. An unreleased next line that is late sets PLACE_ALERT.LATE and counts
as released, at once where buffer and ring have room. A page whose lines all passed leaves the queue; a freed handle ends its
quiet time. (spec/02 R54–R56, R60–R63; spec/01 R21, R22; spec/05 R168; spec/04 R132) -/
def Obligations.LinesDecodeAndFire : Prop :=
(∀ (s : State) (g : Geo) (w : Web) (pg : Page) (h n : Nat), s.alive = true → s.bar? = some (g, w) → s.page? h = some pg →
    s.predicted g w pg n = true → s.line? h n = none → s.nextFor pg n = true →
    s.leadReached w (s.earliest g w pg n) = true → s.slotFree w = true → s.ringFree g w = true →
    ∃ t, exec (.lineRelease h n) s = .next t ∧ (t.page? h).map (·.nextLine) = some (n + 1) ∧
      t = { s with host := t.host, bat := t.bat, cal := t.cal, fire := t.fire, log := t.log, port := t.port, twin := t.twin }) ∧
  (∀ (s : State) (d h n j : Nat), s.alive = true → d < 16 → s.health.sdRetired.getLsbD d = false → s.slate.jobs.get none d = none →
    s.pixGated = false → s.jobToStart = some (h, n, j) →
    ∃ t, exec (.decodeJobStart d) s = .next t ∧ Safety.Quiet s t ∧
      t = { s with host := t.host, bat := t.bat, slate := { s.slate with jobs := s.slate.jobs.set none d (some (h, n, j)) } } ∧
      t.bat.pages = s.bat.pages ∧ t.bat.lines = s.bat.lines.map fun l =>
        if l.handle = h ∧ l.line = n then { l with toStart := l.toStart.filter (· != j), running := l.running ++ [(j, d)] } else l) ∧
  (∀ (s : State) (d h n j : Nat) (pg : Page) (xs : List Nat) (c : CodecSt), s.alive = true → s.slate.jobs.get none d = some (h, n, j) →
    s.page? h = some pg → decodeNext (s.streamOf pg j).width 2 (s.streamOf pg j).data (s.decState n j) = .ok (xs, c) →
    ∃ t, exec (.decodeJobDone d) s = .next t ∧ t = { s with host := t.host, bat := t.bat, fire := t.fire, slate := t.slate } ∧
      t.slate = { s.slate with
        jobs := s.slate.jobs.set none d none, dec := s.slate.dec.set {} j c, linesDecoded := s.slate.linesDecoded + 1,
        decHdr := s.slate.decHdr.set (0, 0) j ((s.streamOf pg j).width, (s.streamOf pg j).tag) }) ∧
  (∀ (s : State) (g : Geo) (w : Web) (pg : Page) (l : Line) (p h n : Nat) (x : PortLine) (ft : Int), s.alive = true →
    s.bar? = some (g, w) → s.page? h = some pg → s.line? h n = some l → x = l.port.get {} p → l.mapped = true → x.st = .waiting →
    s.portRuns p = true → s.forward = true → (∀ f, pg.floor.get none p = some f → f < g.target w pg.top n p) →
    s.fireTime g w pg.top n p = some ft → s.leadReached w (some ft) = true → s.tooLate (some ft) = false →
    s.nearRestart (g.target w pg.top n p) = false →
    (x.subst = false → ∀ b, s.prevSent h n p = some b → b + minInterval256 ≤ ft) →
    ∃ t fr, exec (.frameBuild p h n) s = .next t ∧ t = { s with host := t.host, bat := t.bat, fire := t.fire, port := t.port } ∧
      (∀ q, q ≠ p → t.portN q = s.portN q) ∧ (t.portN p).txQ = (s.portN p).txQ ++ [.fireLine (s.tagOf p h n) fr ft] ∧
      fr.fireTime = BitVec.ofInt 48 ft ∧ fr.ctl.toNat % 16 = x.release % 16) ∧
  (∀ (s : State) (g : Geo) (w : Web) (pg : Page) (h n : Nat), s.alive = true → s.bar? = some (g, w) → s.page? h = some pg →
    s.line? h n = none → s.nextFor pg n = true → pg.lateNext = false →
    ∃ t, exec (.lineLate h n) s = .next t ∧ Safety.Raised .place 5 t ∧
      (s.slotFree w = true → s.ringFree g w = true → (t.page? h).map (·.nextLine) = some (n + 1)) ∧
      (s.slotFree w = false ∨ s.ringFree g w = false → (t.page? h).map (fun q => (q.nextLine, q.lateNext)) = some (n, true)) ∧
      t = { s with host := t.host, bat := t.bat, cal := t.cal, fire := t.fire, log := t.log, port := t.port, twin := t.twin }) ∧
  (∀ (s : State) (p h n : Nat) (l : Line), s.alive = true → s.line? h n = some l → (l.port.get {} p).st = .sent →
    (l.port.get {} p).fire ≤ s.now256 →
    ∃ t, exec (.lineFired p h n) s = .next t ∧
      t = { s with host := t.host, bat := t.bat, fire := t.fire, loop := t.loop, port := t.port, vis := t.vis } ∧
      (t.portN p).lastFireT = some (l.port.get {} p).fire ∧ ∀ q, q ≠ p → t.portN q = s.portN q) ∧
  (∀ (s : State) (g : Geo) (w : Web) (p h n : Nat) (target fire : Int) (x : Rat), s.alive = true → s.bar? = some (g, w) →
    (s.bat.checks.find? fun c => c.1 == h && c.2.1 == n && c.2.2.1 == p) = some (h, n, p, target, fire) →
    posBetween ((fire + (g.port.get {} p).dropFlightNs * 256) * 65536) s.bat.fireEdges = some x →
    ∃ t, exec (.placementCheck p h n) s = .next t ∧ Safety.Quiet s t ∧ t = { s with host := t.host, bat := t.bat, fire := t.fire } ∧
      t.bat.checks = s.bat.checks.filter (fun c => !(c.1 == h && c.2.1 == n && c.2.2.1 == p)) ∧
      (|x - target| ≤ w.pitchCounts * 65536 / 8 → t.bat.pages = s.bat.pages ∧ t.fire = s.fire)) ∧
  (∀ (s : State) (pg : Page) (h : Nat), s.alive = true → s.page? h = some pg → s.passed pg = true → s.vis.thatch = [] →
    ∃ t, exec (.pageDone h) s = .next t ∧ t.page? h = none ∧ h ∈ t.bat.quiet ∧ t.cal = s.cal ∧ t.nvm = s.nvm ∧ t.dram = s.dram ∧
      t.pwr = s.pwr ∧ t.geo = s.geo ∧ t.health = s.health ∧ t.dma = s.dma) ∧
  (∀ (s : State) (h : Nat), s.alive = true →
    ∃ t, exec (.handleFree h) s = .next t ∧ Safety.Quiet s t ∧
      t = { s with host := t.host, bat := { s.bat with quiet := s.bat.quiet.filter (· != h) } })

/-- Ridge ports move through DETECT, TRAIN and on, resync, drop and come back as the link-state table says. A DETECT port sends
bursts and an alignment takes it to TRAIN with the next epoch. The sweep stores the best setting and goes to DISCOVER from score
64. In UP good eyes leave the port alone; the 16th low sample in a row drops it with cause 1 and its health cause. A port not in
UP 10 ms after TRAIN drops with cause 3; without signal it returns to DETECT; a comma loss, or RESYNC of a port in UP, retrains it
under the next epoch unless it is the third resync within 1 s, which drops it with cause 2. REVIVE returns a DROPPED or MISMATCH
port to DETECT, DROP drops a running one with cause 5. (spec/04 R117–R124, R151, R152; spec/04 Table 04-3; spec/04 Table 04-13;
spec/04 Table 04-14) -/
def Obligations.RidgeStatesMove : Prop :=
(∀ (s : State) (p : Nat), s.alive = true → (s.portN p).st = .detect →
    ∃ t, exec (.detectBurst p) s = .next t ∧ Safety.Quiet s t ∧ t = { s with host := t.host, port := t.port } ∧
      t.portN p = { s.portN p with
        lastTx := some .trainBurst, lane := onLane (s.portN p).idle trainingBurst, idle := false } ∧
      ∀ q, q ≠ p → t.portN q = s.portN q) ∧
  (∀ (s : State) (p : Nat), s.alive = true → s.twin.handing = false → (s.portN p).st = .detect →
    ∃ t, exec (.linkAligned p) s = .next t ∧ Safety.Quiet s t ∧ t = { s with host := t.host, port := t.port } ∧
      (t.portN p).st = .train ∧ (t.portN p).epoch = (s.portN p).epoch + 1 ∧ (t.portN p).changed = true ∧
      ∀ q, q ≠ p → t.portN q = s.portN q) ∧
  (∀ (s : State) (p : Nat) (scores : List Nat), s.alive = true → s.twin.handing = false → (s.portN p).st = .train →
    ∃ t, exec (.trainSweepDone p scores) s = .next t ∧ Safety.Quiet s t ∧ t = { s with host := t.host, port := t.port } ∧
      (t.portN p).eqSetting = (bestSetting (scores.take 16)).1 ∧
      (t.portN p).st = (if 64 ≤ (bestSetting (scores.take 16)).2 then .discover else .train) ∧ ∀ q, q ≠ p → t.portN q = s.portN q) ∧
  (∀ (s : State) (p score up down : Nat), s.alive = true → (s.portN p).st = .up → 64 ≤ score → 64 ≤ (s.portN p).eyeHead.toNat →
    ∃ t, exec (.eyeSample p score up down) s = .next t ∧ Safety.Quiet s t ∧ t = { s with host := t.host, port := t.port } ∧
      (t.portN p).st = .up ∧ (t.portN p).eyeRx.toNat = min 255 score ∧ (t.portN p).eyeLowRx = 0 ∧ (t.portN p).eyeLowHead = 0 ∧
      ∀ q, q ≠ p → t.portN q = s.portN q) ∧
  (∀ (s : State) (p score up down : Nat), s.alive = true → (s.portN p).st = .up → score < 64 → (s.portN p).eyeLowRx = 15 →
    ∃ t, exec (.eyeSample p score up down) s = .next t ∧ (t.portN p).st = .dropped ∧ (t.portN p).dropCause = 1 ∧
      t.health.active.getLsbD 1 = true ∧ t.cal = s.cal ∧ t.nvm = s.nvm ∧ t.dram = s.dram ∧ t.pwr = s.pwr ∧ t.geo = s.geo) ∧
  (∀ (s : State) (p : Nat), s.alive = true → s.twin.handing = false →
    (s.portN p).st = .train ∨ (s.portN p).st = .discover ∨ (s.portN p).st = .load →
    ∃ t, exec (.trainTimeout p) s = .next t ∧ Safety.Alerted s t ∧ t = { s with host := t.host, port := t.port, log := t.log } ∧
      (t.portN p).st = .dropped ∧ (t.portN p).dropCause = 3 ∧ ∀ q, q ≠ p → t.portN q = s.portN q) ∧
  (∀ (s : State) (p : Nat), s.alive = true → (s.portN p).st = .train ∨ (s.portN p).st = .discover ∨ (s.portN p).st = .load ∨
      (s.portN p).st = .up →
    ∃ t, exec (.signalLoss p) s = .next t ∧ (t.portN p).st = .detect ∧ (t.portN p).txQ = [] ∧ (t.portN p).dVals = []) ∧
  (∀ (s : State) (p : Nat), s.alive = true → (s.portN p).rxIdle = false → (s.portN p).st.framed = true →
    ∃ t, exec (.commaLoss p) s = .next t ∧
      if 2 ≤ ((s.portN p).resyncs.filter fun k => decide (s.time.ticks - k < ticksPerSec)).length
      then (t.portN p).st = .dropped ∧ (t.portN p).dropCause = 2
      else (t.portN p).st = .train ∧ (t.portN p).epoch = (s.portN p).epoch + 1 ∧
        (t.portN p).cnt.get 0 5 = (s.portN p).cnt.get 0 5 + 1) ∧
  (∀ (s : State) (p : Nat), s.alive = true → (s.portN p).st.framed = true → (s.portN p).idle = false →
    ∃ t, exec (.skipSend p) s = .next t ∧ Safety.Quiet s t ∧ t = { s with host := t.host, port := t.port } ∧
      t.portN p = { s.portN p with lastTx := some .skip, lane := skipSet } ∧ ∀ q, q ≠ p → t.portN q = s.portN q) ∧
  (∀ (s : State) (p : Nat), s.alive = true → (s.portN p).st.framed = true → (s.portN p).txQ = [] →
    ∃ t, exec (.electricalIdleEntry p) s = .next t ∧ Safety.Quiet s t ∧ t = { s with host := t.host, port := t.port } ∧
      (t.portN p).idle = (s.rlConfig.getLsbD 3 || (s.portN p).idle) ∧ ∀ q, q ≠ p → t.portN q = s.portN q) ∧
  (∀ (s : State) (p : Nat), s.alive = true → s.host.live = true → p < 48 → s.twin.handing = false →
    (s.portN p).st = .dropped ∨ (s.portN p).st = .mismatch →
    ∃ t, exec (.revive p false) s = .next t ∧ Safety.Alerted s t ∧
      t = { s with host := t.host, port := t.port, health := t.health, log := t.log } ∧ (t.portN p).st = .detect ∧
      ∀ q, q ≠ p → t.portN q = s.portN q) ∧
  (∀ (s : State) (p : Nat), s.alive = true → s.host.live = true → p < 48 → (s.portN p).st = .up →
    ((s.portN p).resyncs.filter fun k => decide (s.time.ticks - k < ticksPerSec)).length < 2 →
    ∃ t, exec (.resync p) s = .next t ∧ (t.portN p).st = .train ∧ (t.portN p).epoch = (s.portN p).epoch + 1 ∧
      (t.portN p).cnt.get 0 5 = (s.portN p).cnt.get 0 5 + 1) ∧
  (∀ (s : State) (p : Nat), s.alive = true → s.host.live = true → p < 48 →
    (s.portN p).st ≠ .off → (s.portN p).st ≠ .dropped → (s.portN p).st ≠ .mismatch →
    ∃ t, exec (.drop p) s = .next t ∧ (t.portN p).st = .dropped ∧ (t.portN p).dropCause = 5)

/-- Ridge ports send by priority, and take HELLO, responses, echoes, STATUS and errors as the protocol says. A framed port starts
the waiting frame of highest priority and takes it off its queue, a line frame then awaiting its fire time; a line frame that
would end less than 10 µs before it is not sent and its line is late. A HELLO stores the head's serial and count. A RESULT 0 to
the open control frame closes it; a timeout with retries left repeats it. ECHO and TIME queue frames; a delay within 20 ns of the
median joins the last eight, any other is counted. A faulty frame is counted in the receiver that hears it, the port or its
head's. A STATUS stores flags, bank and counters' base. A cool head's throttle decays; without telemetry the head is withheld,
without any frame its port retrains. (spec/04 R130, R133–R135, R139, R140, R147–R149, R151; spec/03 R105, R108; spec/04 Table
04-17) -/
def Obligations.RidgeFramesMove : Prop :=
(∀ (s : State) (p : Nat) (f : DownFrame), s.alive = true → (s.portN p).st.framed = true → s.nextFrame p = some f →
    (∀ tag fr ft, f = .fireLine tag fr ft → s.inTime p f ft = true ∧
      s.line? (tag.toNat % 2 ^ 28 / 2 ^ 20) (tag.toNat % 2 ^ 28 % 2 ^ 20) ≠ none) →
    ∃ t, exec (.ridgeFrameTx p) s = .next t ∧ Safety.Quiet s t ∧ t = { s with host := t.host, bat := t.bat, port := t.port } ∧
      (t.portN p).txQ = (s.portN p).txQ.erase f ∧ (∀ q, q ≠ p → t.portN q = s.portN q) ∧
      (∀ tag fr ft, f = .fireLine tag fr ft → (t.portN p).lastTx = some f ∧ (t.portN p).idle = false ∧
        (t.portN p).awaiting = (s.portN p).awaiting ++ [(tag.setWidth 28, ft)]) ∧
      (f.rank = 4 → (t.portN p).lastTx = some f ∧ t.bat = s.bat)) ∧
  (∀ (s : State) (p : Nat) (tag : BitVec 32) (fr : FireLine) (ft : Int) (l : Line), s.alive = true → (s.portN p).st.framed = true →
    s.nextFrame p = some (.fireLine tag fr ft) → s.inTime p (.fireLine tag fr ft) ft = false →
    s.line? (tag.toNat % 2 ^ 28 / 2 ^ 20) (tag.toNat % 2 ^ 28 % 2 ^ 20) = some l →
    ∃ t, exec (.ridgeFrameTx p) s = .next t ∧ Safety.Raised .place 5 t ∧ (t.portN p).lastTx = (s.portN p).lastTx ∧
      t = { s with host := t.host, bat := t.bat, fire := t.fire, port := t.port }) ∧
  (∀ (s : State) (p : Nat) (f : HelloUp), s.alive = true → (s.portN p).st = .up ∨ (s.portN p).st = .load →
    ∃ t, exec (.rlHelloRx p f) s = .next t ∧ Safety.Quiet s t ∧ t = { s with host := t.host, port := t.port } ∧
      (∀ q, q ≠ p → t.portN q = s.portN q) ∧ (t.portN p).headSerial = some f.serial ∧
      (t.portN p).headNozzles = some f.nozzles.toNat ∧ (t.portN p).st = (s.portN p).st) ∧
  (∀ (s : State) (p : Nat) (o : CtrlOut) (d : List Byte), s.alive = true → s.twin.handing = false → (s.portN p).st.framed = true → (s.portN p).ctrlOut = some o →
    (s.portN p).ctrlQ = [] →
    ∃ t, exec (.rlCtrlRespRx p o.seq 0 d) s = .next t ∧ Safety.Quiet s t ∧ t = { s with host := t.host, port := t.port } ∧
      t.portN p = { s.portN p with ctrlOut := none, rxIdle := false } ∧ ∀ q, q ≠ p → t.portN q = s.portN q) ∧
  (∀ (s : State) (p : Nat) (o : CtrlOut), s.alive = true → (s.portN p).st.framed = true → (s.portN p).ctrlOut = some o →
    o.retriesLeft ≠ 0 →
    ∃ t, exec (.ctrlTimeout p) s = .next t ∧ Safety.Quiet s t ∧ t = { s with host := t.host, port := t.port } ∧
      (t.portN p).ctrlOut = some { o with retriesLeft := o.retriesLeft - 1 } ∧ (t.portN p).txQ = (s.portN p).txQ ++ o.again ∧
      (t.portN p).cnt.get 0 3 = (s.portN p).cnt.get 0 3 + 1 ∧ ∀ q, q ≠ p → t.portN q = s.portN q) ∧
  (∀ (s : State) (p : Nat), s.alive = true →
    (s.portN p).st = .up ∨ (s.portN p).st = .load ∧ s.supervises = true →
    ∃ t, exec (.echoSend p) s = .next t ∧ Safety.Quiet s t ∧ t = { s with host := t.host, port := t.port } ∧
      t.portN p = { s.portN p with
        txQ := (s.portN p).txQ ++ [.echo (s.portN p).echoSeq 0], echoSeq := (s.portN p).echoSeq + 1 } ∧
      ∀ q, q ≠ p → t.portN q = s.portN q) ∧
  (∀ (s : State) (p : Nat) (t1 t2 t3 : BitVec 48) (d : Int), s.alive = true → (s.portN p).st.writes = true →
    d = echoDelay t1 t2 t3 (ridgeTime s.now256) →
    ∃ t, exec (.echoRespRx p t1 t2 t3) s = .next t ∧ Safety.Quiet s t ∧ t = { s with host := t.host, port := t.port } ∧
      (∀ q, q ≠ p → t.portN q = s.portN q) ∧
      (d ≤ 512000 ∧ ((s.portN p).dVals = [] ∨ (d - medianInt (s.portN p).dVals).natAbs ≤ 5120) →
        (t.portN p).dVals = (d :: (s.portN p).dVals).take 8) ∧
      (512000 < d → (t.portN p).dVals = (s.portN p).dVals ∧ (t.portN p).cnt.get 0 6 = (s.portN p).cnt.get 0 6 + 1)) ∧
  (∀ (s : State) (p : Nat), s.alive = true → (s.portN p).st.writes = true →
    ∃ t, exec (.timeSend p) s = .next t ∧ Safety.Quiet s t ∧ t = { s with host := t.host, port := t.port } ∧
      t.portN p = { s.portN p with
        txQ := (s.portN p).txQ ++ [.time (s.portN p).timeSeq 0], timeSeq := (s.portN p).timeSeq + 1 } ∧
      ∀ q, q ≠ p → t.portN q = s.portN q) ∧
  (∀ (s : State) (p : Nat) (f : RawFrame), s.alive = true → (s.portN p).st.framed = true → (s.portN p).rxIdle = false →
    RawFrame.fault true f = some .frameErr →
    ∃ t, exec (.rlBadFrame p ⟨none, f⟩) s = .next t ∧ Safety.Quiet s t ∧ t = { s with host := t.host, port := t.port } ∧
      t.portN p = Port.count 2 1 (s.portN p) ∧ ∀ q, q ≠ p → t.portN q = s.portN q) ∧
  (∀ (s : State) (p u : Nat) (f : RawFrame), s.uportUsed u = true → ((s.headN p).upN u).st = .linked →
    (u = s.ownUport → (s.portN p).idle = false) → RawFrame.fault false f = some .crcErr →
    ∃ t, exec (.rlBadFrame p ⟨some u, f⟩) s = .next t ∧ Safety.Quiet s t ∧ t = { s with host := t.host, head := t.head } ∧
      t.headN p = (s.headN p).updUp u (fun x => { x with crcErr := x.crcErr + 1 }) ∧ ∀ q, q ≠ p → t.headN q = s.headN q) ∧
  (∀ (s : State) (p : Nat) (f : StatusFrame), s.alive = true → (s.portN p).st.framed = true →
    ∃ t, exec (.rlStatusRx p f) s = .next t ∧ (t.portN p).prev = some f ∧ (t.portN p).eyeHead = f.eye ∧
      (t.portN p).timeLock = f.flags.getLsbD 2 ∧ (t.portN p).bank = f.flags.getLsbD 3 ∧ (t.portN p).rxIdle = false ∧
      t.cal = s.cal ∧ t.nvm = s.nvm ∧ t.dram = s.dram ∧ t.pwr = s.pwr ∧ t.geo = s.geo) ∧
  (∀ (s : State) (p : Nat) (x : Int), s.alive = true → p < 48 → (s.portN p).report = some x →
    x < (s.cal.data.thermal.get {} p).tWarn - (s.cal.data.thermal.get {} p).hyst →
    ∃ t, exec (.throttleDecay p) s = .next t ∧ Safety.Quiet s t ∧ t = { s with host := t.host, port := t.port } ∧
      t.portN p = { s.portN p with throttle := (s.portN p).throttle - 1 } ∧ ∀ q, q ≠ p → t.portN q = s.portN q) ∧
  (∀ (s : State) (p : Nat), s.alive = true → p < 48 → (s.portN p).st = .up → (s.portN p).withheld = .none → (s.portN p).silent = false →
    ∃ t, exec (.telemetryTimeout p) s = .next t ∧ Safety.Alerted s t ∧ Safety.Raised .fire 7 t ∧ (t.portN p).withheld = .telemetry ∧
      (t.portN p).silent = true ∧ t = { s with host := t.host, bat := t.bat, fire := t.fire, log := t.log, port := t.port }) ∧
  (∀ (s : State) (p : Nat), s.alive = true → p < 48 → (s.portN p).st.framed = true →
    ((s.portN p).resyncs.filter fun k => decide (s.time.ticks - k < ticksPerSec)).length < 2 →
    ∃ t, exec (.upstreamSilent p) s = .next t ∧ (t.portN p).st = .train ∧ (t.portN p).epoch = (s.portN p).epoch + 1)

/-- Gap windows open and close, warming rates are written, measurement slices go out and their readings are stored. A window opens
on an UP port with no released line left to fire, FIRE_PERMIT high in RUN at PL_0 to PL_2 and a gap of 5 ms; its sequencer's
matching test clears that run. Closing ends the window with rate 0. In an open window without a measurement the supervisor sets
the warming rate by R95's formula. A slice of due nozzles waits behind the write of rate 0 and goes out with its answer; its
result ends it, a STATUS other than 0 or a timeout leaving the nozzles due, and a STATUS of 0 stores the reading of its nozzle.
(spec/03 R93–R98; spec/04 R134, R138; spec/03 Table 03-3; spec/14 Table 14-1) -/
def Obligations.GapWorkRuns : Prop :=
(∀ (s : State) (p : Nat), s.alive = true → p < 48 → (s.portN p).gapOpen = false → (s.portN p).st = .up → s.gapAllowed = true →
    s.portBusy p = false → s.gapLong p = true → s.health.fsRetired.getLsbD (p / 3) = false →
    ∃ t, exec (.gapWindowOpen p false) s = .next t ∧ Safety.Quiet s t ∧
      t = { s with host := t.host, port := t.port, health := { s.health with sdMiss := s.health.sdMiss.set 0 (16 + p / 3) 0 } } ∧
      t.portN p = { s.portN p with gapOpen := true } ∧ ∀ q, q ≠ p → t.portN q = s.portN q) ∧
  (∀ (s : State) (p : Nat), s.alive = true → (s.portN p).gapOpen = true →
    ∃ t, exec (.gapWindowClose p) s = .next t ∧ Safety.Quiet s t ∧ t = { s with host := t.host, port := t.port } ∧
      (t.portN p).gapOpen = false ∧ (t.portN p).warmRate = 0 ∧ (t.portN p).st = (s.portN p).st ∧ ∀ q, q ≠ p → t.portN q = s.portN q) ∧
  (∀ (s : State) (p : Nat) (x : Int), s.alive = true → (s.portN p).temp = some x → (s.portN p).gapOpen = true →
    (s.portN p).measuring = none → s.supervises = true →
    ∃ t, exec (.warmEvaluate p) s = .next t ∧ Safety.Quiet s t ∧ t = { s with host := t.host, port := t.port } ∧
      (t.portN p).warmRate = (if x < (s.cal.data.thermal.get {} p).tTarget
        then min s.fire.warmRateMax (s.fire.warmGain * ((s.cal.data.thermal.get {} p).tTarget - x).toNat / 16) else 0) ∧
      ∀ q, q ≠ p → t.portN q = s.portN q) ∧
  (∀ (s : State) (p : Nat), s.alive = true → (s.portN p).st = .up → (s.portN p).gapOpen = true → s.controls = true →
    (s.portN p).measuring = none → (s.portN p).ctrlOut = none → (s.portN p).ctrlQ = [] → s.staysOpen p = true →
    s.dueNozzles p ≠ [] →
    ∃ t, exec (.measureSliceSend p) s = .next t ∧ Safety.Quiet s t ∧ t = { s with host := t.host, port := t.port } ∧
      t.portN p = { s.portN p with
        ctrlOut := some ⟨(s.portN p).ctrlSeq, .write 0x18 (zeros 4), s.rlConfig.toNat % 8⟩, ctrlSeq := (s.portN p).ctrlSeq + 1,
        txQ := (s.portN p).txQ ++ [.ctrlWr (s.portN p).ctrlSeq 0x18 (zeros 4) false],
        ctrlQ := [.measure ((s.dueNozzles p).take 256)], warmRate := 0 } ∧
      ∀ q, q ≠ p → t.portN q = s.portN q) ∧
  (∀ (s : State) (p : Nat) (o : CtrlOut) (d : List Byte) (ns : List Nat), s.alive = true → s.twin.handing = false →
    (s.portN p).st.framed = true → (s.portN p).ctrlOut = some o → (s.portN p).measuring = none → (s.portN p).ctrlQ = [.measure ns] →
    ∃ t, exec (.rlCtrlRespRx p o.seq 0 d) s = .next t ∧ t = { s with host := t.host, port := t.port } ∧
      t.portN p = { s.portN p with
        ctrlOut := none, ctrlQ := [], measuring := some ns, measSeq := (s.portN p).ctrlSeq, ctrlSeq := (s.portN p).ctrlSeq + 1,
        txQ := (s.portN p).txQ ++ [.measure (s.portN p).ctrlSeq ns], rxIdle := false }) ∧
  (∀ (s : State) (p : Nat) (st : Byte) (rs : List Reading) (ns : List Nat), s.alive = true → s.twin.handing = false → (s.portN p).measuring = some ns →
    (s.portN p).ctrlOut = none → (s.portN p).ctrlQ = [] → st ≠ 0 →
    ∃ t, exec (.measureResultRx p st rs) s = .next t ∧ Safety.Quiet s t ∧ t = { s with host := t.host, port := t.port } ∧
      (t.portN p).measuring = none ∧ ∀ q, q ≠ p → t.portN q = s.portN q) ∧
  (∀ (s : State) (p i : Nat) (r : Reading), s.alive = true → s.twin.handing = false → (s.portN p).measuring = some [i] →
    ∃ t, exec (.measureResultRx p 0 [r]) s = .next t ∧
      t = { s with host := t.host, port := t.port, cal := t.cal, nvm := t.nvm, log := t.log } ∧
      (t.volN p i).resMeas = r.a.toNat ∧ (t.volN p i).readTick = s.time.ticks ∧ (t.volN p i).due = false) ∧
  (∀ (s : State) (p : Nat) (ns : List Nat), s.alive = true → s.twin.handing = false → (s.portN p).measuring = some ns → (s.portN p).ctrlOut = none →
    (s.portN p).ctrlQ = [] →
    ∃ t, exec (.measureTimeout p) s = .next t ∧ Safety.Quiet s t ∧ t = { s with host := t.host, port := t.port } ∧
      t.portN p = { s.portN p with measuring := none } ∧ ∀ q, q ≠ p → t.portN q = s.portN q)

/-- A head keeps, retimes, ceases, fires and forgets line records, and cuts and warms as its registers say. Every head event
changes that head alone. A FIRE_LINE of the port's epoch, 2 µs to 1 s ahead, for a key not held is kept pending; one of another
epoch is counted stale. A RETIME of its release, both times 2 µs ahead, moves the fire time; a CEASE of an unknown key is kept as
ceased. At its time a pending line fires: counted and LAST_FIRED with permit, lock and no cut, else without a shot. A settled
record expires. T_CUT cuts; a low fire-enable ends warming. A warming pulse comes to a nozzle whose mask bit is set, with
WARM_RATE above 0, permit, no cut and no pulse within 16.667 µs, and takes WARM_CODE × 5 ns. On a port without a chip, or before
the port has left DETECT, a line frame changes nothing. (spec/04 R131, R137, R141–R145; spec/04 Table 04-7) -/
def Obligations.HeadLinesFire : Prop :=
(∀ (s : State) (h u : Nat) (tag : BitVec 32) (f : FireLine), h < 48 → s.uportUsed u = true → ((s.headN h).upN u).st ≠ .detect → ((s.headN h).upN u).epoch.toNat = tag.toNat / 2 ^ 28 →
    us2 ≤ ridgeDiff f.fireTime (s.headTime h) → ridgeDiff f.fireTime (s.headTime h) ≤ 256000000000 →
    (s.headN h).recs.get none (tag.toNat % 2 ^ 28) = none →
    ∃ t, exec (.headFireLineRx h u tag f) s = .next t ∧ Safety.Quiet s t ∧ t = { s with host := t.host, head := t.head } ∧
      (∀ k, k ≠ h → t.headN k = s.headN k) ∧ t.headN h = { s.headN h with
        recs := (s.headN h).recs.set none (tag.toNat % 2 ^ 28)
          (some ⟨.pending, f.ctl.toNat % 16, f.fireTime, FireLine.levels f, f.throttle.toNat, u⟩) }) ∧
  (∀ (s : State) (h u : Nat) (tag : BitVec 32) (f : FireLine), h < 48 → s.uportUsed u = true → ((s.headN h).upN u).st ≠ .detect → ((s.headN h).upN u).epoch.toNat ≠ tag.toNat / 2 ^ 28 →
    ∃ t, exec (.headFireLineRx h u tag f) s = .next t ∧ Safety.Quiet s t ∧ t = { s with host := t.host, head := t.head } ∧
      (∀ k, k ≠ h → t.headN k = s.headN k) ∧ (t.headN h).recs = (s.headN h).recs ∧
      ((t.headN h).upN u).staleEpoch = ((s.headN h).upN u).staleEpoch + 1) ∧
  (∀ (s : State) (h u : Nat) (tag : BitVec 32) (ft : BitVec 48) (rel : Byte) (r : HeadRec), h < 48 → s.uportUsed u = true → ((s.headN h).upN u).st ≠ .detect →
    ((s.headN h).upN u).epoch.toNat = tag.toNat / 2 ^ 28 → (s.headN h).recs.get none (tag.toNat % 2 ^ 28) = some r → r.st = .pending →
    r.release = rel.toNat % 16 → us2 ≤ ridgeDiff r.fire (s.headTime h) → us2 ≤ ridgeDiff ft (s.headTime h) →
    ∃ t, exec (.headRetimeRx h u tag ft rel) s = .next t ∧ Safety.Quiet s t ∧ t = { s with host := t.host, head := t.head } ∧
      (∀ k, k ≠ h → t.headN k = s.headN k) ∧ t.headN h = { s.headN h with
        recs := (s.headN h).recs.set none (tag.toNat % 2 ^ 28) (some { r with fire := ft }) }) ∧
  (∀ (s : State) (h u : Nat) (tag : BitVec 32) (rel : Byte), h < 48 → s.uportUsed u = true → ((s.headN h).upN u).st ≠ .detect → ((s.headN h).upN u).epoch.toNat = tag.toNat / 2 ^ 28 →
    (s.headN h).recs.get none (tag.toNat % 2 ^ 28) = none →
    ∃ t, exec (.headCeaseRx h u tag rel) s = .next t ∧ Safety.Quiet s t ∧ t = { s with host := t.host, head := t.head } ∧
      (∀ k, k ≠ h → t.headN k = s.headN k) ∧ t.headN h = { s.headN h with
        recs := (s.headN h).recs.set none (tag.toNat % 2 ^ 28)
          (some ⟨.ceased, rel.toNat % 16, s.headTime h, [], 0, u⟩) }) ∧
  (∀ (s : State) (h : Nat) (key : BitVec 28) (r : HeadRec), h < 48 → (s.headN h).recs.get none key.toNat = some r → r.st = .pending →
    ∃ t, exec (.headFireLine h key) s = .next t ∧ Safety.Quiet s t ∧ t = { s with host := t.host, head := t.head } ∧
      (∀ k, k ≠ h → t.headN k = s.headN k) ∧ (t.headN h).recs = (s.headN h).recs.set none key.toNat (some { r with st := .fired }) ∧
      (s.fire.permit = true ∧ (s.headN h).cut = false ∧ (s.headN h).timeLock = true →
        (t.headN h).firedCount = (s.headN h).firedCount + 1 ∧ (t.headN h).lastFired = key) ∧
      (s.fire.permit = false ∨ (s.headN h).cut = true ∨ (s.headN h).timeLock = false →
        (t.headN h).firedCount = (s.headN h).firedCount ∧ (t.headN h).lastShot = [])) ∧
  (∀ (s : State) (h : Nat) (key : BitVec 28) (r : HeadRec), h < 48 → (s.headN h).recs.get none key.toNat = some r → r.st ≠ .pending →
    ∃ t, exec (.headRecordExpiry h key) s = .next t ∧ Safety.Quiet s t ∧ t = { s with host := t.host, head := t.head } ∧
      (∀ k, k ≠ h → t.headN k = s.headN k) ∧ t.headN h = { s.headN h with recs := (s.headN h).recs.set none key.toNat none }) ∧
  (∀ (s : State) (h : Nat) (temp : BitVec 16), h < 48 → (s.headN h).tCut.toInt ≤ temp.toInt →
    ∃ t, exec (.headTCut h temp) s = .next t ∧ Safety.Quiet s t ∧ t = { s with host := t.host, head := t.head } ∧
      (∀ k, k ≠ h → t.headN k = s.headN k) ∧ t.headN h = { s.headN h with temp := temp, cut := true, warming := false }) ∧
  (∀ (s : State) (h : Nat), h < 48 → s.fire.permit = false →
    ∃ t, exec (.headFireEnableLow h) s = .next t ∧ Safety.Quiet s t ∧ t = { s with host := t.host, head := t.head } ∧
      (∀ k, k ≠ h → t.headN k = s.headN k) ∧ t.headN h = { s.headN h with warming := false }) ∧
  (∀ (s : State) (h z : Nat), h < 48 → (s.headN h).warmRate ≠ 0 → (s.headN h).warmHeld = false → s.fire.permit = true →
    (s.headN h).cut = false → z < (s.headN h).nozzles → ((s.headN h).warmMask.get 0 (z / 32)).getLsbD (z % 32) = true →
    nearPulse (s.headTime h) ((s.headN h).lastEdge.get none z) = false →
    nearPulse (s.headTime h) ((s.headN h).lastMeas.get none z) = false → (s.headN h).firesNear (s.headTime h) 0 z = false →
    ∃ t, exec (.warmingPulse h z) s = .next t ∧ Safety.Quiet s t ∧ t = { s with host := t.host, head := t.head } ∧
      (∀ k, k ≠ h → t.headN k = s.headN k) ∧ t.headN h = { s.headN h with
        warming := true, warmPulses := (s.headN h).warmPulses + 1, lastWarm := some (z, (s.headN h).warmCode * 5) }) ∧
  (∀ (s : State) (h u : Nat) (tag : BitVec 32) (f : FireLine) (ft : BitVec 48) (rel : Byte) (i : Instr),
    s.uportUsed u = false ∨ ((s.headN h).upN u).st = .detect →
    i = .headFireLineRx h u tag f ∨ i = .headRetimeRx h u tag ft rel ∨ i = .headCeaseRx h u tag rel →
    ∃ t, exec i s = .next t ∧ Safety.Quiet s t ∧ t = { s with host := t.host })

/-- A head executes control frames once, measures, follows TIME, echoes, and sends HELLO and STATUS. A CTRL_WR or CTRL_RD with a
new SEQ is executed and its answer sent and kept; the kept SEQ again is answered again and changes no register. A write at an
address that is no multiple of 4 answers RESULT 1. A MEASURE with permit, no cut and no firing near returns the readings with
STATUS 0; without permit its STATUS is 1; it ends warming. TIME corrects the head clock, unlocking beyond 50 ns. An ECHO is
answered with head time. A HELLO sets the port's epoch and drops its pending lines; a head not answered since sends its own HELLO
with its serial and nozzles; STATUS goes out; its lane goes idle. Only that head changes, and the chip's receiver for idle.
(spec/04 R118, R134–R136, R138–R140, R148, R149; spec/04 Table 04-10; spec/04 Table 04-11) -/
def Obligations.HeadFramesAnswer : Prop :=
(∀ (s : State) (h u : Nat) (seq addr : BitVec 32) (d : List Byte), h < 48 → s.uportUsed u = true → ((s.headN h).upN u).st ≠ .detect → seq ≠ ((s.headN h).upN u).lastSeq →
    ∃ t, exec (.headCtrlWrRx h u seq addr d) s = .next t ∧ Safety.Quiet s t ∧ t = { s with host := t.host, head := t.head } ∧
      (∀ k, k ≠ h → t.headN k = s.headN k) ∧ ((t.headN h).upN u).lastSeq = seq ∧
      ((t.headN h).upN u).lastUp = some (.ctrlWrResp seq (BitVec.ofNat 32 ((s.headN h).ctrlWr s.fire.permit addr.toNat d).1)) ∧
      ((t.headN h).upN u).lastAns = ((t.headN h).upN u).lastUp ∧
      t.headN h = { ((s.headN h).ctrlWr s.fire.permit addr.toNat d).2 with up := (t.headN h).up } ∧
      (addr.toNat % 4 ≠ 0 → ((t.headN h).upN u).lastUp = some (.ctrlWrResp seq 1) ∧
        t.headN h = { s.headN h with up := (t.headN h).up })) ∧
  (∀ (s : State) (h u : Nat) (seq addr : BitVec 32) (d : List Byte) (a : UpFrame), h < 48 → s.uportUsed u = true → ((s.headN h).upN u).st ≠ .detect → seq = ((s.headN h).upN u).lastSeq →
    ((s.headN h).upN u).lastAns = some a →
    ∃ t, exec (.headCtrlWrRx h u seq addr d) s = .next t ∧ Safety.Quiet s t ∧ t = { s with host := t.host, head := t.head } ∧
      (∀ k, k ≠ h → t.headN k = s.headN k) ∧ ((t.headN h).upN u).lastUp = some a ∧
      t.headN h = { s.headN h with up := (t.headN h).up }) ∧
  (∀ (s : State) (h u : Nat) (seq addr : BitVec 32) (n : BitVec 16), h < 48 → s.uportUsed u = true → ((s.headN h).upN u).st ≠ .detect → seq ≠ ((s.headN h).upN u).lastSeq →
    ∃ t, exec (.headCtrlRdRx h u seq addr n) s = .next t ∧ Safety.Quiet s t ∧ t = { s with host := t.host, head := t.head } ∧
      (∀ k, k ≠ h → t.headN k = s.headN k) ∧ ((t.headN h).upN u).lastSeq = seq ∧ t.headN h = { s.headN h with up := (t.headN h).up } ∧
      ((t.headN h).upN u).lastUp = some (.ctrlRdResp seq (BitVec.ofNat 32 ((s.headN h).ctrlRd addr.toNat n.toNat).1)
        ((s.headN h).ctrlRd addr.toNat n.toNat).2)) ∧
  (∀ (s : State) (h u : Nat) (seq : BitVec 32) (ns : List (BitVec 16)) (ra rb : List (BitVec 20)), h < 48 → s.uportUsed u = true → ((s.headN h).upN u).st ≠ .detect →
    seq ≠ ((s.headN h).upN u).lastSeq → s.fire.permit = true → (s.headN h).cut = false →
    (s.headN h).cannotMeasure (s.headTime h) ns = false →
    ∃ t, exec (.headMeasureFrame h u seq ns ra rb) s = .next t ∧ Safety.Quiet s t ∧ t = { s with host := t.host, head := t.head } ∧
      (∀ k, k ≠ h → t.headN k = s.headN k) ∧
      ((t.headN h).upN u).lastUp = some (.measureResp seq 0 (ra.zipWith Reading.mk rb)) ∧
      t.headN h = { s.headN h with warming := false, warmHeld := true, lastMeas := (t.headN h).lastMeas, up := (t.headN h).up }) ∧
  (∀ (s : State) (h u : Nat) (seq : BitVec 32) (ns : List (BitVec 16)) (ra rb : List (BitVec 20)), h < 48 → s.uportUsed u = true → ((s.headN h).upN u).st ≠ .detect →
    seq ≠ ((s.headN h).upN u).lastSeq → s.fire.permit = false →
    ∃ t, exec (.headMeasureFrame h u seq ns ra rb) s = .next t ∧ Safety.Quiet s t ∧ t = { s with host := t.host, head := t.head } ∧
      (∀ k, k ≠ h → t.headN k = s.headN k) ∧ (∃ rs, ((t.headN h).upN u).lastUp = some (.measureResp seq 1 rs)) ∧
      t.headN h = { s.headN h with warming := false, warmHeld := true, up := (t.headN h).up }) ∧
  (∀ (s : State) (h u : Nat) (arr : BitVec 48) (δ : Int), h < 48 → s.uportUsed u = true → ((s.headN h).upN u).st ≠ .detect → δ = ridgeDiff arr (s.headTime h) →
    ∃ t, exec (.headTimeRx h u arr) s = .next t ∧ Safety.Quiet s t ∧ t = { s with host := t.host, head := t.head } ∧
      (∀ k, k ≠ h → t.headN k = s.headN k) ∧ (t.headN h).clockOff = (s.headN h).clockOff + δ ∧
      (12800 < δ.natAbs → (t.headN h).timeLock = false) ∧
      (δ.natAbs ≤ 2048 → 1 ≤ (s.headN h).agree → (t.headN h).timeLock = true) ∧
      (δ.natAbs ≤ 12800 → 2048 < δ.natAbs → (t.headN h).timeLock = (s.headN h).timeLock ∧ (t.headN h).agree = 0)) ∧
  (∀ (s : State) (h u : Nat) (seq : BitVec 32) (t1 : BitVec 48), h < 48 → s.uportUsed u = true → ((s.headN h).upN u).st ≠ .detect →
    ∃ t, exec (.headEchoRx h u seq t1) s = .next t ∧ Safety.Quiet s t ∧ t = { s with host := t.host, head := t.head } ∧
      (∀ k, k ≠ h → t.headN k = s.headN k) ∧
      ((t.headN h).upN u).lastUp = some (.echoResp seq t1 (s.headTime h) (s.headTime h))) ∧
  (∀ (s : State) (h u : Nat) (e : Byte), h < 48 → s.uportUsed u = true → ((s.headN h).upN u).st ≠ .detect →
    ∃ t, exec (.headHelloRx h u e) s = .next t ∧ Safety.Quiet s t ∧ t = { s with host := t.host, head := t.head } ∧
      (∀ k, k ≠ h → t.headN k = s.headN k) ∧ ((t.headN h).upN u).epoch = e.setWidth 4 ∧ ((t.headN h).upN u).echo = e &&& 0x0F ∧
      ((t.headN h).upN u).lastSeq = 0xFFFFFFFF ∧
      ∀ x ∈ (t.headN h).recs, ∀ r, x.2 = some r → ¬(r.st = .pending ∧ r.uport = u)) ∧
  (∀ (s : State) (h u : Nat) (sn : BitVec 64) (n : Nat), h < 48 → s.uportUsed u = true →
    (s.headN h).serial = sn → (s.headN h).nozzles = n → s.answered h u = false →
    ∃ t, exec (.headHelloSend h ⟨u, sn, n⟩) s = .next t ∧ Safety.Quiet s t ∧ t = { s with host := t.host, head := t.head } ∧
      (∀ k, k ≠ h → t.headN k = s.headN k) ∧ ((t.headN h).upN u).st = .discover ∧ t.headN h = { s.headN h with up := (t.headN h).up } ∧
      ((t.headN h).upN u).lastUp = some (.hello ⟨1, BitVec.ofNat 8 (u + bit (s.headN h).fresh 1), BitVec.ofNat 16 n, sn,
        ((s.headN h).upN u).echo⟩)) ∧
  (∀ (s : State) (h u : Nat) (sn : BitVec 64) (n : Nat), h < 48 → s.uportUsed u = true →
    ¬((s.headN h).serial = sn ∧ (s.headN h).nozzles = n) →
    ∃ t, exec (.headHelloSend h ⟨u, sn, n⟩) s = .next t ∧ Safety.Quiet s t ∧ t = { s with host := t.host, head := t.head } ∧
      (∀ k, k ≠ h → t.headN k = s.headN k) ∧ t.headN h = { ({} : Head) with serial := sn, nozzles := n, up := (t.headN h).up } ∧
      ((t.headN h).upN u).st = .discover ∧
      ((t.headN h).upN u).lastUp = some (.hello ⟨1, BitVec.ofNat 8 (u + 2), BitVec.ofNat 16 n, sn, 0xFF⟩)) ∧
  (∀ (s : State) (h u : Nat) (sn : BitVec 64) (n : Nat), (s.headN h).serial = sn → (s.headN h).nozzles = n → s.answered h u = true →
    ∃ t, exec (.headHelloSend h ⟨u, sn, n⟩) s = .next t ∧ Safety.Quiet s t ∧ t = { s with host := t.host }) ∧
  (∀ (s : State) (h u : Nat) (temp : BitVec 16) (eye : Nat), h < 48 → s.uportUsed u = true → ((s.headN h).upN u).st ≠ .detect → eye < 256 →
    ∃ t, exec (.headStatusSend h ⟨u, temp, eye⟩) s = .next t ∧ Safety.Quiet s t ∧ t = { s with host := t.host, head := t.head } ∧
      (∀ k, k ≠ h → t.headN k = s.headN k) ∧ ((t.headN h).upN u).statusSeq = ((s.headN h).upN u).statusSeq + 1 ∧
      ((t.headN h).upN u).eye = BitVec.ofNat 8 eye ∧ t.headN h = { s.headN h with temp := temp, up := (t.headN h).up } ∧
      ((t.headN h).upN u).lastUp = some (.status ((s.headN h).upN u).statusSeq
        { (s.headN h).status s.fire.permit u with temp := temp, eye := BitVec.ofNat 8 eye })) ∧
  (∀ (s : State) (h u : Nat), h < 48 → s.uportUsed u = true → ((s.headN h).upN u).st ≠ .detect →
    ∃ t, exec (.headElectricalIdleEntry h u) s = .next t ∧ Safety.Quiet s t ∧ t = { s with host := t.host, head := t.head, port := t.port } ∧
      ((t.headN h).upN u).idle = true ∧ (∀ k, k ≠ h → t.headN k = s.headN k) ∧
      (u = s.ownUport → (s.portN h).st.framed = true → (t.portN h).rxIdle = true) ∧
      ∀ q, q ≠ h → t.portN q = s.portN q)

/-- Triggers are issued and filed, CSI packets open frames, number and take lines, the pipeline takes and finishes them. A due
trigger of a running port without a pending exposure set activates its output, files the web position and time in its slot and
counts. FS opens the next frame when its triggers were issued and none is open; LS sets the line number of its channel; a good
line under single exposure with room enters the FIFO and is counted, its samples written to the raw frame ring; an uncorrectable
header discards the line and raises LINK_ERROR's alert bit, frame open or not, and discards a short packet, counted; a line number
out of range is counted in SEQ_ERR; another packet is counted; FE closes the frame with its record, MISSING counting the lines not
good and those discarded beyond them. The pipeline takes the oldest line of the next port; finishing it empties the pipeline and
counts it. (spec/06 R183–R186, R189, R190, R193, R195; spec/06 Table 06-1; spec/06 Table 06-2) -/
def Obligations.CameraLinesMove : Prop :=
(∀ (s : State) (p : Nat), s.alive = true → s.trigDue p = true → (s.camN p).st ≠ .stopping → (s.camN p).pend = none →
    s.trigWasLate p = false →
    ∃ t, exec (.camTrigger p) s = .next t ∧ Safety.Quiet s t ∧ t = { s with host := t.host, cam := t.cam, trig := t.trig } ∧
      (t.camN p).trigs = (s.camN p).trigs + 1 ∧ (t.camN p).slots.get 0 (s.camN p).trigs = s.webPos ∧
      (t.camN p).lastTrig = some s.now ∧ (t.trigN (s.camN p).place.trig).active = true ∧ ∀ q, q ≠ p → t.camN q = s.camN q) ∧
  (∀ (s : State) (p : Nat), s.alive = true → s.receives p = true → (s.camN p).frame = none →
    (s.camN p).frames * 256 < (s.camN p).trigs →
    ∃ t, exec (.csiFsRx ⟨p, 0⟩) s = .next t ∧ Safety.Quiet s t ∧ t = { s with host := t.host, cam := t.cam } ∧
      (t.camN p).frame.map (·.number) = some (s.camN p).frames ∧ (t.camN p).frames = (s.camN p).frames + 1 ∧
      (t.camN p).frameEpoch = (s.camN p).epoch ∧ ∀ q, q ≠ p → t.camN q = s.camN q) ∧
  (∀ (s : State) (p vc n : Nat), s.alive = true → s.receives p = true →
    ∃ t, exec (.csiLsRx ⟨p, 0⟩ vc n) s = .next t ∧ Safety.Quiet s t ∧ t = { s with host := t.host, cam := t.cam } ∧
      t.camN p = { s.camN p with curLine := (s.camN p).curLine.set 0 vc n } ∧ ∀ q, q ≠ p → t.camN q = s.camN q) ∧
  (∀ (s : State) (p vc n : Nat) (i : Instr), s.alive = true → s.receives p = true →
    i = .csiFsRx ⟨p, 2⟩ ∨ i = .csiLsRx ⟨p, 2⟩ vc n ∨ i = .csiOtherPacketRx ⟨p, 2⟩ ∨ i = .csiFeRx ⟨p, 2⟩ →
    ∃ t, exec i s = .next t ∧ Safety.Quiet s t ∧ t = { s with host := t.host, cam := t.cam } ∧
      t.camN p = { s.camN p with eccUncorr := (s.camN p).eccUncorr + 1 } ∧ ∀ q, q ≠ p → t.camN q = s.camN q) ∧
  (∀ (s : State) (p : Nat) (l : CsiLine) (f : Frame), s.alive = true → s.receives p = true → (s.camN p).frame = some f → l.ecc = 0 →
    (s.camN p).link.vcShort = none → l.vc = (s.camN p).link.vcLong → (s.camN p).badNumber l.vc = false →
    l.samples.length = (s.camN p).link.pixels * (s.camN p).link.channels →
    l.crcOk = true → (s.camN p).fifo.length < 64 → s.dram.mapHotspot = false →
    ∃ t, exec (.csiLineRx p l) s = .next t ∧ Safety.Quiet s t ∧ t = { s with host := t.host, cam := t.cam, dram := t.dram } ∧
      (t.camN p).fifo.length = (s.camN p).fifo.length + 1 ∧ (t.camN p).linesOk = (s.camN p).linesOk + 1 ∧
      ((t.camN p).fifo.getLast?).map (fun x => (x.frame, x.line, x.long)) = some (f.number, (s.camN p).curLine.get 0 l.vc, l.samples) ∧
      ∀ q, q ≠ p → t.camN q = s.camN q) ∧
  (∀ (s : State) (p : Nat) (l : CsiLine), s.alive = true → s.receives p = true → l.ecc = 0 →
    (s.camN p).link.vcs.contains l.vc = true → (s.camN p).badNumber l.vc = true →
    ∃ t, exec (.csiLineRx p l) s = .next t ∧ Safety.Quiet s t ∧ t = { s with host := t.host, cam := t.cam } ∧
      (t.camN p).seqErr = (s.camN p).seqErr + 1 ∧ (t.camN p).fifo = (s.camN p).fifo ∧ ∀ q, q ≠ p → t.camN q = s.camN q) ∧
  (∀ (s : State) (p : Nat) (l : CsiLine), s.alive = true → s.receives p = true → l.ecc = 2 →
    ∃ t, exec (.csiLineRx p l) s = .next t ∧ Safety.Alerted s t ∧ Safety.Raised .cam 1 t ∧
      t = { s with host := t.host, cam := t.cam } ∧ (t.camN p).eccUncorr = (s.camN p).eccUncorr + 1 ∧
      (t.camN p).fifo = (s.camN p).fifo ∧ ∀ q, q ≠ p → t.camN q = s.camN q) ∧
  (∀ (s : State) (p : Nat), s.alive = true → s.receives p = true →
    ∃ t, exec (.csiOtherPacketRx ⟨p, 0⟩) s = .next t ∧ Safety.Quiet s t ∧ t = { s with host := t.host, cam := t.cam } ∧
      t.camN p = { s.camN p with dtOther := (s.camN p).dtOther + 1 } ∧ ∀ q, q ≠ p → t.camN q = s.camN q) ∧
  (∀ (s : State) (p : Nat) (f : Frame), s.alive = true → s.receives p = true → (s.camN p).frame = some f →
    ∃ t, exec (.csiFeRx ⟨p, 0⟩) s = .next t ∧
      t = { s with host := t.host, cam := t.cam, slate := t.slate, vis := t.vis, dram := t.dram, free := t.free } ∧
      (t.camN p).frame = none ∧ ((t.camN p).recs.head?).map (·.frame) = some (BitVec.ofNat 32 f.number) ∧
      ((t.camN p).recs.head?).map (·.missing) = some (256 - f.good.length + f.extra)) ∧
  (∀ (s : State) (p : Nat) (l : CamLine) (ls : List CamLine), s.alive = true → s.vis.cur = none → s.visGated = false →
    s.nextPort = some p → (s.camN p).fifo = l :: ls →
    ∃ t, exec .pipelineLineStart s = .next t ∧ Safety.Quiet s t ∧
      t = { s with host := t.host, cam := t.cam, vis := { s.vis with cur := some (p, l), rrNext := (p + 1) % 4 } } ∧
      t.camN p = { s.camN p with fifo := ls } ∧ ∀ q, q ≠ p → t.camN q = s.camN q) ∧
  (∀ (s : State) (p : Nat) (l : CamLine), s.alive = true → s.vis.cur = some (p, l) → s.visGated = false →
    ∃ t, exec .pipelineLineDone s = .next t ∧ t.vis.cur = none ∧ t.vis.linesDone = s.vis.linesDone + 1 ∧
      t.bat = s.bat ∧ t.port = s.port ∧ t.pwr = s.pwr ∧ t.geo = s.geo ∧ t.twin = s.twin ∧ t.health = s.health)

/-- Encode jobs start and publish, blocks close, recalibrations end and restart, records are written, committed, compacted. The
idle encoder takes its oldest job and notes the ring's space; a job that fits publishes its bytes on its channel and is counted.
The block a camera has seen pass closes for the columns seen through it: their entries go into their rings and are cleared, and
the camera's next block opens where this one ends; other columns keep theirs. A recalibration that times out without samples ends
with its alert; after PERIOD_S a running port collects again. The waiting record that fits starts at the ring's next place under
the next sequence; its COMMIT adds it to the journal, advances both and brings the content of the store up to it; a drive record
comes into force with it, settings were in force. A compaction's end counts it and raises its alert. (spec/05 R176, R177; spec/07
R209, R219, R223–R226; spec/07 Table 07-4) -/
def Obligations.EncoderLoopAndStoreMove : Prop :=
(∀ (s : State) (j : EncJob) (js : List EncJob), s.alive = true → s.slate.encBusy = none → s.visGated = false → s.slate.encJobs = j :: js →
    ∃ t, exec .encodeJobStart s = .next t ∧ Safety.Quiet s t ∧ t = { s with host := t.host, slate := { s.slate with
      encJobs := js, encBusy := some (j, (s.dmaN (s.esN j.es).channel).ringSpace) } }) ∧
  (∀ (s : State) (j : EncJob) (n : Nat), s.alive = true → s.visGated = false → s.slate.encBusy = some (j, n) →
    (s.jobOutput j).1.length ≤ n → (s.esN j.es).closing = false →
    ∃ t, exec .encodeJobDone s = .next t ∧ Safety.Quiet s t ∧ t = { s with host := t.host, slate := t.slate, dma := t.dma } ∧
      t.slate.encBusy = none ∧ t.slate.encJobsDone = s.slate.encJobsDone + 1 ∧
      t.dmaN (s.esN j.es).channel = { s.dmaN (s.esN j.es).channel with
        out := (s.dmaN (s.esN j.es).channel).out ++ (s.jobOutput j).1 } ∧
      (t.esN j.es).codec = (s.jobOutput j).2 ∧ (t.esN j.es).headerDone = true ∧
      ∀ c, c ≠ (s.esN j.es).channel → t.dmaN c = s.dmaN c) ∧
  (∀ (s : State) (p : Nat) (a : Int), s.alive = true → p < 4 → s.loop.openPos.get none p = some a → s.cal.data.loop.enable = true →
    s.blockPassed p = true → (∀ q, q < 4 → q ≠ p → s.blockPassed q = false) →
    ∃ t, exec .blockClose s = .next t ∧ t.loop.openPos.get none p = some (a + s.blockLen) ∧
      t.loop.blk.get 0 p = s.loop.blk.get 0 p + 1 ∧
      (∀ c, c ∈ s.seenCols p → t.loop.acc.get AccEntry.none c = AccEntry.none ∧ (s.loop.peer.get 0 c ≠ s.loop.blockOf p + 1 →
        t.loop.ring.get [] c = addBlock (s.loop.blockOf p) (s.loop.acc.get AccEntry.none c) (s.loop.ring.get [] c))) ∧
      (∀ c, c ∉ s.seenCols p → t.loop.acc.get AccEntry.none c = s.loop.acc.get AccEntry.none c ∧
        t.loop.ring.get [] c = s.loop.ring.get [] c) ∧
      t.cal = s.cal ∧ t.cam = s.cam ∧ t.dram = s.dram ∧ t.bat = s.bat) ∧
  (∀ (s : State) (p : Nat), s.alive = true → p < 4 → (s.camN p).recal.collecting = true → (s.camN p).recal.counts = [] →
    0 < (s.camN p).link.pixels → 0 < (s.cal.data.loop.recal.get {} p).subMin →
    ∃ t, exec (.recalTimeout p) s = .next t ∧ Safety.Alerted s t ∧ Safety.Raised .cal 5 t ∧ t = { s with host := t.host, cam := t.cam } ∧
      (t.camN p).recal.collecting = false ∧ (t.camN p).pendFlat = (s.camN p).pendFlat ∧ ∀ q, q ≠ p → t.camN q = s.camN q) ∧
  (∀ (s : State) (p : Nat), s.alive = true → p < 4 → (s.camN p).runs = true → (s.camN p).recal.started = true →
    (s.camN p).recal.collecting = false → (s.cal.data.loop.recal.get {} p).periodS ≠ 0 →
    ∃ t, exec (.recalPeriodRestart p) s = .next t ∧ Safety.Quiet s t ∧ t = { s with host := t.host, cam := t.cam } ∧
      (t.camN p).recal = { collecting := true, started := true } ∧ ∀ q, q ≠ p → t.camN q = s.camN q) ∧
  (∀ (s : State) (b : JBody) (bs : List JBody), s.alive = true → s.nvm.writing = none → s.nvm.waiting = b :: bs →
    fitsEnd s.nvm.nextOff b.size = true → b.size ≤ s.nvm.freeBytes →
    ∃ t, exec .journalRecordWrite s = .next t ∧ t = { s with host := t.host, nvm := t.nvm, health := t.health, log := t.log } ∧
      t.nvm.waiting = bs ∧ t.nvm.writingRx = false ∧ t.nvm.pendingWord = s.nvm.nextSeq ∧ t.nvm.journal = s.nvm.journal ∧
      t.nvm.writing = some { seq := s.nvm.nextSeq, off := s.nvm.nextOff, time := s.recordTime.1, body := b }) ∧
  (∀ (s : State) (r : JRec) (l : LoopCfg), s.alive = true → s.nvm.writing = some r → s.nvm.writingRx = false → r.body = .settings l →
    s.sharesStore = false →
    ∃ t, exec .journalCommit s = .next t ∧ Safety.Quiet s t ∧
      t = { s with host := t.host, nvm := t.nvm, cal := { s.cal with store := r.body.apply s.cal.store } } ∧ t.nvm.writing = none ∧ t.nvm.nextSeq = s.nvm.nextSeq + 1 ∧ t.nvm.nextOff = r.off + r.body.size ∧
      t.nvm.pendingWord = 0xFFFFFFFF ∧ { r with committed := true } ∈ t.nvm.journal) ∧
  (∀ (s : State) (r : JRec) (p : Nat) (d : Drive), s.alive = true → s.nvm.writing = some r → s.nvm.writingRx = false →
    r.body = .drive p d → s.sharesStore = false →
    ∃ t, exec .journalCommit s = .next t ∧ t.cal.data = r.body.apply s.cal.data ∧ t.cal.store = r.body.apply s.cal.store ∧
      t.nvm.writing = none ∧ { r with committed := true } ∈ t.nvm.journal ∧ t.bat = s.bat ∧ t.geo = s.geo ∧
      ∀ q, q ≠ p → t.portN q = s.portN q) ∧
  (∀ (s : State) (q : BitVec 32), s.alive = true → s.nvm.compacting = some q → (∀ i ∈ s.host.inflight, i.wait ≠ .commit) →
    s.nvm.erasing = false → s.nvm.dropPorts = [] →
    ∃ t, exec .compactionDone s = .next t ∧ Safety.Alerted s t ∧ Safety.Raised .cal 8 t ∧
      t = { s with host := t.host, nvm := t.nvm, health := t.health, log := t.log, cal := { s.cal with store := t.cal.store } } ∧
      (2 * t.nvm.live ≤ journalBytes → t.nvm.compacting = none) ∧
      t.nvm.compactions = s.nvm.compactions + 1 ∧ t.nvm.dropPorts = [])

/-- HELLO forms the pair or shows a conflict; BEATs, their loss and head evidence judge the partner; acknowledgements and retries.
A HELLO with the other strap level forms the pair and passes to SYNC, one with the same level is a conflict. BEAT_SEND leaves one
BEAT waiting, and starts SYNC once the partner's has come. A healthy BEAT in UP is kept and clears the judgement. Without BEATs
the link retrains and, with TWIN_BEAT_IN toggling, SOLO is entered; a silent wire opens the evidence window, whose end with no
line due is a stalemate. ILK_DISAGREE drops FIRE_PERMIT. A due ACK is queued; an ACK of the oldest frame advances; 20 µs without
one repeats the frames with RETRY, after 8 times the link retrains. (spec/09 R263, R266–R270, R280, R281, R283, R286; spec/09
Table 09-3; spec/09 Table 09-6) -/
def Obligations.TwinLinkKeepsThePair : Prop :=
(∀ (s : State) (flags epoch : Byte) (serial : BitVec 64), s.alive = true → s.boot.twinEn = true → s.twin.link = .discover →
    flags.getLsbD 0 ≠ s.boot.twinPrefer →
    ∃ t, exec (.twinHelloRx flags epoch serial) s = .next t ∧ Safety.Quiet s t ∧ t = { s with host := t.host, twin := t.twin } ∧
      t.twin.link = .sync ∧ t.twin.formed = true ∧ t.twin.conflict = false ∧ t.twin.solo = false ∧ t.twin.peerEpoch = some epoch ∧
      t.twin.partnerSerial = serial ∧ t.twin.txQ = [s.ownHello]) ∧
  (∀ (s : State) (flags epoch : Byte) (serial : BitVec 64), s.alive = true → s.boot.twinEn = true → s.twin.link = .discover →
    s.twin.conflict = false → flags.getLsbD 0 = s.boot.twinPrefer →
    ∃ t, exec (.twinHelloRx flags epoch serial) s = .next t ∧ Safety.Raised .twin 10 t ∧ t.twin.conflict = true ∧
      t.twin.formed = false ∧ t = { s with host := t.host, twin := t.twin, log := t.log }) ∧
  (∀ (s : State), s.alive = true → s.twinOpen = true → s.twin.link = .up ∨ s.twin.syncRun = true ∨ s.twin.beatSeen = false →
    ∃ t, exec .beatSend s = .next t ∧ Safety.Quiet s t ∧ t = { s with host := t.host, twin := { s.twin with
      beatSent := true, txQ := (s.twin.txQ.filter fun f => !f.isBeat) ++ [.beat s.beat] } }) ∧
  (∀ (s : State) (b : Beat), s.alive = true → s.boot.twinEn = true → s.twin.link = .sync → s.twin.partner = some b →
    s.twin.beatSeen = true → s.twin.syncRun = false → s.twin.role = .reserve → s.twin.supervisor = false →
    ∃ t, exec .beatSend s = .next t ∧ Safety.Quiet s t ∧ t = { s with host := t.host, twin := { s.twin with
      beatSent := true, syncRun := true, syncLast := none, txQ := (s.twin.txQ.filter fun f => !f.isBeat) ++ [.beat s.beat] } }) ∧
  (∀ (s : State) (b : Beat), s.alive = true → s.twin.link = .up → s.boot.twinEn = true → s.twin.role = .reserve → b.flags.getLsbD 2 = false →
    b.flags.getLsbD 3 = false → b.flags.getLsbD 5 = true → s.twin.lost = false → s.twin.returning = false →
    ∃ t, exec (.beatRx b) s = .next t ∧ t.twin.partner = some b ∧ t.twin.lost = false ∧ t.twin.beatSeen = true ∧ t.twin.role = .reserve ∧
      t.twin.evidence = none ∧ t = { s with host := t.host, twin := t.twin, fire := t.fire, bat := t.bat, log := t.log }) ∧
  (∀ (s : State), s.alive = true → s.boot.twinEn = true → s.twin.formed = true → s.twinOpen = true → s.twin.beatIn = true →
    ∃ t, exec .beatTimeout s = .next t ∧ Safety.Raised .twin 2 t ∧ Safety.Raised .twin 3 t ∧ t.twin.solo = true ∧
      t.twin.link = .detect ∧ t.twin.unacked = [] ∧ t.twin.role = s.twin.role ∧ t.nvm = { s.nvm with rx := none }) ∧
  (∀ (s : State), s.alive = true → s.boot.twinEn = true → s.twin.formed = true → s.twinOpen = false → s.twin.lost = false →
    s.twin.evidence = none →
    ∃ t, exec .twinBeatInSilent s = .next t ∧ Safety.Quiet s t ∧ t = { s with host := t.host, twin := { s.twin with
      beatIn := false, evidence := some (s.now256.toNat, s.dupNow) } }) ∧
  (∀ (s : State) (k : Nat) (m : SMap (BitVec 16)), s.alive = true → s.twin.evidence = some (k, m) → s.twin.beatIn = false →
    (∀ p, p < 48 → s.dueSince k p = false) →
    ∃ t, exec .partnerEvidenceEnd s = .next t ∧ Safety.Raised .twin 6 t ∧ t.twin.frozen = true ∧ t.twin.stalemate = true ∧
      t.twin.role = (if s.twin.role = .reserve then .claim else s.twin.role) ∧ t.twin.evidence = none) ∧
  (∀ (s : State) (k : Nat), s.alive = true → s.twin.disagreeSince = some k →
    ∃ t, exec .ilkDisagree s = .next t ∧ Safety.Raised .twin 9 t ∧ t.fire.permit = false ∧ t.twin.disagreeSince = none ∧
      (s.fire.permit = true → t.fire.dropCause = 1) ∧ t.cal = s.cal ∧ t.nvm = s.nvm ∧ t.pwr = s.pwr ∧ t.geo = s.geo) ∧
  (∀ (s : State) (q : BitVec 32), s.alive = true → s.twin.link = .up → s.boot.twinEn = true → s.twinOpen = true → s.twin.ackDue = some q →
    s.twin.castling = none →
    ∃ t, exec .ackSend s = .next t ∧ Safety.Quiet s t ∧ t = { s with host := t.host, twin := { s.twin with
      ackDue := none, txQ := s.twin.txQ ++ [.ack q] } }) ∧
  (∀ (s : State) (q : BitVec 32) (f : JournalFrame), s.alive = true → s.twin.link = .up → s.twinOpen = true →
    s.twin.unacked = [(q, .journal f)] → s.twin.gainWait = [] →
    ∃ t, exec (.ackRx q) s = .next t ∧ Safety.Quiet s t ∧ t = { s with host := t.host, twin := { s.twin with
      unacked := [], resends := 0 } }) ∧
  (∀ (s : State), s.alive = true → s.twinOpen = true → s.twin.unacked ≠ [] → s.twin.resends < 8 →
    ∃ t, exec .twinResend s = .next t ∧ Safety.Quiet s t ∧ t = { s with host := t.host, twin := { s.twin with
      resends := s.twin.resends + 1,
      txQ := s.twin.txQ ++ (s.twin.unacked.take twinWindow).map fun x => TwinOut.seq x.1 true x.2 } }) ∧
  (∀ (s : State), s.alive = true → s.twinOpen = true → s.twin.unacked ≠ [] → 8 ≤ s.twin.resends →
    ∃ t, exec .twinResend s = .next t ∧ t.twin.link = .train ∧ t.twin.retrain = s.twin.retrain + 1 ∧ t.twin.unacked = [])

/-- The next sequenced frame of the partner is taken with its effect and due for ACK; any other counts as out of order. On an open
link a frame of the expected sequence advances it and makes its ACK due. On the RESERVE, MIRROR_DATA stores bytes of its entry,
ADMIT queues a page it does not hold, and a KIND 1 page event ends the page. On the other chip than the supervisor, a forwarded
FIRE_SET_MEASURE sets the period and the first fragment of a longer record is kept; the supervisor adds ACCUM entries of columns
it cannot see to its sums for their block. ROLE KIND 5 arms the castle. A frame out of sequence is counted, the ACK of the last
accepted SEQ falls due again, and nothing else changes. (spec/09 R269–R275, R278, R279, R284; spec/07 R228; spec/09 Table 09-2;
spec/09 Table 09-5) -/
def Obligations.TwinFramesTakeEffect : Prop :=
(∀ (s : State) (seq : BitVec 32) (f : MirrorFrame), s.alive = true → s.twinOpen = true → seq ≠ s.twin.rxExp →
    ∃ t, exec (.mirrorDataRx seq f) s = .next t ∧ Safety.Quiet s t ∧
      t = { s with host := t.host, twin := { s.twin with
        outOfOrder := s.twin.outOfOrder + 1, ackDue := s.twin.rxLast, quietBeats := 0 } }) ∧
  (∀ (s : State) (f : MirrorFrame), s.alive = true → s.twinOpen = true → s.twin.role = .reserve →
    s.entry? f.storeEntry.toNat = none → f.offset = 0 → f.flags.getLsbD 0 = false →
    ∃ t, exec (.mirrorDataRx s.twin.rxExp f) s = .next t ∧ Safety.Quiet s t ∧
      t = { s with host := t.host, slate := t.slate,
                   twin := { s.twin with rxExp := s.twin.rxExp + 1, ackDue := some s.twin.rxExp, rxLast := some s.twin.rxExp, quietBeats := 0 } } ∧
      (t.entry? f.storeEntry.toNat).map (fun e => ((e.stream.get {} f.seg.toNat).data, e.lines, e.segments)) =
        some (f.data, f.lines.toNat, f.segments.toNat)) ∧
  (∀ (s : State) (f : AdmitFrame), s.alive = true → s.twinOpen = true → s.twin.role = .reserve → s.page? f.handle.toNat = none →
    ∃ t, exec (.admitRx s.twin.rxExp f) s = .next t ∧ t.twin.rxExp = s.twin.rxExp + 1 ∧ t.twin.ackDue = some s.twin.rxExp ∧
      (t.page? f.handle.toNat).map (fun p => (p.entry, p.lines, p.top, p.own)) =
        some (f.storeEntry.toNat, f.lines.toNat, f.top.toInt, false)) ∧
  (∀ (s : State) (f : PageEventFrame) (p : Page), s.alive = true → s.twinOpen = true → s.twin.role = .reserve → f.kind = 1 →
    s.page? f.handle.toNat = some p →
    ∃ t, exec (.pageEventRx s.twin.rxExp f) s = .next t ∧ t.twin.rxExp = s.twin.rxExp + 1 ∧ t.page? f.handle.toNat = none ∧
      t.cal = s.cal ∧ t.nvm = s.nvm ∧ t.pwr = s.pwr ∧ t.geo = s.geo) ∧
  (∀ (s : State) (key : BitVec 32) (a b c d : Byte), s.alive = true → s.twinOpen = true → s.twin.supervisor = false →
    ∃ t, exec (.configRx s.twin.rxExp 0x0404 key [a, b, c, d]) s = .next t ∧ t.twin.rxExp = s.twin.rxExp + 1 ∧
      t.twin.ackDue = some s.twin.rxExp ∧ t.fire.measPeriodS = fieldAt [a, b, c, d] 0 4 ∧ t.geo = s.geo ∧ t.cal = s.cal ∧ t.nvm = s.nvm) ∧
  (∀ (s : State) (f : JournalFrame), s.alive = true → s.twinOpen = true → s.twin.supervisor = false → f.frag = 0 → 1 < f.frags.toNat →
    ∃ t, exec (.journalRx s.twin.rxExp f) s = .next t ∧ Safety.Quiet s t ∧
      t = { s with host := t.host, nvm := { s.nvm with rx := some (f.gableSeq, f.data, 1) },
                   twin := { s.twin with rxExp := s.twin.rxExp + 1, ackDue := some s.twin.rxExp, rxLast := some s.twin.rxExp, quietBeats := 0 } }) ∧
  (∀ (s : State) (f : AccumFrame) (e : AccEntry), s.alive = true → s.twinOpen = true → s.twin.supervisor = true → f.entries = [e] →
    s.seenBy f.firstCol.toNat = none →
    ∃ t, exec (.accumRx s.twin.rxExp f) s = .next t ∧ Safety.Quiet s t ∧
      t = { s with host := t.host, loop := { s.loop with ring := SMap.upd [] s.loop.ring f.firstCol.toNat (addBlock f.block.toNat e) },
                   twin := { s.twin with rxExp := s.twin.rxExp + 1, ackDue := some s.twin.rxExp, rxLast := some s.twin.rxExp, quietBeats := 0 } }) ∧
  (∀ (s : State) (f : RoleFrame), s.alive = true → s.twinOpen = true → f.kind = 5 → s.twin.role ≠ .lead →
    ∃ t, exec (.roleRx s.twin.rxExp f) s = .next t ∧ Safety.Quiet s t ∧ t = { s with host := t.host, twin := { s.twin with
      rxExp := s.twin.rxExp + 1, ackDue := some s.twin.rxExp, rxLast := some s.twin.rxExp, quietBeats := 0, castling := some f.roleSeq } }) ∧
  (∀ (s : State) (f : RoleFrame), s.alive = true → s.twinOpen = true → f.kind = 1 → s.twin.role = .reserve →
    ∃ t, exec (.roleRx s.twin.rxExp f) s = .next t ∧ t.twin.role = .lead ∧ t.twin.roleSeq = f.roleSeq ∧
      t = { s with host := t.host, twin := t.twin, bat := t.bat, fire := t.fire, log := t.log })

/-- Twin timeouts, echoes, eyes, castling, the return of supervision and WATCH act on the pair. The ACK of an ADMIT, or of a
GAIN_UPDATE, that does not come puts the chip into SOLO. A page report that waits for the partner stops waiting at its timeout. In
UP an echo is sent and a partner's echo answered; a good exchange joins the last delays, on the preferred chip nothing else, on
the other its offset follows; a partner's report is stored. A signal trains the link, open eyes end training with HELLO; good eyes
change nothing else; the 16th low sample of a lane at width 4 narrows the link and retrains. In CASTLING the timer makes a castle
due; supervision returns to the preferred chip, at once where no control frame is outstanding. A WATCH interval below the limit
stores the counts and queues the report. (spec/09 R267, R272, R274, R278, R279, R284–R286; spec/09 Table 09-11) -/
def Obligations.TwinTimersAct : Prop :=
(∀ (s : State) (i : Inflight) (h : Nat), s.alive = true → s.host.inflight = [i] → i.wait = .admission → s.twin.admits = [h] →
    ∃ t, exec .admitAckTimeout s = .next t ∧ t.twin.solo = true ∧ t.twin.admits = [] ∧ Safety.Raised .twin 2 t ∧ t.host.inflight = [] ∧
      t.twin.role = s.twin.role) ∧
  (∀ (s : State), s.alive = true → s.twin.gainWait ≠ [] →
    ∃ t, exec .journalAckTimeout s = .next t ∧ t.twin.solo = true ∧ t.twin.gainWait = [] ∧ Safety.Raised .twin 2 t ∧
      t.cal = s.cal ∧ t.geo = s.geo ∧ t.pwr = s.pwr) ∧
  (∀ (s : State) (h : Nat) (r : Report), s.alive = true → s.bat.reports.get none h = some r → r.awaitTwin = true →
    s.isLead = true ∨ s.pairUp = false →
    ∃ t, exec (.pageReportTimeout h) s = .next t ∧ t = { s with host := t.host, bat := t.bat, twin := t.twin, log := t.log } ∧
      t.bat.reports.get none h = some { r with awaitTwin := false } ∧ t.bat.pages = s.bat.pages) ∧
  (∀ (s : State) (h : Nat) (r : Report), s.alive = true → s.bat.reports.get none h = some r → r.awaitTwin = true →
    s.isLead = false → s.pairUp = true →
    ∃ t, exec (.pageReportTimeout h) s = .next t ∧ Safety.Quiet s t ∧ t = { s with host := t.host }) ∧
  (∀ (s : State), s.alive = true → s.boot.twinEn = true → s.twin.link = .up →
    ∃ t, exec .twinEchoSend s = .next t ∧ Safety.Quiet s t ∧
      t = { s with host := t.host, twin := { s.twin with txQ := s.twin.txQ ++ [.echo (ridgeTime s.now256)] } }) ∧
  (∀ (s : State) (t1 t2 t3 : BitVec 48) (gm : Option AnnounceMsg), s.alive = true → s.boot.twinEn = true → s.twin.link = .up →
    ∃ t, exec (.twinEchoRx false ⟨t1, t2, t3⟩ gm) s = .next t ∧ Safety.Quiet s t ∧ t = { s with host := t.host, twin := { s.twin with
      txQ := s.twin.txQ ++ [.echoResp t1 (ridgeTime s.now256) (ridgeTime s.now256)] } }) ∧
  (∀ (s : State) (t1 t2 t3 : BitVec 48) (d : Int) (gm : Option AnnounceMsg), s.alive = true → s.boot.twinEn = true →
    s.twin.link = .up → s.preferred = true →
    d = echoDelay t1 t2 t3 (ridgeTime s.now256) → d ≤ 512000 →
    (s.twin.dVals = [] ∨ (d - medianInt s.twin.dVals).natAbs ≤ 5120) →
    ∃ t, exec (.twinEchoRx true ⟨t1, t2, t3⟩ gm) s = .next t ∧ Safety.Quiet s t ∧
      t = { s with host := t.host, twin := { s.twin with dVals := (d :: s.twin.dVals).take 8 } }) ∧
  (∀ (s : State) (t1 t2 t3 : BitVec 48) (d : Int) (gm : Option AnnounceMsg), s.alive = true → s.boot.twinEn = true →
    s.twin.link = .up → s.preferred = false → d = echoDelay t1 t2 t3 (ridgeTime s.now256) → d ≤ 512000 →
    (s.twin.dVals = [] ∨ (d - medianInt s.twin.dVals).natAbs ≤ 5120) →
    ∃ t, exec (.twinEchoRx true ⟨t1, t2, t3⟩ gm) s = .next t ∧ t.twin = { s.twin with
        dVals := (d :: s.twin.dVals).take 8, gm := gm, partnerOffset := ((ridgeTime s.now256 - t3).toInt -
          (medianInt ((d :: s.twin.dVals).take 8) - s.time.asymTwin * 256 / 2000) + 128) / 256 } ∧
      t.cal = s.cal ∧ t.nvm = s.nvm ∧ t.geo = s.geo) ∧
  (∀ (s : State) (t1 t2 t3 : BitVec 48) (gm : Option AnnounceMsg) (resp : Bool), s.alive = true →
    s.boot.twinEn = false ∨ s.twin.link ≠ .up →
    ∃ t, exec (.twinEchoRx resp ⟨t1, t2, t3⟩ gm) s = .next t ∧ Safety.Quiet s t ∧ t = { s with host := t.host }) ∧
  (∀ (s : State) (m : List Byte), s.alive = true → s.twinOpen = true →
    ∃ t, exec (.reportRx m) s = .next t ∧ Safety.Quiet s t ∧ t = { s with host := t.host, twin := { s.twin with report := m } }) ∧
  (∀ (s : State) (e : Bool), s.alive = true → s.twinOpen = true → s.twin.width = 4 → s.twin.eyeLow.get 0 0 = 15 →
    ∃ t, exec (.twinEyeSample ⟨[0, 255, 255, 255], e⟩) s = .next t ∧ Safety.Raised .twin 4 t ∧ t.twin.width = 2 ∧ t.twin.link = .train ∧
      t.health.active.getLsbD 9 = true) ∧
  (∀ (s : State) (e : Bool), s.alive = true → s.twinOpen = true → s.twin.eyeLow = [] →
    ∃ t, exec (.twinEyeSample ⟨[64, 64, 64, 64], e⟩) s = .next t ∧ Safety.Quiet s t ∧
      t = { s with host := t.host, twin := { s.twin with beatIn := e || s.twin.beatIn } }) ∧
  (∀ (s : State) (n : Nat), s.alive = true → s.boot.twinEn = true → s.twin.link = .detect → s.twin.width = 4 → 0 < n →
    ∃ t, exec (.twinEyeSample ⟨[n], false⟩) s = .next t ∧ Safety.Quiet s t ∧
      t = { s with host := t.host, twin := { s.twin with link := .train, epoch := s.twin.epoch + 1 } }) ∧
  (∀ (s : State), s.alive = true → s.boot.twinEn = true →
    s.twin.link = .discover ∨ (s.twin.link = .train ∧ s.twin.width = 4) →
    ∃ t, exec (.twinEyeSample ⟨[64, 64, 64, 64], false⟩) s = .next t ∧ Safety.Quiet s t ∧
      t = { s with host := t.host, twin := { s.twin with link := .discover, txQ := s.twin.txQ ++ [s.ownHello] } }) ∧
  (∀ (s : State), s.alive = true → s.boot.twinEn = true → s.twin.mode.mode = 1 → s.twin.mode.castleHours ≠ 0 → s.twin.castleDue = false →
    s.twin.role ≠ .lead →
    ∃ t, exec .castleTimer s = .next t ∧ Safety.Quiet s t ∧ t = { s with host := t.host, twin := { s.twin with castleDue := true } }) ∧
  (∀ (s : State), s.alive = true → s.pairUp = true → s.twin.supervisor = true → s.preferred = false → s.twin.lost = false →
    s.twin.handing = false →
    ∃ t, exec .supervisionReturn s = .next t ∧ t = { s with host := t.host, twin := t.twin, port := t.port, log := t.log } ∧
      t.twin.role = s.twin.role ∧ (∀ p, p < 48 → (t.portN p).ctrlQ = []) ∧
      (s.ctrlQuiet = true → t.twin.supervisor = false ∧ t.twin.roleSeq = s.twin.roleSeq + 1) ∧
      (s.ctrlQuiet = false → t.twin = { s.twin with handing := true })) ∧
  (∀ (s : State), s.alive = true → s.boot.twinEn = true → s.twin.mode.mode = 2 → s.twinOpen = true →
    (((List.range 48).map fun p => (p, (s.divCount p - s.twin.divSums.get 0 p).toNat)).map (·.2)).sum < s.twin.mode.divergeLimit →
    ∃ t, exec .watchInterval s = .next t ∧ Safety.Quiet s t ∧ t = { s with host := t.host, twin := t.twin } ∧
      t.twin = { s.twin with
        divSums := SMap.setList 0 [] 0 ((List.range 48).map s.divCount), txQ := s.twin.txQ ++ [.report s.healthSummary] })

/-- PTP, ARP and press messages act on the port they reach or are discarded and counted; holdover and the RTC follow. A PTP
message of another domain is discarded and counted. On the port that takes it an Announce enters the best master clock algorithm,
a delay response of the port's mechanism gives the path delay, a MASTER answers a Delay_Req over its transport, and messages leave
under their sequence; an Announce timeout forgets the master. HOLDOVER_LIMIT sets QUALITY_LOW in HOLDOVER when the estimated error
exceeds HOLD_LIMIT_NS, and does nothing below it. ARP for the port's address is answered, other frames are discarded. A good press
message to the group and port of press messages, not seen before, is filed and counted, one sent elsewhere discarded; an accepted
STOP with STOP_ACT drops FIRE_PERMIT with cause 5. The RTC follows the disciplined clock, its crystal trimmed to within 1 ppm.
(spec/10 R291–R294, R296–R301; spec/10 Table 10-1; spec/10 Table 10-3) -/
def Obligations.NetworkEventsAct : Prop :=
(∀ (s : State) (p : Nat) (d : Byte) (o i c : Int), s.alive = true → s.ptpTakes p d = false →
    ∃ t, exec (.ptpSyncRx p d o i c) s = .next t ∧ Safety.Quiet s t ∧
      t = { s with host := t.host, time := { s.time with discarded := s.time.discarded + 1 } }) ∧
  (∀ (s : State) (p : Nat) (d : Byte) (o i c : Int), s.alive = true → s.ptpTakes p d = true → (s.ethN p).st = .slave →
    s.time.st = .locked → s.time.stepEn = false →
    ∃ t, exec (.ptpSyncRx p d o i c) s = .next t ∧ Safety.Quiet s t ∧ t = { s with host := t.host, time := t.time } ∧
      t.time.offsetNs = s.syncError p o i c ∧ t.time.st = .locked ∧ t.time.clock = s.time.clock) ∧
  (∀ (s : State) (p : Nat) (m : AnnounceMsg), s.alive = true → s.ptpTakes p m.domain = true → (s.ethN p).best = none →
    ∃ t, exec (.ptpAnnounceRx p m) s = .next t ∧ Safety.Alerted s t ∧ t = { s with host := t.host, time := t.time } ∧
      (t.ethN p).best = some m ∧ t.time.clock = s.time.clock) ∧
  (∀ (s : State) (p : Nat) (d : Byte) (r : DelayResp) (tx x : Int), s.alive = true → s.ptpTakes p d = true →
    r.peer = (s.ethN p).flags.getLsbD 2 → (s.ethN p).reqNs = some tx → (s.ethN p).syncDiff = some x →
    ∃ t, exec (.ptpDelayRespRx p d r) s = .next t ∧ Safety.Quiet s t ∧ t = { s with host := t.host, time := t.time } ∧
      t.ethN p = { s.ethN p with reqNs := none, pathNs := (if r.peer = true then
          r.ingressNs - (s.ethN p).ingressLatNs - (r.responseTxNs - r.requestRxNs) - r.correctionNs - tx
        else x + (r.requestRxNs - tx - r.correctionNs)) / 2 } ∧
      t.time = { s.time with port := t.time.port, pathNs := t.time.pathNs } ∧
      (s.slavePort = some p → t.time.pathNs = (t.ethN p).pathNs) ∧ (s.slavePort ≠ some p → t.time.pathNs = s.time.pathNs) ∧
      ∀ q, q ≠ p → t.ethN q = s.ethN q) ∧
  (∀ (s : State) (p : Nat) (d : Byte) (r : DelayReq), s.alive = true → s.ptpTakes p d = true → r.peer = false →
    (s.ethN p).flags.getLsbD 2 = false → (s.ethN p).st = .master →
    ∃ t, exec (.ptpDelayReqRx p d r) s = .next t ∧ Safety.Quiet s t ∧
      t = { s with host := t.host, time := { s.time with ethTx := s.time.ethTx ++ [.ptp p ((s.ethN p).flags.getLsbD 1)
        (ptpDest ((s.ethN p).flags.getLsbD 1) false) (.delayResp r.requester (r.ingressNs - (s.ethN p).ingressLatNs))] } }) ∧
  (∀ (s : State) (p : Nat) (d : Byte) (r : DelayReq), s.alive = true → s.ptpTakes p d = true →
    r.peer ≠ (s.ethN p).flags.getLsbD 2 →
    ∃ t, exec (.ptpDelayReqRx p d r) s = .next t ∧ Safety.Quiet s t ∧
      t = { s with host := t.host, time := { s.time with discarded := s.time.discarded + 1 } }) ∧
  (∀ (s : State) (p : Nat) (k : PtpKind), s.alive = true → s.ptpSends p k = true →
    ∃ t, exec (.ptpMessageSend p k) s = .next t ∧ Safety.Quiet s t ∧ t = { s with host := t.host, time := t.time } ∧
      t.time.ethTx = s.time.ethTx ++ (s.ptpMessages p k).map (fun m => .ptp p ((s.ethN p).flags.getLsbD 1)
        (ptpDest ((s.ethN p).flags.getLsbD 1) m.isPeer) m) ∧
      s.ptpMessages p k ≠ [] ∧ (t.ethN p).seq = (s.ethN p).seq + 1 ∧ ∀ q, q ≠ p → t.ethN q = s.ethN q) ∧
  (∀ (s : State) (p : Nat), s.alive = true → s.ptpOn p = true →
    ∃ t, exec (.announceTimeout p) s = .next t ∧ Safety.Alerted s t ∧ t = { s with host := t.host, time := t.time } ∧
      (t.ethN p).best = none ∧ (t.ethN p).st ≠ .slave ∧ ((s.ethN p).st = .slave → s.time.st = .locked → t.time.st = .holdover)) ∧
  (∀ (s : State), s.alive = true → s.time.st = .holdover → (s.time.holdLimitNs : Rat) < s.time.estErr →
    ∃ t, exec .holdoverLimit s = .next t ∧ Safety.Alerted s t ∧ Safety.Raised .time 3 t ∧ t = { s with host := t.host }) ∧
  (∀ (s : State), s.alive = true → s.time.estErr ≤ (s.time.holdLimitNs : Rat) →
    ∃ t, exec .holdoverLimit s = .next t ∧ Safety.Quiet s t ∧ t = { s with host := t.host }) ∧
  (∀ (s : State) (p : Nat) (ip : BitVec 32), s.alive = true → p ≤ 1 →
    ∃ t, exec (.arpRequestRx p ip) s = .next t ∧ Safety.Quiet s t ∧ t = { s with host := t.host, time := t.time } ∧
      t.time = if ip = (s.ethN p).ipv4 then { s.time with ethTx := s.time.ethTx ++ [.arpReply p ip] }
        else { s.time with discarded := s.time.discarded + 1 }) ∧
  (∀ (s : State) (p : Nat), s.alive = true → p ≤ 1 →
    ∃ t, exec (.ethOtherRx p) s = .next t ∧ Safety.Quiet s t ∧
      t = { s with host := t.host, time := { s.time with discarded := s.time.discarded + 1 } }) ∧
  (∀ (s : State) (p : Nat) (m : List Byte), s.alive = true → p ≤ 1 → s.pressGood m = true →
    (s.time.pressSeen.get [] (fieldAt m 6 1)).contains (BitVec.ofNat 32 (fieldAt m 8 4)) = false →
    ∃ t, exec (.pressMessageRx p ⟨s.time.pressGroup, 47360, m⟩) s = .next t ∧ Safety.Raised .time 4 t ∧ t.time.pressAccepted = s.time.pressAccepted + 1 ∧
      t.time.pressRing = (m :: s.time.pressRing).take 64 ∧
      (fieldAt m 5 1 = 2 → s.time.pressFlags.getLsbD 2 = true → s.fire.permit = true →
        t.fire.permit = false ∧ t.fire.dropCause = 5 ∧ Safety.Raised .time 5 t) ∧
      (fieldAt m 5 1 ≠ 2 → t = { s with host := t.host, time := t.time })) ∧
  (∀ (s : State) (p : Nat) (m : PressDatagram), s.alive = true → p ≤ 1 → m.group ≠ s.time.pressGroup ∨ m.udpPort ≠ 47360 →
    ∃ t, exec (.pressMessageRx p m) s = .next t ∧ Safety.Quiet s t ∧
      t = { s with host := t.host, time := { s.time with discarded := s.time.discarded + 1 } }) ∧
  (∀ (s : State), s.alive = true → s.ptpOwns = true →
    ∃ t, exec .rtcDiscipline s = .next t ∧ Safety.Quiet s t ∧ -1000 ≤ t.time.rtcTrim + Config.crystalPpb ∧
      t.time.rtcTrim + Config.crystalPpb ≤ 1000 ∧ t = { s with host := t.host, time := { s.time with
      rtcTrim := t.time.rtcTrim, calSec := s.time.clock.sec - BitVec.ofNat 48 s.time.utcNow,
      calFrac := BitVec.ofNat 16 (s.time.clock.ns.toNat * 65536 / 1000000000), calTick := s.time.ticks, calValid := true } })

/-- A step runs the command at the front of the queue on the rest of it, an empty queue lets one TIME tick pass, and every command
answers. For every command and state, a step of the state with the command at the front of its queue is exec of the command with
the queue's rest; exec answers a next state with that rest, never a fault or a refusal. With an empty queue the step is one TIME
tick (the model's choice, log 2): the count of ticks rises by one, the local clock of a powered chip without a slew adds its
increment, the speed check of R50 follows, false with no page queued, and nothing else changes but its alert and interrupt.
(spec/12 R337; spec/10 R289; spec/02 R50) -/
def Obligations.StepRunsTheFront : Prop :=
(∀ (c : Instr) (l : List Instr) (s : State), step { s with pending := c :: l } = exec c { s with pending := l }) ∧
  (∀ (c : Instr) (s : State), ∃ t, exec c s = .next t ∧ t.pending = s.pending) ∧
  (∀ (s : State), s.pending = [] → ∃ t, step s = .next t ∧ Safety.Alerted s t ∧
    t = { s with host := t.host, time := t.time, bat := { s.bat with speedLimit := t.bat.speedLimit } } ∧
    t.time.ticks = s.time.ticks + 1 ∧ (s.alive = true → s.bat.pages = [] → t.bat.speedLimit = false) ∧
    (s.alive = true → s.time.slew = 0 →
      t.time.clock = LocalTime.ofUnits (s.time.clock.units + s.time.inc.toNat) ∧ t.time.inc = s.time.inc) ∧
    (s.alive = false → t = { s with time := { s.time with ticks := s.time.ticks + 1 } }))

/-- After reset nothing waits, no slot is in use, FIRE_PERMIT is low, every port is OFF, no alert stands and the fuses are
unblown. State.reset has an empty queue, STAGE ROM, the five mailbox registers 0, FIRE_PERMIT low, ILK_STATUS.RAW 0, RL_CONFIG at
its fields' reset values, every head port OFF without a drop cause, no page, no alert bit, no DRAM content written, and fuses that
FusesGood admits (that RESET_N is still low in it, and that no fuse is blown, are the model's choices, logs 7 and 14). (spec/12
R336, R346, R347; spec/12 Table 12-5; spec/03 R102; spec/04 Table 04-14; spec/04 Table 04-15) -/
def Obligations.ResetLeavesTheBlockIdle : Prop :=
State.reset.pending = [] ∧ State.reset.boot.stage = .rom ∧ State.reset.boot.resetN = false ∧ State.reset.alive = false ∧
  State.reset.host.doorbell = 0 ∧ State.reset.host.busy = 0 ∧ State.reset.host.done = 0 ∧ State.reset.host.cancel = 0 ∧
  State.reset.host.intMask = 0 ∧ State.reset.host.inflight = [] ∧ State.reset.fire.permit = false ∧ State.reset.ilkRaw = 0 ∧
  State.reset.rlConfig = BitVec.ofNat 32 (3 + 1 * 2 ^ 3 + 8 * 2 ^ 4 + 0x14 * 2 ^ 12 + 1 * 2 ^ 20) ∧
  (∀ p, (State.reset.portN p).st = .off ∧ (State.reset.portN p).dropCause = 0) ∧ State.reset.bat.pages = [] ∧
  (∀ r, State.reset.alertOf r = 0) ∧ State.reset.dram.cells = [] ∧ State.reset.fuse.otpCounter = 0 ∧
  Safety.FusesGood State.reset

/-- Every step keeps the anti-rollback counter within its 64 fuses and a signing key slot left, and no fuse ever heals. From every
state whose anti-rollback counter is at most 64 and that has a key slot not revoked, every step of every command, a tick included,
leaves such a state; the counter never falls, a revoked slot stays revoked, and serial number, key hashes and debug fuses never
change. (spec/12 R345, R346, R350; spec/12 Table 12-14) -/
def Obligations.FusesOnlyBlow : Prop :=
∀ (s t : State), Safety.FusesGood s → step s = .next t →
    Safety.FusesGood t ∧ s.fuse.otpCounter ≤ t.fuse.otpCounter ∧ s.fuse.revoked &&& t.fuse.revoked = s.fuse.revoked ∧
    t.fuse = { s.fuse with otpCounter := t.fuse.otpCounter, revoked := t.fuse.revoked }

/-- A doorbell on a slot that is busy or done is ignored and sets MB_PROTOCOL, for every mailbox command. With the chip powered
and the host link up, every mailbox command rung in a slot whose MB_BUSY or MB_DONE bit is 1 leaves the whole state as it is, the
slot's command, its response and its doorbell bit included, but for SYS_STATUS.MB_PROTOCOL, which is 1. The same holds of
MB_DOORBELL itself written for such slots only. (spec/12 R338) -/
def Obligations.BusySlotIgnoresDoorbell : Prop :=
(∀ (c : Instr) (h : MbHdr) (op : Nat) (s : State), mailOf c = some (h, op) → s.alive = true → s.host.live = true →
    (s.host.busy ||| s.host.done) &&& slotBit h.slot ≠ 0 →
    exec c s = .next { s with host := { s.host with mbProtocol := true } }) ∧
  (∀ (s : State) (bits : Byte), s.alive = true → s.host.live = true → bits ≠ 0 → (s.host.busy ||| s.host.done) &&& bits = bits →
    exec (.mbDoorbell bits) s = .next { s with host := { s.host with mbProtocol := true } })

/-- Before READY every command answers NOT_READY, during a restart it is held, without power or link it has no effect. A mailbox
command rung in an empty slot before READY completes with NOT_READY and nothing else, whatever the rest of the request holds;
SYS_GET_INFO, and in RECOVERY SYS_RECOVERY_LOAD and SYS_RECOVERY_BOOT, excepted. While the control cores do not run it is held
behind the doorbells held already, its doorbell bit set. With no power or the host link down it changes nothing. (spec/01 R18,
R19; spec/12 R340, R347; spec/13 R353) -/
def Obligations.DoorbellsOutsideReady : Prop :=
(∀ (c : Instr) (h : MbHdr) (op : Nat) (s : State), mailOf c = some (h, op) → Safety.rings s h = true → s.isReady = false →
    op ≠ 0x0101 → (s.boot.stage = .recovery → op ≠ 0x010A ∧ op ≠ 0x010B) →
    ∃ t, exec c s = .next t ∧ Safety.Answered h op 0x0004 [] s t ∧ t = { s with host := t.host }) ∧
  (∀ (c : Instr) (h : MbHdr) (op : Nat) (s : State), mailOf c = some (h, op) → s.alive = true → s.host.live = true →
    (s.host.busy ||| s.host.done ||| s.host.doorbell) &&& slotBit h.slot = 0 → s.coresRun = false →
    exec c s = .next { s with host := { s.host with
      doorbell := s.host.doorbell ||| slotBit h.slot, held := s.host.held ++ [.cmd c] } }) ∧
  (∀ (c : Instr) (h : MbHdr) (op : Nat) (s : State), mailOf c = some (h, op) → (s.alive && s.host.live) = false →
    exec c s = .next s)

/-- HEAD_SET_CHAR rejects a characteristic table that is not non-decreasing with HEAD_BAD_TABLE and keeps the old table. When the
half that completes a port's characteristic table makes the table fall anywhere in c, HEAD_SET_CHAR answers HEAD_BAD_TABLE; the
table in force on every port, everything the uniformity loop and the Gable store hold, and the rest of the chip stay as they were,
and only the staged half is gone. (spec/03 R78) -/
def Obligations.DecreasingTableIsRejected : Prop :=
∀ (s : State) (h : MbHdr) (port : Byte) (e : List (BitVec 16)) (l : List Nat), Safety.served s h 260 = true →
    s.notSupervisor = false → s.badPort port = false → s.cal.charStaged.get none port.toNat = some l →
    (∃ i j, i < j ∧ j < (l ++ e.map (·.toNat)).length ∧ (l ++ e.map (·.toNat)).getD j 0 < (l ++ e.map (·.toNat)).getD i 0) →
    ∃ t, exec (.headSetChar h port 1 0 e) s = .next t ∧ Safety.Answered h 0x0303 0x0304 [] s t ∧
      t = { s with host := t.host, cal := { s.cal with charStaged := s.cal.charStaged.set none port.toNat none } }

/-- On the RESERVE, PAGE_ADMIT and PAGE_ABORT return PAGE_NOT_LEAD and the page reports are served from the mirrored records. On
the RESERVE of a twin pair a PAGE_ADMIT whose earlier checks pass, and every PAGE_ABORT, answer PAGE_NOT_LEAD and change nothing
but their slot; PAGE_QUERY, PAGE_REPORT and PAGE_GET_WEB answer from the records this chip holds, which the twin link mirrored.
(spec/02 R73) -/
def Obligations.ReserveServesReportsOnly : Prop :=
(∀ (s : State) (h : MbHdr) (p : PageAdmitReq) (g : Geo) (w : Web), Safety.served s h 24 = true → s.boot.twinEn = true →
    s.twin.role = .reserve → s.admitFrozen = false → s.geo.committed = some g → g.web = some w → p.flags.toNat ≤ 1 → p.rsv = 0 →
    p.lines ≠ 0 → s.batGated = false → s.stepAccepted 1 = false → pageParamBad p = none →
    ∃ t, exec (.pageAdmit h p) s = .next t ∧ Safety.Answered h 0x0501 0x050F [] s t ∧ t = { s with host := t.host }) ∧
  (∀ (s : State) (h : MbHdr) (handle flags : Byte), Safety.served s h 4 = true → s.boot.twinEn = true → s.twin.role = .reserve →
    flags.toNat ≤ 1 →
    ∃ t, exec (.pageAbort h handle flags 0) s = .next t ∧ Safety.Answered h 0x0502 0x050F [] s t ∧ t = { s with host := t.host }) ∧
  (∀ (s : State) (h : MbHdr) (handle : Byte), Safety.served s h 4 = true → s.boot.twinEn = true → s.twin.role = .reserve →
    (∃ t, exec (.pageQuery h handle 0) s = .next t ∧ Safety.Answered h 0x0503 0 (s.queryBytes handle.toNat) s t ∧
      t = { s with host := t.host }) ∧
    (∀ r, s.bat.reports.get none handle.toNat = some r → r.awaitTwin = false →
      ∃ t, exec (.pageReport h handle 0) s = .next t ∧ Safety.Answered h 0x0504 0 r.bytes s t ∧ t = { s with host := t.host })) ∧
  (∀ (s : State) (h : MbHdr), Safety.served s h 0 = true → s.boot.twinEn = true → s.twin.role = .reserve →
    ∃ t, exec (.pageGetWeb h) s = .next t ∧ Safety.Answered h 0x0505 0 s.webBytes s t ∧ t = { s with host := t.host })

/-- PAGE_ADMIT returns UNAVAILABLE at PL_2, PL_3 and in HOLD, while PIX still runs at PL_2. At performance levels 2 and 3, and in
HOLD, the Batten queue and the fire sequencers count as gated: a well-formed PAGE_ADMIT with any handle, entry, lines, top and
contract answers UNAVAILABLE and changes nothing but its slot. At level 2 in RUN the clock of PIX is not gated. (spec/13 R355) -/
def Obligations.GatedQueueAdmitsNothing : Prop :=
(∀ (s : State) (h : MbHdr) (p : PageAdmitReq), Safety.served s h 24 = true → p.flags.toNat ≤ 1 → p.rsv = 0 →
    (2 ≤ s.pwr.level ∨ s.pwr.st = .hold) →
    ∃ t, exec (.pageAdmit h p) s = .next t ∧ Safety.Answered h 0x0501 0x0005 [] s t ∧ t = { s with host := t.host }) ∧
  (∀ (s : State), s.pwr.st = .run → s.pwr.level = 2 → s.pixGated = false ∧ s.batGated = true)
end

