-- ==== Sys2Proof/Laws/Store.lean ====
section
/-! SUPPORT. The laws of the sparse store: read after write, writes elsewhere, and the canonical form is kept. -/

namespace Sys2Proof.Machine

variable {α : Type}

theorem SMap.get_erase_same (d : α) (m : SMap α) (i : Nat) : SMap.get d (SMap.erase i m) i = d := by
  induction m with
  | nil => rfl
  | cons p m ih =>
    obtain ⟨k, w⟩ := p
    by_cases h : k = i
    · simpa [SMap.erase, h] using ih
    · simpa [SMap.erase, h, SMap.get] using ih

theorem SMap.get_erase_ne (d : α) (m : SMap α) {i j : Nat} (hj : j ≠ i) :
    SMap.get d (SMap.erase i m) j = SMap.get d m j := by
  induction m with
  | nil => rfl
  | cons p m ih =>
    obtain ⟨k, w⟩ := p
    by_cases h : k = i
    · subst h
      have : ¬ k = j := fun e => hj e.symm
      simpa [SMap.erase, SMap.get, this] using ih
    · rw [SMap.erase, if_neg h]
      by_cases h2 : k = j <;> simp [SMap.get, h2, ih]

theorem SMap.get_insert_same (d v : α) (m : SMap α) (i : Nat)
    (hm : ∀ p ∈ m, p.1 ≠ i) : SMap.get d (SMap.insert i v m) i = v := by
  induction m with
  | nil => simp [SMap.insert, SMap.get]
  | cons p m ih =>
    obtain ⟨k, w⟩ := p
    have hk : k ≠ i := hm (k, w) (by simp)
    have := ih (fun q hq => hm q (by simp [hq]))
    by_cases h : i < k <;> simp [SMap.insert, h, SMap.get, hk, this]

theorem SMap.get_insert_ne (d v : α) (m : SMap α) {i j : Nat} (hj : j ≠ i) :
    SMap.get d (SMap.insert i v m) j = SMap.get d m j := by
  have hij : ¬ i = j := fun e => hj e.symm
  induction m with
  | nil => simp [SMap.insert, SMap.get, hij]
  | cons p m ih =>
    obtain ⟨k, w⟩ := p
    by_cases h : i < k
    · simp [SMap.insert, h, SMap.get, hij]
    · rw [SMap.insert, if_neg h]
      by_cases h2 : k = j <;> simp [SMap.get, h2, ih]

theorem SMap.not_mem_erase (m : SMap α) (i : Nat) : ∀ p ∈ SMap.erase i m, p.1 ≠ i := by
  induction m with
  | nil => simp [SMap.erase]
  | cons p m ih =>
    obtain ⟨k, w⟩ := p
    by_cases h : k = i
    · simpa [SMap.erase, h] using ih
    · intro q hq
      rw [SMap.erase, if_neg h] at hq
      rcases List.mem_cons.1 hq with rfl | hq'
      · exact h
      · exact ih q hq'

@[simp] theorem SMap.get_nil (d : α) (i : Nat) : SMap.get d [] i = d := rfl

/-- Reading past a filter of the keys. -/
theorem SMap.get_filter (d : α) (q : Nat → Bool) (m : SMap α) (j : Nat) :
    SMap.get d (m.filter fun e => !q e.1) j = if q j = true then d else SMap.get d m j := by
  induction m with
  | nil => simp [SMap.get]
  | cons e m ih =>
    obtain ⟨k, w⟩ := e
    by_cases hq : q k = true
    · rw [List.filter_cons_of_neg (by simp [hq]), ih]
      by_cases hk : k = j
      · subst hk; simp [hq]
      · simp [SMap.get, hk]
    · rw [List.filter_cons_of_pos (by simp [hq])]
      by_cases hk : k = j
      · subst hk; simp [SMap.get, hq]
      · simp [SMap.get, hk, ih]

variable [DecidableEq α]

/-- Reading the key just written gives what was written. -/
@[simp] theorem SMap.get_set_same (d : α) (m : SMap α) (i : Nat) (v : α) :
    SMap.get d (SMap.set d m i v) i = v := by
  by_cases h : v = d
  · simp [SMap.set, h, SMap.get_erase_same]
  · simp [SMap.set, h, SMap.get_insert_same _ _ _ _ (SMap.not_mem_erase m i)]

/-- Every other key is left alone. -/
theorem SMap.get_set_ne (d : α) (m : SMap α) {i j : Nat} (v : α) (hj : j ≠ i) :
    SMap.get d (SMap.set d m i v) j = SMap.get d m j := by
  by_cases h : v = d
  · simp [SMap.set, h, SMap.get_erase_ne _ _ hj]
  · simp [SMap.set, h, SMap.get_insert_ne _ _ _ hj, SMap.get_erase_ne _ _ hj]

/-- A write, read anywhere. -/
theorem SMap.get_set (d : α) (m : SMap α) (i j : Nat) (v : α) :
    SMap.get d (SMap.set d m i v) j = if j = i then v else SMap.get d m j := by
  by_cases h : j = i
  · subst h; simp
  · simp [h, SMap.get_set_ne]

@[simp] theorem SMap.get_upd_same (d : α) (m : SMap α) (i : Nat) (f : α → α) :
    SMap.get d (SMap.upd d m i f) i = f (SMap.get d m i) := by simp [SMap.upd]

theorem SMap.get_upd_ne (d : α) (m : SMap α) {i j : Nat} (f : α → α) (hj : j ≠ i) :
    SMap.get d (SMap.upd d m i f) j = SMap.get d m j := by simp [SMap.upd, SMap.get_set_ne, hj]

/-- Writing a run of values, read anywhere. -/
theorem SMap.get_setList (d : α) (vs : List α) : ∀ (m : SMap α) (i j : Nat),
    SMap.get d (SMap.setList d m i vs) j = if i ≤ j ∧ j < i + vs.length then vs.getD (j - i) d else SMap.get d m j := by
  induction vs with
  | nil => intro m i j; simp [SMap.setList]
  | cons v vs ih =>
    intro m i j
    rw [SMap.setList, ih, SMap.get_set]
    by_cases h1 : i + 1 ≤ j ∧ j < i + 1 + vs.length
    · have h2 : i ≤ j ∧ j < i + (v :: vs).length := by simp; omega
      have h3 : j - i = (j - (i + 1)) + 1 := by omega
      rw [if_pos h1, if_pos h2, h3, List.getD_cons_succ]
    · rw [if_neg h1]
      by_cases h4 : j = i
      · subst h4; simp
      · have h2 : ¬ (i ≤ j ∧ j < i + (v :: vs).length) := by simp at h1 ⊢; omega
        rw [if_neg h4, if_neg h2]

theorem SMap.wfFrom_mono (d : α) {m : SMap α} {a b : Nat} (hab : a ≤ b) (h : SMap.wfFrom d b m = true) :
    SMap.wfFrom d a m = true := by
  cases m with
  | nil => rfl
  | cons p m =>
    obtain ⟨k, w⟩ := p
    simp only [SMap.wfFrom, Bool.and_eq_true, decide_eq_true_eq] at h ⊢
    exact ⟨⟨le_trans hab h.1.1, h.1.2⟩, h.2⟩

theorem SMap.wfFrom_erase (d : α) (m : SMap α) (i : Nat) :
    ∀ lo, SMap.wfFrom d lo m = true → SMap.wfFrom d lo (SMap.erase i m) = true := by
  induction m with
  | nil => intro lo h; exact h
  | cons p m ih =>
    obtain ⟨k, w⟩ := p
    intro lo h
    simp only [SMap.wfFrom, Bool.and_eq_true, decide_eq_true_eq] at h
    by_cases hk : k = i
    · simp only [SMap.erase, hk, if_true]
      exact ih lo (SMap.wfFrom_mono d (by omega) h.2)
    · simp only [SMap.erase, hk, if_false, SMap.wfFrom, Bool.and_eq_true, decide_eq_true_eq]
      exact ⟨h.1, ih (k + 1) h.2⟩

theorem SMap.wfFrom_insert (d v : α) (hv : v ≠ d) (m : SMap α) (i : Nat) (hm : ∀ p ∈ m, p.1 ≠ i) :
    ∀ lo, lo ≤ i → SMap.wfFrom d lo m = true → SMap.wfFrom d lo (SMap.insert i v m) = true := by
  induction m with
  | nil => intro lo hlo _; simp [SMap.insert, SMap.wfFrom, hlo, hv]
  | cons p m ih =>
    obtain ⟨k, w⟩ := p
    intro lo hlo h
    have hki : k ≠ i := hm (k, w) (by simp)
    simp only [SMap.wfFrom, Bool.and_eq_true, decide_eq_true_eq] at h
    by_cases hk : i < k
    · simp only [SMap.insert, hk, if_true, SMap.wfFrom, Bool.and_eq_true, decide_eq_true_eq]
      exact ⟨⟨hlo, hv⟩, ⟨hk, h.1.2⟩, h.2⟩
    · simp only [SMap.insert, hk, if_false, SMap.wfFrom, Bool.and_eq_true, decide_eq_true_eq]
      exact ⟨h.1, ih (fun q hq => hm q (by simp [hq])) (k + 1) (by omega) h.2⟩

/-- A write keeps the canonical form. -/
theorem SMap.wf_set (d : α) (m : SMap α) (i : Nat) (v : α) (h : SMap.wf d m = true) :
    SMap.wf d (SMap.set d m i v) = true := by
  unfold SMap.wf at h ⊢
  by_cases hv : v = d
  · simpa [SMap.set, hv] using SMap.wfFrom_erase d m i 0 h
  · simpa [SMap.set, hv] using
      SMap.wfFrom_insert d v hv _ i (SMap.not_mem_erase m i) 0 (by omega) (SMap.wfFrom_erase d m i 0 h)

theorem SMap.wf_upd (d : α) (m : SMap α) (i : Nat) (f : α → α) (h : SMap.wf d m = true) :
    SMap.wf d (SMap.upd d m i f) = true := SMap.wf_set d m i _ h

theorem SMap.wf_setList (d : α) (vs : List α) : ∀ (m : SMap α) (i : Nat), SMap.wf d m = true →
    SMap.wf d (SMap.setList d m i vs) = true := by
  induction vs with
  | nil => intro m i h; exact h
  | cons v vs ih => intro m i h; exact ih _ _ (SMap.wf_set d m i v h)

theorem SMap.wf_updAll (d : α) (is : List Nat) (f : Nat → α → α) : ∀ m : SMap α, SMap.wf d m = true →
    SMap.wf d (SMap.updAll d m is f) = true := by
  induction is with
  | nil => intro m h; exact h
  | cons i is ih => intro m h; exact ih _ (SMap.wf_upd d m i (f i) h)

theorem SMap.wf_nil (d : α) : SMap.wf d ([] : SMap α) = true := rfl

end Sys2Proof.Machine
end

