-- ==== Sys2Proof/Laws/Mem.lean ====
section
/-! SUPPORT. What the operations over DRAM do: reading after writing, and that each of them keeps the canonical form
(`Memory.wf`), which the memory after reset has. -/

namespace Sys2Proof.Machine

/-- The fills, and so what an unlisted address reads as, are all of a DRAM that `blank` looks at. -/
theorem Dram.blank_cells (d : Dram) (c : List Host.Cell) (a : Nat) : Dram.blank { d with cells := c } a = d.blank a := rfl

/-- A canonical list from a higher address is one from a lower address. -/
theorem Memory.wfFrom_mono (d : Dram) {m : List Host.Cell} {a b : Nat} (hab : a ≤ b) (h : Memory.wfFrom d b m = true) :
    Memory.wfFrom d a m = true := by
  cases m with
  | nil => rfl
  | cons p m =>
    simp only [Memory.wfFrom, Bool.and_eq_true, decide_eq_true_eq] at h ⊢
    exact ⟨⟨by omega, h.1.2⟩, h.2⟩

/-- Removing the entries that a test refuses keeps the form, for a DRAM that reads the same where entries remain. -/
theorem Memory.wfFrom_filter (d e : Dram) (q : Host.Cell → Bool) (hq : ∀ c, q c = true → e.blank c.1 = d.blank c.1) :
    ∀ (m : List Host.Cell) (lo : Nat), Memory.wfFrom d lo m = true → Memory.wfFrom e lo (m.filter q) = true
  | [], _, _ => rfl
  | (a, v) :: m, lo, h => by
    simp only [Memory.wfFrom, Bool.and_eq_true, decide_eq_true_eq] at h
    by_cases hc : q (a, v) = true
    · rw [List.filter_cons_of_pos hc]
      simp only [Memory.wfFrom, Bool.and_eq_true, decide_eq_true_eq]
      exact ⟨⟨h.1.1, by rw [hq _ hc]; exact h.1.2⟩, Memory.wfFrom_filter d e q hq m _ h.2⟩
    · rw [List.filter_cons_of_neg hc]
      exact Memory.wfFrom_filter d e q hq m _ (Memory.wfFrom_mono d (by omega) h.2)

/-- Erasing an address keeps the form. -/
theorem Memory.wfFrom_erase (d : Dram) (i : Nat) :
    ∀ (m : List Host.Cell) (lo : Nat), Memory.wfFrom d lo m = true → Memory.wfFrom d lo (SMap.erase i m) = true
  | [], _, _ => rfl
  | (a, v) :: m, lo, h => by
    simp only [Memory.wfFrom, Bool.and_eq_true, decide_eq_true_eq] at h
    unfold SMap.erase
    split
    · exact Memory.wfFrom_erase d i m lo (Memory.wfFrom_mono d (by omega) h.2)
    · simp only [Memory.wfFrom, Bool.and_eq_true, decide_eq_true_eq]
      exact ⟨h.1, Memory.wfFrom_erase d i m _ h.2⟩

/-- Inserting an address that is not listed, with a value it does not read as unlisted, keeps the form. -/
theorem Memory.wfFrom_insert (d : Dram) (i : Nat) (v : Byte) (hv : v ≠ d.blank i) :
    ∀ (m : List Host.Cell) (lo : Nat), lo ≤ i → (∀ p ∈ m, p.1 ≠ i) → Memory.wfFrom d lo m = true →
      Memory.wfFrom d lo (SMap.insert i v m) = true
  | [], lo, hi, _, _ => by simp [SMap.insert, Memory.wfFrom, hi, hv]
  | (a, w) :: m, lo, hi, hm, h => by
    simp only [Memory.wfFrom, Bool.and_eq_true, decide_eq_true_eq] at h
    have hne : a ≠ i := hm (a, w) (by simp)
    unfold SMap.insert
    split
    · simp only [Memory.wfFrom, Bool.and_eq_true, decide_eq_true_eq]
      exact ⟨⟨hi, hv⟩, ⟨by omega, h.1.2⟩, h.2⟩
    · simp only [Memory.wfFrom, Bool.and_eq_true, decide_eq_true_eq]
      exact ⟨h.1, Memory.wfFrom_insert d i v hv m _ (by omega) (fun p hp => hm p (by simp [hp])) h.2⟩

/-- Writing a byte keeps the canonical form. -/
theorem Memory.wf_write (d : Dram) (a : Nat) (v : Byte) (h : Memory.wf d = true) : Memory.wf (d.write a v) = true := by
  have he := Memory.wfFrom_erase d a d.cells 0 h
  show Memory.wfFrom (d.write a v) 0 (SMap.set (d.blank a) d.cells a v) = true
  have hb : ∀ m lo, Memory.wfFrom d lo m = true → Memory.wfFrom (d.write a v) lo m = true := by
    intro m
    induction m with
    | nil => intros; rfl
    | cons p m ih =>
      intro lo hp
      simp only [Memory.wfFrom, Bool.and_eq_true] at hp ⊢
      exact ⟨hp.1, ih _ hp.2⟩
  apply hb
  unfold SMap.set
  split
  · exact he
  · rename_i hv
    exact Memory.wfFrom_insert d a v hv _ 0 (by omega) (SMap.not_mem_erase _ _) he

/-- Writing bytes keeps the canonical form. -/
theorem Memory.wf_writeAll (bs : List Byte) : ∀ (d : Dram) (a : Nat), Memory.wf d = true → Memory.wf (d.writeAll a bs) = true := by
  induction bs with
  | nil => exact fun _ _ h => h
  | cons b bs ih => exact fun d a h => ih _ _ (Memory.wf_write d a b h)

/-- Leaving a range undefined keeps the canonical form. -/
theorem Memory.wf_undefine (d : Dram) (lo hi epoch : Nat) (h : Memory.wf d = true) : Memory.wf (d.undefine lo hi epoch) = true := by
  refine Memory.wfFrom_filter d _ _ (fun c hc => ?_) d.cells 0 h
  have hc' : c.1 < lo ∨ hi ≤ c.1 := by simpa using hc
  have : ¬ (lo ≤ c.1 ∧ c.1 < hi) := by omega
  simp [Dram.blank, Dram.undefine, this]

/-- The operations over State's memory keep the canonical form. -/
theorem Memory.wf_dramWrite (s : State) (a : Nat) (bs : List Byte) (h : Memory.wf s.dram = true) :
    Memory.wf (s.dramWrite a bs).dram = true := Memory.wf_writeAll bs _ a h
/-- The operations over State's memory keep the canonical form. -/
theorem Memory.wf_dramUndefine (s : State) (lo hi : Nat) (h : Memory.wf s.dram = true) :
    Memory.wf (s.dramUndefine lo hi).dram = true := Memory.wf_undefine _ lo hi _ h
/-- The memory after reset has the canonical form. -/
theorem Memory.wf_reset : Memory.wf State.reset.dram = true := rfl

/-- A byte written reads back. -/
@[simp] theorem Dram.read_write_same (d : Dram) (a : Nat) (v : Byte) : (d.write a v).read a = v := by
  show SMap.get (Dram.blank (d.write a v) a) (SMap.set (d.blank a) d.cells a v) a = v
  rw [show Dram.blank (d.write a v) a = d.blank a from rfl, SMap.get_set_same]
/-- A write changes no other byte. -/
theorem Dram.read_write_ne (d : Dram) {a b : Nat} (v : Byte) (h : b ≠ a) : (d.write a v).read b = d.read b := by
  show SMap.get (d.blank b) (SMap.set (d.blank a) d.cells a v) b = SMap.get (d.blank b) d.cells b
  unfold SMap.set
  split
  · exact SMap.get_erase_ne _ _ h
  · rw [SMap.get_insert_ne _ _ _ h]; exact SMap.get_erase_ne _ _ h
/-- A run of bytes written reads back, and no other byte changes. -/
theorem Dram.read_writeAll (bs : List Byte) : ∀ (d : Dram) (a b : Nat),
    (d.writeAll a bs).read b = if a ≤ b ∧ b < a + bs.length then bs.getD (b - a) 0 else d.read b := by
  induction bs with
  | nil => intro d a b; simp [Dram.writeAll]
  | cons x bs ih =>
    intro d a b
    show ((d.write a x).writeAll (a + 1) bs).read b = _
    rw [ih]
    by_cases h1 : b = a
    · subst h1; simp
    · by_cases h2 : a + 1 ≤ b ∧ b < a + 1 + bs.length
      · rw [if_pos h2, if_pos (by simp only [List.length_cons]; omega)]
        obtain ⟨k, hk⟩ : ∃ k, b - a = k + 1 := ⟨b - a - 1, by omega⟩
        rw [hk, show b - (a + 1) = k by omega]; rfl
      · rw [if_neg h2, if_neg (by simp only [List.length_cons]; omega), Dram.read_write_ne d x h1]

end Sys2Proof.Machine
end

