-- ==== Sys2Proof/Laws/State.lean ====
section
/-! SUPPORT. What each update of a component of the state leaves in every component. -/

namespace Sys2Proof.Machine

/-- A fold keeps what each of its steps keeps. -/
theorem foldl_keep {α β : Type} (π : State → β) (g : State → α → State) (h : ∀ t x, π (g t x) = π t) (l : List α) (s : State) :
    π (l.foldl g s) = π s := by
  induction l generalizing s with
  | nil => rfl
  | cons x l ih => rw [List.foldl_cons, ih, h]

/-- The host interface but for its alert bits. -/
def State.hostCore (s : State) : HostIf := { s.host with alert := [] }

variable (s : State)

@[simp] theorem State.updHost_pending (f) : (s.updHost f).pending = s.pending := rfl
@[simp] theorem State.updHost_free (f) : (s.updHost f).free = s.free := rfl
@[simp] theorem State.updHost_host (f) : (s.updHost f).host = f s.host := rfl
@[simp] theorem State.updHost_boot (f) : (s.updHost f).boot = s.boot := rfl
@[simp] theorem State.updHost_fuse (f) : (s.updHost f).fuse = s.fuse := rfl
@[simp] theorem State.updHost_time (f) : (s.updHost f).time = s.time := rfl
@[simp] theorem State.updHost_geo (f) : (s.updHost f).geo = s.geo := rfl
@[simp] theorem State.updHost_bat (f) : (s.updHost f).bat = s.bat := rfl
@[simp] theorem State.updHost_fire (f) : (s.updHost f).fire = s.fire := rfl
@[simp] theorem State.updHost_rlConfig (f) : (s.updHost f).rlConfig = s.rlConfig := rfl
@[simp] theorem State.updHost_port (f) : (s.updHost f).port = s.port := rfl
@[simp] theorem State.updHost_head (f) : (s.updHost f).head = s.head := rfl
@[simp] theorem State.updHost_cal (f) : (s.updHost f).cal = s.cal := rfl
@[simp] theorem State.updHost_nvm (f) : (s.updHost f).nvm = s.nvm := rfl
@[simp] theorem State.updHost_slate (f) : (s.updHost f).slate = s.slate := rfl
@[simp] theorem State.updHost_enc (f) : (s.updHost f).enc = s.enc := rfl
@[simp] theorem State.updHost_est (f) : (s.updHost f).est = s.est := rfl
@[simp] theorem State.updHost_axis (f) : (s.updHost f).axis = s.axis := rfl
@[simp] theorem State.updHost_trig (f) : (s.updHost f).trig = s.trig := rfl
@[simp] theorem State.updHost_cam (f) : (s.updHost f).cam = s.cam := rfl
@[simp] theorem State.updHost_vis (f) : (s.updHost f).vis = s.vis := rfl
@[simp] theorem State.updHost_loop (f) : (s.updHost f).loop = s.loop := rfl
@[simp] theorem State.updHost_twin (f) : (s.updHost f).twin = s.twin := rfl
@[simp] theorem State.updHost_dram (f) : (s.updHost f).dram = s.dram := rfl
@[simp] theorem State.updHost_dma (f) : (s.updHost f).dma = s.dma := rfl
@[simp] theorem State.updHost_pwr (f) : (s.updHost f).pwr = s.pwr := rfl
@[simp] theorem State.updHost_health (f) : (s.updHost f).health = s.health := rfl
@[simp] theorem State.updHost_log (f) : (s.updHost f).log = s.log := rfl

@[simp] theorem State.updBoot_pending (f) : (s.updBoot f).pending = s.pending := rfl
@[simp] theorem State.updBoot_free (f) : (s.updBoot f).free = s.free := rfl
@[simp] theorem State.updBoot_host (f) : (s.updBoot f).host = s.host := rfl
@[simp] theorem State.updBoot_boot (f) : (s.updBoot f).boot = f s.boot := rfl
@[simp] theorem State.updBoot_fuse (f) : (s.updBoot f).fuse = s.fuse := rfl
@[simp] theorem State.updBoot_time (f) : (s.updBoot f).time = s.time := rfl
@[simp] theorem State.updBoot_geo (f) : (s.updBoot f).geo = s.geo := rfl
@[simp] theorem State.updBoot_bat (f) : (s.updBoot f).bat = s.bat := rfl
@[simp] theorem State.updBoot_fire (f) : (s.updBoot f).fire = s.fire := rfl
@[simp] theorem State.updBoot_rlConfig (f) : (s.updBoot f).rlConfig = s.rlConfig := rfl
@[simp] theorem State.updBoot_port (f) : (s.updBoot f).port = s.port := rfl
@[simp] theorem State.updBoot_head (f) : (s.updBoot f).head = s.head := rfl
@[simp] theorem State.updBoot_cal (f) : (s.updBoot f).cal = s.cal := rfl
@[simp] theorem State.updBoot_nvm (f) : (s.updBoot f).nvm = s.nvm := rfl
@[simp] theorem State.updBoot_slate (f) : (s.updBoot f).slate = s.slate := rfl
@[simp] theorem State.updBoot_enc (f) : (s.updBoot f).enc = s.enc := rfl
@[simp] theorem State.updBoot_est (f) : (s.updBoot f).est = s.est := rfl
@[simp] theorem State.updBoot_axis (f) : (s.updBoot f).axis = s.axis := rfl
@[simp] theorem State.updBoot_trig (f) : (s.updBoot f).trig = s.trig := rfl
@[simp] theorem State.updBoot_cam (f) : (s.updBoot f).cam = s.cam := rfl
@[simp] theorem State.updBoot_vis (f) : (s.updBoot f).vis = s.vis := rfl
@[simp] theorem State.updBoot_loop (f) : (s.updBoot f).loop = s.loop := rfl
@[simp] theorem State.updBoot_twin (f) : (s.updBoot f).twin = s.twin := rfl
@[simp] theorem State.updBoot_dram (f) : (s.updBoot f).dram = s.dram := rfl
@[simp] theorem State.updBoot_dma (f) : (s.updBoot f).dma = s.dma := rfl
@[simp] theorem State.updBoot_pwr (f) : (s.updBoot f).pwr = s.pwr := rfl
@[simp] theorem State.updBoot_health (f) : (s.updBoot f).health = s.health := rfl
@[simp] theorem State.updBoot_log (f) : (s.updBoot f).log = s.log := rfl
@[simp] theorem State.updBoot_hostCore (f) : (s.updBoot f).hostCore = s.hostCore := rfl

@[simp] theorem State.updTime_pending (f) : (s.updTime f).pending = s.pending := rfl
@[simp] theorem State.updTime_free (f) : (s.updTime f).free = s.free := rfl
@[simp] theorem State.updTime_host (f) : (s.updTime f).host = s.host := rfl
@[simp] theorem State.updTime_boot (f) : (s.updTime f).boot = s.boot := rfl
@[simp] theorem State.updTime_fuse (f) : (s.updTime f).fuse = s.fuse := rfl
@[simp] theorem State.updTime_time (f) : (s.updTime f).time = f s.time := rfl
@[simp] theorem State.updTime_geo (f) : (s.updTime f).geo = s.geo := rfl
@[simp] theorem State.updTime_bat (f) : (s.updTime f).bat = s.bat := rfl
@[simp] theorem State.updTime_fire (f) : (s.updTime f).fire = s.fire := rfl
@[simp] theorem State.updTime_rlConfig (f) : (s.updTime f).rlConfig = s.rlConfig := rfl
@[simp] theorem State.updTime_port (f) : (s.updTime f).port = s.port := rfl
@[simp] theorem State.updTime_head (f) : (s.updTime f).head = s.head := rfl
@[simp] theorem State.updTime_cal (f) : (s.updTime f).cal = s.cal := rfl
@[simp] theorem State.updTime_nvm (f) : (s.updTime f).nvm = s.nvm := rfl
@[simp] theorem State.updTime_slate (f) : (s.updTime f).slate = s.slate := rfl
@[simp] theorem State.updTime_enc (f) : (s.updTime f).enc = s.enc := rfl
@[simp] theorem State.updTime_est (f) : (s.updTime f).est = s.est := rfl
@[simp] theorem State.updTime_axis (f) : (s.updTime f).axis = s.axis := rfl
@[simp] theorem State.updTime_trig (f) : (s.updTime f).trig = s.trig := rfl
@[simp] theorem State.updTime_cam (f) : (s.updTime f).cam = s.cam := rfl
@[simp] theorem State.updTime_vis (f) : (s.updTime f).vis = s.vis := rfl
@[simp] theorem State.updTime_loop (f) : (s.updTime f).loop = s.loop := rfl
@[simp] theorem State.updTime_twin (f) : (s.updTime f).twin = s.twin := rfl
@[simp] theorem State.updTime_dram (f) : (s.updTime f).dram = s.dram := rfl
@[simp] theorem State.updTime_dma (f) : (s.updTime f).dma = s.dma := rfl
@[simp] theorem State.updTime_pwr (f) : (s.updTime f).pwr = s.pwr := rfl
@[simp] theorem State.updTime_health (f) : (s.updTime f).health = s.health := rfl
@[simp] theorem State.updTime_log (f) : (s.updTime f).log = s.log := rfl
@[simp] theorem State.updTime_hostCore (f) : (s.updTime f).hostCore = s.hostCore := rfl

@[simp] theorem State.updGeo_pending (f) : (s.updGeo f).pending = s.pending := rfl
@[simp] theorem State.updGeo_free (f) : (s.updGeo f).free = s.free := rfl
@[simp] theorem State.updGeo_host (f) : (s.updGeo f).host = s.host := rfl
@[simp] theorem State.updGeo_boot (f) : (s.updGeo f).boot = s.boot := rfl
@[simp] theorem State.updGeo_fuse (f) : (s.updGeo f).fuse = s.fuse := rfl
@[simp] theorem State.updGeo_time (f) : (s.updGeo f).time = s.time := rfl
@[simp] theorem State.updGeo_geo (f) : (s.updGeo f).geo = f s.geo := rfl
@[simp] theorem State.updGeo_bat (f) : (s.updGeo f).bat = s.bat := rfl
@[simp] theorem State.updGeo_fire (f) : (s.updGeo f).fire = s.fire := rfl
@[simp] theorem State.updGeo_rlConfig (f) : (s.updGeo f).rlConfig = s.rlConfig := rfl
@[simp] theorem State.updGeo_port (f) : (s.updGeo f).port = s.port := rfl
@[simp] theorem State.updGeo_head (f) : (s.updGeo f).head = s.head := rfl
@[simp] theorem State.updGeo_cal (f) : (s.updGeo f).cal = s.cal := rfl
@[simp] theorem State.updGeo_nvm (f) : (s.updGeo f).nvm = s.nvm := rfl
@[simp] theorem State.updGeo_slate (f) : (s.updGeo f).slate = s.slate := rfl
@[simp] theorem State.updGeo_enc (f) : (s.updGeo f).enc = s.enc := rfl
@[simp] theorem State.updGeo_est (f) : (s.updGeo f).est = s.est := rfl
@[simp] theorem State.updGeo_axis (f) : (s.updGeo f).axis = s.axis := rfl
@[simp] theorem State.updGeo_trig (f) : (s.updGeo f).trig = s.trig := rfl
@[simp] theorem State.updGeo_cam (f) : (s.updGeo f).cam = s.cam := rfl
@[simp] theorem State.updGeo_vis (f) : (s.updGeo f).vis = s.vis := rfl
@[simp] theorem State.updGeo_loop (f) : (s.updGeo f).loop = s.loop := rfl
@[simp] theorem State.updGeo_twin (f) : (s.updGeo f).twin = s.twin := rfl
@[simp] theorem State.updGeo_dram (f) : (s.updGeo f).dram = s.dram := rfl
@[simp] theorem State.updGeo_dma (f) : (s.updGeo f).dma = s.dma := rfl
@[simp] theorem State.updGeo_pwr (f) : (s.updGeo f).pwr = s.pwr := rfl
@[simp] theorem State.updGeo_health (f) : (s.updGeo f).health = s.health := rfl
@[simp] theorem State.updGeo_log (f) : (s.updGeo f).log = s.log := rfl
@[simp] theorem State.updGeo_hostCore (f) : (s.updGeo f).hostCore = s.hostCore := rfl

@[simp] theorem State.updBat_pending (f) : (s.updBat f).pending = s.pending := rfl
@[simp] theorem State.updBat_free (f) : (s.updBat f).free = s.free := rfl
@[simp] theorem State.updBat_host (f) : (s.updBat f).host = s.host := rfl
@[simp] theorem State.updBat_boot (f) : (s.updBat f).boot = s.boot := rfl
@[simp] theorem State.updBat_fuse (f) : (s.updBat f).fuse = s.fuse := rfl
@[simp] theorem State.updBat_time (f) : (s.updBat f).time = s.time := rfl
@[simp] theorem State.updBat_geo (f) : (s.updBat f).geo = s.geo := rfl
@[simp] theorem State.updBat_bat (f) : (s.updBat f).bat = f s.bat := rfl
@[simp] theorem State.updBat_fire (f) : (s.updBat f).fire = s.fire := rfl
@[simp] theorem State.updBat_rlConfig (f) : (s.updBat f).rlConfig = s.rlConfig := rfl
@[simp] theorem State.updBat_port (f) : (s.updBat f).port = s.port := rfl
@[simp] theorem State.updBat_head (f) : (s.updBat f).head = s.head := rfl
@[simp] theorem State.updBat_cal (f) : (s.updBat f).cal = s.cal := rfl
@[simp] theorem State.updBat_nvm (f) : (s.updBat f).nvm = s.nvm := rfl
@[simp] theorem State.updBat_slate (f) : (s.updBat f).slate = s.slate := rfl
@[simp] theorem State.updBat_enc (f) : (s.updBat f).enc = s.enc := rfl
@[simp] theorem State.updBat_est (f) : (s.updBat f).est = s.est := rfl
@[simp] theorem State.updBat_axis (f) : (s.updBat f).axis = s.axis := rfl
@[simp] theorem State.updBat_trig (f) : (s.updBat f).trig = s.trig := rfl
@[simp] theorem State.updBat_cam (f) : (s.updBat f).cam = s.cam := rfl
@[simp] theorem State.updBat_vis (f) : (s.updBat f).vis = s.vis := rfl
@[simp] theorem State.updBat_loop (f) : (s.updBat f).loop = s.loop := rfl
@[simp] theorem State.updBat_twin (f) : (s.updBat f).twin = s.twin := rfl
@[simp] theorem State.updBat_dram (f) : (s.updBat f).dram = s.dram := rfl
@[simp] theorem State.updBat_dma (f) : (s.updBat f).dma = s.dma := rfl
@[simp] theorem State.updBat_pwr (f) : (s.updBat f).pwr = s.pwr := rfl
@[simp] theorem State.updBat_health (f) : (s.updBat f).health = s.health := rfl
@[simp] theorem State.updBat_log (f) : (s.updBat f).log = s.log := rfl
@[simp] theorem State.updBat_hostCore (f) : (s.updBat f).hostCore = s.hostCore := rfl

@[simp] theorem State.updFire_pending (f) : (s.updFire f).pending = s.pending := rfl
@[simp] theorem State.updFire_free (f) : (s.updFire f).free = s.free := rfl
@[simp] theorem State.updFire_host (f) : (s.updFire f).host = s.host := rfl
@[simp] theorem State.updFire_boot (f) : (s.updFire f).boot = s.boot := rfl
@[simp] theorem State.updFire_fuse (f) : (s.updFire f).fuse = s.fuse := rfl
@[simp] theorem State.updFire_time (f) : (s.updFire f).time = s.time := rfl
@[simp] theorem State.updFire_geo (f) : (s.updFire f).geo = s.geo := rfl
@[simp] theorem State.updFire_bat (f) : (s.updFire f).bat = s.bat := rfl
@[simp] theorem State.updFire_fire (f) : (s.updFire f).fire = f s.fire := rfl
@[simp] theorem State.updFire_rlConfig (f) : (s.updFire f).rlConfig = s.rlConfig := rfl
@[simp] theorem State.updFire_port (f) : (s.updFire f).port = s.port := rfl
@[simp] theorem State.updFire_head (f) : (s.updFire f).head = s.head := rfl
@[simp] theorem State.updFire_cal (f) : (s.updFire f).cal = s.cal := rfl
@[simp] theorem State.updFire_nvm (f) : (s.updFire f).nvm = s.nvm := rfl
@[simp] theorem State.updFire_slate (f) : (s.updFire f).slate = s.slate := rfl
@[simp] theorem State.updFire_enc (f) : (s.updFire f).enc = s.enc := rfl
@[simp] theorem State.updFire_est (f) : (s.updFire f).est = s.est := rfl
@[simp] theorem State.updFire_axis (f) : (s.updFire f).axis = s.axis := rfl
@[simp] theorem State.updFire_trig (f) : (s.updFire f).trig = s.trig := rfl
@[simp] theorem State.updFire_cam (f) : (s.updFire f).cam = s.cam := rfl
@[simp] theorem State.updFire_vis (f) : (s.updFire f).vis = s.vis := rfl
@[simp] theorem State.updFire_loop (f) : (s.updFire f).loop = s.loop := rfl
@[simp] theorem State.updFire_twin (f) : (s.updFire f).twin = s.twin := rfl
@[simp] theorem State.updFire_dram (f) : (s.updFire f).dram = s.dram := rfl
@[simp] theorem State.updFire_dma (f) : (s.updFire f).dma = s.dma := rfl
@[simp] theorem State.updFire_pwr (f) : (s.updFire f).pwr = s.pwr := rfl
@[simp] theorem State.updFire_health (f) : (s.updFire f).health = s.health := rfl
@[simp] theorem State.updFire_log (f) : (s.updFire f).log = s.log := rfl
@[simp] theorem State.updFire_hostCore (f) : (s.updFire f).hostCore = s.hostCore := rfl

@[simp] theorem State.updPorts_pending (f) : (s.updPorts f).pending = s.pending := rfl
@[simp] theorem State.updPorts_free (f) : (s.updPorts f).free = s.free := rfl
@[simp] theorem State.updPorts_host (f) : (s.updPorts f).host = s.host := rfl
@[simp] theorem State.updPorts_boot (f) : (s.updPorts f).boot = s.boot := rfl
@[simp] theorem State.updPorts_fuse (f) : (s.updPorts f).fuse = s.fuse := rfl
@[simp] theorem State.updPorts_time (f) : (s.updPorts f).time = s.time := rfl
@[simp] theorem State.updPorts_geo (f) : (s.updPorts f).geo = s.geo := rfl
@[simp] theorem State.updPorts_bat (f) : (s.updPorts f).bat = s.bat := rfl
@[simp] theorem State.updPorts_fire (f) : (s.updPorts f).fire = s.fire := rfl
@[simp] theorem State.updPorts_rlConfig (f) : (s.updPorts f).rlConfig = s.rlConfig := rfl
@[simp] theorem State.updPorts_port (f) : (s.updPorts f).port = f s.port := rfl
@[simp] theorem State.updPorts_head (f) : (s.updPorts f).head = s.head := rfl
@[simp] theorem State.updPorts_cal (f) : (s.updPorts f).cal = s.cal := rfl
@[simp] theorem State.updPorts_nvm (f) : (s.updPorts f).nvm = s.nvm := rfl
@[simp] theorem State.updPorts_slate (f) : (s.updPorts f).slate = s.slate := rfl
@[simp] theorem State.updPorts_enc (f) : (s.updPorts f).enc = s.enc := rfl
@[simp] theorem State.updPorts_est (f) : (s.updPorts f).est = s.est := rfl
@[simp] theorem State.updPorts_axis (f) : (s.updPorts f).axis = s.axis := rfl
@[simp] theorem State.updPorts_trig (f) : (s.updPorts f).trig = s.trig := rfl
@[simp] theorem State.updPorts_cam (f) : (s.updPorts f).cam = s.cam := rfl
@[simp] theorem State.updPorts_vis (f) : (s.updPorts f).vis = s.vis := rfl
@[simp] theorem State.updPorts_loop (f) : (s.updPorts f).loop = s.loop := rfl
@[simp] theorem State.updPorts_twin (f) : (s.updPorts f).twin = s.twin := rfl
@[simp] theorem State.updPorts_dram (f) : (s.updPorts f).dram = s.dram := rfl
@[simp] theorem State.updPorts_dma (f) : (s.updPorts f).dma = s.dma := rfl
@[simp] theorem State.updPorts_pwr (f) : (s.updPorts f).pwr = s.pwr := rfl
@[simp] theorem State.updPorts_health (f) : (s.updPorts f).health = s.health := rfl
@[simp] theorem State.updPorts_log (f) : (s.updPorts f).log = s.log := rfl
@[simp] theorem State.updPorts_hostCore (f) : (s.updPorts f).hostCore = s.hostCore := rfl

@[simp] theorem State.updHeads_pending (f) : (s.updHeads f).pending = s.pending := rfl
@[simp] theorem State.updHeads_free (f) : (s.updHeads f).free = s.free := rfl
@[simp] theorem State.updHeads_host (f) : (s.updHeads f).host = s.host := rfl
@[simp] theorem State.updHeads_boot (f) : (s.updHeads f).boot = s.boot := rfl
@[simp] theorem State.updHeads_fuse (f) : (s.updHeads f).fuse = s.fuse := rfl
@[simp] theorem State.updHeads_time (f) : (s.updHeads f).time = s.time := rfl
@[simp] theorem State.updHeads_geo (f) : (s.updHeads f).geo = s.geo := rfl
@[simp] theorem State.updHeads_bat (f) : (s.updHeads f).bat = s.bat := rfl
@[simp] theorem State.updHeads_fire (f) : (s.updHeads f).fire = s.fire := rfl
@[simp] theorem State.updHeads_rlConfig (f) : (s.updHeads f).rlConfig = s.rlConfig := rfl
@[simp] theorem State.updHeads_port (f) : (s.updHeads f).port = s.port := rfl
@[simp] theorem State.updHeads_head (f) : (s.updHeads f).head = f s.head := rfl
@[simp] theorem State.updHeads_cal (f) : (s.updHeads f).cal = s.cal := rfl
@[simp] theorem State.updHeads_nvm (f) : (s.updHeads f).nvm = s.nvm := rfl
@[simp] theorem State.updHeads_slate (f) : (s.updHeads f).slate = s.slate := rfl
@[simp] theorem State.updHeads_enc (f) : (s.updHeads f).enc = s.enc := rfl
@[simp] theorem State.updHeads_est (f) : (s.updHeads f).est = s.est := rfl
@[simp] theorem State.updHeads_axis (f) : (s.updHeads f).axis = s.axis := rfl
@[simp] theorem State.updHeads_trig (f) : (s.updHeads f).trig = s.trig := rfl
@[simp] theorem State.updHeads_cam (f) : (s.updHeads f).cam = s.cam := rfl
@[simp] theorem State.updHeads_vis (f) : (s.updHeads f).vis = s.vis := rfl
@[simp] theorem State.updHeads_loop (f) : (s.updHeads f).loop = s.loop := rfl
@[simp] theorem State.updHeads_twin (f) : (s.updHeads f).twin = s.twin := rfl
@[simp] theorem State.updHeads_dram (f) : (s.updHeads f).dram = s.dram := rfl
@[simp] theorem State.updHeads_dma (f) : (s.updHeads f).dma = s.dma := rfl
@[simp] theorem State.updHeads_pwr (f) : (s.updHeads f).pwr = s.pwr := rfl
@[simp] theorem State.updHeads_health (f) : (s.updHeads f).health = s.health := rfl
@[simp] theorem State.updHeads_log (f) : (s.updHeads f).log = s.log := rfl
@[simp] theorem State.updHeads_hostCore (f) : (s.updHeads f).hostCore = s.hostCore := rfl

@[simp] theorem State.updCal_pending (f) : (s.updCal f).pending = s.pending := rfl
@[simp] theorem State.updCal_free (f) : (s.updCal f).free = s.free := rfl
@[simp] theorem State.updCal_host (f) : (s.updCal f).host = s.host := rfl
@[simp] theorem State.updCal_boot (f) : (s.updCal f).boot = s.boot := rfl
@[simp] theorem State.updCal_fuse (f) : (s.updCal f).fuse = s.fuse := rfl
@[simp] theorem State.updCal_time (f) : (s.updCal f).time = s.time := rfl
@[simp] theorem State.updCal_geo (f) : (s.updCal f).geo = s.geo := rfl
@[simp] theorem State.updCal_bat (f) : (s.updCal f).bat = s.bat := rfl
@[simp] theorem State.updCal_fire (f) : (s.updCal f).fire = s.fire := rfl
@[simp] theorem State.updCal_rlConfig (f) : (s.updCal f).rlConfig = s.rlConfig := rfl
@[simp] theorem State.updCal_port (f) : (s.updCal f).port = s.port := rfl
@[simp] theorem State.updCal_head (f) : (s.updCal f).head = s.head := rfl
@[simp] theorem State.updCal_cal (f) : (s.updCal f).cal = f s.cal := rfl
@[simp] theorem State.updCal_nvm (f) : (s.updCal f).nvm = s.nvm := rfl
@[simp] theorem State.updCal_slate (f) : (s.updCal f).slate = s.slate := rfl
@[simp] theorem State.updCal_enc (f) : (s.updCal f).enc = s.enc := rfl
@[simp] theorem State.updCal_est (f) : (s.updCal f).est = s.est := rfl
@[simp] theorem State.updCal_axis (f) : (s.updCal f).axis = s.axis := rfl
@[simp] theorem State.updCal_trig (f) : (s.updCal f).trig = s.trig := rfl
@[simp] theorem State.updCal_cam (f) : (s.updCal f).cam = s.cam := rfl
@[simp] theorem State.updCal_vis (f) : (s.updCal f).vis = s.vis := rfl
@[simp] theorem State.updCal_loop (f) : (s.updCal f).loop = s.loop := rfl
@[simp] theorem State.updCal_twin (f) : (s.updCal f).twin = s.twin := rfl
@[simp] theorem State.updCal_dram (f) : (s.updCal f).dram = s.dram := rfl
@[simp] theorem State.updCal_dma (f) : (s.updCal f).dma = s.dma := rfl
@[simp] theorem State.updCal_pwr (f) : (s.updCal f).pwr = s.pwr := rfl
@[simp] theorem State.updCal_health (f) : (s.updCal f).health = s.health := rfl
@[simp] theorem State.updCal_log (f) : (s.updCal f).log = s.log := rfl
@[simp] theorem State.updCal_hostCore (f) : (s.updCal f).hostCore = s.hostCore := rfl

@[simp] theorem State.updNvm_pending (f) : (s.updNvm f).pending = s.pending := rfl
@[simp] theorem State.updNvm_free (f) : (s.updNvm f).free = s.free := rfl
@[simp] theorem State.updNvm_host (f) : (s.updNvm f).host = s.host := rfl
@[simp] theorem State.updNvm_boot (f) : (s.updNvm f).boot = s.boot := rfl
@[simp] theorem State.updNvm_fuse (f) : (s.updNvm f).fuse = s.fuse := rfl
@[simp] theorem State.updNvm_time (f) : (s.updNvm f).time = s.time := rfl
@[simp] theorem State.updNvm_geo (f) : (s.updNvm f).geo = s.geo := rfl
@[simp] theorem State.updNvm_bat (f) : (s.updNvm f).bat = s.bat := rfl
@[simp] theorem State.updNvm_fire (f) : (s.updNvm f).fire = s.fire := rfl
@[simp] theorem State.updNvm_rlConfig (f) : (s.updNvm f).rlConfig = s.rlConfig := rfl
@[simp] theorem State.updNvm_port (f) : (s.updNvm f).port = s.port := rfl
@[simp] theorem State.updNvm_head (f) : (s.updNvm f).head = s.head := rfl
@[simp] theorem State.updNvm_cal (f) : (s.updNvm f).cal = s.cal := rfl
@[simp] theorem State.updNvm_nvm (f) : (s.updNvm f).nvm = f s.nvm := rfl
@[simp] theorem State.updNvm_slate (f) : (s.updNvm f).slate = s.slate := rfl
@[simp] theorem State.updNvm_enc (f) : (s.updNvm f).enc = s.enc := rfl
@[simp] theorem State.updNvm_est (f) : (s.updNvm f).est = s.est := rfl
@[simp] theorem State.updNvm_axis (f) : (s.updNvm f).axis = s.axis := rfl
@[simp] theorem State.updNvm_trig (f) : (s.updNvm f).trig = s.trig := rfl
@[simp] theorem State.updNvm_cam (f) : (s.updNvm f).cam = s.cam := rfl
@[simp] theorem State.updNvm_vis (f) : (s.updNvm f).vis = s.vis := rfl
@[simp] theorem State.updNvm_loop (f) : (s.updNvm f).loop = s.loop := rfl
@[simp] theorem State.updNvm_twin (f) : (s.updNvm f).twin = s.twin := rfl
@[simp] theorem State.updNvm_dram (f) : (s.updNvm f).dram = s.dram := rfl
@[simp] theorem State.updNvm_dma (f) : (s.updNvm f).dma = s.dma := rfl
@[simp] theorem State.updNvm_pwr (f) : (s.updNvm f).pwr = s.pwr := rfl
@[simp] theorem State.updNvm_health (f) : (s.updNvm f).health = s.health := rfl
@[simp] theorem State.updNvm_log (f) : (s.updNvm f).log = s.log := rfl
@[simp] theorem State.updNvm_hostCore (f) : (s.updNvm f).hostCore = s.hostCore := rfl

@[simp] theorem State.updSlate_pending (f) : (s.updSlate f).pending = s.pending := rfl
@[simp] theorem State.updSlate_free (f) : (s.updSlate f).free = s.free := rfl
@[simp] theorem State.updSlate_host (f) : (s.updSlate f).host = s.host := rfl
@[simp] theorem State.updSlate_boot (f) : (s.updSlate f).boot = s.boot := rfl
@[simp] theorem State.updSlate_fuse (f) : (s.updSlate f).fuse = s.fuse := rfl
@[simp] theorem State.updSlate_time (f) : (s.updSlate f).time = s.time := rfl
@[simp] theorem State.updSlate_geo (f) : (s.updSlate f).geo = s.geo := rfl
@[simp] theorem State.updSlate_bat (f) : (s.updSlate f).bat = s.bat := rfl
@[simp] theorem State.updSlate_fire (f) : (s.updSlate f).fire = s.fire := rfl
@[simp] theorem State.updSlate_rlConfig (f) : (s.updSlate f).rlConfig = s.rlConfig := rfl
@[simp] theorem State.updSlate_port (f) : (s.updSlate f).port = s.port := rfl
@[simp] theorem State.updSlate_head (f) : (s.updSlate f).head = s.head := rfl
@[simp] theorem State.updSlate_cal (f) : (s.updSlate f).cal = s.cal := rfl
@[simp] theorem State.updSlate_nvm (f) : (s.updSlate f).nvm = s.nvm := rfl
@[simp] theorem State.updSlate_slate (f) : (s.updSlate f).slate = f s.slate := rfl
@[simp] theorem State.updSlate_enc (f) : (s.updSlate f).enc = s.enc := rfl
@[simp] theorem State.updSlate_est (f) : (s.updSlate f).est = s.est := rfl
@[simp] theorem State.updSlate_axis (f) : (s.updSlate f).axis = s.axis := rfl
@[simp] theorem State.updSlate_trig (f) : (s.updSlate f).trig = s.trig := rfl
@[simp] theorem State.updSlate_cam (f) : (s.updSlate f).cam = s.cam := rfl
@[simp] theorem State.updSlate_vis (f) : (s.updSlate f).vis = s.vis := rfl
@[simp] theorem State.updSlate_loop (f) : (s.updSlate f).loop = s.loop := rfl
@[simp] theorem State.updSlate_twin (f) : (s.updSlate f).twin = s.twin := rfl
@[simp] theorem State.updSlate_dram (f) : (s.updSlate f).dram = s.dram := rfl
@[simp] theorem State.updSlate_dma (f) : (s.updSlate f).dma = s.dma := rfl
@[simp] theorem State.updSlate_pwr (f) : (s.updSlate f).pwr = s.pwr := rfl
@[simp] theorem State.updSlate_health (f) : (s.updSlate f).health = s.health := rfl
@[simp] theorem State.updSlate_log (f) : (s.updSlate f).log = s.log := rfl
@[simp] theorem State.updSlate_hostCore (f) : (s.updSlate f).hostCore = s.hostCore := rfl

@[simp] theorem State.updEncs_pending (f) : (s.updEncs f).pending = s.pending := rfl
@[simp] theorem State.updEncs_free (f) : (s.updEncs f).free = s.free := rfl
@[simp] theorem State.updEncs_host (f) : (s.updEncs f).host = s.host := rfl
@[simp] theorem State.updEncs_boot (f) : (s.updEncs f).boot = s.boot := rfl
@[simp] theorem State.updEncs_fuse (f) : (s.updEncs f).fuse = s.fuse := rfl
@[simp] theorem State.updEncs_time (f) : (s.updEncs f).time = s.time := rfl
@[simp] theorem State.updEncs_geo (f) : (s.updEncs f).geo = s.geo := rfl
@[simp] theorem State.updEncs_bat (f) : (s.updEncs f).bat = s.bat := rfl
@[simp] theorem State.updEncs_fire (f) : (s.updEncs f).fire = s.fire := rfl
@[simp] theorem State.updEncs_rlConfig (f) : (s.updEncs f).rlConfig = s.rlConfig := rfl
@[simp] theorem State.updEncs_port (f) : (s.updEncs f).port = s.port := rfl
@[simp] theorem State.updEncs_head (f) : (s.updEncs f).head = s.head := rfl
@[simp] theorem State.updEncs_cal (f) : (s.updEncs f).cal = s.cal := rfl
@[simp] theorem State.updEncs_nvm (f) : (s.updEncs f).nvm = s.nvm := rfl
@[simp] theorem State.updEncs_slate (f) : (s.updEncs f).slate = s.slate := rfl
@[simp] theorem State.updEncs_enc (f) : (s.updEncs f).enc = f s.enc := rfl
@[simp] theorem State.updEncs_est (f) : (s.updEncs f).est = s.est := rfl
@[simp] theorem State.updEncs_axis (f) : (s.updEncs f).axis = s.axis := rfl
@[simp] theorem State.updEncs_trig (f) : (s.updEncs f).trig = s.trig := rfl
@[simp] theorem State.updEncs_cam (f) : (s.updEncs f).cam = s.cam := rfl
@[simp] theorem State.updEncs_vis (f) : (s.updEncs f).vis = s.vis := rfl
@[simp] theorem State.updEncs_loop (f) : (s.updEncs f).loop = s.loop := rfl
@[simp] theorem State.updEncs_twin (f) : (s.updEncs f).twin = s.twin := rfl
@[simp] theorem State.updEncs_dram (f) : (s.updEncs f).dram = s.dram := rfl
@[simp] theorem State.updEncs_dma (f) : (s.updEncs f).dma = s.dma := rfl
@[simp] theorem State.updEncs_pwr (f) : (s.updEncs f).pwr = s.pwr := rfl
@[simp] theorem State.updEncs_health (f) : (s.updEncs f).health = s.health := rfl
@[simp] theorem State.updEncs_log (f) : (s.updEncs f).log = s.log := rfl
@[simp] theorem State.updEncs_hostCore (f) : (s.updEncs f).hostCore = s.hostCore := rfl

@[simp] theorem State.updEst_pending (f) : (s.updEst f).pending = s.pending := rfl
@[simp] theorem State.updEst_free (f) : (s.updEst f).free = s.free := rfl
@[simp] theorem State.updEst_host (f) : (s.updEst f).host = s.host := rfl
@[simp] theorem State.updEst_boot (f) : (s.updEst f).boot = s.boot := rfl
@[simp] theorem State.updEst_fuse (f) : (s.updEst f).fuse = s.fuse := rfl
@[simp] theorem State.updEst_time (f) : (s.updEst f).time = s.time := rfl
@[simp] theorem State.updEst_geo (f) : (s.updEst f).geo = s.geo := rfl
@[simp] theorem State.updEst_bat (f) : (s.updEst f).bat = s.bat := rfl
@[simp] theorem State.updEst_fire (f) : (s.updEst f).fire = s.fire := rfl
@[simp] theorem State.updEst_rlConfig (f) : (s.updEst f).rlConfig = s.rlConfig := rfl
@[simp] theorem State.updEst_port (f) : (s.updEst f).port = s.port := rfl
@[simp] theorem State.updEst_head (f) : (s.updEst f).head = s.head := rfl
@[simp] theorem State.updEst_cal (f) : (s.updEst f).cal = s.cal := rfl
@[simp] theorem State.updEst_nvm (f) : (s.updEst f).nvm = s.nvm := rfl
@[simp] theorem State.updEst_slate (f) : (s.updEst f).slate = s.slate := rfl
@[simp] theorem State.updEst_enc (f) : (s.updEst f).enc = s.enc := rfl
@[simp] theorem State.updEst_est (f) : (s.updEst f).est = f s.est := rfl
@[simp] theorem State.updEst_axis (f) : (s.updEst f).axis = s.axis := rfl
@[simp] theorem State.updEst_trig (f) : (s.updEst f).trig = s.trig := rfl
@[simp] theorem State.updEst_cam (f) : (s.updEst f).cam = s.cam := rfl
@[simp] theorem State.updEst_vis (f) : (s.updEst f).vis = s.vis := rfl
@[simp] theorem State.updEst_loop (f) : (s.updEst f).loop = s.loop := rfl
@[simp] theorem State.updEst_twin (f) : (s.updEst f).twin = s.twin := rfl
@[simp] theorem State.updEst_dram (f) : (s.updEst f).dram = s.dram := rfl
@[simp] theorem State.updEst_dma (f) : (s.updEst f).dma = s.dma := rfl
@[simp] theorem State.updEst_pwr (f) : (s.updEst f).pwr = s.pwr := rfl
@[simp] theorem State.updEst_health (f) : (s.updEst f).health = s.health := rfl
@[simp] theorem State.updEst_log (f) : (s.updEst f).log = s.log := rfl
@[simp] theorem State.updEst_hostCore (f) : (s.updEst f).hostCore = s.hostCore := rfl

@[simp] theorem State.updAxes_pending (f) : (s.updAxes f).pending = s.pending := rfl
@[simp] theorem State.updAxes_free (f) : (s.updAxes f).free = s.free := rfl
@[simp] theorem State.updAxes_host (f) : (s.updAxes f).host = s.host := rfl
@[simp] theorem State.updAxes_boot (f) : (s.updAxes f).boot = s.boot := rfl
@[simp] theorem State.updAxes_fuse (f) : (s.updAxes f).fuse = s.fuse := rfl
@[simp] theorem State.updAxes_time (f) : (s.updAxes f).time = s.time := rfl
@[simp] theorem State.updAxes_geo (f) : (s.updAxes f).geo = s.geo := rfl
@[simp] theorem State.updAxes_bat (f) : (s.updAxes f).bat = s.bat := rfl
@[simp] theorem State.updAxes_fire (f) : (s.updAxes f).fire = s.fire := rfl
@[simp] theorem State.updAxes_rlConfig (f) : (s.updAxes f).rlConfig = s.rlConfig := rfl
@[simp] theorem State.updAxes_port (f) : (s.updAxes f).port = s.port := rfl
@[simp] theorem State.updAxes_head (f) : (s.updAxes f).head = s.head := rfl
@[simp] theorem State.updAxes_cal (f) : (s.updAxes f).cal = s.cal := rfl
@[simp] theorem State.updAxes_nvm (f) : (s.updAxes f).nvm = s.nvm := rfl
@[simp] theorem State.updAxes_slate (f) : (s.updAxes f).slate = s.slate := rfl
@[simp] theorem State.updAxes_enc (f) : (s.updAxes f).enc = s.enc := rfl
@[simp] theorem State.updAxes_est (f) : (s.updAxes f).est = s.est := rfl
@[simp] theorem State.updAxes_axis (f) : (s.updAxes f).axis = f s.axis := rfl
@[simp] theorem State.updAxes_trig (f) : (s.updAxes f).trig = s.trig := rfl
@[simp] theorem State.updAxes_cam (f) : (s.updAxes f).cam = s.cam := rfl
@[simp] theorem State.updAxes_vis (f) : (s.updAxes f).vis = s.vis := rfl
@[simp] theorem State.updAxes_loop (f) : (s.updAxes f).loop = s.loop := rfl
@[simp] theorem State.updAxes_twin (f) : (s.updAxes f).twin = s.twin := rfl
@[simp] theorem State.updAxes_dram (f) : (s.updAxes f).dram = s.dram := rfl
@[simp] theorem State.updAxes_dma (f) : (s.updAxes f).dma = s.dma := rfl
@[simp] theorem State.updAxes_pwr (f) : (s.updAxes f).pwr = s.pwr := rfl
@[simp] theorem State.updAxes_health (f) : (s.updAxes f).health = s.health := rfl
@[simp] theorem State.updAxes_log (f) : (s.updAxes f).log = s.log := rfl
@[simp] theorem State.updAxes_hostCore (f) : (s.updAxes f).hostCore = s.hostCore := rfl

@[simp] theorem State.updTrigs_pending (f) : (s.updTrigs f).pending = s.pending := rfl
@[simp] theorem State.updTrigs_free (f) : (s.updTrigs f).free = s.free := rfl
@[simp] theorem State.updTrigs_host (f) : (s.updTrigs f).host = s.host := rfl
@[simp] theorem State.updTrigs_boot (f) : (s.updTrigs f).boot = s.boot := rfl
@[simp] theorem State.updTrigs_fuse (f) : (s.updTrigs f).fuse = s.fuse := rfl
@[simp] theorem State.updTrigs_time (f) : (s.updTrigs f).time = s.time := rfl
@[simp] theorem State.updTrigs_geo (f) : (s.updTrigs f).geo = s.geo := rfl
@[simp] theorem State.updTrigs_bat (f) : (s.updTrigs f).bat = s.bat := rfl
@[simp] theorem State.updTrigs_fire (f) : (s.updTrigs f).fire = s.fire := rfl
@[simp] theorem State.updTrigs_rlConfig (f) : (s.updTrigs f).rlConfig = s.rlConfig := rfl
@[simp] theorem State.updTrigs_port (f) : (s.updTrigs f).port = s.port := rfl
@[simp] theorem State.updTrigs_head (f) : (s.updTrigs f).head = s.head := rfl
@[simp] theorem State.updTrigs_cal (f) : (s.updTrigs f).cal = s.cal := rfl
@[simp] theorem State.updTrigs_nvm (f) : (s.updTrigs f).nvm = s.nvm := rfl
@[simp] theorem State.updTrigs_slate (f) : (s.updTrigs f).slate = s.slate := rfl
@[simp] theorem State.updTrigs_enc (f) : (s.updTrigs f).enc = s.enc := rfl
@[simp] theorem State.updTrigs_est (f) : (s.updTrigs f).est = s.est := rfl
@[simp] theorem State.updTrigs_axis (f) : (s.updTrigs f).axis = s.axis := rfl
@[simp] theorem State.updTrigs_trig (f) : (s.updTrigs f).trig = f s.trig := rfl
@[simp] theorem State.updTrigs_cam (f) : (s.updTrigs f).cam = s.cam := rfl
@[simp] theorem State.updTrigs_vis (f) : (s.updTrigs f).vis = s.vis := rfl
@[simp] theorem State.updTrigs_loop (f) : (s.updTrigs f).loop = s.loop := rfl
@[simp] theorem State.updTrigs_twin (f) : (s.updTrigs f).twin = s.twin := rfl
@[simp] theorem State.updTrigs_dram (f) : (s.updTrigs f).dram = s.dram := rfl
@[simp] theorem State.updTrigs_dma (f) : (s.updTrigs f).dma = s.dma := rfl
@[simp] theorem State.updTrigs_pwr (f) : (s.updTrigs f).pwr = s.pwr := rfl
@[simp] theorem State.updTrigs_health (f) : (s.updTrigs f).health = s.health := rfl
@[simp] theorem State.updTrigs_log (f) : (s.updTrigs f).log = s.log := rfl
@[simp] theorem State.updTrigs_hostCore (f) : (s.updTrigs f).hostCore = s.hostCore := rfl

@[simp] theorem State.updCams_pending (f) : (s.updCams f).pending = s.pending := rfl
@[simp] theorem State.updCams_free (f) : (s.updCams f).free = s.free := rfl
@[simp] theorem State.updCams_host (f) : (s.updCams f).host = s.host := rfl
@[simp] theorem State.updCams_boot (f) : (s.updCams f).boot = s.boot := rfl
@[simp] theorem State.updCams_fuse (f) : (s.updCams f).fuse = s.fuse := rfl
@[simp] theorem State.updCams_time (f) : (s.updCams f).time = s.time := rfl
@[simp] theorem State.updCams_geo (f) : (s.updCams f).geo = s.geo := rfl
@[simp] theorem State.updCams_bat (f) : (s.updCams f).bat = s.bat := rfl
@[simp] theorem State.updCams_fire (f) : (s.updCams f).fire = s.fire := rfl
@[simp] theorem State.updCams_rlConfig (f) : (s.updCams f).rlConfig = s.rlConfig := rfl
@[simp] theorem State.updCams_port (f) : (s.updCams f).port = s.port := rfl
@[simp] theorem State.updCams_head (f) : (s.updCams f).head = s.head := rfl
@[simp] theorem State.updCams_cal (f) : (s.updCams f).cal = s.cal := rfl
@[simp] theorem State.updCams_nvm (f) : (s.updCams f).nvm = s.nvm := rfl
@[simp] theorem State.updCams_slate (f) : (s.updCams f).slate = s.slate := rfl
@[simp] theorem State.updCams_enc (f) : (s.updCams f).enc = s.enc := rfl
@[simp] theorem State.updCams_est (f) : (s.updCams f).est = s.est := rfl
@[simp] theorem State.updCams_axis (f) : (s.updCams f).axis = s.axis := rfl
@[simp] theorem State.updCams_trig (f) : (s.updCams f).trig = s.trig := rfl
@[simp] theorem State.updCams_cam (f) : (s.updCams f).cam = f s.cam := rfl
@[simp] theorem State.updCams_vis (f) : (s.updCams f).vis = s.vis := rfl
@[simp] theorem State.updCams_loop (f) : (s.updCams f).loop = s.loop := rfl
@[simp] theorem State.updCams_twin (f) : (s.updCams f).twin = s.twin := rfl
@[simp] theorem State.updCams_dram (f) : (s.updCams f).dram = s.dram := rfl
@[simp] theorem State.updCams_dma (f) : (s.updCams f).dma = s.dma := rfl
@[simp] theorem State.updCams_pwr (f) : (s.updCams f).pwr = s.pwr := rfl
@[simp] theorem State.updCams_health (f) : (s.updCams f).health = s.health := rfl
@[simp] theorem State.updCams_log (f) : (s.updCams f).log = s.log := rfl
@[simp] theorem State.updCams_hostCore (f) : (s.updCams f).hostCore = s.hostCore := rfl

@[simp] theorem State.updVis_pending (f) : (s.updVis f).pending = s.pending := rfl
@[simp] theorem State.updVis_free (f) : (s.updVis f).free = s.free := rfl
@[simp] theorem State.updVis_host (f) : (s.updVis f).host = s.host := rfl
@[simp] theorem State.updVis_boot (f) : (s.updVis f).boot = s.boot := rfl
@[simp] theorem State.updVis_fuse (f) : (s.updVis f).fuse = s.fuse := rfl
@[simp] theorem State.updVis_time (f) : (s.updVis f).time = s.time := rfl
@[simp] theorem State.updVis_geo (f) : (s.updVis f).geo = s.geo := rfl
@[simp] theorem State.updVis_bat (f) : (s.updVis f).bat = s.bat := rfl
@[simp] theorem State.updVis_fire (f) : (s.updVis f).fire = s.fire := rfl
@[simp] theorem State.updVis_rlConfig (f) : (s.updVis f).rlConfig = s.rlConfig := rfl
@[simp] theorem State.updVis_port (f) : (s.updVis f).port = s.port := rfl
@[simp] theorem State.updVis_head (f) : (s.updVis f).head = s.head := rfl
@[simp] theorem State.updVis_cal (f) : (s.updVis f).cal = s.cal := rfl
@[simp] theorem State.updVis_nvm (f) : (s.updVis f).nvm = s.nvm := rfl
@[simp] theorem State.updVis_slate (f) : (s.updVis f).slate = s.slate := rfl
@[simp] theorem State.updVis_enc (f) : (s.updVis f).enc = s.enc := rfl
@[simp] theorem State.updVis_est (f) : (s.updVis f).est = s.est := rfl
@[simp] theorem State.updVis_axis (f) : (s.updVis f).axis = s.axis := rfl
@[simp] theorem State.updVis_trig (f) : (s.updVis f).trig = s.trig := rfl
@[simp] theorem State.updVis_cam (f) : (s.updVis f).cam = s.cam := rfl
@[simp] theorem State.updVis_vis (f) : (s.updVis f).vis = f s.vis := rfl
@[simp] theorem State.updVis_loop (f) : (s.updVis f).loop = s.loop := rfl
@[simp] theorem State.updVis_twin (f) : (s.updVis f).twin = s.twin := rfl
@[simp] theorem State.updVis_dram (f) : (s.updVis f).dram = s.dram := rfl
@[simp] theorem State.updVis_dma (f) : (s.updVis f).dma = s.dma := rfl
@[simp] theorem State.updVis_pwr (f) : (s.updVis f).pwr = s.pwr := rfl
@[simp] theorem State.updVis_health (f) : (s.updVis f).health = s.health := rfl
@[simp] theorem State.updVis_log (f) : (s.updVis f).log = s.log := rfl
@[simp] theorem State.updVis_hostCore (f) : (s.updVis f).hostCore = s.hostCore := rfl

@[simp] theorem State.updLoop_pending (f) : (s.updLoop f).pending = s.pending := rfl
@[simp] theorem State.updLoop_free (f) : (s.updLoop f).free = s.free := rfl
@[simp] theorem State.updLoop_host (f) : (s.updLoop f).host = s.host := rfl
@[simp] theorem State.updLoop_boot (f) : (s.updLoop f).boot = s.boot := rfl
@[simp] theorem State.updLoop_fuse (f) : (s.updLoop f).fuse = s.fuse := rfl
@[simp] theorem State.updLoop_time (f) : (s.updLoop f).time = s.time := rfl
@[simp] theorem State.updLoop_geo (f) : (s.updLoop f).geo = s.geo := rfl
@[simp] theorem State.updLoop_bat (f) : (s.updLoop f).bat = s.bat := rfl
@[simp] theorem State.updLoop_fire (f) : (s.updLoop f).fire = s.fire := rfl
@[simp] theorem State.updLoop_rlConfig (f) : (s.updLoop f).rlConfig = s.rlConfig := rfl
@[simp] theorem State.updLoop_port (f) : (s.updLoop f).port = s.port := rfl
@[simp] theorem State.updLoop_head (f) : (s.updLoop f).head = s.head := rfl
@[simp] theorem State.updLoop_cal (f) : (s.updLoop f).cal = s.cal := rfl
@[simp] theorem State.updLoop_nvm (f) : (s.updLoop f).nvm = s.nvm := rfl
@[simp] theorem State.updLoop_slate (f) : (s.updLoop f).slate = s.slate := rfl
@[simp] theorem State.updLoop_enc (f) : (s.updLoop f).enc = s.enc := rfl
@[simp] theorem State.updLoop_est (f) : (s.updLoop f).est = s.est := rfl
@[simp] theorem State.updLoop_axis (f) : (s.updLoop f).axis = s.axis := rfl
@[simp] theorem State.updLoop_trig (f) : (s.updLoop f).trig = s.trig := rfl
@[simp] theorem State.updLoop_cam (f) : (s.updLoop f).cam = s.cam := rfl
@[simp] theorem State.updLoop_vis (f) : (s.updLoop f).vis = s.vis := rfl
@[simp] theorem State.updLoop_loop (f) : (s.updLoop f).loop = f s.loop := rfl
@[simp] theorem State.updLoop_twin (f) : (s.updLoop f).twin = s.twin := rfl
@[simp] theorem State.updLoop_dram (f) : (s.updLoop f).dram = s.dram := rfl
@[simp] theorem State.updLoop_dma (f) : (s.updLoop f).dma = s.dma := rfl
@[simp] theorem State.updLoop_pwr (f) : (s.updLoop f).pwr = s.pwr := rfl
@[simp] theorem State.updLoop_health (f) : (s.updLoop f).health = s.health := rfl
@[simp] theorem State.updLoop_log (f) : (s.updLoop f).log = s.log := rfl
@[simp] theorem State.updLoop_hostCore (f) : (s.updLoop f).hostCore = s.hostCore := rfl

@[simp] theorem State.updTwin_pending (f) : (s.updTwin f).pending = s.pending := rfl
@[simp] theorem State.updTwin_free (f) : (s.updTwin f).free = s.free := rfl
@[simp] theorem State.updTwin_host (f) : (s.updTwin f).host = s.host := rfl
@[simp] theorem State.updTwin_boot (f) : (s.updTwin f).boot = s.boot := rfl
@[simp] theorem State.updTwin_fuse (f) : (s.updTwin f).fuse = s.fuse := rfl
@[simp] theorem State.updTwin_time (f) : (s.updTwin f).time = s.time := rfl
@[simp] theorem State.updTwin_geo (f) : (s.updTwin f).geo = s.geo := rfl
@[simp] theorem State.updTwin_bat (f) : (s.updTwin f).bat = s.bat := rfl
@[simp] theorem State.updTwin_fire (f) : (s.updTwin f).fire = s.fire := rfl
@[simp] theorem State.updTwin_rlConfig (f) : (s.updTwin f).rlConfig = s.rlConfig := rfl
@[simp] theorem State.updTwin_port (f) : (s.updTwin f).port = s.port := rfl
@[simp] theorem State.updTwin_head (f) : (s.updTwin f).head = s.head := rfl
@[simp] theorem State.updTwin_cal (f) : (s.updTwin f).cal = s.cal := rfl
@[simp] theorem State.updTwin_nvm (f) : (s.updTwin f).nvm = s.nvm := rfl
@[simp] theorem State.updTwin_slate (f) : (s.updTwin f).slate = s.slate := rfl
@[simp] theorem State.updTwin_enc (f) : (s.updTwin f).enc = s.enc := rfl
@[simp] theorem State.updTwin_est (f) : (s.updTwin f).est = s.est := rfl
@[simp] theorem State.updTwin_axis (f) : (s.updTwin f).axis = s.axis := rfl
@[simp] theorem State.updTwin_trig (f) : (s.updTwin f).trig = s.trig := rfl
@[simp] theorem State.updTwin_cam (f) : (s.updTwin f).cam = s.cam := rfl
@[simp] theorem State.updTwin_vis (f) : (s.updTwin f).vis = s.vis := rfl
@[simp] theorem State.updTwin_loop (f) : (s.updTwin f).loop = s.loop := rfl
@[simp] theorem State.updTwin_twin (f) : (s.updTwin f).twin = f s.twin := rfl
@[simp] theorem State.updTwin_dram (f) : (s.updTwin f).dram = s.dram := rfl
@[simp] theorem State.updTwin_dma (f) : (s.updTwin f).dma = s.dma := rfl
@[simp] theorem State.updTwin_pwr (f) : (s.updTwin f).pwr = s.pwr := rfl
@[simp] theorem State.updTwin_health (f) : (s.updTwin f).health = s.health := rfl
@[simp] theorem State.updTwin_log (f) : (s.updTwin f).log = s.log := rfl
@[simp] theorem State.updTwin_hostCore (f) : (s.updTwin f).hostCore = s.hostCore := rfl

@[simp] theorem State.updDram_pending (f) : (s.updDram f).pending = s.pending := rfl
@[simp] theorem State.updDram_free (f) : (s.updDram f).free = s.free := rfl
@[simp] theorem State.updDram_host (f) : (s.updDram f).host = s.host := rfl
@[simp] theorem State.updDram_boot (f) : (s.updDram f).boot = s.boot := rfl
@[simp] theorem State.updDram_fuse (f) : (s.updDram f).fuse = s.fuse := rfl
@[simp] theorem State.updDram_time (f) : (s.updDram f).time = s.time := rfl
@[simp] theorem State.updDram_geo (f) : (s.updDram f).geo = s.geo := rfl
@[simp] theorem State.updDram_bat (f) : (s.updDram f).bat = s.bat := rfl
@[simp] theorem State.updDram_fire (f) : (s.updDram f).fire = s.fire := rfl
@[simp] theorem State.updDram_rlConfig (f) : (s.updDram f).rlConfig = s.rlConfig := rfl
@[simp] theorem State.updDram_port (f) : (s.updDram f).port = s.port := rfl
@[simp] theorem State.updDram_head (f) : (s.updDram f).head = s.head := rfl
@[simp] theorem State.updDram_cal (f) : (s.updDram f).cal = s.cal := rfl
@[simp] theorem State.updDram_nvm (f) : (s.updDram f).nvm = s.nvm := rfl
@[simp] theorem State.updDram_slate (f) : (s.updDram f).slate = s.slate := rfl
@[simp] theorem State.updDram_enc (f) : (s.updDram f).enc = s.enc := rfl
@[simp] theorem State.updDram_est (f) : (s.updDram f).est = s.est := rfl
@[simp] theorem State.updDram_axis (f) : (s.updDram f).axis = s.axis := rfl
@[simp] theorem State.updDram_trig (f) : (s.updDram f).trig = s.trig := rfl
@[simp] theorem State.updDram_cam (f) : (s.updDram f).cam = s.cam := rfl
@[simp] theorem State.updDram_vis (f) : (s.updDram f).vis = s.vis := rfl
@[simp] theorem State.updDram_loop (f) : (s.updDram f).loop = s.loop := rfl
@[simp] theorem State.updDram_twin (f) : (s.updDram f).twin = s.twin := rfl
@[simp] theorem State.updDram_dram (f) : (s.updDram f).dram = f s.dram := rfl
@[simp] theorem State.updDram_dma (f) : (s.updDram f).dma = s.dma := rfl
@[simp] theorem State.updDram_pwr (f) : (s.updDram f).pwr = s.pwr := rfl
@[simp] theorem State.updDram_health (f) : (s.updDram f).health = s.health := rfl
@[simp] theorem State.updDram_log (f) : (s.updDram f).log = s.log := rfl
@[simp] theorem State.updDram_hostCore (f) : (s.updDram f).hostCore = s.hostCore := rfl

@[simp] theorem State.updDmas_pending (f) : (s.updDmas f).pending = s.pending := rfl
@[simp] theorem State.updDmas_free (f) : (s.updDmas f).free = s.free := rfl
@[simp] theorem State.updDmas_host (f) : (s.updDmas f).host = s.host := rfl
@[simp] theorem State.updDmas_boot (f) : (s.updDmas f).boot = s.boot := rfl
@[simp] theorem State.updDmas_fuse (f) : (s.updDmas f).fuse = s.fuse := rfl
@[simp] theorem State.updDmas_time (f) : (s.updDmas f).time = s.time := rfl
@[simp] theorem State.updDmas_geo (f) : (s.updDmas f).geo = s.geo := rfl
@[simp] theorem State.updDmas_bat (f) : (s.updDmas f).bat = s.bat := rfl
@[simp] theorem State.updDmas_fire (f) : (s.updDmas f).fire = s.fire := rfl
@[simp] theorem State.updDmas_rlConfig (f) : (s.updDmas f).rlConfig = s.rlConfig := rfl
@[simp] theorem State.updDmas_port (f) : (s.updDmas f).port = s.port := rfl
@[simp] theorem State.updDmas_head (f) : (s.updDmas f).head = s.head := rfl
@[simp] theorem State.updDmas_cal (f) : (s.updDmas f).cal = s.cal := rfl
@[simp] theorem State.updDmas_nvm (f) : (s.updDmas f).nvm = s.nvm := rfl
@[simp] theorem State.updDmas_slate (f) : (s.updDmas f).slate = s.slate := rfl
@[simp] theorem State.updDmas_enc (f) : (s.updDmas f).enc = s.enc := rfl
@[simp] theorem State.updDmas_est (f) : (s.updDmas f).est = s.est := rfl
@[simp] theorem State.updDmas_axis (f) : (s.updDmas f).axis = s.axis := rfl
@[simp] theorem State.updDmas_trig (f) : (s.updDmas f).trig = s.trig := rfl
@[simp] theorem State.updDmas_cam (f) : (s.updDmas f).cam = s.cam := rfl
@[simp] theorem State.updDmas_vis (f) : (s.updDmas f).vis = s.vis := rfl
@[simp] theorem State.updDmas_loop (f) : (s.updDmas f).loop = s.loop := rfl
@[simp] theorem State.updDmas_twin (f) : (s.updDmas f).twin = s.twin := rfl
@[simp] theorem State.updDmas_dram (f) : (s.updDmas f).dram = s.dram := rfl
@[simp] theorem State.updDmas_dma (f) : (s.updDmas f).dma = f s.dma := rfl
@[simp] theorem State.updDmas_pwr (f) : (s.updDmas f).pwr = s.pwr := rfl
@[simp] theorem State.updDmas_health (f) : (s.updDmas f).health = s.health := rfl
@[simp] theorem State.updDmas_log (f) : (s.updDmas f).log = s.log := rfl
@[simp] theorem State.updDmas_hostCore (f) : (s.updDmas f).hostCore = s.hostCore := rfl

@[simp] theorem State.updPwr_pending (f) : (s.updPwr f).pending = s.pending := rfl
@[simp] theorem State.updPwr_free (f) : (s.updPwr f).free = s.free := rfl
@[simp] theorem State.updPwr_host (f) : (s.updPwr f).host = s.host := rfl
@[simp] theorem State.updPwr_boot (f) : (s.updPwr f).boot = s.boot := rfl
@[simp] theorem State.updPwr_fuse (f) : (s.updPwr f).fuse = s.fuse := rfl
@[simp] theorem State.updPwr_time (f) : (s.updPwr f).time = s.time := rfl
@[simp] theorem State.updPwr_geo (f) : (s.updPwr f).geo = s.geo := rfl
@[simp] theorem State.updPwr_bat (f) : (s.updPwr f).bat = s.bat := rfl
@[simp] theorem State.updPwr_fire (f) : (s.updPwr f).fire = s.fire := rfl
@[simp] theorem State.updPwr_rlConfig (f) : (s.updPwr f).rlConfig = s.rlConfig := rfl
@[simp] theorem State.updPwr_port (f) : (s.updPwr f).port = s.port := rfl
@[simp] theorem State.updPwr_head (f) : (s.updPwr f).head = s.head := rfl
@[simp] theorem State.updPwr_cal (f) : (s.updPwr f).cal = s.cal := rfl
@[simp] theorem State.updPwr_nvm (f) : (s.updPwr f).nvm = s.nvm := rfl
@[simp] theorem State.updPwr_slate (f) : (s.updPwr f).slate = s.slate := rfl
@[simp] theorem State.updPwr_enc (f) : (s.updPwr f).enc = s.enc := rfl
@[simp] theorem State.updPwr_est (f) : (s.updPwr f).est = s.est := rfl
@[simp] theorem State.updPwr_axis (f) : (s.updPwr f).axis = s.axis := rfl
@[simp] theorem State.updPwr_trig (f) : (s.updPwr f).trig = s.trig := rfl
@[simp] theorem State.updPwr_cam (f) : (s.updPwr f).cam = s.cam := rfl
@[simp] theorem State.updPwr_vis (f) : (s.updPwr f).vis = s.vis := rfl
@[simp] theorem State.updPwr_loop (f) : (s.updPwr f).loop = s.loop := rfl
@[simp] theorem State.updPwr_twin (f) : (s.updPwr f).twin = s.twin := rfl
@[simp] theorem State.updPwr_dram (f) : (s.updPwr f).dram = s.dram := rfl
@[simp] theorem State.updPwr_dma (f) : (s.updPwr f).dma = s.dma := rfl
@[simp] theorem State.updPwr_pwr (f) : (s.updPwr f).pwr = f s.pwr := rfl
@[simp] theorem State.updPwr_health (f) : (s.updPwr f).health = s.health := rfl
@[simp] theorem State.updPwr_log (f) : (s.updPwr f).log = s.log := rfl
@[simp] theorem State.updPwr_hostCore (f) : (s.updPwr f).hostCore = s.hostCore := rfl

@[simp] theorem State.updHealth_pending (f) : (s.updHealth f).pending = s.pending := rfl
@[simp] theorem State.updHealth_free (f) : (s.updHealth f).free = s.free := rfl
@[simp] theorem State.updHealth_host (f) : (s.updHealth f).host = s.host := rfl
@[simp] theorem State.updHealth_boot (f) : (s.updHealth f).boot = s.boot := rfl
@[simp] theorem State.updHealth_fuse (f) : (s.updHealth f).fuse = s.fuse := rfl
@[simp] theorem State.updHealth_time (f) : (s.updHealth f).time = s.time := rfl
@[simp] theorem State.updHealth_geo (f) : (s.updHealth f).geo = s.geo := rfl
@[simp] theorem State.updHealth_bat (f) : (s.updHealth f).bat = s.bat := rfl
@[simp] theorem State.updHealth_fire (f) : (s.updHealth f).fire = s.fire := rfl
@[simp] theorem State.updHealth_rlConfig (f) : (s.updHealth f).rlConfig = s.rlConfig := rfl
@[simp] theorem State.updHealth_port (f) : (s.updHealth f).port = s.port := rfl
@[simp] theorem State.updHealth_head (f) : (s.updHealth f).head = s.head := rfl
@[simp] theorem State.updHealth_cal (f) : (s.updHealth f).cal = s.cal := rfl
@[simp] theorem State.updHealth_nvm (f) : (s.updHealth f).nvm = s.nvm := rfl
@[simp] theorem State.updHealth_slate (f) : (s.updHealth f).slate = s.slate := rfl
@[simp] theorem State.updHealth_enc (f) : (s.updHealth f).enc = s.enc := rfl
@[simp] theorem State.updHealth_est (f) : (s.updHealth f).est = s.est := rfl
@[simp] theorem State.updHealth_axis (f) : (s.updHealth f).axis = s.axis := rfl
@[simp] theorem State.updHealth_trig (f) : (s.updHealth f).trig = s.trig := rfl
@[simp] theorem State.updHealth_cam (f) : (s.updHealth f).cam = s.cam := rfl
@[simp] theorem State.updHealth_vis (f) : (s.updHealth f).vis = s.vis := rfl
@[simp] theorem State.updHealth_loop (f) : (s.updHealth f).loop = s.loop := rfl
@[simp] theorem State.updHealth_twin (f) : (s.updHealth f).twin = s.twin := rfl
@[simp] theorem State.updHealth_dram (f) : (s.updHealth f).dram = s.dram := rfl
@[simp] theorem State.updHealth_dma (f) : (s.updHealth f).dma = s.dma := rfl
@[simp] theorem State.updHealth_pwr (f) : (s.updHealth f).pwr = s.pwr := rfl
@[simp] theorem State.updHealth_health (f) : (s.updHealth f).health = f s.health := rfl
@[simp] theorem State.updHealth_log (f) : (s.updHealth f).log = s.log := rfl
@[simp] theorem State.updHealth_hostCore (f) : (s.updHealth f).hostCore = s.hostCore := rfl

@[simp] theorem State.updLog_pending (f) : (s.updLog f).pending = s.pending := rfl
@[simp] theorem State.updLog_free (f) : (s.updLog f).free = s.free := rfl
@[simp] theorem State.updLog_host (f) : (s.updLog f).host = s.host := rfl
@[simp] theorem State.updLog_boot (f) : (s.updLog f).boot = s.boot := rfl
@[simp] theorem State.updLog_fuse (f) : (s.updLog f).fuse = s.fuse := rfl
@[simp] theorem State.updLog_time (f) : (s.updLog f).time = s.time := rfl
@[simp] theorem State.updLog_geo (f) : (s.updLog f).geo = s.geo := rfl
@[simp] theorem State.updLog_bat (f) : (s.updLog f).bat = s.bat := rfl
@[simp] theorem State.updLog_fire (f) : (s.updLog f).fire = s.fire := rfl
@[simp] theorem State.updLog_rlConfig (f) : (s.updLog f).rlConfig = s.rlConfig := rfl
@[simp] theorem State.updLog_port (f) : (s.updLog f).port = s.port := rfl
@[simp] theorem State.updLog_head (f) : (s.updLog f).head = s.head := rfl
@[simp] theorem State.updLog_cal (f) : (s.updLog f).cal = s.cal := rfl
@[simp] theorem State.updLog_nvm (f) : (s.updLog f).nvm = s.nvm := rfl
@[simp] theorem State.updLog_slate (f) : (s.updLog f).slate = s.slate := rfl
@[simp] theorem State.updLog_enc (f) : (s.updLog f).enc = s.enc := rfl
@[simp] theorem State.updLog_est (f) : (s.updLog f).est = s.est := rfl
@[simp] theorem State.updLog_axis (f) : (s.updLog f).axis = s.axis := rfl
@[simp] theorem State.updLog_trig (f) : (s.updLog f).trig = s.trig := rfl
@[simp] theorem State.updLog_cam (f) : (s.updLog f).cam = s.cam := rfl
@[simp] theorem State.updLog_vis (f) : (s.updLog f).vis = s.vis := rfl
@[simp] theorem State.updLog_loop (f) : (s.updLog f).loop = s.loop := rfl
@[simp] theorem State.updLog_twin (f) : (s.updLog f).twin = s.twin := rfl
@[simp] theorem State.updLog_dram (f) : (s.updLog f).dram = s.dram := rfl
@[simp] theorem State.updLog_dma (f) : (s.updLog f).dma = s.dma := rfl
@[simp] theorem State.updLog_pwr (f) : (s.updLog f).pwr = s.pwr := rfl
@[simp] theorem State.updLog_health (f) : (s.updLog f).health = s.health := rfl
@[simp] theorem State.updLog_log (f) : (s.updLog f).log = f s.log := rfl
@[simp] theorem State.updLog_hostCore (f) : (s.updLog f).hostCore = s.hostCore := rfl

@[simp] theorem State.updPort_pending (n f) : (s.updPort n f).pending = s.pending := rfl
@[simp] theorem State.updPort_free (n f) : (s.updPort n f).free = s.free := rfl
@[simp] theorem State.updPort_host (n f) : (s.updPort n f).host = s.host := rfl
@[simp] theorem State.updPort_boot (n f) : (s.updPort n f).boot = s.boot := rfl
@[simp] theorem State.updPort_fuse (n f) : (s.updPort n f).fuse = s.fuse := rfl
@[simp] theorem State.updPort_time (n f) : (s.updPort n f).time = s.time := rfl
@[simp] theorem State.updPort_geo (n f) : (s.updPort n f).geo = s.geo := rfl
@[simp] theorem State.updPort_bat (n f) : (s.updPort n f).bat = s.bat := rfl
@[simp] theorem State.updPort_fire (n f) : (s.updPort n f).fire = s.fire := rfl
@[simp] theorem State.updPort_rlConfig (n f) : (s.updPort n f).rlConfig = s.rlConfig := rfl
@[simp] theorem State.updPort_head (n f) : (s.updPort n f).head = s.head := rfl
@[simp] theorem State.updPort_cal (n f) : (s.updPort n f).cal = s.cal := rfl
@[simp] theorem State.updPort_nvm (n f) : (s.updPort n f).nvm = s.nvm := rfl
@[simp] theorem State.updPort_slate (n f) : (s.updPort n f).slate = s.slate := rfl
@[simp] theorem State.updPort_enc (n f) : (s.updPort n f).enc = s.enc := rfl
@[simp] theorem State.updPort_est (n f) : (s.updPort n f).est = s.est := rfl
@[simp] theorem State.updPort_axis (n f) : (s.updPort n f).axis = s.axis := rfl
@[simp] theorem State.updPort_trig (n f) : (s.updPort n f).trig = s.trig := rfl
@[simp] theorem State.updPort_cam (n f) : (s.updPort n f).cam = s.cam := rfl
@[simp] theorem State.updPort_vis (n f) : (s.updPort n f).vis = s.vis := rfl
@[simp] theorem State.updPort_loop (n f) : (s.updPort n f).loop = s.loop := rfl
@[simp] theorem State.updPort_twin (n f) : (s.updPort n f).twin = s.twin := rfl
@[simp] theorem State.updPort_dram (n f) : (s.updPort n f).dram = s.dram := rfl
@[simp] theorem State.updPort_dma (n f) : (s.updPort n f).dma = s.dma := rfl
@[simp] theorem State.updPort_pwr (n f) : (s.updPort n f).pwr = s.pwr := rfl
@[simp] theorem State.updPort_health (n f) : (s.updPort n f).health = s.health := rfl
@[simp] theorem State.updPort_log (n f) : (s.updPort n f).log = s.log := rfl
@[simp] theorem State.updPort_hostCore (n f) : (s.updPort n f).hostCore = s.hostCore := rfl
@[simp] theorem State.portN_updPort_same (n f) : (s.updPort n f).portN n = f (s.portN n) := SMap.get_upd_same _ _ _ _
theorem State.portN_updPort_ne (n m f) (h : m ≠ n) : (s.updPort n f).portN m = s.portN m := SMap.get_upd_ne _ _ _ h
@[simp] theorem State.portN_updHost (n f) : (s.updHost f).portN n = s.portN n := rfl
@[simp] theorem State.portN_updBoot (n f) : (s.updBoot f).portN n = s.portN n := rfl
@[simp] theorem State.portN_updTime (n f) : (s.updTime f).portN n = s.portN n := rfl
@[simp] theorem State.portN_updGeo (n f) : (s.updGeo f).portN n = s.portN n := rfl
@[simp] theorem State.portN_updBat (n f) : (s.updBat f).portN n = s.portN n := rfl
@[simp] theorem State.portN_updFire (n f) : (s.updFire f).portN n = s.portN n := rfl
@[simp] theorem State.portN_updHeads (n f) : (s.updHeads f).portN n = s.portN n := rfl
@[simp] theorem State.portN_updCal (n f) : (s.updCal f).portN n = s.portN n := rfl
@[simp] theorem State.portN_updNvm (n f) : (s.updNvm f).portN n = s.portN n := rfl
@[simp] theorem State.portN_updSlate (n f) : (s.updSlate f).portN n = s.portN n := rfl
@[simp] theorem State.portN_updEncs (n f) : (s.updEncs f).portN n = s.portN n := rfl
@[simp] theorem State.portN_updEst (n f) : (s.updEst f).portN n = s.portN n := rfl
@[simp] theorem State.portN_updAxes (n f) : (s.updAxes f).portN n = s.portN n := rfl
@[simp] theorem State.portN_updTrigs (n f) : (s.updTrigs f).portN n = s.portN n := rfl
@[simp] theorem State.portN_updCams (n f) : (s.updCams f).portN n = s.portN n := rfl
@[simp] theorem State.portN_updVis (n f) : (s.updVis f).portN n = s.portN n := rfl
@[simp] theorem State.portN_updLoop (n f) : (s.updLoop f).portN n = s.portN n := rfl
@[simp] theorem State.portN_updTwin (n f) : (s.updTwin f).portN n = s.portN n := rfl
@[simp] theorem State.portN_updDram (n f) : (s.updDram f).portN n = s.portN n := rfl
@[simp] theorem State.portN_updDmas (n f) : (s.updDmas f).portN n = s.portN n := rfl
@[simp] theorem State.portN_updPwr (n f) : (s.updPwr f).portN n = s.portN n := rfl
@[simp] theorem State.portN_updHealth (n f) : (s.updHealth f).portN n = s.portN n := rfl
@[simp] theorem State.portN_updLog (n f) : (s.updLog f).portN n = s.portN n := rfl
@[simp] theorem State.portN_updHead (n m f) : (s.updHead m f).portN n = s.portN n := rfl
@[simp] theorem State.portN_updEnc (n m f) : (s.updEnc m f).portN n = s.portN n := rfl
@[simp] theorem State.portN_updAxis (n m f) : (s.updAxis m f).portN n = s.portN n := rfl
@[simp] theorem State.portN_updTrig (n m f) : (s.updTrig m f).portN n = s.portN n := rfl
@[simp] theorem State.portN_updCam (n m f) : (s.updCam m f).portN n = s.portN n := rfl
@[simp] theorem State.portN_updDma (n m f) : (s.updDma m f).portN n = s.portN n := rfl

@[simp] theorem State.updHead_pending (n f) : (s.updHead n f).pending = s.pending := rfl
@[simp] theorem State.updHead_free (n f) : (s.updHead n f).free = s.free := rfl
@[simp] theorem State.updHead_host (n f) : (s.updHead n f).host = s.host := rfl
@[simp] theorem State.updHead_boot (n f) : (s.updHead n f).boot = s.boot := rfl
@[simp] theorem State.updHead_fuse (n f) : (s.updHead n f).fuse = s.fuse := rfl
@[simp] theorem State.updHead_time (n f) : (s.updHead n f).time = s.time := rfl
@[simp] theorem State.updHead_geo (n f) : (s.updHead n f).geo = s.geo := rfl
@[simp] theorem State.updHead_bat (n f) : (s.updHead n f).bat = s.bat := rfl
@[simp] theorem State.updHead_fire (n f) : (s.updHead n f).fire = s.fire := rfl
@[simp] theorem State.updHead_rlConfig (n f) : (s.updHead n f).rlConfig = s.rlConfig := rfl
@[simp] theorem State.updHead_port (n f) : (s.updHead n f).port = s.port := rfl
@[simp] theorem State.updHead_cal (n f) : (s.updHead n f).cal = s.cal := rfl
@[simp] theorem State.updHead_nvm (n f) : (s.updHead n f).nvm = s.nvm := rfl
@[simp] theorem State.updHead_slate (n f) : (s.updHead n f).slate = s.slate := rfl
@[simp] theorem State.updHead_enc (n f) : (s.updHead n f).enc = s.enc := rfl
@[simp] theorem State.updHead_est (n f) : (s.updHead n f).est = s.est := rfl
@[simp] theorem State.updHead_axis (n f) : (s.updHead n f).axis = s.axis := rfl
@[simp] theorem State.updHead_trig (n f) : (s.updHead n f).trig = s.trig := rfl
@[simp] theorem State.updHead_cam (n f) : (s.updHead n f).cam = s.cam := rfl
@[simp] theorem State.updHead_vis (n f) : (s.updHead n f).vis = s.vis := rfl
@[simp] theorem State.updHead_loop (n f) : (s.updHead n f).loop = s.loop := rfl
@[simp] theorem State.updHead_twin (n f) : (s.updHead n f).twin = s.twin := rfl
@[simp] theorem State.updHead_dram (n f) : (s.updHead n f).dram = s.dram := rfl
@[simp] theorem State.updHead_dma (n f) : (s.updHead n f).dma = s.dma := rfl
@[simp] theorem State.updHead_pwr (n f) : (s.updHead n f).pwr = s.pwr := rfl
@[simp] theorem State.updHead_health (n f) : (s.updHead n f).health = s.health := rfl
@[simp] theorem State.updHead_log (n f) : (s.updHead n f).log = s.log := rfl
@[simp] theorem State.updHead_hostCore (n f) : (s.updHead n f).hostCore = s.hostCore := rfl
@[simp] theorem State.headN_updHead_same (n f) : (s.updHead n f).headN n = f (s.headN n) := SMap.get_upd_same _ _ _ _
theorem State.headN_updHead_ne (n m f) (h : m ≠ n) : (s.updHead n f).headN m = s.headN m := SMap.get_upd_ne _ _ _ h
@[simp] theorem State.headN_updHost (n f) : (s.updHost f).headN n = s.headN n := rfl
@[simp] theorem State.headN_updBoot (n f) : (s.updBoot f).headN n = s.headN n := rfl
@[simp] theorem State.headN_updTime (n f) : (s.updTime f).headN n = s.headN n := rfl
@[simp] theorem State.headN_updGeo (n f) : (s.updGeo f).headN n = s.headN n := rfl
@[simp] theorem State.headN_updBat (n f) : (s.updBat f).headN n = s.headN n := rfl
@[simp] theorem State.headN_updFire (n f) : (s.updFire f).headN n = s.headN n := rfl
@[simp] theorem State.headN_updPorts (n f) : (s.updPorts f).headN n = s.headN n := rfl
@[simp] theorem State.headN_updCal (n f) : (s.updCal f).headN n = s.headN n := rfl
@[simp] theorem State.headN_updNvm (n f) : (s.updNvm f).headN n = s.headN n := rfl
@[simp] theorem State.headN_updSlate (n f) : (s.updSlate f).headN n = s.headN n := rfl
@[simp] theorem State.headN_updEncs (n f) : (s.updEncs f).headN n = s.headN n := rfl
@[simp] theorem State.headN_updEst (n f) : (s.updEst f).headN n = s.headN n := rfl
@[simp] theorem State.headN_updAxes (n f) : (s.updAxes f).headN n = s.headN n := rfl
@[simp] theorem State.headN_updTrigs (n f) : (s.updTrigs f).headN n = s.headN n := rfl
@[simp] theorem State.headN_updCams (n f) : (s.updCams f).headN n = s.headN n := rfl
@[simp] theorem State.headN_updVis (n f) : (s.updVis f).headN n = s.headN n := rfl
@[simp] theorem State.headN_updLoop (n f) : (s.updLoop f).headN n = s.headN n := rfl
@[simp] theorem State.headN_updTwin (n f) : (s.updTwin f).headN n = s.headN n := rfl
@[simp] theorem State.headN_updDram (n f) : (s.updDram f).headN n = s.headN n := rfl
@[simp] theorem State.headN_updDmas (n f) : (s.updDmas f).headN n = s.headN n := rfl
@[simp] theorem State.headN_updPwr (n f) : (s.updPwr f).headN n = s.headN n := rfl
@[simp] theorem State.headN_updHealth (n f) : (s.updHealth f).headN n = s.headN n := rfl
@[simp] theorem State.headN_updLog (n f) : (s.updLog f).headN n = s.headN n := rfl
@[simp] theorem State.headN_updPort (n m f) : (s.updPort m f).headN n = s.headN n := rfl
@[simp] theorem State.headN_updEnc (n m f) : (s.updEnc m f).headN n = s.headN n := rfl
@[simp] theorem State.headN_updAxis (n m f) : (s.updAxis m f).headN n = s.headN n := rfl
@[simp] theorem State.headN_updTrig (n m f) : (s.updTrig m f).headN n = s.headN n := rfl
@[simp] theorem State.headN_updCam (n m f) : (s.updCam m f).headN n = s.headN n := rfl
@[simp] theorem State.headN_updDma (n m f) : (s.updDma m f).headN n = s.headN n := rfl

@[simp] theorem State.updEnc_pending (n f) : (s.updEnc n f).pending = s.pending := rfl
@[simp] theorem State.updEnc_free (n f) : (s.updEnc n f).free = s.free := rfl
@[simp] theorem State.updEnc_host (n f) : (s.updEnc n f).host = s.host := rfl
@[simp] theorem State.updEnc_boot (n f) : (s.updEnc n f).boot = s.boot := rfl
@[simp] theorem State.updEnc_fuse (n f) : (s.updEnc n f).fuse = s.fuse := rfl
@[simp] theorem State.updEnc_time (n f) : (s.updEnc n f).time = s.time := rfl
@[simp] theorem State.updEnc_geo (n f) : (s.updEnc n f).geo = s.geo := rfl
@[simp] theorem State.updEnc_bat (n f) : (s.updEnc n f).bat = s.bat := rfl
@[simp] theorem State.updEnc_fire (n f) : (s.updEnc n f).fire = s.fire := rfl
@[simp] theorem State.updEnc_rlConfig (n f) : (s.updEnc n f).rlConfig = s.rlConfig := rfl
@[simp] theorem State.updEnc_port (n f) : (s.updEnc n f).port = s.port := rfl
@[simp] theorem State.updEnc_head (n f) : (s.updEnc n f).head = s.head := rfl
@[simp] theorem State.updEnc_cal (n f) : (s.updEnc n f).cal = s.cal := rfl
@[simp] theorem State.updEnc_nvm (n f) : (s.updEnc n f).nvm = s.nvm := rfl
@[simp] theorem State.updEnc_slate (n f) : (s.updEnc n f).slate = s.slate := rfl
@[simp] theorem State.updEnc_est (n f) : (s.updEnc n f).est = s.est := rfl
@[simp] theorem State.updEnc_axis (n f) : (s.updEnc n f).axis = s.axis := rfl
@[simp] theorem State.updEnc_trig (n f) : (s.updEnc n f).trig = s.trig := rfl
@[simp] theorem State.updEnc_cam (n f) : (s.updEnc n f).cam = s.cam := rfl
@[simp] theorem State.updEnc_vis (n f) : (s.updEnc n f).vis = s.vis := rfl
@[simp] theorem State.updEnc_loop (n f) : (s.updEnc n f).loop = s.loop := rfl
@[simp] theorem State.updEnc_twin (n f) : (s.updEnc n f).twin = s.twin := rfl
@[simp] theorem State.updEnc_dram (n f) : (s.updEnc n f).dram = s.dram := rfl
@[simp] theorem State.updEnc_dma (n f) : (s.updEnc n f).dma = s.dma := rfl
@[simp] theorem State.updEnc_pwr (n f) : (s.updEnc n f).pwr = s.pwr := rfl
@[simp] theorem State.updEnc_health (n f) : (s.updEnc n f).health = s.health := rfl
@[simp] theorem State.updEnc_log (n f) : (s.updEnc n f).log = s.log := rfl
@[simp] theorem State.updEnc_hostCore (n f) : (s.updEnc n f).hostCore = s.hostCore := rfl
@[simp] theorem State.encN_updEnc_same (n f) : (s.updEnc n f).encN n = f (s.encN n) := SMap.get_upd_same _ _ _ _
theorem State.encN_updEnc_ne (n m f) (h : m ≠ n) : (s.updEnc n f).encN m = s.encN m := SMap.get_upd_ne _ _ _ h
@[simp] theorem State.encN_updHost (n f) : (s.updHost f).encN n = s.encN n := rfl
@[simp] theorem State.encN_updBoot (n f) : (s.updBoot f).encN n = s.encN n := rfl
@[simp] theorem State.encN_updTime (n f) : (s.updTime f).encN n = s.encN n := rfl
@[simp] theorem State.encN_updGeo (n f) : (s.updGeo f).encN n = s.encN n := rfl
@[simp] theorem State.encN_updBat (n f) : (s.updBat f).encN n = s.encN n := rfl
@[simp] theorem State.encN_updFire (n f) : (s.updFire f).encN n = s.encN n := rfl
@[simp] theorem State.encN_updPorts (n f) : (s.updPorts f).encN n = s.encN n := rfl
@[simp] theorem State.encN_updHeads (n f) : (s.updHeads f).encN n = s.encN n := rfl
@[simp] theorem State.encN_updCal (n f) : (s.updCal f).encN n = s.encN n := rfl
@[simp] theorem State.encN_updNvm (n f) : (s.updNvm f).encN n = s.encN n := rfl
@[simp] theorem State.encN_updSlate (n f) : (s.updSlate f).encN n = s.encN n := rfl
@[simp] theorem State.encN_updEst (n f) : (s.updEst f).encN n = s.encN n := rfl
@[simp] theorem State.encN_updAxes (n f) : (s.updAxes f).encN n = s.encN n := rfl
@[simp] theorem State.encN_updTrigs (n f) : (s.updTrigs f).encN n = s.encN n := rfl
@[simp] theorem State.encN_updCams (n f) : (s.updCams f).encN n = s.encN n := rfl
@[simp] theorem State.encN_updVis (n f) : (s.updVis f).encN n = s.encN n := rfl
@[simp] theorem State.encN_updLoop (n f) : (s.updLoop f).encN n = s.encN n := rfl
@[simp] theorem State.encN_updTwin (n f) : (s.updTwin f).encN n = s.encN n := rfl
@[simp] theorem State.encN_updDram (n f) : (s.updDram f).encN n = s.encN n := rfl
@[simp] theorem State.encN_updDmas (n f) : (s.updDmas f).encN n = s.encN n := rfl
@[simp] theorem State.encN_updPwr (n f) : (s.updPwr f).encN n = s.encN n := rfl
@[simp] theorem State.encN_updHealth (n f) : (s.updHealth f).encN n = s.encN n := rfl
@[simp] theorem State.encN_updLog (n f) : (s.updLog f).encN n = s.encN n := rfl
@[simp] theorem State.encN_updPort (n m f) : (s.updPort m f).encN n = s.encN n := rfl
@[simp] theorem State.encN_updHead (n m f) : (s.updHead m f).encN n = s.encN n := rfl
@[simp] theorem State.encN_updAxis (n m f) : (s.updAxis m f).encN n = s.encN n := rfl
@[simp] theorem State.encN_updTrig (n m f) : (s.updTrig m f).encN n = s.encN n := rfl
@[simp] theorem State.encN_updCam (n m f) : (s.updCam m f).encN n = s.encN n := rfl
@[simp] theorem State.encN_updDma (n m f) : (s.updDma m f).encN n = s.encN n := rfl

@[simp] theorem State.updAxis_pending (n f) : (s.updAxis n f).pending = s.pending := rfl
@[simp] theorem State.updAxis_free (n f) : (s.updAxis n f).free = s.free := rfl
@[simp] theorem State.updAxis_host (n f) : (s.updAxis n f).host = s.host := rfl
@[simp] theorem State.updAxis_boot (n f) : (s.updAxis n f).boot = s.boot := rfl
@[simp] theorem State.updAxis_fuse (n f) : (s.updAxis n f).fuse = s.fuse := rfl
@[simp] theorem State.updAxis_time (n f) : (s.updAxis n f).time = s.time := rfl
@[simp] theorem State.updAxis_geo (n f) : (s.updAxis n f).geo = s.geo := rfl
@[simp] theorem State.updAxis_bat (n f) : (s.updAxis n f).bat = s.bat := rfl
@[simp] theorem State.updAxis_fire (n f) : (s.updAxis n f).fire = s.fire := rfl
@[simp] theorem State.updAxis_rlConfig (n f) : (s.updAxis n f).rlConfig = s.rlConfig := rfl
@[simp] theorem State.updAxis_port (n f) : (s.updAxis n f).port = s.port := rfl
@[simp] theorem State.updAxis_head (n f) : (s.updAxis n f).head = s.head := rfl
@[simp] theorem State.updAxis_cal (n f) : (s.updAxis n f).cal = s.cal := rfl
@[simp] theorem State.updAxis_nvm (n f) : (s.updAxis n f).nvm = s.nvm := rfl
@[simp] theorem State.updAxis_slate (n f) : (s.updAxis n f).slate = s.slate := rfl
@[simp] theorem State.updAxis_enc (n f) : (s.updAxis n f).enc = s.enc := rfl
@[simp] theorem State.updAxis_est (n f) : (s.updAxis n f).est = s.est := rfl
@[simp] theorem State.updAxis_trig (n f) : (s.updAxis n f).trig = s.trig := rfl
@[simp] theorem State.updAxis_cam (n f) : (s.updAxis n f).cam = s.cam := rfl
@[simp] theorem State.updAxis_vis (n f) : (s.updAxis n f).vis = s.vis := rfl
@[simp] theorem State.updAxis_loop (n f) : (s.updAxis n f).loop = s.loop := rfl
@[simp] theorem State.updAxis_twin (n f) : (s.updAxis n f).twin = s.twin := rfl
@[simp] theorem State.updAxis_dram (n f) : (s.updAxis n f).dram = s.dram := rfl
@[simp] theorem State.updAxis_dma (n f) : (s.updAxis n f).dma = s.dma := rfl
@[simp] theorem State.updAxis_pwr (n f) : (s.updAxis n f).pwr = s.pwr := rfl
@[simp] theorem State.updAxis_health (n f) : (s.updAxis n f).health = s.health := rfl
@[simp] theorem State.updAxis_log (n f) : (s.updAxis n f).log = s.log := rfl
@[simp] theorem State.updAxis_hostCore (n f) : (s.updAxis n f).hostCore = s.hostCore := rfl
@[simp] theorem State.axisN_updAxis_same (n f) : (s.updAxis n f).axisN n = f (s.axisN n) := SMap.get_upd_same _ _ _ _
theorem State.axisN_updAxis_ne (n m f) (h : m ≠ n) : (s.updAxis n f).axisN m = s.axisN m := SMap.get_upd_ne _ _ _ h
@[simp] theorem State.axisN_updHost (n f) : (s.updHost f).axisN n = s.axisN n := rfl
@[simp] theorem State.axisN_updBoot (n f) : (s.updBoot f).axisN n = s.axisN n := rfl
@[simp] theorem State.axisN_updTime (n f) : (s.updTime f).axisN n = s.axisN n := rfl
@[simp] theorem State.axisN_updGeo (n f) : (s.updGeo f).axisN n = s.axisN n := rfl
@[simp] theorem State.axisN_updBat (n f) : (s.updBat f).axisN n = s.axisN n := rfl
@[simp] theorem State.axisN_updFire (n f) : (s.updFire f).axisN n = s.axisN n := rfl
@[simp] theorem State.axisN_updPorts (n f) : (s.updPorts f).axisN n = s.axisN n := rfl
@[simp] theorem State.axisN_updHeads (n f) : (s.updHeads f).axisN n = s.axisN n := rfl
@[simp] theorem State.axisN_updCal (n f) : (s.updCal f).axisN n = s.axisN n := rfl
@[simp] theorem State.axisN_updNvm (n f) : (s.updNvm f).axisN n = s.axisN n := rfl
@[simp] theorem State.axisN_updSlate (n f) : (s.updSlate f).axisN n = s.axisN n := rfl
@[simp] theorem State.axisN_updEncs (n f) : (s.updEncs f).axisN n = s.axisN n := rfl
@[simp] theorem State.axisN_updEst (n f) : (s.updEst f).axisN n = s.axisN n := rfl
@[simp] theorem State.axisN_updTrigs (n f) : (s.updTrigs f).axisN n = s.axisN n := rfl
@[simp] theorem State.axisN_updCams (n f) : (s.updCams f).axisN n = s.axisN n := rfl
@[simp] theorem State.axisN_updVis (n f) : (s.updVis f).axisN n = s.axisN n := rfl
@[simp] theorem State.axisN_updLoop (n f) : (s.updLoop f).axisN n = s.axisN n := rfl
@[simp] theorem State.axisN_updTwin (n f) : (s.updTwin f).axisN n = s.axisN n := rfl
@[simp] theorem State.axisN_updDram (n f) : (s.updDram f).axisN n = s.axisN n := rfl
@[simp] theorem State.axisN_updDmas (n f) : (s.updDmas f).axisN n = s.axisN n := rfl
@[simp] theorem State.axisN_updPwr (n f) : (s.updPwr f).axisN n = s.axisN n := rfl
@[simp] theorem State.axisN_updHealth (n f) : (s.updHealth f).axisN n = s.axisN n := rfl
@[simp] theorem State.axisN_updLog (n f) : (s.updLog f).axisN n = s.axisN n := rfl
@[simp] theorem State.axisN_updPort (n m f) : (s.updPort m f).axisN n = s.axisN n := rfl
@[simp] theorem State.axisN_updHead (n m f) : (s.updHead m f).axisN n = s.axisN n := rfl
@[simp] theorem State.axisN_updEnc (n m f) : (s.updEnc m f).axisN n = s.axisN n := rfl
@[simp] theorem State.axisN_updTrig (n m f) : (s.updTrig m f).axisN n = s.axisN n := rfl
@[simp] theorem State.axisN_updCam (n m f) : (s.updCam m f).axisN n = s.axisN n := rfl
@[simp] theorem State.axisN_updDma (n m f) : (s.updDma m f).axisN n = s.axisN n := rfl

@[simp] theorem State.updTrig_pending (n f) : (s.updTrig n f).pending = s.pending := rfl
@[simp] theorem State.updTrig_free (n f) : (s.updTrig n f).free = s.free := rfl
@[simp] theorem State.updTrig_host (n f) : (s.updTrig n f).host = s.host := rfl
@[simp] theorem State.updTrig_boot (n f) : (s.updTrig n f).boot = s.boot := rfl
@[simp] theorem State.updTrig_fuse (n f) : (s.updTrig n f).fuse = s.fuse := rfl
@[simp] theorem State.updTrig_time (n f) : (s.updTrig n f).time = s.time := rfl
@[simp] theorem State.updTrig_geo (n f) : (s.updTrig n f).geo = s.geo := rfl
@[simp] theorem State.updTrig_bat (n f) : (s.updTrig n f).bat = s.bat := rfl
@[simp] theorem State.updTrig_fire (n f) : (s.updTrig n f).fire = s.fire := rfl
@[simp] theorem State.updTrig_rlConfig (n f) : (s.updTrig n f).rlConfig = s.rlConfig := rfl
@[simp] theorem State.updTrig_port (n f) : (s.updTrig n f).port = s.port := rfl
@[simp] theorem State.updTrig_head (n f) : (s.updTrig n f).head = s.head := rfl
@[simp] theorem State.updTrig_cal (n f) : (s.updTrig n f).cal = s.cal := rfl
@[simp] theorem State.updTrig_nvm (n f) : (s.updTrig n f).nvm = s.nvm := rfl
@[simp] theorem State.updTrig_slate (n f) : (s.updTrig n f).slate = s.slate := rfl
@[simp] theorem State.updTrig_enc (n f) : (s.updTrig n f).enc = s.enc := rfl
@[simp] theorem State.updTrig_est (n f) : (s.updTrig n f).est = s.est := rfl
@[simp] theorem State.updTrig_axis (n f) : (s.updTrig n f).axis = s.axis := rfl
@[simp] theorem State.updTrig_cam (n f) : (s.updTrig n f).cam = s.cam := rfl
@[simp] theorem State.updTrig_vis (n f) : (s.updTrig n f).vis = s.vis := rfl
@[simp] theorem State.updTrig_loop (n f) : (s.updTrig n f).loop = s.loop := rfl
@[simp] theorem State.updTrig_twin (n f) : (s.updTrig n f).twin = s.twin := rfl
@[simp] theorem State.updTrig_dram (n f) : (s.updTrig n f).dram = s.dram := rfl
@[simp] theorem State.updTrig_dma (n f) : (s.updTrig n f).dma = s.dma := rfl
@[simp] theorem State.updTrig_pwr (n f) : (s.updTrig n f).pwr = s.pwr := rfl
@[simp] theorem State.updTrig_health (n f) : (s.updTrig n f).health = s.health := rfl
@[simp] theorem State.updTrig_log (n f) : (s.updTrig n f).log = s.log := rfl
@[simp] theorem State.updTrig_hostCore (n f) : (s.updTrig n f).hostCore = s.hostCore := rfl
@[simp] theorem State.trigN_updTrig_same (n f) : (s.updTrig n f).trigN n = f (s.trigN n) := SMap.get_upd_same _ _ _ _
theorem State.trigN_updTrig_ne (n m f) (h : m ≠ n) : (s.updTrig n f).trigN m = s.trigN m := SMap.get_upd_ne _ _ _ h
@[simp] theorem State.trigN_updHost (n f) : (s.updHost f).trigN n = s.trigN n := rfl
@[simp] theorem State.trigN_updBoot (n f) : (s.updBoot f).trigN n = s.trigN n := rfl
@[simp] theorem State.trigN_updTime (n f) : (s.updTime f).trigN n = s.trigN n := rfl
@[simp] theorem State.trigN_updGeo (n f) : (s.updGeo f).trigN n = s.trigN n := rfl
@[simp] theorem State.trigN_updBat (n f) : (s.updBat f).trigN n = s.trigN n := rfl
@[simp] theorem State.trigN_updFire (n f) : (s.updFire f).trigN n = s.trigN n := rfl
@[simp] theorem State.trigN_updPorts (n f) : (s.updPorts f).trigN n = s.trigN n := rfl
@[simp] theorem State.trigN_updHeads (n f) : (s.updHeads f).trigN n = s.trigN n := rfl
@[simp] theorem State.trigN_updCal (n f) : (s.updCal f).trigN n = s.trigN n := rfl
@[simp] theorem State.trigN_updNvm (n f) : (s.updNvm f).trigN n = s.trigN n := rfl
@[simp] theorem State.trigN_updSlate (n f) : (s.updSlate f).trigN n = s.trigN n := rfl
@[simp] theorem State.trigN_updEncs (n f) : (s.updEncs f).trigN n = s.trigN n := rfl
@[simp] theorem State.trigN_updEst (n f) : (s.updEst f).trigN n = s.trigN n := rfl
@[simp] theorem State.trigN_updAxes (n f) : (s.updAxes f).trigN n = s.trigN n := rfl
@[simp] theorem State.trigN_updCams (n f) : (s.updCams f).trigN n = s.trigN n := rfl
@[simp] theorem State.trigN_updVis (n f) : (s.updVis f).trigN n = s.trigN n := rfl
@[simp] theorem State.trigN_updLoop (n f) : (s.updLoop f).trigN n = s.trigN n := rfl
@[simp] theorem State.trigN_updTwin (n f) : (s.updTwin f).trigN n = s.trigN n := rfl
@[simp] theorem State.trigN_updDram (n f) : (s.updDram f).trigN n = s.trigN n := rfl
@[simp] theorem State.trigN_updDmas (n f) : (s.updDmas f).trigN n = s.trigN n := rfl
@[simp] theorem State.trigN_updPwr (n f) : (s.updPwr f).trigN n = s.trigN n := rfl
@[simp] theorem State.trigN_updHealth (n f) : (s.updHealth f).trigN n = s.trigN n := rfl
@[simp] theorem State.trigN_updLog (n f) : (s.updLog f).trigN n = s.trigN n := rfl
@[simp] theorem State.trigN_updPort (n m f) : (s.updPort m f).trigN n = s.trigN n := rfl
@[simp] theorem State.trigN_updHead (n m f) : (s.updHead m f).trigN n = s.trigN n := rfl
@[simp] theorem State.trigN_updEnc (n m f) : (s.updEnc m f).trigN n = s.trigN n := rfl
@[simp] theorem State.trigN_updAxis (n m f) : (s.updAxis m f).trigN n = s.trigN n := rfl
@[simp] theorem State.trigN_updCam (n m f) : (s.updCam m f).trigN n = s.trigN n := rfl
@[simp] theorem State.trigN_updDma (n m f) : (s.updDma m f).trigN n = s.trigN n := rfl

@[simp] theorem State.updCam_pending (n f) : (s.updCam n f).pending = s.pending := rfl
@[simp] theorem State.updCam_free (n f) : (s.updCam n f).free = s.free := rfl
@[simp] theorem State.updCam_host (n f) : (s.updCam n f).host = s.host := rfl
@[simp] theorem State.updCam_boot (n f) : (s.updCam n f).boot = s.boot := rfl
@[simp] theorem State.updCam_fuse (n f) : (s.updCam n f).fuse = s.fuse := rfl
@[simp] theorem State.updCam_time (n f) : (s.updCam n f).time = s.time := rfl
@[simp] theorem State.updCam_geo (n f) : (s.updCam n f).geo = s.geo := rfl
@[simp] theorem State.updCam_bat (n f) : (s.updCam n f).bat = s.bat := rfl
@[simp] theorem State.updCam_fire (n f) : (s.updCam n f).fire = s.fire := rfl
@[simp] theorem State.updCam_rlConfig (n f) : (s.updCam n f).rlConfig = s.rlConfig := rfl
@[simp] theorem State.updCam_port (n f) : (s.updCam n f).port = s.port := rfl
@[simp] theorem State.updCam_head (n f) : (s.updCam n f).head = s.head := rfl
@[simp] theorem State.updCam_cal (n f) : (s.updCam n f).cal = s.cal := rfl
@[simp] theorem State.updCam_nvm (n f) : (s.updCam n f).nvm = s.nvm := rfl
@[simp] theorem State.updCam_slate (n f) : (s.updCam n f).slate = s.slate := rfl
@[simp] theorem State.updCam_enc (n f) : (s.updCam n f).enc = s.enc := rfl
@[simp] theorem State.updCam_est (n f) : (s.updCam n f).est = s.est := rfl
@[simp] theorem State.updCam_axis (n f) : (s.updCam n f).axis = s.axis := rfl
@[simp] theorem State.updCam_trig (n f) : (s.updCam n f).trig = s.trig := rfl
@[simp] theorem State.updCam_vis (n f) : (s.updCam n f).vis = s.vis := rfl
@[simp] theorem State.updCam_loop (n f) : (s.updCam n f).loop = s.loop := rfl
@[simp] theorem State.updCam_twin (n f) : (s.updCam n f).twin = s.twin := rfl
@[simp] theorem State.updCam_dram (n f) : (s.updCam n f).dram = s.dram := rfl
@[simp] theorem State.updCam_dma (n f) : (s.updCam n f).dma = s.dma := rfl
@[simp] theorem State.updCam_pwr (n f) : (s.updCam n f).pwr = s.pwr := rfl
@[simp] theorem State.updCam_health (n f) : (s.updCam n f).health = s.health := rfl
@[simp] theorem State.updCam_log (n f) : (s.updCam n f).log = s.log := rfl
@[simp] theorem State.updCam_hostCore (n f) : (s.updCam n f).hostCore = s.hostCore := rfl
@[simp] theorem State.camN_updCam_same (n f) : (s.updCam n f).camN n = f (s.camN n) := SMap.get_upd_same _ _ _ _
theorem State.camN_updCam_ne (n m f) (h : m ≠ n) : (s.updCam n f).camN m = s.camN m := SMap.get_upd_ne _ _ _ h
@[simp] theorem State.camN_updHost (n f) : (s.updHost f).camN n = s.camN n := rfl
@[simp] theorem State.camN_updBoot (n f) : (s.updBoot f).camN n = s.camN n := rfl
@[simp] theorem State.camN_updTime (n f) : (s.updTime f).camN n = s.camN n := rfl
@[simp] theorem State.camN_updGeo (n f) : (s.updGeo f).camN n = s.camN n := rfl
@[simp] theorem State.camN_updBat (n f) : (s.updBat f).camN n = s.camN n := rfl
@[simp] theorem State.camN_updFire (n f) : (s.updFire f).camN n = s.camN n := rfl
@[simp] theorem State.camN_updPorts (n f) : (s.updPorts f).camN n = s.camN n := rfl
@[simp] theorem State.camN_updHeads (n f) : (s.updHeads f).camN n = s.camN n := rfl
@[simp] theorem State.camN_updCal (n f) : (s.updCal f).camN n = s.camN n := rfl
@[simp] theorem State.camN_updNvm (n f) : (s.updNvm f).camN n = s.camN n := rfl
@[simp] theorem State.camN_updSlate (n f) : (s.updSlate f).camN n = s.camN n := rfl
@[simp] theorem State.camN_updEncs (n f) : (s.updEncs f).camN n = s.camN n := rfl
@[simp] theorem State.camN_updEst (n f) : (s.updEst f).camN n = s.camN n := rfl
@[simp] theorem State.camN_updAxes (n f) : (s.updAxes f).camN n = s.camN n := rfl
@[simp] theorem State.camN_updTrigs (n f) : (s.updTrigs f).camN n = s.camN n := rfl
@[simp] theorem State.camN_updVis (n f) : (s.updVis f).camN n = s.camN n := rfl
@[simp] theorem State.camN_updLoop (n f) : (s.updLoop f).camN n = s.camN n := rfl
@[simp] theorem State.camN_updTwin (n f) : (s.updTwin f).camN n = s.camN n := rfl
@[simp] theorem State.camN_updDram (n f) : (s.updDram f).camN n = s.camN n := rfl
@[simp] theorem State.camN_updDmas (n f) : (s.updDmas f).camN n = s.camN n := rfl
@[simp] theorem State.camN_updPwr (n f) : (s.updPwr f).camN n = s.camN n := rfl
@[simp] theorem State.camN_updHealth (n f) : (s.updHealth f).camN n = s.camN n := rfl
@[simp] theorem State.camN_updLog (n f) : (s.updLog f).camN n = s.camN n := rfl
@[simp] theorem State.camN_updPort (n m f) : (s.updPort m f).camN n = s.camN n := rfl
@[simp] theorem State.camN_updHead (n m f) : (s.updHead m f).camN n = s.camN n := rfl
@[simp] theorem State.camN_updEnc (n m f) : (s.updEnc m f).camN n = s.camN n := rfl
@[simp] theorem State.camN_updAxis (n m f) : (s.updAxis m f).camN n = s.camN n := rfl
@[simp] theorem State.camN_updTrig (n m f) : (s.updTrig m f).camN n = s.camN n := rfl
@[simp] theorem State.camN_updDma (n m f) : (s.updDma m f).camN n = s.camN n := rfl

@[simp] theorem State.updDma_pending (n f) : (s.updDma n f).pending = s.pending := rfl
@[simp] theorem State.updDma_free (n f) : (s.updDma n f).free = s.free := rfl
@[simp] theorem State.updDma_host (n f) : (s.updDma n f).host = s.host := rfl
@[simp] theorem State.updDma_boot (n f) : (s.updDma n f).boot = s.boot := rfl
@[simp] theorem State.updDma_fuse (n f) : (s.updDma n f).fuse = s.fuse := rfl
@[simp] theorem State.updDma_time (n f) : (s.updDma n f).time = s.time := rfl
@[simp] theorem State.updDma_geo (n f) : (s.updDma n f).geo = s.geo := rfl
@[simp] theorem State.updDma_bat (n f) : (s.updDma n f).bat = s.bat := rfl
@[simp] theorem State.updDma_fire (n f) : (s.updDma n f).fire = s.fire := rfl
@[simp] theorem State.updDma_rlConfig (n f) : (s.updDma n f).rlConfig = s.rlConfig := rfl
@[simp] theorem State.updDma_port (n f) : (s.updDma n f).port = s.port := rfl
@[simp] theorem State.updDma_head (n f) : (s.updDma n f).head = s.head := rfl
@[simp] theorem State.updDma_cal (n f) : (s.updDma n f).cal = s.cal := rfl
@[simp] theorem State.updDma_nvm (n f) : (s.updDma n f).nvm = s.nvm := rfl
@[simp] theorem State.updDma_slate (n f) : (s.updDma n f).slate = s.slate := rfl
@[simp] theorem State.updDma_enc (n f) : (s.updDma n f).enc = s.enc := rfl
@[simp] theorem State.updDma_est (n f) : (s.updDma n f).est = s.est := rfl
@[simp] theorem State.updDma_axis (n f) : (s.updDma n f).axis = s.axis := rfl
@[simp] theorem State.updDma_trig (n f) : (s.updDma n f).trig = s.trig := rfl
@[simp] theorem State.updDma_cam (n f) : (s.updDma n f).cam = s.cam := rfl
@[simp] theorem State.updDma_vis (n f) : (s.updDma n f).vis = s.vis := rfl
@[simp] theorem State.updDma_loop (n f) : (s.updDma n f).loop = s.loop := rfl
@[simp] theorem State.updDma_twin (n f) : (s.updDma n f).twin = s.twin := rfl
@[simp] theorem State.updDma_dram (n f) : (s.updDma n f).dram = s.dram := rfl
@[simp] theorem State.updDma_pwr (n f) : (s.updDma n f).pwr = s.pwr := rfl
@[simp] theorem State.updDma_health (n f) : (s.updDma n f).health = s.health := rfl
@[simp] theorem State.updDma_log (n f) : (s.updDma n f).log = s.log := rfl
@[simp] theorem State.updDma_hostCore (n f) : (s.updDma n f).hostCore = s.hostCore := rfl
@[simp] theorem State.dmaN_updDma_same (n f) : (s.updDma n f).dmaN n = f (s.dmaN n) := SMap.get_upd_same _ _ _ _
theorem State.dmaN_updDma_ne (n m f) (h : m ≠ n) : (s.updDma n f).dmaN m = s.dmaN m := SMap.get_upd_ne _ _ _ h
@[simp] theorem State.dmaN_updHost (n f) : (s.updHost f).dmaN n = s.dmaN n := rfl
@[simp] theorem State.dmaN_updBoot (n f) : (s.updBoot f).dmaN n = s.dmaN n := rfl
@[simp] theorem State.dmaN_updTime (n f) : (s.updTime f).dmaN n = s.dmaN n := rfl
@[simp] theorem State.dmaN_updGeo (n f) : (s.updGeo f).dmaN n = s.dmaN n := rfl
@[simp] theorem State.dmaN_updBat (n f) : (s.updBat f).dmaN n = s.dmaN n := rfl
@[simp] theorem State.dmaN_updFire (n f) : (s.updFire f).dmaN n = s.dmaN n := rfl
@[simp] theorem State.dmaN_updPorts (n f) : (s.updPorts f).dmaN n = s.dmaN n := rfl
@[simp] theorem State.dmaN_updHeads (n f) : (s.updHeads f).dmaN n = s.dmaN n := rfl
@[simp] theorem State.dmaN_updCal (n f) : (s.updCal f).dmaN n = s.dmaN n := rfl
@[simp] theorem State.dmaN_updNvm (n f) : (s.updNvm f).dmaN n = s.dmaN n := rfl
@[simp] theorem State.dmaN_updSlate (n f) : (s.updSlate f).dmaN n = s.dmaN n := rfl
@[simp] theorem State.dmaN_updEncs (n f) : (s.updEncs f).dmaN n = s.dmaN n := rfl
@[simp] theorem State.dmaN_updEst (n f) : (s.updEst f).dmaN n = s.dmaN n := rfl
@[simp] theorem State.dmaN_updAxes (n f) : (s.updAxes f).dmaN n = s.dmaN n := rfl
@[simp] theorem State.dmaN_updTrigs (n f) : (s.updTrigs f).dmaN n = s.dmaN n := rfl
@[simp] theorem State.dmaN_updCams (n f) : (s.updCams f).dmaN n = s.dmaN n := rfl
@[simp] theorem State.dmaN_updVis (n f) : (s.updVis f).dmaN n = s.dmaN n := rfl
@[simp] theorem State.dmaN_updLoop (n f) : (s.updLoop f).dmaN n = s.dmaN n := rfl
@[simp] theorem State.dmaN_updTwin (n f) : (s.updTwin f).dmaN n = s.dmaN n := rfl
@[simp] theorem State.dmaN_updDram (n f) : (s.updDram f).dmaN n = s.dmaN n := rfl
@[simp] theorem State.dmaN_updPwr (n f) : (s.updPwr f).dmaN n = s.dmaN n := rfl
@[simp] theorem State.dmaN_updHealth (n f) : (s.updHealth f).dmaN n = s.dmaN n := rfl
@[simp] theorem State.dmaN_updLog (n f) : (s.updLog f).dmaN n = s.dmaN n := rfl
@[simp] theorem State.dmaN_updPort (n m f) : (s.updPort m f).dmaN n = s.dmaN n := rfl
@[simp] theorem State.dmaN_updHead (n m f) : (s.updHead m f).dmaN n = s.dmaN n := rfl
@[simp] theorem State.dmaN_updEnc (n m f) : (s.updEnc m f).dmaN n = s.dmaN n := rfl
@[simp] theorem State.dmaN_updAxis (n m f) : (s.updAxis m f).dmaN n = s.dmaN n := rfl
@[simp] theorem State.dmaN_updTrig (n m f) : (s.updTrig m f).dmaN n = s.dmaN n := rfl
@[simp] theorem State.dmaN_updCam (n m f) : (s.updCam m f).dmaN n = s.dmaN n := rfl

@[simp] theorem foldl_pending {α : Type} (g : State → α → State) (h : ∀ t x, (g t x).pending = t.pending) (l : List α) (s : State) :
    (l.foldl g s).pending = s.pending := foldl_keep (·.pending) g h l s
@[simp] theorem foldl_free {α : Type} (g : State → α → State) (h : ∀ t x, (g t x).free = t.free) (l : List α) (s : State) :
    (l.foldl g s).free = s.free := foldl_keep (·.free) g h l s
@[simp] theorem foldl_host {α : Type} (g : State → α → State) (h : ∀ t x, (g t x).host = t.host) (l : List α) (s : State) :
    (l.foldl g s).host = s.host := foldl_keep (·.host) g h l s
@[simp] theorem foldl_boot {α : Type} (g : State → α → State) (h : ∀ t x, (g t x).boot = t.boot) (l : List α) (s : State) :
    (l.foldl g s).boot = s.boot := foldl_keep (·.boot) g h l s
@[simp] theorem foldl_fuse {α : Type} (g : State → α → State) (h : ∀ t x, (g t x).fuse = t.fuse) (l : List α) (s : State) :
    (l.foldl g s).fuse = s.fuse := foldl_keep (·.fuse) g h l s
@[simp] theorem foldl_time {α : Type} (g : State → α → State) (h : ∀ t x, (g t x).time = t.time) (l : List α) (s : State) :
    (l.foldl g s).time = s.time := foldl_keep (·.time) g h l s
@[simp] theorem foldl_geo {α : Type} (g : State → α → State) (h : ∀ t x, (g t x).geo = t.geo) (l : List α) (s : State) :
    (l.foldl g s).geo = s.geo := foldl_keep (·.geo) g h l s
@[simp] theorem foldl_bat {α : Type} (g : State → α → State) (h : ∀ t x, (g t x).bat = t.bat) (l : List α) (s : State) :
    (l.foldl g s).bat = s.bat := foldl_keep (·.bat) g h l s
@[simp] theorem foldl_fire {α : Type} (g : State → α → State) (h : ∀ t x, (g t x).fire = t.fire) (l : List α) (s : State) :
    (l.foldl g s).fire = s.fire := foldl_keep (·.fire) g h l s
@[simp] theorem foldl_rlConfig {α : Type} (g : State → α → State) (h : ∀ t x, (g t x).rlConfig = t.rlConfig) (l : List α) (s : State) :
    (l.foldl g s).rlConfig = s.rlConfig := foldl_keep (·.rlConfig) g h l s
@[simp] theorem foldl_port {α : Type} (g : State → α → State) (h : ∀ t x, (g t x).port = t.port) (l : List α) (s : State) :
    (l.foldl g s).port = s.port := foldl_keep (·.port) g h l s
@[simp] theorem foldl_head {α : Type} (g : State → α → State) (h : ∀ t x, (g t x).head = t.head) (l : List α) (s : State) :
    (l.foldl g s).head = s.head := foldl_keep (·.head) g h l s
@[simp] theorem foldl_cal {α : Type} (g : State → α → State) (h : ∀ t x, (g t x).cal = t.cal) (l : List α) (s : State) :
    (l.foldl g s).cal = s.cal := foldl_keep (·.cal) g h l s
@[simp] theorem foldl_nvm {α : Type} (g : State → α → State) (h : ∀ t x, (g t x).nvm = t.nvm) (l : List α) (s : State) :
    (l.foldl g s).nvm = s.nvm := foldl_keep (·.nvm) g h l s
@[simp] theorem foldl_slate {α : Type} (g : State → α → State) (h : ∀ t x, (g t x).slate = t.slate) (l : List α) (s : State) :
    (l.foldl g s).slate = s.slate := foldl_keep (·.slate) g h l s
@[simp] theorem foldl_enc {α : Type} (g : State → α → State) (h : ∀ t x, (g t x).enc = t.enc) (l : List α) (s : State) :
    (l.foldl g s).enc = s.enc := foldl_keep (·.enc) g h l s
@[simp] theorem foldl_est {α : Type} (g : State → α → State) (h : ∀ t x, (g t x).est = t.est) (l : List α) (s : State) :
    (l.foldl g s).est = s.est := foldl_keep (·.est) g h l s
@[simp] theorem foldl_axis {α : Type} (g : State → α → State) (h : ∀ t x, (g t x).axis = t.axis) (l : List α) (s : State) :
    (l.foldl g s).axis = s.axis := foldl_keep (·.axis) g h l s
@[simp] theorem foldl_trig {α : Type} (g : State → α → State) (h : ∀ t x, (g t x).trig = t.trig) (l : List α) (s : State) :
    (l.foldl g s).trig = s.trig := foldl_keep (·.trig) g h l s
@[simp] theorem foldl_cam {α : Type} (g : State → α → State) (h : ∀ t x, (g t x).cam = t.cam) (l : List α) (s : State) :
    (l.foldl g s).cam = s.cam := foldl_keep (·.cam) g h l s
@[simp] theorem foldl_vis {α : Type} (g : State → α → State) (h : ∀ t x, (g t x).vis = t.vis) (l : List α) (s : State) :
    (l.foldl g s).vis = s.vis := foldl_keep (·.vis) g h l s
@[simp] theorem foldl_loop {α : Type} (g : State → α → State) (h : ∀ t x, (g t x).loop = t.loop) (l : List α) (s : State) :
    (l.foldl g s).loop = s.loop := foldl_keep (·.loop) g h l s
@[simp] theorem foldl_twin {α : Type} (g : State → α → State) (h : ∀ t x, (g t x).twin = t.twin) (l : List α) (s : State) :
    (l.foldl g s).twin = s.twin := foldl_keep (·.twin) g h l s
@[simp] theorem foldl_dram {α : Type} (g : State → α → State) (h : ∀ t x, (g t x).dram = t.dram) (l : List α) (s : State) :
    (l.foldl g s).dram = s.dram := foldl_keep (·.dram) g h l s
@[simp] theorem foldl_dma {α : Type} (g : State → α → State) (h : ∀ t x, (g t x).dma = t.dma) (l : List α) (s : State) :
    (l.foldl g s).dma = s.dma := foldl_keep (·.dma) g h l s
@[simp] theorem foldl_pwr {α : Type} (g : State → α → State) (h : ∀ t x, (g t x).pwr = t.pwr) (l : List α) (s : State) :
    (l.foldl g s).pwr = s.pwr := foldl_keep (·.pwr) g h l s
@[simp] theorem foldl_health {α : Type} (g : State → α → State) (h : ∀ t x, (g t x).health = t.health) (l : List α) (s : State) :
    (l.foldl g s).health = s.health := foldl_keep (·.health) g h l s
@[simp] theorem foldl_log {α : Type} (g : State → α → State) (h : ∀ t x, (g t x).log = t.log) (l : List α) (s : State) :
    (l.foldl g s).log = s.log := foldl_keep (·.log) g h l s
@[simp] theorem foldl_hostCore {α : Type} (g : State → α → State) (h : ∀ t x, (g t x).hostCore = t.hostCore) (l : List α) (s : State) :
    (l.foldl g s).hostCore = s.hostCore := foldl_keep (·.hostCore) g h l s

/-- What differs in alert bits only. -/
theorem host_of_core {s t : State} (h : s.hostCore = t.hostCore) : ∃ al, s.host = { t.host with alert := al } := by
  refine ⟨s.host.alert, ?_⟩
  have e := HostIf.ext_iff.1 h
  apply HostIf.ext_iff.2
  simpa [State.hostCore] using e

end Sys2Proof.Machine
end

