-- ==== Sys2Proof/Laws/Ops.lean ====
section
/-! SUPPORT. What each shared operation can do: the components it leaves alone, and the outcome of the frames of a meaning. -/

namespace Sys2Proof.Machine

variable (s : State)

@[simp] theorem State.raiseBits_pending (r v) : (s.raiseBits r v).pending = s.pending := rfl
@[simp] theorem State.raiseBits_free (r v) : (s.raiseBits r v).free = s.free := rfl
@[simp] theorem State.raiseBits_boot (r v) : (s.raiseBits r v).boot = s.boot := rfl
@[simp] theorem State.raiseBits_fuse (r v) : (s.raiseBits r v).fuse = s.fuse := rfl
@[simp] theorem State.raiseBits_time (r v) : (s.raiseBits r v).time = s.time := rfl
@[simp] theorem State.raiseBits_geo (r v) : (s.raiseBits r v).geo = s.geo := rfl
@[simp] theorem State.raiseBits_bat (r v) : (s.raiseBits r v).bat = s.bat := rfl
@[simp] theorem State.raiseBits_fire (r v) : (s.raiseBits r v).fire = s.fire := rfl
@[simp] theorem State.raiseBits_rlConfig (r v) : (s.raiseBits r v).rlConfig = s.rlConfig := rfl
@[simp] theorem State.raiseBits_port (r v) : (s.raiseBits r v).port = s.port := rfl
@[simp] theorem State.raiseBits_head (r v) : (s.raiseBits r v).head = s.head := rfl
@[simp] theorem State.raiseBits_cal (r v) : (s.raiseBits r v).cal = s.cal := rfl
@[simp] theorem State.raiseBits_nvm (r v) : (s.raiseBits r v).nvm = s.nvm := rfl
@[simp] theorem State.raiseBits_slate (r v) : (s.raiseBits r v).slate = s.slate := rfl
@[simp] theorem State.raiseBits_enc (r v) : (s.raiseBits r v).enc = s.enc := rfl
@[simp] theorem State.raiseBits_est (r v) : (s.raiseBits r v).est = s.est := rfl
@[simp] theorem State.raiseBits_axis (r v) : (s.raiseBits r v).axis = s.axis := rfl
@[simp] theorem State.raiseBits_trig (r v) : (s.raiseBits r v).trig = s.trig := rfl
@[simp] theorem State.raiseBits_cam (r v) : (s.raiseBits r v).cam = s.cam := rfl
@[simp] theorem State.raiseBits_vis (r v) : (s.raiseBits r v).vis = s.vis := rfl
@[simp] theorem State.raiseBits_loop (r v) : (s.raiseBits r v).loop = s.loop := rfl
@[simp] theorem State.raiseBits_twin (r v) : (s.raiseBits r v).twin = s.twin := rfl
@[simp] theorem State.raiseBits_dram (r v) : (s.raiseBits r v).dram = s.dram := rfl
@[simp] theorem State.raiseBits_dma (r v) : (s.raiseBits r v).dma = s.dma := rfl
@[simp] theorem State.raiseBits_pwr (r v) : (s.raiseBits r v).pwr = s.pwr := rfl
@[simp] theorem State.raiseBits_health (r v) : (s.raiseBits r v).health = s.health := rfl
@[simp] theorem State.raiseBits_log (r v) : (s.raiseBits r v).log = s.log := rfl
@[simp] theorem State.raiseBits_hostCore (r v) : (s.raiseBits r v).hostCore = s.hostCore := rfl
@[simp] theorem State.raiseBits_host_live (r v) : (s.raiseBits r v).host.live = s.host.live := rfl
@[simp] theorem State.raiseBits_host_perst (r v) : (s.raiseBits r v).host.perst = s.host.perst := rfl
@[simp] theorem State.raiseBits_host_doorbell (r v) : (s.raiseBits r v).host.doorbell = s.host.doorbell := rfl
@[simp] theorem State.raiseBits_host_busy (r v) : (s.raiseBits r v).host.busy = s.host.busy := rfl
@[simp] theorem State.raiseBits_host_done (r v) : (s.raiseBits r v).host.done = s.host.done := rfl
@[simp] theorem State.raiseBits_host_cancel (r v) : (s.raiseBits r v).host.cancel = s.host.cancel := rfl
@[simp] theorem State.raiseBits_host_intMask (r v) : (s.raiseBits r v).host.intMask = s.host.intMask := rfl
@[simp] theorem State.raiseBits_host_resp (r v) : (s.raiseBits r v).host.resp = s.host.resp := rfl
@[simp] theorem State.raiseBits_host_reqArea (r v) : (s.raiseBits r v).host.reqArea = s.host.reqArea := rfl
@[simp] theorem State.raiseBits_host_held (r v) : (s.raiseBits r v).host.held = s.host.held := rfl
@[simp] theorem State.raiseBits_host_inflight (r v) : (s.raiseBits r v).host.inflight = s.host.inflight := rfl
@[simp] theorem State.raiseBits_host_mbProtocol (r v) : (s.raiseBits r v).host.mbProtocol = s.host.mbProtocol := rfl
@[simp] theorem State.raiseBits_host_restarted (r v) : (s.raiseBits r v).host.restarted = s.host.restarted := rfl
@[simp] theorem State.raiseBits_host_mask (r v) : (s.raiseBits r v).host.mask = s.host.mask := rfl
@[simp] theorem State.raiseBits_host_msixEnable (r v) : (s.raiseBits r v).host.msixEnable = s.host.msixEnable := rfl
@[simp] theorem State.raiseBits_host_msixFuncMask (r v) : (s.raiseBits r v).host.msixFuncMask = s.host.msixFuncMask := rfl
@[simp] theorem State.raiseBits_host_msixVecMask (r v) : (s.raiseBits r v).host.msixVecMask = s.host.msixVecMask := rfl
@[simp] theorem State.raiseBits_host_msixPba (r v) : (s.raiseBits r v).host.msixPba = s.host.msixPba := rfl
@[simp] theorem State.raiseBits_host_msixTable (r v) : (s.raiseBits r v).host.msixTable = s.host.msixTable := rfl
@[simp] theorem State.raiseBits_host_msixSent (r v) : (s.raiseBits r v).host.msixSent = s.host.msixSent := rfl
@[simp] theorem State.raiseBits_host_loHeld (r v) : (s.raiseBits r v).host.loHeld = s.host.loHeld := rfl
@[simp] theorem State.raiseBits_host_bar2Out (r v) : (s.raiseBits r v).host.bar2Out = s.host.bar2Out := rfl
@[simp] theorem State.raiseBits_host_aerDropped (r v) : (s.raiseBits r v).host.aerDropped = s.host.aerDropped := rfl

@[simp] theorem State.raise_pending (r n) : (s.raise r n).pending = s.pending := rfl
@[simp] theorem State.raise_free (r n) : (s.raise r n).free = s.free := rfl
@[simp] theorem State.raise_boot (r n) : (s.raise r n).boot = s.boot := rfl
@[simp] theorem State.raise_fuse (r n) : (s.raise r n).fuse = s.fuse := rfl
@[simp] theorem State.raise_time (r n) : (s.raise r n).time = s.time := rfl
@[simp] theorem State.raise_geo (r n) : (s.raise r n).geo = s.geo := rfl
@[simp] theorem State.raise_bat (r n) : (s.raise r n).bat = s.bat := rfl
@[simp] theorem State.raise_fire (r n) : (s.raise r n).fire = s.fire := rfl
@[simp] theorem State.raise_rlConfig (r n) : (s.raise r n).rlConfig = s.rlConfig := rfl
@[simp] theorem State.raise_port (r n) : (s.raise r n).port = s.port := rfl
@[simp] theorem State.raise_head (r n) : (s.raise r n).head = s.head := rfl
@[simp] theorem State.raise_cal (r n) : (s.raise r n).cal = s.cal := rfl
@[simp] theorem State.raise_nvm (r n) : (s.raise r n).nvm = s.nvm := rfl
@[simp] theorem State.raise_slate (r n) : (s.raise r n).slate = s.slate := rfl
@[simp] theorem State.raise_enc (r n) : (s.raise r n).enc = s.enc := rfl
@[simp] theorem State.raise_est (r n) : (s.raise r n).est = s.est := rfl
@[simp] theorem State.raise_axis (r n) : (s.raise r n).axis = s.axis := rfl
@[simp] theorem State.raise_trig (r n) : (s.raise r n).trig = s.trig := rfl
@[simp] theorem State.raise_cam (r n) : (s.raise r n).cam = s.cam := rfl
@[simp] theorem State.raise_vis (r n) : (s.raise r n).vis = s.vis := rfl
@[simp] theorem State.raise_loop (r n) : (s.raise r n).loop = s.loop := rfl
@[simp] theorem State.raise_twin (r n) : (s.raise r n).twin = s.twin := rfl
@[simp] theorem State.raise_dram (r n) : (s.raise r n).dram = s.dram := rfl
@[simp] theorem State.raise_dma (r n) : (s.raise r n).dma = s.dma := rfl
@[simp] theorem State.raise_pwr (r n) : (s.raise r n).pwr = s.pwr := rfl
@[simp] theorem State.raise_health (r n) : (s.raise r n).health = s.health := rfl
@[simp] theorem State.raise_log (r n) : (s.raise r n).log = s.log := rfl
@[simp] theorem State.raise_hostCore (r n) : (s.raise r n).hostCore = s.hostCore := rfl
@[simp] theorem State.raise_host_live (r n) : (s.raise r n).host.live = s.host.live := rfl
@[simp] theorem State.raise_host_perst (r n) : (s.raise r n).host.perst = s.host.perst := rfl
@[simp] theorem State.raise_host_doorbell (r n) : (s.raise r n).host.doorbell = s.host.doorbell := rfl
@[simp] theorem State.raise_host_busy (r n) : (s.raise r n).host.busy = s.host.busy := rfl
@[simp] theorem State.raise_host_done (r n) : (s.raise r n).host.done = s.host.done := rfl
@[simp] theorem State.raise_host_cancel (r n) : (s.raise r n).host.cancel = s.host.cancel := rfl
@[simp] theorem State.raise_host_intMask (r n) : (s.raise r n).host.intMask = s.host.intMask := rfl
@[simp] theorem State.raise_host_resp (r n) : (s.raise r n).host.resp = s.host.resp := rfl
@[simp] theorem State.raise_host_reqArea (r n) : (s.raise r n).host.reqArea = s.host.reqArea := rfl
@[simp] theorem State.raise_host_held (r n) : (s.raise r n).host.held = s.host.held := rfl
@[simp] theorem State.raise_host_inflight (r n) : (s.raise r n).host.inflight = s.host.inflight := rfl
@[simp] theorem State.raise_host_mbProtocol (r n) : (s.raise r n).host.mbProtocol = s.host.mbProtocol := rfl
@[simp] theorem State.raise_host_restarted (r n) : (s.raise r n).host.restarted = s.host.restarted := rfl
@[simp] theorem State.raise_host_mask (r n) : (s.raise r n).host.mask = s.host.mask := rfl
@[simp] theorem State.raise_host_msixEnable (r n) : (s.raise r n).host.msixEnable = s.host.msixEnable := rfl
@[simp] theorem State.raise_host_msixFuncMask (r n) : (s.raise r n).host.msixFuncMask = s.host.msixFuncMask := rfl
@[simp] theorem State.raise_host_msixVecMask (r n) : (s.raise r n).host.msixVecMask = s.host.msixVecMask := rfl
@[simp] theorem State.raise_host_msixPba (r n) : (s.raise r n).host.msixPba = s.host.msixPba := rfl
@[simp] theorem State.raise_host_msixTable (r n) : (s.raise r n).host.msixTable = s.host.msixTable := rfl
@[simp] theorem State.raise_host_msixSent (r n) : (s.raise r n).host.msixSent = s.host.msixSent := rfl
@[simp] theorem State.raise_host_loHeld (r n) : (s.raise r n).host.loHeld = s.host.loHeld := rfl
@[simp] theorem State.raise_host_bar2Out (r n) : (s.raise r n).host.bar2Out = s.host.bar2Out := rfl
@[simp] theorem State.raise_host_aerDropped (r n) : (s.raise r n).host.aerDropped = s.host.aerDropped := rfl

@[simp] theorem State.mbStart_pending (h) : (s.mbStart h).pending = s.pending := rfl
@[simp] theorem State.mbStart_free (h) : (s.mbStart h).free = s.free := rfl
@[simp] theorem State.mbStart_boot (h) : (s.mbStart h).boot = s.boot := rfl
@[simp] theorem State.mbStart_fuse (h) : (s.mbStart h).fuse = s.fuse := rfl
@[simp] theorem State.mbStart_time (h) : (s.mbStart h).time = s.time := rfl
@[simp] theorem State.mbStart_geo (h) : (s.mbStart h).geo = s.geo := rfl
@[simp] theorem State.mbStart_bat (h) : (s.mbStart h).bat = s.bat := rfl
@[simp] theorem State.mbStart_fire (h) : (s.mbStart h).fire = s.fire := rfl
@[simp] theorem State.mbStart_rlConfig (h) : (s.mbStart h).rlConfig = s.rlConfig := rfl
@[simp] theorem State.mbStart_port (h) : (s.mbStart h).port = s.port := rfl
@[simp] theorem State.mbStart_head (h) : (s.mbStart h).head = s.head := rfl
@[simp] theorem State.mbStart_cal (h) : (s.mbStart h).cal = s.cal := rfl
@[simp] theorem State.mbStart_nvm (h) : (s.mbStart h).nvm = s.nvm := rfl
@[simp] theorem State.mbStart_slate (h) : (s.mbStart h).slate = s.slate := rfl
@[simp] theorem State.mbStart_enc (h) : (s.mbStart h).enc = s.enc := rfl
@[simp] theorem State.mbStart_est (h) : (s.mbStart h).est = s.est := rfl
@[simp] theorem State.mbStart_axis (h) : (s.mbStart h).axis = s.axis := rfl
@[simp] theorem State.mbStart_trig (h) : (s.mbStart h).trig = s.trig := rfl
@[simp] theorem State.mbStart_cam (h) : (s.mbStart h).cam = s.cam := rfl
@[simp] theorem State.mbStart_vis (h) : (s.mbStart h).vis = s.vis := rfl
@[simp] theorem State.mbStart_loop (h) : (s.mbStart h).loop = s.loop := rfl
@[simp] theorem State.mbStart_twin (h) : (s.mbStart h).twin = s.twin := rfl
@[simp] theorem State.mbStart_dram (h) : (s.mbStart h).dram = s.dram := rfl
@[simp] theorem State.mbStart_dma (h) : (s.mbStart h).dma = s.dma := rfl
@[simp] theorem State.mbStart_pwr (h) : (s.mbStart h).pwr = s.pwr := rfl
@[simp] theorem State.mbStart_health (h) : (s.mbStart h).health = s.health := rfl
@[simp] theorem State.mbStart_log (h) : (s.mbStart h).log = s.log := rfl
@[simp] theorem State.mbStart_host_live (h) : (s.mbStart h).host.live = s.host.live := rfl
@[simp] theorem State.mbStart_host_perst (h) : (s.mbStart h).host.perst = s.host.perst := rfl
@[simp] theorem State.mbStart_host_done (h) : (s.mbStart h).host.done = s.host.done := rfl
@[simp] theorem State.mbStart_host_cancel (h) : (s.mbStart h).host.cancel = s.host.cancel := rfl
@[simp] theorem State.mbStart_host_intMask (h) : (s.mbStart h).host.intMask = s.host.intMask := rfl
@[simp] theorem State.mbStart_host_resp (h) : (s.mbStart h).host.resp = s.host.resp := rfl
@[simp] theorem State.mbStart_host_reqArea (h) : (s.mbStart h).host.reqArea = s.host.reqArea := rfl
@[simp] theorem State.mbStart_host_held (h) : (s.mbStart h).host.held = s.host.held := rfl
@[simp] theorem State.mbStart_host_inflight (h) : (s.mbStart h).host.inflight = s.host.inflight := rfl
@[simp] theorem State.mbStart_host_mbProtocol (h) : (s.mbStart h).host.mbProtocol = s.host.mbProtocol := rfl
@[simp] theorem State.mbStart_host_restarted (h) : (s.mbStart h).host.restarted = s.host.restarted := rfl
@[simp] theorem State.mbStart_host_alert (h) : (s.mbStart h).host.alert = s.host.alert := rfl
@[simp] theorem State.mbStart_host_mask (h) : (s.mbStart h).host.mask = s.host.mask := rfl
@[simp] theorem State.mbStart_host_msixEnable (h) : (s.mbStart h).host.msixEnable = s.host.msixEnable := rfl
@[simp] theorem State.mbStart_host_msixFuncMask (h) : (s.mbStart h).host.msixFuncMask = s.host.msixFuncMask := rfl
@[simp] theorem State.mbStart_host_msixVecMask (h) : (s.mbStart h).host.msixVecMask = s.host.msixVecMask := rfl
@[simp] theorem State.mbStart_host_msixPba (h) : (s.mbStart h).host.msixPba = s.host.msixPba := rfl
@[simp] theorem State.mbStart_host_msixTable (h) : (s.mbStart h).host.msixTable = s.host.msixTable := rfl
@[simp] theorem State.mbStart_host_msixSent (h) : (s.mbStart h).host.msixSent = s.host.msixSent := rfl
@[simp] theorem State.mbStart_host_loHeld (h) : (s.mbStart h).host.loHeld = s.host.loHeld := rfl
@[simp] theorem State.mbStart_host_bar2Out (h) : (s.mbStart h).host.bar2Out = s.host.bar2Out := rfl
@[simp] theorem State.mbStart_host_aerDropped (h) : (s.mbStart h).host.aerDropped = s.host.aerDropped := rfl

@[simp] theorem State.mbComplete_pending (h op st p) : (s.mbComplete h op st p).pending = s.pending := rfl
@[simp] theorem State.mbComplete_free (h op st p) : (s.mbComplete h op st p).free = s.free := rfl
@[simp] theorem State.mbComplete_boot (h op st p) : (s.mbComplete h op st p).boot = s.boot := rfl
@[simp] theorem State.mbComplete_fuse (h op st p) : (s.mbComplete h op st p).fuse = s.fuse := rfl
@[simp] theorem State.mbComplete_time (h op st p) : (s.mbComplete h op st p).time = s.time := rfl
@[simp] theorem State.mbComplete_geo (h op st p) : (s.mbComplete h op st p).geo = s.geo := rfl
@[simp] theorem State.mbComplete_bat (h op st p) : (s.mbComplete h op st p).bat = s.bat := rfl
@[simp] theorem State.mbComplete_fire (h op st p) : (s.mbComplete h op st p).fire = s.fire := rfl
@[simp] theorem State.mbComplete_rlConfig (h op st p) : (s.mbComplete h op st p).rlConfig = s.rlConfig := rfl
@[simp] theorem State.mbComplete_port (h op st p) : (s.mbComplete h op st p).port = s.port := rfl
@[simp] theorem State.mbComplete_head (h op st p) : (s.mbComplete h op st p).head = s.head := rfl
@[simp] theorem State.mbComplete_cal (h op st p) : (s.mbComplete h op st p).cal = s.cal := rfl
@[simp] theorem State.mbComplete_nvm (h op st p) : (s.mbComplete h op st p).nvm = s.nvm := rfl
@[simp] theorem State.mbComplete_slate (h op st p) : (s.mbComplete h op st p).slate = s.slate := rfl
@[simp] theorem State.mbComplete_enc (h op st p) : (s.mbComplete h op st p).enc = s.enc := rfl
@[simp] theorem State.mbComplete_est (h op st p) : (s.mbComplete h op st p).est = s.est := rfl
@[simp] theorem State.mbComplete_axis (h op st p) : (s.mbComplete h op st p).axis = s.axis := rfl
@[simp] theorem State.mbComplete_trig (h op st p) : (s.mbComplete h op st p).trig = s.trig := rfl
@[simp] theorem State.mbComplete_cam (h op st p) : (s.mbComplete h op st p).cam = s.cam := rfl
@[simp] theorem State.mbComplete_vis (h op st p) : (s.mbComplete h op st p).vis = s.vis := rfl
@[simp] theorem State.mbComplete_loop (h op st p) : (s.mbComplete h op st p).loop = s.loop := rfl
@[simp] theorem State.mbComplete_twin (h op st p) : (s.mbComplete h op st p).twin = s.twin := rfl
@[simp] theorem State.mbComplete_dram (h op st p) : (s.mbComplete h op st p).dram = s.dram := rfl
@[simp] theorem State.mbComplete_dma (h op st p) : (s.mbComplete h op st p).dma = s.dma := rfl
@[simp] theorem State.mbComplete_pwr (h op st p) : (s.mbComplete h op st p).pwr = s.pwr := rfl
@[simp] theorem State.mbComplete_health (h op st p) : (s.mbComplete h op st p).health = s.health := rfl
@[simp] theorem State.mbComplete_log (h op st p) : (s.mbComplete h op st p).log = s.log := rfl
@[simp] theorem State.mbComplete_host_live (h op st p) : (s.mbComplete h op st p).host.live = s.host.live := rfl
@[simp] theorem State.mbComplete_host_perst (h op st p) : (s.mbComplete h op st p).host.perst = s.host.perst := rfl
@[simp] theorem State.mbComplete_host_intMask (h op st p) : (s.mbComplete h op st p).host.intMask = s.host.intMask := rfl
@[simp] theorem State.mbComplete_host_reqArea (h op st p) : (s.mbComplete h op st p).host.reqArea = s.host.reqArea := rfl
@[simp] theorem State.mbComplete_host_held (h op st p) : (s.mbComplete h op st p).host.held = s.host.held := rfl
@[simp] theorem State.mbComplete_host_inflight (h op st p) : (s.mbComplete h op st p).host.inflight = s.host.inflight := rfl
@[simp] theorem State.mbComplete_host_mbProtocol (h op st p) : (s.mbComplete h op st p).host.mbProtocol = s.host.mbProtocol := rfl
@[simp] theorem State.mbComplete_host_restarted (h op st p) : (s.mbComplete h op st p).host.restarted = s.host.restarted := rfl
@[simp] theorem State.mbComplete_host_alert (h op st p) : (s.mbComplete h op st p).host.alert = s.host.alert := rfl
@[simp] theorem State.mbComplete_host_mask (h op st p) : (s.mbComplete h op st p).host.mask = s.host.mask := rfl
@[simp] theorem State.mbComplete_host_msixEnable (h op st p) : (s.mbComplete h op st p).host.msixEnable = s.host.msixEnable := rfl
@[simp] theorem State.mbComplete_host_msixFuncMask (h op st p) : (s.mbComplete h op st p).host.msixFuncMask = s.host.msixFuncMask := rfl
@[simp] theorem State.mbComplete_host_msixVecMask (h op st p) : (s.mbComplete h op st p).host.msixVecMask = s.host.msixVecMask := rfl
@[simp] theorem State.mbComplete_host_msixPba (h op st p) : (s.mbComplete h op st p).host.msixPba = s.host.msixPba := rfl
@[simp] theorem State.mbComplete_host_msixTable (h op st p) : (s.mbComplete h op st p).host.msixTable = s.host.msixTable := rfl
@[simp] theorem State.mbComplete_host_msixSent (h op st p) : (s.mbComplete h op st p).host.msixSent = s.host.msixSent := rfl
@[simp] theorem State.mbComplete_host_loHeld (h op st p) : (s.mbComplete h op st p).host.loHeld = s.host.loHeld := rfl
@[simp] theorem State.mbComplete_host_bar2Out (h op st p) : (s.mbComplete h op st p).host.bar2Out = s.host.bar2Out := rfl
@[simp] theorem State.mbComplete_host_aerDropped (h op st p) : (s.mbComplete h op st p).host.aerDropped = s.host.aerDropped := rfl

@[simp] theorem State.sendVector_pending (v) : (s.sendVector v).pending = s.pending := rfl
@[simp] theorem State.sendVector_free (v) : (s.sendVector v).free = s.free := rfl
@[simp] theorem State.sendVector_boot (v) : (s.sendVector v).boot = s.boot := rfl
@[simp] theorem State.sendVector_fuse (v) : (s.sendVector v).fuse = s.fuse := rfl
@[simp] theorem State.sendVector_time (v) : (s.sendVector v).time = s.time := rfl
@[simp] theorem State.sendVector_geo (v) : (s.sendVector v).geo = s.geo := rfl
@[simp] theorem State.sendVector_bat (v) : (s.sendVector v).bat = s.bat := rfl
@[simp] theorem State.sendVector_fire (v) : (s.sendVector v).fire = s.fire := rfl
@[simp] theorem State.sendVector_rlConfig (v) : (s.sendVector v).rlConfig = s.rlConfig := rfl
@[simp] theorem State.sendVector_port (v) : (s.sendVector v).port = s.port := rfl
@[simp] theorem State.sendVector_head (v) : (s.sendVector v).head = s.head := rfl
@[simp] theorem State.sendVector_cal (v) : (s.sendVector v).cal = s.cal := rfl
@[simp] theorem State.sendVector_nvm (v) : (s.sendVector v).nvm = s.nvm := rfl
@[simp] theorem State.sendVector_slate (v) : (s.sendVector v).slate = s.slate := rfl
@[simp] theorem State.sendVector_enc (v) : (s.sendVector v).enc = s.enc := rfl
@[simp] theorem State.sendVector_est (v) : (s.sendVector v).est = s.est := rfl
@[simp] theorem State.sendVector_axis (v) : (s.sendVector v).axis = s.axis := rfl
@[simp] theorem State.sendVector_trig (v) : (s.sendVector v).trig = s.trig := rfl
@[simp] theorem State.sendVector_cam (v) : (s.sendVector v).cam = s.cam := rfl
@[simp] theorem State.sendVector_vis (v) : (s.sendVector v).vis = s.vis := rfl
@[simp] theorem State.sendVector_loop (v) : (s.sendVector v).loop = s.loop := rfl
@[simp] theorem State.sendVector_twin (v) : (s.sendVector v).twin = s.twin := rfl
@[simp] theorem State.sendVector_dram (v) : (s.sendVector v).dram = s.dram := rfl
@[simp] theorem State.sendVector_dma (v) : (s.sendVector v).dma = s.dma := rfl
@[simp] theorem State.sendVector_pwr (v) : (s.sendVector v).pwr = s.pwr := rfl
@[simp] theorem State.sendVector_health (v) : (s.sendVector v).health = s.health := rfl
@[simp] theorem State.sendVector_log (v) : (s.sendVector v).log = s.log := rfl

@[simp] theorem State.sendVector_host_live (v) : (s.sendVector v).host.live = s.host.live := by
  unfold State.sendVector; simp only [State.updHost_host]; split <;> [rfl; (split <;> rfl)]
@[simp] theorem State.sendVector_host_perst (v) : (s.sendVector v).host.perst = s.host.perst := by
  unfold State.sendVector; simp only [State.updHost_host]; split <;> [rfl; (split <;> rfl)]
@[simp] theorem State.sendVector_host_doorbell (v) : (s.sendVector v).host.doorbell = s.host.doorbell := by
  unfold State.sendVector; simp only [State.updHost_host]; split <;> [rfl; (split <;> rfl)]
@[simp] theorem State.sendVector_host_busy (v) : (s.sendVector v).host.busy = s.host.busy := by
  unfold State.sendVector; simp only [State.updHost_host]; split <;> [rfl; (split <;> rfl)]
@[simp] theorem State.sendVector_host_done (v) : (s.sendVector v).host.done = s.host.done := by
  unfold State.sendVector; simp only [State.updHost_host]; split <;> [rfl; (split <;> rfl)]
@[simp] theorem State.sendVector_host_cancel (v) : (s.sendVector v).host.cancel = s.host.cancel := by
  unfold State.sendVector; simp only [State.updHost_host]; split <;> [rfl; (split <;> rfl)]
@[simp] theorem State.sendVector_host_intMask (v) : (s.sendVector v).host.intMask = s.host.intMask := by
  unfold State.sendVector; simp only [State.updHost_host]; split <;> [rfl; (split <;> rfl)]
@[simp] theorem State.sendVector_host_resp (v) : (s.sendVector v).host.resp = s.host.resp := by
  unfold State.sendVector; simp only [State.updHost_host]; split <;> [rfl; (split <;> rfl)]
@[simp] theorem State.sendVector_host_reqArea (v) : (s.sendVector v).host.reqArea = s.host.reqArea := by
  unfold State.sendVector; simp only [State.updHost_host]; split <;> [rfl; (split <;> rfl)]
@[simp] theorem State.sendVector_host_held (v) : (s.sendVector v).host.held = s.host.held := by
  unfold State.sendVector; simp only [State.updHost_host]; split <;> [rfl; (split <;> rfl)]
@[simp] theorem State.sendVector_host_inflight (v) : (s.sendVector v).host.inflight = s.host.inflight := by
  unfold State.sendVector; simp only [State.updHost_host]; split <;> [rfl; (split <;> rfl)]
@[simp] theorem State.sendVector_host_mbProtocol (v) : (s.sendVector v).host.mbProtocol = s.host.mbProtocol := by
  unfold State.sendVector; simp only [State.updHost_host]; split <;> [rfl; (split <;> rfl)]
@[simp] theorem State.sendVector_host_restarted (v) : (s.sendVector v).host.restarted = s.host.restarted := by
  unfold State.sendVector; simp only [State.updHost_host]; split <;> [rfl; (split <;> rfl)]
@[simp] theorem State.sendVector_host_alert (v) : (s.sendVector v).host.alert = s.host.alert := by
  unfold State.sendVector; simp only [State.updHost_host]; split <;> [rfl; (split <;> rfl)]
@[simp] theorem State.sendVector_host_mask (v) : (s.sendVector v).host.mask = s.host.mask := by
  unfold State.sendVector; simp only [State.updHost_host]; split <;> [rfl; (split <;> rfl)]
@[simp] theorem State.sendVector_host_msixEnable (v) : (s.sendVector v).host.msixEnable = s.host.msixEnable := by
  unfold State.sendVector; simp only [State.updHost_host]; split <;> [rfl; (split <;> rfl)]
@[simp] theorem State.sendVector_host_msixFuncMask (v) : (s.sendVector v).host.msixFuncMask = s.host.msixFuncMask := by
  unfold State.sendVector; simp only [State.updHost_host]; split <;> [rfl; (split <;> rfl)]
@[simp] theorem State.sendVector_host_msixVecMask (v) : (s.sendVector v).host.msixVecMask = s.host.msixVecMask := by
  unfold State.sendVector; simp only [State.updHost_host]; split <;> [rfl; (split <;> rfl)]
@[simp] theorem State.sendVector_host_msixTable (v) : (s.sendVector v).host.msixTable = s.host.msixTable := by
  unfold State.sendVector; simp only [State.updHost_host]; split <;> [rfl; (split <;> rfl)]
@[simp] theorem State.sendVector_host_loHeld (v) : (s.sendVector v).host.loHeld = s.host.loHeld := by
  unfold State.sendVector; simp only [State.updHost_host]; split <;> [rfl; (split <;> rfl)]
@[simp] theorem State.sendVector_host_bar2Out (v) : (s.sendVector v).host.bar2Out = s.host.bar2Out := by
  unfold State.sendVector; simp only [State.updHost_host]; split <;> [rfl; (split <;> rfl)]
@[simp] theorem State.sendVector_host_aerDropped (v) : (s.sendVector v).host.aerDropped = s.host.aerDropped := by
  unfold State.sendVector; simp only [State.updHost_host]; split <;> [rfl; (split <;> rfl)]

/-- Sending interrupts changes nothing but what is sent and what is held pending. -/
theorem settle_eq (s0 s : State) : ∃ pba sent, settle s0 s = { s with host := { s.host with msixPba := pba, msixSent := sent } } := by
  unfold settle
  suffices H : ∀ (vs : List Nat) (t : State), (∃ pba sent, t = { s with host := { s.host with msixPba := pba, msixSent := sent } }) →
      ∃ pba sent, vs.foldl (fun t v => if s.intPending v && !s0.intPending v then t.sendVector v else t) t =
        { s with host := { s.host with msixPba := pba, msixSent := sent } } from H _ s ⟨_, _, rfl⟩
  intro vs
  induction vs with
  | nil => exact fun t h => h
  | cons v vs ih =>
    intro t h
    obtain ⟨pba, sent, rfl⟩ := h
    refine ih _ ?_
    beta_reduce
    split
    · unfold State.sendVector State.updHost
      dsimp only
      split
      · exact ⟨_, _, rfl⟩
      · split <;> exact ⟨_, _, rfl⟩
    · exact ⟨_, _, rfl⟩

@[simp] theorem settle_pending (s0 : State) : (settle s0 s).pending = s.pending := by
  obtain ⟨p, q, h⟩ := settle_eq s0 s; rw [h]
@[simp] theorem settle_free (s0 : State) : (settle s0 s).free = s.free := by
  obtain ⟨p, q, h⟩ := settle_eq s0 s; rw [h]
@[simp] theorem settle_boot (s0 : State) : (settle s0 s).boot = s.boot := by
  obtain ⟨p, q, h⟩ := settle_eq s0 s; rw [h]
@[simp] theorem settle_fuse (s0 : State) : (settle s0 s).fuse = s.fuse := by
  obtain ⟨p, q, h⟩ := settle_eq s0 s; rw [h]
@[simp] theorem settle_time (s0 : State) : (settle s0 s).time = s.time := by
  obtain ⟨p, q, h⟩ := settle_eq s0 s; rw [h]
@[simp] theorem settle_geo (s0 : State) : (settle s0 s).geo = s.geo := by
  obtain ⟨p, q, h⟩ := settle_eq s0 s; rw [h]
@[simp] theorem settle_bat (s0 : State) : (settle s0 s).bat = s.bat := by
  obtain ⟨p, q, h⟩ := settle_eq s0 s; rw [h]
@[simp] theorem settle_fire (s0 : State) : (settle s0 s).fire = s.fire := by
  obtain ⟨p, q, h⟩ := settle_eq s0 s; rw [h]
@[simp] theorem settle_rlConfig (s0 : State) : (settle s0 s).rlConfig = s.rlConfig := by
  obtain ⟨p, q, h⟩ := settle_eq s0 s; rw [h]
@[simp] theorem settle_port (s0 : State) : (settle s0 s).port = s.port := by
  obtain ⟨p, q, h⟩ := settle_eq s0 s; rw [h]
@[simp] theorem settle_head (s0 : State) : (settle s0 s).head = s.head := by
  obtain ⟨p, q, h⟩ := settle_eq s0 s; rw [h]
@[simp] theorem settle_cal (s0 : State) : (settle s0 s).cal = s.cal := by
  obtain ⟨p, q, h⟩ := settle_eq s0 s; rw [h]
@[simp] theorem settle_nvm (s0 : State) : (settle s0 s).nvm = s.nvm := by
  obtain ⟨p, q, h⟩ := settle_eq s0 s; rw [h]
@[simp] theorem settle_slate (s0 : State) : (settle s0 s).slate = s.slate := by
  obtain ⟨p, q, h⟩ := settle_eq s0 s; rw [h]
@[simp] theorem settle_enc (s0 : State) : (settle s0 s).enc = s.enc := by
  obtain ⟨p, q, h⟩ := settle_eq s0 s; rw [h]
@[simp] theorem settle_est (s0 : State) : (settle s0 s).est = s.est := by
  obtain ⟨p, q, h⟩ := settle_eq s0 s; rw [h]
@[simp] theorem settle_axis (s0 : State) : (settle s0 s).axis = s.axis := by
  obtain ⟨p, q, h⟩ := settle_eq s0 s; rw [h]
@[simp] theorem settle_trig (s0 : State) : (settle s0 s).trig = s.trig := by
  obtain ⟨p, q, h⟩ := settle_eq s0 s; rw [h]
@[simp] theorem settle_cam (s0 : State) : (settle s0 s).cam = s.cam := by
  obtain ⟨p, q, h⟩ := settle_eq s0 s; rw [h]
@[simp] theorem settle_vis (s0 : State) : (settle s0 s).vis = s.vis := by
  obtain ⟨p, q, h⟩ := settle_eq s0 s; rw [h]
@[simp] theorem settle_loop (s0 : State) : (settle s0 s).loop = s.loop := by
  obtain ⟨p, q, h⟩ := settle_eq s0 s; rw [h]
@[simp] theorem settle_twin (s0 : State) : (settle s0 s).twin = s.twin := by
  obtain ⟨p, q, h⟩ := settle_eq s0 s; rw [h]
@[simp] theorem settle_dram (s0 : State) : (settle s0 s).dram = s.dram := by
  obtain ⟨p, q, h⟩ := settle_eq s0 s; rw [h]
@[simp] theorem settle_dma (s0 : State) : (settle s0 s).dma = s.dma := by
  obtain ⟨p, q, h⟩ := settle_eq s0 s; rw [h]
@[simp] theorem settle_pwr (s0 : State) : (settle s0 s).pwr = s.pwr := by
  obtain ⟨p, q, h⟩ := settle_eq s0 s; rw [h]
@[simp] theorem settle_health (s0 : State) : (settle s0 s).health = s.health := by
  obtain ⟨p, q, h⟩ := settle_eq s0 s; rw [h]
@[simp] theorem settle_log (s0 : State) : (settle s0 s).log = s.log := by
  obtain ⟨p, q, h⟩ := settle_eq s0 s; rw [h]
@[simp] theorem settle_host_live (s0 : State) : (settle s0 s).host.live = s.host.live := by
  obtain ⟨p, q, h⟩ := settle_eq s0 s; rw [h]
@[simp] theorem settle_host_perst (s0 : State) : (settle s0 s).host.perst = s.host.perst := by
  obtain ⟨p, q, h⟩ := settle_eq s0 s; rw [h]
@[simp] theorem settle_host_doorbell (s0 : State) : (settle s0 s).host.doorbell = s.host.doorbell := by
  obtain ⟨p, q, h⟩ := settle_eq s0 s; rw [h]
@[simp] theorem settle_host_busy (s0 : State) : (settle s0 s).host.busy = s.host.busy := by
  obtain ⟨p, q, h⟩ := settle_eq s0 s; rw [h]
@[simp] theorem settle_host_done (s0 : State) : (settle s0 s).host.done = s.host.done := by
  obtain ⟨p, q, h⟩ := settle_eq s0 s; rw [h]
@[simp] theorem settle_host_cancel (s0 : State) : (settle s0 s).host.cancel = s.host.cancel := by
  obtain ⟨p, q, h⟩ := settle_eq s0 s; rw [h]
@[simp] theorem settle_host_intMask (s0 : State) : (settle s0 s).host.intMask = s.host.intMask := by
  obtain ⟨p, q, h⟩ := settle_eq s0 s; rw [h]
@[simp] theorem settle_host_resp (s0 : State) : (settle s0 s).host.resp = s.host.resp := by
  obtain ⟨p, q, h⟩ := settle_eq s0 s; rw [h]
@[simp] theorem settle_host_reqArea (s0 : State) : (settle s0 s).host.reqArea = s.host.reqArea := by
  obtain ⟨p, q, h⟩ := settle_eq s0 s; rw [h]
@[simp] theorem settle_host_held (s0 : State) : (settle s0 s).host.held = s.host.held := by
  obtain ⟨p, q, h⟩ := settle_eq s0 s; rw [h]
@[simp] theorem settle_host_inflight (s0 : State) : (settle s0 s).host.inflight = s.host.inflight := by
  obtain ⟨p, q, h⟩ := settle_eq s0 s; rw [h]
@[simp] theorem settle_host_mbProtocol (s0 : State) : (settle s0 s).host.mbProtocol = s.host.mbProtocol := by
  obtain ⟨p, q, h⟩ := settle_eq s0 s; rw [h]
@[simp] theorem settle_host_restarted (s0 : State) : (settle s0 s).host.restarted = s.host.restarted := by
  obtain ⟨p, q, h⟩ := settle_eq s0 s; rw [h]
@[simp] theorem settle_host_alert (s0 : State) : (settle s0 s).host.alert = s.host.alert := by
  obtain ⟨p, q, h⟩ := settle_eq s0 s; rw [h]
@[simp] theorem settle_host_mask (s0 : State) : (settle s0 s).host.mask = s.host.mask := by
  obtain ⟨p, q, h⟩ := settle_eq s0 s; rw [h]
@[simp] theorem settle_host_msixEnable (s0 : State) : (settle s0 s).host.msixEnable = s.host.msixEnable := by
  obtain ⟨p, q, h⟩ := settle_eq s0 s; rw [h]
@[simp] theorem settle_host_msixFuncMask (s0 : State) : (settle s0 s).host.msixFuncMask = s.host.msixFuncMask := by
  obtain ⟨p, q, h⟩ := settle_eq s0 s; rw [h]
@[simp] theorem settle_host_msixVecMask (s0 : State) : (settle s0 s).host.msixVecMask = s.host.msixVecMask := by
  obtain ⟨p, q, h⟩ := settle_eq s0 s; rw [h]
@[simp] theorem settle_host_msixTable (s0 : State) : (settle s0 s).host.msixTable = s.host.msixTable := by
  obtain ⟨p, q, h⟩ := settle_eq s0 s; rw [h]
@[simp] theorem settle_host_loHeld (s0 : State) : (settle s0 s).host.loHeld = s.host.loHeld := by
  obtain ⟨p, q, h⟩ := settle_eq s0 s; rw [h]
@[simp] theorem settle_host_bar2Out (s0 : State) : (settle s0 s).host.bar2Out = s.host.bar2Out := by
  obtain ⟨p, q, h⟩ := settle_eq s0 s; rw [h]
@[simp] theorem settle_host_aerDropped (s0 : State) : (settle s0 s).host.aerDropped = s.host.aerDropped := by
  obtain ⟨p, q, h⟩ := settle_eq s0 s; rw [h]

@[simp] theorem keep_settle_free (s0 : State) : (keep s0 (settle s0 s)).free = s.free := settle_free s s0
@[simp] theorem keep_settle_boot (s0 : State) : (keep s0 (settle s0 s)).boot = s.boot := settle_boot s s0
@[simp] theorem keep_settle_time (s0 : State) : (keep s0 (settle s0 s)).time = s.time := settle_time s s0
@[simp] theorem keep_settle_geo (s0 : State) : (keep s0 (settle s0 s)).geo = s.geo := settle_geo s s0
@[simp] theorem keep_settle_bat (s0 : State) : (keep s0 (settle s0 s)).bat = s.bat := settle_bat s s0
@[simp] theorem keep_settle_fire (s0 : State) : (keep s0 (settle s0 s)).fire = s.fire := settle_fire s s0
@[simp] theorem keep_settle_rlConfig (s0 : State) : (keep s0 (settle s0 s)).rlConfig = s.rlConfig := settle_rlConfig s s0
@[simp] theorem keep_settle_port (s0 : State) : (keep s0 (settle s0 s)).port = s.port := settle_port s s0
@[simp] theorem keep_settle_head (s0 : State) : (keep s0 (settle s0 s)).head = s.head := settle_head s s0
@[simp] theorem keep_settle_cal (s0 : State) : (keep s0 (settle s0 s)).cal = s.cal := settle_cal s s0
@[simp] theorem keep_settle_nvm (s0 : State) : (keep s0 (settle s0 s)).nvm = s.nvm := settle_nvm s s0
@[simp] theorem keep_settle_slate (s0 : State) : (keep s0 (settle s0 s)).slate = s.slate := settle_slate s s0
@[simp] theorem keep_settle_enc (s0 : State) : (keep s0 (settle s0 s)).enc = s.enc := settle_enc s s0
@[simp] theorem keep_settle_est (s0 : State) : (keep s0 (settle s0 s)).est = s.est := settle_est s s0
@[simp] theorem keep_settle_axis (s0 : State) : (keep s0 (settle s0 s)).axis = s.axis := settle_axis s s0
@[simp] theorem keep_settle_trig (s0 : State) : (keep s0 (settle s0 s)).trig = s.trig := settle_trig s s0
@[simp] theorem keep_settle_cam (s0 : State) : (keep s0 (settle s0 s)).cam = s.cam := settle_cam s s0
@[simp] theorem keep_settle_vis (s0 : State) : (keep s0 (settle s0 s)).vis = s.vis := settle_vis s s0
@[simp] theorem keep_settle_loop (s0 : State) : (keep s0 (settle s0 s)).loop = s.loop := settle_loop s s0
@[simp] theorem keep_settle_twin (s0 : State) : (keep s0 (settle s0 s)).twin = s.twin := settle_twin s s0
@[simp] theorem keep_settle_dram (s0 : State) : (keep s0 (settle s0 s)).dram = s.dram := settle_dram s s0
@[simp] theorem keep_settle_dma (s0 : State) : (keep s0 (settle s0 s)).dma = s.dma := settle_dma s s0
@[simp] theorem keep_settle_pwr (s0 : State) : (keep s0 (settle s0 s)).pwr = s.pwr := settle_pwr s s0
@[simp] theorem keep_settle_health (s0 : State) : (keep s0 (settle s0 s)).health = s.health := settle_health s s0
@[simp] theorem keep_settle_log (s0 : State) : (keep s0 (settle s0 s)).log = s.log := settle_log s s0
@[simp] theorem keep_settle_host_live (s0 : State) : (keep s0 (settle s0 s)).host.live = s.host.live := settle_host_live s s0
@[simp] theorem keep_settle_host_perst (s0 : State) : (keep s0 (settle s0 s)).host.perst = s.host.perst := settle_host_perst s s0
@[simp] theorem keep_settle_host_doorbell (s0 : State) : (keep s0 (settle s0 s)).host.doorbell = s.host.doorbell := settle_host_doorbell s s0
@[simp] theorem keep_settle_host_busy (s0 : State) : (keep s0 (settle s0 s)).host.busy = s.host.busy := settle_host_busy s s0
@[simp] theorem keep_settle_host_done (s0 : State) : (keep s0 (settle s0 s)).host.done = s.host.done := settle_host_done s s0
@[simp] theorem keep_settle_host_cancel (s0 : State) : (keep s0 (settle s0 s)).host.cancel = s.host.cancel := settle_host_cancel s s0
@[simp] theorem keep_settle_host_intMask (s0 : State) : (keep s0 (settle s0 s)).host.intMask = s.host.intMask := settle_host_intMask s s0
@[simp] theorem keep_settle_host_resp (s0 : State) : (keep s0 (settle s0 s)).host.resp = s.host.resp := settle_host_resp s s0
@[simp] theorem keep_settle_host_reqArea (s0 : State) : (keep s0 (settle s0 s)).host.reqArea = s.host.reqArea := settle_host_reqArea s s0
@[simp] theorem keep_settle_host_held (s0 : State) : (keep s0 (settle s0 s)).host.held = s.host.held := settle_host_held s s0
@[simp] theorem keep_settle_host_inflight (s0 : State) : (keep s0 (settle s0 s)).host.inflight = s.host.inflight := settle_host_inflight s s0
@[simp] theorem keep_settle_host_mbProtocol (s0 : State) : (keep s0 (settle s0 s)).host.mbProtocol = s.host.mbProtocol := settle_host_mbProtocol s s0
@[simp] theorem keep_settle_host_restarted (s0 : State) : (keep s0 (settle s0 s)).host.restarted = s.host.restarted := settle_host_restarted s s0
@[simp] theorem keep_settle_host_alert (s0 : State) : (keep s0 (settle s0 s)).host.alert = s.host.alert := settle_host_alert s s0
@[simp] theorem keep_settle_host_mask (s0 : State) : (keep s0 (settle s0 s)).host.mask = s.host.mask := settle_host_mask s s0
@[simp] theorem keep_settle_host_msixEnable (s0 : State) : (keep s0 (settle s0 s)).host.msixEnable = s.host.msixEnable := settle_host_msixEnable s s0
@[simp] theorem keep_settle_host_msixFuncMask (s0 : State) : (keep s0 (settle s0 s)).host.msixFuncMask = s.host.msixFuncMask := settle_host_msixFuncMask s s0
@[simp] theorem keep_settle_host_msixVecMask (s0 : State) : (keep s0 (settle s0 s)).host.msixVecMask = s.host.msixVecMask := settle_host_msixVecMask s s0
@[simp] theorem keep_settle_host_msixTable (s0 : State) : (keep s0 (settle s0 s)).host.msixTable = s.host.msixTable := settle_host_msixTable s s0
@[simp] theorem keep_settle_host_loHeld (s0 : State) : (keep s0 (settle s0 s)).host.loHeld = s.host.loHeld := settle_host_loHeld s s0
@[simp] theorem keep_settle_host_bar2Out (s0 : State) : (keep s0 (settle s0 s)).host.bar2Out = s.host.bar2Out := settle_host_bar2Out s s0
@[simp] theorem keep_settle_host_aerDropped (s0 : State) : (keep s0 (settle s0 s)).host.aerDropped = s.host.aerDropped := settle_host_aerDropped s s0
@[simp] theorem keep_pending (s0 : State) : (keep s0 s).pending = s0.pending := rfl
@[simp] theorem keep_fuse (s0 : State) : (keep s0 s).fuse = s0.fuse := rfl

@[simp] theorem State.logSecond_hostCore : (s.logSecond).hostCore = s.hostCore := by
  unfold State.logSecond; split <;> rfl
@[simp] theorem State.logSecond_pending : (s.logSecond).pending = s.pending := by
  unfold State.logSecond; split <;> rfl
@[simp] theorem State.logSecond_free : (s.logSecond).free = s.free := by
  unfold State.logSecond; split <;> rfl
@[simp] theorem State.logSecond_host : (s.logSecond).host = s.host := by
  unfold State.logSecond; split <;> rfl
@[simp] theorem State.logSecond_boot : (s.logSecond).boot = s.boot := by
  unfold State.logSecond; split <;> rfl
@[simp] theorem State.logSecond_fuse : (s.logSecond).fuse = s.fuse := by
  unfold State.logSecond; split <;> rfl
@[simp] theorem State.logSecond_time : (s.logSecond).time = s.time := by
  unfold State.logSecond; split <;> rfl
@[simp] theorem State.logSecond_geo : (s.logSecond).geo = s.geo := by
  unfold State.logSecond; split <;> rfl
@[simp] theorem State.logSecond_bat : (s.logSecond).bat = s.bat := by
  unfold State.logSecond; split <;> rfl
@[simp] theorem State.logSecond_fire : (s.logSecond).fire = s.fire := by
  unfold State.logSecond; split <;> rfl
@[simp] theorem State.logSecond_rlConfig : (s.logSecond).rlConfig = s.rlConfig := by
  unfold State.logSecond; split <;> rfl
@[simp] theorem State.logSecond_port : (s.logSecond).port = s.port := by
  unfold State.logSecond; split <;> rfl
@[simp] theorem State.logSecond_head : (s.logSecond).head = s.head := by
  unfold State.logSecond; split <;> rfl
@[simp] theorem State.logSecond_cal : (s.logSecond).cal = s.cal := by
  unfold State.logSecond; split <;> rfl
@[simp] theorem State.logSecond_nvm : (s.logSecond).nvm = s.nvm := by
  unfold State.logSecond; split <;> rfl
@[simp] theorem State.logSecond_slate : (s.logSecond).slate = s.slate := by
  unfold State.logSecond; split <;> rfl
@[simp] theorem State.logSecond_enc : (s.logSecond).enc = s.enc := by
  unfold State.logSecond; split <;> rfl
@[simp] theorem State.logSecond_est : (s.logSecond).est = s.est := by
  unfold State.logSecond; split <;> rfl
@[simp] theorem State.logSecond_axis : (s.logSecond).axis = s.axis := by
  unfold State.logSecond; split <;> rfl
@[simp] theorem State.logSecond_trig : (s.logSecond).trig = s.trig := by
  unfold State.logSecond; split <;> rfl
@[simp] theorem State.logSecond_cam : (s.logSecond).cam = s.cam := by
  unfold State.logSecond; split <;> rfl
@[simp] theorem State.logSecond_vis : (s.logSecond).vis = s.vis := by
  unfold State.logSecond; split <;> rfl
@[simp] theorem State.logSecond_loop : (s.logSecond).loop = s.loop := by
  unfold State.logSecond; split <;> rfl
@[simp] theorem State.logSecond_twin : (s.logSecond).twin = s.twin := by
  unfold State.logSecond; split <;> rfl
@[simp] theorem State.logSecond_dram : (s.logSecond).dram = s.dram := by
  unfold State.logSecond; split <;> rfl
@[simp] theorem State.logSecond_dma : (s.logSecond).dma = s.dma := by
  unfold State.logSecond; split <;> rfl
@[simp] theorem State.logSecond_pwr : (s.logSecond).pwr = s.pwr := by
  unfold State.logSecond; split <;> rfl
@[simp] theorem State.logSecond_health : (s.logSecond).health = s.health := by
  unfold State.logSecond; split <;> rfl

@[simp] theorem State.logEventR_hostCore (r c i d) : (s.logEventR r c i d).hostCore = s.hostCore := by
  unfold State.logEventR; dsimp only; split <;> [skip; split] <;> simp
@[simp] theorem State.logEventR_pending (r c i d) : (s.logEventR r c i d).pending = s.pending := by
  unfold State.logEventR; dsimp only; split <;> [skip; split] <;> simp
@[simp] theorem State.logEventR_free (r c i d) : (s.logEventR r c i d).free = s.free := by
  unfold State.logEventR; dsimp only; split <;> [skip; split] <;> simp
@[simp] theorem State.logEventR_boot (r c i d) : (s.logEventR r c i d).boot = s.boot := by
  unfold State.logEventR; dsimp only; split <;> [skip; split] <;> simp
@[simp] theorem State.logEventR_fuse (r c i d) : (s.logEventR r c i d).fuse = s.fuse := by
  unfold State.logEventR; dsimp only; split <;> [skip; split] <;> simp
@[simp] theorem State.logEventR_time (r c i d) : (s.logEventR r c i d).time = s.time := by
  unfold State.logEventR; dsimp only; split <;> [skip; split] <;> simp
@[simp] theorem State.logEventR_geo (r c i d) : (s.logEventR r c i d).geo = s.geo := by
  unfold State.logEventR; dsimp only; split <;> [skip; split] <;> simp
@[simp] theorem State.logEventR_bat (r c i d) : (s.logEventR r c i d).bat = s.bat := by
  unfold State.logEventR; dsimp only; split <;> [skip; split] <;> simp
@[simp] theorem State.logEventR_fire (r c i d) : (s.logEventR r c i d).fire = s.fire := by
  unfold State.logEventR; dsimp only; split <;> [skip; split] <;> simp
@[simp] theorem State.logEventR_rlConfig (r c i d) : (s.logEventR r c i d).rlConfig = s.rlConfig := by
  unfold State.logEventR; dsimp only; split <;> [skip; split] <;> simp
@[simp] theorem State.logEventR_port (r c i d) : (s.logEventR r c i d).port = s.port := by
  unfold State.logEventR; dsimp only; split <;> [skip; split] <;> simp
@[simp] theorem State.logEventR_head (r c i d) : (s.logEventR r c i d).head = s.head := by
  unfold State.logEventR; dsimp only; split <;> [skip; split] <;> simp
@[simp] theorem State.logEventR_cal (r c i d) : (s.logEventR r c i d).cal = s.cal := by
  unfold State.logEventR; dsimp only; split <;> [skip; split] <;> simp
@[simp] theorem State.logEventR_nvm (r c i d) : (s.logEventR r c i d).nvm = s.nvm := by
  unfold State.logEventR; dsimp only; split <;> [skip; split] <;> simp
@[simp] theorem State.logEventR_slate (r c i d) : (s.logEventR r c i d).slate = s.slate := by
  unfold State.logEventR; dsimp only; split <;> [skip; split] <;> simp
@[simp] theorem State.logEventR_enc (r c i d) : (s.logEventR r c i d).enc = s.enc := by
  unfold State.logEventR; dsimp only; split <;> [skip; split] <;> simp
@[simp] theorem State.logEventR_est (r c i d) : (s.logEventR r c i d).est = s.est := by
  unfold State.logEventR; dsimp only; split <;> [skip; split] <;> simp
@[simp] theorem State.logEventR_axis (r c i d) : (s.logEventR r c i d).axis = s.axis := by
  unfold State.logEventR; dsimp only; split <;> [skip; split] <;> simp
@[simp] theorem State.logEventR_trig (r c i d) : (s.logEventR r c i d).trig = s.trig := by
  unfold State.logEventR; dsimp only; split <;> [skip; split] <;> simp
@[simp] theorem State.logEventR_cam (r c i d) : (s.logEventR r c i d).cam = s.cam := by
  unfold State.logEventR; dsimp only; split <;> [skip; split] <;> simp
@[simp] theorem State.logEventR_vis (r c i d) : (s.logEventR r c i d).vis = s.vis := by
  unfold State.logEventR; dsimp only; split <;> [skip; split] <;> simp
@[simp] theorem State.logEventR_loop (r c i d) : (s.logEventR r c i d).loop = s.loop := by
  unfold State.logEventR; dsimp only; split <;> [skip; split] <;> simp
@[simp] theorem State.logEventR_twin (r c i d) : (s.logEventR r c i d).twin = s.twin := by
  unfold State.logEventR; dsimp only; split <;> [skip; split] <;> simp
@[simp] theorem State.logEventR_dram (r c i d) : (s.logEventR r c i d).dram = s.dram := by
  unfold State.logEventR; dsimp only; split <;> [skip; split] <;> simp
@[simp] theorem State.logEventR_dma (r c i d) : (s.logEventR r c i d).dma = s.dma := by
  unfold State.logEventR; dsimp only; split <;> [skip; split] <;> simp
@[simp] theorem State.logEventR_pwr (r c i d) : (s.logEventR r c i d).pwr = s.pwr := by
  unfold State.logEventR; dsimp only; split <;> [skip; split] <;> simp
@[simp] theorem State.logEventR_health (r c i d) : (s.logEventR r c i d).health = s.health := by
  unfold State.logEventR; dsimp only; split <;> [skip; split] <;> simp
@[simp] theorem State.logEventR_host_live (r c i d) : (s.logEventR r c i d).host.live = s.host.live := by
  unfold State.logEventR; dsimp only; split <;> [skip; split] <;> simp
@[simp] theorem State.logEventR_host_perst (r c i d) : (s.logEventR r c i d).host.perst = s.host.perst := by
  unfold State.logEventR; dsimp only; split <;> [skip; split] <;> simp
@[simp] theorem State.logEventR_host_doorbell (r c i d) : (s.logEventR r c i d).host.doorbell = s.host.doorbell := by
  unfold State.logEventR; dsimp only; split <;> [skip; split] <;> simp
@[simp] theorem State.logEventR_host_busy (r c i d) : (s.logEventR r c i d).host.busy = s.host.busy := by
  unfold State.logEventR; dsimp only; split <;> [skip; split] <;> simp
@[simp] theorem State.logEventR_host_done (r c i d) : (s.logEventR r c i d).host.done = s.host.done := by
  unfold State.logEventR; dsimp only; split <;> [skip; split] <;> simp
@[simp] theorem State.logEventR_host_cancel (r c i d) : (s.logEventR r c i d).host.cancel = s.host.cancel := by
  unfold State.logEventR; dsimp only; split <;> [skip; split] <;> simp
@[simp] theorem State.logEventR_host_intMask (r c i d) : (s.logEventR r c i d).host.intMask = s.host.intMask := by
  unfold State.logEventR; dsimp only; split <;> [skip; split] <;> simp
@[simp] theorem State.logEventR_host_resp (r c i d) : (s.logEventR r c i d).host.resp = s.host.resp := by
  unfold State.logEventR; dsimp only; split <;> [skip; split] <;> simp
@[simp] theorem State.logEventR_host_reqArea (r c i d) : (s.logEventR r c i d).host.reqArea = s.host.reqArea := by
  unfold State.logEventR; dsimp only; split <;> [skip; split] <;> simp
@[simp] theorem State.logEventR_host_held (r c i d) : (s.logEventR r c i d).host.held = s.host.held := by
  unfold State.logEventR; dsimp only; split <;> [skip; split] <;> simp
@[simp] theorem State.logEventR_host_inflight (r c i d) : (s.logEventR r c i d).host.inflight = s.host.inflight := by
  unfold State.logEventR; dsimp only; split <;> [skip; split] <;> simp
@[simp] theorem State.logEventR_host_mbProtocol (r c i d) : (s.logEventR r c i d).host.mbProtocol = s.host.mbProtocol := by
  unfold State.logEventR; dsimp only; split <;> [skip; split] <;> simp
@[simp] theorem State.logEventR_host_restarted (r c i d) : (s.logEventR r c i d).host.restarted = s.host.restarted := by
  unfold State.logEventR; dsimp only; split <;> [skip; split] <;> simp
@[simp] theorem State.logEventR_host_mask (r c i d) : (s.logEventR r c i d).host.mask = s.host.mask := by
  unfold State.logEventR; dsimp only; split <;> [skip; split] <;> simp
@[simp] theorem State.logEventR_host_msixEnable (r c i d) : (s.logEventR r c i d).host.msixEnable = s.host.msixEnable := by
  unfold State.logEventR; dsimp only; split <;> [skip; split] <;> simp
@[simp] theorem State.logEventR_host_msixFuncMask (r c i d) : (s.logEventR r c i d).host.msixFuncMask = s.host.msixFuncMask := by
  unfold State.logEventR; dsimp only; split <;> [skip; split] <;> simp
@[simp] theorem State.logEventR_host_msixVecMask (r c i d) : (s.logEventR r c i d).host.msixVecMask = s.host.msixVecMask := by
  unfold State.logEventR; dsimp only; split <;> [skip; split] <;> simp
@[simp] theorem State.logEventR_host_msixPba (r c i d) : (s.logEventR r c i d).host.msixPba = s.host.msixPba := by
  unfold State.logEventR; dsimp only; split <;> [skip; split] <;> simp
@[simp] theorem State.logEventR_host_msixTable (r c i d) : (s.logEventR r c i d).host.msixTable = s.host.msixTable := by
  unfold State.logEventR; dsimp only; split <;> [skip; split] <;> simp
@[simp] theorem State.logEventR_host_msixSent (r c i d) : (s.logEventR r c i d).host.msixSent = s.host.msixSent := by
  unfold State.logEventR; dsimp only; split <;> [skip; split] <;> simp
@[simp] theorem State.logEventR_host_loHeld (r c i d) : (s.logEventR r c i d).host.loHeld = s.host.loHeld := by
  unfold State.logEventR; dsimp only; split <;> [skip; split] <;> simp
@[simp] theorem State.logEventR_host_bar2Out (r c i d) : (s.logEventR r c i d).host.bar2Out = s.host.bar2Out := by
  unfold State.logEventR; dsimp only; split <;> [skip; split] <;> simp
@[simp] theorem State.logEventR_host_aerDropped (r c i d) : (s.logEventR r c i d).host.aerDropped = s.host.aerDropped := by
  unfold State.logEventR; dsimp only; split <;> [skip; split] <;> simp

@[simp] theorem State.logEvent_hostCore (c i d) : (s.logEvent c i d).hostCore = s.hostCore := State.logEventR_hostCore s _ _ _ _
@[simp] theorem State.logEvent_pending (c i d) : (s.logEvent c i d).pending = s.pending := State.logEventR_pending s _ _ _ _
@[simp] theorem State.logEvent_free (c i d) : (s.logEvent c i d).free = s.free := State.logEventR_free s _ _ _ _
@[simp] theorem State.logEvent_boot (c i d) : (s.logEvent c i d).boot = s.boot := State.logEventR_boot s _ _ _ _
@[simp] theorem State.logEvent_fuse (c i d) : (s.logEvent c i d).fuse = s.fuse := State.logEventR_fuse s _ _ _ _
@[simp] theorem State.logEvent_time (c i d) : (s.logEvent c i d).time = s.time := State.logEventR_time s _ _ _ _
@[simp] theorem State.logEvent_geo (c i d) : (s.logEvent c i d).geo = s.geo := State.logEventR_geo s _ _ _ _
@[simp] theorem State.logEvent_bat (c i d) : (s.logEvent c i d).bat = s.bat := State.logEventR_bat s _ _ _ _
@[simp] theorem State.logEvent_fire (c i d) : (s.logEvent c i d).fire = s.fire := State.logEventR_fire s _ _ _ _
@[simp] theorem State.logEvent_rlConfig (c i d) : (s.logEvent c i d).rlConfig = s.rlConfig := State.logEventR_rlConfig s _ _ _ _
@[simp] theorem State.logEvent_port (c i d) : (s.logEvent c i d).port = s.port := State.logEventR_port s _ _ _ _
@[simp] theorem State.logEvent_head (c i d) : (s.logEvent c i d).head = s.head := State.logEventR_head s _ _ _ _
@[simp] theorem State.logEvent_cal (c i d) : (s.logEvent c i d).cal = s.cal := State.logEventR_cal s _ _ _ _
@[simp] theorem State.logEvent_nvm (c i d) : (s.logEvent c i d).nvm = s.nvm := State.logEventR_nvm s _ _ _ _
@[simp] theorem State.logEvent_slate (c i d) : (s.logEvent c i d).slate = s.slate := State.logEventR_slate s _ _ _ _
@[simp] theorem State.logEvent_enc (c i d) : (s.logEvent c i d).enc = s.enc := State.logEventR_enc s _ _ _ _
@[simp] theorem State.logEvent_est (c i d) : (s.logEvent c i d).est = s.est := State.logEventR_est s _ _ _ _
@[simp] theorem State.logEvent_axis (c i d) : (s.logEvent c i d).axis = s.axis := State.logEventR_axis s _ _ _ _
@[simp] theorem State.logEvent_trig (c i d) : (s.logEvent c i d).trig = s.trig := State.logEventR_trig s _ _ _ _
@[simp] theorem State.logEvent_cam (c i d) : (s.logEvent c i d).cam = s.cam := State.logEventR_cam s _ _ _ _
@[simp] theorem State.logEvent_vis (c i d) : (s.logEvent c i d).vis = s.vis := State.logEventR_vis s _ _ _ _
@[simp] theorem State.logEvent_loop (c i d) : (s.logEvent c i d).loop = s.loop := State.logEventR_loop s _ _ _ _
@[simp] theorem State.logEvent_twin (c i d) : (s.logEvent c i d).twin = s.twin := State.logEventR_twin s _ _ _ _
@[simp] theorem State.logEvent_dram (c i d) : (s.logEvent c i d).dram = s.dram := State.logEventR_dram s _ _ _ _
@[simp] theorem State.logEvent_dma (c i d) : (s.logEvent c i d).dma = s.dma := State.logEventR_dma s _ _ _ _
@[simp] theorem State.logEvent_pwr (c i d) : (s.logEvent c i d).pwr = s.pwr := State.logEventR_pwr s _ _ _ _
@[simp] theorem State.logEvent_health (c i d) : (s.logEvent c i d).health = s.health := State.logEventR_health s _ _ _ _
@[simp] theorem State.logEvent_host_live (c i d) : (s.logEvent c i d).host.live = s.host.live := State.logEventR_host_live s _ _ _ _
@[simp] theorem State.logEvent_host_perst (c i d) : (s.logEvent c i d).host.perst = s.host.perst := State.logEventR_host_perst s _ _ _ _
@[simp] theorem State.logEvent_host_doorbell (c i d) : (s.logEvent c i d).host.doorbell = s.host.doorbell := State.logEventR_host_doorbell s _ _ _ _
@[simp] theorem State.logEvent_host_busy (c i d) : (s.logEvent c i d).host.busy = s.host.busy := State.logEventR_host_busy s _ _ _ _
@[simp] theorem State.logEvent_host_done (c i d) : (s.logEvent c i d).host.done = s.host.done := State.logEventR_host_done s _ _ _ _
@[simp] theorem State.logEvent_host_cancel (c i d) : (s.logEvent c i d).host.cancel = s.host.cancel := State.logEventR_host_cancel s _ _ _ _
@[simp] theorem State.logEvent_host_intMask (c i d) : (s.logEvent c i d).host.intMask = s.host.intMask := State.logEventR_host_intMask s _ _ _ _
@[simp] theorem State.logEvent_host_resp (c i d) : (s.logEvent c i d).host.resp = s.host.resp := State.logEventR_host_resp s _ _ _ _
@[simp] theorem State.logEvent_host_reqArea (c i d) : (s.logEvent c i d).host.reqArea = s.host.reqArea := State.logEventR_host_reqArea s _ _ _ _
@[simp] theorem State.logEvent_host_held (c i d) : (s.logEvent c i d).host.held = s.host.held := State.logEventR_host_held s _ _ _ _
@[simp] theorem State.logEvent_host_inflight (c i d) : (s.logEvent c i d).host.inflight = s.host.inflight := State.logEventR_host_inflight s _ _ _ _
@[simp] theorem State.logEvent_host_mbProtocol (c i d) : (s.logEvent c i d).host.mbProtocol = s.host.mbProtocol := State.logEventR_host_mbProtocol s _ _ _ _
@[simp] theorem State.logEvent_host_restarted (c i d) : (s.logEvent c i d).host.restarted = s.host.restarted := State.logEventR_host_restarted s _ _ _ _
@[simp] theorem State.logEvent_host_mask (c i d) : (s.logEvent c i d).host.mask = s.host.mask := State.logEventR_host_mask s _ _ _ _
@[simp] theorem State.logEvent_host_msixEnable (c i d) : (s.logEvent c i d).host.msixEnable = s.host.msixEnable := State.logEventR_host_msixEnable s _ _ _ _
@[simp] theorem State.logEvent_host_msixFuncMask (c i d) : (s.logEvent c i d).host.msixFuncMask = s.host.msixFuncMask := State.logEventR_host_msixFuncMask s _ _ _ _
@[simp] theorem State.logEvent_host_msixVecMask (c i d) : (s.logEvent c i d).host.msixVecMask = s.host.msixVecMask := State.logEventR_host_msixVecMask s _ _ _ _
@[simp] theorem State.logEvent_host_msixPba (c i d) : (s.logEvent c i d).host.msixPba = s.host.msixPba := State.logEventR_host_msixPba s _ _ _ _
@[simp] theorem State.logEvent_host_msixTable (c i d) : (s.logEvent c i d).host.msixTable = s.host.msixTable := State.logEventR_host_msixTable s _ _ _ _
@[simp] theorem State.logEvent_host_msixSent (c i d) : (s.logEvent c i d).host.msixSent = s.host.msixSent := State.logEventR_host_msixSent s _ _ _ _
@[simp] theorem State.logEvent_host_loHeld (c i d) : (s.logEvent c i d).host.loHeld = s.host.loHeld := State.logEventR_host_loHeld s _ _ _ _
@[simp] theorem State.logEvent_host_bar2Out (c i d) : (s.logEvent c i d).host.bar2Out = s.host.bar2Out := State.logEventR_host_bar2Out s _ _ _ _
@[simp] theorem State.logEvent_host_aerDropped (c i d) : (s.logEvent c i d).host.aerDropped = s.host.aerDropped := State.logEventR_host_aerDropped s _ _ _ _

@[simp] theorem State.setCause_hostCore (c i) : (s.setCause c i).hostCore = s.hostCore := by
  unfold State.setCause; dsimp only; split <;> simp
@[simp] theorem State.setCause_pending (c i) : (s.setCause c i).pending = s.pending := by
  unfold State.setCause; dsimp only; split <;> simp
@[simp] theorem State.setCause_free (c i) : (s.setCause c i).free = s.free := by
  unfold State.setCause; dsimp only; split <;> simp
@[simp] theorem State.setCause_boot (c i) : (s.setCause c i).boot = s.boot := by
  unfold State.setCause; dsimp only; split <;> simp
@[simp] theorem State.setCause_fuse (c i) : (s.setCause c i).fuse = s.fuse := by
  unfold State.setCause; dsimp only; split <;> simp
@[simp] theorem State.setCause_time (c i) : (s.setCause c i).time = s.time := by
  unfold State.setCause; dsimp only; split <;> simp
@[simp] theorem State.setCause_geo (c i) : (s.setCause c i).geo = s.geo := by
  unfold State.setCause; dsimp only; split <;> simp
@[simp] theorem State.setCause_bat (c i) : (s.setCause c i).bat = s.bat := by
  unfold State.setCause; dsimp only; split <;> simp
@[simp] theorem State.setCause_fire (c i) : (s.setCause c i).fire = s.fire := by
  unfold State.setCause; dsimp only; split <;> simp
@[simp] theorem State.setCause_rlConfig (c i) : (s.setCause c i).rlConfig = s.rlConfig := by
  unfold State.setCause; dsimp only; split <;> simp
@[simp] theorem State.setCause_port (c i) : (s.setCause c i).port = s.port := by
  unfold State.setCause; dsimp only; split <;> simp
@[simp] theorem State.setCause_head (c i) : (s.setCause c i).head = s.head := by
  unfold State.setCause; dsimp only; split <;> simp
@[simp] theorem State.setCause_cal (c i) : (s.setCause c i).cal = s.cal := by
  unfold State.setCause; dsimp only; split <;> simp
@[simp] theorem State.setCause_nvm (c i) : (s.setCause c i).nvm = s.nvm := by
  unfold State.setCause; dsimp only; split <;> simp
@[simp] theorem State.setCause_slate (c i) : (s.setCause c i).slate = s.slate := by
  unfold State.setCause; dsimp only; split <;> simp
@[simp] theorem State.setCause_enc (c i) : (s.setCause c i).enc = s.enc := by
  unfold State.setCause; dsimp only; split <;> simp
@[simp] theorem State.setCause_est (c i) : (s.setCause c i).est = s.est := by
  unfold State.setCause; dsimp only; split <;> simp
@[simp] theorem State.setCause_axis (c i) : (s.setCause c i).axis = s.axis := by
  unfold State.setCause; dsimp only; split <;> simp
@[simp] theorem State.setCause_trig (c i) : (s.setCause c i).trig = s.trig := by
  unfold State.setCause; dsimp only; split <;> simp
@[simp] theorem State.setCause_cam (c i) : (s.setCause c i).cam = s.cam := by
  unfold State.setCause; dsimp only; split <;> simp
@[simp] theorem State.setCause_vis (c i) : (s.setCause c i).vis = s.vis := by
  unfold State.setCause; dsimp only; split <;> simp
@[simp] theorem State.setCause_loop (c i) : (s.setCause c i).loop = s.loop := by
  unfold State.setCause; dsimp only; split <;> simp
@[simp] theorem State.setCause_twin (c i) : (s.setCause c i).twin = s.twin := by
  unfold State.setCause; dsimp only; split <;> simp
@[simp] theorem State.setCause_dram (c i) : (s.setCause c i).dram = s.dram := by
  unfold State.setCause; dsimp only; split <;> simp
@[simp] theorem State.setCause_dma (c i) : (s.setCause c i).dma = s.dma := by
  unfold State.setCause; dsimp only; split <;> simp
@[simp] theorem State.setCause_pwr (c i) : (s.setCause c i).pwr = s.pwr := by
  unfold State.setCause; dsimp only; split <;> simp
@[simp] theorem State.setCause_host_live (c i) : (s.setCause c i).host.live = s.host.live := by
  unfold State.setCause; dsimp only; split <;> simp
@[simp] theorem State.setCause_host_perst (c i) : (s.setCause c i).host.perst = s.host.perst := by
  unfold State.setCause; dsimp only; split <;> simp
@[simp] theorem State.setCause_host_doorbell (c i) : (s.setCause c i).host.doorbell = s.host.doorbell := by
  unfold State.setCause; dsimp only; split <;> simp
@[simp] theorem State.setCause_host_busy (c i) : (s.setCause c i).host.busy = s.host.busy := by
  unfold State.setCause; dsimp only; split <;> simp
@[simp] theorem State.setCause_host_done (c i) : (s.setCause c i).host.done = s.host.done := by
  unfold State.setCause; dsimp only; split <;> simp
@[simp] theorem State.setCause_host_cancel (c i) : (s.setCause c i).host.cancel = s.host.cancel := by
  unfold State.setCause; dsimp only; split <;> simp
@[simp] theorem State.setCause_host_intMask (c i) : (s.setCause c i).host.intMask = s.host.intMask := by
  unfold State.setCause; dsimp only; split <;> simp
@[simp] theorem State.setCause_host_resp (c i) : (s.setCause c i).host.resp = s.host.resp := by
  unfold State.setCause; dsimp only; split <;> simp
@[simp] theorem State.setCause_host_reqArea (c i) : (s.setCause c i).host.reqArea = s.host.reqArea := by
  unfold State.setCause; dsimp only; split <;> simp
@[simp] theorem State.setCause_host_held (c i) : (s.setCause c i).host.held = s.host.held := by
  unfold State.setCause; dsimp only; split <;> simp
@[simp] theorem State.setCause_host_inflight (c i) : (s.setCause c i).host.inflight = s.host.inflight := by
  unfold State.setCause; dsimp only; split <;> simp
@[simp] theorem State.setCause_host_mbProtocol (c i) : (s.setCause c i).host.mbProtocol = s.host.mbProtocol := by
  unfold State.setCause; dsimp only; split <;> simp
@[simp] theorem State.setCause_host_restarted (c i) : (s.setCause c i).host.restarted = s.host.restarted := by
  unfold State.setCause; dsimp only; split <;> simp
@[simp] theorem State.setCause_host_mask (c i) : (s.setCause c i).host.mask = s.host.mask := by
  unfold State.setCause; dsimp only; split <;> simp
@[simp] theorem State.setCause_host_msixEnable (c i) : (s.setCause c i).host.msixEnable = s.host.msixEnable := by
  unfold State.setCause; dsimp only; split <;> simp
@[simp] theorem State.setCause_host_msixFuncMask (c i) : (s.setCause c i).host.msixFuncMask = s.host.msixFuncMask := by
  unfold State.setCause; dsimp only; split <;> simp
@[simp] theorem State.setCause_host_msixVecMask (c i) : (s.setCause c i).host.msixVecMask = s.host.msixVecMask := by
  unfold State.setCause; dsimp only; split <;> simp
@[simp] theorem State.setCause_host_msixPba (c i) : (s.setCause c i).host.msixPba = s.host.msixPba := by
  unfold State.setCause; dsimp only; split <;> simp
@[simp] theorem State.setCause_host_msixTable (c i) : (s.setCause c i).host.msixTable = s.host.msixTable := by
  unfold State.setCause; dsimp only; split <;> simp
@[simp] theorem State.setCause_host_msixSent (c i) : (s.setCause c i).host.msixSent = s.host.msixSent := by
  unfold State.setCause; dsimp only; split <;> simp
@[simp] theorem State.setCause_host_loHeld (c i) : (s.setCause c i).host.loHeld = s.host.loHeld := by
  unfold State.setCause; dsimp only; split <;> simp
@[simp] theorem State.setCause_host_bar2Out (c i) : (s.setCause c i).host.bar2Out = s.host.bar2Out := by
  unfold State.setCause; dsimp only; split <;> simp
@[simp] theorem State.setCause_host_aerDropped (c i) : (s.setCause c i).host.aerDropped = s.host.aerDropped := by
  unfold State.setCause; dsimp only; split <;> simp

@[simp] theorem State.clearCause_hostCore (c) : (s.clearCause c).hostCore = s.hostCore := by
  unfold State.clearCause; dsimp only; split <;> simp
@[simp] theorem State.clearCause_pending (c) : (s.clearCause c).pending = s.pending := by
  unfold State.clearCause; dsimp only; split <;> simp
@[simp] theorem State.clearCause_free (c) : (s.clearCause c).free = s.free := by
  unfold State.clearCause; dsimp only; split <;> simp
@[simp] theorem State.clearCause_boot (c) : (s.clearCause c).boot = s.boot := by
  unfold State.clearCause; dsimp only; split <;> simp
@[simp] theorem State.clearCause_fuse (c) : (s.clearCause c).fuse = s.fuse := by
  unfold State.clearCause; dsimp only; split <;> simp
@[simp] theorem State.clearCause_time (c) : (s.clearCause c).time = s.time := by
  unfold State.clearCause; dsimp only; split <;> simp
@[simp] theorem State.clearCause_geo (c) : (s.clearCause c).geo = s.geo := by
  unfold State.clearCause; dsimp only; split <;> simp
@[simp] theorem State.clearCause_bat (c) : (s.clearCause c).bat = s.bat := by
  unfold State.clearCause; dsimp only; split <;> simp
@[simp] theorem State.clearCause_fire (c) : (s.clearCause c).fire = s.fire := by
  unfold State.clearCause; dsimp only; split <;> simp
@[simp] theorem State.clearCause_rlConfig (c) : (s.clearCause c).rlConfig = s.rlConfig := by
  unfold State.clearCause; dsimp only; split <;> simp
@[simp] theorem State.clearCause_port (c) : (s.clearCause c).port = s.port := by
  unfold State.clearCause; dsimp only; split <;> simp
@[simp] theorem State.clearCause_head (c) : (s.clearCause c).head = s.head := by
  unfold State.clearCause; dsimp only; split <;> simp
@[simp] theorem State.clearCause_cal (c) : (s.clearCause c).cal = s.cal := by
  unfold State.clearCause; dsimp only; split <;> simp
@[simp] theorem State.clearCause_nvm (c) : (s.clearCause c).nvm = s.nvm := by
  unfold State.clearCause; dsimp only; split <;> simp
@[simp] theorem State.clearCause_slate (c) : (s.clearCause c).slate = s.slate := by
  unfold State.clearCause; dsimp only; split <;> simp
@[simp] theorem State.clearCause_enc (c) : (s.clearCause c).enc = s.enc := by
  unfold State.clearCause; dsimp only; split <;> simp
@[simp] theorem State.clearCause_est (c) : (s.clearCause c).est = s.est := by
  unfold State.clearCause; dsimp only; split <;> simp
@[simp] theorem State.clearCause_axis (c) : (s.clearCause c).axis = s.axis := by
  unfold State.clearCause; dsimp only; split <;> simp
@[simp] theorem State.clearCause_trig (c) : (s.clearCause c).trig = s.trig := by
  unfold State.clearCause; dsimp only; split <;> simp
@[simp] theorem State.clearCause_cam (c) : (s.clearCause c).cam = s.cam := by
  unfold State.clearCause; dsimp only; split <;> simp
@[simp] theorem State.clearCause_vis (c) : (s.clearCause c).vis = s.vis := by
  unfold State.clearCause; dsimp only; split <;> simp
@[simp] theorem State.clearCause_loop (c) : (s.clearCause c).loop = s.loop := by
  unfold State.clearCause; dsimp only; split <;> simp
@[simp] theorem State.clearCause_twin (c) : (s.clearCause c).twin = s.twin := by
  unfold State.clearCause; dsimp only; split <;> simp
@[simp] theorem State.clearCause_dram (c) : (s.clearCause c).dram = s.dram := by
  unfold State.clearCause; dsimp only; split <;> simp
@[simp] theorem State.clearCause_dma (c) : (s.clearCause c).dma = s.dma := by
  unfold State.clearCause; dsimp only; split <;> simp
@[simp] theorem State.clearCause_pwr (c) : (s.clearCause c).pwr = s.pwr := by
  unfold State.clearCause; dsimp only; split <;> simp
@[simp] theorem State.clearCause_host_live (c) : (s.clearCause c).host.live = s.host.live := by
  unfold State.clearCause; dsimp only; split <;> simp
@[simp] theorem State.clearCause_host_perst (c) : (s.clearCause c).host.perst = s.host.perst := by
  unfold State.clearCause; dsimp only; split <;> simp
@[simp] theorem State.clearCause_host_doorbell (c) : (s.clearCause c).host.doorbell = s.host.doorbell := by
  unfold State.clearCause; dsimp only; split <;> simp
@[simp] theorem State.clearCause_host_busy (c) : (s.clearCause c).host.busy = s.host.busy := by
  unfold State.clearCause; dsimp only; split <;> simp
@[simp] theorem State.clearCause_host_done (c) : (s.clearCause c).host.done = s.host.done := by
  unfold State.clearCause; dsimp only; split <;> simp
@[simp] theorem State.clearCause_host_cancel (c) : (s.clearCause c).host.cancel = s.host.cancel := by
  unfold State.clearCause; dsimp only; split <;> simp
@[simp] theorem State.clearCause_host_intMask (c) : (s.clearCause c).host.intMask = s.host.intMask := by
  unfold State.clearCause; dsimp only; split <;> simp
@[simp] theorem State.clearCause_host_resp (c) : (s.clearCause c).host.resp = s.host.resp := by
  unfold State.clearCause; dsimp only; split <;> simp
@[simp] theorem State.clearCause_host_reqArea (c) : (s.clearCause c).host.reqArea = s.host.reqArea := by
  unfold State.clearCause; dsimp only; split <;> simp
@[simp] theorem State.clearCause_host_held (c) : (s.clearCause c).host.held = s.host.held := by
  unfold State.clearCause; dsimp only; split <;> simp
@[simp] theorem State.clearCause_host_inflight (c) : (s.clearCause c).host.inflight = s.host.inflight := by
  unfold State.clearCause; dsimp only; split <;> simp
@[simp] theorem State.clearCause_host_mbProtocol (c) : (s.clearCause c).host.mbProtocol = s.host.mbProtocol := by
  unfold State.clearCause; dsimp only; split <;> simp
@[simp] theorem State.clearCause_host_restarted (c) : (s.clearCause c).host.restarted = s.host.restarted := by
  unfold State.clearCause; dsimp only; split <;> simp
@[simp] theorem State.clearCause_host_mask (c) : (s.clearCause c).host.mask = s.host.mask := by
  unfold State.clearCause; dsimp only; split <;> simp
@[simp] theorem State.clearCause_host_msixEnable (c) : (s.clearCause c).host.msixEnable = s.host.msixEnable := by
  unfold State.clearCause; dsimp only; split <;> simp
@[simp] theorem State.clearCause_host_msixFuncMask (c) : (s.clearCause c).host.msixFuncMask = s.host.msixFuncMask := by
  unfold State.clearCause; dsimp only; split <;> simp
@[simp] theorem State.clearCause_host_msixVecMask (c) : (s.clearCause c).host.msixVecMask = s.host.msixVecMask := by
  unfold State.clearCause; dsimp only; split <;> simp
@[simp] theorem State.clearCause_host_msixPba (c) : (s.clearCause c).host.msixPba = s.host.msixPba := by
  unfold State.clearCause; dsimp only; split <;> simp
@[simp] theorem State.clearCause_host_msixTable (c) : (s.clearCause c).host.msixTable = s.host.msixTable := by
  unfold State.clearCause; dsimp only; split <;> simp
@[simp] theorem State.clearCause_host_msixSent (c) : (s.clearCause c).host.msixSent = s.host.msixSent := by
  unfold State.clearCause; dsimp only; split <;> simp
@[simp] theorem State.clearCause_host_loHeld (c) : (s.clearCause c).host.loHeld = s.host.loHeld := by
  unfold State.clearCause; dsimp only; split <;> simp
@[simp] theorem State.clearCause_host_bar2Out (c) : (s.clearCause c).host.bar2Out = s.host.bar2Out := by
  unfold State.clearCause; dsimp only; split <;> simp
@[simp] theorem State.clearCause_host_aerDropped (c) : (s.clearCause c).host.aerDropped = s.host.aerDropped := by
  unfold State.clearCause; dsimp only; split <;> simp

@[simp] theorem State.endCause_hostCore (c i) : (s.endCause c i).hostCore = s.hostCore := by
  unfold State.endCause; dsimp only; split <;> [skip; split <;> [skip; split]] <;> simp
@[simp] theorem State.endCause_pending (c i) : (s.endCause c i).pending = s.pending := by
  unfold State.endCause; dsimp only; split <;> [skip; split <;> [skip; split]] <;> simp
@[simp] theorem State.endCause_free (c i) : (s.endCause c i).free = s.free := by
  unfold State.endCause; dsimp only; split <;> [skip; split <;> [skip; split]] <;> simp
@[simp] theorem State.endCause_boot (c i) : (s.endCause c i).boot = s.boot := by
  unfold State.endCause; dsimp only; split <;> [skip; split <;> [skip; split]] <;> simp
@[simp] theorem State.endCause_fuse (c i) : (s.endCause c i).fuse = s.fuse := by
  unfold State.endCause; dsimp only; split <;> [skip; split <;> [skip; split]] <;> simp
@[simp] theorem State.endCause_time (c i) : (s.endCause c i).time = s.time := by
  unfold State.endCause; dsimp only; split <;> [skip; split <;> [skip; split]] <;> simp
@[simp] theorem State.endCause_geo (c i) : (s.endCause c i).geo = s.geo := by
  unfold State.endCause; dsimp only; split <;> [skip; split <;> [skip; split]] <;> simp
@[simp] theorem State.endCause_bat (c i) : (s.endCause c i).bat = s.bat := by
  unfold State.endCause; dsimp only; split <;> [skip; split <;> [skip; split]] <;> simp
@[simp] theorem State.endCause_fire (c i) : (s.endCause c i).fire = s.fire := by
  unfold State.endCause; dsimp only; split <;> [skip; split <;> [skip; split]] <;> simp
@[simp] theorem State.endCause_rlConfig (c i) : (s.endCause c i).rlConfig = s.rlConfig := by
  unfold State.endCause; dsimp only; split <;> [skip; split <;> [skip; split]] <;> simp
@[simp] theorem State.endCause_port (c i) : (s.endCause c i).port = s.port := by
  unfold State.endCause; dsimp only; split <;> [skip; split <;> [skip; split]] <;> simp
@[simp] theorem State.endCause_head (c i) : (s.endCause c i).head = s.head := by
  unfold State.endCause; dsimp only; split <;> [skip; split <;> [skip; split]] <;> simp
@[simp] theorem State.endCause_cal (c i) : (s.endCause c i).cal = s.cal := by
  unfold State.endCause; dsimp only; split <;> [skip; split <;> [skip; split]] <;> simp
@[simp] theorem State.endCause_nvm (c i) : (s.endCause c i).nvm = s.nvm := by
  unfold State.endCause; dsimp only; split <;> [skip; split <;> [skip; split]] <;> simp
@[simp] theorem State.endCause_slate (c i) : (s.endCause c i).slate = s.slate := by
  unfold State.endCause; dsimp only; split <;> [skip; split <;> [skip; split]] <;> simp
@[simp] theorem State.endCause_enc (c i) : (s.endCause c i).enc = s.enc := by
  unfold State.endCause; dsimp only; split <;> [skip; split <;> [skip; split]] <;> simp
@[simp] theorem State.endCause_est (c i) : (s.endCause c i).est = s.est := by
  unfold State.endCause; dsimp only; split <;> [skip; split <;> [skip; split]] <;> simp
@[simp] theorem State.endCause_axis (c i) : (s.endCause c i).axis = s.axis := by
  unfold State.endCause; dsimp only; split <;> [skip; split <;> [skip; split]] <;> simp
@[simp] theorem State.endCause_trig (c i) : (s.endCause c i).trig = s.trig := by
  unfold State.endCause; dsimp only; split <;> [skip; split <;> [skip; split]] <;> simp
@[simp] theorem State.endCause_cam (c i) : (s.endCause c i).cam = s.cam := by
  unfold State.endCause; dsimp only; split <;> [skip; split <;> [skip; split]] <;> simp
@[simp] theorem State.endCause_vis (c i) : (s.endCause c i).vis = s.vis := by
  unfold State.endCause; dsimp only; split <;> [skip; split <;> [skip; split]] <;> simp
@[simp] theorem State.endCause_loop (c i) : (s.endCause c i).loop = s.loop := by
  unfold State.endCause; dsimp only; split <;> [skip; split <;> [skip; split]] <;> simp
@[simp] theorem State.endCause_twin (c i) : (s.endCause c i).twin = s.twin := by
  unfold State.endCause; dsimp only; split <;> [skip; split <;> [skip; split]] <;> simp
@[simp] theorem State.endCause_dram (c i) : (s.endCause c i).dram = s.dram := by
  unfold State.endCause; dsimp only; split <;> [skip; split <;> [skip; split]] <;> simp
@[simp] theorem State.endCause_dma (c i) : (s.endCause c i).dma = s.dma := by
  unfold State.endCause; dsimp only; split <;> [skip; split <;> [skip; split]] <;> simp
@[simp] theorem State.endCause_pwr (c i) : (s.endCause c i).pwr = s.pwr := by
  unfold State.endCause; dsimp only; split <;> [skip; split <;> [skip; split]] <;> simp
@[simp] theorem State.endCause_host_live (c i) : (s.endCause c i).host.live = s.host.live := by
  unfold State.endCause; dsimp only; split <;> [skip; split <;> [skip; split]] <;> simp
@[simp] theorem State.endCause_host_perst (c i) : (s.endCause c i).host.perst = s.host.perst := by
  unfold State.endCause; dsimp only; split <;> [skip; split <;> [skip; split]] <;> simp
@[simp] theorem State.endCause_host_doorbell (c i) : (s.endCause c i).host.doorbell = s.host.doorbell := by
  unfold State.endCause; dsimp only; split <;> [skip; split <;> [skip; split]] <;> simp
@[simp] theorem State.endCause_host_busy (c i) : (s.endCause c i).host.busy = s.host.busy := by
  unfold State.endCause; dsimp only; split <;> [skip; split <;> [skip; split]] <;> simp
@[simp] theorem State.endCause_host_done (c i) : (s.endCause c i).host.done = s.host.done := by
  unfold State.endCause; dsimp only; split <;> [skip; split <;> [skip; split]] <;> simp
@[simp] theorem State.endCause_host_cancel (c i) : (s.endCause c i).host.cancel = s.host.cancel := by
  unfold State.endCause; dsimp only; split <;> [skip; split <;> [skip; split]] <;> simp
@[simp] theorem State.endCause_host_intMask (c i) : (s.endCause c i).host.intMask = s.host.intMask := by
  unfold State.endCause; dsimp only; split <;> [skip; split <;> [skip; split]] <;> simp
@[simp] theorem State.endCause_host_resp (c i) : (s.endCause c i).host.resp = s.host.resp := by
  unfold State.endCause; dsimp only; split <;> [skip; split <;> [skip; split]] <;> simp
@[simp] theorem State.endCause_host_reqArea (c i) : (s.endCause c i).host.reqArea = s.host.reqArea := by
  unfold State.endCause; dsimp only; split <;> [skip; split <;> [skip; split]] <;> simp
@[simp] theorem State.endCause_host_held (c i) : (s.endCause c i).host.held = s.host.held := by
  unfold State.endCause; dsimp only; split <;> [skip; split <;> [skip; split]] <;> simp
@[simp] theorem State.endCause_host_inflight (c i) : (s.endCause c i).host.inflight = s.host.inflight := by
  unfold State.endCause; dsimp only; split <;> [skip; split <;> [skip; split]] <;> simp
@[simp] theorem State.endCause_host_mbProtocol (c i) : (s.endCause c i).host.mbProtocol = s.host.mbProtocol := by
  unfold State.endCause; dsimp only; split <;> [skip; split <;> [skip; split]] <;> simp
@[simp] theorem State.endCause_host_restarted (c i) : (s.endCause c i).host.restarted = s.host.restarted := by
  unfold State.endCause; dsimp only; split <;> [skip; split <;> [skip; split]] <;> simp
@[simp] theorem State.endCause_host_mask (c i) : (s.endCause c i).host.mask = s.host.mask := by
  unfold State.endCause; dsimp only; split <;> [skip; split <;> [skip; split]] <;> simp
@[simp] theorem State.endCause_host_msixEnable (c i) : (s.endCause c i).host.msixEnable = s.host.msixEnable := by
  unfold State.endCause; dsimp only; split <;> [skip; split <;> [skip; split]] <;> simp
@[simp] theorem State.endCause_host_msixFuncMask (c i) : (s.endCause c i).host.msixFuncMask = s.host.msixFuncMask := by
  unfold State.endCause; dsimp only; split <;> [skip; split <;> [skip; split]] <;> simp
@[simp] theorem State.endCause_host_msixVecMask (c i) : (s.endCause c i).host.msixVecMask = s.host.msixVecMask := by
  unfold State.endCause; dsimp only; split <;> [skip; split <;> [skip; split]] <;> simp
@[simp] theorem State.endCause_host_msixPba (c i) : (s.endCause c i).host.msixPba = s.host.msixPba := by
  unfold State.endCause; dsimp only; split <;> [skip; split <;> [skip; split]] <;> simp
@[simp] theorem State.endCause_host_msixTable (c i) : (s.endCause c i).host.msixTable = s.host.msixTable := by
  unfold State.endCause; dsimp only; split <;> [skip; split <;> [skip; split]] <;> simp
@[simp] theorem State.endCause_host_msixSent (c i) : (s.endCause c i).host.msixSent = s.host.msixSent := by
  unfold State.endCause; dsimp only; split <;> [skip; split <;> [skip; split]] <;> simp
@[simp] theorem State.endCause_host_loHeld (c i) : (s.endCause c i).host.loHeld = s.host.loHeld := by
  unfold State.endCause; dsimp only; split <;> [skip; split <;> [skip; split]] <;> simp
@[simp] theorem State.endCause_host_bar2Out (c i) : (s.endCause c i).host.bar2Out = s.host.bar2Out := by
  unfold State.endCause; dsimp only; split <;> [skip; split <;> [skip; split]] <;> simp
@[simp] theorem State.endCause_host_aerDropped (c i) : (s.endCause c i).host.aerDropped = s.host.aerDropped := by
  unfold State.endCause; dsimp only; split <;> [skip; split <;> [skip; split]] <;> simp

@[simp] theorem State.finishWait_pending (w st) : (s.finishWait w st).pending = s.pending := by
  unfold State.finishWait; split <;> [skip; (dsimp only; split)] <;> rfl
@[simp] theorem State.finishWait_free (w st) : (s.finishWait w st).free = s.free := by
  unfold State.finishWait; split <;> [skip; (dsimp only; split)] <;> rfl
@[simp] theorem State.finishWait_boot (w st) : (s.finishWait w st).boot = s.boot := by
  unfold State.finishWait; split <;> [skip; (dsimp only; split)] <;> rfl
@[simp] theorem State.finishWait_fuse (w st) : (s.finishWait w st).fuse = s.fuse := by
  unfold State.finishWait; split <;> [skip; (dsimp only; split)] <;> rfl
@[simp] theorem State.finishWait_time (w st) : (s.finishWait w st).time = s.time := by
  unfold State.finishWait; split <;> [skip; (dsimp only; split)] <;> rfl
@[simp] theorem State.finishWait_geo (w st) : (s.finishWait w st).geo = s.geo := by
  unfold State.finishWait; split <;> [skip; (dsimp only; split)] <;> rfl
@[simp] theorem State.finishWait_bat (w st) : (s.finishWait w st).bat = s.bat := by
  unfold State.finishWait; split <;> [skip; (dsimp only; split)] <;> rfl
@[simp] theorem State.finishWait_fire (w st) : (s.finishWait w st).fire = s.fire := by
  unfold State.finishWait; split <;> [skip; (dsimp only; split)] <;> rfl
@[simp] theorem State.finishWait_rlConfig (w st) : (s.finishWait w st).rlConfig = s.rlConfig := by
  unfold State.finishWait; split <;> [skip; (dsimp only; split)] <;> rfl
@[simp] theorem State.finishWait_port (w st) : (s.finishWait w st).port = s.port := by
  unfold State.finishWait; split <;> [skip; (dsimp only; split)] <;> rfl
@[simp] theorem State.finishWait_head (w st) : (s.finishWait w st).head = s.head := by
  unfold State.finishWait; split <;> [skip; (dsimp only; split)] <;> rfl
@[simp] theorem State.finishWait_cal (w st) : (s.finishWait w st).cal = s.cal := by
  unfold State.finishWait; split <;> [skip; (dsimp only; split)] <;> rfl
@[simp] theorem State.finishWait_nvm (w st) : (s.finishWait w st).nvm = s.nvm := by
  unfold State.finishWait; split <;> [skip; (dsimp only; split)] <;> rfl
@[simp] theorem State.finishWait_slate (w st) : (s.finishWait w st).slate = s.slate := by
  unfold State.finishWait; split <;> [skip; (dsimp only; split)] <;> rfl
@[simp] theorem State.finishWait_enc (w st) : (s.finishWait w st).enc = s.enc := by
  unfold State.finishWait; split <;> [skip; (dsimp only; split)] <;> rfl
@[simp] theorem State.finishWait_est (w st) : (s.finishWait w st).est = s.est := by
  unfold State.finishWait; split <;> [skip; (dsimp only; split)] <;> rfl
@[simp] theorem State.finishWait_axis (w st) : (s.finishWait w st).axis = s.axis := by
  unfold State.finishWait; split <;> [skip; (dsimp only; split)] <;> rfl
@[simp] theorem State.finishWait_trig (w st) : (s.finishWait w st).trig = s.trig := by
  unfold State.finishWait; split <;> [skip; (dsimp only; split)] <;> rfl
@[simp] theorem State.finishWait_cam (w st) : (s.finishWait w st).cam = s.cam := by
  unfold State.finishWait; split <;> [skip; (dsimp only; split)] <;> rfl
@[simp] theorem State.finishWait_vis (w st) : (s.finishWait w st).vis = s.vis := by
  unfold State.finishWait; split <;> [skip; (dsimp only; split)] <;> rfl
@[simp] theorem State.finishWait_loop (w st) : (s.finishWait w st).loop = s.loop := by
  unfold State.finishWait; split <;> [skip; (dsimp only; split)] <;> rfl
@[simp] theorem State.finishWait_twin (w st) : (s.finishWait w st).twin = s.twin := by
  unfold State.finishWait; split <;> [skip; (dsimp only; split)] <;> rfl
@[simp] theorem State.finishWait_dram (w st) : (s.finishWait w st).dram = s.dram := by
  unfold State.finishWait; split <;> [skip; (dsimp only; split)] <;> rfl
@[simp] theorem State.finishWait_dma (w st) : (s.finishWait w st).dma = s.dma := by
  unfold State.finishWait; split <;> [skip; (dsimp only; split)] <;> rfl
@[simp] theorem State.finishWait_pwr (w st) : (s.finishWait w st).pwr = s.pwr := by
  unfold State.finishWait; split <;> [skip; (dsimp only; split)] <;> rfl
@[simp] theorem State.finishWait_health (w st) : (s.finishWait w st).health = s.health := by
  unfold State.finishWait; split <;> [skip; (dsimp only; split)] <;> rfl
@[simp] theorem State.finishWait_log (w st) : (s.finishWait w st).log = s.log := by
  unfold State.finishWait; split <;> [skip; (dsimp only; split)] <;> rfl

/-! ## The mailbox -/

/-- A slot rung while the cores run and the slot is empty is served. -/
theorem mbDoor_free (h : MbHdr) (i : Instr) (f : State → State) (hl : (s.alive && s.host.live && s.coresRun) = true)
    (h1 : (s.host.busy ||| s.host.done) &&& slotBit h.slot = 0) (h2 : s.host.doorbell &&& slotBit h.slot = 0) :
    mbDoor h i f s = f s := by
  simp only [Bool.and_eq_true] at hl
  simp [mbDoor, hl, h1, h2]

/-- A slot rung while busy or done sets MB_PROTOCOL and does nothing else (R338). -/
theorem mbDoor_busy (h : MbHdr) (i : Instr) (f : State → State) (hl : (s.alive && s.host.live) = true)
    (hf : (s.host.busy ||| s.host.done) &&& slotBit h.slot ≠ 0) :
    mbDoor h i f s = s.updHost fun m => { m with mbProtocol := true } := by
  simp only [Bool.and_eq_true] at hl
  have hb : ((s.host.busy ||| s.host.done) &&& slotBit h.slot != 0) = true := by simpa using hf
  simp only [mbDoor, hl.1, hl.2, hb, Bool.not_true, Bool.or_self, Bool.false_eq_true, if_false, if_true]

/-- A command that passes the common checks and completes at once. -/
theorem mbServe_done {c : MbCheck} {h : MbHdr} {body : State → Answer} {st : Nat} {p : List Byte} {u : State}
    (hc : mbCommon c h (s.mbStart h) = none) (hb : body (s.mbStart h) = .done st p u) :
    mbServe c h body s = u.mbComplete h c.op st p := by simp [mbServe, hc, hb]

/-- A command that passes the common checks and completes later. -/
theorem mbServe_later {c : MbCheck} {h : MbHdr} {body : State → Answer} {w : Wait} {p : List Byte} {u : State}
    (hc : mbCommon c h (s.mbStart h) = none) (hb : body (s.mbStart h) = .later w p u) :
    mbServe c h body s = u.updHost fun m => { m with inflight := m.inflight ++ [⟨h, BitVec.ofNat 16 c.op, w, p, false⟩] } := by
  simp [mbServe, hc, hb]

/-- A command that a common check turns away. -/
theorem mbServe_refused {c : MbCheck} {h : MbHdr} {body : State → Answer} {st : Nat} (hc : mbCommon c h (s.mbStart h) = some st) :
    mbServe c h body s = (s.mbStart h).mbComplete h c.op st [] := by simp [mbServe, hc]

/-- The common checks of a command served at READY. -/
theorem mbCommon_none {c : MbCheck} {h : MbHdr} (hr : s.isReady = true) (hl : h.reqBytes.toNat = 16 + c.len)
    (hm : h.reqBytes.toNat ≤ 2048) (hz : h.rsv = 0) (hc : c.rsv = false) (hg : c.gated s = false) (h0 : c.zero = false) :
    mbCommon c h s = none := by
  have : ¬ 2048 < h.reqBytes.toNat := by omega
  simp [mbCommon, hr, hl, hz, hc, hg, h0]; omega

/-! ## Outcomes -/

variable {s}

/-- Setting and clearing a bit that is clear. -/
theorem slot_clear {x b : Byte} (h : x &&& b = 0) : (x ||| b) &&& ~~~b = x := by
  apply BitVec.eq_of_getLsbD_eq
  intro k hk
  have e := congrArg (fun y => y.getLsbD k) h
  simp [hk] at e ⊢
  by_cases h2 : b.getLsbD k = true <;> simp_all

/-- A bit clear in a union is clear on its left. -/
theorem slot_left {x y b : Byte} (h : (x ||| y) &&& b = 0) : x &&& b = 0 := by
  apply BitVec.eq_of_getLsbD_eq
  intro k hk
  have e := congrArg (fun z => z.getLsbD k) h
  simp at e ⊢
  exact fun hx => e (Or.inl hx)

/-- What the doorbell and header conditions give. -/
theorem rings_iff {h : MbHdr} : Safety.rings s h = true ↔ (s.alive && s.host.live && s.coresRun) = true ∧
    (s.host.busy ||| s.host.done) &&& slotBit h.slot = 0 ∧ s.host.doorbell &&& slotBit h.slot = 0 := by
  simp [Safety.rings, and_assoc]

/-- What a good header gives. -/
theorem header_iff {h : MbHdr} {len : Nat} : Safety.header h len = true ↔
    h.reqBytes.toNat = 16 + len ∧ h.reqBytes.toNat ≤ 2048 ∧ h.rsv = 0 := by
  simp [Safety.header, and_assoc]

/-- What a served slot gives. -/
theorem served_iff {h : MbHdr} {len : Nat} : Safety.served s h len = true ↔
    Safety.rings s h = true ∧ s.isReady = true ∧ Safety.header h len = true := by
  simp [Safety.served, and_assoc]

/-- A command served by its own rules, before READY where its row says so, that completes at once. -/
theorem mbCmd_early {c : MbCheck} {h : MbHdr} {i : Instr} {body : State → Answer} {st : Nat} {p : List Byte} {u : State}
    (hs : Safety.rings s h = true) (hd : Safety.header h c.len = true)
    (hy : s.isReady = true ∨ c.early (s.mbStart h) = true) (hr : c.rsv = false) (hz : c.zero = false)
    (hg : c.gated (s.mbStart h) = false) (hb : body (s.mbStart h) = .done st p u)
    (hu : ∃ al, u.host = { (s.mbStart h).host with alert := al }) :
    ∃ t, mbCmd h i (mbServe c h body) s = .next t ∧ Safety.AnsweredWith h c.op st p s t ∧ t.host.alert = u.host.alert ∧
      t = { u with host := t.host, pending := s.pending, fuse := s.fuse } := by
  obtain ⟨hl, h1, h2⟩ := rings_iff.1 hs
  obtain ⟨hn, hm, hz0⟩ := header_iff.1 hd
  have hcm : mbCommon c h (s.mbStart h) = none := by
    have e1 : (s.mbStart h).isReady = s.isReady := rfl
    have hm2 : 16 + c.len ≤ 2048 := by omega
    rcases hy with hy | hy <;> simp [mbCommon, e1, hy, hn, hm2, hz0, hr, hg, hz]
  have e : mbDoor h i (mbServe c h body) s = u.mbComplete h c.op st p := by
    rw [mbDoor_free _ _ _ _ hl h1 h2, mbServe_done _ hcm hb]
  obtain ⟨pba, sent, hq⟩ := settle_eq s (u.mbComplete h c.op st p)
  obtain ⟨al, hu⟩ := hu
  refine ⟨_, congrArg (fun x => Host.Outcome.next (keep s (settle s x))) e, ⟨al, pba, sent, ?_⟩, ?_, ?_⟩
  · rw [hq]
    simp only [keep, State.mbComplete, State.updHost, hu, State.mbStart, slot_clear h2, slot_clear (slot_left h1)]
  · rw [hq]; rfl
  · rw [hq]; rfl

/-- A command served by its own rules that completes at once. -/
theorem mbCmd_done {c : MbCheck} {h : MbHdr} {i : Instr} {body : State → Answer} {st : Nat} {p : List Byte} {u : State}
    (hs : Safety.served s h c.len = true) (hr : c.rsv = false) (hz : c.zero = false) (hg : c.gated (s.mbStart h) = false)
    (hb : body (s.mbStart h) = .done st p u) (hu : ∃ al, u.host = { (s.mbStart h).host with alert := al }) :
    ∃ t, mbCmd h i (mbServe c h body) s = .next t ∧ Safety.AnsweredWith h c.op st p s t ∧ t.host.alert = u.host.alert ∧
      t = { u with host := t.host, pending := s.pending, fuse := s.fuse } := by
  obtain ⟨h1, h2, h3⟩ := served_iff.1 hs
  exact mbCmd_early h1 h3 (.inl h2) hr hz hg hb hu

/-- A command served by its own rules that completes later. -/
theorem mbCmd_later {c : MbCheck} {h : MbHdr} {i : Instr} {body : State → Answer} {w : Wait} {p : List Byte} {u : State}
    (hs : Safety.served s h c.len = true) (hr : c.rsv = false) (hz : c.zero = false) (hg : c.gated (s.mbStart h) = false)
    (hb : body (s.mbStart h) = .later w p u) (hu : ∃ al, u.host = { (s.mbStart h).host with alert := al }) :
    ∃ t, mbCmd h i (mbServe c h body) s = .next t ∧ Safety.Waits h c.op w p s t ∧ t.host.alert = u.host.alert ∧
      t = { u with host := t.host, pending := s.pending, fuse := s.fuse } := by
  obtain ⟨hs, hy, hd⟩ := served_iff.1 hs
  obtain ⟨hl, h1, h2⟩ := rings_iff.1 hs
  obtain ⟨hn, hm, hz0⟩ := header_iff.1 hd
  have hcm : mbCommon c h (s.mbStart h) = none := by
    have e1 : (s.mbStart h).isReady = s.isReady := rfl
    have hm2 : 16 + c.len ≤ 2048 := by omega
    simp [mbCommon, e1, hy, hn, hm2, hz0, hr, hg, hz]
  have e := mbDoor_free s h i (mbServe c h body) hl h1 h2
  rw [mbServe_later _ hcm hb] at e
  obtain ⟨al, hu⟩ := hu
  obtain ⟨pba, sent, hq⟩ := settle_eq s (u.updHost fun m => { m with inflight := m.inflight ++ [⟨h, BitVec.ofNat 16 c.op, w, p, false⟩] })
  refine ⟨_, congrArg (fun x => Host.Outcome.next (keep s (settle s x))) e, ⟨al, pba, sent, ?_⟩, ?_, ?_⟩
  · rw [hq]
    simp only [keep, State.updHost, hu, State.mbStart]
  · rw [hq]; rfl
  · rw [hq]; rfl

/-- A command that blows fuses, served by its own rules, that completes at once. -/
theorem fuseCmd_done {c : MbCheck} {h : MbHdr} {i : Instr} {body : State → Answer} {st : Nat} {p : List Byte} {u : State}
    (hs : Safety.served s h c.len = true) (hr : c.rsv = false) (hz : c.zero = false) (hg : c.gated (s.mbStart h) = false)
    (hb : body (s.mbStart h) = .done st p u) (hu : ∃ al, u.host = { (s.mbStart h).host with alert := al }) :
    ∃ t, fuseCmd h i (mbServe c h body) s = .next t ∧ Safety.AnsweredWith h c.op st p s t ∧ t.host.alert = u.host.alert ∧
      t = { u with host := t.host, pending := s.pending } := by
  obtain ⟨t, e, ha, hal, ht⟩ := mbCmd_done (i := i) hs hr hz hg hb hu
  refine ⟨{ t with fuse := u.fuse }, ?_, ha, hal, by rw [ht]⟩
  have e2 := Host.Outcome.next.inj e
  obtain ⟨hs, hy, hd⟩ := served_iff.1 hs
  obtain ⟨hl, h1, h2⟩ := rings_iff.1 hs
  have e3 := mbDoor_free s h i (mbServe c h body) hl h1 h2
  obtain ⟨pba, sent, hq⟩ := settle_eq s (mbDoor h i (mbServe c h body) s)
  have e4 : (mbDoor h i (mbServe c h body) s).fuse = u.fuse := by
    obtain ⟨hn, hm, hz0⟩ := header_iff.1 hd
    have hcm : mbCommon c h (s.mbStart h) = none := by
      have e1 : (s.mbStart h).isReady = s.isReady := rfl
      have hm2 : 16 + c.len ≤ 2048 := by omega
      simp [mbCommon, e1, hy, hn, hm2, hz0, hr, hg, hz]
    rw [e3, mbServe_done _ hcm hb]; rfl
  rw [← e2, ← e4, fuseCmd, hq]; rfl

/-- An event of the powered chip. -/
theorem evt_next {f : State → State} (ha : s.alive = true) : ∃ t, evt f s = .next t ∧
    (∃ pba sent, t.host = { (f s).host with msixPba := pba, msixSent := sent }) ∧
    t = { f s with host := t.host, pending := s.pending, fuse := s.fuse } := by
  obtain ⟨pba, sent, hq⟩ := settle_eq s (f s)
  refine ⟨keep s (settle s (f s)), by simp only [evt, done, ha, if_true], ⟨pba, sent, ?_⟩, ?_⟩ <;> rw [hq] <;> rfl

/-- An event outside the core's supply. -/
theorem evtAny_next {f : State → State} : ∃ t, evtAny f s = .next t ∧
    (∃ pba sent, t.host = { (f s).host with msixPba := pba, msixSent := sent }) ∧
    t = { f s with host := t.host, pending := s.pending, fuse := s.fuse } := by
  obtain ⟨pba, sent, hq⟩ := settle_eq s (f s)
  refine ⟨keep s (settle s (f s)), by simp only [evtAny, done], ⟨pba, sent, ?_⟩, ?_⟩ <;> rw [hq] <;> rfl

/-- A host access while the link is up. -/
theorem hostAcc_next {f : State → State} (ha : s.alive = true) (hl : s.host.live = true) : ∃ t, hostAcc f s = .next t ∧
    (∃ pba sent, t.host = { (f s).host with msixPba := pba, msixSent := sent }) ∧
    t = { f s with host := t.host, pending := s.pending, fuse := s.fuse } := by
  obtain ⟨pba, sent, hq⟩ := settle_eq s (f s)
  refine ⟨keep s (settle s (f s)), by simp only [hostAcc, done, ha, hl, Bool.and_self, if_true], ⟨pba, sent, ?_⟩, ?_⟩ <;> rw [hq] <;> rfl

/-! ## The same, as rules for a goal about the next state -/

theorem mbCmd_use {c : MbCheck} {h : MbHdr} {i : Instr} {body : State → Answer} {P : State → Prop} (st : Nat) (p : List Byte)
    (u : State) (hs : Safety.served s h c.len = true) (hr : c.rsv = false) (hz : c.zero = false)
    (hg : c.gated (s.mbStart h) = false) (hb : body (s.mbStart h) = .done st p u)
    (hu : ∃ al, u.host = { (s.mbStart h).host with alert := al })
    (k : ∀ H, Safety.AnsweredWith h c.op st p s { u with host := H, pending := s.pending, fuse := s.fuse } →
      H.alert = u.host.alert → P { u with host := H, pending := s.pending, fuse := s.fuse }) :
    ∃ t, mbCmd h i (mbServe c h body) s = .next t ∧ P t := by
  obtain ⟨t, e, ha, hal, ht⟩ := mbCmd_done (i := i) hs hr hz hg hb hu
  rw [ht] at ha
  exact ⟨t, e, ht ▸ k t.host ha hal⟩

theorem mbCmd_useEarly {c : MbCheck} {h : MbHdr} {i : Instr} {body : State → Answer} {P : State → Prop} (st : Nat) (p : List Byte)
    (u : State) (hs : Safety.rings s h = true) (hd : Safety.header h c.len = true)
    (hy : s.isReady = true ∨ c.early (s.mbStart h) = true) (hr : c.rsv = false) (hz : c.zero = false)
    (hg : c.gated (s.mbStart h) = false) (hb : body (s.mbStart h) = .done st p u)
    (hu : ∃ al, u.host = { (s.mbStart h).host with alert := al })
    (k : ∀ H, Safety.AnsweredWith h c.op st p s { u with host := H, pending := s.pending, fuse := s.fuse } →
      H.alert = u.host.alert → P { u with host := H, pending := s.pending, fuse := s.fuse }) :
    ∃ t, mbCmd h i (mbServe c h body) s = .next t ∧ P t := by
  obtain ⟨t, e, ha, hal, ht⟩ := mbCmd_early (i := i) hs hd hy hr hz hg hb hu
  rw [ht] at ha
  exact ⟨t, e, ht ▸ k t.host ha hal⟩

theorem mbCmd_useLater {c : MbCheck} {h : MbHdr} {i : Instr} {body : State → Answer} {P : State → Prop} (w : Wait) (p : List Byte)
    (u : State) (hs : Safety.served s h c.len = true) (hr : c.rsv = false) (hz : c.zero = false)
    (hg : c.gated (s.mbStart h) = false) (hb : body (s.mbStart h) = .later w p u)
    (hu : ∃ al, u.host = { (s.mbStart h).host with alert := al })
    (k : ∀ H, Safety.Waits h c.op w p s { u with host := H, pending := s.pending, fuse := s.fuse } →
      H.alert = u.host.alert → P { u with host := H, pending := s.pending, fuse := s.fuse }) :
    ∃ t, mbCmd h i (mbServe c h body) s = .next t ∧ P t := by
  obtain ⟨t, e, ha, hal, ht⟩ := mbCmd_later (i := i) hs hr hz hg hb hu
  rw [ht] at ha
  exact ⟨t, e, ht ▸ k t.host ha hal⟩

theorem evt_use {f : State → State} {P : State → Prop} (ha : s.alive = true)
    (k : ∀ H, (∃ pba sent, H = { (f s).host with msixPba := pba, msixSent := sent }) →
      P { f s with host := H, pending := s.pending, fuse := s.fuse }) : ∃ t, evt f s = .next t ∧ P t := by
  obtain ⟨t, e, hh, ht⟩ := evt_next (f := f) ha
  exact ⟨t, e, ht ▸ k t.host hh⟩

theorem evtAny_use {f : State → State} {P : State → Prop}
    (k : ∀ H, (∃ pba sent, H = { (f s).host with msixPba := pba, msixSent := sent }) →
      P { f s with host := H, pending := s.pending, fuse := s.fuse }) : ∃ t, evtAny f s = .next t ∧ P t := by
  obtain ⟨t, e, hh, ht⟩ := evtAny_next (s := s) (f := f)
  exact ⟨t, e, ht ▸ k t.host hh⟩

theorem hostAcc_use {f : State → State} {P : State → Prop} (ha : s.alive = true) (hl : s.host.live = true)
    (k : ∀ H, (∃ pba sent, H = { (f s).host with msixPba := pba, msixSent := sent }) →
      P { f s with host := H, pending := s.pending, fuse := s.fuse }) : ∃ t, hostAcc f s = .next t ∧ P t := by
  obtain ⟨t, e, hh, ht⟩ := hostAcc_next (f := f) ha hl
  exact ⟨t, e, ht ▸ k t.host hh⟩

end Sys2Proof.Machine
end

