-- ==== Sys2Proof/Laws/Updates.lean ====
section
/-! SUPPORT. What each update inside a component leaves in every other component. -/

namespace Sys2Proof.Machine

variable (s : State)

@[simp] theorem State.updData_pending (f) : (s.updData f).pending = s.pending := rfl
@[simp] theorem State.updData_free (f) : (s.updData f).free = s.free := rfl
@[simp] theorem State.updData_host (f) : (s.updData f).host = s.host := rfl
@[simp] theorem State.updData_boot (f) : (s.updData f).boot = s.boot := rfl
@[simp] theorem State.updData_fuse (f) : (s.updData f).fuse = s.fuse := rfl
@[simp] theorem State.updData_time (f) : (s.updData f).time = s.time := rfl
@[simp] theorem State.updData_geo (f) : (s.updData f).geo = s.geo := rfl
@[simp] theorem State.updData_bat (f) : (s.updData f).bat = s.bat := rfl
@[simp] theorem State.updData_fire (f) : (s.updData f).fire = s.fire := rfl
@[simp] theorem State.updData_rlConfig (f) : (s.updData f).rlConfig = s.rlConfig := rfl
@[simp] theorem State.updData_port (f) : (s.updData f).port = s.port := rfl
@[simp] theorem State.updData_head (f) : (s.updData f).head = s.head := rfl
@[simp] theorem State.updData_nvm (f) : (s.updData f).nvm = s.nvm := rfl
@[simp] theorem State.updData_slate (f) : (s.updData f).slate = s.slate := rfl
@[simp] theorem State.updData_enc (f) : (s.updData f).enc = s.enc := rfl
@[simp] theorem State.updData_est (f) : (s.updData f).est = s.est := rfl
@[simp] theorem State.updData_axis (f) : (s.updData f).axis = s.axis := rfl
@[simp] theorem State.updData_trig (f) : (s.updData f).trig = s.trig := rfl
@[simp] theorem State.updData_cam (f) : (s.updData f).cam = s.cam := rfl
@[simp] theorem State.updData_vis (f) : (s.updData f).vis = s.vis := rfl
@[simp] theorem State.updData_loop (f) : (s.updData f).loop = s.loop := rfl
@[simp] theorem State.updData_twin (f) : (s.updData f).twin = s.twin := rfl
@[simp] theorem State.updData_dram (f) : (s.updData f).dram = s.dram := rfl
@[simp] theorem State.updData_dma (f) : (s.updData f).dma = s.dma := rfl
@[simp] theorem State.updData_pwr (f) : (s.updData f).pwr = s.pwr := rfl
@[simp] theorem State.updData_health (f) : (s.updData f).health = s.health := rfl
@[simp] theorem State.updData_log (f) : (s.updData f).log = s.log := rfl
@[simp] theorem State.updData_hostCore (f) : (s.updData f).hostCore = s.hostCore := rfl

@[simp] theorem State.updStore_pending (f) : (s.updStore f).pending = s.pending := rfl
@[simp] theorem State.updStore_free (f) : (s.updStore f).free = s.free := rfl
@[simp] theorem State.updStore_host (f) : (s.updStore f).host = s.host := rfl
@[simp] theorem State.updStore_boot (f) : (s.updStore f).boot = s.boot := rfl
@[simp] theorem State.updStore_fuse (f) : (s.updStore f).fuse = s.fuse := rfl
@[simp] theorem State.updStore_time (f) : (s.updStore f).time = s.time := rfl
@[simp] theorem State.updStore_geo (f) : (s.updStore f).geo = s.geo := rfl
@[simp] theorem State.updStore_bat (f) : (s.updStore f).bat = s.bat := rfl
@[simp] theorem State.updStore_fire (f) : (s.updStore f).fire = s.fire := rfl
@[simp] theorem State.updStore_rlConfig (f) : (s.updStore f).rlConfig = s.rlConfig := rfl
@[simp] theorem State.updStore_port (f) : (s.updStore f).port = s.port := rfl
@[simp] theorem State.updStore_head (f) : (s.updStore f).head = s.head := rfl
@[simp] theorem State.updStore_nvm (f) : (s.updStore f).nvm = s.nvm := rfl
@[simp] theorem State.updStore_slate (f) : (s.updStore f).slate = s.slate := rfl
@[simp] theorem State.updStore_enc (f) : (s.updStore f).enc = s.enc := rfl
@[simp] theorem State.updStore_est (f) : (s.updStore f).est = s.est := rfl
@[simp] theorem State.updStore_axis (f) : (s.updStore f).axis = s.axis := rfl
@[simp] theorem State.updStore_trig (f) : (s.updStore f).trig = s.trig := rfl
@[simp] theorem State.updStore_cam (f) : (s.updStore f).cam = s.cam := rfl
@[simp] theorem State.updStore_vis (f) : (s.updStore f).vis = s.vis := rfl
@[simp] theorem State.updStore_loop (f) : (s.updStore f).loop = s.loop := rfl
@[simp] theorem State.updStore_twin (f) : (s.updStore f).twin = s.twin := rfl
@[simp] theorem State.updStore_dram (f) : (s.updStore f).dram = s.dram := rfl
@[simp] theorem State.updStore_dma (f) : (s.updStore f).dma = s.dma := rfl
@[simp] theorem State.updStore_pwr (f) : (s.updStore f).pwr = s.pwr := rfl
@[simp] theorem State.updStore_health (f) : (s.updStore f).health = s.health := rfl
@[simp] theorem State.updStore_log (f) : (s.updStore f).log = s.log := rfl
@[simp] theorem State.updStore_hostCore (f) : (s.updStore f).hostCore = s.hostCore := rfl

@[simp] theorem State.updVol_pending (p i f) : (s.updVol p i f).pending = s.pending := rfl
@[simp] theorem State.updVol_free (p i f) : (s.updVol p i f).free = s.free := rfl
@[simp] theorem State.updVol_host (p i f) : (s.updVol p i f).host = s.host := rfl
@[simp] theorem State.updVol_boot (p i f) : (s.updVol p i f).boot = s.boot := rfl
@[simp] theorem State.updVol_fuse (p i f) : (s.updVol p i f).fuse = s.fuse := rfl
@[simp] theorem State.updVol_time (p i f) : (s.updVol p i f).time = s.time := rfl
@[simp] theorem State.updVol_geo (p i f) : (s.updVol p i f).geo = s.geo := rfl
@[simp] theorem State.updVol_bat (p i f) : (s.updVol p i f).bat = s.bat := rfl
@[simp] theorem State.updVol_fire (p i f) : (s.updVol p i f).fire = s.fire := rfl
@[simp] theorem State.updVol_rlConfig (p i f) : (s.updVol p i f).rlConfig = s.rlConfig := rfl
@[simp] theorem State.updVol_port (p i f) : (s.updVol p i f).port = s.port := rfl
@[simp] theorem State.updVol_head (p i f) : (s.updVol p i f).head = s.head := rfl
@[simp] theorem State.updVol_nvm (p i f) : (s.updVol p i f).nvm = s.nvm := rfl
@[simp] theorem State.updVol_slate (p i f) : (s.updVol p i f).slate = s.slate := rfl
@[simp] theorem State.updVol_enc (p i f) : (s.updVol p i f).enc = s.enc := rfl
@[simp] theorem State.updVol_est (p i f) : (s.updVol p i f).est = s.est := rfl
@[simp] theorem State.updVol_axis (p i f) : (s.updVol p i f).axis = s.axis := rfl
@[simp] theorem State.updVol_trig (p i f) : (s.updVol p i f).trig = s.trig := rfl
@[simp] theorem State.updVol_cam (p i f) : (s.updVol p i f).cam = s.cam := rfl
@[simp] theorem State.updVol_vis (p i f) : (s.updVol p i f).vis = s.vis := rfl
@[simp] theorem State.updVol_loop (p i f) : (s.updVol p i f).loop = s.loop := rfl
@[simp] theorem State.updVol_twin (p i f) : (s.updVol p i f).twin = s.twin := rfl
@[simp] theorem State.updVol_dram (p i f) : (s.updVol p i f).dram = s.dram := rfl
@[simp] theorem State.updVol_dma (p i f) : (s.updVol p i f).dma = s.dma := rfl
@[simp] theorem State.updVol_pwr (p i f) : (s.updVol p i f).pwr = s.pwr := rfl
@[simp] theorem State.updVol_health (p i f) : (s.updVol p i f).health = s.health := rfl
@[simp] theorem State.updVol_log (p i f) : (s.updVol p i f).log = s.log := rfl
@[simp] theorem State.updVol_hostCore (p i f) : (s.updVol p i f).hostCore = s.hostCore := rfl

@[simp] theorem State.updEs_pending (i f) : (s.updEs i f).pending = s.pending := rfl
@[simp] theorem State.updEs_free (i f) : (s.updEs i f).free = s.free := rfl
@[simp] theorem State.updEs_host (i f) : (s.updEs i f).host = s.host := rfl
@[simp] theorem State.updEs_boot (i f) : (s.updEs i f).boot = s.boot := rfl
@[simp] theorem State.updEs_fuse (i f) : (s.updEs i f).fuse = s.fuse := rfl
@[simp] theorem State.updEs_time (i f) : (s.updEs i f).time = s.time := rfl
@[simp] theorem State.updEs_geo (i f) : (s.updEs i f).geo = s.geo := rfl
@[simp] theorem State.updEs_bat (i f) : (s.updEs i f).bat = s.bat := rfl
@[simp] theorem State.updEs_fire (i f) : (s.updEs i f).fire = s.fire := rfl
@[simp] theorem State.updEs_rlConfig (i f) : (s.updEs i f).rlConfig = s.rlConfig := rfl
@[simp] theorem State.updEs_port (i f) : (s.updEs i f).port = s.port := rfl
@[simp] theorem State.updEs_head (i f) : (s.updEs i f).head = s.head := rfl
@[simp] theorem State.updEs_cal (i f) : (s.updEs i f).cal = s.cal := rfl
@[simp] theorem State.updEs_nvm (i f) : (s.updEs i f).nvm = s.nvm := rfl
@[simp] theorem State.updEs_enc (i f) : (s.updEs i f).enc = s.enc := rfl
@[simp] theorem State.updEs_est (i f) : (s.updEs i f).est = s.est := rfl
@[simp] theorem State.updEs_axis (i f) : (s.updEs i f).axis = s.axis := rfl
@[simp] theorem State.updEs_trig (i f) : (s.updEs i f).trig = s.trig := rfl
@[simp] theorem State.updEs_cam (i f) : (s.updEs i f).cam = s.cam := rfl
@[simp] theorem State.updEs_vis (i f) : (s.updEs i f).vis = s.vis := rfl
@[simp] theorem State.updEs_loop (i f) : (s.updEs i f).loop = s.loop := rfl
@[simp] theorem State.updEs_twin (i f) : (s.updEs i f).twin = s.twin := rfl
@[simp] theorem State.updEs_dram (i f) : (s.updEs i f).dram = s.dram := rfl
@[simp] theorem State.updEs_dma (i f) : (s.updEs i f).dma = s.dma := rfl
@[simp] theorem State.updEs_pwr (i f) : (s.updEs i f).pwr = s.pwr := rfl
@[simp] theorem State.updEs_health (i f) : (s.updEs i f).health = s.health := rfl
@[simp] theorem State.updEs_log (i f) : (s.updEs i f).log = s.log := rfl
@[simp] theorem State.updEs_hostCore (i f) : (s.updEs i f).hostCore = s.hostCore := rfl

@[simp] theorem State.updStream_pending (e j f) : (s.updStream e j f).pending = s.pending := rfl
@[simp] theorem State.updStream_free (e j f) : (s.updStream e j f).free = s.free := rfl
@[simp] theorem State.updStream_host (e j f) : (s.updStream e j f).host = s.host := rfl
@[simp] theorem State.updStream_boot (e j f) : (s.updStream e j f).boot = s.boot := rfl
@[simp] theorem State.updStream_fuse (e j f) : (s.updStream e j f).fuse = s.fuse := rfl
@[simp] theorem State.updStream_time (e j f) : (s.updStream e j f).time = s.time := rfl
@[simp] theorem State.updStream_geo (e j f) : (s.updStream e j f).geo = s.geo := rfl
@[simp] theorem State.updStream_bat (e j f) : (s.updStream e j f).bat = s.bat := rfl
@[simp] theorem State.updStream_fire (e j f) : (s.updStream e j f).fire = s.fire := rfl
@[simp] theorem State.updStream_rlConfig (e j f) : (s.updStream e j f).rlConfig = s.rlConfig := rfl
@[simp] theorem State.updStream_port (e j f) : (s.updStream e j f).port = s.port := rfl
@[simp] theorem State.updStream_head (e j f) : (s.updStream e j f).head = s.head := rfl
@[simp] theorem State.updStream_cal (e j f) : (s.updStream e j f).cal = s.cal := rfl
@[simp] theorem State.updStream_nvm (e j f) : (s.updStream e j f).nvm = s.nvm := rfl
@[simp] theorem State.updStream_enc (e j f) : (s.updStream e j f).enc = s.enc := rfl
@[simp] theorem State.updStream_est (e j f) : (s.updStream e j f).est = s.est := rfl
@[simp] theorem State.updStream_axis (e j f) : (s.updStream e j f).axis = s.axis := rfl
@[simp] theorem State.updStream_trig (e j f) : (s.updStream e j f).trig = s.trig := rfl
@[simp] theorem State.updStream_cam (e j f) : (s.updStream e j f).cam = s.cam := rfl
@[simp] theorem State.updStream_vis (e j f) : (s.updStream e j f).vis = s.vis := rfl
@[simp] theorem State.updStream_loop (e j f) : (s.updStream e j f).loop = s.loop := rfl
@[simp] theorem State.updStream_twin (e j f) : (s.updStream e j f).twin = s.twin := rfl
@[simp] theorem State.updStream_dram (e j f) : (s.updStream e j f).dram = s.dram := rfl
@[simp] theorem State.updStream_dma (e j f) : (s.updStream e j f).dma = s.dma := rfl
@[simp] theorem State.updStream_pwr (e j f) : (s.updStream e j f).pwr = s.pwr := rfl
@[simp] theorem State.updStream_health (e j f) : (s.updStream e j f).health = s.health := rfl
@[simp] theorem State.updStream_log (e j f) : (s.updStream e j f).log = s.log := rfl
@[simp] theorem State.updStream_hostCore (e j f) : (s.updStream e j f).hostCore = s.hostCore := rfl

@[simp] theorem State.updEth_pending (p f) : (s.updEth p f).pending = s.pending := rfl
@[simp] theorem State.updEth_free (p f) : (s.updEth p f).free = s.free := rfl
@[simp] theorem State.updEth_host (p f) : (s.updEth p f).host = s.host := rfl
@[simp] theorem State.updEth_boot (p f) : (s.updEth p f).boot = s.boot := rfl
@[simp] theorem State.updEth_fuse (p f) : (s.updEth p f).fuse = s.fuse := rfl
@[simp] theorem State.updEth_geo (p f) : (s.updEth p f).geo = s.geo := rfl
@[simp] theorem State.updEth_bat (p f) : (s.updEth p f).bat = s.bat := rfl
@[simp] theorem State.updEth_fire (p f) : (s.updEth p f).fire = s.fire := rfl
@[simp] theorem State.updEth_rlConfig (p f) : (s.updEth p f).rlConfig = s.rlConfig := rfl
@[simp] theorem State.updEth_port (p f) : (s.updEth p f).port = s.port := rfl
@[simp] theorem State.updEth_head (p f) : (s.updEth p f).head = s.head := rfl
@[simp] theorem State.updEth_cal (p f) : (s.updEth p f).cal = s.cal := rfl
@[simp] theorem State.updEth_nvm (p f) : (s.updEth p f).nvm = s.nvm := rfl
@[simp] theorem State.updEth_slate (p f) : (s.updEth p f).slate = s.slate := rfl
@[simp] theorem State.updEth_enc (p f) : (s.updEth p f).enc = s.enc := rfl
@[simp] theorem State.updEth_est (p f) : (s.updEth p f).est = s.est := rfl
@[simp] theorem State.updEth_axis (p f) : (s.updEth p f).axis = s.axis := rfl
@[simp] theorem State.updEth_trig (p f) : (s.updEth p f).trig = s.trig := rfl
@[simp] theorem State.updEth_cam (p f) : (s.updEth p f).cam = s.cam := rfl
@[simp] theorem State.updEth_vis (p f) : (s.updEth p f).vis = s.vis := rfl
@[simp] theorem State.updEth_loop (p f) : (s.updEth p f).loop = s.loop := rfl
@[simp] theorem State.updEth_twin (p f) : (s.updEth p f).twin = s.twin := rfl
@[simp] theorem State.updEth_dram (p f) : (s.updEth p f).dram = s.dram := rfl
@[simp] theorem State.updEth_dma (p f) : (s.updEth p f).dma = s.dma := rfl
@[simp] theorem State.updEth_pwr (p f) : (s.updEth p f).pwr = s.pwr := rfl
@[simp] theorem State.updEth_health (p f) : (s.updEth p f).health = s.health := rfl
@[simp] theorem State.updEth_log (p f) : (s.updEth p f).log = s.log := rfl
@[simp] theorem State.updEth_hostCore (p f) : (s.updEth p f).hostCore = s.hostCore := rfl

@[simp] theorem State.updFrame_pending (p f) : (s.updFrame p f).pending = s.pending := rfl
@[simp] theorem State.updFrame_free (p f) : (s.updFrame p f).free = s.free := rfl
@[simp] theorem State.updFrame_host (p f) : (s.updFrame p f).host = s.host := rfl
@[simp] theorem State.updFrame_boot (p f) : (s.updFrame p f).boot = s.boot := rfl
@[simp] theorem State.updFrame_fuse (p f) : (s.updFrame p f).fuse = s.fuse := rfl
@[simp] theorem State.updFrame_time (p f) : (s.updFrame p f).time = s.time := rfl
@[simp] theorem State.updFrame_geo (p f) : (s.updFrame p f).geo = s.geo := rfl
@[simp] theorem State.updFrame_bat (p f) : (s.updFrame p f).bat = s.bat := rfl
@[simp] theorem State.updFrame_fire (p f) : (s.updFrame p f).fire = s.fire := rfl
@[simp] theorem State.updFrame_rlConfig (p f) : (s.updFrame p f).rlConfig = s.rlConfig := rfl
@[simp] theorem State.updFrame_port (p f) : (s.updFrame p f).port = s.port := rfl
@[simp] theorem State.updFrame_head (p f) : (s.updFrame p f).head = s.head := rfl
@[simp] theorem State.updFrame_cal (p f) : (s.updFrame p f).cal = s.cal := rfl
@[simp] theorem State.updFrame_nvm (p f) : (s.updFrame p f).nvm = s.nvm := rfl
@[simp] theorem State.updFrame_slate (p f) : (s.updFrame p f).slate = s.slate := rfl
@[simp] theorem State.updFrame_enc (p f) : (s.updFrame p f).enc = s.enc := rfl
@[simp] theorem State.updFrame_est (p f) : (s.updFrame p f).est = s.est := rfl
@[simp] theorem State.updFrame_axis (p f) : (s.updFrame p f).axis = s.axis := rfl
@[simp] theorem State.updFrame_trig (p f) : (s.updFrame p f).trig = s.trig := rfl
@[simp] theorem State.updFrame_vis (p f) : (s.updFrame p f).vis = s.vis := rfl
@[simp] theorem State.updFrame_loop (p f) : (s.updFrame p f).loop = s.loop := rfl
@[simp] theorem State.updFrame_twin (p f) : (s.updFrame p f).twin = s.twin := rfl
@[simp] theorem State.updFrame_dram (p f) : (s.updFrame p f).dram = s.dram := rfl
@[simp] theorem State.updFrame_dma (p f) : (s.updFrame p f).dma = s.dma := rfl
@[simp] theorem State.updFrame_pwr (p f) : (s.updFrame p f).pwr = s.pwr := rfl
@[simp] theorem State.updFrame_health (p f) : (s.updFrame p f).health = s.health := rfl
@[simp] theorem State.updFrame_log (p f) : (s.updFrame p f).log = s.log := rfl
@[simp] theorem State.updFrame_hostCore (p f) : (s.updFrame p f).hostCore = s.hostCore := rfl

@[simp] theorem State.updLine_pending (h n f) : (s.updLine h n f).pending = s.pending := rfl
@[simp] theorem State.updLine_free (h n f) : (s.updLine h n f).free = s.free := rfl
@[simp] theorem State.updLine_host (h n f) : (s.updLine h n f).host = s.host := rfl
@[simp] theorem State.updLine_boot (h n f) : (s.updLine h n f).boot = s.boot := rfl
@[simp] theorem State.updLine_fuse (h n f) : (s.updLine h n f).fuse = s.fuse := rfl
@[simp] theorem State.updLine_time (h n f) : (s.updLine h n f).time = s.time := rfl
@[simp] theorem State.updLine_geo (h n f) : (s.updLine h n f).geo = s.geo := rfl
@[simp] theorem State.updLine_fire (h n f) : (s.updLine h n f).fire = s.fire := rfl
@[simp] theorem State.updLine_rlConfig (h n f) : (s.updLine h n f).rlConfig = s.rlConfig := rfl
@[simp] theorem State.updLine_port (h n f) : (s.updLine h n f).port = s.port := rfl
@[simp] theorem State.updLine_head (h n f) : (s.updLine h n f).head = s.head := rfl
@[simp] theorem State.updLine_cal (h n f) : (s.updLine h n f).cal = s.cal := rfl
@[simp] theorem State.updLine_nvm (h n f) : (s.updLine h n f).nvm = s.nvm := rfl
@[simp] theorem State.updLine_slate (h n f) : (s.updLine h n f).slate = s.slate := rfl
@[simp] theorem State.updLine_enc (h n f) : (s.updLine h n f).enc = s.enc := rfl
@[simp] theorem State.updLine_est (h n f) : (s.updLine h n f).est = s.est := rfl
@[simp] theorem State.updLine_axis (h n f) : (s.updLine h n f).axis = s.axis := rfl
@[simp] theorem State.updLine_trig (h n f) : (s.updLine h n f).trig = s.trig := rfl
@[simp] theorem State.updLine_cam (h n f) : (s.updLine h n f).cam = s.cam := rfl
@[simp] theorem State.updLine_vis (h n f) : (s.updLine h n f).vis = s.vis := rfl
@[simp] theorem State.updLine_loop (h n f) : (s.updLine h n f).loop = s.loop := rfl
@[simp] theorem State.updLine_twin (h n f) : (s.updLine h n f).twin = s.twin := rfl
@[simp] theorem State.updLine_dram (h n f) : (s.updLine h n f).dram = s.dram := rfl
@[simp] theorem State.updLine_dma (h n f) : (s.updLine h n f).dma = s.dma := rfl
@[simp] theorem State.updLine_pwr (h n f) : (s.updLine h n f).pwr = s.pwr := rfl
@[simp] theorem State.updLine_health (h n f) : (s.updLine h n f).health = s.health := rfl
@[simp] theorem State.updLine_log (h n f) : (s.updLine h n f).log = s.log := rfl
@[simp] theorem State.updLine_hostCore (h n f) : (s.updLine h n f).hostCore = s.hostCore := rfl

@[simp] theorem State.updPage_pending (h f) : (s.updPage h f).pending = s.pending := rfl
@[simp] theorem State.updPage_free (h f) : (s.updPage h f).free = s.free := rfl
@[simp] theorem State.updPage_host (h f) : (s.updPage h f).host = s.host := rfl
@[simp] theorem State.updPage_boot (h f) : (s.updPage h f).boot = s.boot := rfl
@[simp] theorem State.updPage_fuse (h f) : (s.updPage h f).fuse = s.fuse := rfl
@[simp] theorem State.updPage_time (h f) : (s.updPage h f).time = s.time := rfl
@[simp] theorem State.updPage_geo (h f) : (s.updPage h f).geo = s.geo := rfl
@[simp] theorem State.updPage_fire (h f) : (s.updPage h f).fire = s.fire := rfl
@[simp] theorem State.updPage_rlConfig (h f) : (s.updPage h f).rlConfig = s.rlConfig := rfl
@[simp] theorem State.updPage_port (h f) : (s.updPage h f).port = s.port := rfl
@[simp] theorem State.updPage_head (h f) : (s.updPage h f).head = s.head := rfl
@[simp] theorem State.updPage_cal (h f) : (s.updPage h f).cal = s.cal := rfl
@[simp] theorem State.updPage_nvm (h f) : (s.updPage h f).nvm = s.nvm := rfl
@[simp] theorem State.updPage_slate (h f) : (s.updPage h f).slate = s.slate := rfl
@[simp] theorem State.updPage_enc (h f) : (s.updPage h f).enc = s.enc := rfl
@[simp] theorem State.updPage_est (h f) : (s.updPage h f).est = s.est := rfl
@[simp] theorem State.updPage_axis (h f) : (s.updPage h f).axis = s.axis := rfl
@[simp] theorem State.updPage_trig (h f) : (s.updPage h f).trig = s.trig := rfl
@[simp] theorem State.updPage_cam (h f) : (s.updPage h f).cam = s.cam := rfl
@[simp] theorem State.updPage_vis (h f) : (s.updPage h f).vis = s.vis := rfl
@[simp] theorem State.updPage_loop (h f) : (s.updPage h f).loop = s.loop := rfl
@[simp] theorem State.updPage_twin (h f) : (s.updPage h f).twin = s.twin := rfl
@[simp] theorem State.updPage_dram (h f) : (s.updPage h f).dram = s.dram := rfl
@[simp] theorem State.updPage_dma (h f) : (s.updPage h f).dma = s.dma := rfl
@[simp] theorem State.updPage_pwr (h f) : (s.updPage h f).pwr = s.pwr := rfl
@[simp] theorem State.updPage_health (h f) : (s.updPage h f).health = s.health := rfl
@[simp] theorem State.updPage_log (h f) : (s.updPage h f).log = s.log := rfl
@[simp] theorem State.updPage_hostCore (h f) : (s.updPage h f).hostCore = s.hostCore := rfl

@[simp] theorem State.updPortLine_pending (h n p f) : (s.updPortLine h n p f).pending = s.pending := rfl
@[simp] theorem State.updPortLine_free (h n p f) : (s.updPortLine h n p f).free = s.free := rfl
@[simp] theorem State.updPortLine_host (h n p f) : (s.updPortLine h n p f).host = s.host := rfl
@[simp] theorem State.updPortLine_boot (h n p f) : (s.updPortLine h n p f).boot = s.boot := rfl
@[simp] theorem State.updPortLine_fuse (h n p f) : (s.updPortLine h n p f).fuse = s.fuse := rfl
@[simp] theorem State.updPortLine_time (h n p f) : (s.updPortLine h n p f).time = s.time := rfl
@[simp] theorem State.updPortLine_geo (h n p f) : (s.updPortLine h n p f).geo = s.geo := rfl
@[simp] theorem State.updPortLine_fire (h n p f) : (s.updPortLine h n p f).fire = s.fire := rfl
@[simp] theorem State.updPortLine_rlConfig (h n p f) : (s.updPortLine h n p f).rlConfig = s.rlConfig := rfl
@[simp] theorem State.updPortLine_port (h n p f) : (s.updPortLine h n p f).port = s.port := rfl
@[simp] theorem State.updPortLine_head (h n p f) : (s.updPortLine h n p f).head = s.head := rfl
@[simp] theorem State.updPortLine_cal (h n p f) : (s.updPortLine h n p f).cal = s.cal := rfl
@[simp] theorem State.updPortLine_nvm (h n p f) : (s.updPortLine h n p f).nvm = s.nvm := rfl
@[simp] theorem State.updPortLine_slate (h n p f) : (s.updPortLine h n p f).slate = s.slate := rfl
@[simp] theorem State.updPortLine_enc (h n p f) : (s.updPortLine h n p f).enc = s.enc := rfl
@[simp] theorem State.updPortLine_est (h n p f) : (s.updPortLine h n p f).est = s.est := rfl
@[simp] theorem State.updPortLine_axis (h n p f) : (s.updPortLine h n p f).axis = s.axis := rfl
@[simp] theorem State.updPortLine_trig (h n p f) : (s.updPortLine h n p f).trig = s.trig := rfl
@[simp] theorem State.updPortLine_cam (h n p f) : (s.updPortLine h n p f).cam = s.cam := rfl
@[simp] theorem State.updPortLine_vis (h n p f) : (s.updPortLine h n p f).vis = s.vis := rfl
@[simp] theorem State.updPortLine_loop (h n p f) : (s.updPortLine h n p f).loop = s.loop := rfl
@[simp] theorem State.updPortLine_twin (h n p f) : (s.updPortLine h n p f).twin = s.twin := rfl
@[simp] theorem State.updPortLine_dram (h n p f) : (s.updPortLine h n p f).dram = s.dram := rfl
@[simp] theorem State.updPortLine_dma (h n p f) : (s.updPortLine h n p f).dma = s.dma := rfl
@[simp] theorem State.updPortLine_pwr (h n p f) : (s.updPortLine h n p f).pwr = s.pwr := rfl
@[simp] theorem State.updPortLine_health (h n p f) : (s.updPortLine h n p f).health = s.health := rfl
@[simp] theorem State.updPortLine_log (h n p f) : (s.updPortLine h n p f).log = s.log := rfl
@[simp] theorem State.updPortLine_hostCore (h n p f) : (s.updPortLine h n p f).hostCore = s.hostCore := rfl

@[simp] theorem State.updData_data (f) : (s.updData f).cal.data = f s.cal.data := rfl
@[simp] theorem State.updData_store (f) : (s.updData f).cal.store = s.cal.store := rfl
@[simp] theorem State.updStore_store (f) : (s.updStore f).cal.store = f s.cal.store := rfl
@[simp] theorem State.updStore_data (f) : (s.updStore f).cal.data = s.cal.data := rfl
@[simp] theorem State.updVol_data (p i f) : (s.updVol p i f).cal.data = s.cal.data := rfl
@[simp] theorem State.updVol_store (p i f) : (s.updVol p i f).cal.store = s.cal.store := rfl
@[simp] theorem State.updLine_pages (h n f) : (s.updLine h n f).bat.pages = s.bat.pages := rfl
@[simp] theorem State.updPage_lines (h f) : (s.updPage h f).bat.lines = s.bat.lines := rfl
@[simp] theorem State.updPortLine_pages (h n p f) : (s.updPortLine h n p f).bat.pages = s.bat.pages := rfl

end Sys2Proof.Machine
end

