-- ==== Sys2Proof/WellFormed.lean ====
section
/-! DEFINITION. Which commands are well formed: every index names a part of the chip, every list has the length of its field, a data
block the length its command states. What a register field or payload field of fixed width holds is left to the command's own checks. -/

namespace Sys2Proof

/-- Bytes of `n` 2-bit pixels (spec/04 Table 04-7). -/
def ceil4 (n : Nat) : Nat := (n + 3) / 4

/-- The size of PIXELS: two bytes an entry of a sparse frame, else a byte for four nozzles (spec/04 Table 04-7). -/
def FireLine.pixelBytes (f : FireLine) : Nat := if f.ctl.getLsbD 5 then 2 * f.count.toNat else ceil4 f.count.toNat

/-- A CSI-2 long packet (spec/06 R182): a virtual channel, an ECC verdict, samples of at most 14 bits. -/
def CsiLine.wf (l : CsiLine) : Bool := decide (l.vc < 16) && decide (l.ecc ≤ 2) && l.samples.all (· < 16384)

/-- An entry of Table 07-1 (spec/07). -/
def AccEntry.wf (a : AccEntry) : Bool :=
  decide (a.n < 2 ^ 14) && decide (a.sx < 2 ^ 21) && decide (a.sy < 2 ^ 25) && decide (a.sxx < 2 ^ 29) && decide (a.sxy < 2 ^ 33)

/-- The parts a DRAM reader names (spec/11 R312). -/
def DramReader.wf : DramReader → Bool
  | .slate n => decide (n < 16)
  | .ring h l p ns => decide (h < 256) && decide (l < 1048576) && decide (p < 48) && ns.all (· < 65536)
  | .camera c => decide (c < 4)
  | .egress c => decide (c < 32)
  | .core => true

/-- Well-formed commands. -/
def Instr.wf : Instr → Bool
  | .sysGetInfo _ => true
  | .sysReset _ _ _ => true
  | .sysUpdateBegin _ _ _ => true
  | .sysUpdateData _ _ bytes _ data => data.length == bytes.toNat
  | .sysUpdateEnd _ => true
  | .sysSetSvn _ _ _ => true
  | .sysRevokeKey _ _ _ => true
  | .sysDebugChallenge _ => true
  | .sysDebugUnlock _ _ _ pubkey _ sigR sigS => pubkey.length == 97 && sigR.length == 48 && sigS.length == 48
  | .sysRecoveryLoad _ _ bytes _ data => data.length == bytes.toNat
  | .sysRecoveryBoot _ => true
  | .barSetWeb _ _ => true
  | .barSetPort _ _ => true
  | .barCommit _ => true
  | .barSetPolicy _ _ _ _ => true
  | .barGet _ => true
  | .barGetPort _ _ _ => true
  | .headGetInfo _ _ _ => true
  | .headSetDrive _ _ _ _ _ _ => true
  | .headSetChar _ _ _ _ entries => entries.length == 128
  | .headSetThermal _ _ => true
  | .headResume _ _ _ => true
  | .headGetNozzle _ _ _ _ _ _ => true
  | .headSetNozzle _ _ _ _ _ => true
  | .headMeasure _ _ _ => true
  | .fireSetLevels _ _ _ _ _ => true
  | .fireSetComp _ _ _ _ _ => true
  | .fireSetWarm _ _ _ _ _ => true
  | .fireSetMeasure _ _ => true
  | .fireSetIlk _ _ _ _ debounceUs => debounceUs.length == 8
  | .fireArm _ => true
  | .fireDisarm _ => true
  | .fireGetHiding _ => true
  | .pageAdmit _ _ => true
  | .pageAbort _ _ _ _ => true
  | .pageQuery _ _ _ => true
  | .pageReport _ _ _ => true
  | .pageGetWeb _ => true
  | .slateOpen _ _ _ _ _ => true
  | .slateBind _ _ _ _ _ => true
  | .slateStatus _ _ _ => true
  | .slateStreamStatus _ _ _ _ => true
  | .slateFree _ _ _ => true
  | .slateStoreInfo _ => true
  | .slateEncOpen _ _ => true
  | .slateEncClose _ _ _ => true
  | .slateStateRead _ _ _ _ _ => true
  | .slateEncRestore _ _ _ _ _ => true
  | .slateGetCounters _ => true
  | .camSetLink _ _ => true
  | .camSetPlace _ _ => true
  | .camSetExposure _ p => p.black.length == 6
  | .camLoadFlat _ _ _ _ _ => true
  | .camStart _ _ _ _ => true
  | .camStop _ _ _ _ => true
  | .camGetStatus _ _ _ => true
  | .camGetFrames _ _ _ _ => true
  | .visSetNr _ _ _ _ _ _ => true
  | .visSetMatrix _ _ _ m off => m.length == 9 && off.length == 3
  | .visSetPreview _ _ => true
  | .visSetEgress _ _ _ _ _ => true
  | .visSetDefect _ _ => true
  | .visGetDefects _ _ _ _ => true
  | .visThatchArm _ _ => true
  | .visGetDensity _ _ _ _ => true
  | .visGetStatus _ => true
  | .calSetLoop _ _ => true
  | .calGetStatus _ => true
  | .calGetColumns _ _ _ _ => true
  | .calSetFactory _ _ _ _ _ _ => true
  | .calRecal _ _ => true
  | .calRecalStop _ _ _ => true
  | .nvmGetStatus _ => true
  | .nvmRead _ _ _ _ => true
  | .nvmCompact _ => true
  | .nvmEraseCal _ => true
  | .encSetInput _ p => p.params.length == 24
  | .encGetStatus _ _ _ => true
  | .encSetCount _ _ _ _ => true
  | .motSetAxis _ _ => true
  | .motSetRates _ _ => true
  | .motMove _ _ _ _ _ => true
  | .motStop _ _ _ => true
  | .motQuickStop _ _ _ => true
  | .motLoadTable _ _ _ _ _ _ => true
  | .motRunTable _ _ _ _ _ => true
  | .motGear _ _ => true
  | .motGearRatio _ _ _ _ _ _ _ => true
  | .motSetCompare _ _ => true
  | .motGetStatus _ _ _ => true
  | .motGetCompare _ _ _ => true
  | .motSetPosition _ _ _ _ => true
  | .twinGetStatus _ => true
  | .twinSetMode _ _ => true
  | .twinSwitchback _ _ _ => true
  | .twinResolve _ _ _ => true
  | .timeSetClock _ _ => true
  | .timeSetPtp _ _ => true
  | .timeSetPort _ _ => true
  | .timeSetAsym _ _ _ _ _ => true
  | .timeGetStatus _ => true
  | .timeGetTime _ => true
  | .timeSetCalendar _ _ _ => true
  | .timeSetPress _ _ _ _ _ => true
  | .timeSendStop _ => true
  | .timeGetPress _ _ _ => true
  | .pwrSetState _ _ _ => true
  | .pwrSetLevel _ _ _ => true
  | .pwrSetRetention _ _ _ _ => true
  | .pwrSetWake _ _ _ _ _ => true
  | .pwrSetDroop _ _ _ _ _ => true
  | .pwrSetSupply _ _ _ _ _ _ => true
  | .pwrGetStatus _ => true
  | .logStatus _ => true
  | .logClear _ _ => true
  | .logSet _ _ _ => true
  | .logRead _ _ _ _ => true
  | .healthGetReport _ => true
  | .healthClear _ _ _ => true
  | .healthSet _ _ _ => true
  | .healthUnretire _ _ _ _ => true
  | .dramGetConfig _ => true
  | .dramSetMap _ _ _ _ masks => masks.length == 6
  | .dramSetRegions _ _ _ _ _ => true
  | .dramGetRegions _ => true
  | .dramSetQos _ priority _ _ _ _ => priority.length == 7
  | .dramSetHealth _ _ _ _ _ _ => true
  | .dramGetCounters _ _ _ => true
  | .dramRetire _ _ _ _ => true
  | .dmaSetChannel _ _ => true
  | .dmaGetChannel _ _ _ => true
  | .mbCancel _ => true
  | .revive port _ => decide (port < 48)
  | .resync port => decide (port < 48)
  | .drop port => decide (port < 48)
  | .run ch _ => decide (ch < 32)
  | .stop ch => decide (ch < 32)
  | .clear ch => decide (ch < 32)
  | .dmaProdWrite ch _ => decide (ch < 32)
  | .dmaConsWrite ch _ => decide (ch < 32)
  | .dmaCountAdd ch _ => decide (ch < 32)
  | .registerWrite offset _ _ => decide (offset < 65536)
  | .bar2Write offset data => decide (offset + data.length ≤ 2 ^ 34) && !data.isEmpty
  | .bar2Read offset len => decide (offset + len ≤ 2 ^ 34) && len != 0
  | .functionLevelReset => true
  | .hotReset => true
  | .linkDown => true
  | .perstAssert => true
  | .resetNFall => true
  | .resetNRise _ => true
  | .imageLoadDone _ _ => true
  | .dramTrainDone r => decide (-32768 ≤ r.junction) && decide (r.junction < 32768)
  | .ready _ => true
  | .lockstepMismatch => true
  | .firmwareRestartDone => true
  | .encoderEdge enc e => decide (enc < 4) && decide (1 ≤ e.held)
  | .encStandstill enc => decide (enc < 4)
  | .ssiFrameStart enc _ => decide (enc < 4)
  | .ssiFrameDone enc word _ _ => decide (enc < 4) && decide (word < 2 ^ 41)
  | .ssiTimeout enc => decide (enc < 4)
  | .lineRelease handle line => decide (handle < 256) && decide (line < 1048576)
  | .decodeJobStart decoder => decide (decoder < 16)
  | .decodeJobDone decoder => decide (decoder < 16)
  | .frameBuild port handle line => decide (port < 48) && decide (handle < 256) && decide (line < 1048576)
  | .ridgeFrameTx port => decide (port < 48)
  | .lineLate handle line => decide (handle < 256) && decide (line < 1048576)
  | .placementCheck port handle line => decide (port < 48) && decide (handle < 256) && decide (line < 1048576)
  | .pageDone handle => decide (handle < 256)
  | .handleFree handle => decide (handle < 256)
  | .ilkInputActive x => decide (x.input < 8)
  | .ilkInputInactive x => decide (x.input < 8)
  | .rlStatusRx port _ => decide (port < 48)
  | .throttleDecay port => decide (port < 48)
  | .upstreamSilent port => decide (port < 48)
  | .gapWindowOpen port _ => decide (port < 48)
  | .gapWindowClose port => decide (port < 48)
  | .warmEvaluate port => decide (port < 48)
  | .measureSliceSend port => decide (port < 48)
  | .measureResultRx port _ readings => decide (port < 48) && decide (readings.length ≤ 256)
  | .measureTimeout port => decide (port < 48)
  | .detectBurst port => decide (port < 48)
  | .linkAligned port => decide (port < 48)
  | .trainSweepDone port scores => decide (port < 48) && scores.length == 16 && scores.all (· < 256)
  | .eyeSample port score scoreUp scoreDown => decide (port < 48) && [score, scoreUp, scoreDown].all (· < 256)
  | .trainTimeout port => decide (port < 48)
  | .signalLoss port => decide (port < 48)
  | .commaLoss port => decide (port < 48)
  | .skipSend port => decide (port < 48)
  | .electricalIdleEntry port => decide (port < 48)
  | .rlHelloRx port _ => decide (port < 48)
  | .rlCtrlRespRx port _ _ data => decide (port < 48) && decide (data.length ≤ 1024)
  | .ctrlTimeout port => decide (port < 48)
  | .echoSend port => decide (port < 48)
  | .echoRespRx port _ _ _ => decide (port < 48)
  | .timeSend port => decide (port < 48)
  | .rlBadFrame port x => decide (port < 48) && (match x.uport with | some u => decide (u < 2) | none => true) &&
      decide (x.frame.bytes.length ≤ 2076)
  | .headFireLineRx head uport _ f => decide (head < 48) && decide (uport < 2) && f.pixels.length == f.pixelBytes
  | .headRetimeRx head uport _ _ _ => decide (head < 48) && decide (uport < 2)
  | .headCeaseRx head uport _ _ => decide (head < 48) && decide (uport < 2)
  | .headCtrlWrRx head uport _ _ data => decide (head < 48) && decide (uport < 2) && decide (data.length ≤ 1024)
  | .headCtrlRdRx head uport _ _ _ => decide (head < 48) && decide (uport < 2)
  | .headMeasureFrame head uport _ nozzles readA readB => decide (head < 48) && decide (uport < 2) &&
      decide (nozzles.length ≤ 256) && readA.length == nozzles.length && readB.length == nozzles.length
  | .headTimeRx head uport _ => decide (head < 48) && decide (uport < 2)
  | .headEchoRx head uport _ _ => decide (head < 48) && decide (uport < 2)
  | .headHelloRx head uport _ => decide (head < 48) && decide (uport < 2)
  | .headHelloSend head m => decide (head < 48) && decide (m.uport < 2) && decide (m.nozzles ≤ 8192)
  | .headStatusSend head x => decide (head < 48) && decide (x.uport < 2) && decide (x.eye < 256)
  | .headFireLine head _ => decide (head < 48)
  | .headRecordExpiry head _ => decide (head < 48)
  | .headTCut head _ => decide (head < 48)
  | .headFireEnableLow head => decide (head < 48)
  | .dmaIngressTransfer ch data => decide (ch < 32) && !data.isEmpty
  | .dmaEgressTransfer ch bytes => decide (ch < 32) && bytes != 0
  | .dmaReadbackDone ch => decide (ch < 32)
  | .dmaBusError ch => decide (ch < 32)
  | .dmaRetry ch => decide (ch < 32)
  | .camTrigger port => decide (port < 4)
  | .trigPulseEnd trig => decide (trig < 8)
  | .csiFsRx x => decide (x.port < 4) && decide (x.ecc < 3)
  | .csiLsRx x vc line => decide (x.port < 4) && decide (x.ecc < 3) && decide (vc < 16) && decide (line < 65536)
  | .csiLineRx port l => decide (port < 4) && l.wf
  | .csiOtherPacketRx x => decide (x.port < 4) && decide (x.ecc < 3)
  | .csiFeRx x => decide (x.port < 4) && decide (x.ecc < 3)
  | .pipelineLineStart => true
  | .pipelineLineDone => true
  | .encodeJobStart => true
  | .encodeJobDone => true
  | .blockClose => true
  | .recalTimeout port => decide (port < 4)
  | .recalPeriodRestart port => decide (port < 4)
  | .journalRecordWrite => true
  | .journalCommit => true
  | .compactionDone => true
  | .eventRecordWrite => true
  | .twinHelloRx _ _ _ => true
  | .beatSend => true
  | .beatRx _ => true
  | .twinBeatInSilent => true
  | .beatTimeout => true
  | .partnerEvidenceEnd => true
  | .ilkDisagree => true
  | .mirrorDataRx _ f => !f.data.isEmpty && decide (f.data.length ≤ 2048)
  | .admitRx _ _ => true
  | .pageEventRx _ f => f.ranges.length == (if f.kind = 3 then 15 else 0)
  | .configRx _ _ _ payload => decide (payload.length ≤ 2032)
  | .journalRx _ f => !f.data.isEmpty && decide (f.data.length ≤ 2048)
  | .accumRx _ f => !f.entries.isEmpty && decide (f.entries.length ≤ 128) && f.entries.all AccEntry.wf
  | .roleRx _ _ => true
  | .ackRx _ => true
  | .ackSend => true
  | .twinResend => true
  | .admitAckTimeout => true
  | .journalAckTimeout => true
  | .pageReportTimeout handle => decide (handle < 256)
  | .twinEchoSend => true
  | .twinEchoRx _ _ _ => true
  | .reportRx summary => summary.length == 64
  | .twinEyeSample x => x.scores.length == 4 && x.scores.all (· < 256)
  | .castleTimer => true
  | .supervisionReturn => true
  | .watchInterval => true
  | .ptpSyncRx port _ _ _ _ => decide (port < 2)
  | .ptpAnnounceRx port _ => decide (port < 2)
  | .ptpDelayRespRx port _ _ => decide (port < 2)
  | .ptpDelayReqRx port _ _ => decide (port < 2)
  | .ptpMessageSend port _ => decide (port < 2)
  | .announceTimeout port => decide (port < 2)
  | .holdoverLimit => true
  | .arpRequestRx port _ => decide (port < 2)
  | .ethOtherRx port => decide (port < 2)
  | .pressMessageRx port _ => decide (port < 2)
  | .rtcDiscipline => true
  | .axisStep axis => decide (axis < 8)
  | .scrubDone => true
  | .hotspotWindowEnd conflicts => conflicts.all fun c => decide (c.1 < 64)
  | .dqsDriftCheck rank _ => decide (rank < 4)
  | .dramUe channel _ reader => decide (channel < 2) && reader.wf
  | .handshakeReask => true
  | .handshakeBoundExpiry => true
  | .pmbusWriteDone _ _ => true
  | .vsettleExpiry => true
  | .wakeIn => true
  | .rtcAlarm => true
  | .perstRise => true
  | .encMove => true
  | .corePgRise _ => true
  | .corePgTimeout => true
  | .pwrEnRetry => true
  | .corePgFall => true
  | .droopTrip sensor => decide (sensor < 16)
  | .droopClear sensor => decide (sensor < 16)
  | .droopRestore => true
  | .droopLong _ => true
  | .thermalShutdown _ => true
  | .thermalOff => true
  | .decoderSelftest decoder _ => decide (decoder < 16)
  | .veSelftest engine _ => decide (engine < 4)
  | .pllMarginCheck _ => true
  | .tjCheck sensors => sensors.length == 8
  | .sramEccError bank row _ => decide (bank < 48) && decide (row < 65536)
  | .mbDoorbell _ => true
  | .telemetryTimeout port => decide (port < 48)
  | .lineFired port handle line => decide (port < 48) && decide (handle < 256) && decide (line < 1048576)
  | .dramCorrectedError channel _ => decide (channel < 2)
  | .retBrownout => true
  | .aonPowerLoss => true
  | .pcieLinkUp => true
  | .warmingPulse head nozzle => decide (head < 48) && decide (nozzle < 65536)
  | .headElectricalIdleEntry head uport => decide (head < 48) && decide (uport < 2)
  | .tapInstruction _ => true

end Sys2Proof
end

