-- ==== Sys2Proof/Tests/Slice0.lean ====
section
/-! SUPPORT. The model's own tests: an ill-formed term for each check of WellFormed; for every statement of Obligations.lean
that has hypotheses a concrete state and operands that meet them, clause by clause, at a boundary of the ranges where there is
one; and a few single steps of each family against values worked out from the spec's rules and tables. -/

namespace Sys2Proof.Tests

set_option Elab.async false
set_option linter.unusedVariables false

open Machine

/-! ## Small states and operands -/

/-- A header of slot 7 for a payload of `n` bytes. -/
def hdr (n : Nat) : MbHdr := ⟨7, 1, 2, BitVec.ofNat 16 (16 + n), 0⟩
/-- READY, the PCIe link up, everything else at reset. -/
def rdy : State := { boot := { resetN := true, stage := .ready }, host := { live := true } }
/-- READY on a chip of a pair. -/
def tw (t : Twin) : State := { rdy with boot := { rdy.boot with twinEn := true }, twin := t }
/-- The first address of the Free region of the reset map. -/
def freeA : BitVec 64 := BitVec.ofNat 64 (50 * 2 ^ 28)
/-- One row at 600 lines per inch, 1 count per line. -/
def web0 : Web := ⟨false, false, 600, 1, 1, 42333000, 1000, 50, 4, 3, 100, 100, 1024⟩
/-- One enabled port of 1,024 nozzles. -/
def geo0 : Geo := { web := some web0, port := [(0, { enable := true, nozzles := 1024 })] }
/-- READY with that geometry. -/
def geoS : State := { rdy with geo := { committed := some geo0 } }
/-- READY with that geometry staged. -/
def stagedS : State := { rdy with geo := { staged := geo0 } }
/-- The request that stages `web0`. -/
def webReq : BarWebReq := ⟨0, 0, 600, 1, 1, 42333000, 1000, 50, 4, 3, 100, 100, 1024⟩
/-- The request that stages the port of `geo0`. -/
def portReq : BarPortReq := ⟨0, 1, 1024, 0, 0, 0⟩
/-- A page of four lines at count 1,000. -/
def page0 : Page := { handle := 0, entry := 0, lines := 4, top := 65536000, vContract := 1, parity := 0, policy := 0 }
/-- READY with that page queued. -/
def pageS : State := { geoS with bat := { pages := [page0] } }
/-- The web runs at 1,000 counts a second. -/
def movS : State := { pageS with est := { st := .moving, v := 1000 } }
/-- The default thermal thresholds. -/
def thermReq : HeadThermalReq := ⟨0, 0, 0x02D0, 0x0370, 0x03E0, 0x0460, 0x0020⟩
/-- A page at handle 0 from entry 0, four lines, at 1,000 counts. -/
def admitReq : PageAdmitReq := ⟨0, 0, 0, 4, 65536000, 1, 0⟩
/-- What PAGE_ADMIT asks for: a resident entry, FIRE_PERMIT, a moving web. -/
def queueS : State :=
  { geoS with
    fire := { permit := true }, est := { st := .moving, v := 1 },
    slate := { entries := [(0, some ⟨1, 4, false, [(0, { st := .resident, width := 1024, declared := 72 })]⟩)] } }
/-- The web 40 µs before the page's first line, a line delay ring reserved. -/
def dueS : State := { movS with geo := { movS.geo with ringChunks := 64 }, est := { st := .moving, v := 100000, p := 996 } }
/-- A print stream of one line of 1,024 columns without ink. -/
def decBytes : List Byte := streamHeader 2 0 0 1024 1 0 0 ++ blockBytes 1 2 1 0 (pack (bitsOfNat 2 3))
/-- A decoder at work on that stream. -/
def decS : State :=
  { movS with slate := { entries := [(0, some ⟨1, 1, false, [(0, { width := 1024, data := decBytes })]⟩)], jobs := [(15, some (0, 0, 0))] } }
/-- A mapped line with port 0 at a state. -/
def line0 (x : LineSt) : Line := { handle := 0, line := 0, mapped := true, port := [(0, { st := x })] }
/-- Its page, the web moving, head port 0 in UP. -/
def lineS (x : LineSt) : State := { movS with bat := { pages := [page0], lines := [line0 x] }, port := [(0, { st := .up })] }
/-- That line and page with the web 40 µs before it. -/
def dueLine (x : LineSt) : State := { dueS with bat := { pages := [page0], lines := [line0 x] }, port := [(0, { st := .up })] }
/-- READY with head port 47 as said. -/
def portS (p : Port) : State := { rdy with port := [(47, p)] }
/-- An encoder state record of 16 columns of 8 bits at its first line (spec/05 Table 05-4), with its CRC. -/
def recBytes : List Byte :=
  [0x53, 0x4C, 0x53, 0x54, 1, 8, 16] ++ zeros 13 ++ [2, 0, 0, 0, 5] ++ zeros 7 ++
    (List.replicate 8 ([1, 0, 0, 0, 1, 0, 0, 0] : List Byte)).flatten ++ zeros 64 ++ [190, 57, 210, 188] ++ zeros 4
/-- What that record says. -/
def recSt : CodecSt := { ctxs := List.replicate 8 {}, hist := List.replicate 4 (List.replicate 16 0) }
/-- That record in DRAM, for egress stream 0, whose source is as wide. -/
def restoreS : State :=
  { rdy with
    slate := { es := [(0, { srcSet := true })] }, dma := [(0, { st := .ready, egress := true })],
    cam := [(0, { link := { pixels := 16 } })],
    dram := { cells := (recBytes.zipIdx.map fun p => (50 * 2 ^ 28 + p.2, p.1)).filter fun p => p.2 != 0 } }
/-- A port of two nozzles, and a gain of 0x4000 for each in DRAM. -/
def facS : State :=
  { rdy with
    geo := { committed := some { web := some web0, port := [(0, { enable := true, nozzles := 2 })] } },
    dram := { cells := [(50 * 2 ^ 28 + 1, 0x40), (50 * 2 ^ 28 + 3, 0x40)] } }
/-- READY with a camera that owns columns of `geo0`. -/
def ownS : State := { geoS with cam := [(0, { linkSet := true, placeSet := true, st := .running })] }
/-- READY with an SSI encoder at input 3. -/
def ssiS : State := { rdy with enc := [(3, { typ := .ssi })] }
/-- A running camera. -/
def camRun : Cam := { linkSet := true, placeSet := true, st := .running }
/-- An open frame. -/
def frame0 : Frame := { number := 0, epoch := 0 }
/-- READY with camera 3 receiving `frame0`. -/
def camS (k : Cam) (l : List CamLine) : State := { rdy with cam := [(3, { k with frame := some frame0, fifo := l })] }
/-- A camera line. -/
def camLine0 : CamLine := { frame := 0, line := 1, pos := 0, long := List.replicate 256 5, short := none, epoch := 0, exp := {} }
/-- A good packet of virtual channel 0. -/
def csi0 : CsiLine := { vc := 0, samples := [], crcOk := true, ecc := 0 }
/-- READY on a chip of a pair, upstream port 1 of head 47 linked. -/
def headS (x : Head) : State := { tw {} with head := [(47, { x with up := [(1, { st := .linked })] })] }
/-- A FIRE_LINE of no pixel at the horizon's lower end. -/
def fireLine0 : FireLine := { fireTime := 512000, throttle := 0, ctl := 0, firstNozzle := 0, count := 0, pixels := [] }
/-- A STATUS frame of zeros. -/
def status0 : StatusFrame := ⟨0, 0, 0, 0, 0, 0, 0, 0, 0, 0, 0, 0, 0, 0, 0, 0, 0⟩
/-- A BEAT frame of zeros. -/
def beat0 : Beat := ⟨0, 0, 0, 0, 0, 0, 0, 0⟩
/-- The first fragment of a journal record. -/
def jf0 : JournalFrame := ⟨1, 0, 1, []⟩
/-- The first MIRROR_DATA of an entry. -/
def mf0 : MirrorFrame := { storeEntry := 5, seg := 0, flags := 0, offset := 0, lines := 4, segments := 1, entryFlags := 0, data := [] }
/-- An ADMIT frame. -/
def af0 : AdmitFrame := { handle := 5, startParity := 0, flags := 0, policy := 0, storeEntry := 0, lines := 4, vContract := 1, top := 0, admitSec := 0, admitNs := 0 }
/-- An entry of an ACCUM frame. -/
def acc0 : AccEntry := ⟨1, 2, 3, 4, 5⟩
/-- A ROLE frame. -/
def rf0 : RoleFrame := ⟨1, 1, 0, 0⟩
/-- An Announce message. -/
def ann0 : AnnounceMsg := ⟨0, 128, 248, 0xFE, 0xFFFF, 128, 5, 0, 5, 37, false⟩
/-- The start-up training report: both channels as said. -/
def train0 (a b : Bool) : TrainReport := ⟨a, b, 0, false, 0, 0, 0, 0⟩
/-- A press message of bar 1 with its CRC. -/
def pressMsg : List Byte :=
  let m : List Byte := [0x45, 0x46, 0x50, 0x4D, 1, 0, 1] ++ zeros 41
  m ++ le 4 (crc32 m).toNat
/-- READY with the request of an opcode in the request area of slot 7. -/
def areaS (lo hi : Byte) : State :=
  { rdy with host := { live := true, reqArea := [(0x7000, lo), (0x7001, hi), (0x7002, 1), (0x7003, 2), (0x7004, 16)] } }

/-! ## Each statement has states and operands that meet it -/

theorem rec_crc : crc32 (recBytes.take 160) = 0xBCD239BE := by
  have h : recBytes.take 160 = recBytes.take 40 ++ ((recBytes.drop 40).take 40 ++ ((recBytes.drop 80).take 40 ++
    (recBytes.drop 120).take 40)) := by decide +kernel
  have h1 : (recBytes.take 40).foldl crcByte 0xFFFFFFFF = 965565420 := by decide +kernel
  have h2 : ((recBytes.drop 40).take 40).foldl crcByte 965565420 = 1504373018 := by decide +kernel
  have h3 : ((recBytes.drop 80).take 40).foldl crcByte 1504373018 = 2116625218 := by decide +kernel
  have h4 : ((recBytes.drop 120).take 40).foldl crcByte 2116625218 = 1127073345 := by decide +kernel
  rw [crc32, h, List.foldl_append, List.foldl_append, List.foldl_append, h1, h2, h3, h4]
  decide +kernel

theorem rec_read : readRecord (restoreS.dramRead freeA.toNat 168) 8 16 = some (1, 5, recSt) := by
  have h : restoreS.dramRead freeA.toNat 168 = recBytes := by decide +kernel
  have hc : fieldAt recBytes 160 4 = (crc32 (recBytes.take 160)).toNat := by rw [rec_crc]; decide +kernel
  rw [h, readRecord, if_pos ⟨by decide +kernel, by decide +kernel, by decide +kernel, hc⟩]
  decide +kernel

theorem test_meets_SystemInfoAndUpdate :
    (∃ (s : State) (h : MbHdr), Safety.rings s h = true ∧ Safety.header h 0 = true) ∧
    (∃ (s : State) (h : MbHdr) (slot : Byte), Safety.served s h 4 = true ∧ slot.toNat = s.updatable) ∧
    (∃ (s : State) (h : MbHdr) (offset : BitVec 32) (bytes : BitVec 32) (data : List Byte) (k : Nat),
      Safety.served s h (16 + bytes.toNat) = true ∧ s.boot.updSlot = some k ∧ data.length = bytes.toNat ∧
      offset.toNat % 16 = 0 ∧ 0x1000 ≤ offset.toNat ∧ offset.toNat + bytes.toNat ≤ slotBytes ∧ 16 ≤ bytes.toNat ∧
      bytes.toNat ≤ 2016 ∧ bytes.toNat % 16 = 0) :=
  ⟨⟨rdy, hdr 0, by decide +kernel⟩,
   ⟨rdy, hdr 4, 1, by decide +kernel⟩,
   ⟨{ rdy with boot := { rdy.boot with updSlot := some 1 } }, hdr 32, 0x1000, 16, List.replicate 16 0, 1, by decide +kernel⟩⟩

theorem test_meets_FuseCommandsRun :
    (∃ (s : State) (h : MbHdr) (svn : BitVec 16), Safety.served s h 4 = true ∧ s.fuse.otpCounter ≤ svn.toNat ∧
      svn.toNat ≤ s.boot.imgSvn ∧ svn.toNat ≤ 64) ∧
    (∃ (s : State) (h : MbHdr) (svn : BitVec 16), Safety.served s h 4 = true ∧ svn.toNat ≤ 64 ∧
      (svn.toNat < s.fuse.otpCounter ∨ s.boot.imgSvn < svn.toNat)) ∧
    (∃ (s : State) (h : MbHdr) (k : Byte), Safety.served s h 4 = true ∧ k.toNat < 4 ∧ k.toNat ≠ s.boot.imgKey ∧
      (2 ≤ s.fuse.keysLeft ∨ s.fuse.revoked.getLsbD k.toNat = true)) ∧
    (∃ (s : State) (h : MbHdr), Safety.served s h 0 = true ∧ s.fuse.debugFused = false) :=
  ⟨⟨{ rdy with boot := { rdy.boot with imgSvn := 64 } }, hdr 4, 64, by decide +kernel⟩,
   ⟨{ rdy with boot := { rdy.boot with imgSvn := 63 } }, hdr 4, 64, by decide +kernel⟩,
   ⟨rdy, hdr 4, 3, by decide +kernel⟩,
   ⟨rdy, hdr 0, by decide +kernel⟩⟩

theorem test_meets_RecoveryAndReset :
    (∃ (s : State) (h : MbHdr) (offset : BitVec 32) (bytes : BitVec 32) (data : List Byte), Safety.rings s h = true ∧
      Safety.header h (16 + bytes.toNat) = true ∧ s.boot.stage = .recovery ∧ data.length = bytes.toNat ∧ offset.toNat % 16 = 0 ∧
      offset.toNat + bytes.toNat ≤ 4194304 ∧ 16 ≤ bytes.toNat ∧ bytes.toNat ≤ 2016 ∧ bytes.toNat % 16 = 0) ∧
    (∃ (s : State) (h : MbHdr), Safety.served s h 4 = true ∧ s.bat.pages = []) ∧
    (∃ (s : State) (h : MbHdr), Safety.served s h 4 = true ∧ s.bat.pages = []) :=
  ⟨⟨{ rdy with boot := { rdy.boot with stage := .recovery } }, hdr 32, 0x3FFFF0, 16, List.replicate 16 0, by decide +kernel⟩,
   ⟨rdy, hdr 4, by decide +kernel⟩,
   ⟨rdy, hdr 4, by decide +kernel⟩⟩

theorem test_meets_BarSettingsStage :
    (∃ (s : State) (h : MbHdr) (p : BarWebReq), Safety.served s h 32 = true ∧ s.notSupervisor = false ∧ p.altPhase.toNat ≤ 1 ∧
      p.estEdges ≠ 0 ∧ p.segWidth ≠ 0 ∧ barWebBad p = none) ∧
    (∃ (s : State) (h : MbHdr) (p : BarPortReq), Safety.served s h 16 = true ∧ s.notSupervisor = false ∧ p.flags.toNat ≤ 7 ∧
      p.nozzles ≠ 0 ∧ barPortBad p = none) ∧
    (∃ (s : State) (h : MbHdr) (policy : Byte) (fraction : BitVec 16), Safety.served s h 4 = true ∧ s.notSupervisor = false ∧
      policy.toNat ≤ 2 ∧ 0x8000 ≤ fraction.toNat) ∧
    (∃ (s : State) (h : MbHdr) (p : BarWebReq) (c : Nat), Safety.served s h 32 = true ∧ p.altPhase.toNat ≤ 1 ∧ p.estEdges ≠ 0 ∧
      p.segWidth ≠ 0 ∧ barWebBad p = some c) ∧
    (∃ (s : State) (h : MbHdr) (p : BarPortReq), Safety.served s h 16 = true ∧ s.notSupervisor = true ∧ p.flags.toNat ≤ 7 ∧
      p.nozzles ≠ 0 ∧ barPortBad p = none) :=
  ⟨⟨rdy, hdr 32, webReq, by decide +kernel⟩,
   ⟨rdy, hdr 16, portReq, by decide +kernel⟩,
   ⟨rdy, hdr 4, 2, 0x8000, by decide +kernel⟩,
   ⟨rdy, hdr 32, { webReq with coverage := 2 }, 0x0209, by decide +kernel⟩,
   ⟨tw {}, hdr 16, portReq, by decide +kernel⟩⟩

theorem test_meets_BarCommitMakesCurrent :
    (∃ (s : State) (h : MbHdr) (w : Web) (u : State), Safety.served s h 0 = true ∧ s.notSupervisor = false ∧
      barCommitCheck (s.mbStart h) = .inr (w, u)) ∧
    (∃ (s : State) (h : MbHdr), Safety.served s h 0 = true ∧ s.notSupervisor = false ∧ s.bat.pages ≠ []) ∧
    (∃ (s : State) (h : MbHdr) (g : Geo) (w : Web), Safety.served s h 0 = true ∧ s.geo.committed = some g ∧ g.web = some w) ∧
    (∃ (s : State) (h : MbHdr) (g : Geo) (port : Byte), Safety.served s h 4 = true ∧ s.geo.committed = some g ∧
      port.toNat < 48) ∧
    (∃ (s : State) (h : MbHdr), Safety.served s h 0 = true ∧ s.geo.committed = none) :=
  ⟨⟨stagedS, hdr 0, web0, (match barCommitCheck (stagedS.mbStart (hdr 0)) with | .inr p => p.2 | .inl _ => rdy),
    by decide +kernel⟩,
   ⟨pageS, hdr 0, by decide +kernel⟩,
   ⟨geoS, hdr 0, geo0, web0, by decide +kernel⟩,
   ⟨geoS, hdr 4, geo0, 47, by decide +kernel⟩,
   ⟨rdy, hdr 0, by decide +kernel⟩⟩

theorem test_meets_HeadSettingsApply :
    (∃ (s : State) (h : MbHdr) (port : Byte) (m : BitVec 16) (g : BitVec 16) (w : BitVec 16), Safety.served s h 8 = true ∧
      s.notSupervisor = false ∧ s.badPortAll port = false ∧ (200 ≤ m.toNat ∧ m.toNat ≤ 5000) ∧ (20 ≤ g.toNat ∧ g.toNat ≤ 1000) ∧
      (1 ≤ w.toNat ∧ w.toNat ≤ 1000) ∧ s.bat.pages = []) ∧
    (∃ (s : State) (h : MbHdr) (port : Byte) (m : BitVec 16) (g : BitVec 16) (w : BitVec 16), Safety.served s h 8 = true ∧
      s.notSupervisor = false ∧ s.badPortAll port = false ∧ (200 ≤ m.toNat ∧ m.toNat ≤ 5000) ∧ (20 ≤ g.toNat ∧ g.toNat ≤ 1000) ∧
      (1 ≤ w.toNat ∧ w.toNat ≤ 1000) ∧ s.bat.pages ≠ []) ∧
    (∃ (s : State) (h : MbHdr) (r : HeadThermalReq), Safety.served s h 12 = true ∧ s.notSupervisor = false ∧ r.rsv = 0 ∧
      s.badPortAll r.port = false ∧ (thermalOfReq r).good = true) ∧
    (∃ (s : State) (h : MbHdr) (port : Byte) (e : List (BitVec 16)), Safety.served s h 260 = true ∧ s.notSupervisor = false ∧
      s.badPort port = false ∧ s.bat.pages = []) ∧
    (∃ (s : State) (h : MbHdr) (port : Byte) (e : List (BitVec 16)) (l : List Nat), Safety.served s h 260 = true ∧
      s.notSupervisor = false ∧ s.badPort port = false ∧ s.bat.pages = [] ∧ s.cal.charStaged.get none port.toNat = some l ∧
      nonDecreasing (l ++ e.map (·.toNat)) = true) :=
  ⟨⟨geoS, hdr 8, 0, 200, 20, 1, by decide +kernel⟩,
   ⟨pageS, hdr 8, 0, 5000, 1000, 1000, by decide +kernel⟩,
   ⟨geoS, hdr 12, thermReq, by decide +kernel⟩,
   ⟨geoS, hdr 260, 0, List.replicate 128 0x4000, by decide +kernel⟩,
   ⟨{ geoS with cal := { charStaged := [(0, some (List.replicate 128 0))] } }, hdr 260, 0, List.replicate 128 0x4000,
     List.replicate 128 0, by decide +kernel⟩⟩

theorem test_meets_HeadActionsAndReports :
    (∃ (s : State) (h : MbHdr) (port : Byte) (x : Int), Safety.served s h 4 = true ∧ s.notSupervisor = false ∧
      s.badPort port = false ∧ (s.portN port.toNat).st = .up ∧ (s.portN port.toNat).withheld = .cut ∧
      (s.portN port.toNat).report = some x ∧ x < (s.cal.data.thermal.get {} port.toNat).tWarn) ∧
    (∃ (s : State) (h : MbHdr) (port : Byte) (action : Byte) (nozzle : BitVec 16) (value : BitVec 32) (n : NozCal),
      Safety.served s h 8 = true ∧ s.notSupervisor = false ∧ s.badPort port = false ∧ (1 ≤ action.toNat ∧ action.toNat ≤ 4) ∧
      nozzle.toNat < s.nozCount port.toNat ∧ nozValueBad action.toNat value.toNat = false ∧
      nozAction action.toNat value.toNat (s.nozAhead port.toNat nozzle.toNat) = some n) ∧
    (∃ (s : State) (h : MbHdr) (port : Byte), Safety.served s h 4 = true ∧ s.notSupervisor = false ∧ s.badPort port = false ∧
      port ≠ 0xFF ∧ (s.portN port.toNat).st = .up) ∧
    (∃ (s : State) (h : MbHdr) (port : Byte), Safety.served s h 4 = true ∧ s.badPort port = false) ∧
    (∃ (s : State) (h : MbHdr) (port : Byte), Safety.served s h 4 = true ∧ s.badPort port = true) ∧
    (∃ (s : State) (h : MbHdr) (port : Byte) (first : BitVec 16) (count : BitVec 16), Safety.served s h 8 = true ∧
      s.badPort port = false ∧ (1 ≤ count.toNat ∧ count.toNat ≤ 64) ∧ first.toNat + count.toNat ≤ s.nozCount port.toNat) :=
  ⟨⟨{ geoS with port := [(0, { st := .up, withheld := .cut, temp := some 0x036F })] }, hdr 4, 0, 0x036F, by decide +kernel⟩,
   ⟨geoS, hdr 8, 0, 4, 1023, 1048574, { resBase := 1048574 }, by decide +kernel⟩,
   ⟨{ geoS with port := [(0, { st := .up })] }, hdr 4, 0, by decide +kernel⟩,
   ⟨geoS, hdr 4, 0, by decide +kernel⟩,
   ⟨geoS, hdr 4, 1, by decide +kernel⟩,
   ⟨geoS, hdr 8, 0, 960, 64, by decide +kernel⟩⟩

theorem test_meets_FireSettingsApply :
    (∃ (s : State) (h : MbHdr) (a : BitVec 16) (b : BitVec 16) (c : BitVec 16), Safety.served s h 8 = true ∧
      s.notSupervisor = false ∧ 0x2000 ≤ a.toNat ∧ a.toNat < b.toNat ∧ b.toNat < c.toNat ∧ c.toNat ≤ 0x6000 ∧
      s.bat.pages = []) ∧
    (∃ (s : State) (h : MbHdr) (a : Byte) (b : Byte) (c : Byte) (r : Byte), Safety.served s h 4 = true ∧
      s.notSupervisor = false ∧ s.pairUp = false ∧ a.toNat ≤ 15 ∧ b.toNat ≤ 15 ∧ c.toNat ≤ 15 ∧ a &&& 3 ≠ 3 ∧ b &&& 3 ≠ 3 ∧
      c &&& 3 ≠ 3 ∧ 1 ≤ r.toNat ∧ r.toNat ≤ 4) ∧
    (∃ (s : State) (h : MbHdr) (code : Byte) (gain : BitVec 16) (rate : BitVec 32), Safety.served s h 8 = true ∧
      s.notSupervisor = false ∧ (1 ≤ code.toNat ∧ code.toNat ≤ 80) ∧ (1 ≤ gain.toNat ∧ gain.toNat ≤ 30000) ∧ (1 ≤ rate.toNat ∧
      rate.toNat ≤ 30000)) ∧
    (∃ (s : State) (h : MbHdr) (n : BitVec 32), Safety.served s h 4 = true ∧ s.notSupervisor = false ∧ (60 ≤ n.toNat ∧
      n.toNat ≤ 86400)) ∧
    (∃ (s : State) (h : MbHdr), Safety.served s h 0 = true) :=
  ⟨⟨geoS, hdr 8, 0x2000, 0x2001, 0x6000, by decide +kernel⟩,
   ⟨rdy, hdr 4, 14, 14, 14, 4, by decide +kernel⟩,
   ⟨rdy, hdr 8, 80, 30000, 30000, by decide +kernel⟩,
   ⟨rdy, hdr 4, 60, by decide +kernel⟩,
   ⟨rdy, hdr 0, by decide +kernel⟩⟩

theorem test_meets_FirePermitAndInterlocks :
    (∃ (s : State) (h : MbHdr), Safety.served s h 0 = true ∧ s.ilkActive = 0 ∧ s.boot.coresHeld = false ∧ s.pwr.st = .run) ∧
    (∃ (s : State) (h : MbHdr), Safety.served s h 0 = true ∧ (s.ilkActive ≠ 0 ∨ s.boot.coresHeld = true ∨ s.pwr.st ≠ .run)) ∧
    (∃ (s : State) (h : MbHdr), Safety.served s h 0 = true) ∧
    (∃ (s : State) (i : Nat) (us : Nat), s.alive = true ∧ i < 8 ∧ s.fire.debounce.get 50 i ≤ us ∧
      s.fire.ilkDeb.getLsbD i = false ∧ s.fire.ilkEnable.getLsbD i = true) ∧
    (∃ (s : State) (i : Nat) (us : Nat), s.alive = true ∧ i < 8 ∧ s.fire.debounce.get 50 i ≤ us ∧
      s.fire.ilkDeb.getLsbD i = false ∧ s.fire.ilkEnable.getLsbD i = false) ∧
    (∃ (s : State) (i : Nat) (us : Nat), s.alive = true ∧ i < 8 ∧ s.fire.debounce.get 50 i ≤ us) ∧
    (∃ (s : State) (i : Nat) (us : Nat), s.alive = true ∧ i < 8 ∧ us < s.fire.debounce.get 50 i) ∧
    (∃ (s : State) (h : MbHdr) (enable : Byte) (polarity : Byte) (deb : List (BitVec 16)), Safety.served s h 20 = true ∧
      s.notSupervisor = false ∧ (∀ d ∈ deb, 1 ≤ d.toNat ∧ d.toNat ≤ 10000) ∧ deb.length = 8) :=
  ⟨⟨rdy, hdr 0, by decide +kernel⟩,
   ⟨{ rdy with pwr := { st := .hold } }, hdr 0, by decide +kernel⟩,
   ⟨rdy, hdr 0, by decide +kernel⟩,
   ⟨rdy, 2, 50, by decide +kernel⟩,
   ⟨rdy, 7, 50, by decide +kernel⟩,
   ⟨rdy, 7, 50, by decide +kernel⟩,
   ⟨rdy, 7, 49, by decide +kernel⟩,
   ⟨rdy, hdr 20, 0, 0, List.replicate 8 10000, by decide +kernel, by decide +kernel,
     (by intro d hd; rw [List.eq_of_mem_replicate hd]; decide), by decide +kernel⟩⟩

theorem test_meets_PageCommandsQueue :
    (∃ (s : State) (h : MbHdr) (p : PageAdmitReq) (g : Geo) (w : Web), Safety.served s h 24 = true ∧ s.geo.committed = some g ∧
      g.web = some w ∧ p.flags.toNat ≤ 1 ∧ p.rsv = 0 ∧ p.lines ≠ 0 ∧ s.batGated = false ∧ s.stepAccepted 1 = false ∧
      pageParamBad p = none ∧ admitBad g w p s.speedCheck = none) ∧
    (∃ (s : State) (h : MbHdr) (p : PageAdmitReq) (g : Geo) (w : Web) (c : Nat), Safety.served s h 24 = true ∧
      s.geo.committed = some g ∧ g.web = some w ∧ p.flags.toNat ≤ 1 ∧ p.rsv = 0 ∧ p.lines ≠ 0 ∧ s.batGated = false ∧
      s.stepAccepted 1 = false ∧ pageParamBad p = none ∧ admitBad g w p s.speedCheck = some c) ∧
    (∃ (s : State) (h : MbHdr) (handle : Byte) (p : Page), Safety.served s h 4 = true ∧ s.isLead = true ∧
      s.page? handle.toNat = some p) :=
  ⟨⟨queueS, hdr 24, admitReq, geo0, web0, by decide +kernel⟩,
   ⟨pageS, hdr 24, admitReq, geo0, web0, 0x0502, by decide +kernel⟩,
   ⟨pageS, hdr 4, 0, page0, by decide +kernel⟩⟩

theorem test_meets_PageReportsAnswer :
    (∃ (s : State) (h : MbHdr) (handle : Byte), Safety.served s h 4 = true) ∧
    (∃ (s : State) (h : MbHdr) (handle : Byte) (r : Report), Safety.served s h 4 = true ∧
      s.bat.reports.get none handle.toNat = some r ∧ r.awaitTwin = false) ∧
    (∃ (s : State) (h : MbHdr) (handle : Byte), Safety.served s h 4 = true ∧ s.bat.reports.get none handle.toNat = none) ∧
    (∃ (s : State) (h : MbHdr), Safety.served s h 0 = true) :=
  ⟨⟨rdy, hdr 4, 255, by decide +kernel⟩,
   ⟨{ rdy with bat := { reports := [(255, some {})] } }, hdr 4, 255, {}, by decide +kernel⟩,
   ⟨rdy, hdr 4, 0, by decide +kernel⟩,
   ⟨rdy, hdr 0, by decide +kernel⟩⟩

theorem test_meets_SlateEntriesRun :
    (∃ (s : State) (h : MbHdr) (seg : Byte) (flags : Byte) (lines : BitVec 32) (e : Nat), Safety.served s h 8 = true ∧
      flags.toNat ≤ 1 ∧ (1 ≤ seg.toNat ∧ seg.toNat ≤ 48) ∧ (1 ≤ lines.toNat ∧ lines.toNat ≤ 1048576) ∧ s.isLead = true ∧
      s.freeEntryNo = some e) ∧
    (∃ (s : State) (h : MbHdr) (e : BitVec 16) (seg : Byte) (ch : Byte) (n : BitVec 32), Safety.served s h 8 = true ∧ n ≠ 0 ∧
      bindBad e.toNat seg ch n.toNat s = none) ∧
    (∃ (s : State) (h : MbHdr) (e : BitVec 16) (seg : Byte) (ch : Byte) (n : BitVec 32) (c : Nat), Safety.served s h 8 = true ∧
      n ≠ 0 ∧ bindBad e.toNat seg ch n.toNat s = some c) ∧
    (∃ (s : State) (h : MbHdr) (e : BitVec 16), Safety.served s h 4 = true ∧ s.isLead = true ∧
      (s.entry? e.toNat).isSome = true ∧ s.entryInUse e.toNat = false) :=
  ⟨⟨rdy, hdr 8, 48, 1, 1048576, 0, by decide +kernel⟩,
   ⟨{ rdy with slate := { entries := [(5, some { segments := 1, lines := 1, autoFree := false })] }, dma := [(31, { st := .ready })] },
     hdr 8, 5, 0, 31, 72, by decide +kernel⟩,
   ⟨rdy, hdr 8, 0, 0, 0, 71, 0x060D, by decide +kernel⟩,
   ⟨{ rdy with slate := { entries := [(1023, some { segments := 1, lines := 1, autoFree := false })] } }, hdr 4, 1023,
     by decide +kernel⟩⟩

theorem test_meets_SlateReportsAnswer :
    (∃ (s : State) (h : MbHdr) (e : BitVec 16), Safety.served s h 4 = true ∧ e.toNat ≤ 1023) ∧
    (∃ (s : State) (h : MbHdr) (e : BitVec 16) (seg : Byte) (en : Entry), Safety.served s h 4 = true ∧
      s.entry? e.toNat = some en ∧ seg.toNat < en.segments) ∧
    (∃ (s : State) (h : MbHdr) (e : BitVec 16) (seg : Byte) (en : Entry), Safety.served s h 4 = true ∧
      s.entry? e.toNat = some en ∧ en.segments ≤ seg.toNat) ∧
    (∃ (s : State) (h : MbHdr), Safety.served s h 0 = true) ∧
    (∃ (s : State) (h : MbHdr), Safety.served s h 0 = true) :=
  ⟨⟨rdy, hdr 4, 1023, by decide +kernel⟩,
   ⟨{ rdy with slate := { entries := [(1023, some { segments := 48, lines := 1, autoFree := false })] } }, hdr 4, 1023, 47,
     { segments := 48, lines := 1, autoFree := false }, by decide +kernel⟩,
   ⟨{ rdy with slate := { entries := [(1023, some { segments := 48, lines := 1, autoFree := false })] } }, hdr 4, 1023, 48,
     { segments := 48, lines := 1, autoFree := false }, by decide +kernel⟩,
   ⟨rdy, hdr 0, by decide +kernel⟩,
   ⟨rdy, hdr 0, by decide +kernel⟩⟩

theorem test_meets_SlateEncoderRuns :
    (∃ (s : State) (h : MbHdr) (p : EncOpenReq), Safety.served s h 12 = true ∧ p.rsv = 0 ∧ s.visGated = false ∧
      s.stepAccepted 5 = false ∧ p.es.toNat ≤ 7 ∧ p.level.toNat ≤ 7 ∧ p.channel.toNat ≤ 31 ∧ (1 ≤ p.blockLines.toNat ∧
      p.blockLines.toNat ≤ 4096) ∧ p.keyInterval ≠ 0 ∧ (s.esN p.es.toNat).isOpen = false ∧ s.channelFor p.channel true = true) ∧
    (∃ (s : State) (h : MbHdr) (es : Byte), Safety.served s h 4 = true ∧ s.visGated = false ∧ es.toNat ≤ 7 ∧
      (s.esN es.toNat).isOpen = true ∧ s.encBusyOn es.toNat = false) ∧
    (∃ (s : State) (h : MbHdr) (es : Byte), Safety.served s h 4 = true ∧ s.visGated = false ∧ es.toNat ≤ 7 ∧
      (s.esN es.toNat).isOpen = false) ∧
    (∃ (s : State) (h : MbHdr) (es : Byte) (ch : Byte) (addr : BitVec 64) (tag : BitVec 32) (d : CodecSt),
      Safety.served s h 16 = true ∧ s.visGated = false ∧ s.stepAccepted 5 = false ∧ es.toNat ≤ 7 ∧ ch.toNat ≤ 31 ∧
      s.addrOk addr.toNat (recordBytes (s.esWidth (s.esN es.toNat)) (s.esN es.toNat).srcDepth) = true ∧
      (s.esN es.toNat).isOpen = false ∧ s.channelFor ch true = true ∧ (s.esN es.toNat).srcSet = true ∧
      readRecord (s.dramRead addr.toNat (recordBytes (s.esWidth (s.esN es.toNat)) (s.esN es.toNat).srcDepth)) (s.esN es.toNat).srcDepth (s.esWidth (s.esN es.toNat)) = some (1,
      tag, d)) ∧
    (∃ (s : State) (h : MbHdr) (kind : Byte) (index : Byte) (addr : BitVec 64), Safety.served s h 16 = true ∧ (kind = 0 ∧
      index.toNat ≤ 47 ∧ s.pixGated = false ∨ kind = 1 ∧ index.toNat ≤ 7 ∧ s.visGated = false) ∧
      s.addrOk addr.toNat (s.stateRec kind.toNat index.toNat).length = true) :=
  ⟨⟨{ rdy with dma := [(31, { st := .ready, egress := true })] }, hdr 12, ⟨7, 7, 31, 0, 4096, 1, 0⟩, by decide +kernel⟩,
   ⟨{ rdy with slate := { es := [(7, { isOpen := true })] } }, hdr 4, 7, by decide +kernel⟩,
   ⟨rdy, hdr 4, 7, by decide +kernel⟩,
   ⟨restoreS, hdr 16, 0, 0, freeA, 5, recSt, by decide +kernel, by decide +kernel, by decide +kernel, by decide +kernel,
     by decide +kernel, by decide +kernel, by decide +kernel, by decide +kernel, by decide +kernel, rec_read⟩,
   ⟨rdy, hdr 16, 1, 7, freeA, by decide +kernel⟩⟩

theorem test_meets_CameraSettingsApply :
    (∃ (s : State) (h : MbHdr) (p : CamLinkReq), Safety.served s h 12 = true ∧ p.rsv = 0 ∧ p.lanes ≠ 0 ∧ p.channels ≠ 0 ∧
      p.pixels ≠ 0 ∧ linkBad p = none ∧ (s.camN p.port.toNat).runs = false) ∧
    (∃ (s : State) (h : MbHdr) (p : CamLinkReq), Safety.served s h 12 = true ∧ p.rsv = 0 ∧ p.lanes ≠ 0 ∧ p.channels ≠ 0 ∧
      p.pixels ≠ 0 ∧ linkBad p = none ∧ (s.camN p.port.toNat).runs = true) ∧
    (∃ (s : State) (h : MbHdr) (p : CamPlaceReq), Safety.served s h 20 = true ∧ p.rsv = 0 ∧ p.flags.toNat ≤ 1 ∧
      p.port.toNat < 4 ∧ p.trig.toNat ≤ 7 ∧ p.firstCol.toNat ≤ 196607 ∧ 0x10000 ≤ p.colsPerPx.toNat ∧
      p.colsPerPx.toNat ≤ 0x100000 ∧ s.offsetShort p.offsetNm.toInt = false ∧ 0x10000 ≤ p.linePitch.toNat ∧
      (s.camN p.port.toNat).runs = false ∧ s.trigUsed p.port.toNat p.trig.toNat = false) ∧
    (∃ (s : State) (h : MbHdr) (p : CamExposureReq), Safety.served s h 24 = true ∧ p.rsv = 0 ∧ p.port.toNat < 4 ∧
      ((s.camN p.port.toNat).link.vcShort.isSome = true → 0x0100 ≤ p.ratio.toNat ∧ p.ratio.toNat ≤ 0x4000) ∧
      1000 ≤ p.exposureNs.toNat ∧ p.exposureNs.toNat ≤ 1000000 ∧ p.kneeLo.toNat < p.kneeHi.toNat) ∧
    (∃ (s : State) (h : MbHdr) (port : Byte) (addr : BitVec 64) (n : Nat), Safety.served s h 16 = true ∧ port.toNat < 4 ∧
      n = (s.camN port.toNat).link.pixels * (s.camN port.toNat).link.channels ∧ s.addrOk addr.toNat (12 + 2 * n) = true) ∧
    (∃ (s : State) (h : MbHdr) (port : Byte) (addr : BitVec 64) (n : Nat), Safety.served s h 16 = true ∧ port.toNat < 4 ∧
      n = (s.camN port.toNat).link.pixels * (s.camN port.toNat).link.channels ∧ s.addrOk addr.toNat (12 + 2 * n) = true) :=
  ⟨⟨rdy, hdr 12, ⟨3, 4, 0x2D, 3, 3, 0xFF, 2500, 8192, 0⟩, by decide +kernel⟩,
   ⟨{ rdy with cam := [(0, { linkSet := true, placeSet := true, st := .running })] }, hdr 12, ⟨0, 1, 0x2B, 1, 0, 0xFF, 80, 256,
     0⟩, by decide +kernel⟩,
   ⟨geoS, hdr 20, ⟨3, 1, 7, 0, 196607, 0x100000, 1000000, 0x10000⟩, by decide +kernel⟩,
   ⟨rdy, hdr 24, ⟨3, 0, 0, 1000000, 0, 1, []⟩, by decide +kernel⟩,
   ⟨rdy, hdr 16, 3, freeA, 256, by decide +kernel⟩,
   ⟨rdy, hdr 16, 3, freeA, 256, by decide +kernel⟩⟩

theorem test_meets_CameraStartsAndStops :
    (∃ (s : State) (h : MbHdr) (port : Byte) (pos : BitVec 64), Safety.served s h 16 = true ∧ s.visGated = false ∧
      s.stepAccepted 3 = false ∧ port.toNat < 4 ∧ (s.camN port.toNat).linkSet = true ∧ (s.camN port.toNat).placeSet = true ∧
      s.geo.committed.isSome = true ∧ s.webPos < pos.toInt ∧ s.camNoRoom port.toNat = false) ∧
    (∃ (s : State) (h : MbHdr) (port : Byte), Safety.served s h 4 = true ∧ port.toNat < 4 ∧ s.visGated = false ∧
      (s.camN port.toNat).st = .stopped) ∧
    (∃ (s : State) (h : MbHdr) (port : Byte), Safety.served s h 4 = true ∧ port.toNat < 4 ∧ s.visGated = false ∧
      (s.camN port.toNat).st = .running ∧ (s.camN port.toNat).trigs % 256 ≠ 0) ∧
    (∃ (s : State) (h : MbHdr) (port : Byte), Safety.served s h 4 = true ∧ port.toNat < 4 ∧ s.visGated = false ∧
      (s.camN port.toNat).st = .running ∧ (s.camN port.toNat).trigs % 256 = 0) ∧
    (∃ (s : State) (h : MbHdr) (port : Byte) (flags : Byte), Safety.served s h 4 = true ∧ s.visGated = true) ∧
    (∃ (s : State) (h : MbHdr) (port : Byte), Safety.served s h 4 = true ∧ port.toNat < 4) ∧
    (∃ (s : State) (h : MbHdr) (port : Byte) (count : Byte), Safety.served s h 4 = true ∧ port.toNat < 4 ∧ 1 ≤ count.toNat ∧
      count.toNat ≤ 16) :=
  ⟨⟨{ geoS with cam := [(3, { linkSet := true, placeSet := true })] }, hdr 16, 3, 1, by decide +kernel⟩,
   ⟨rdy, hdr 4, 3, by decide +kernel⟩,
   ⟨{ rdy with cam := [(3, { linkSet := true, placeSet := true, st := .running, trigs := 1 })] }, hdr 4, 3, by decide +kernel⟩,
   ⟨ownS, hdr 4, 0, by decide +kernel⟩,
   ⟨{ rdy with pwr := { level := 2 } }, hdr 4, 3, 0, by decide +kernel⟩,
   ⟨rdy, hdr 4, 3, by decide +kernel⟩,
   ⟨rdy, hdr 4, 3, 16, by decide +kernel⟩⟩

theorem test_meets_VisionSettingsApply :
    (∃ (s : State) (h : MbHdr) (port : Byte) (flags : Byte) (alpha : Byte) (thresh : BitVec 32), Safety.served s h 8 = true ∧
      flags.toNat ≤ 3 ∧ port.toNat < 4 ∧ alpha ≠ 0 ∧ thresh.toNat ≤ 4194240) ∧
    (∃ (s : State) (h : MbHdr) (port : Byte) (m : List (BitVec 16)) (off : List (BitVec 16)), Safety.served s h 28 = true ∧
      port.toNat < 4) ∧
    (∃ (s : State) (h : MbHdr) (p : PreviewReq), Safety.served s h 16 = true ∧ p.flags.toNat ≤ 3 ∧ p.rsv = 0 ∧
      (1 ≤ p.binCols.toNat ∧ p.binCols.toNat ≤ 64) ∧ ceilDiv s.barColumns p.binCols.toNat ≤ 16384 ∧ (1 ≤ p.binLines.toNat ∧
      p.binLines.toNat ≤ 64) ∧ (1 ≤ p.rows.toNat ∧ p.rows.toNat ≤ 65536) ∧
      s.addrOk p.addr.toNat (previewRowBytes s.barColumns p.binCols.toNat (p.flags.getLsbD 1) * p.rows.toNat) = true) ∧
    (∃ (s : State) (h : MbHdr) (es : Byte) (port : Byte) (source : Byte) (depth : Byte), Safety.served s h 4 = true ∧
      es.toNat ≤ 7 ∧ port.toNat < 4 ∧ source.toNat ≤ 2 ∧ (depth = 8 ∨ depth = 12 ∨ depth = 16) ∧
      (s.camN port.toNat).link.sourceWidth source.toNat ≤ 16384 ∧ (s.esN es.toNat).isOpen = false) ∧
    (∃ (s : State) (h : MbHdr) (es : Byte) (port : Byte) (source : Byte) (depth : Byte), Safety.served s h 4 = true ∧
      es.toNat ≤ 7 ∧ port.toNat < 4 ∧ source.toNat ≤ 2 ∧ (depth = 8 ∨ depth = 12 ∨ depth = 16) ∧
      (s.camN port.toNat).link.sourceWidth source.toNat ≤ 16384 ∧ (s.esN es.toNat).isOpen = true) ∧
    (∃ (s : State) (h : MbHdr) (p : DefectReq), Safety.served s h 12 = true ∧ p.rsv = 0 ∧ p.rsv2 = 0 ∧ p.enable.toNat ≤ 1 ∧
      16 ≤ p.streakLines.toNat ∧ (1 ≤ p.spotMin.toNat ∧ p.spotMin.toNat ≤ 1024)) :=
  ⟨⟨rdy, hdr 8, 3, 3, 1, 4194240, by decide +kernel⟩,
   ⟨rdy, hdr 28, 3, List.replicate 9 4096, List.replicate 3 0, by decide +kernel⟩,
   ⟨rdy, hdr 16, ⟨3, 64, 64, 0, 65536, freeA⟩, by decide +kernel⟩,
   ⟨rdy, hdr 4, 7, 3, 2, 16, by decide +kernel⟩,
   ⟨{ rdy with slate := { es := [(7, { isOpen := true })] } }, hdr 4, 7, 3, 2, 8, by decide +kernel⟩,
   ⟨rdy, hdr 12, ⟨1, 0, 16, 0, 0, 1024, 0⟩, by decide +kernel⟩⟩

theorem test_meets_VisionRequestsRun :
    (∃ (s : State) (h : MbHdr) (p : ThatchReq), Safety.served s h 28 = true ∧ p.rsv = 0 ∧ p.rungLines ≠ 0 ∧ s.visGated = false ∧
      s.page? p.handle.toNat = none ∧ (p.row = 0 ∨ p.row = 1 ∧ s.noRowB = false) ∧ (4 ≤ p.step.toNat ∧ p.step.toNat ≤ 64) ∧
      (1 ≤ p.level.toNat ∧ p.level.toNat ≤ 3) ∧ p.rungLines.toNat ≤ 65536 ∧
      s.addrOk p.addr.toNat (32 + 8 * s.barColumns) = true ∧ s.thatchFine p.step.toNat p.rungLines.toNat = false ∧
      ((s.vis.thatch.filter fun a => a.left || a.handle != p.handle.toNat).filter fun a => !a.left).length < 4) ∧
    (∃ (s : State) (h : MbHdr) (p : ThatchReq), Safety.served s h 28 = true ∧ p.rsv = 0 ∧ s.visGated = false ∧
      (p.step = 0 ∨ p.rungLines = 0)) ∧
    (∃ (s : State) (h : MbHdr) (lines : BitVec 32) (addr : BitVec 64), Safety.served s h 16 = true ∧ s.visGated = false ∧
      (1 ≤ lines.toNat ∧ lines.toNat ≤ 65536) ∧ s.addrOk addr.toNat (32 + 4 * s.barColumns) = true ∧ s.vis.density = none ∧
      s.owners ≠ []) ∧
    (∃ (s : State) (h : MbHdr) (q : BitVec 32) (count : BitVec 16), Safety.served s h 8 = true ∧ (1 ≤ count.toNat ∧
      count.toNat ≤ 63)) ∧
    (∃ (s : State) (h : MbHdr), Safety.served s h 0 = true) :=
  ⟨⟨ownS, hdr 28, ⟨0, 0, 64, 3, 0, 65536, freeA, 0, 0, 0, 0⟩, by decide +kernel⟩,
   ⟨rdy, hdr 28, ⟨0, 0, 0, 3, 0, 65536, freeA, 0, 0, 0, 0⟩, by decide +kernel⟩,
   ⟨ownS, hdr 16, 65536, freeA, by decide +kernel⟩,
   ⟨rdy, hdr 8, 0, 63, by decide +kernel⟩,
   ⟨rdy, hdr 0, by decide +kernel⟩⟩

theorem test_meets_CalibrationCommandsRun :
    (∃ (s : State) (h : MbHdr) (p : LoopReq), Safety.served s h 20 = true ∧ s.notSupervisor = false ∧ p.rsv = 0 ∧
      p.updateBlocks ≠ 0 ∧ p.windowLines ≠ 0 ∧ loopBad p = none) ∧
    (∃ (s : State) (h : MbHdr) (port : Byte) (n : BitVec 16) (addr : BitVec 64), Safety.served s h 16 = true ∧
      s.notSupervisor = false ∧ n ≠ 0 ∧ factoryBad port n.toNat addr.toNat s = none) ∧
    (∃ (s : State) (h : MbHdr) (p : RecalReq), Safety.served s h 12 = true ∧ p.rsv = 0 ∧ p.port.toNat < 4 ∧ (1 ≤ p.guard.toNat ∧
      p.guard.toNat ≤ 64) ∧ (16 ≤ p.subMin.toNat ∧ p.subMin.toNat ≤ 4096) ∧ (1 ≤ p.timeoutS.toNat ∧ p.timeoutS.toNat ≤ 3600) ∧
      (p.periodS = 0 ∨ 60 ≤ p.periodS.toNat ∧ p.periodS.toNat ≤ 86400) ∧ s.visGated = false ∧
      (s.camN p.port.toNat).runs = true ∧ (s.camN p.port.toNat).recal.collecting = false) ∧
    (∃ (s : State) (h : MbHdr) (port : Byte), Safety.served s h 4 = true ∧ port.toNat < 4 ∧ s.visGated = false) ∧
    (∃ (s : State) (h : MbHdr) (port : Byte), Safety.served s h 4 = true ∧ s.visGated = true) ∧
    (∃ (s : State) (h : MbHdr), Safety.served s h 0 = true) ∧
    (∃ (s : State) (h : MbHdr) (first : BitVec 32) (n : BitVec 32) (addr : BitVec 64), Safety.served s h 16 = true ∧ n ≠ 0 ∧
      first.toNat + n.toNat ≤ s.barColumns ∧ s.addrOk addr.toNat (8 * n.toNat) = true) :=
  ⟨⟨rdy, hdr 20, ⟨1, 16, 0x0100, 131072, 0x1999, 0x6666, 1, 64, 0, 0⟩, by decide +kernel⟩,
   ⟨facS, hdr 16, 0, 2, freeA, by decide +kernel⟩,
   ⟨{ rdy with cam := [(3, { linkSet := true, placeSet := true, st := .running })] }, hdr 12, ⟨3, 64, 4096, 3600, 0, 86400⟩,
     by decide +kernel⟩,
   ⟨rdy, hdr 4, 3, by decide +kernel⟩,
   ⟨{ rdy with pwr := { level := 2 } }, hdr 4, 3, by decide +kernel⟩,
   ⟨rdy, hdr 0, by decide +kernel⟩,
   ⟨geoS, hdr 16, 1023, 1, freeA, by decide +kernel⟩⟩

theorem test_meets_StoreCommandsRun :
    (∃ (s : State) (h : MbHdr), Safety.served s h 0 = true ∧ s.nvm.compacting = none) ∧
    (∃ (s : State) (h : MbHdr) (q : BitVec 32), Safety.served s h 0 = true ∧ s.nvm.compacting = some q) ∧
    (∃ (s : State) (h : MbHdr), Safety.served s h 0 = true ∧ s.notSupervisor = false ∧ s.bat.pages = [] ∧
      s.nvm.compacting = none) ∧
    (∃ (s : State) (h : MbHdr) (o : BitVec 32) (n : BitVec 32) (addr : BitVec 64), Safety.served s h 16 = true ∧
      o.toNat % 8 = 0 ∧ n.toNat % 8 = 0 ∧ 8 ≤ n.toNat ∧ n.toNat ≤ 1048576 ∧ o.toNat + n.toNat ≤ 8388608 ∧
      s.addrOk addr.toNat n.toNat = true) ∧
    (∃ (s : State) (h : MbHdr), Safety.served s h 0 = true) :=
  ⟨⟨rdy, hdr 0, by decide +kernel⟩,
   ⟨{ rdy with nvm := { compacting := some 7 } }, hdr 0, 7, by decide +kernel⟩,
   ⟨rdy, hdr 0, by decide +kernel⟩,
   ⟨rdy, hdr 16, 8388600, 8, freeA, by decide +kernel⟩,
   ⟨rdy, hdr 0, by decide +kernel⟩⟩

theorem test_meets_EncoderCommandsRun :
    (∃ (s : State) (h : MbHdr) (p : EncInputReq), Safety.served s h 32 = true ∧ encRsv p = false ∧ encZero p = false ∧
      encInputBad p = none ∧ s.encBusy p.enc.toNat = false) ∧
    (∃ (s : State) (h : MbHdr) (p : EncInputReq), Safety.served s h 32 = true ∧ encRsv p = false ∧ encZero p = false ∧
      encInputBad p = none ∧ s.encBusy p.enc.toNat = true) ∧
    (∃ (s : State) (h : MbHdr) (e : Byte) (c : BitVec 64), Safety.served s h 16 = true ∧ e.toNat ≤ 3 ∧
      s.encBusy e.toNat = false) ∧
    (∃ (s : State) (h : MbHdr) (e : Byte), Safety.served s h 4 = true ∧ e.toNat ≤ 3) :=
  ⟨⟨rdy, hdr 32, ⟨3, 0, 1, 63, 1000000, List.replicate 24 0⟩, by decide +kernel⟩,
   ⟨{ rdy with pwr := { wakeEnable := 8 }, axis := [(0, { enable := true, st := .geared, gear := some { engaged := true } })] },
     hdr 32, ⟨0, 0, 1, 63, 100, List.replicate 24 0⟩, by decide +kernel⟩,
   ⟨rdy, hdr 16, 3, 5, by decide +kernel⟩,
   ⟨rdy, hdr 4, 3, by decide +kernel⟩⟩

theorem test_meets_MotionSettingsApply :
    (∃ (s : State) (h : MbHdr) (p : AxisReq), Safety.served s h 20 = true ∧ p.flags.toNat ≤ 7 ∧ p.rsv = 0 ∧ p.rsv2 = 0 ∧
      p.axis.toNat ≤ 7 ∧ (50 ≤ p.pulseNs.toNat ∧ p.pulseNs.toNat ≤ 50000) ∧ (20 ≤ p.dirSetupNs.toNat ∧
      p.dirSetupNs.toNat ≤ 50000) ∧ (20 ≤ p.dirHoldNs.toNat ∧ p.dirHoldNs.toNat ≤ 50000) ∧ (1 ≤ p.vLimit.toNat ∧
      p.vLimit.toNat ≤ 5000000) ∧ p.qsDecel ≠ 0 ∧ 2 * p.pulseNs.toNat * p.vLimit.toNat ≤ 1000000000 ∧
      s.axisFree p.axis.toNat = true) ∧
    (∃ (s : State) (h : MbHdr) (p : RatesReq), Safety.served s h 24 = true ∧ p.rsv = 0 ∧ p.axis.toNat ≤ 7 ∧
      (ratesOfReq p).bad (s.axisN p.axis.toNat) = false ∧ (s.axisN p.axis.toNat).st = .idle) ∧
    (∃ (s : State) (h : MbHdr) (p : RatesReq), Safety.served s h 24 = true ∧ p.rsv = 0 ∧ p.axis.toNat ≤ 7 ∧
      (ratesOfReq p).bad (s.axisN p.axis.toNat) = false ∧ (s.axisN p.axis.toNat).st.holdsRates = true) ∧
    (∃ (s : State) (h : MbHdr) (a : Byte) (x : BitVec 64), Safety.served s h 16 = true ∧ a.toNat ≤ 7 ∧
      s.axisFree a.toNat = true) ∧
    (∃ (s : State) (h : MbHdr) (a : Byte) (first : Byte) (count : Byte) (addr : BitVec 64), Safety.served s h 16 = true ∧
      a.toNat ≤ 7 ∧ count ≠ 0 ∧ first.toNat + count.toNat ≤ 64 ∧ s.addrOk addr.toNat (16 * count.toNat) = true ∧
      (∀ g ∈ s.segsAt addr.toNat count.toNat, 1000 ≤ g.durationNs)) ∧
    (∃ (s : State) (h : MbHdr) (p : CompareReq), Safety.served s h 24 = true ∧ s.motClosed = false ∧ p.flags.toNat ≤ 7 ∧
      p.trig.toNat ≤ 7 ∧ (p.source.toNat ≤ 3 ∨ 8 ≤ p.source.toNat ∧ p.source.toNat ≤ 15) ∧ (p.mode = 1 ∨ p.mode = 2) ∧
      p.flags.toNat % 4 ≠ 3 ∧ (20 ≤ p.widthNs.toNat ∧ p.widthNs.toNat ≤ 1000000000) ∧ (p.mode = 2 → 65536 ≤ p.interval.toNat ∧
      p.repeats ≠ 0) ∧ (s.trigN p.trig.toNat).st ≠ .cameraOwned ∧
      pointAhead (p.flags.toNat % 4) (s.srcCount p.source.toNat) p.position.toInt = true) ∧
    (∃ (s : State) (h : MbHdr) (a : Byte), Safety.served s h 4 = true ∧ a.toNat ≤ 7) ∧
    (∃ (s : State) (h : MbHdr) (n : Byte), Safety.served s h 4 = true ∧ n.toNat ≤ 7) :=
  ⟨⟨rdy, hdr 20, ⟨7, 7, 0, 0, 50000, 50000, 50000, 0, 10000, 1⟩, by decide +kernel⟩,
   ⟨{ rdy with axis := [(7, { enable := true, st := .idle })] }, hdr 24, ⟨7, 0, 5000000, 5000000, 5000000, 1, 1⟩,
     by decide +kernel⟩,
   ⟨{ rdy with axis := [(7, { enable := true, st := .geared })] }, hdr 24, ⟨7, 0, 1, 1, 1, 1, 1⟩, by decide +kernel⟩,
   ⟨rdy, hdr 16, 7, 5, by decide +kernel⟩,
   ⟨{ rdy with dram := { cells := [(50 * 2 ^ 28, 0xE8), (50 * 2 ^ 28 + 1, 3)] } }, hdr 16, 7, 63, 1, freeA, by decide +kernel⟩,
   ⟨rdy, hdr 24, ⟨7, 2, 15, 0, 1000000000, 1, 65536, 1⟩, by decide +kernel⟩,
   ⟨rdy, hdr 4, 7, by decide +kernel⟩,
   ⟨rdy, hdr 4, 7, by decide +kernel⟩⟩

theorem test_meets_MotionCommandsMove :
    (∃ (s : State) (h : MbHdr) (a : Byte) (flags : Byte) (x : BitVec 64), Safety.served s h 16 = true ∧ s.motHeld = false ∧
      a.toNat ≤ 7 ∧ flags.toNat ≤ 1 ∧ (s.axisN a.toNat).enable = true ∧ (s.axisN a.toNat).st.busy = false) ∧
    (∃ (s : State) (h : MbHdr) (a : Byte), Safety.served s h 4 = true ∧ s.motClosed = false ∧ a.toNat ≤ 7 ∧
      (s.axisN a.toNat).st.resting = false ∧ (s.axisN a.toNat).st ≠ .quickStopping) ∧
    (∃ (s : State) (h : MbHdr) (a : Byte), Safety.served s h 4 = true ∧ s.motClosed = false ∧ a.toNat ≤ 7 ∧
      (s.axisN a.toNat).st ≠ .quickStopping) ∧
    (∃ (s : State) (h : MbHdr) (a : Byte) (first : Byte) (count : Byte), Safety.served s h 4 = true ∧ s.motHeld = false ∧
      a.toNat ≤ 7 ∧ count ≠ 0 ∧ first.toNat + count.toNat ≤ 64 ∧ s.motRefusal a.toNat = none ∧
      tableBad (s.axisN a.toNat) (SMap.getList {} (s.axisN a.toNat).segs first.toNat count.toNat) = false) ∧
    (∃ (s : State) (h : MbHdr) (p : GearReq), Safety.served s h 32 = true ∧ s.motHeld = false ∧ (p.flags = 1 ∨ p.flags = 3) ∧
      p.rsv = 0 ∧ p.rsv2 = 0 ∧ p.axis.toNat ≤ 7 ∧ p.den ≠ 0 ∧ p.blendCounts ≠ 0 ∧ p.followLimit ≠ 0 ∧
      s.motRefusal p.axis.toNat = none ∧ (p.flags = 1 → (s.encN 0).count * 65536 < p.engagePos.toInt)) ∧
    (∃ (s : State) (h : MbHdr) (a : Byte) (num : BitVec 32) (den : BitVec 32) (x : BitVec 64), Safety.served s h 24 = true ∧
      s.motClosed = false ∧ a.toNat ≤ 7 ∧ den ≠ 0 ∧ (s.axisN a.toNat).pend.length < 4 ∧ (s.encN 0).count * 65536 < x.toInt) ∧
    (∃ (s : State) (n : Nat) (a : Axis), s.alive = true ∧ s.motGated = false ∧ n < 8 ∧
      a = ((s.axisN n).step (s.tableTime (s.axisN n))).1 ∧ (s.axisN n).due ≤ s.time.ticks ∧
      (a.pos = (s.axisN n).pos ∨ (s.axisN n).turnAt (decide ((s.axisN n).pos < a.pos)) ≤ s.time.ticks)) ∧
    (∃ (s : State) (n : Nat), s.alive = true ∧ s.time.ticks < (s.axisN n).due) ∧
    (∃ (s : State) (n : Nat), s.alive = true ∧ n < 8) :=
  ⟨⟨{ rdy with axis := [(7, { enable := true, st := .idle })] }, hdr 16, 7, 1, 5, by decide +kernel⟩,
   ⟨{ rdy with axis := [(7, { enable := true, st := .cruise, speed2 := 1000000, target := 9 })] }, hdr 4, 7, by decide +kernel⟩,
   ⟨{ rdy with axis := [(7, { enable := true, st := .idle })] }, hdr 4, 7, by decide +kernel⟩,
   ⟨{ rdy with axis := [(7, { enable := true, st := .idle, segs := [(63, { durationNs := 1000, endPos := 0, endVel := 0 })] })] },
     hdr 4, 7, 63, 1, by decide +kernel⟩,
   ⟨{ rdy with axis := [(7, { enable := true, st := .idle })] }, hdr 32, ⟨7, 1, 0, 1, 1, 1, 1, 0, 65536⟩, by decide +kernel⟩,
   ⟨{ rdy with axis := [(7, { enable := true, st := .geared, gear := some {} })] }, hdr 24, 7, 1, 1, 1, by decide +kernel⟩,
   ⟨rdy, 7, ((({} : Axis).step (rdy.tableTime {})).1), by decide +kernel⟩,
   ⟨{ rdy with axis := [(7, { due := 1 })] }, 7, by decide +kernel⟩,
   ⟨rdy, 7, by decide +kernel⟩⟩

theorem test_meets_TwinCommandsRun :
    (∃ (s : State) (h : MbHdr), Safety.served s h 0 = true) ∧
    (∃ (s : State) (h : MbHdr) (p : TwinModeReq), Safety.served s h 16 = true ∧ p.rsv = 0 ∧ p.rsv2 = 0 ∧
      s.notSupervisor = false ∧ (modeOfReq p).bad = false ∧ s.unpaired = false) ∧
    (∃ (s : State) (h : MbHdr) (flags : Byte), Safety.served s h 4 = true ∧ flags.toNat ≤ 1 ∧ s.unpaired = false ∧
      s.twin.role = .lead ∧ s.preferred = false ∧ s.pairUp = true) ∧
    (∃ (s : State) (h : MbHdr), Safety.served s h 4 = true ∧ s.unpaired = false ∧ s.twin.stalemate = true) ∧
    (∃ (s : State) (h : MbHdr), Safety.served s h 4 = true ∧ s.unpaired = false ∧ s.twin.stalemate = true ∧ (∀ p ∈ s.bat.pages,
      p.own = false)) :=
  ⟨⟨rdy, hdr 0, by decide +kernel⟩,
   ⟨tw { supervisor := true, formed := true }, hdr 16, ⟨1, 0, 1, 1, 0, 1, 3600, 0⟩, by decide +kernel⟩,
   ⟨tw { formed := true, role := .lead, link := .up }, hdr 4, 1, by decide +kernel⟩,
   ⟨tw { formed := true, stalemate := true }, hdr 4, by decide +kernel⟩,
   ⟨tw { formed := true, stalemate := true }, hdr 4, by decide +kernel⟩⟩

theorem test_meets_TimeSettingsApply :
    (∃ (s : State) (h : MbHdr) (p : ClockReq), Safety.served s h 32 = true ∧ p.rsv = 0 ∧ p.rsv2 = 0 ∧ clockBad p = false) ∧
    (∃ (s : State) (h : MbHdr) (p : PtpReq), Safety.served s h 12 = true ∧ p.rsv = 0 ∧ p.role.toNat ≤ 3 ∧ p.domain.toNat ≤ 127 ∧
      p.barId.toNat ≤ 63 ∧ roleConflict p.role.toNat ((s.ethN 0).flags.getLsbD 0) ((s.ethN 1).flags.getLsbD 0) = false) ∧
    (∃ (s : State) (h : MbHdr) (p : EthPortReq), Safety.served s h 20 = true ∧ p.flags.toNat ≤ 31 ∧ p.port.toNat ≤ 1 ∧
      ethBad p = false ∧ roleConflict s.time.role (s.ethOnAfter p 0) (s.ethOnAfter p 1) = false) ∧
    (∃ (s : State) (h : MbHdr) (kind : Byte) (index : Byte) (ps : BitVec 32), Safety.served s h 8 = true ∧
      asymBad kind index = false ∧ (-1000000 ≤ ps.toInt ∧ ps.toInt ≤ 1000000)) :=
  ⟨⟨rdy, hdr 32, ⟨0x02800000, 1000, 1, 1, 0, 1000000000, 0, 0, 10, 3600, 10, 0, 0⟩, by decide +kernel⟩,
   ⟨{ rdy with time := { port := [(0, { flags := 1 }), (1, { flags := 1 })] } }, hdr 12, ⟨2, 127, 0, 0, 0, 0, 0, 0, 63, 0⟩,
     by decide +kernel⟩,
   ⟨rdy, hdr 20, ⟨1, 31, 1, 1, 4, 10, 0, 0, 10000, 10000⟩, by decide +kernel⟩,
   ⟨rdy, hdr 8, 1, 47, 1000000, by decide +kernel⟩⟩

theorem test_meets_TimeCommandsRun :
    (∃ (s : State) (h : MbHdr), Safety.served s h 0 = true) ∧
    (∃ (s : State) (h : MbHdr), Safety.served s h 0 = true) ∧
    (∃ (s : State) (h : MbHdr) (sec : BitVec 48) (frac : BitVec 16), Safety.served s h 8 = true ∧ s.ptpOwns = false ∧
      s.time.st ≠ .freerun) ∧
    (∃ (s : State) (h : MbHdr) (sec : BitVec 48) (frac : BitVec 16), Safety.served s h 8 = true ∧ s.time.st = .freerun) ∧
    (∃ (s : State) (h : MbHdr) (flags : Byte) (group : BitVec 32) (mask : BitVec 64), Safety.served s h 16 = true ∧
      flags.toNat ≤ 7) ∧
    (∃ (s : State) (h : MbHdr), Safety.served s h 0 = true) ∧
    (∃ (s : State) (h : MbHdr) (count : Byte), Safety.served s h 4 = true ∧ 1 ≤ count.toNat ∧ count.toNat ≤ 16) :=
  ⟨⟨rdy, hdr 0, by decide +kernel⟩,
   ⟨rdy, hdr 0, by decide +kernel⟩,
   ⟨{ rdy with time := { st := .locked } }, hdr 8, 5, 0, by decide +kernel⟩,
   ⟨rdy, hdr 8, 5, 0, by decide +kernel⟩,
   ⟨rdy, hdr 16, 7, 0, 5, by decide +kernel⟩,
   ⟨rdy, hdr 0, by decide +kernel⟩,
   ⟨rdy, hdr 4, 16, by decide +kernel⟩⟩

theorem test_meets_PowerSettingsApply :
    (∃ (s : State) (h : MbHdr) (mask : BitVec 64) (temp : BitVec 16), Safety.served s h 16 = true ∧ mask.toNat < 2 ^ 48 ∧
      temp.toNat ≤ 0x0690 ∧ retCurrent mask temp.toNat ≤ 60000) ∧
    (∃ (s : State) (h : MbHdr) (mask : BitVec 64) (temp : BitVec 16), Safety.served s h 16 = true ∧ mask.toNat < 2 ^ 48 ∧
      temp.toNat ≤ 0x0690 ∧ 60000 < retCurrent mask temp.toNat) ∧
    (∃ (s : State) (h : MbHdr) (enable : Byte) (flags : Byte) (alarm : BitVec 64), Safety.served s h 16 = true ∧
      enable.toNat < 16 ∧ flags.toNat < 2 ∧ (enable.getLsbD 1 = true → s.time.calValid = true ∧
      s.calendar < calUnits alarm.toNat)) ∧
    (∃ (s : State) (h : MbHdr) (en : BitVec 16) (thresh : BitVec 16) (rate : BitVec 16), Safety.served s h 8 = true ∧
      20 ≤ thresh.toNat ∧ thresh.toNat ≤ 100 ∧ rate ≠ 0) ∧
    (∃ (s : State) (h : MbHdr) (addr : Byte) (settle : BitVec 16) (timeout : BitVec 16), Safety.served s h 8 = true ∧
      0x08 ≤ addr.toNat ∧ addr.toNat ≤ 0x77 ∧ 10 ≤ settle.toNat ∧ settle.toNat ≤ 5000 ∧ 1 ≤ timeout.toNat ∧
      timeout.toNat ≤ 100 ∧ s.pwr.trans = none) ∧
    (∃ (s : State) (h : MbHdr), Safety.served s h 0 = true) :=
  ⟨⟨rdy, hdr 16, 1, 0x0690, by decide +kernel⟩,
   ⟨rdy, hdr 16, BitVec.ofNat 64 (2 ^ 48 - 1), 0x0690, by decide +kernel⟩,
   ⟨{ rdy with time := { calValid := true } }, hdr 16, 15, 1, BitVec.ofNat 64 (2 ^ 30), by decide +kernel⟩,
   ⟨rdy, hdr 8, 0xFFFF, 100, 1, by decide +kernel⟩,
   ⟨rdy, hdr 8, 0x77, 5000, 100, by decide +kernel⟩,
   ⟨rdy, hdr 0, by decide +kernel⟩⟩

theorem test_meets_PowerTransitionsRun :
    (∃ (s : State) (h : MbHdr) (b : Byte), Safety.served s h 4 = true ∧ (b = 2 ∨ b = 3) ∧ s.pwr.st = .run ∧ s.pwr.trans = none ∧
      (s.pwr.wakeEnable.getLsbD 1 && s.alarmActive) = false ∧ Safety.Resting s) ∧
    (∃ (s : State) (h : MbHdr), Safety.served s h 4 = true ∧ s.pwr.st = .hold ∧ s.pwr.trans = none ∧
      s.pwr.voltLevel = s.pwr.level ∧ (∀ i ∈ s.host.inflight, i.wait ≠ .power)) ∧
    (∃ (s : State) (h : MbHdr), Safety.served s h 4 = true ∧ s.pwr.st = .hold ∧ s.pwr.trans = none ∧
      s.pwr.voltLevel < s.pwr.level ∧ (∀ i ∈ s.host.inflight, i.wait ≠ .power)) ∧
    (∃ (s : State) (h : MbHdr) (b : Byte), Safety.served s h 4 = true ∧ (b = 1 ∨ b = 2 ∨ b = 3) ∧ s.pwr.st = .run ∧
      s.pwr.trans = none ∧ (s.pwr.wakeEnable.getLsbD 1 && s.alarmActive) = false ∧ s.bat.pages = [] ∧ s.axisMoving = true ∧
      (∀ i ∈ s.host.inflight, i.wait ≠ .power)) ∧
    (∃ (s : State) (h : MbHdr) (b : Byte), Safety.served s h 4 = true ∧ s.pwr.st = .run ∧ s.pwr.trans = none ∧
      b.toNat < s.pwr.level ∧ b.toNat < s.pwr.voltLevel ∧ s.pwr.level ≤ 3 ∧ (∀ i ∈ s.host.inflight, i.wait ≠ .power)) ∧
    (∃ (s : State) (h : MbHdr), Safety.served s h 4 = true ∧ s.pwr.st = .run ∧ s.pwr.trans = none ∧ s.pwr.level = 0 ∧
      s.pwr.voltLevel = 0 ∧ s.overBudget = false ∧ (∀ i ∈ s.host.inflight, i.wait ≠ .power)) :=
  ⟨⟨rdy, hdr 4, 3, by decide +kernel, by decide +kernel, by decide +kernel, by decide +kernel, by decide +kernel,
    (by unfold Safety.Resting; decide +kernel)⟩,
   ⟨{ rdy with pwr := { st := .hold, level := 1, voltLevel := 1 } }, hdr 4, by decide +kernel⟩,
   ⟨{ rdy with pwr := { st := .hold, level := 1, voltLevel := 0 } }, hdr 4, by decide +kernel⟩,
   ⟨{ rdy with axis := [(7, { enable := true, st := .cruise })] }, hdr 4, 1, by decide +kernel⟩,
   ⟨{ rdy with pwr := { level := 3, voltLevel := 3 } }, hdr 4, 2, by decide +kernel⟩,
   ⟨rdy, hdr 4, by decide +kernel⟩⟩

theorem test_meets_LogAndHealthCommandsRun :
    (∃ (s : State) (h : MbHdr), Safety.served s h 0 = true) ∧
    (∃ (s : State) (h : MbHdr) (q : BitVec 32), Safety.served s h 4 = true ∧ s.logBeyond q = false ∧ (∀ c,
      s.log.clearedSeq = some c → seqLe c q = true)) ∧
    (∃ (s : State) (h : MbHdr) (sev : Byte), Safety.served s h 4 = true ∧ sev.toNat ≤ 2) ∧
    (∃ (s : State) (h : MbHdr) (q : BitVec 32) (count : BitVec 16), Safety.served s h 8 = true ∧ 1 ≤ count.toNat ∧
      count.toNat ≤ 63) ∧
    (∃ (s : State) (h : MbHdr), Safety.served s h 0 = true) ∧
    (∃ (s : State) (h : MbHdr) (causes : BitVec 16), Safety.served s h 4 = true ∧ causes.toNat < 2048 ∧ (∀ c, c < 11 →
      causes.getLsbD c = true → s.hourRoll.health.active.getLsbD c = false)) ∧
    (∃ (s : State) (h : MbHdr) (tj : BitVec 16) (pll : BitVec 16), Safety.served s h 4 = true ∧ 0x0500 ≤ tj.toInt ∧
      tj.toInt ≤ 0x0690 ∧ 10 ≤ pll.toNat ∧ pll.toNat ≤ 500) ∧
    (∃ (s : State) (h : MbHdr) (kind : Byte) (index : Byte), Safety.served s h 4 = true ∧ kind.toNat ≤ 3 ∧
      index.toNat ≤ (if kind = 0 then 47 else if kind = 1 then 3 else 15) ∧ s.partRetired kind.toNat index.toNat = true) :=
  ⟨⟨rdy, hdr 0, by decide +kernel⟩,
   ⟨{ rdy with log := { nextSeq := 1 } }, hdr 4, 0, by decide +kernel, by decide +kernel, (by intro c hc; cases hc)⟩,
   ⟨rdy, hdr 4, 2, by decide +kernel⟩,
   ⟨rdy, hdr 8, 0, 63, by decide +kernel⟩,
   ⟨rdy, hdr 0, by decide +kernel⟩,
   ⟨rdy, hdr 4, 2047, by decide +kernel⟩,
   ⟨rdy, hdr 4, 0x0690, 500, by decide +kernel⟩,
   ⟨{ rdy with health := { sdRetired := 0x8000 } }, hdr 4, 2, 15, by decide +kernel⟩⟩

theorem test_meets_DramCommandsRun :
    (∃ (s : State) (h : MbHdr), Safety.served s h 0 = true) ∧
    (∃ (s : State) (h : MbHdr) (mode : Byte) (grain : Byte) (ms : List (BitVec 64)), Safety.served s h 56 = true ∧ (mode = 0 ∧
      grain = 0 ∧ s.masksOk (ms.map BitVec.toNat) = true ∨ mode = 1 ∧ 8 ≤ grain.toNat ∧ grain.toNat ≤ 16) ∧
      s.dramBusy = false) ∧
    (∃ (s : State) (h : MbHdr) (a : BitVec 16) (b : BitVec 16) (c : BitVec 16) (d : BitVec 16), Safety.served s h 8 = true ∧
      (a ≠ 0 ∧ b ≠ 0 ∧ c ≠ 0 ∧ d ≠ 0) ∧ (a.toNat + b.toNat + c.toNat + d.toNat + 2) * unit256 ≤ s.dramBytes ∧
      s.regionsBusy true = false ∧ (s.setRegions [a.toNat, b.toNat, c.toNat, d.toNat]).region 1 = s.region 1) ∧
    (∃ (s : State) (h : MbHdr), Safety.served s h 0 = true) ∧
    (∃ (s : State) (h : MbHdr) (pr : List Byte) (hi : Byte) (lo : Byte), Safety.served s h 12 = true ∧ pr.length = 7 ∧ (∀ p,
      p ∈ [1, 2, 3, 4, 5, 6, 7] → p ∈ pr.map BitVec.toNat) ∧ 16 ≤ hi.toNat ∧ hi.toNat ≤ 128 ∧ lo.toNat + 16 ≤ hi.toNat) ∧
    (∃ (s : State) (h : MbHdr) (w : BitVec 16) (l : BitVec 16) (ce : BitVec 32) (scrub : BitVec 16),
      Safety.served s h 12 = true ∧ 10 ≤ w.toNat ∧ w.toNat ≤ 10000 ∧ l ≠ 0 ∧ ce ≠ 0 ∧ 1 ≤ scrub.toNat ∧ scrub.toNat ≤ 168) ∧
    (∃ (s : State) (h : MbHdr) (c : Byte), Safety.served s h 4 = true ∧ c.toNat ≤ 1) ∧
    (∃ (s : State) (h : MbHdr) (c : Byte), Safety.served s h 4 = true ∧ c.toNat ≤ 1 ∧ s.chDown = none) ∧
    (∃ (s : State) (h : MbHdr) (c : Byte), Safety.served s h 4 = true) :=
  ⟨⟨rdy, hdr 0, by decide +kernel⟩,
   ⟨rdy, hdr 56, 1, 16, [], by decide +kernel⟩,
   ⟨rdy, hdr 8, 32, 4, 8, 4, by decide +kernel⟩,
   ⟨rdy, hdr 0, by decide +kernel⟩,
   ⟨rdy, hdr 12, [7, 6, 5, 4, 3, 2, 1], 16, 0, by decide +kernel⟩,
   ⟨rdy, hdr 12, 10000, 1, 1, 168, by decide +kernel⟩,
   ⟨rdy, hdr 4, 1, by decide +kernel⟩,
   ⟨rdy, hdr 4, 1, by decide +kernel⟩,
   ⟨{ rdy with dram := { retiring := some 0 } }, hdr 4, 0, by decide +kernel⟩⟩

theorem test_meets_DmaChannelsSet :
    (∃ (s : State) (h : MbHdr) (p : DmaReq), Safety.served s h 32 = true ∧ p.rsv = 0 ∧ dmaBad p s = none) ∧
    (∃ (s : State) (h : MbHdr) (c : Byte), Safety.served s h 4 = true ∧ c.toNat ≤ 31) ∧
    (∃ (s : State) (c : Nat), s.alive = true ∧ s.host.live = true ∧ c < 32 ∧ s.stepAccepted 6 = false ∧
      (s.dmaN c).st = .ready ∨ (s.dmaN c).st = .stopped) ∧
    (∃ (s : State) (c : Nat), s.alive = true ∧ s.host.live = true ∧ c < 32 ∧ (s.dmaN c).st = .running ∧
      ((s.dmaN c).retrying || (s.dmaN c).rbOpen.isSome || !(s.dmaN c).reqs.isEmpty) = false) ∧
    (∃ (s : State) (c : Nat), s.alive = true ∧ s.host.live = true ∧ c < 32 ∧ (s.dmaN c).st = .running ∧
      ((s.dmaN c).retrying || (s.dmaN c).rbOpen.isSome || !(s.dmaN c).reqs.isEmpty) = true) ∧
    (∃ (s : State) (c : Nat), s.alive = true ∧ s.host.live = true ∧ c < 32 ∧ (s.dmaN c).egress = true ∧
      (s.dmaN c).st = .halted ∨ (s.dmaN c).st = .done ∨ (s.dmaN c).st = .stopped) ∧
    (∃ (s : State) (c : Nat) (v : BitVec 64), s.alive = true ∧ s.host.live = true ∧ c < 32 ∧ (s.dmaN c).egress = false) ∧
    (∃ (s : State) (c : Nat) (v : BitVec 64), s.alive = true ∧ s.host.live = true ∧ c < 32 ∧ (s.dmaN c).egress = true) ∧
    (∃ (s : State) (c : Nat) (v : BitVec 32), s.alive = true ∧ s.host.live = true ∧ c < 32) :=
  ⟨⟨rdy, hdr 32, ⟨31, 1, 0, 3, 7, 30, 0, 0, 64, 8, 0⟩, by decide +kernel⟩,
   ⟨rdy, hdr 4, 31, by decide +kernel⟩,
   ⟨{ rdy with dma := [(31, { st := .stopped })] }, 31, by decide +kernel⟩,
   ⟨{ rdy with dma := [(31, { st := .running })] }, 31, by decide +kernel⟩,
   ⟨{ rdy with dma := [(31, { st := .running, reqs := [8] })] }, 31, by decide +kernel⟩,
   ⟨{ rdy with dma := [(31, { st := .done, egress := true })] }, 31, by decide +kernel⟩,
   ⟨rdy, 31, 5, by decide +kernel⟩,
   ⟨{ rdy with dma := [(31, { st := .ready, egress := true })] }, 31, 5, by decide +kernel⟩,
   ⟨rdy, 31, 8, by decide +kernel⟩⟩

theorem test_meets_HostAccessesAct :
    (∃ (s : State) (k : Nat) (i : Instr), k < 8 ∧ Safety.rings s (s.reqHdr k).1 = true ∧
      reqOf (s.reqHdr k).2 (s.reqHdr k).1 (s.areaBytes k 16 2032) = some i) ∧
    (∃ (s : State) (k : Nat), k < 8 ∧ Safety.rings s (s.reqHdr k).1 = true ∧ s.isReady = true ∧
      reqOf (s.reqHdr k).2 (s.reqHdr k).1 (s.areaBytes k 16 2032) = none) ∧
    (∃ (s : State) (k : Nat), k < 8 ∧ s.alive = true ∧ s.host.live = true ∧ s.boot.stage = .restarting ∧
      (s.host.busy ||| s.host.done) &&& bit8 k = 0 ∧ s.host.doorbell &&& bit8 k = 0) ∧
    (∃ (s : State) (k : Nat), k < 8 ∧ s.alive = true ∧ s.host.live = true ∧ s.host.busy &&& bit8 k ≠ 0) ∧
    (∃ (s : State) (k : Nat) (e : HeldDoor), k < 8 ∧ s.alive = true ∧ s.host.live = true ∧ s.host.busy &&& bit8 k = 0 ∧
      s.host.held.find? (fun x => slotOf x == k) = some e) ∧
    (∃ (s : State) (k : Nat), k < 8 ∧ s.alive = true ∧ s.host.live = true ∧ s.host.busy &&& bit8 k = 0 ∧ (∀ x ∈ s.host.held,
      slotOf x ≠ k)) ∧
    (∃ (s : State) (o : Nat) (r : AlertReg) (v : BitVec 64), s.alive = true ∧ s.host.live = true ∧ o % 4 = 0 ∧
      alertAt o = some (r, false)) ∧
    (∃ (s : State) (o : Nat) (r : AlertReg) (v : BitVec 64), s.alive = true ∧ s.host.live = true ∧ o % 4 = 0 ∧
      alertAt o = some (r, true)) ∧
    (∃ (s : State) (v : BitVec 64), s.alive = true ∧ s.host.live = true) ∧
    (∃ (s : State) (v : BitVec 64), s.alive = true ∧ s.host.live = true ∧ (v.extractLsb' 4 8).toNat ≠ 0 ∧
      5 ≤ (v.extractLsb' 12 8).toNat ∧ (v.extractLsb' 20 2).toNat ≠ 3) ∧
    (∃ (s : State) (o : Nat) (v : BitVec 64), s.alive = true ∧ s.host.live = true ∧ o % 4 ≠ 0) ∧
    (∃ (s : State) (o : Nat) (d : List Byte), s.alive = true ∧ s.host.live = true ∧ s.bar2Has o = true ∧
      o + d.length ≤ s.freeSize) ∧
    (∃ (s : State) (o : Nat) (d : List Byte), s.alive = true ∧ s.host.live = true ∧ s.bar2Has o = true ∧
      s.freeSize < o + d.length) ∧
    (∃ (s : State) (o : Nat) (n : Nat), s.alive = true ∧ s.host.live = true ∧ s.bar2Has o = true) :=
  ⟨⟨areaS 0x01 0x01, 7, .sysGetInfo (hdr 0), by decide +kernel⟩,
   ⟨areaS 0xFE 0x01, 7, by decide +kernel⟩,
   ⟨{ rdy with boot := { rdy.boot with stage := .restarting } }, 7, by decide +kernel⟩,
   ⟨{ rdy with host := { live := true, busy := 0x80 } }, 7, by decide +kernel⟩,
   ⟨{ rdy with host := { live := true, doorbell := 0x80, held := [.slot 7] } }, 7, .slot 7, by decide +kernel⟩,
   ⟨rdy, 7, by decide +kernel⟩,
   ⟨rdy, 0x100, .place, 1, by decide +kernel⟩,
   ⟨rdy, 0x104, .place, 1, by decide +kernel⟩,
   ⟨rdy, 1, by decide +kernel⟩,
   ⟨rdy, 0x00005010, by decide +kernel⟩,
   ⟨rdy, 0x102, 0, by decide +kernel⟩,
   ⟨rdy, 14 * 2 ^ 28 - 15, List.replicate 15 0, by decide +kernel⟩,
   ⟨{ rdy with boot := { rdy.boot with board := { density := 8, ranks := 1 } } }, 0xFFFFFFFF, [0], by decide +kernel⟩,
   ⟨rdy, 0xFFFFFFFF, 4, by decide +kernel⟩⟩

theorem test_meets_HostResetsStayInside :
    (∃ (s : State), s.alive = true ∧ s.host.live = true) ∧
    (∃ (s : State), s.alive = true ∧ s.host.live = true) ∧
    (∃ (s : State), s.alive = true ∧ s.host.live = true) ∧
    (∃ (s : State), s.alive = true) ∧
    (∃ (s : State), s.alive = true ∧ s.host.perst = false) ∧
    (∃ (s : State), s.pwr.st = .run ∧ s.pwr.trans = none) :=
  ⟨⟨rdy, by decide +kernel⟩,
   ⟨rdy, by decide +kernel⟩,
   ⟨rdy, by decide +kernel⟩,
   ⟨rdy, by decide +kernel⟩,
   ⟨rdy, by decide +kernel⟩,
   ⟨rdy, by decide +kernel⟩⟩

theorem test_meets_StartUpRuns :
    (∃ (s : State), s.boot.resetN = true) ∧
    (∃ (s : State) (straps : BitVec 5), s.boot.resetN = false ∧ s.pwr.corePg = true) ∧
    (∃ (s : State), s.alive = true ∧ s.boot.stage = .rom) ∧
    (∃ (s : State) (r : TrainReport), s.alive = true ∧ s.boot.stage = .dramTrain ∧ s.nvm.id.retiredCh = none ∧ r.ok0 = true ∧
      r.ok1 = true) ∧
    (∃ (s : State) (r : TrainReport), s.alive = true ∧ s.boot.stage = .dramTrain ∧ r.ok0 = false ∧ r.ok1 = false) ∧
    (∃ (s : State) (ms : BitVec 32), s.alive = true ∧ s.boot.stage = .storeRestore) :=
  ⟨⟨rdy, by decide +kernel⟩,
   ⟨{ boot := {} }, 31, by decide +kernel⟩,
   ⟨{ rdy with boot := { rdy.boot with stage := .rom } }, by decide +kernel⟩,
   ⟨{ rdy with boot := { rdy.boot with stage := .dramTrain } }, train0 true true, by decide +kernel⟩,
   ⟨{ rdy with boot := { rdy.boot with stage := .dramTrain } }, train0 false false, by decide +kernel⟩,
   ⟨{ rdy with boot := { rdy.boot with stage := .storeRestore } }, 5, by decide +kernel⟩⟩

theorem test_meets_SupplyEventsAct :
    (∃ (s : State) (tr : Trans), s.alive = true ∧ s.pwr.trans = some tr ∧ tr.pmbus = true ∧
      tr.goal.voltage s.pwr.level < s.pwr.voltLevel) ∧
    (∃ (s : State) (tr : Trans) (v : Byte), s.alive = true ∧ s.pwr.trans = some tr ∧ tr.pmbus = true ∧ v ≠ 0) ∧
    (∃ (s : State) (tr : Trans), s.alive = true ∧ s.pwr.trans = some tr ∧ tr.settling = true ∧ tr.goal = .level 0) ∧
    (∃ (s : State) (bad : BitVec 64), s.pwr.corePg = false ∧ s.pwr.pwrEn = true ∧ s.pwr.st = .off ∧ s.pwr.waking = true ∧
      s.pwr.fromStandby = false ∧ s.boot.bootMode ≠ 2) ∧
    (∃ (s : State), s.pwr.waking = true ∧ s.pwr.pwrEn = true ∧ s.pwr.corePg = false) ∧
    (∃ (s : State), s.pwr.waking = true ∧ s.pwr.pwrEn = false) ∧
    (∃ (s : State), s.pwr.corePg = true ∧ s.pwr.st = .run) ∧
    (∃ (s : State), s.pwr.st = .standby) ∧
    (∃ (s : State), s.coresRun = true ∧ s.boot.stage = .ready ∧ s.boot.lastMismatch = none) ∧
    (∃ (s : State) (k : Nat), s.alive = true ∧ s.boot.coresHeld = false ∧ s.boot.lastMismatch = some k ∧
      s.time.ticks - k ≤ tenSeconds) ∧
    (∃ (s : State), s.alive = true ∧ s.boot.stage = .restarting ∧ s.host.inflight = [] ∧ s.host.held = []) :=
  ⟨⟨{ rdy with pwr := { level := 0, voltLevel := 1, trans := some { goal := .level 0, pmbus := true } } },
    { goal := .level 0, pmbus := true }, by decide +kernel⟩,
   ⟨{ rdy with pwr := { trans := some { goal := .level 1, pmbus := true } } }, { goal := .level 1, pmbus := true }, 1,
     by decide +kernel⟩,
   ⟨{ rdy with pwr := { level := 1, trans := some { goal := .level 0, settling := true } } },
     { goal := .level 0, settling := true }, by decide +kernel⟩,
   ⟨{ rdy with pwr := { st := .off, corePg := false, waking := true } }, 0, by decide +kernel⟩,
   ⟨{ rdy with pwr := { st := .off, corePg := false, waking := true } }, by decide +kernel⟩,
   ⟨{ rdy with pwr := { st := .off, corePg := false, waking := true, pwrEn := false } }, by decide +kernel⟩,
   ⟨rdy, by decide +kernel⟩,
   ⟨{ rdy with pwr := { st := .standby } }, by decide +kernel⟩,
   ⟨rdy, by decide +kernel⟩,
   ⟨{ rdy with boot := { rdy.boot with lastMismatch := some 0, stage := .restarting }, time := { ticks := tenSeconds } }, 0,
     by decide +kernel⟩,
   ⟨{ rdy with boot := { rdy.boot with stage := .restarting } }, by decide +kernel⟩⟩

theorem test_meets_WakeDroopAndThermalAct :
    (∃ (s : State), s.boot.resetN = true ∧ s.pwr.wakeEnable.getLsbD 0 = true ∧ (s.pwr.st = .standby ∨ s.pwr.st = .off) ∧
      s.pwr.waking = false) ∧
    (∃ (s : State), s.boot.resetN = true ∧ s.pwr.wakeEnable.getLsbD 1 = true ∧ (s.pwr.st = .standby ∨ s.pwr.st = .off) ∧
      s.pwr.waking = false ∧ s.alarmActive = true) ∧
    (∃ (s : State), s.boot.resetN = true ∧ s.pwr.wakeEnable.getLsbD 3 = true ∧ (s.pwr.st = .standby ∨ s.pwr.st = .off) ∧
      s.pwr.waking = false) ∧
    (∃ (s : State) (tr : Trans), s.alive = true ∧ s.pwr.trans = some tr ∧ tr.left = [7, 8, 9, 10, 11] ∧ tr.delayed = true ∧
      tr.goal = .state .hold ∧ s.storeBusy = false ∧ s.pwr.voltLevel = 2 ∧ s.fire.permit = false) ∧
    (∃ (s : State) (tr : Trans) (l : List Nat), s.alive = true ∧ s.pwr.trans = some tr ∧ tr.left = 7 :: l ∧ tr.delayed = true ∧
      (∃ g, tr.goal = .state g) ∧ tr.accepted = [6, 5, 4, 3, 2, 1]) ∧
    (∃ (s : State) (i : Nat), s.alive = true ∧ i < 16 ∧ s.pwr.droopEnable.getLsbD i = true ∧ s.pwr.sensors.getLsbD i = false ∧
      s.pwr.hour = s.hourNow ∧ s.pwr.hourTrips < s.pwr.rateLimit) ∧
    (∃ (s : State) (i : Nat), s.alive = true ∧ i < 16) ∧
    (∃ (s : State), s.alive = true ∧ s.pwr.sensors = 0) ∧
    (∃ (s : State) (us : BitVec 32), s.alive = true ∧ s.pwr.droop = true ∧ 1000 < us.toNat) ∧
    (∃ (s : State) (temp : BitVec 16), s.alive = true ∧ 1888 ≤ temp.toInt) ∧
    (∃ (s : State) (temp : BitVec 16), s.alive = true ∧ s.pwr.thermalPending = some temp) :=
  ⟨⟨{ rdy with pwr := { st := .off, wakeEnable := 1 } }, by decide +kernel⟩,
   ⟨{ rdy with pwr := { st := .standby, wakeEnable := 2 }, time := { calValid := true } }, by decide +kernel⟩,
   ⟨{ rdy with pwr := { st := .off, wakeEnable := 8 } }, by decide +kernel⟩,
   ⟨{ rdy with pwr := { level := 2, voltLevel := 2, trans := some { goal := .state .hold, left := [7, 8, 9, 10, 11], delayed := true } } },
     { goal := .state .hold, left := [7, 8, 9, 10, 11], delayed := true }, by decide +kernel⟩,
   ⟨{ rdy with pwr := { trans := some { goal := .state .hold, left := [7, 8], accepted := [6, 5, 4, 3, 2, 1], delayed := true } } },
     { goal := .state .hold, left := [7, 8], accepted := [6, 5, 4, 3, 2, 1], delayed := true }, [8], by decide +kernel,
     by decide +kernel, by decide +kernel, by decide +kernel, ⟨.hold, by decide +kernel⟩, by decide +kernel⟩,
   ⟨{ rdy with pwr := { hourTrips := 99 } }, 15, by decide +kernel⟩,
   ⟨rdy, 15, by decide +kernel⟩,
   ⟨rdy, by decide +kernel⟩,
   ⟨{ rdy with pwr := { droop := true } }, 1001, by decide +kernel⟩,
   ⟨rdy, 1888, by decide +kernel⟩,
   ⟨{ rdy with pwr := { thermalPending := some 1888 } }, 1888, by decide +kernel⟩⟩

theorem test_meets_PartTestsAct :
    (∃ (s : State) (i : Nat), s.alive = true ∧ i < 16 ∧ s.health.sdRetired.getLsbD i = false ∧ s.decoderBusy i = false ∧
      s.pixGated = false) ∧
    (∃ (s : State) (i : Nat), s.alive = true ∧ i < 16 ∧ s.health.sdRetired.getLsbD i = false ∧ s.decoderBusy i = false ∧
      s.pixGated = false ∧ s.health.sdMiss.get 0 i = 1) ∧
    (∃ (s : State) (i : Nat), s.alive = true ∧ i < 4 ∧ s.health.veRetired.getLsbD i = false ∧ s.visGated = false ∧
      s.health.sdMiss.get 0 (32 + i) = 1) ∧
    (∃ (s : State) (m : BitVec 16), s.alive = true ∧ s.health.pllMin ≤ m.toNat) ∧
    (∃ (s : State) (m : BitVec 16), s.alive = true ∧ m.toNat < s.health.pllMin ∧ 2 ≤ s.health.pllLow) ∧
    (∃ (s : State) (ts : List (BitVec 16)), s.alive = true ∧ ts.length = 8) ∧
    (∃ (s : State) (b : Nat) (row : Nat), s.alive = true ∧ b < 48 ∧ row < 65536 ∧ s.health.bankRetired.getLsbD b = false ∧
      s.health.corrected.get 0 (b * 65536 + row) = 0) ∧
    (∃ (s : State) (b : Nat) (row : Nat), s.alive = true ∧ b < 48 ∧ row < 65536 ∧ s.health.bankRetired.getLsbD b = false) ∧
    (∃ (s : State) (e : EventRec) (l : List EventRec), s.alive = true ∧ s.log.stage = e :: l ∧ s.log.dropped = 0) :=
  ⟨⟨rdy, 15, by decide +kernel⟩,
   ⟨{ rdy with health := { sdMiss := [(15, 1)] } }, 15, by decide +kernel⟩,
   ⟨{ rdy with health := { sdMiss := [(35, 1)] } }, 3, by decide +kernel⟩,
   ⟨rdy, 100, by decide +kernel⟩,
   ⟨{ rdy with health := { pllLow := 2 } }, 99, by decide +kernel⟩,
   ⟨rdy, List.replicate 8 0x0640, by decide +kernel⟩,
   ⟨rdy, 47, 65535, by decide +kernel⟩,
   ⟨rdy, 47, 65535, by decide +kernel⟩,
   ⟨{ rdy with log := { stage := [{}] } }, {}, [], by decide +kernel⟩⟩

theorem test_meets_DramErrorsAct :
    (∃ (s : State), s.alive = true) ∧
    (∃ (s : State), s.alive = true) ∧
    (∃ (s : State) (b : Nat) (n : Nat), s.alive = true ∧ s.dram.hotLimit < n) ∧
    (∃ (s : State) (rank : Nat) (drift : Nat), s.alive = true ∧ s.pwr.st = .run ∧ s.isReady = true ∧
      rank < 2 * s.boot.board.ranks) ∧
    (∃ (s : State) (c : Nat) (a : BitVec 64), s.alive = true ∧ s.channelUp c = true) ∧
    (∃ (s : State) (c : Nat) (d : Nat) (a : BitVec 64), s.alive = true ∧ c < 2 ∧ d < 32 ∧ (s.dmaN d).st = .running ∧
      (s.dmaN d).egress = true) :=
  ⟨⟨rdy, by decide +kernel⟩,
   ⟨rdy, by decide +kernel⟩,
   ⟨rdy, 0, 1025, by decide +kernel⟩,
   ⟨rdy, 3, 5, by decide +kernel⟩,
   ⟨rdy, 1, BitVec.ofNat 64 (2 ^ 33), by decide +kernel⟩,
   ⟨{ rdy with dma := [(31, { st := .running, egress := true })] }, 1, 31, 0, by decide +kernel⟩⟩

theorem test_meets_DmaTransfersMove :
    (∃ (s : State) (c : Nat) (d : List Byte), s.alive = true ∧ c < 32 ∧ (s.dmaN c).st = .running ∧ (s.dmaN c).egress = false ∧
      (s.dmaN c).dramRing = true ∧ (s.dmaN c).retrying = false ∧ (s.dmaN c).stopping = false ∧ d ≠ [] ∧
      d.length ≤ s.ingressRoom c ∧ d.length ≤ ((s.issueReads dmaTags).dmaN c).reqs.sum ∧
      (s.dmaN c).dramPos % 2 ^ (s.dmaN c).dramLog2 + d.length ≤ 2 ^ (s.dmaN c).dramLog2) ∧
    (∃ (s : State) (c : Nat) (n : Nat), s.alive = true ∧ c < 32 ∧ (s.dmaN c).st = .running ∧ (s.dmaN c).egress = true ∧
      (s.dmaN c).retrying = false ∧ (s.dmaN c).rbOpen = none ∧ 0 < n ∧ n ≤ (s.dmaN c).egressRoom ∧ s.tagsUsed < 256) ∧
    (∃ (s : State) (c : Nat) (n : Nat), s.alive = true ∧ c < 32 ∧ (s.dmaN c).st = .running ∧ (s.dmaN c).egress = true ∧
      (s.dmaN c).retrying = false ∧ (s.dmaN c).rbOpen = some n) ∧
    (∃ (s : State) (c : Nat) (n : Nat), s.alive = true ∧ c < 32 ∧ (s.dmaN c).st = .running ∧ (s.dmaN c).egress = true ∧
      (s.dmaN c).retrying = false ∧ (s.dmaN c).rbOpen = some n) ∧
    (∃ (s : State) (c : Nat), s.alive = true ∧ c < 32 ∧ (s.dmaN c).st = .running ∧ (s.dmaN c).retrying = true) :=
  ⟨⟨{ rdy with dma := [(31, { st := .running, dramRing := true, dramLog2 := 12, prod := 1, remain := 1 })] }, 31, [7],
    by decide +kernel⟩,
   ⟨{ rdy with dma := [(31, { st := .running, egress := true, out := [1, 2], remain := 2 })] }, 31, 2, by decide +kernel⟩,
   ⟨{ rdy with dma := [(31, { st := .running, egress := true, rbOpen := some 2 })] }, 31, 2, by decide +kernel⟩,
   ⟨{ rdy with dma := [(31, { st := .running, egress := true, rbOpen := some 2 })] }, 31, 2, by decide +kernel⟩,
   ⟨{ rdy with dma := [(31, { st := .running, retrying := true })] }, 31, by decide +kernel⟩⟩

theorem test_meets_EncoderEventsCount :
    (∃ (s : State) (n : Nat) (k : Nat) (l : Bool), s.alive = true ∧ n ≤ 3 ∧ (s.encN n).filterTicks < k ∧
      (s.encN n).typ = .quad ∧ l ≠ (s.encN n).lineA) ∧
    (∃ (s : State) (n : Nat) (k : Nat) (l : Bool), s.alive = true ∧ n ≤ 3 ∧ (s.encN n).filterTicks < k ∧
      (s.encN n).typ = .quad ∧ l ≠ (s.encN n).lineB) ∧
    (∃ (s : State) (n : Nat) (k : Nat) (x : LineEdge), s.alive = true ∧ n ≤ 3 ∧ k ≤ (s.encN n).filterTicks) ∧
    (∃ (s : State) (n : Nat) (k : Nat), s.alive = true ∧ n ≤ 3 ∧ (s.encN n).filterTicks < k ∧ (s.encN n).typ = .quad) ∧
    (∃ (s : State) (n : Nat), s.alive = true ∧ n ≤ 3) ∧
    (∃ (s : State) (n : Nat) (d : Bool), s.alive = true ∧ s.isSsi n = true) ∧
    (∃ (s : State) (n : Nat) (word : Nat) (e : Bool) (crc : Byte) (t0 : Int) (pos : Nat), s.alive = true ∧ s.isSsi n = true ∧
      (s.encN n).frameAt = some t0 ∧ (s.encN n).prevWord = none ∧
      pos = (if (s.encN n).ssi.gray then grayToBin (s.encN n).ssi.posBits (word % 2 ^ (s.encN n).ssi.posBits) else word % 2 ^ (s.encN n).ssi.posBits) ∧
      (s.encN n).ssi.badFrame none (word % 2 ^ (s.encN n).ssi.posBits) e crc pos = false) ∧
    (∃ (s : State) (n : Nat), s.alive = true ∧ s.isSsi n = true) :=
  ⟨⟨rdy, 3, 1000, true, by decide +kernel⟩,
   ⟨rdy, 3, 1000, true, by decide +kernel⟩,
   ⟨rdy, 3, 0, .a true, by decide +kernel⟩,
   ⟨rdy, 3, 1000, by decide +kernel⟩,
   ⟨rdy, 3, by decide +kernel⟩,
   ⟨ssiS, 3, false, by decide +kernel⟩,
   ⟨{ ssiS with enc := [(3, { typ := .ssi, frameAt := some 0 })] }, 3, 255, false, 0, 0, 255, by decide +kernel⟩,
   ⟨ssiS, 3, by decide +kernel⟩⟩

theorem test_meets_LinesDecodeAndFire :
    (∃ (s : State) (g : Geo) (w : Web) (pg : Page) (h : Nat) (n : Nat), s.alive = true ∧ s.bar? = some (g, w) ∧
      s.page? h = some pg ∧ s.predicted g w pg n = true ∧ s.line? h n = none ∧ s.nextFor pg n = true ∧
      s.leadReached w (s.earliest g w pg n) = true ∧ s.slotFree w = true ∧ s.ringFree g w = true) ∧
    (∃ (s : State) (d : Nat) (h : Nat) (n : Nat) (j : Nat), s.alive = true ∧ d < 16 ∧ s.health.sdRetired.getLsbD d = false ∧
      s.slate.jobs.get none d = none ∧ s.pixGated = false ∧ s.jobToStart = some (h, n, j)) ∧
    (∃ (s : State) (d : Nat) (h : Nat) (n : Nat) (j : Nat) (pg : Page) (xs : List Nat) (c : CodecSt), s.alive = true ∧
      s.slate.jobs.get none d = some (h, n, j) ∧ s.page? h = some pg ∧
      decodeNext (s.streamOf pg j).width 2 (s.streamOf pg j).data (s.decState n j) = .ok (xs, c)) ∧
    (∃ (s : State) (g : Geo) (w : Web) (pg : Page) (l : Line) (p : Nat) (h : Nat) (n : Nat) (x : PortLine) (ft : Int),
      s.alive = true ∧ s.bar? = some (g, w) ∧ s.page? h = some pg ∧ s.line? h n = some l ∧ x = l.port.get {} p ∧
      l.mapped = true ∧ x.st = .waiting ∧ s.portRuns p = true ∧ s.forward = true ∧ (∀ f, pg.floor.get none p = some f →
      f < g.target w pg.top n p) ∧ s.fireTime g w pg.top n p = some ft ∧ s.leadReached w (some ft) = true ∧
      s.tooLate (some ft) = false ∧ s.nearRestart (g.target w pg.top n p) = false ∧ (x.subst = false → ∀ b,
      s.prevSent h n p = some b → b + minInterval256 ≤ ft)) ∧
    (∃ (s : State) (g : Geo) (w : Web) (pg : Page) (h : Nat) (n : Nat), s.alive = true ∧ s.bar? = some (g, w) ∧
      s.page? h = some pg ∧ s.line? h n = none ∧ s.nextFor pg n = true ∧ pg.lateNext = false) ∧
    (∃ (s : State) (p : Nat) (h : Nat) (n : Nat) (l : Line), s.alive = true ∧ s.line? h n = some l ∧
      (l.port.get {} p).st = .sent ∧ (l.port.get {} p).fire ≤ s.now256) ∧
    (∃ (s : State) (g : Geo) (w : Web) (p : Nat) (h : Nat) (n : Nat) (target : Int) (fire : Int) (x : Rat), s.alive = true ∧
      s.bar? = some (g, w) ∧ (s.bat.checks.find? fun c => c.1 == h && c.2.1 == n && c.2.2.1 == p) = some (h, n, p, target,
      fire) ∧ posBetween ((fire + (g.port.get {} p).dropFlightNs * 256) * 65536) s.bat.fireEdges = some x) ∧
    (∃ (s : State) (pg : Page) (h : Nat), s.alive = true ∧ s.page? h = some pg ∧ s.passed pg = true ∧ s.vis.thatch = []) ∧
    (∃ (s : State) (h : Nat), s.alive = true) :=
  ⟨⟨dueS, geo0, web0, page0, 0, 0, by decide +kernel⟩,
   ⟨{ movS with bat := { pages := [page0], lines := [{ handle := 0, line := 0, toStart := [0] }] } }, 15, 0, 0, 0,
     by decide +kernel⟩,
   ⟨decS, 15, 0, 0, 0, page0, (match decodeNext 1024 2 decBytes decStart with | .ok x => x.1 | .error _ => []),
     (match decodeNext 1024 2 decBytes decStart with | .ok x => x.2 | .error _ => {}), by decide +kernel⟩,
   ⟨dueLine .waiting, geo0, web0, page0, line0 .waiting, 0, 0, 0, { st := .waiting },
     (match (dueLine .waiting).fireTime geo0 web0 page0.top 0 0 with | some t => t | none => 0), by decide +kernel,
     by decide +kernel, by decide +kernel, by decide +kernel, by decide +kernel, by decide +kernel, by decide +kernel,
     by decide +kernel, by decide +kernel, (by intro f hf; cases hf), by decide +kernel, by decide +kernel, by decide +kernel,
     by decide +kernel,
     (by intro _ b hb; revert hb; exact (by decide +kernel : (dueLine .waiting).prevSent 0 0 0 = none) ▸ nofun)⟩,
   ⟨movS, geo0, web0, page0, 0, 0, by decide +kernel⟩,
   ⟨lineS .sent, 0, 0, 0, line0 .sent, by decide +kernel⟩,
   ⟨{ movS with bat := { pages := [page0], checks := [(0, 0, 0, 65536000, 256)], fireEdges := [(1001, 33554432), (1000, 0)] } },
     geo0, web0, 0, 0, 0, 65536000, 256, 65568768, by decide +kernel⟩,
   ⟨{ movS with bat := { pages := [{ page0 with nextLine := 4 }] }, est := { movS.est with p := 2000 }, enc := [(0, { count := 2000 })] },
     { page0 with nextLine := 4 }, 0, by decide +kernel⟩,
   ⟨rdy, 255, by decide +kernel⟩⟩

theorem test_meets_RidgeStatesMove :
    (∃ (s : State) (p : Nat), s.alive = true ∧ (s.portN p).st = .detect) ∧
    (∃ (s : State) (p : Nat), s.alive = true ∧ s.twin.handing = false ∧ (s.portN p).st = .detect) ∧
    (∃ (s : State) (p : Nat) (scores : List Nat), s.alive = true ∧ s.twin.handing = false ∧ (s.portN p).st = .train) ∧
    (∃ (s : State) (p : Nat) (score : Nat) (up : Nat) (down : Nat), s.alive = true ∧ (s.portN p).st = .up ∧ 64 ≤ score ∧
      64 ≤ (s.portN p).eyeHead.toNat) ∧
    (∃ (s : State) (p : Nat) (score : Nat) (up : Nat) (down : Nat), s.alive = true ∧ (s.portN p).st = .up ∧ score < 64 ∧
      (s.portN p).eyeLowRx = 15) ∧
    (∃ (s : State) (p : Nat), s.alive = true ∧ s.twin.handing = false ∧
      (s.portN p).st = .train ∨ (s.portN p).st = .discover ∨ (s.portN p).st = .load) ∧
    (∃ (s : State) (p : Nat), s.alive = true ∧
      (s.portN p).st = .train ∨ (s.portN p).st = .discover ∨ (s.portN p).st = .load ∨ (s.portN p).st = .up) ∧
    (∃ (s : State) (p : Nat), s.alive = true ∧ (s.portN p).rxIdle = false ∧ (s.portN p).st.framed = true) ∧
    (∃ (s : State) (p : Nat), s.alive = true ∧ (s.portN p).st.framed = true ∧ (s.portN p).idle = false) ∧
    (∃ (s : State) (p : Nat), s.alive = true ∧ (s.portN p).st.framed = true ∧ (s.portN p).txQ = []) ∧
    (∃ (s : State) (p : Nat), s.alive = true ∧ s.host.live = true ∧ p < 48 ∧ s.twin.handing = false ∧
      (s.portN p).st = .dropped ∨ (s.portN p).st = .mismatch) ∧
    (∃ (s : State) (p : Nat), s.alive = true ∧ s.host.live = true ∧ p < 48 ∧ (s.portN p).st = .up ∧
      ((s.portN p).resyncs.filter fun k => decide (s.time.ticks - k < ticksPerSec)).length < 2) ∧
    (∃ (s : State) (p : Nat), s.alive = true ∧ s.host.live = true ∧ p < 48 ∧ (s.portN p).st ≠ .off ∧ (s.portN p).st ≠ .dropped ∧
      (s.portN p).st ≠ .mismatch) :=
  ⟨⟨portS { st := .detect }, 47, by decide +kernel⟩,
   ⟨portS { st := .detect }, 47, by decide +kernel⟩,
   ⟨portS { st := .train }, 47, [64, 100], by decide +kernel⟩,
   ⟨portS { st := .up, eyeHead := 64 }, 47, 64, 0, 0, by decide +kernel⟩,
   ⟨portS { st := .up, eyeLowRx := 15 }, 47, 63, 0, 0, by decide +kernel⟩,
   ⟨portS { st := .load }, 47, by decide +kernel⟩,
   ⟨portS { st := .up }, 47, by decide +kernel⟩,
   ⟨portS { st := .up }, 47, by decide +kernel⟩,
   ⟨portS { st := .up }, 47, by decide +kernel⟩,
   ⟨portS { st := .up }, 47, by decide +kernel⟩,
   ⟨portS { st := .mismatch }, 47, by decide +kernel⟩,
   ⟨{ portS { st := .up, resyncs := [0, 1] } with time := { ticks := ticksPerSec } }, 47, by decide +kernel⟩,
   ⟨portS { st := .up }, 47, by decide +kernel⟩⟩

theorem test_meets_RidgeFramesMove :
    (∃ (s : State) (p : Nat) (f : DownFrame), s.alive = true ∧ (s.portN p).st.framed = true ∧ s.nextFrame p = some f ∧
      (∀ tag fr ft, f = .fireLine tag fr ft → s.inTime p f ft = true ∧
      s.line? (tag.toNat % 2 ^ 28 / 2 ^ 20) (tag.toNat % 2 ^ 28 % 2 ^ 20) ≠ none)) ∧
    (∃ (s : State) (p : Nat) (tag : BitVec 32) (fr : FireLine) (ft : Int) (l : Line), s.alive = true ∧
      (s.portN p).st.framed = true ∧ s.nextFrame p = some (.fireLine tag fr ft) ∧ s.inTime p (.fireLine tag fr ft) ft = false ∧
      s.line? (tag.toNat % 2 ^ 28 / 2 ^ 20) (tag.toNat % 2 ^ 28 % 2 ^ 20) = some l) ∧
    (∃ (s : State) (p : Nat) (f : HelloUp), s.alive = true ∧ (s.portN p).st = .up ∨ (s.portN p).st = .load) ∧
    (∃ (s : State) (p : Nat) (o : CtrlOut) (d : List Byte), s.alive = true ∧ s.twin.handing = false ∧
      (s.portN p).st.framed = true ∧ (s.portN p).ctrlOut = some o ∧ (s.portN p).ctrlQ = []) ∧
    (∃ (s : State) (p : Nat) (o : CtrlOut), s.alive = true ∧ (s.portN p).st.framed = true ∧ (s.portN p).ctrlOut = some o ∧
      o.retriesLeft ≠ 0) ∧
    (∃ (s : State) (p : Nat), s.alive = true ∧ (s.portN p).st = .up ∨ (s.portN p).st = .load ∧ s.supervises = true) ∧
    (∃ (s : State) (p : Nat) (t1 : BitVec 48) (t2 : BitVec 48) (t3 : BitVec 48) (d : Int), s.alive = true ∧
      (s.portN p).st.writes = true ∧ d = echoDelay t1 t2 t3 (ridgeTime s.now256)) ∧
    (∃ (s : State) (p : Nat), s.alive = true ∧ (s.portN p).st.writes = true) ∧
    (∃ (s : State) (p : Nat) (f : RawFrame), s.alive = true ∧ (s.portN p).st.framed = true ∧ (s.portN p).rxIdle = false ∧
      RawFrame.fault true f = some .frameErr) ∧
    (∃ (s : State) (p : Nat) (u : Nat) (f : RawFrame), s.uportUsed u = true ∧ ((s.headN p).upN u).st = .linked ∧
      (u = s.ownUport → (s.portN p).idle = false) ∧ RawFrame.fault false f = some .crcErr) ∧
    (∃ (s : State) (p : Nat) (f : StatusFrame), s.alive = true ∧ (s.portN p).st.framed = true) ∧
    (∃ (s : State) (p : Nat) (x : Int), s.alive = true ∧ p < 48 ∧ (s.portN p).report = some x ∧
      x < (s.cal.data.thermal.get {} p).tWarn - (s.cal.data.thermal.get {} p).hyst) ∧
    (∃ (s : State) (p : Nat), s.alive = true ∧ p < 48 ∧ (s.portN p).st = .up ∧ (s.portN p).withheld = .none ∧
      (s.portN p).silent = false) ∧
    (∃ (s : State) (p : Nat), s.alive = true ∧ p < 48 ∧ (s.portN p).st.framed = true ∧
      ((s.portN p).resyncs.filter fun k => decide (s.time.ticks - k < ticksPerSec)).length < 2) :=
  ⟨⟨portS { st := .up, txQ := [.skip] }, 47, .skip, by decide +kernel, by decide +kernel, by decide +kernel,
    (by intro tag fr ft h; cases h)⟩,
   ⟨{ lineS .sent with port := [(47, { st := .up, txQ := [.fireLine 0 fireLine0 0] })], bat := { pages := [page0], lines := [line0 .waiting] } },
     47, 0, fireLine0, 0, line0 .waiting, by decide +kernel⟩,
   ⟨portS { st := .load }, 47, ⟨1, 0, 1024, 5, 0⟩, by decide +kernel⟩,
   ⟨portS { st := .up, ctrlOut := some ⟨3, .read 0 4, 3⟩ }, 47, ⟨3, .read 0 4, 3⟩, [0, 0, 0, 0], by decide +kernel⟩,
   ⟨portS { st := .up, ctrlOut := some ⟨3, .read 0 4, 1⟩ }, 47, ⟨3, .read 0 4, 1⟩, by decide +kernel⟩,
   ⟨portS { st := .up }, 47, by decide +kernel⟩,
   ⟨portS { st := .up }, 47, 0, 0, 0, echoDelay 0 0 0 (ridgeTime (portS { st := .up }).now256), by decide +kernel⟩,
   ⟨portS { st := .up }, 47, by decide +kernel⟩,
   ⟨portS { st := .up }, 47, ⟨[], false, false⟩, by decide +kernel⟩,
   ⟨{ rdy with head := [(47, { up := [(0, { st := .linked })] })] }, 47, 0, ⟨zeros 12, false, false⟩, by decide +kernel⟩,
   ⟨portS { st := .up }, 47, status0, by decide +kernel⟩,
   ⟨portS { st := .up, temp := some 0x034F, throttle := 1 }, 47, 0x034F, by decide +kernel⟩,
   ⟨portS { st := .up }, 47, by decide +kernel⟩,
   ⟨{ portS { st := .up, resyncs := [0, 1] } with time := { ticks := ticksPerSec } }, 47, by decide +kernel⟩⟩

theorem test_meets_GapWorkRuns :
    (∃ (s : State) (p : Nat), s.alive = true ∧ p < 48 ∧ (s.portN p).gapOpen = false ∧ (s.portN p).st = .up ∧
      s.gapAllowed = true ∧ s.portBusy p = false ∧ s.gapLong p = true ∧ s.health.fsRetired.getLsbD (p / 3) = false) ∧
    (∃ (s : State) (p : Nat), s.alive = true ∧ (s.portN p).gapOpen = true) ∧
    (∃ (s : State) (p : Nat) (x : Int), s.alive = true ∧ (s.portN p).temp = some x ∧ (s.portN p).gapOpen = true ∧
      (s.portN p).measuring = none ∧ s.supervises = true) ∧
    (∃ (s : State) (p : Nat), s.alive = true ∧ (s.portN p).st = .up ∧ (s.portN p).gapOpen = true ∧ s.controls = true ∧
      (s.portN p).measuring = none ∧ (s.portN p).ctrlOut = none ∧ (s.portN p).ctrlQ = [] ∧ s.staysOpen p = true ∧
      s.dueNozzles p ≠ []) ∧
    (∃ (s : State) (p : Nat) (o : CtrlOut) (d : List Byte) (ns : List Nat), s.alive = true ∧ s.twin.handing = false ∧
      (s.portN p).st.framed = true ∧ (s.portN p).ctrlOut = some o ∧ (s.portN p).measuring = none ∧
      (s.portN p).ctrlQ = [.measure ns]) ∧
    (∃ (s : State) (p : Nat) (st : Byte) (rs : List Reading) (ns : List Nat), s.alive = true ∧ s.twin.handing = false ∧
      (s.portN p).measuring = some ns ∧ (s.portN p).ctrlOut = none ∧ (s.portN p).ctrlQ = [] ∧ st ≠ 0) ∧
    (∃ (s : State) (p : Nat) (i : Nat) (r : Reading), s.alive = true ∧ s.twin.handing = false ∧
      (s.portN p).measuring = some [i]) ∧
    (∃ (s : State) (p : Nat) (ns : List Nat), s.alive = true ∧ s.twin.handing = false ∧ (s.portN p).measuring = some ns ∧
      (s.portN p).ctrlOut = none ∧ (s.portN p).ctrlQ = []) :=
  ⟨⟨{ portS { st := .up } with fire := { permit := true } }, 47, by decide +kernel⟩,
   ⟨portS { st := .up, gapOpen := true }, 47, by decide +kernel⟩,
   ⟨portS { st := .up, gapOpen := true, temp := some 0 }, 47, 0, by decide +kernel⟩,
   ⟨{ geoS with port := [(0, { st := .up, gapOpen := true })] }, 0, by decide +kernel⟩,
   ⟨portS { st := .up, ctrlOut := some ⟨3, .read 0 4, 3⟩, ctrlQ := [.measure [1]] }, 47, ⟨3, .read 0 4, 3⟩, [0, 0, 0, 0], [1],
     by decide +kernel⟩,
   ⟨portS { st := .up, measuring := some [1] }, 47, 1, [], [1], by decide +kernel⟩,
   ⟨portS { st := .up, measuring := some [1] }, 47, 1, ⟨5, 5⟩, by decide +kernel⟩,
   ⟨portS { st := .up, measuring := some [1] }, 47, [1], by decide +kernel⟩⟩

theorem test_meets_HeadLinesFire :
    (∃ (s : State) (h : Nat) (u : Nat) (tag : BitVec 32) (f : FireLine), h < 48 ∧ s.uportUsed u = true ∧
      ((s.headN h).upN u).st ≠ .detect ∧ ((s.headN h).upN u).epoch.toNat = tag.toNat / 2 ^ 28 ∧
      us2 ≤ ridgeDiff f.fireTime (s.headTime h) ∧ ridgeDiff f.fireTime (s.headTime h) ≤ 256000000000 ∧
      (s.headN h).recs.get none (tag.toNat % 2 ^ 28) = none) ∧
    (∃ (s : State) (h : Nat) (u : Nat) (tag : BitVec 32) (f : FireLine), h < 48 ∧ s.uportUsed u = true ∧
      ((s.headN h).upN u).st ≠ .detect ∧ ((s.headN h).upN u).epoch.toNat ≠ tag.toNat / 2 ^ 28) ∧
    (∃ (s : State) (h : Nat) (u : Nat) (tag : BitVec 32) (ft : BitVec 48) (rel : Byte) (r : HeadRec), h < 48 ∧
      s.uportUsed u = true ∧ ((s.headN h).upN u).st ≠ .detect ∧ ((s.headN h).upN u).epoch.toNat = tag.toNat / 2 ^ 28 ∧
      (s.headN h).recs.get none (tag.toNat % 2 ^ 28) = some r ∧ r.st = .pending ∧ r.release = rel.toNat % 16 ∧
      us2 ≤ ridgeDiff r.fire (s.headTime h) ∧ us2 ≤ ridgeDiff ft (s.headTime h)) ∧
    (∃ (s : State) (h : Nat) (u : Nat) (tag : BitVec 32) (rel : Byte), h < 48 ∧ s.uportUsed u = true ∧
      ((s.headN h).upN u).st ≠ .detect ∧ ((s.headN h).upN u).epoch.toNat = tag.toNat / 2 ^ 28 ∧
      (s.headN h).recs.get none (tag.toNat % 2 ^ 28) = none) ∧
    (∃ (s : State) (h : Nat) (key : BitVec 28) (r : HeadRec), h < 48 ∧ (s.headN h).recs.get none key.toNat = some r ∧
      r.st = .pending) ∧
    (∃ (s : State) (h : Nat) (key : BitVec 28) (r : HeadRec), h < 48 ∧ (s.headN h).recs.get none key.toNat = some r ∧
      r.st ≠ .pending) ∧
    (∃ (s : State) (h : Nat) (temp : BitVec 16), h < 48 ∧ (s.headN h).tCut.toInt ≤ temp.toInt) ∧
    (∃ (s : State) (h : Nat), h < 48 ∧ s.fire.permit = false) ∧
    (∃ (s : State) (h : Nat) (z : Nat), h < 48 ∧ (s.headN h).warmRate ≠ 0 ∧ (s.headN h).warmHeld = false ∧
      s.fire.permit = true ∧ (s.headN h).cut = false ∧ z < (s.headN h).nozzles ∧
      ((s.headN h).warmMask.get 0 (z / 32)).getLsbD (z % 32) = true ∧
      nearPulse (s.headTime h) ((s.headN h).lastEdge.get none z) = false ∧
      nearPulse (s.headTime h) ((s.headN h).lastMeas.get none z) = false ∧ (s.headN h).firesNear (s.headTime h) 0 z = false) ∧
    (∃ (s : State) (h : Nat) (u : Nat) (tag : BitVec 32) (f : FireLine) (ft : BitVec 48) (rel : Byte) (i : Instr),
      (s.uportUsed u = false ∨ ((s.headN h).upN u).st = .detect) ∧
      (i = .headFireLineRx h u tag f ∨ i = .headRetimeRx h u tag ft rel ∨ i = .headCeaseRx h u tag rel)) :=
  ⟨⟨headS {}, 47, 1, 0, fireLine0, by decide +kernel⟩,
   ⟨headS {}, 47, 1, 0x10000000, fireLine0, by decide +kernel⟩,
   ⟨headS { recs := [(0, some { st := .pending, release := 15, fire := 512000 })] }, 47, 1, 0, 512000, 15,
     { st := .pending, release := 15, fire := 512000 }, by decide +kernel⟩,
   ⟨headS {}, 47, 1, 0, 15, by decide +kernel⟩,
   ⟨{ rdy with head := [(47, { recs := [(0, some { st := .pending, release := 0 })] })] }, 47, 0,
     { st := .pending, release := 0 }, by decide +kernel⟩,
   ⟨{ rdy with head := [(47, { recs := [(0, some { st := .fired, release := 0 })] })] }, 47, 0, { st := .fired, release := 0 },
     by decide +kernel⟩,
   ⟨rdy, 47, 0x0460, by decide +kernel⟩,
   ⟨rdy, 47, by decide +kernel⟩,
   ⟨{ rdy with fire := { permit := true }, head := [(47, { warmRate := 1, warmCode := 1, nozzles := 1024, warmMask := [(31, 0x80000000)] })] },
     47, 1023, by decide +kernel⟩,
   ⟨rdy, 47, 1, 0, fireLine0, 0, 0, .headFireLineRx 47 1 0 fireLine0, by decide +kernel⟩⟩

theorem test_meets_HeadFramesAnswer :
    (∃ (s : State) (h : Nat) (u : Nat) (seq : BitVec 32) (addr : BitVec 32) (d : List Byte), h < 48 ∧ s.uportUsed u = true ∧
      ((s.headN h).upN u).st ≠ .detect ∧ seq ≠ ((s.headN h).upN u).lastSeq) ∧
    (∃ (s : State) (h : Nat) (u : Nat) (seq : BitVec 32) (addr : BitVec 32) (d : List Byte) (a : UpFrame), h < 48 ∧
      s.uportUsed u = true ∧ ((s.headN h).upN u).st ≠ .detect ∧ seq = ((s.headN h).upN u).lastSeq ∧
      ((s.headN h).upN u).lastAns = some a) ∧
    (∃ (s : State) (h : Nat) (u : Nat) (seq : BitVec 32) (addr : BitVec 32) (n : BitVec 16), h < 48 ∧ s.uportUsed u = true ∧
      ((s.headN h).upN u).st ≠ .detect ∧ seq ≠ ((s.headN h).upN u).lastSeq) ∧
    (∃ (s : State) (h : Nat) (u : Nat) (seq : BitVec 32) (ns : List (BitVec 16)) (ra : List (BitVec 20)) (rb : List (BitVec 20)),
      h < 48 ∧ s.uportUsed u = true ∧ ((s.headN h).upN u).st ≠ .detect ∧ seq ≠ ((s.headN h).upN u).lastSeq ∧
      s.fire.permit = true ∧ (s.headN h).cut = false ∧ (s.headN h).cannotMeasure (s.headTime h) ns = false) ∧
    (∃ (s : State) (h : Nat) (u : Nat) (seq : BitVec 32) (ns : List (BitVec 16)) (ra : List (BitVec 20)) (rb : List (BitVec 20)),
      h < 48 ∧ s.uportUsed u = true ∧ ((s.headN h).upN u).st ≠ .detect ∧ seq ≠ ((s.headN h).upN u).lastSeq ∧
      s.fire.permit = false) ∧
    (∃ (s : State) (h : Nat) (u : Nat) (arr : BitVec 48) (δ : Int), h < 48 ∧ s.uportUsed u = true ∧
      ((s.headN h).upN u).st ≠ .detect ∧ δ = ridgeDiff arr (s.headTime h)) ∧
    (∃ (s : State) (h : Nat) (u : Nat) (seq : BitVec 32) (t1 : BitVec 48), h < 48 ∧ s.uportUsed u = true ∧
      ((s.headN h).upN u).st ≠ .detect) ∧
    (∃ (s : State) (h : Nat) (u : Nat) (e : Byte), h < 48 ∧ s.uportUsed u = true ∧ ((s.headN h).upN u).st ≠ .detect) ∧
    (∃ (s : State) (h : Nat) (u : Nat) (sn : BitVec 64) (n : Nat), h < 48 ∧ s.uportUsed u = true ∧ (s.headN h).serial = sn ∧
      (s.headN h).nozzles = n ∧ s.answered h u = false) ∧
    (∃ (s : State) (h : Nat) (u : Nat) (sn : BitVec 64) (n : Nat), h < 48 ∧ s.uportUsed u = true ∧ (¬((s.headN h).serial = sn ∧
      (s.headN h).nozzles = n))) ∧
    (∃ (s : State) (h : Nat) (u : Nat) (sn : BitVec 64) (n : Nat), (s.headN h).serial = sn ∧ (s.headN h).nozzles = n ∧
      s.answered h u = true) ∧
    (∃ (s : State) (h : Nat) (u : Nat) (temp : BitVec 16) (eye : Nat), h < 48 ∧ s.uportUsed u = true ∧
      ((s.headN h).upN u).st ≠ .detect ∧ eye < 256) ∧
    (∃ (s : State) (h : Nat) (u : Nat), h < 48 ∧ s.uportUsed u = true ∧ ((s.headN h).upN u).st ≠ .detect) :=
  ⟨⟨headS {}, 47, 1, 0, 0, [], by decide +kernel⟩,
   ⟨{ tw {} with head := [(47, { up := [(1, { st := .linked, lastAns := some (.ctrlWrResp 0xFFFFFFFF 0) })] })] }, 47, 1,
     0xFFFFFFFF, 0, [], .ctrlWrResp 0xFFFFFFFF 0, by decide +kernel⟩,
   ⟨headS {}, 47, 1, 0, 0, 0, by decide +kernel⟩,
   ⟨{ headS {} with fire := { permit := true } }, 47, 1, 0, [], [], [], by decide +kernel⟩,
   ⟨headS {}, 47, 1, 0, [], [], [], by decide +kernel⟩,
   ⟨headS {}, 47, 1, 0, ridgeDiff 0 ((headS {}).headTime 47), by decide +kernel⟩,
   ⟨headS {}, 47, 1, 0, 0, by decide +kernel⟩,
   ⟨headS {}, 47, 1, 0, by decide +kernel⟩,
   ⟨tw {}, 47, 1, 0, 0, by decide +kernel⟩,
   ⟨tw {}, 47, 1, 1, 1024, by decide +kernel⟩,
   ⟨headS {}, 47, 1, 0, 0, by decide +kernel⟩,
   ⟨headS {}, 47, 1, 0, 255, by decide +kernel⟩,
   ⟨headS {}, 47, 1, by decide +kernel⟩⟩

theorem test_meets_CameraLinesMove :
    (∃ (s : State) (p : Nat), s.alive = true ∧ s.trigDue p = true ∧ (s.camN p).st ≠ .stopping ∧ (s.camN p).pend = none ∧
      s.trigWasLate p = false) ∧
    (∃ (s : State) (p : Nat), s.alive = true ∧ s.receives p = true ∧ (s.camN p).frame = none ∧
      (s.camN p).frames * 256 < (s.camN p).trigs) ∧
    (∃ (s : State) (p : Nat) (vc : Nat) (n : Nat), s.alive = true ∧ s.receives p = true) ∧
    (∃ (s : State) (p : Nat) (vc : Nat) (n : Nat) (i : Instr), s.alive = true ∧ s.receives p = true ∧ (i = .csiFsRx ⟨p,
      2⟩ ∨ i = .csiLsRx ⟨p, 2⟩ vc n ∨ i = .csiOtherPacketRx ⟨p, 2⟩ ∨ i = .csiFeRx ⟨p, 2⟩)) ∧
    (∃ (s : State) (p : Nat) (l : CsiLine) (f : Frame), s.alive = true ∧ s.receives p = true ∧ (s.camN p).frame = some f ∧
      l.ecc = 0 ∧ (s.camN p).link.vcShort = none ∧ l.vc = (s.camN p).link.vcLong ∧ (s.camN p).badNumber l.vc = false ∧
      l.samples.length = (s.camN p).link.pixels * (s.camN p).link.channels ∧ l.crcOk = true ∧ (s.camN p).fifo.length < 64 ∧
      s.dram.mapHotspot = false) ∧
    (∃ (s : State) (p : Nat) (l : CsiLine), s.alive = true ∧ s.receives p = true ∧ l.ecc = 0 ∧
      (s.camN p).link.vcs.contains l.vc = true ∧ (s.camN p).badNumber l.vc = true) ∧
    (∃ (s : State) (p : Nat) (l : CsiLine), s.alive = true ∧ s.receives p = true ∧ l.ecc = 2) ∧
    (∃ (s : State) (p : Nat), s.alive = true ∧ s.receives p = true) ∧
    (∃ (s : State) (p : Nat) (f : Frame), s.alive = true ∧ s.receives p = true ∧ (s.camN p).frame = some f) ∧
    (∃ (s : State) (p : Nat) (l : CamLine) (ls : List CamLine), s.alive = true ∧ s.vis.cur = none ∧ s.visGated = false ∧
      s.nextPort = some p ∧ (s.camN p).fifo = l :: ls) ∧
    (∃ (s : State) (p : Nat) (l : CamLine), s.alive = true ∧ s.vis.cur = some (p, l) ∧ s.visGated = false) :=
  ⟨⟨{ movS with cam := [(3, { camRun with startPos := 0 })] }, 3, by decide +kernel⟩,
   ⟨{ rdy with cam := [(3, { camRun with trigs := 1 })] }, 3, by decide +kernel⟩,
   ⟨camS camRun [], 3, 0, 256, by decide +kernel⟩,
   ⟨camS camRun [], 3, 0, 256, .csiFsRx ⟨3, 2⟩, by decide +kernel⟩,
   ⟨camS { camRun with link := { pixels := 256 }, curLine := [(0, 256)] } [], 3, { csi0 with samples := List.replicate 256 5 },
     frame0, by decide +kernel⟩,
   ⟨camS camRun [], 3, csi0, by decide +kernel⟩,
   ⟨camS camRun [], 3, { csi0 with ecc := 2 }, by decide +kernel⟩,
   ⟨camS camRun [], 3, by decide +kernel⟩,
   ⟨camS camRun [], 3, frame0, by decide +kernel⟩,
   ⟨camS camRun [camLine0], 3, camLine0, [], by decide +kernel⟩,
   ⟨{ camS camRun [] with vis := { cur := some (3, camLine0) } }, 3, camLine0, by decide +kernel⟩⟩

theorem test_meets_EncoderLoopAndStoreMove :
    (∃ (s : State) (j : EncJob) (js : List EncJob), s.alive = true ∧ s.slate.encBusy = none ∧ s.visGated = false ∧
      s.slate.encJobs = j :: js) ∧
    (∃ (s : State) (j : EncJob) (n : Nat), s.alive = true ∧ s.visGated = false ∧ s.slate.encBusy = some (j, n) ∧
      (s.jobOutput j).1.length ≤ n ∧ (s.esN j.es).closing = false) ∧
    (∃ (s : State) (p : Nat) (a : Int), s.alive = true ∧ p < 4 ∧ s.loop.openPos.get none p = some a ∧
      s.cal.data.loop.enable = true ∧ s.blockPassed p = true ∧ (∀ q, q < 4 → q ≠ p → s.blockPassed q = false)) ∧
    (∃ (s : State) (p : Nat), s.alive = true ∧ p < 4 ∧ (s.camN p).recal.collecting = true ∧ (s.camN p).recal.counts = [] ∧
      0 < (s.camN p).link.pixels ∧ 0 < (s.cal.data.loop.recal.get {} p).subMin) ∧
    (∃ (s : State) (p : Nat), s.alive = true ∧ p < 4 ∧ (s.camN p).runs = true ∧ (s.camN p).recal.started = true ∧
      (s.camN p).recal.collecting = false ∧ (s.cal.data.loop.recal.get {} p).periodS ≠ 0) ∧
    (∃ (s : State) (b : JBody) (bs : List JBody), s.alive = true ∧ s.nvm.writing = none ∧ s.nvm.waiting = b :: bs ∧
      fitsEnd s.nvm.nextOff b.size = true ∧ b.size ≤ s.nvm.freeBytes) ∧
    (∃ (s : State) (r : JRec) (l : LoopCfg), s.alive = true ∧ s.nvm.writing = some r ∧ s.nvm.writingRx = false ∧
      r.body = .settings l ∧ s.sharesStore = false) ∧
    (∃ (s : State) (r : JRec) (p : Nat) (d : Drive), s.alive = true ∧ s.nvm.writing = some r ∧ s.nvm.writingRx = false ∧
      r.body = .drive p d ∧ s.sharesStore = false) ∧
    (∃ (s : State) (q : BitVec 32), s.alive = true ∧ s.nvm.compacting = some q ∧ (∀ i ∈ s.host.inflight, i.wait ≠ .commit) ∧
      s.nvm.erasing = false ∧ s.nvm.dropPorts = []) :=
  ⟨⟨{ rdy with slate := { encJobs := [⟨7, 0, []⟩] } }, ⟨7, 0, []⟩, [], by decide +kernel⟩,
   ⟨{ rdy with slate := { encBusy := some (⟨7, 0, []⟩, 32), es := [(7, { isOpen := true })] } }, ⟨7, 0, []⟩, 32,
     by decide +kernel⟩,
   ⟨{ geoS with loop := { openPos := [(3, some 0)] }, cam := [(3, { camRun with lastDone := some (268435456, 0) })] }, 3, 0,
     by decide +kernel⟩,
   ⟨{ rdy with cam := [(3, { camRun with link := { pixels := 256 }, recal := { collecting := true, started := true } })] }, 3,
     by decide +kernel⟩,
   ⟨{ rdy with cam := [(3, { camRun with recal := { started := true } })], cal := { data := { loop := { recal := [(3, { periodS := 60 })] } } } },
     3, by decide +kernel⟩,
   ⟨{ rdy with nvm := { waiting := [.settings {}] } }, .settings {}, [], by decide +kernel⟩,
   ⟨{ rdy with nvm := { writing := some ⟨1, 0, 0, .settings {}, false⟩ } }, ⟨1, 0, 0, .settings {}, false⟩, {},
     by decide +kernel⟩,
   ⟨{ rdy with nvm := { writing := some ⟨1, 0, 0, .drive 47 {}, false⟩ } }, ⟨1, 0, 0, .drive 47 {}, false⟩, 47, {},
     by decide +kernel⟩,
   ⟨{ rdy with nvm := { compacting := some 1 } }, 1, by decide +kernel⟩⟩

theorem test_meets_TwinLinkKeepsThePair :
    (∃ (s : State) (flags : Byte) (epoch : Byte) (serial : BitVec 64), s.alive = true ∧ s.boot.twinEn = true ∧
      s.twin.link = .discover ∧ flags.getLsbD 0 ≠ s.boot.twinPrefer) ∧
    (∃ (s : State) (flags : Byte) (epoch : Byte) (serial : BitVec 64), s.alive = true ∧ s.boot.twinEn = true ∧
      s.twin.link = .discover ∧ s.twin.conflict = false ∧ flags.getLsbD 0 = s.boot.twinPrefer) ∧
    (∃ (s : State), s.alive = true ∧ s.twinOpen = true ∧
      (s.twin.link = .up ∨ s.twin.syncRun = true ∨ s.twin.beatSeen = false)) ∧
    (∃ (s : State) (b : Beat), s.alive = true ∧ s.boot.twinEn = true ∧ s.twin.link = .sync ∧ s.twin.partner = some b ∧
      s.twin.beatSeen = true ∧ s.twin.syncRun = false ∧ s.twin.role = .reserve ∧ s.twin.supervisor = false) ∧
    (∃ (s : State) (b : Beat), s.alive = true ∧ s.twin.link = .up ∧ s.boot.twinEn = true ∧ s.twin.role = .reserve ∧
      b.flags.getLsbD 2 = false ∧ b.flags.getLsbD 3 = false ∧ b.flags.getLsbD 5 = true ∧ s.twin.lost = false ∧
      s.twin.returning = false) ∧
    (∃ (s : State), s.alive = true ∧ s.boot.twinEn = true ∧ s.twin.formed = true ∧ s.twinOpen = true ∧ s.twin.beatIn = true) ∧
    (∃ (s : State), s.alive = true ∧ s.boot.twinEn = true ∧ s.twin.formed = true ∧ s.twinOpen = false ∧ s.twin.lost = false ∧
      s.twin.evidence = none) ∧
    (∃ (s : State) (k : Nat) (m : SMap (BitVec 16)), s.alive = true ∧ s.twin.evidence = some (k, m) ∧ s.twin.beatIn = false ∧
      (∀ p, p < 48 → s.dueSince k p = false)) ∧
    (∃ (s : State) (k : Nat), s.alive = true ∧ s.twin.disagreeSince = some k) ∧
    (∃ (s : State) (q : BitVec 32), s.alive = true ∧ s.twin.link = .up ∧ s.boot.twinEn = true ∧ s.twinOpen = true ∧
      s.twin.ackDue = some q ∧ s.twin.castling = none) ∧
    (∃ (s : State) (q : BitVec 32) (f : JournalFrame), s.alive = true ∧ s.twin.link = .up ∧ s.twinOpen = true ∧
      s.twin.unacked = [(q, .journal f)] ∧ s.twin.gainWait = []) ∧
    (∃ (s : State), s.alive = true ∧ s.twinOpen = true ∧ s.twin.unacked ≠ [] ∧ s.twin.resends < 8) ∧
    (∃ (s : State), s.alive = true ∧ s.twinOpen = true ∧ s.twin.unacked ≠ [] ∧ 8 ≤ s.twin.resends) :=
  ⟨⟨tw { link := .discover }, 1, 3, 0, by decide +kernel⟩,
   ⟨tw { link := .discover }, 0, 3, 0, by decide +kernel⟩,
   ⟨tw { link := .sync }, by decide +kernel⟩,
   ⟨tw { link := .sync, partner := some beat0, beatSeen := true }, beat0, by decide +kernel⟩,
   ⟨tw { link := .up }, { beat0 with flags := 0x20 }, by decide +kernel⟩,
   ⟨tw { link := .up, formed := true, beatIn := true }, by decide +kernel⟩,
   ⟨tw { formed := true }, by decide +kernel⟩,
   ⟨tw { evidence := some (1, []) }, 1, [], by decide +kernel⟩,
   ⟨tw { disagreeSince := some 0 }, 0, by decide +kernel⟩,
   ⟨tw { link := .up, ackDue := some 5 }, 5, by decide +kernel⟩,
   ⟨tw { link := .up, unacked := [(5, .journal jf0)] }, 5, jf0, by decide +kernel⟩,
   ⟨tw { link := .up, unacked := [(5, .journal jf0)], resends := 7 }, by decide +kernel⟩,
   ⟨tw { link := .up, unacked := [(5, .journal jf0)], resends := 8 }, by decide +kernel⟩⟩

theorem test_meets_TwinFramesTakeEffect :
    (∃ (s : State) (seq : BitVec 32) (f : MirrorFrame), s.alive = true ∧ s.twinOpen = true ∧ seq ≠ s.twin.rxExp) ∧
    (∃ (s : State) (f : MirrorFrame), s.alive = true ∧ s.twinOpen = true ∧ s.twin.role = .reserve ∧
      s.entry? f.storeEntry.toNat = none ∧ f.offset = 0 ∧ f.flags.getLsbD 0 = false) ∧
    (∃ (s : State) (f : AdmitFrame), s.alive = true ∧ s.twinOpen = true ∧ s.twin.role = .reserve ∧
      s.page? f.handle.toNat = none) ∧
    (∃ (s : State) (f : PageEventFrame) (p : Page), s.alive = true ∧ s.twinOpen = true ∧ s.twin.role = .reserve ∧ f.kind = 1 ∧
      s.page? f.handle.toNat = some p) ∧
    (∃ (s : State) (key : BitVec 32) (a : Byte) (b : Byte) (c : Byte) (d : Byte), s.alive = true ∧ s.twinOpen = true ∧
      s.twin.supervisor = false) ∧
    (∃ (s : State) (f : JournalFrame), s.alive = true ∧ s.twinOpen = true ∧ s.twin.supervisor = false ∧ f.frag = 0 ∧
      1 < f.frags.toNat) ∧
    (∃ (s : State) (f : AccumFrame) (e : AccEntry), s.alive = true ∧ s.twinOpen = true ∧ s.twin.supervisor = true ∧
      f.entries = [e] ∧ s.seenBy f.firstCol.toNat = none) ∧
    (∃ (s : State) (f : RoleFrame), s.alive = true ∧ s.twinOpen = true ∧ f.kind = 5 ∧ s.twin.role ≠ .lead) ∧
    (∃ (s : State) (f : RoleFrame), s.alive = true ∧ s.twinOpen = true ∧ f.kind = 1 ∧ s.twin.role = .reserve) :=
  ⟨⟨tw { link := .up }, 5, mf0, by decide +kernel⟩,
   ⟨tw { link := .up }, mf0, by decide +kernel⟩,
   ⟨tw { link := .up }, af0, by decide +kernel⟩,
   ⟨{ tw { link := .up } with bat := { pages := [page0] } }, ⟨1, 0, 0, 0, 0, []⟩, page0, by decide +kernel⟩,
   ⟨tw { link := .up }, 0, 5, 5, 5, 2, by decide +kernel⟩,
   ⟨tw { link := .up }, { jf0 with frags := 2 }, by decide +kernel⟩,
   ⟨tw { link := .up, supervisor := true }, ⟨196607, 0, [acc0]⟩, acc0, by decide +kernel⟩,
   ⟨tw { link := .up }, { rf0 with kind := 5 }, by decide +kernel⟩,
   ⟨tw { link := .up }, { rf0 with kind := 1 }, by decide +kernel⟩⟩

theorem test_meets_TwinTimersAct :
    (∃ (s : State) (i : Inflight) (h : Nat), s.alive = true ∧ s.host.inflight = [i] ∧ i.wait = .admission ∧
      s.twin.admits = [h]) ∧
    (∃ (s : State), s.alive = true ∧ s.twin.gainWait ≠ []) ∧
    (∃ (s : State) (h : Nat) (r : Report), s.alive = true ∧ s.bat.reports.get none h = some r ∧ r.awaitTwin = true ∧
      (s.isLead = true ∨ s.pairUp = false)) ∧
    (∃ (s : State) (h : Nat) (r : Report), s.alive = true ∧ s.bat.reports.get none h = some r ∧ r.awaitTwin = true ∧
      s.isLead = false ∧ s.pairUp = true) ∧
    (∃ (s : State), s.alive = true ∧ s.boot.twinEn = true ∧ s.twin.link = .up) ∧
    (∃ (s : State) (t1 : BitVec 48) (t2 : BitVec 48) (t3 : BitVec 48) (gm : Option AnnounceMsg), s.alive = true ∧
      s.boot.twinEn = true ∧ s.twin.link = .up) ∧
    (∃ (s : State) (t1 : BitVec 48) (t2 : BitVec 48) (t3 : BitVec 48) (d : Int) (gm : Option AnnounceMsg), s.alive = true ∧
      s.boot.twinEn = true ∧ s.twin.link = .up ∧ s.preferred = true ∧ d = echoDelay t1 t2 t3 (ridgeTime s.now256) ∧ d ≤ 512000 ∧
      (s.twin.dVals = [] ∨ (d - medianInt s.twin.dVals).natAbs ≤ 5120)) ∧
    (∃ (s : State) (t1 : BitVec 48) (t2 : BitVec 48) (t3 : BitVec 48) (d : Int) (gm : Option AnnounceMsg), s.alive = true ∧
      s.boot.twinEn = true ∧ s.twin.link = .up ∧ s.preferred = false ∧ d = echoDelay t1 t2 t3 (ridgeTime s.now256) ∧
      d ≤ 512000 ∧ (s.twin.dVals = [] ∨ (d - medianInt s.twin.dVals).natAbs ≤ 5120)) ∧
    (∃ (s : State) (t1 : BitVec 48) (t2 : BitVec 48) (t3 : BitVec 48) (gm : Option AnnounceMsg) (resp : Bool), s.alive = true ∧
      (s.boot.twinEn = false ∨ s.twin.link ≠ .up)) ∧
    (∃ (s : State) (m : List Byte), s.alive = true ∧ s.twinOpen = true) ∧
    (∃ (s : State) (e : Bool), s.alive = true ∧ s.twinOpen = true ∧ s.twin.width = 4 ∧ s.twin.eyeLow.get 0 0 = 15) ∧
    (∃ (s : State) (e : Bool), s.alive = true ∧ s.twinOpen = true ∧ s.twin.eyeLow = []) ∧
    (∃ (s : State) (n : Nat), s.alive = true ∧ s.boot.twinEn = true ∧ s.twin.link = .detect ∧ s.twin.width = 4 ∧ 0 < n) ∧
    (∃ (s : State), s.alive = true ∧ s.boot.twinEn = true ∧ (s.twin.link = .discover ∨ (s.twin.link = .train ∧
      s.twin.width = 4))) ∧
    (∃ (s : State), s.alive = true ∧ s.boot.twinEn = true ∧ s.twin.mode.mode = 1 ∧ s.twin.mode.castleHours ≠ 0 ∧
      s.twin.castleDue = false ∧ s.twin.role ≠ .lead) ∧
    (∃ (s : State), s.alive = true ∧ s.pairUp = true ∧ s.twin.supervisor = true ∧ s.preferred = false ∧ s.twin.lost = false ∧
      s.twin.handing = false) ∧
    (∃ (s : State), s.alive = true ∧ s.boot.twinEn = true ∧ s.twin.mode.mode = 2 ∧ s.twinOpen = true ∧
      (((List.range 48).map fun p => (p,
      (s.divCount p - s.twin.divSums.get 0 p).toNat)).map (·.2)).sum < s.twin.mode.divergeLimit) :=
  ⟨⟨{ tw { admits := [5] } with host := { live := true, busy := 0x80, doorbell := 0x80, inflight := [⟨hdr 24, 0x0501, .admission, [], false⟩] } },
    ⟨hdr 24, 0x0501, .admission, [], false⟩, 5, by decide +kernel⟩,
   ⟨tw { gainWait := [(1, 1)] }, by decide +kernel⟩,
   ⟨{ rdy with bat := { reports := [(255, some { awaitTwin := true })] } }, 255, { awaitTwin := true }, by decide +kernel⟩,
   ⟨{ tw { link := .up } with bat := { reports := [(255, some { awaitTwin := true })] } }, 255, { awaitTwin := true },
     by decide +kernel⟩,
   ⟨tw { link := .up }, by decide +kernel⟩,
   ⟨tw { link := .up }, 0, 0, 0, none, by decide +kernel⟩,
   ⟨{ tw { link := .up } with boot := { rdy.boot with twinEn := true, twinPrefer := true } }, 0, 0, 0,
     echoDelay 0 0 0 (ridgeTime rdy.now256), none, by decide +kernel⟩,
   ⟨tw { link := .up }, 0, 0, 0, echoDelay 0 0 0 (ridgeTime rdy.now256), none, by decide +kernel⟩,
   ⟨rdy, 0, 0, 0, none, true, by decide +kernel⟩,
   ⟨tw { link := .up }, List.replicate 2000 0, by decide +kernel⟩,
   ⟨tw { link := .up, width := 4, eyeLow := [(0, 15)] }, false, by decide +kernel⟩,
   ⟨tw { link := .up, width := 4 }, false, by decide +kernel⟩,
   ⟨tw { link := .detect, width := 4 }, 1, by decide +kernel⟩,
   ⟨tw { link := .discover }, by decide +kernel⟩,
   ⟨tw { mode := { mode := 1 } }, by decide +kernel⟩,
   ⟨tw { link := .up, supervisor := true }, by decide +kernel⟩,
   ⟨tw { link := .up, mode := { mode := 2 } }, by decide +kernel⟩⟩

theorem test_meets_NetworkEventsAct :
    (∃ (s : State) (p : Nat) (d : Byte) (o : Int) (i : Int) (c : Int), s.alive = true ∧ s.ptpTakes p d = false) ∧
    (∃ (s : State) (p : Nat) (d : Byte) (o : Int) (i : Int) (c : Int), s.alive = true ∧ s.ptpTakes p d = true ∧
      (s.ethN p).st = .slave ∧ s.time.st = .locked ∧ s.time.stepEn = false) ∧
    (∃ (s : State) (p : Nat) (m : AnnounceMsg), s.alive = true ∧ s.ptpTakes p m.domain = true ∧ (s.ethN p).best = none) ∧
    (∃ (s : State) (p : Nat) (d : Byte) (r : DelayResp) (tx : Int) (x : Int), s.alive = true ∧ s.ptpTakes p d = true ∧
      r.peer = (s.ethN p).flags.getLsbD 2 ∧ (s.ethN p).reqNs = some tx ∧ (s.ethN p).syncDiff = some x) ∧
    (∃ (s : State) (p : Nat) (d : Byte) (r : DelayReq), s.alive = true ∧ s.ptpTakes p d = true ∧ r.peer = false ∧
      (s.ethN p).flags.getLsbD 2 = false ∧ (s.ethN p).st = .master) ∧
    (∃ (s : State) (p : Nat) (d : Byte) (r : DelayReq), s.alive = true ∧ s.ptpTakes p d = true ∧
      r.peer ≠ (s.ethN p).flags.getLsbD 2) ∧
    (∃ (s : State) (p : Nat) (k : PtpKind), s.alive = true ∧ s.ptpSends p k = true) ∧
    (∃ (s : State) (p : Nat), s.alive = true ∧ s.ptpOn p = true) ∧
    (∃ (s : State), s.alive = true ∧ s.time.st = .holdover ∧ (s.time.holdLimitNs : Rat) < s.time.estErr) ∧
    (∃ (s : State), s.alive = true ∧ s.time.estErr ≤ (s.time.holdLimitNs : Rat)) ∧
    (∃ (s : State) (p : Nat) (ip : BitVec 32), s.alive = true ∧ p ≤ 1) ∧
    (∃ (s : State) (p : Nat), s.alive = true ∧ p ≤ 1) ∧
    (∃ (s : State) (p : Nat) (m : List Byte), s.alive = true ∧ p ≤ 1 ∧ s.pressGood m = true ∧
      (s.time.pressSeen.get [] (fieldAt m 6 1)).contains (BitVec.ofNat 32 (fieldAt m 8 4)) = false) ∧
    (∃ (s : State) (p : Nat) (m : PressDatagram), s.alive = true ∧ p ≤ 1 ∧ (m.group ≠ s.time.pressGroup ∨ m.udpPort ≠ 47360)) ∧
    (∃ (s : State), s.alive = true ∧ s.ptpOwns = true) :=
  ⟨⟨rdy, 1, 5, 0, 0, 0, by decide +kernel⟩,
   ⟨{ rdy with time := { role := 2, domain := 127, st := .locked, stepEn := false, port := [(1, { flags := 1, st := .slave })] } },
     1, 127, 0, 0, 0, by decide +kernel⟩,
   ⟨{ rdy with time := { role := 2, port := [(1, { flags := 1, st := .listening })] } }, 1, ann0, by decide +kernel⟩,
   ⟨{ rdy with time := { role := 2, port := [(1, { flags := 1, st := .slave, reqNs := some 0, syncDiff := some 0 })] } }, 1, 0,
     ⟨false, 0, 0, 0, 0⟩, 0, 0, by decide +kernel⟩,
   ⟨{ rdy with time := { role := 2, port := [(1, { flags := 1, st := .master })] } }, 1, 0, ⟨false, 0, 0⟩, by decide +kernel⟩,
   ⟨{ rdy with time := { role := 2, port := [(1, { flags := 1, st := .master })] } }, 1, 0, ⟨true, 0, 0⟩, by decide +kernel⟩,
   ⟨{ rdy with time := { role := 2, port := [(1, { flags := 1, st := .master })] } }, 1, .sync, by decide +kernel⟩,
   ⟨{ rdy with time := { role := 2, port := [(1, { flags := 1, st := .listening })] } }, 1, by decide +kernel⟩,
   ⟨{ rdy with time := { st := .holdover, holdLimitNs := 1, e0 := 2 } }, by decide +kernel⟩,
   ⟨rdy, by decide +kernel⟩,
   ⟨rdy, 1, 0, by decide +kernel⟩,
   ⟨rdy, 1, by decide +kernel⟩,
   ⟨{ rdy with time := { rxMask := 2 } }, 1, pressMsg, by decide +kernel⟩,
   ⟨rdy, 1, ⟨0, 47361, []⟩, by decide +kernel⟩,
   ⟨{ rdy with time := { st := .steered, utcValid := true } }, by decide +kernel⟩⟩

theorem test_meets_StepRunsTheFront :
    (∃ (s : State), s.pending = []) :=
  ⟨rdy, by decide +kernel⟩

theorem test_meets_FusesOnlyBlow :
    (∃ (s : State) (t : State), Safety.FusesGood s) :=
  ⟨rdy, rdy, (by unfold Safety.FusesGood; decide +kernel)⟩

theorem test_meets_BusySlotIgnoresDoorbell :
    (∃ (c : Instr) (h : MbHdr) (op : Nat) (s : State), mailOf c = some (h, op) ∧ s.alive = true ∧ s.host.live = true ∧
      (s.host.busy ||| s.host.done) &&& slotBit h.slot ≠ 0) ∧
    (∃ (s : State) (bits : Byte), s.alive = true ∧ s.host.live = true ∧ bits ≠ 0 ∧
      (s.host.busy ||| s.host.done) &&& bits = bits) :=
  ⟨⟨.sysGetInfo (hdr 0), hdr 0, 0x0101, { rdy with host := { live := true, busy := 0x80 } }, by decide +kernel⟩,
   ⟨{ rdy with host := { live := true, done := 0x80 } }, 0x80, by decide +kernel⟩⟩

theorem test_meets_DoorbellsOutsideReady :
    (∃ (c : Instr) (h : MbHdr) (op : Nat) (s : State), mailOf c = some (h, op) ∧ Safety.rings s h = true ∧ s.isReady = false ∧
      op ≠ 0x0101 ∧ (s.boot.stage = .recovery → op ≠ 0x010A ∧ op ≠ 0x010B)) ∧
    (∃ (c : Instr) (h : MbHdr) (op : Nat) (s : State), mailOf c = some (h, op) ∧ s.alive = true ∧ s.host.live = true ∧
      (s.host.busy ||| s.host.done ||| s.host.doorbell) &&& slotBit h.slot = 0 ∧ s.coresRun = false) ∧
    (∃ (c : Instr) (h : MbHdr) (op : Nat) (s : State), mailOf c = some (h, op) ∧ (s.alive && s.host.live) = false) :=
  ⟨⟨.slateStoreInfo (hdr 0), hdr 0, 0x0606, { rdy with boot := { rdy.boot with stage := .recovery } }, by decide +kernel⟩,
   ⟨.sysGetInfo (hdr 0), hdr 0, 0x0101, { rdy with boot := { rdy.boot with stage := .restarting } }, by decide +kernel⟩,
   ⟨.sysGetInfo (hdr 0), hdr 0, 0x0101, { rdy with pwr := { st := .off } }, by decide +kernel⟩⟩

theorem test_meets_DecreasingTableIsRejected :
    (∃ (s : State) (h : MbHdr) (port : Byte) (e : List (BitVec 16)) (l : List Nat), Safety.served s h 260 = true ∧
      s.notSupervisor = false ∧ s.badPort port = false ∧ s.cal.charStaged.get none port.toNat = some l ∧ (∃ i j, i < j ∧
      j < (l ++ e.map (·.toNat)).length ∧ (l ++ e.map (·.toNat)).getD j 0 < (l ++ e.map (·.toNat)).getD i 0)) :=
  ⟨{ geoS with cal := { charStaged := [(0, some [1])] } }, hdr 260, 0, [0], [1], by decide +kernel, by decide +kernel,
    by decide +kernel, by decide +kernel, ⟨0, 1, by decide +kernel⟩⟩

theorem test_meets_ReserveServesReportsOnly :
    (∃ (s : State) (h : MbHdr) (p : PageAdmitReq) (g : Geo) (w : Web), Safety.served s h 24 = true ∧ s.boot.twinEn = true ∧
      s.twin.role = .reserve ∧ s.admitFrozen = false ∧ s.geo.committed = some g ∧ g.web = some w ∧ p.flags.toNat ≤ 1 ∧
      p.rsv = 0 ∧ p.lines ≠ 0 ∧ s.batGated = false ∧ s.stepAccepted 1 = false ∧ pageParamBad p = none) ∧
    (∃ (s : State) (h : MbHdr) (handle : Byte) (flags : Byte), Safety.served s h 4 = true ∧ s.boot.twinEn = true ∧
      s.twin.role = .reserve ∧ flags.toNat ≤ 1) ∧
    (∃ (s : State) (h : MbHdr) (handle : Byte), Safety.served s h 4 = true ∧ s.boot.twinEn = true ∧ s.twin.role = .reserve) ∧
    (∃ (s : State) (h : MbHdr), Safety.served s h 0 = true ∧ s.boot.twinEn = true ∧ s.twin.role = .reserve) :=
  ⟨⟨{ tw { link := .up } with geo := { committed := some geo0 } }, hdr 24, admitReq, geo0, web0, by decide +kernel⟩,
   ⟨tw {}, hdr 4, 0, 1, by decide +kernel⟩,
   ⟨tw {}, hdr 4, 255, by decide +kernel⟩,
   ⟨tw {}, hdr 0, by decide +kernel⟩⟩

theorem test_meets_GatedQueueAdmitsNothing :
    (∃ (s : State) (h : MbHdr) (p : PageAdmitReq), Safety.served s h 24 = true ∧ p.flags.toNat ≤ 1 ∧ p.rsv = 0 ∧
      (2 ≤ s.pwr.level ∨ s.pwr.st = .hold)) ∧
    (∃ (s : State), s.pwr.st = .run ∧ s.pwr.level = 2) :=
  ⟨⟨{ rdy with pwr := { level := 2 } }, hdr 24, admitReq, by decide +kernel⟩,
   ⟨{ rdy with pwr := { level := 2 } }, by decide +kernel⟩⟩

/-- The header of an image (spec/12 Table 12-11): key slot 0, SVN 0, a body of 4,096 bytes,
  a board record of 16 Gb devices on two
ranks at 6,400 MT/s, zeros wherever a digest, a key or a signature stands. -/
def imgByte (i : Nat) : Byte :=
  ([0x4D, 0x47, 0x4E, 0x49, 1, 0, 0, 0] ++ zeros 9 ++ [0x10] ++ zeros 6 ++ [16, 2, 0x00, 0x19, 32, 4, 8]).getD i 0
/-- That image in flash slot A, which is being updated, and in the recovery image; its key in the fuses. -/
def imgS (stage : Stage) : State :=
  { rdy with
    boot := { rdy.boot with
      stage := stage, updSlot := some 0, flash := (List.range' 0x1000 1024).map fun k => (k, imgByte (k - 0x1000)),
      recImage := ((List.range 32).map fun k => (k, imgByte k)).filter fun p => p.2 != 0 },
    fuse := { keyHash := [(0, List.replicate 48 0)] } }

theorem get_block {α : Type} (d : α) (f : Nat → α) (b n a : Nat) :
    SMap.get d ((List.range' b n).map fun k => (k, f k)) a = if b ≤ a ∧ a < b + n then f a else d := by
  induction n generalizing b with
  | zero => simp
  | succ n ih =>
    simp only [List.range'_succ, List.map_cons, SMap.get, ih]
    grind

theorem imgS_flash (st : Stage) :
    (imgS st).flashByte = fun a => if 0x1000 ≤ a ∧ a < 0x1400 then imgByte (a - 0x1000) else 0xFF := by
  funext a; exact get_block _ _ _ _ _

theorem imgS_slot (st : Stage) : (imgS st).slotByte 0 = fun i => if i < 1024 then imgByte i else 0xFF := by
  funext i
  have h : slotBase 0 + 0x1000 + i - 0x1000 = i := by rw [show slotBase 0 = 0 from rfl]; omega
  rw [State.slotByte, imgS_flash]
  simp only [h]
  exact if_congr (by rw [show slotBase 0 = 0 from rfl]; omega) rfl rfl

/-- The clauses that rest on signatures, for a hash and a verification for which every digest is 48 zero bytes and every
signature holds: the two functions are opaque (log 8), so that no state can be shown to meet them without such a premise. -/
theorem test_meets_signed_images (hh : Config.sha384 = fun _ => List.replicate 48 0)
    (hs : Config.ecdsaP384 = fun _ _ _ _ => true) :
    (∃ (s : State) (h : MbHdr) (k : Nat), Safety.served s h 0 = true ∧ s.boot.updSlot = some k ∧
      s.imageCode (s.slotByte k) = 0) ∧
    (∃ (s : State) (h : MbHdr) (scope : Byte) (pub r g : List Byte),
      Safety.served s h 200 = true ∧ (scope = 1 ∨ scope = 2) ∧ s.fuse.debugFused = false ∧ s.unlockOk scope pub r g = true) ∧
    (∃ (s : State) (h : MbHdr), Safety.rings s h = true ∧ Safety.header h 0 = true ∧ s.boot.stage = .recovery ∧
      s.imageCode s.recByte = 0) ∧
    (∃ (s : State) (eA eB : Bool) (k : Nat), s.alive = true ∧ s.boot.stage = .rom ∧ s.slotOrder.head? = some k ∧
      (if k = 0 then eA else eB) = false ∧ s.imageCode (s.slotByte k) = 0) := by
  refine ⟨⟨imgS .ready, hdr 0, 0, by decide +kernel, by decide +kernel, ?_⟩,
    ⟨{ rdy with boot := { rdy.boot with nonce := some [] }, fuse := { debugHash := List.replicate 48 0 } }, hdr 200, 2, [], [],
      [],
      by decide +kernel, by decide +kernel, by decide +kernel, ?_⟩,
    ⟨imgS .recovery, hdr 0, by decide +kernel, by decide +kernel, by decide +kernel, ?_⟩,
    ⟨imgS .rom, false, true, 0, by decide +kernel, by decide +kernel, ?_, by decide +kernel, ?_⟩⟩
  · rw [imgS_slot]; simp only [State.imageCode, hh, hs]; decide +kernel
  · simp only [State.unlockOk, hh, hs]; decide +kernel
  · simp only [State.imageCode, hh, hs]; decide +kernel
  · simp only [State.slotOrder, State.slotSeq, imgS_flash]; decide +kernel
  · rw [imgS_slot]; simp only [State.imageCode, hh, hs]; decide +kernel

/-! ## WellFormed refuses -/

/-- One ill-formed term for each check on what a payload or an event brings. -/
theorem test_wf_refuses_payloads : List.all (α := Instr) ([
    .sysUpdateData (hdr 16) 0 16 0 [], .sysDebugUnlock (hdr 200) 1 0 (zeros 96) 0 (zeros 48) (zeros 48),
    .sysDebugUnlock (hdr 200) 1 0 (zeros 97) 0 (zeros 47) (zeros 48),
    .sysDebugUnlock (hdr 200) 1 0 (zeros 97) 0 (zeros 48) (zeros 49), .sysRecoveryLoad (hdr 16) 0 16 0 [],
    .headSetChar (hdr 260) 0 0 0 (List.replicate 127 0), .fireSetIlk (hdr 20) 0 0 0 (List.replicate 7 1),
    .camSetExposure (hdr 24) ⟨0, 0, 0, 1000, 0, 1, List.replicate 5 0⟩,
    .visSetMatrix (hdr 28) 0 0 (List.replicate 8 0) (List.replicate 3 0),
    .visSetMatrix (hdr 28) 0 0 (List.replicate 9 0) (List.replicate 4 0),
    .encSetInput (hdr 32) ⟨0, 0, 0, 0, 100, zeros 23⟩, .dramSetMap (hdr 56) 0 0 0 (List.replicate 5 0),
    .dramSetQos (hdr 12) (zeros 8) 0 16 0 0, .bar2Write (2 ^ 34) [0], .bar2Write 0 [], .bar2Read (2 ^ 34) 1, .bar2Read 0 0,
    .dramTrainDone { train0 true true with junction := -32769 },
    .dramTrainDone { train0 true true with junction := 32768 }, .measureResultRx 0 0 (List.replicate 257 ⟨5, 5⟩),
    .trainSweepDone 0 (List.replicate 15 64), .trainSweepDone 0 (List.replicate 16 256), .eyeSample 0 256 0 0,
    .eyeSample 0 0 256 0, .eyeSample 0 0 0 256, .rlCtrlRespRx 0 0 0 (zeros 1025),
    .headFireLineRx 0 0 0 { fireLine0 with count := 1 }, .headCtrlWrRx 0 0 0 0 (zeros 1025),
    .headMeasureFrame 0 0 0 (List.replicate 257 0) (List.replicate 257 0) (List.replicate 257 0),
    .headMeasureFrame 0 0 0 [0] [] [0]])
    (fun i => !i.wf) = true := by decide +kernel

/-- The rest of those checks. -/
theorem test_wf_refuses_frames : List.all (α := Instr) ([
    .headMeasureFrame 0 0 0 [0] [0] [], .dmaIngressTransfer 0 [], .dmaEgressTransfer 0 0,
    .csiLineRx 0 { csi0 with vc := 16 }, .csiLineRx 0 { csi0 with ecc := 3 },
    .csiLineRx 0 { csi0 with samples := [16384] }, .mirrorDataRx 0 mf0, .mirrorDataRx 0 { mf0 with data := zeros 2049 },
    .pageEventRx 0 ⟨3, 0, 0, 0, 0, []⟩, .configRx 0 0 0 (zeros 2033), .journalRx 0 jf0,
    .journalRx 0 { jf0 with data := zeros 2049 }, .accumRx 0 ⟨0, 0, []⟩, .accumRx 0 ⟨0, 0, List.replicate 129 acc0⟩,
    .accumRx 0 ⟨0, 0, [{ acc0 with n := 2 ^ 14 }]⟩, .accumRx 0 ⟨0, 0, [{ acc0 with sx := 2 ^ 21 }]⟩,
    .accumRx 0 ⟨0, 0, [{ acc0 with sy := 2 ^ 25 }]⟩, .accumRx 0 ⟨0, 0, [{ acc0 with sxx := 2 ^ 29 }]⟩,
    .accumRx 0 ⟨0, 0, [{ acc0 with sxy := 2 ^ 33 }]⟩, .reportRx (zeros 63), .twinEyeSample ⟨[0, 0, 0], false⟩,
    .twinEyeSample ⟨[0, 0, 0, 256], false⟩, .ilkInputActive ⟨8, 1⟩, .ilkInputInactive ⟨8, 1⟩, .encoderEdge 0 ⟨.a true, 0⟩,
    .rlBadFrame 0 ⟨some 2, ⟨[], false, false⟩⟩, .rlBadFrame 0 ⟨none, ⟨zeros 2077, false, false⟩⟩,
    .headHelloSend 0 ⟨2, 1, 1024⟩, .headHelloSend 0 ⟨0, 1, 8193⟩, .headStatusSend 0 ⟨2, 0, 0⟩,
    .headStatusSend 0 ⟨0, 0, 256⟩, .csiFsRx ⟨4, 0⟩, .csiFsRx ⟨0, 3⟩, .csiLsRx ⟨4, 0⟩ 0 0, .csiLsRx ⟨0, 3⟩ 0 0,
    .csiOtherPacketRx ⟨4, 0⟩, .csiOtherPacketRx ⟨0, 3⟩, .csiFeRx ⟨4, 0⟩, .csiFeRx ⟨0, 3⟩, .hotspotWindowEnd [(64, 1)],
    .dramUe 0 0 (.slate 16), .dramUe 0 0 (.ring 256 0 0 []), .dramUe 0 0 (.ring 0 1048576 0 []),
    .dramUe 0 0 (.ring 0 0 48 []), .dramUe 0 0 (.ring 0 0 0 [65536]), .dramUe 0 0 (.camera 4), .dramUe 0 0 (.egress 32),
    .tjCheck (List.replicate 7 0)])
    (fun i => !i.wf) = true := by decide +kernel

/-- One ill-formed term for each check on an instance number: the first number out of range. -/
theorem test_wf_refuses_numbers_1 : List.all (α := Instr) ([
    .revive 48 false, .resync 48, .drop 48, .run 32 false, .stop 32, .clear 32, .dmaProdWrite 32 (.whole 0),
    .dmaConsWrite 32 (.whole 0), .dmaCountAdd 32 0, .registerWrite 65536 false 0, .encoderEdge 4 ⟨.a true, 1⟩,
    .encStandstill 4, .ssiFrameStart 4 false, .ssiFrameDone 4 0 false 0, .ssiFrameDone 0 (2 ^ 41) false 0, .ssiTimeout 4,
    .lineRelease 256 0, .lineRelease 0 1048576, .decodeJobStart 16, .decodeJobDone 16, .frameBuild 48 0 0,
    .frameBuild 0 256 0, .frameBuild 0 0 1048576, .ridgeFrameTx 48, .lineLate 256 0, .lineLate 0 1048576,
    .placementCheck 48 0 0, .placementCheck 0 256 0, .placementCheck 0 0 1048576, .pageDone 256, .handleFree 256,
    .rlStatusRx 48 status0, .throttleDecay 48, .upstreamSilent 48, .gapWindowOpen 48 false, .gapWindowClose 48,
    .warmEvaluate 48, .measureSliceSend 48, .measureResultRx 48 0 [], .measureTimeout 48, .detectBurst 48, .linkAligned 48,
    .trainSweepDone 48 (List.replicate 16 64), .eyeSample 48 0 0 0])
    (fun i => !i.wf) = true := by decide +kernel

/-- One ill-formed term for each check on an instance number: the first number out of range. -/
theorem test_wf_refuses_numbers_2 : List.all (α := Instr) ([
    .trainTimeout 48, .signalLoss 48, .commaLoss 48, .skipSend 48, .electricalIdleEntry 48,
    .rlHelloRx 48 ⟨1, 0, 1024, 5, 0⟩, .rlCtrlRespRx 48 0 0 [], .ctrlTimeout 48, .echoSend 48, .echoRespRx 48 0 0 0,
    .timeSend 48, .rlBadFrame 48 ⟨none, ⟨[], false, false⟩⟩, .headFireLineRx 48 0 0 fireLine0,
    .headFireLineRx 0 2 0 fireLine0, .headRetimeRx 48 0 0 0 0, .headRetimeRx 0 2 0 0 0, .headCeaseRx 48 0 0 0,
    .headCeaseRx 0 2 0 0, .headCtrlWrRx 48 0 0 0 [], .headCtrlWrRx 0 2 0 0 [], .headCtrlRdRx 48 0 0 0 0,
    .headCtrlRdRx 0 2 0 0 0, .headMeasureFrame 48 0 0 [] [] [], .headMeasureFrame 0 2 0 [] [] [], .headTimeRx 48 0 0,
    .headTimeRx 0 2 0, .headEchoRx 48 0 0 0, .headEchoRx 0 2 0 0, .headHelloRx 48 0 0, .headHelloRx 0 2 0,
    .headHelloSend 48 ⟨0, 1, 1024⟩, .headStatusSend 48 ⟨0, 0, 0⟩, .headFireLine 48 0, .headRecordExpiry 48 0,
    .headTCut 48 0, .headFireEnableLow 48, .dmaIngressTransfer 32 [0], .dmaEgressTransfer 32 1, .dmaReadbackDone 32,
    .dmaBusError 32, .dmaRetry 32, .camTrigger 4, .trigPulseEnd 8, .csiLsRx ⟨0, 0⟩ 16 0])
    (fun i => !i.wf) = true := by decide +kernel

/-- One ill-formed term for each check on an instance number: the first number out of range. -/
theorem test_wf_refuses_numbers_3 : List.all (α := Instr) ([
    .csiLsRx ⟨0, 0⟩ 0 65536, .csiLineRx 4 csi0, .recalTimeout 4, .recalPeriodRestart 4, .pageReportTimeout 256,
    .ptpSyncRx 2 0 0 0 0, .ptpAnnounceRx 2 ann0, .ptpDelayRespRx 2 0 ⟨false, 0, 0, 0, 0⟩, .ptpDelayReqRx 2 0 ⟨false, 0, 0⟩,
    .ptpMessageSend 2 .sync, .announceTimeout 2, .arpRequestRx 2 0, .ethOtherRx 2, .pressMessageRx 2 ⟨0, 0, []⟩,
    .axisStep 8, .dqsDriftCheck 4 0, .dramUe 2 0 (.slate 0), .droopTrip 16, .droopClear 16, .decoderSelftest 16 false,
    .veSelftest 4 false, .sramEccError 48 0 .corrected, .sramEccError 0 65536 .corrected, .telemetryTimeout 48,
    .lineFired 48 0 0, .lineFired 0 256 0, .lineFired 0 0 1048576, .dramCorrectedError 2 0, .warmingPulse 48 0,
    .warmingPulse 0 65536, .headElectricalIdleEntry 48 0, .headElectricalIdleEntry 0 2])
    (fun i => !i.wf) = true := by decide +kernel

/-! ## Single steps and functions against the spec's worked examples -/

/-- The state that a command leaves. -/
def after (o : Host.Outcome State Fault Refusal) : State := match o with | .next t => t | _ => rdy

/-- spec/00 Clock increment: one tick adds ns 2 and fraction 0x80_0000. -/
theorem test_tick_adds_the_increment :
    (after (step rdy)).time.clock = { sec := 0, ns := 2, frac := 0x800000 } := by decide +kernel
/-- The command at the front runs, the rest stays queued. -/
theorem test_step_takes_the_front :
    (after (step { rdy with pending := [.fireDisarm (hdr 0), .perstRise] })).pending = [.perstRise] := by decide +kernel
/-- The table gives no row bits (spec/opcode_table.json). -/
theorem test_no_word_spells_a_command : decodeTableWord 16 0x0501 = none := by decide +kernel

/-- spec/12 "Example: admitting the page of the 4 m/s example": the 40 bytes of the request spell this PAGE_ADMIT. -/
theorem test_admit_request_bytes :
    reqOf 0x0501 ⟨3, 0x17, 0x02, 40, 0⟩ ([0x2A, 0x00, 0x05, 0x00, 0x69, 0x8A, 0x00, 0x00, 0x00, 0x00, 0x40, 0x42, 0x0F, 0x00,
      0x00,
      0x00, 0xC0, 0x12] ++ zeros 2014) =
      some (.pageAdmit ⟨3, 0x17, 0x02, 40, 0⟩ ⟨0x2A, 0, 5, 35433, BitVec.ofNat 64 (1000000 * 65536), 4800,
        0⟩) := by decide +kernel
/-- The same request in the request area of slot 3 at BAR0 0xB000: opcode, TAG, GEN and REQ_BYTES. -/
theorem test_request_header_place :
    State.reqHdr { rdy with host := { reqArea := [(0x3000, 0x01), (0x3001, 0x05), (0x3002, 0x17), (0x3003, 0x02), (0x3004, 0x28)] } } 3 =
      (⟨3, 0x17, 0x02, 40, 0⟩, 0x0501) := by decide +kernel

/-- spec/05 "Worked example: one KEY block", line 0: BLANK is byte 0x03. -/
theorem test_slate_blank_line : encodeLine 1024 2 2 (ctxReset 2) (histZero 1024) (List.replicate 1024 0) =
    ([0x03], ctxReset 2) := by decide +kernel
/-- spec/05 the same example, line 1: six bytes decode to 0, 2, 0, 0, 3, 1, 0, 0 and zeros. -/
theorem test_slate_line_1 :
    (match decodeLine 1024 2 (ctxReset 2) (histZero 1024) [0xB8, 0x62, 0xE5, 0x13, 0x40, 0xFC] with
      | .ok (xs, cs, n) => (xs.take 9, xs.length, cs.head?, n)
      | .error _ => ([], 0, none, 0)) = ([0, 2, 0, 0, 3, 1, 0, 0, 0], 1024, some ⟨12, 9, 1⟩, 6) := by decide +kernel

/-- spec/03 "Example: one dead nozzle at two speeds", default rules: line 1,000 lifts both sides by 1. -/
theorem test_comp_medium : compensate [0x01, 0x05, 0x0E, 2] 1000 [3] (fun _ => true) [0, 0, 1, 2, 2, 0, 0] 3 2 =
    ([0, 0, 2, 2, 3, 0, 0], 2) := by decide +kernel
/-- The same example, line 1,002: both neighbours are saturated, nothing is added. -/
theorem test_comp_saturated : compensate [0x01, 0x05, 0x0E, 2] 1002 [3] (fun _ => true) [0, 0, 3, 3, 3, 0, 0] 3 3 =
    ([0, 0, 3, 3, 3, 0, 0], 0) := by decide +kernel
/-- The same example, line 1,004: one side, the left; the empty neighbour is passed over and the next is raised. -/
theorem test_comp_small : compensate [0x01, 0x05, 0x0E, 2] 1004 [3] (fun _ => true) [0, 1, 0, 1, 2, 0, 0] 3 1 =
    ([0, 2, 0, 1, 2, 0, 0], 1) := by decide +kernel

/-- spec/07 "Example: one column update at 4 m/s": the large code of the gain 16,982 is 193, the others 119 and 45. -/
theorem test_codes_of_a_gain :
    CalData.codes { noz := [(0, [(0, { gain := 16982 })])] } 0 0 = (45, 119, 193, false) := by decide +kernel
/-- The same example before the update: gain 16,712 has the codes 48, 123, 198. -/
theorem test_codes_before : CalData.codes { noz := [(0, [(0, { gain := 16712 })])] } 0 0 = (48, 123, 198,
  false) := by decide +kernel

/-- The web of spec/02 "A page at 4 m/s under acceleration", dual coverage. -/
def exWeb : Web := ⟨true, false, 600, 8, 1, 5291667, 3000, 200, 16, 8, 100, 1000, 4096⟩
/-- Its bar: 24 ports of 4,096 nozzles in each row. -/
def exGeo : Geo :=
  { web := some exWeb,
    port := (List.range 48).map fun p => (p, ⟨true, decide (24 ≤ p), false, 4096, p % 24 * 4096, if 24 ≤ p then 20000000 else 0,
      20000⟩) }
/-- That bar with the web moving at 4 m/s and 2 m/s², position 0. -/
def exS : State :=
  { rdy with geo := { committed := some exGeo },
             est := { st := .moving, v := exWeb.mmToCounts 4000, a := exWeb.mmToCounts 2000 } }
/-- The example's column and segment counts. -/
theorem test_example_bar : (exGeo.columns, exGeo.segments exWeb) = (98304, 24) := by decide +kernel
/-- Row B lies 3,779.53 counts behind row A: in sub-counts, to the nearest. -/
theorem test_row_offset : exWeb.nmToSub 20000000 = 247695103 := by decide +kernel
/-- V_FIRE of the bar with every port up is 5,080 mm/s. -/
theorem test_v_fire : wholeMm (exWeb.speedAt (exWeb.fMax true)) = 5080 := by decide +kernel
/-- The need of the example is 204.11 counts. -/
theorem test_need : ((exGeo.needMoving exWeb (exWeb.mmToCounts 4000)) * 100).floor = 20411 := by decide +kernel
/-- Line 0 lands after 52.235 ms: the fire time is 52,214,500 ns and some, 20 µs before. -/
theorem test_fire_time :
    (exS.fireTime exGeo exWeb (40000 * 65536) 0 0).map (fun t => t / 256 / 1000) = some 52214 := by decide +kernel
/-- spec/14 "Example: decoders lost on a bar at PL_1": V_DECODE with 13 decoders is 5,038 mm/s. -/
theorem test_v_decode :
    wholeMm ({ exS with pwr := { level := 1 }, health := { sdRetired := 0x0007 } } : State).vDecode = 5038 := by decide +kernel

/-- spec/13 "Example: sizing the mask for a hot cabinet": 14 banks draw 42.6 mA at 85 °C and 69.9 mA at 105 °C. -/
theorem test_retention_current : (retCurrent 0x0FF0003F 0x0550, retCurrent 0x0FF0003F 0x0690) = (42600,
  69900) := by decide +kernel

/-- spec/06 "Example" of R193: a set accepted at 300 triggers takes effect from frame 3. -/
theorem test_exposure_frame :
    (((after (exec (.camSetExposure (hdr 24) ⟨0, 0, 0, 1000, 0, 1, List.replicate 6 0⟩)
      { rdy with cam := [(0, { camRun with trigs := 300 })] })).camN 0).pend.map (·.2)) = some 3 := by decide +kernel

/-- spec/08 "Example: ENC_0 through a reversal and a restart": at 2.9 ms the backward edge leaves ACQUIRING, count 5,000. -/
theorem test_backward_edge :
    (fun (e : Enc) => (e.count, e.st)) ((after (exec (.encoderEdge 0 ⟨.a false, 64⟩)
      { rdy with enc := [(0, { st := .moving, speed := 833, count := 5001, extreme := 5001, lineA := true })] })).encN 0) =
      (5000, .acquiring) := by decide +kernel

/-- spec/11 "Example" of R307: the default CH mask of 16 GiB is bits 11, 18 and 24. -/
theorem test_default_ch_mask : rdy.masksOk rdy.dramMasks = true ∧ rdy.dramMasks.head? = some 0x01040800 := by decide +kernel


/-- spec/12 R333: a 32-bit read of DMA_PROD's lower half latches the upper half for its next read. -/
theorem test_read_latches :
    let s : State := { rdy with dma := [(0, { prod := 0x100000002 })] }
    let r := s.readReg 0x2000 false
    (r.1, (State.readReg 0x2004 false { r.2 with dma := [(0, { prod := 0x300000004 })] }).1) = (2, 1) := by decide +kernel

/-- spec/12 R343: clearing one of two MB_DONE bits under MB_INT_MASK sends vector 32 again. -/
theorem test_vector_again :
    ((after (exec (.registerWrite 0x48 false 1)
      { rdy with host := { live := true, done := 3, intMask := 3, msixVecMask := 0 } })).host.msixSent.get 0 32) = 1 := by decide +kernel

end Sys2Proof.Tests
end

namespace Sys2Proof.Machine

/-! ## Doorbells outside READY

Every mailbox command is a doorbell of its slot (`mbDoor`) around its own way of being served. `RungAs` says so once for all of
them, together with what that way answers before READY; the three situations of spec/01 R18, R19 and spec/12 R340 are then facts
about `mbDoor` alone. -/

/-! ### Interrupts that do not rise -/

/-- No interrupt is sent where no INT_PENDING bit rose (R342). -/
theorem settle_of_intPending_eq {s t : State} (h : ∀ v, t.intPending v = s.intPending v) : settle s t = t :=
  List.foldl_fixed' (fun v => by simp [h v]) _

/-- A meaning that leaves the queue, the fuses and every INT_PENDING bit alone has its effect and no more. -/
theorem done_of_intPending_eq {s t : State} (hp : t.pending = s.pending) (hf : t.fuse = s.fuse)
    (h : ∀ v, t.intPending v = s.intPending v) : done s t = .next t := by
  rw [done, settle_of_intPending_eq h, keep, ← hp, ← hf]

/-! ### What a doorbell comes to -/

/-- Without power or link a doorbell does nothing. -/
theorem mbDoor_dead {s : State} (h : MbHdr) (i : Instr) (f : State → State) (hl : (s.alive && s.host.live) = false) :
    mbDoor h i f s = s := by
  rw [mbDoor, ← Bool.not_and, hl]; rfl

/-- A bit clear in a union is clear on its right. -/
theorem slot_right {x y b : Byte} (h : (x ||| y) &&& b = 0) : y &&& b = 0 :=
  slot_left (BitVec.or_comm x y ▸ h)

/-- The state with a doorbell held behind those held already (spec/01 R18; its place in the order is log 39). -/
def State.holdDoor (h : MbHdr) (i : Instr) (s : State) : State :=
  { s with host := { s.host with doorbell := s.host.doorbell ||| slotBit h.slot, held := s.host.held ++ [.cmd i] } }

/-- A doorbell of an empty slot is held while the control cores do not run, restarting (spec/01 R18) or held in reset (R19, log 48). -/
theorem mbDoor_held {s : State} (h : MbHdr) (i : Instr) (f : State → State) (ha : s.alive = true) (hl : s.host.live = true)
    (he : (s.host.busy ||| s.host.done ||| s.host.doorbell) &&& slotBit h.slot = 0) (hc : s.coresRun = false) :
    mbDoor h i f s = s.holdDoor h i := by
  simp [mbDoor, ha, hl, slot_left he, slot_right he, hc, State.holdDoor, State.updHost]

/-! ### What a request before READY comes to -/

/-- The commands served before READY: SYS_GET_INFO, and in RECOVERY SYS_RECOVERY_LOAD and SYS_RECOVERY_BOOT (R340). -/
def servedBefore (op : Nat) (s : State) : Bool := op == 0x0101 || s.inRecovery && (op == 0x010A || op == 0x010B)

@[simp] theorem State.mbStart_inRecovery (h : MbHdr) (s : State) : (s.mbStart h).inRecovery = s.inRecovery := rfl

/-- The exceptions of R340, as a claim words them. -/
theorem servedBefore_eq_false {op : Nat} {s : State} (h1 : op ≠ 0x0101)
    (h2 : s.boot.stage = .recovery → op ≠ 0x010A ∧ op ≠ 0x010B) : servedBefore op s = false := by
  by_cases hr : s.boot.stage = .recovery
  · simp [servedBefore, State.inRecovery, h1, h2 hr]
  · simp [servedBefore, State.inRecovery, h1, hr]

/-- The slot completed with NOT_READY. -/
def State.answerNotReady (h : MbHdr) (op : Nat) (s : State) : State := (s.mbStart h).mbComplete h op 0x0004 []

/-- A way of serving requests with this opcode answers NOT_READY before READY, the exceptions of R340 left out. -/
def AnswersNotReady (h : MbHdr) (op : Nat) (f : State → State) : Prop :=
  ∀ s : State, s.isReady = false → servedBefore op s = false → f s = s.answerNotReady h op

/-- NOT_READY is the first of the common checks, whatever the rest of the request holds. -/
theorem mbCommon_notReady {c : MbCheck} {h : MbHdr} {s : State} (hr : s.isReady = false) (he : c.early s = false) :
    mbCommon c h s = some 0x0004 := by
  simp [mbCommon, hr, he]

/-- A command served by its row answers NOT_READY wherever the row has it wait for READY. -/
theorem mbServe_answersNotReady {c : MbCheck} {h : MbHdr} {op : Nat} {body : State → Answer} (ho : c.op = op)
    (he : ∀ s : State, servedBefore op s = false → c.early (s.mbStart h) = false) :
    AnswersNotReady h op (mbServe c h body) := by
  intro s hr hs
  have hc : mbCommon c h (s.mbStart h) = some 0x0004 := mbCommon_notReady hr (he s hs)
  rw [mbServe_refused s hc, ho, State.answerNotReady]

/-- Nor does a turned-away PWR_SET_STATE or PWR_SET_LEVEL start a transition: it leaves no command in execution. -/
theorem powerServe_answersNotReady {c : MbCheck} {h : MbHdr} {op : Nat} {body : State → Answer} {start : State → State}
    (ho : c.op = op) (he : ∀ s : State, servedBefore op s = false → c.early (s.mbStart h) = false) :
    AnswersNotReady h op (powerServe c h body start) := by
  intro s hr hs
  have hi : (s.answerNotReady h op).host.inflight = s.host.inflight := rfl
  simp only [powerServe, mbServe_answersNotReady ho he s hr hs, hi, lt_irrefl, if_false]

/-- Nor does a turned-away SYS_RESET restart anything. -/
theorem srvSysReset_answersNotReady {h : MbHdr} {mode : Byte} {rsv : BitVec 24} :
    AnswersNotReady h 0x0102 (srvSysReset h mode rsv) := by
  intro s hr hs
  rw [srvSysReset, mbServe_answersNotReady rfl (fun _ _ => rfl) s hr hs, mbCommon_notReady hr rfl]

/-! ### Every mailbox command rings its slot -/

/-- `exec` of a command is a doorbell of its slot, served by `f` when it is taken: where the doorbell blows no fuse its outcome is
the doorbell's, and `f` answers NOT_READY before READY. -/
structure RungAs (c : Instr) (h : MbHdr) (op : Nat) (f : State → State) : Prop where
  exec_eq : ∀ s : State, (mbDoor h c f s).fuse = s.fuse → exec c s = done s (mbDoor h c f s)
  notReady : AnswersNotReady h op f

/-- The two commands that blow fuses have the frame of every other command where they blow none. -/
theorem fuseCmd_eq_done {h : MbHdr} {i : Instr} {f : State → State} {s : State} (hf : (mbDoor h i f s).fuse = s.fuse) :
    fuseCmd h i f s = done s (mbDoor h i f s) := by
  rw [fuseCmd, done, keep, ← hf, ← settle_fuse (mbDoor h i f s) s]

theorem RungAs.of_mbCmd {c : Instr} {h : MbHdr} {op : Nat} {f : State → State} (he : ∀ s, exec c s = mbCmd h c f s)
    (hn : AnswersNotReady h op f) : RungAs c h op f := ⟨fun s _ => he s, hn⟩

theorem RungAs.of_fuseCmd {c : Instr} {h : MbHdr} {op : Nat} {f : State → State} (he : ∀ s, exec c s = fuseCmd h c f s)
    (hn : AnswersNotReady h op f) : RungAs c h op f := ⟨fun s hf => (he s).trans (fuseCmd_eq_done hf), hn⟩

/-- Every mailbox command rings its slot. Apart stand the commands served before READY, SYS_RESET and the commands that start a
power transition, which act after their answer, and those that blow fuses. -/
theorem exists_rungAs {c : Instr} {h : MbHdr} {op : Nat} (hm : mailOf c = some (h, op)) : ∃ f, RungAs c h op f := by
  cases c
  case sysGetInfo =>
    cases hm
    exact ⟨_, .of_mbCmd (fun _ => rfl) (mbServe_answersNotReady rfl fun _ hs => by simp [servedBefore] at hs)⟩
  case sysRecoveryLoad =>
    cases hm
    exact ⟨_, .of_mbCmd (fun _ => rfl) (mbServe_answersNotReady rfl fun _ hs => by simpa [servedBefore] using hs)⟩
  case sysRecoveryBoot =>
    cases hm
    exact ⟨_, .of_mbCmd (fun _ => rfl) (mbServe_answersNotReady rfl fun _ hs => by simpa [servedBefore] using hs)⟩
  case sysReset => cases hm; exact ⟨_, .of_mbCmd (fun _ => rfl) srvSysReset_answersNotReady⟩
  case pwrSetState =>
    cases hm; exact ⟨_, .of_mbCmd (fun _ => rfl) (powerServe_answersNotReady rfl fun _ _ => rfl)⟩
  case pwrSetLevel =>
    cases hm; exact ⟨_, .of_mbCmd (fun _ => rfl) (powerServe_answersNotReady rfl fun _ _ => rfl)⟩
  case sysSetSvn =>
    cases hm; exact ⟨_, .of_fuseCmd (fun _ => rfl) (mbServe_answersNotReady rfl fun _ _ => rfl)⟩
  case sysRevokeKey =>
    cases hm; exact ⟨_, .of_fuseCmd (fun _ => rfl) (mbServe_answersNotReady rfl fun _ _ => rfl)⟩
  all_goals cases hm
  all_goals exact ⟨_, .of_mbCmd (fun _ => rfl) (mbServe_answersNotReady rfl fun _ _ => rfl)⟩

/-! ### The three situations -/

/-- A mailbox command rung before READY completes with NOT_READY and changes nothing else (R340). -/
theorem exec_before_ready {c : Instr} {h : MbHdr} {op : Nat} {s : State} (hm : mailOf c = some (h, op))
    (hr : Safety.rings s h = true) (hn : s.isReady = false) (hs : servedBefore op s = false) :
    ∃ t, exec c s = .next t ∧ Safety.Answered h op 0x0004 [] s t ∧ t = { s with host := t.host } := by
  obtain ⟨f, hf⟩ := exists_rungAs hm
  obtain ⟨hl, hfree, hdoor⟩ := rings_iff.1 hr
  have hd : mbDoor h c f s = s.answerNotReady h op := by rw [mbDoor_free s h c f hl hfree hdoor, hf.notReady s hn hs]
  obtain ⟨pba, sent, hq⟩ := settle_eq s (s.answerNotReady h op)
  refine ⟨_, by rw [hf.exec_eq s (by rw [hd]; rfl), hd, done], ⟨⟨s.host.alert, pba, sent, ?_⟩, ?_⟩, ?_⟩
  · rw [hq]
    simp only [keep, State.answerNotReady, State.mbComplete, State.mbStart, State.updHost, slot_clear hdoor,
      slot_clear (slot_left hfree)]
  · rw [hq]; rfl
  · rw [hq]; rfl

/-- A mailbox command rung in an empty slot while the control cores do not run is held (spec/01 R18, R19). -/
theorem exec_cores_stopped {c : Instr} {h : MbHdr} {op : Nat} {s : State} (hm : mailOf c = some (h, op)) (ha : s.alive = true)
    (hl : s.host.live = true) (he : (s.host.busy ||| s.host.done ||| s.host.doorbell) &&& slotBit h.slot = 0)
    (hc : s.coresRun = false) : exec c s = .next (s.holdDoor h c) := by
  obtain ⟨f, hf⟩ := exists_rungAs hm
  have hd := mbDoor_held h c f ha hl he hc
  rw [hf.exec_eq s (by rw [hd]; rfl), hd]
  exact done_of_intPending_eq rfl rfl fun _ => rfl

/-- A mailbox command does nothing without power or link. -/
theorem exec_dead {c : Instr} {h : MbHdr} {op : Nat} {s : State} (hm : mailOf c = some (h, op))
    (hl : (s.alive && s.host.live) = false) : exec c s = .next s := by
  obtain ⟨f, hf⟩ := exists_rungAs hm
  have hd := mbDoor_dead h c f hl
  rw [hf.exec_eq s (by rw [hd]), hd]
  exact done_of_intPending_eq rfl rfl fun _ => rfl

/-- Settles O57: every mailbox command is a doorbell of its slot, and a doorbell is turned away before READY, held while the
control cores are stopped, and lost without power or link. -/
theorem doorbellsOutsideReady : Obligations.DoorbellsOutsideReady :=
  ⟨fun _ _ _ _ hm hr hn h1 h2 => exec_before_ready hm hr hn (servedBefore_eq_false h1 h2),
   fun _ _ _ _ hm ha hl he hc => exec_cores_stopped hm ha hl he hc,
   fun _ _ _ _ hm hl => exec_dead hm hl⟩

end Sys2Proof.Machine

namespace Sys2Proof.Machine

/-! ## What an operation touches

A claim about a command or an event ends in a frame: the state is as it was but for some of its parts. `Only ps s t` says so of any
operation, once and for all its uses: `t` is `s` but for the parts `ps`. Frames of the parts of an operation chain by `Only.step`, and
`Only.eq_patch` turns a frame into the equation of states that a claim states. -/

/-- The parts of the state that frames speak of: its components, with the alert bits apart from the rest of the host interface and
the Batten queue field by field; `progress` is what the admitted pages show of their release. -/
inductive Part
  | pending | free | host | alert | boot | fuse | time | geo | pages | progress | left | reports | quiet | lastPage | speedLimit
  | restartTo | lines | lastOwn | lastNoz | fireEdges | checks | fire | rlConfig | port | head | cal | nvm | slate | enc | est | axis
  | trig | cam | vis | loop | twin | dram | dma | pwr | health | log
  deriving DecidableEq

/-- A page's handle, the line it releases next, and whether that line waits late. -/
def Page.progress (q : Page) : Nat × Nat × Bool := (q.handle, q.nextLine, q.lateNext)

/-- The part is the same in both states. -/
def Part.Same : Part → State → State → Prop
  | .pending, s, t => t.pending = s.pending
  | .free, s, t => t.free = s.free
  | .host, s, t => t.hostCore = s.hostCore
  | .alert, s, t => t.host.alert = s.host.alert
  | .boot, s, t => t.boot = s.boot
  | .fuse, s, t => t.fuse = s.fuse
  | .time, s, t => t.time = s.time
  | .geo, s, t => t.geo = s.geo
  | .pages, s, t => t.bat.pages = s.bat.pages
  | .progress, s, t => t.bat.pages.map Page.progress = s.bat.pages.map Page.progress
  | .left, s, t => t.bat.left = s.bat.left
  | .reports, s, t => t.bat.reports = s.bat.reports
  | .quiet, s, t => t.bat.quiet = s.bat.quiet
  | .lastPage, s, t => t.bat.lastPage = s.bat.lastPage
  | .speedLimit, s, t => t.bat.speedLimit = s.bat.speedLimit
  | .restartTo, s, t => t.bat.restartTo = s.bat.restartTo
  | .lines, s, t => t.bat.lines = s.bat.lines
  | .lastOwn, s, t => t.bat.lastOwn = s.bat.lastOwn
  | .lastNoz, s, t => t.bat.lastNoz = s.bat.lastNoz
  | .fireEdges, s, t => t.bat.fireEdges = s.bat.fireEdges
  | .checks, s, t => t.bat.checks = s.bat.checks
  | .fire, s, t => t.fire = s.fire
  | .rlConfig, s, t => t.rlConfig = s.rlConfig
  | .port, s, t => t.port = s.port
  | .head, s, t => t.head = s.head
  | .cal, s, t => t.cal = s.cal
  | .nvm, s, t => t.nvm = s.nvm
  | .slate, s, t => t.slate = s.slate
  | .enc, s, t => t.enc = s.enc
  | .est, s, t => t.est = s.est
  | .axis, s, t => t.axis = s.axis
  | .trig, s, t => t.trig = s.trig
  | .cam, s, t => t.cam = s.cam
  | .vis, s, t => t.vis = s.vis
  | .loop, s, t => t.loop = s.loop
  | .twin, s, t => t.twin = s.twin
  | .dram, s, t => t.dram = s.dram
  | .dma, s, t => t.dma = s.dma
  | .pwr, s, t => t.pwr = s.pwr
  | .health, s, t => t.health = s.health
  | .log, s, t => t.log = s.log

/-- `t` is `s` but for the parts `ps`. -/
def Only (ps : List Part) (s t : State) : Prop := ∀ p, p ∉ ps → p.Same s t

theorem Part.Same.refl (p : Part) (s : State) : p.Same s s := by cases p <;> rfl

theorem Part.Same.trans {p : Part} {s t u : State} (h1 : p.Same s t) (h2 : p.Same t u) : p.Same s u := by
  cases p <;> exact Eq.trans h2 h1

/-- Whatever an operation touches, nothing else changed where nothing was done. -/
theorem Only.refl {ps : List Part} (s : State) : Only ps s s := fun p _ => .refl p s

theorem Only.trans {ps : List Part} {s t u : State} (h1 : Only ps s t) (h2 : Only ps t u) : Only ps s u :=
  fun p hp => (h1 p hp).trans (h2 p hp)

/-- A frame widens. -/
theorem Only.mono {ps qs : List Part} {s t : State} (h : Only ps s t) (hs : ps ⊆ qs) : Only qs s t :=
  fun p hp => h p fun hm => hp (hs hm)

/-- One operation more. -/
theorem Only.step {ps qs : List Part} {s t u : State} (h1 : Only ps s t) (h2 : Only qs t u) : Only (ps ++ qs) s u :=
  (h1.mono (List.subset_append_left ps qs)).trans (h2.mono (List.subset_append_right ps qs))

/-- A fold touches what its steps touch. -/
theorem Only.foldl {α : Type} {ps : List Part} {g : State → α → State} (h : ∀ t x, Only ps t (g t x)) (l : List α) (s : State) :
    Only ps s (l.foldl g s) := by
  induction l generalizing s with
  | nil => exact .refl s
  | cons x l ih => exact (h s x).trans (ih (g s x))

/-- A condition chooses between two operations of one frame. -/
theorem Only.ite {c : Prop} [Decidable c] {ps : List Part} {s t u : State} (h1 : Only ps s t) (h2 : Only ps s u) :
    Only ps s (if c then t else u) := by split <;> assumption

/-! ### A frame as an equation of states -/

/-- The new value of a part that may change, else the old one. -/
def pick {α : Type} (ps : List Part) (p : Part) (new old : α) : α := if p ∈ ps then new else old

/-- `s` with the parts `ps` of `t`. -/
def State.patch (ps : List Part) (s t : State) : State where
  pending := pick ps .pending t.pending s.pending
  free := pick ps .free t.free s.free
  host := { pick ps .host t.hostCore s.hostCore with alert := pick ps .alert t.host.alert s.host.alert }
  boot := pick ps .boot t.boot s.boot
  fuse := pick ps .fuse t.fuse s.fuse
  time := pick ps .time t.time s.time
  geo := pick ps .geo t.geo s.geo
  bat :=
    { pages := pick ps .pages t.bat.pages s.bat.pages
      left := pick ps .left t.bat.left s.bat.left
      reports := pick ps .reports t.bat.reports s.bat.reports
      quiet := pick ps .quiet t.bat.quiet s.bat.quiet
      lastPage := pick ps .lastPage t.bat.lastPage s.bat.lastPage
      speedLimit := pick ps .speedLimit t.bat.speedLimit s.bat.speedLimit
      restartTo := pick ps .restartTo t.bat.restartTo s.bat.restartTo
      lines := pick ps .lines t.bat.lines s.bat.lines
      lastOwn := pick ps .lastOwn t.bat.lastOwn s.bat.lastOwn
      lastNoz := pick ps .lastNoz t.bat.lastNoz s.bat.lastNoz
      fireEdges := pick ps .fireEdges t.bat.fireEdges s.bat.fireEdges
      checks := pick ps .checks t.bat.checks s.bat.checks }
  fire := pick ps .fire t.fire s.fire
  rlConfig := pick ps .rlConfig t.rlConfig s.rlConfig
  port := pick ps .port t.port s.port
  head := pick ps .head t.head s.head
  cal := pick ps .cal t.cal s.cal
  nvm := pick ps .nvm t.nvm s.nvm
  slate := pick ps .slate t.slate s.slate
  enc := pick ps .enc t.enc s.enc
  est := pick ps .est t.est s.est
  axis := pick ps .axis t.axis s.axis
  trig := pick ps .trig t.trig s.trig
  cam := pick ps .cam t.cam s.cam
  vis := pick ps .vis t.vis s.vis
  loop := pick ps .loop t.loop s.loop
  twin := pick ps .twin t.twin s.twin
  dram := pick ps .dram t.dram s.dram
  dma := pick ps .dma t.dma s.dma
  pwr := pick ps .pwr t.pwr s.pwr
  health := pick ps .health t.health s.health
  log := pick ps .log t.log s.log

theorem pick_eq_new {α : Type} {ps : List Part} {p : Part} {new old : α} (h : p ∉ ps → new = old) : pick ps p new old = new := by
  unfold pick; split
  · rfl
  · exact (h ‹_›).symm

theorem pick_eq_old {α : Type} {ps : List Part} {p : Part} {new old : α} (h : p ∉ ps) : pick ps p new old = old := if_neg h

/-- A frame as an equation: `t` is `s` with the parts `ps` of `t`. -/
theorem Only.eq_patch {ps : List Part} {s t : State} (h : Only ps s t) : t = s.patch ps t := by
  have e : ∀ {α : Type} (p : Part) (π : State → α), (p.Same s t → π t = π s) → pick ps p (π t) (π s) = π t :=
    fun p π k => pick_eq_new fun hp => k (h p hp)
  simp only [State.patch, e .pending State.pending id, e .free State.free id, e .host State.hostCore id,
    e .alert (·.host.alert) id, e .boot State.boot id, e .fuse State.fuse id, e .time State.time id, e .geo State.geo id,
    e .pages (·.bat.pages) id, e .left (·.bat.left) id, e .reports (·.bat.reports) id, e .quiet (·.bat.quiet) id,
    e .lastPage (·.bat.lastPage) id, e .speedLimit (·.bat.speedLimit) id, e .restartTo (·.bat.restartTo) id,
    e .lines (·.bat.lines) id, e .lastOwn (·.bat.lastOwn) id, e .lastNoz (·.bat.lastNoz) id, e .fireEdges (·.bat.fireEdges) id,
    e .checks (·.bat.checks) id, e .fire State.fire id, e .rlConfig State.rlConfig id, e .port State.port id,
    e .head State.head id, e .cal State.cal id, e .nvm State.nvm id, e .slate State.slate id, e .enc State.enc id,
    e .est State.est id, e .axis State.axis id, e .trig State.trig id, e .cam State.cam id, e .vis State.vis id,
    e .loop State.loop id, e .twin State.twin id, e .dram State.dram id, e .dma State.dma id, e .pwr State.pwr id,
    e .health State.health id, e .log State.log id]
  rfl

/-- A patch changes no part outside it; where pages may change, their progress may, too. -/
theorem State.patch_same {ps : List Part} {p : Part} (s t : State) (hn : p ∉ ps) (hp : .pages ∈ ps → .progress ∈ ps) :
    p.Same s (s.patch ps t) := by
  cases p
  case host => simp [Part.Same, State.patch, State.hostCore, pick_eq_old hn]
  case progress => exact congrArg (List.map Page.progress) (pick_eq_old fun hm => hn (hp hm))
  all_goals exact pick_eq_old hn

/-- The equation gives the frame. -/
theorem Only.of_eq {ps : List Part} {s t : State} (h : t = s.patch ps t) (hp : .pages ∈ ps → .progress ∈ ps) :
    Only ps s t := fun p hn => (congrArg (p.Same s) h).mpr (s.patch_same t hn hp)

/-- A change of the pages that leaves what they show of their release. -/
theorem Only.of_progress {ps : List Part} {s t : State} (h : Only (.progress :: ps) s t) (hp : Part.progress.Same s t) : Only ps s t := by
  intro p hn
  by_cases e : p = .progress
  · exact e ▸ hp
  · exact h p (by simp [e, hn])

end Sys2Proof.Machine

namespace Sys2Proof.Machine

section
variable (s : State)

/-! ### Frames of the shared operations -/

theorem State.raise_only (r : AlertReg) (n : Nat) : Only [.alert] s (s.raise r n) := .of_eq rfl (by decide)
theorem State.updBoot_only (f : Boot → Boot) : Only [.boot] s (s.updBoot f) := .of_eq rfl (by decide)
theorem State.updGeo_only (f : GeoUnit → GeoUnit) : Only [.geo] s (s.updGeo f) := .of_eq rfl (by decide)
theorem State.updFire_only (f : Fire → Fire) : Only [.fire] s (s.updFire f) := .of_eq rfl (by decide)
theorem State.updPorts_only (f : SMap Port → SMap Port) : Only [.port] s (s.updPorts f) := .of_eq rfl (by decide)
theorem State.updPort_only (p : Nat) (f : Port → Port) : Only [.port] s (s.updPort p f) := .of_eq rfl (by decide)
theorem State.updCal_only (f : Cal → Cal) : Only [.cal] s (s.updCal f) := .of_eq rfl (by decide)
theorem State.updNvm_only (f : Nvm → Nvm) : Only [.nvm] s (s.updNvm f) := .of_eq rfl (by decide)
theorem State.updSlate_only (f : Slate → Slate) : Only [.slate] s (s.updSlate f) := .of_eq rfl (by decide)
theorem State.updVis_only (f : Vis → Vis) : Only [.vis] s (s.updVis f) := .of_eq rfl (by decide)
theorem State.updLoop_only (f : Loop → Loop) : Only [.loop] s (s.updLoop f) := .of_eq rfl (by decide)
theorem State.updTwin_only (f : Twin → Twin) : Only [.twin] s (s.updTwin f) := .of_eq rfl (by decide)
theorem State.updDram_only (f : Dram → Dram) : Only [.dram] s (s.updDram f) := .of_eq rfl (by decide)
theorem State.updHealth_only (f : Health → Health) : Only [.health] s (s.updHealth f) := .of_eq rfl (by decide)
theorem State.updLog_only (f : Log → Log) : Only [.log] s (s.updLog f) := .of_eq rfl (by decide)
theorem State.updLine_only (h n : Nat) (f : Line → Line) : Only [.lines] s (s.updLine h n f) := .of_eq rfl (by decide)
theorem State.updPortLine_only (h n p : Nat) (f : PortLine → PortLine) : Only [.lines] s (s.updPortLine h n p f) := .of_eq rfl (by decide)
theorem State.drawBelow_only (n : Nat) : Only [.free] s (s.drawBelow n).2 := .of_eq rfl (by decide)

/-- A change of a page that keeps what it shows of its release. -/
theorem State.updPage_only (h : Nat) (f : Page → Page) (hf : ∀ q, (f q).progress = q.progress) :
    Only [.pages] s (s.updPage h f) := by
  refine .of_progress (.of_eq rfl (by decide)) ?_
  simp only [Part.Same, State.updPage, State.updBat_bat, List.map_map]
  refine List.map_congr_left fun q _ => ?_
  rw [Function.comp_apply]
  split
  · exact hf q
  · rfl

theorem State.logSecond_only : Only [.log] s s.logSecond := by
  unfold State.logSecond
  exact .ite (.refl s) (s.updLog_only _)

/-- Taking an event changes the recorder, and where the queue is full its alert. -/
theorem State.logEventR_only (replace : Bool) (code inst data : Nat) : Only [.log, .alert] s (s.logEventR replace code inst data) := by
  have h1 : Only [.log, .alert] s s.logSecond := s.logSecond_only.mono (by decide)
  unfold State.logEventR
  refine .ite ((h1.step (State.updLog_only _ _)).mono (by decide)) (.ite ?_ ((h1.step (State.updLog_only _ _)).mono (by decide)))
  exact ((h1.step (State.updLog_only _ _)).step (State.raise_only _ _ _)).mono (by decide)

theorem State.logEvent_only (code inst data : Nat) : Only [.log, .alert] s (s.logEvent code inst data) := s.logEventR_only _ _ _ _

theorem State.setCause_only (c i : Nat) : Only [.health, .log, .alert] s (s.setCause c i) := by
  unfold State.setCause
  exact .ite (.refl s) ((((s.updHealth_only _).step (State.raise_only _ _ _)).step (State.logEventR_only _ _ _ _ _)).mono (by decide))

theorem State.clearCause_only (c : Nat) : Only [.health, .log, .alert] s (s.clearCause c) := by
  unfold State.clearCause
  exact .ite (.refl s) ((((s.updHealth_only _).step (State.raise_only _ _ _)).step (State.logEvent_only _ _ _ _)).mono (by decide))

theorem State.endCause_only (c i : Nat) : Only [.health, .log, .alert] s (s.endCause c i) := by
  unfold State.endCause
  exact .ite (.refl s) (.ite ((s.updHealth_only _).mono (by decide)) (.ite (s.clearCause_only c) ((s.updHealth_only _).mono (by decide))))

/-! ### Frames of what goes to the links -/

theorem State.twinSend_only (f : SeqFrame) : Only [.twin] s (s.twinSend f) := by
  unfold State.twinSend
  exact .ite (.refl s) (s.updTwin_only _)

theorem State.mirrorSend_only (f : SeqFrame) : Only [.twin] s (s.mirrorSend f) := .ite (.refl s) (s.twinSend_only f)

theorem State.forward9_only (op : Nat) (key : BitVec 32) (payload : List Byte) : Only [.twin] s (s.forward9 op key payload) :=
  .ite (s.twinSend_only _) (.refl s)

theorem State.headWrite_only (p addr : Nat) (data : List Byte) : Only [.port] s (s.headWrite p addr data) :=
  .ite (.refl s) (.ite (s.updPort_only p _) (.ite (s.updPort_only p _) (.refl s)))

theorem State.closeGap_only (p : Nat) : Only [.port] s (s.closeGap p) := by
  unfold State.closeGap
  exact .ite (.refl s) (((s.headWrite_only p _ _).step (State.updPort_only _ _ _)).mono (by decide))

theorem State.pressSend_only (type cause handle : Nat) (top : Int) (lines vContract : Nat) :
    Only [.time] s (s.pressSend type cause handle top lines vContract) := .of_eq rfl (by decide)

theorem State.roleEvent_only (lost : Bool) : Only [.log, .alert] s (s.roleEvent lost) :=
  ((s.raise_only _ _).step (State.logEvent_only _ _ _ _)).mono (by decide)

theorem State.handLead_only (kind : Nat) : Only [.twin, .log, .alert] s (s.handLead kind) := by
  unfold State.handLead
  exact ((((s.updTwin_only _).step (State.twinSend_only _ _)).step (State.updTwin_only _ _)).step (State.roleEvent_only _ _)).mono
    (by decide)

theorem State.castleTry_only : Only [.twin, .log, .alert] s s.castleTry := .ite (s.handLead_only 5) (.refl s)

theorem State.handTry_only : Only [.twin, .log, .alert, .port] s s.handTry := by
  unfold State.handTry
  exact .ite (.refl s) (((((s.updTwin_only _).step (State.twinSend_only _ _)).step (State.updTwin_only _ _)).step
    (State.updPorts_only _ _)).step (State.roleEvent_only _ _) |>.mono (by decide))

/-! ### Frames of pages and lines -/

theorem State.speedCheck_only : Only [.speedLimit, .alert] s s.speedCheck := by
  have e : ∀ b : Bool, Only [.speedLimit, .alert] s (s.updBat fun q => { q with speedLimit := b }) := fun b => .of_eq rfl (by decide)
  unfold State.speedCheck
  split
  · exact e false
  · exact .ite (((e true).step (State.raise_only _ _ _)).mono (by decide)) (.ite (e false) (.refl s))

theorem State.rehide_only : Only [.fire, .log, .alert] s s.rehide := by
  unfold State.rehide
  exact .ite (.refl s) (((s.updFire_only _).step (State.logEvent_only _ _ _ _)).mono (by decide))

/-- A mark stands in the page or in its report, and in what the loop leaves out. -/
theorem State.markPage_only (h b lo hi : Nat) : Only [.pages, .reports, .fire] s (s.markPage h b lo hi) := by
  unfold State.markPage
  have h1 : Only [.pages, .reports, .fire] s (if (s.page? h).isSome then s.updPage h (Page.mark b lo hi)
      else s.updBat fun q => { q with reports := q.reports.upd none h fun r => r.map (Report.mark b lo hi) }) := by
    split
    · exact (s.updPage_only h (Page.mark b lo hi) fun _ => rfl).mono (by decide)
    · exact Only.mono (ps := [.reports]) (.of_eq rfl (by decide)) (by decide)
  dsimp only
  split
  · exact (h1.step (State.updFire_only _ _)).mono (by decide)
  · exact h1

/-- Ceasing a port's part of a line changes the port's queue and the line. -/
theorem State.ceasePort_only (again : Bool) (h n p : Nat) : Only [.port, .lines] s (s.ceasePort again h n p) := by
  have unsent : Only [.port, .lines] s (if again then s else s.updPortLine h n p fun x => { x with st := .gone }) :=
    .ite (.refl s) ((s.updPortLine_only h n p _).mono (by decide))
  unfold State.ceasePort
  split
  case h_1 => exact .refl s
  case h_2 l _ =>
    dsimp only
    split
    case h_1 => exact .ite (.refl s) (((s.updPort_only p _).step (State.updPortLine_only _ _ _ _ _)).mono (by decide))
    case h_2 => exact ((s.updPort_only p _).step (State.updPortLine_only _ _ _ _ _)).mono (by decide)
    case h_3 | h_4 | h_5 => exact unsent
    case h_6 | h_7 => exact .refl s

theorem State.ceaseLine_only (again : Bool) (l : Line) : Only [.port, .lines] s (s.ceaseLine again l) :=
  Only.foldl (g := fun t e => t.ceasePort again l.handle l.line e.1) (fun t e => t.ceasePort_only again _ _ e.1) l.port s

theorem State.traceGone_only (l : Line) : Only [.fire] s (s.traceGone l) := by
  unfold State.traceGone
  split
  · exact .ite (.refl s) (s.updFire_only _)
  · exact .refl s

/-- Removing lines leaves their rows of the coverage trace. -/
theorem State.dropLines_only (done : Line → Bool) : Only [.fire, .lines] s (s.dropLines done) := by
  have h1 := Only.foldl (fun t l => t.traceGone_only l) (s.bat.lines.filter done) s
  have h2 : ∀ t : State, Only [.lines] t (t.updBat fun b => { b with lines := b.lines.filter fun l => !done l }) :=
    fun _ => .of_eq rfl (by decide)
  exact (h1.step (h2 _)).mono (by decide)

theorem State.pruneLines_only : Only [.fire, .lines] s s.pruneLines := s.dropLines_only _

/-! ### Frames of strips -/

/-- A value that is given, or drawn where it is free. -/
theorem State.drawUnless_only (c : Prop) [Decidable c] (a n : Nat) : Only [.free] s (if c then (a, s) else s.drawBelow n).2 := by
  split
  · exact .refl s
  · exact s.drawBelow_only n

/-- Measuring a stripe may draw free values. -/
theorem Stripe.measure_only (med : Rat) (x : Stripe) : Only [.free] s (x.measure med s).2.2.2 := by
  unfold Stripe.measure
  by_cases hmed : med = 0 <;> by_cases hmass : x.mass = 0 <;> simp only [hmed, hmass, if_true, if_false]
  · exact ((s.drawBelow_only _).trans (State.drawUnless_only _ _ _ _)).trans (State.drawBelow_only _ _)
  · exact (s.drawBelow_only _).trans (State.drawUnless_only _ _ _ _)
  · exact (s.drawUnless_only _ _ _).trans (State.drawBelow_only _ _)
  · exact s.drawUnless_only _ _ _

theorem State.thatchEntry_only (t : Thatch) (med : Rat) (c : Nat) : Only [.free] s (State.thatchEntry t med c s).2 := by
  unfold State.thatchEntry
  dsimp only
  split
  · exact .refl s
  · exact Stripe.measure_only s med _

/-- The state that the entries of a strip's columns leave, whatever they collect. -/
theorem State.thatchEntries_only {α : Type} (t : Thatch) (med : Rat) (f : α → Nat × List Byte → α) (cs : List Nat)
    (a : α × State) :
    Only [.free] a.2 (cs.foldl (fun b c => (f b.1 (State.thatchEntry t med c b.2).1, (State.thatchEntry t med c b.2).2)) a).2 := by
  induction cs generalizing a with
  | nil => exact .refl a.2
  | cons c cs ih => exact (a.2.thatchEntry_only t med c).trans (ih (f a.1 _, _))

/-- The results of a strip go to DRAM. -/
theorem State.thatchWrite_only (t : Thatch) : Only [.free, .dram, .alert] s (s.thatchWrite t) := by
  unfold State.thatchWrite
  have h1 := fun med => State.thatchEntries_only t med (fun l e => e :: l) (List.range s.barColumns) ([], s)
  exact (((h1 _).step (State.updDram_only _ _)).step (State.raise_only _ _ _)).mono (by decide)

/-- Strips that are done leave and write their results. -/
theorem State.thatchDone_only : Only [.vis, .free, .dram, .alert] s s.thatchDone := by
  unfold State.thatchDone
  exact (Only.step (.ite (.refl s) (s.updVis_only _)) (.foldl (fun t x => t.thatchWrite_only x) _ _)).mono (by decide)

theorem State.thatchDone_of_no_strip {s : State} (h : s.vis.thatch = []) : s.thatchDone = s := by
  simp [State.thatchDone, h]

/-! ### Leaving the queue -/

theorem State.completeReport_only (h : Nat) (r : Report) : Only [.reports, .log, .alert] s (s.completeReport h r) := by
  have h1 : Only [.reports, .log, .alert] s
      (s.updBat fun b => { b with reports := b.reports.set none h (some { r with awaitTwin := false }) }) :=
    Only.mono (ps := [.reports]) (.of_eq rfl (by decide)) (by decide)
  unfold State.completeReport
  dsimp only
  split
  · exact (h1.step (State.logEvent_only _ _ _ _)).mono (by decide)
  · exact ((h1.step (State.logEvent_only _ _ _ _)).step (State.raise_only _ _ _)).mono (by decide)

/-- The marks that the partner sent of a page are used up with its report. -/
theorem State.completeMirrored_only (h : Nat) (r : Report) : Only [.twin, .reports, .log, .alert] s (s.completeMirrored h r) := by
  unfold State.completeMirrored
  exact (((s.updTwin_only _).step (State.completeReport_only _ _ _)).step (State.mirrorSend_only _ _)).mono (by decide)

theorem State.completeCombined_only (h : Nat) (pm : PeerMark) (r : Report) :
    Only [.twin, .reports, .log, .alert] s (s.completeCombined h pm r) :=
  ((s.updTwin_only _).step (State.completeReport_only _ _ _)).mono (by decide)

theorem State.switchUnfired_only (h : Nat) : Only [.port, .loop] s (s.switchUnfired h) := by
  refine .foldl (fun t p => ?_) _ _
  split
  · exact .ite ((((t.headWrite_only p _ _).step (State.updPort_only _ _ _)).step (State.updLoop_only _ _)).mono (by decide)) (.refl t)
  · exact .refl t

theorem State.moveChunks_only (take : Bool) (base p j n : Nat) : Only [.slate] s (s.moveChunks take base p j n) := s.updSlate_only _

theorem State.freeStream_only (j : Nat) (t : Stream) : Only [.slate] s (s.freeStream j t) := by
  unfold State.freeStream
  split
  · exact s.moveChunks_only _ _ _ _ _
  · exact .refl s

theorem State.freeEntry_only (e : Nat) : Only [.slate] s (s.freeEntry e) := by
  unfold State.freeEntry
  split
  · exact .refl s
  · have h1 := Only.foldl (g := fun t (x : Nat × Stream) => t.freeStream x.1 x.2) (fun t x => t.freeStream_only x.1 x.2)
    exact ((h1 _ s).step (State.updSlate_only _ _)).mono (by decide)

theorem State.freeMirrored_only (e : Nat) : Only [.slate, .twin] s (s.freeMirrored e) :=
  ((s.freeEntry_only e).step (State.mirrorSend_only _ _)).mono (by decide)

/-- Leaving the queue in its steps: the page goes out of the queue and its handle into its quiet time; the report, the switches of its
unfired lines and its entry follow; strips, a castle and the speed limit come last. -/
theorem State.leavePage_steps (next : Nat) (pg : Page) : ∃ u v : State,
    Only [.pages, .progress, .quiet, .lines, .left, .slate, .vis] s u ∧
    u.bat.pages = s.bat.pages.filter (·.handle != pg.handle) ∧ u.bat.quiet = pg.handle :: s.bat.quiet ∧
    (s.vis.thatch = [] → u.vis.thatch = []) ∧
    Only [.twin, .reports, .log, .alert, .port, .loop, .slate] u v ∧
    s.leavePage next pg = v.thatchDone.castleTry.speedCheck := by
  unfold State.leavePage
  extract_lets h s1 s2 s3 s4 r m s5 s6 s7
  have waits : ∀ t : State, Only [.twin, .reports, .log, .alert] t
      (t.updBat fun b => { b with reports := b.reports.set none h (some { r with awaitTwin := true }) }) :=
    fun t => Only.mono (ps := [.reports]) (.of_eq rfl (by decide)) (by decide)
  have h5 : Only [.twin, .reports, .log, .alert] s4 s5 := by
    unfold s5
    split
    · split
      · exact s4.completeMirrored_only _ _
      · exact waits s4
    · split
      · have hm : Only [.twin, .reports, .log, .alert] s4 m := (s4.mirrorSend_only _).mono (by decide)
        split
        · exact (hm.step (m.completeCombined_only _ _ _)).mono (by decide)
        · exact hm.trans (waits m)
      · exact (s4.completeReport_only _ _).mono (by decide)
  have h7 : Only [.slate, .twin] s6 s7 := by
    unfold s7
    split
    · exact .ite (s6.freeMirrored_only _) (.refl s6)
    · exact .refl s6
  exact ⟨s4, s7, .of_eq rfl (by decide), rfl, rfl, fun e => congrArg (List.map _) e,
    ((h5.step (s5.switchUnfired_only h)).step h7).mono (by decide), rfl⟩

/-- What leaving the queue touches where strips may be done with it. -/
theorem State.leavePage_only (next : Nat) (pg : Page) :
    Only [.pages, .progress, .quiet, .lines, .left, .slate, .vis, .twin, .reports, .log, .alert, .port, .loop, .free, .dram, .speedLimit]
      s (s.leavePage next pg) := by
  obtain ⟨u, v, hu, -, -, -, hv, e⟩ := s.leavePage_steps next pg
  rw [e]
  exact ((((hu.step hv).step (State.thatchDone_only _)).step (State.castleTry_only _)).step (State.speedCheck_only _)).mono (by decide)

/-- Without an armed strip leaving the queue touches neither free values nor DRAM. -/
theorem State.leavePage_only_of_no_strip {s : State} (hs : s.vis.thatch = []) (next : Nat) (pg : Page) :
    Only [.pages, .progress, .quiet, .lines, .left, .slate, .vis, .twin, .reports, .log, .alert, .port, .loop, .speedLimit]
      s (s.leavePage next pg) := by
  obtain ⟨u, v, hu, -, -, hn, hv, e⟩ := s.leavePage_steps next pg
  have hvis : v.vis = u.vis := hv .vis (by decide)
  rw [e, State.thatchDone_of_no_strip (by rw [hvis, hn hs])]
  exact (((hu.step hv).step (State.castleTry_only _)).step (State.speedCheck_only _)).mono (by decide)

/-- The page is out of the queue, its handle in its quiet time. -/
theorem State.leavePage_queue (next : Nat) (pg : Page) :
    (s.leavePage next pg).bat.pages = s.bat.pages.filter (·.handle != pg.handle) ∧
      (s.leavePage next pg).bat.quiet = pg.handle :: s.bat.quiet := by
  obtain ⟨u, v, -, hp, hq, -, hv, e⟩ := s.leavePage_steps next pg
  have tail : Only [.twin, .reports, .log, .alert, .port, .loop, .slate, .vis, .free, .dram, .speedLimit] u (s.leavePage next pg) := by
    rw [e]
    exact (((hv.step (State.thatchDone_only _)).step (State.castleTry_only _)).step (State.speedCheck_only _)).mono (by decide)
  have hpages : (s.leavePage next pg).bat.pages = u.bat.pages := tail .pages (by decide)
  have hquiet : (s.leavePage next pg).bat.quiet = u.bat.quiet := tail .quiet (by decide)
  exact ⟨hpages.trans hp, hquiet.trans hq⟩

theorem State.page?_of_filter {t : State} {h : Nat} (e : t.bat.pages = s.bat.pages.filter (·.handle != h)) : t.page? h = none := by
  simp [State.page?, e, List.find?_eq_none]

/-- After the last page of held cores only FIRE_PERMIT and the gap windows are left to change. -/
theorem State.finishHeld_only : Only [.boot, .fire, .port] s s.finishHeld := by
  unfold State.finishHeld
  split
  case isFalse => exact .refl s
  case isTrue hc =>
    have hp : s.bat.pages = [] := List.isEmpty_iff.1 (Bool.and_eq_true_iff.1 hc).2
    unfold State.dropPermit
    refine ((s.updBoot_only _).mono (by decide)).trans (.ite (.refl _) ?_)
    simp only [State.updBoot_bat, State.updFire_bat, hp, List.isEmpty_nil, List.map_nil, List.foldl_nil, Bool.not_true,
      Bool.false_eq_true, if_false, show (3 = 1) = False by decide, decide_false, Bool.false_and]
    exact ((State.updFire_only _ _).step (.foldl (fun t p => t.closeGap_only p) _ _)).mono (by decide)

end
end Sys2Proof.Machine

namespace Sys2Proof.Machine

/-! ### Outcomes with their frame -/

/-- A state with interrupts sent. -/
def State.sent (pba : BitVec 64) (msi : SMap Nat) (s : State) : State := { s with host := { s.host with msixPba := pba, msixSent := msi } }

theorem Only.sent {ps : List Part} {s t : State} (h : Only ps s t) (pba : BitVec 64) (msi : SMap Nat) :
    Only (.host :: ps) s (t.sent pba msi) :=
  (h.mono (List.subset_cons_self _ _)).trans (Only.mono (ps := [.host]) (.of_eq rfl (by decide)) (by simp))

/-- An event that leaves the alert bits alone is quiet. -/
theorem Only.quiet {ps : List Part} {s t : State} (h : Only ps s t) (pba : BitVec 64) (msi : SMap Nat)
    (hn : .host ∉ ps ∧ .alert ∉ ps) : Safety.Quiet s (t.sent pba msi) := by
  obtain ⟨hh, ha⟩ := hn
  have hcore : t.hostCore = s.hostCore := h .host hh
  have halert : t.host.alert = s.host.alert := h .alert ha
  have hhost : t.host = s.host := by
    calc t.host = { t.hostCore with alert := t.host.alert } := rfl
      _ = s.host := by rw [hcore, halert]; rfl
  exact ⟨pba, msi, by rw [State.sent, hhost]⟩

/-- An event of the powered chip has its effect and sends interrupts. -/
theorem evt_sent {s : State} {f : State → State} {ps : List Part} (ha : s.alive = true) (h : Only ps s (f s))
    (hn : .pending ∉ ps ∧ .fuse ∉ ps) : ∃ pba msi, evt f s = .next ((f s).sent pba msi) := by
  obtain ⟨hp, hf⟩ := hn
  obtain ⟨pba, msi, hq⟩ := settle_eq s (f s)
  have hpend : (f s).pending = s.pending := h .pending hp
  have hfuse : (f s).fuse = s.fuse := h .fuse hf
  exact ⟨pba, msi, by simp only [evt, done, ha, if_true, hq, keep, State.sent, ← hpend, ← hfuse]⟩

theorem mbStart_only (s : State) (h : MbHdr) : Only [.host] s (s.mbStart h) := .of_eq rfl (by decide)

/-- Only the host interface changed, and of it no alert bit. -/
theorem only_host {u t : State} (e : t = { u with host := t.host }) (ha : t.host.alert = u.host.alert) : Only [.host] u t := by
  intro p hp
  cases p
  case alert => exact ha
  case host => exact absurd (List.mem_singleton_self _) hp
  all_goals exact (congrArg (Part.Same _ u) e).mpr rfl

/-- What a command's own rules leave of the host interface once its slot has started. -/
theorem Only.host_eq {ps : List Part} {s t : State} (h : Only ps s t) (hh : .host ∉ ps) :
    t.host = { s.host with alert := t.host.alert } := by
  have hcore : t.hostCore = s.hostCore := h .host hh
  calc t.host = { t.hostCore with alert := t.host.alert } := rfl
    _ = _ := by rw [hcore]; rfl

section
variable {s : State} {c : MbCheck} {h : MbHdr} {i : Instr} {body : State → Answer} {p : List Byte} {u : State} {ps : List Part}

/-- A served command that completes at once: its answer, and the frame of its own rules. -/
theorem mbCmd_done_only {st : Nat} (hs : Safety.served s h c.len = true) (hr : c.rsv = false) (hz : c.zero = false)
    (hg : c.gated (s.mbStart h) = false) (hb : body (s.mbStart h) = .done st p u) (hu : Only ps (s.mbStart h) u)
    (hn : .host ∉ ps ∧ .pending ∉ ps ∧ .fuse ∉ ps) :
    ∃ t, mbCmd h i (mbServe c h body) s = .next t ∧ Safety.AnsweredWith h c.op st p s t ∧ t.host.alert = u.host.alert ∧
      Only (.host :: ps) s t ∧ t = { u with host := t.host } := by
  obtain ⟨hh, hp, hf⟩ := hn
  obtain ⟨t, e, ha, hal, ht⟩ := mbCmd_done (i := i) hs hr hz hg hb ⟨_, hu.host_eq hh⟩
  have hpend : u.pending = s.pending := hu .pending hp
  have hfuse : u.fuse = s.fuse := hu .fuse hf
  rw [← hpend, ← hfuse] at ht
  refine ⟨t, e, ha, hal, ?_, ht⟩
  exact (((mbStart_only s h).mono (by simp)).trans (hu.mono (List.subset_cons_self _ _))).trans ((only_host ht hal).mono (by simp))

/-- A served command that completes later. -/
theorem mbCmd_later_only {w : Wait} (hs : Safety.served s h c.len = true) (hr : c.rsv = false) (hz : c.zero = false)
    (hg : c.gated (s.mbStart h) = false) (hb : body (s.mbStart h) = .later w p u) (hu : Only ps (s.mbStart h) u)
    (hn : .host ∉ ps ∧ .pending ∉ ps ∧ .fuse ∉ ps) :
    ∃ t, mbCmd h i (mbServe c h body) s = .next t ∧ Safety.Waits h c.op w p s t ∧ t.host.alert = u.host.alert ∧
      Only (.host :: ps) s t ∧ t = { u with host := t.host } := by
  obtain ⟨hh, hp, hf⟩ := hn
  obtain ⟨t, e, ha, hal, ht⟩ := mbCmd_later (i := i) hs hr hz hg hb ⟨_, hu.host_eq hh⟩
  have hpend : u.pending = s.pending := hu .pending hp
  have hfuse : u.fuse = s.fuse := hu .fuse hf
  rw [← hpend, ← hfuse] at ht
  refine ⟨t, e, ha, hal, ?_, ht⟩
  exact (((mbStart_only s h).mono (by simp)).trans (hu.mono (List.subset_cons_self _ _))).trans ((only_host ht hal).mono (by simp))

/-- A served command whose own rules change nothing. -/
theorem mbCmd_answer {st : Nat} (hs : Safety.served s h c.len = true) (hr : c.rsv = false) (hz : c.zero = false)
    (hg : c.gated (s.mbStart h) = false) (hb : body (s.mbStart h) = .done st p (s.mbStart h)) :
    ∃ t, mbCmd h i (mbServe c h body) s = .next t ∧ Safety.Answered h c.op st p s t ∧ t = { s with host := t.host } := by
  obtain ⟨t, e, ha, hal, -, ht⟩ := mbCmd_done_only (i := i) hs hr hz hg hb (.refl (ps := []) _) (by decide)
  exact ⟨t, e, ⟨ha, hal⟩, ht⟩

end

/-! ## Page reports -/

section
variable {s : State} {h : MbHdr}

theorem exec_pageQuery (handle : Byte) (hs : Safety.served s h 4 = true) :
    ∃ t, exec (.pageQuery h handle 0) s = .next t ∧ Safety.Answered h 0x0503 0 (s.queryBytes handle.toNat) s t ∧
      t = { s with host := t.host } :=
  mbCmd_answer hs rfl rfl rfl rfl

theorem exec_pageReport {handle : Byte} {r : Report} (hs : Safety.served s h 4 = true)
    (hr : s.bat.reports.get none handle.toNat = some r) (hw : r.awaitTwin = false) :
    ∃ t, exec (.pageReport h handle 0) s = .next t ∧ Safety.Answered h 0x0504 0 r.bytes s t ∧ t = { s with host := t.host } :=
  mbCmd_answer hs rfl rfl rfl (by simp [pageReportBody, hr, hw, okWith])

theorem exec_pageReport_none {handle : Byte} (hs : Safety.served s h 4 = true)
    (hr : s.bat.reports.get none handle.toNat = none) :
    ∃ t, exec (.pageReport h handle 0) s = .next t ∧ Safety.Answered h 0x0504 0x0511 [] s t ∧ t = { s with host := t.host } :=
  mbCmd_answer hs rfl rfl rfl (by simp [pageReportBody, hr, fail])

theorem exec_pageGetWeb (hs : Safety.served s h 0 = true) :
    ∃ t, exec (.pageGetWeb h) s = .next t ∧ Safety.Answered h 0x0505 0 s.webBytes s t ∧ t = { s with host := t.host } :=
  mbCmd_answer hs rfl rfl rfl rfl

end

/-- Settles O11: the three read commands answer from the page's records and the estimator, and change nothing but their slot. -/
theorem pageReportsAnswer : Obligations.PageReportsAnswer :=
  ⟨fun _ _ handle hs => exec_pageQuery handle hs, fun _ _ _ _ hs hr hw => exec_pageReport hs hr hw,
    fun _ _ _ hs hr => exec_pageReport_none hs hr, fun _ _ hs => exec_pageGetWeb hs⟩


/-! ## Staging a geometry, the overspeed policy -/

section
variable {s : State} {h : MbHdr}

/-- The gate of Table 09-5 on the chip that supervises: the command's own rules, and what it accepts is forwarded (R275). -/
theorem twinGate_ok {bad : Option Nat} {op : Nat} {payload p : List Byte} {body : State → Answer} {t : State} (hbad : bad = none)
    (hs : s.notSupervisor = false) (hb : body s = .done 0 p t) :
    twinGate bad op payload body s = .done 0 p (t.forward9 op atOnce payload) := by
  simp [twinGate, twinGateAt, hbad, hs, hb]

/-- The same for a command that completes later. -/
theorem twinGate_later {bad : Option Nat} {op : Nat} {payload p : List Byte} {body : State → Answer} {w : Wait} {t : State}
    (hbad : bad = none) (hs : s.notSupervisor = false) (hb : body s = .later w p t) :
    twinGate bad op payload body s = .later w p (t.forward9 op atOnce payload) := by
  simp [twinGate, twinGateAt, hbad, hs, hb]

/-- A refusal by the command's own rules stands. -/
theorem twinGate_refused {bad : Option Nat} {op c : Nat} {payload p : List Byte} {body : State → Answer} {t : State}
    (hbad : bad = none) (hs : s.notSupervisor = false) (hb : body s = .done (c + 1) p t) :
    twinGate bad op payload body s = .done (c + 1) p t := by
  simp [twinGate, twinGateAt, hbad, hs, hb]

/-- A field check that fails comes first (R404). -/
theorem twinGate_bad {bad : Option Nat} {c op : Nat} {payload : List Byte} {body : State → Answer} (hbad : bad = some c) :
    twinGate bad op payload body s = .done c [] s := by
  simp [twinGate, twinGateAt, hbad, fail]

/-- On the chip that does not supervise the gate answers TWIN_NOT_SUPERVISOR. -/
theorem twinGate_notSupervisor {bad : Option Nat} {op : Nat} {payload : List Byte} {body : State → Answer} (hbad : bad = none)
    (hs : s.notSupervisor = true) : twinGate bad op payload body s = .done 0x0C02 [] s := by
  simp [twinGate, twinGateAt, hbad, hs, fail]

/-- Forwarding is for a pair in UP. -/
theorem State.forward9_of_not_pairUp {op : Nat} {key : BitVec 32} {payload : List Byte} (hp : s.pairUp = false) :
    s.forward9 op key payload = s := by
  simp [State.forward9, hp]

theorem State.forward9_eq (op : Nat) (key : BitVec 32) (payload : List Byte) :
    s.forward9 op key payload = { s with twin := (s.forward9 op key payload).twin } := (s.forward9_only op key payload).eq_patch

/-- A command of Table 09-5 that changes the chip by `g`: accepted, it may be forwarded to the partner of a pair in UP. -/
theorem mbCmd_twinGate {c : MbCheck} {i : Instr} {bad : Option Nat} {op : Nat} {payload : List Byte} {g : State → State}
    {ps : List Part} (hbad : bad = none) (hs : Safety.served s h c.len = true) (hn : s.notSupervisor = false)
    (hu : Only ps (s.mbStart h) (g (s.mbStart h))) (hr : c.rsv = false) (hz : c.zero = false) (hg : c.gated (s.mbStart h) = false)
    (hps : (.host ∉ ps ∧ .pending ∉ ps ∧ .fuse ∉ ps) ∧ .twin ∉ ps ∧ .boot ∉ ps) :
    ∃ t, mbCmd h i (mbServe c h (twinGate bad op payload fun s => ok (g s))) s = .next t ∧ Safety.AnsweredWith h c.op 0 [] s t ∧
      t.host.alert = (g (s.mbStart h)).host.alert ∧ t = { g (s.mbStart h) with host := t.host, twin := t.twin } ∧
      (s.pairUp = false → t.twin = s.twin) := by
  obtain ⟨⟨hh, hp, hf⟩, htw, hbo⟩ := hps
  let u := g (s.mbStart h)
  have hfr : Only (ps ++ [.twin]) (s.mbStart h) (u.forward9 op atOnce payload) := hu.step (State.forward9_only _ _ _ _)
  obtain ⟨t, e, ha, hal, -, ht⟩ := mbCmd_done_only (i := i) hs hr hz hg
    (twinGate_ok (body := fun s => ok (g s)) (op := op) (payload := payload) hbad hn rfl) hfr (by simp [hh, hp, hf])
  have htwin : t.twin = (u.forward9 op atOnce payload).twin := by rw [ht]
  refine ⟨t, e, ha, ?_, ?_, fun hup => ?_⟩
  · rw [hal, State.forward9_eq]
  · rw [htwin]; rw [State.forward9_eq] at ht; exact ht
  · have hboot : u.boot = s.boot := hu .boot hbo
    have htwin' : u.twin = s.twin := hu .twin htw
    have hpair : u.pairUp = false := by simpa only [State.pairUp, hboot, htwin'] using hup
    rw [htwin, State.forward9_of_not_pairUp hpair, htwin']

/-- The same for a change that raises no alert. -/
theorem mbCmd_twinGate_answered {c : MbCheck} {i : Instr} {bad : Option Nat} {op : Nat} {payload : List Byte} {g : State → State}
    (hbad : bad = none) (hs : Safety.served s h c.len = true) (hn : s.notSupervisor = false)
    (hu : Only [.geo] (s.mbStart h) (g (s.mbStart h))) (hr : c.rsv = false) (hz : c.zero = false)
    (hg : c.gated (s.mbStart h) = false) :
    ∃ t, mbCmd h i (mbServe c h (twinGate bad op payload fun s => ok (g s))) s = .next t ∧ Safety.Answered h c.op 0 [] s t ∧
      t = { g (s.mbStart h) with host := t.host, twin := t.twin } ∧ (s.pairUp = false → t.twin = s.twin) := by
  obtain ⟨t, e, ha, hal, ht, htw⟩ := mbCmd_twinGate (i := i) (op := op) (payload := payload) hbad hs hn hu hr hz hg (by decide)
  have halert : (g (s.mbStart h)).host.alert = s.host.alert := hu .alert (by decide)
  exact ⟨t, e, ⟨ha, hal.trans halert⟩, ht, htw⟩

/-- BAR_SET_WEB stages the web settings and no more. -/
theorem exec_barSetWeb {q : BarWebReq} (hs : Safety.served s h 32 = true) (hn : s.notSupervisor = false) (ha : q.altPhase.toNat ≤ 1)
    (he : q.estEdges ≠ 0) (hw : q.segWidth ≠ 0) (hb : barWebBad q = none) :
    ∃ t, exec (.barSetWeb h q) s = .next t ∧ Safety.Answered h 0x0201 0 [] s t ∧
      t = { s with host := t.host, twin := t.twin, geo := { s.geo with staged := { s.geo.staged with web := some (webOfReq q) } } } ∧
      (s.pairUp = false → t.twin = s.twin) :=
  mbCmd_twinGate_answered (g := stageWeb q) hb hs hn (State.updGeo_only _ _) (by simp [ha]) (by simpa using And.intro he hw) rfl

/-- BAR_SET_WEB with a field out of range answers its status. -/
theorem exec_barSetWeb_bad {q : BarWebReq} {c : Nat} (hs : Safety.served s h 32 = true) (ha : q.altPhase.toNat ≤ 1)
    (he : q.estEdges ≠ 0) (hw : q.segWidth ≠ 0) (hb : barWebBad q = some c) :
    ∃ t, exec (.barSetWeb h q) s = .next t ∧ Safety.Answered h 0x0201 c [] s t ∧ t = { s with host := t.host } :=
  mbCmd_answer hs (by simp [ha]) (by simpa using And.intro he hw) rfl (twinGate_bad hb)

/-- BAR_SET_PORT stages the settings of its port and no more. -/
theorem exec_barSetPort {q : BarPortReq} (hs : Safety.served s h 16 = true) (hn : s.notSupervisor = false) (hf : q.flags.toNat ≤ 7)
    (hz : q.nozzles ≠ 0) (hb : barPortBad q = none) :
    ∃ t, exec (.barSetPort h q) s = .next t ∧ Safety.Answered h 0x0202 0 [] s t ∧
      t = { s with host := t.host, twin := t.twin, geo := { s.geo with staged := { s.geo.staged with
        port := s.geo.staged.port.set {} q.port.toNat (portOfReq q) } } } ∧
      (s.pairUp = false → t.twin = s.twin) :=
  mbCmd_twinGate_answered (g := stagePort q) hb hs hn (State.updGeo_only _ _) (by simp [hf]) (beq_eq_false_iff_ne.2 hz) rfl

/-- BAR_SET_PORT on the chip that does not supervise. -/
theorem exec_barSetPort_notSupervisor {q : BarPortReq} (hs : Safety.served s h 16 = true) (hn : s.notSupervisor = true)
    (hf : q.flags.toNat ≤ 7) (hz : q.nozzles ≠ 0) (hb : barPortBad q = none) :
    ∃ t, exec (.barSetPort h q) s = .next t ∧ Safety.Answered h 0x0202 0x0C02 [] s t ∧ t = { s with host := t.host } :=
  mbCmd_answer hs (by simp [hf]) (beq_eq_false_iff_ne.2 hz) rfl (twinGate_notSupervisor hb hn)

/-- Policy and fraction are set, the fraction journaled; of the Batten queue the speed check alone is touched (R50, R71). -/
theorem setPolicy_only (policy fraction : Nat) : Only [.geo, .nvm, .speedLimit, .alert] s (setPolicy policy fraction s) :=
  (((s.updGeo_only _).step (State.updNvm_only _ _)).step (State.speedCheck_only _)).mono (by decide)

theorem setPolicy_eq (policy fraction : Nat) : setPolicy policy fraction s =
    { s with
      host := (setPolicy policy fraction s).host, geo := { s.geo with policy := policy, fraction := fraction },
      nvm := { s.nvm with id := { s.nvm.id with policyFraction := fraction } },
      bat := { s.bat with speedLimit := (setPolicy policy fraction s).bat.speedLimit } } :=
  ((State.speedCheck_only _).mono (qs := [.speedLimit, .alert, .host]) (by decide)).eq_patch

/-- BAR_SET_POLICY sets the policy and the fraction. -/
theorem exec_barSetPolicy {policy : Byte} {fraction : BitVec 16} (hs : Safety.served s h 4 = true) (hn : s.notSupervisor = false)
    (hp : policy.toNat ≤ 2) (hf : 0x8000 ≤ fraction.toNat) :
    ∃ t, exec (.barSetPolicy h policy 0 fraction) s = .next t ∧ Safety.AnsweredWith h 0x0204 0 [] s t ∧
      t = { s with host := t.host, twin := t.twin, bat := t.bat,
                   geo := { s.geo with policy := policy.toNat, fraction := fraction.toNat },
                   nvm := { s.nvm with id := { s.nvm.id with policyFraction := fraction.toNat } } } ∧
      t.bat = { s.bat with speedLimit := t.bat.speedLimit } ∧ (s.pairUp = false → t.twin = s.twin) := by
  obtain ⟨t, e, ha, -, ht, htw⟩ := mbCmd_twinGate (s := s) (h := h) (c := { op := 0x0204, len := 4 }) (op := 0x0204)
    (i := .barSetPolicy h policy 0 fraction) (g := setPolicy policy.toNat fraction.toNat)
    (bad := if 2 < policy.toNat ∨ fraction.toNat < 0x8000 then some 0x0209 else none)
    (payload := [policy, 0] ++ le 2 fraction.toNat) (if_neg (by omega)) hs hn (setPolicy_only _ _) rfl rfl rfl (by decide)
  rw [setPolicy_eq] at ht
  exact ⟨t, e, ha, ht.trans (by rw [ht]; rfl), by rw [ht]; rfl, htw⟩

end

/-- Settles O4: the three staging commands run by their own rules behind the gate of Table 09-5. -/
theorem barSettingsStage : Obligations.BarSettingsStage :=
  ⟨fun _ _ _ hs hn ha he hw hb => exec_barSetWeb hs hn ha he hw hb, fun _ _ _ hs hn hf hz hb => exec_barSetPort hs hn hf hz hb,
    fun _ _ _ _ hs hn hp hf => exec_barSetPolicy hs hn hp hf, fun _ _ _ _ hs ha he hw hb => exec_barSetWeb_bad hs ha he hw hb,
    fun _ _ _ hs hn hf hz hb => exec_barSetPort_notSupervisor hs hn hf hz hb⟩

end Sys2Proof.Machine

namespace Sys2Proof.Machine

/-! ## Admitting and aborting pages -/

section
variable {s : State} {h : MbHdr} {q : PageAdmitReq} {g : Geo} {w : Web}

/-- The speed check sees no slot. -/
theorem State.speedCheck_mbStart_speedLimit (h : MbHdr) : (s.mbStart h).speedCheck.bat.speedLimit = s.speedCheck.bat.speedLimit := by
  have hgov : (s.mbStart h).govern = s.govern := rfl
  have hfrac : (s.mbStart h).fraction = s.fraction := rfl
  have hmm : (s.mbStart h).webMm = s.webMm := rfl
  unfold State.speedCheck
  rw [hgov, hfrac, hmm, State.mbStart_bat]
  split
  · rfl
  · split
    · rfl
    · split <;> rfl

/-- The state that the checks of R52 look at: after the speed check, apart from the slot the state at hand. -/
theorem State.speedCheck_mbStart (h : MbHdr) :
    (s.mbStart h).speedCheck = { s.speedCheck with host := (s.mbStart h).speedCheck.host } := by
  have h1 : (s.mbStart h).speedCheck = { s with
      host := (s.mbStart h).speedCheck.host, bat := { s.bat with speedLimit := (s.mbStart h).speedCheck.bat.speedLimit } } :=
    ((s.mbStart h).speedCheck_only.mono (qs := [.speedLimit, .alert, .host]) (by decide)).eq_patch
  have h2 : s.speedCheck = { s with host := s.speedCheck.host, bat := { s.bat with speedLimit := s.speedCheck.bat.speedLimit } } :=
    (s.speedCheck_only.mono (qs := [.speedLimit, .alert, .host]) (by decide)).eq_patch
  rw [h2]
  rw [h1, State.speedCheck_mbStart_speedLimit]

theorem admitBad_mbStart (h : MbHdr) : admitBad g w q (s.mbStart h).speedCheck = admitBad g w q s.speedCheck := by
  rw [State.speedCheck_mbStart]; rfl

/-- The figures of an admission do not depend on the speed limit. -/
theorem State.admitBytes_speedCheck (par : Nat) : s.speedCheck.admitBytes g w q par = s.admitBytes g w q par := by
  have e : s.speedCheck = { s with host := s.speedCheck.host, bat := { s.bat with speedLimit := s.speedCheck.bat.speedLimit } } :=
    (s.speedCheck_only.mono (qs := [.speedLimit, .alert, .host]) (by decide)).eq_patch
  rw [e]; rfl

theorem State.startParity_speedCheck (top : Int) : s.speedCheck.startParity w top = s.startParity w top := by
  have e : s.speedCheck.bat.lastPage = s.bat.lastPage := s.speedCheck_only .lastPage (by decide)
  rw [State.startParity, e]; rfl

/-- What queueing a page touches besides the queue. -/
theorem State.queuePage_only (pg : Page) :
    Only [.pages, .progress, .left, .reports, .lastPage, .checks, .fire, .vis, .speedLimit, .alert] s (s.queuePage pg) := by
  unfold State.queuePage
  extract_lets marked s1 s2 s3
  have h1 : Only [.pages, .progress, .left, .reports, .lastPage, .checks] s s1 := .of_eq rfl (by decide)
  exact (((h1.step (s1.updFire_only _)).step (s2.updVis_only _)).step s3.speedCheck_only).mono (by decide)

/-- The page stands in the queue in the order of its top, and its handle has no report. -/
theorem State.queuePage_queue (pg : Page) : (s.queuePage pg).bat.pages = insertPage pg s.bat.pages ∧
    (s.queuePage pg).bat.reports.get none pg.handle = none := by
  unfold State.queuePage
  extract_lets marked s1 s2 s3
  have hpages : s3.speedCheck.bat.pages = s3.bat.pages := s3.speedCheck_only .pages (by decide)
  have hreports : s3.speedCheck.bat.reports = s3.bat.reports := s3.speedCheck_only .reports (by decide)
  exact ⟨hpages, hreports ▸ SMap.get_set_same none s.bat.reports pg.handle none⟩

theorem State.countAdmission_only : Only [.twin, .log, .alert] s s.countAdmission := by
  have h1 := s.updTwin_only fun t => { t with pagesSince := t.pagesSince + 1 }
  unfold State.countAdmission State.castleFallsDue
  refine .ite (.refl s) ?_
  dsimp only
  split
  · exact ((h1.step (State.updTwin_only _ _)).step (State.castleTry_only _)).mono (by decide)
  · exact h1.mono (by decide)

theorem State.pageStart_only (k : Nat) : Only [.time] s (s.pageStart k) := by
  unfold State.pageStart
  split
  · exact .ite (s.pressSend_only _ _ _ _ _ _) (.refl s)
  · exact .refl s

/-- The page that a PAGE_ADMIT brings, under the parity and the policy of its admission. -/
def State.pageFor (s : State) (w : Web) (q : PageAdmitReq) : Page := pageOfReq q (s.startParity w q.top.toInt) s.geo.policy

/-- The state that an accepted PAGE_ADMIT leaves before it is answered or sent to the partner. -/
def State.admitted (s : State) (w : Web) (q : PageAdmitReq) : State := (s.speedCheck.queuePage (s.pageFor w q)).countAdmission

theorem State.admitted_only : Only [.pages, .progress, .left, .reports, .lastPage, .checks, .fire, .vis, .speedLimit, .alert, .twin, .log]
    s (s.admitted w q) :=
  ((s.speedCheck_only.step (State.queuePage_only _)).step State.countAdmission_only).mono (by decide)

theorem State.admitted_queue : (s.admitted w q).bat.pages = insertPage (s.pageFor w q) s.bat.pages ∧
    (s.admitted w q).bat.reports.get none q.handle.toNat = none := by
  obtain ⟨hp, hr⟩ := s.speedCheck.queuePage_queue (s.pageFor w q)
  have hcount : Only [.twin, .log, .alert] (s.speedCheck.queuePage (s.pageFor w q)) (s.admitted w q) := State.countAdmission_only
  have hold : s.speedCheck.bat.pages = s.bat.pages := s.speedCheck_only .pages (by decide)
  have hpages : (s.admitted w q).bat.pages = _ := hcount .pages (by decide)
  have hreports : (s.admitted w q).bat.reports = _ := hcount .reports (by decide)
  exact ⟨hpages.trans (hold ▸ hp), (congrArg (SMap.get none · q.handle.toNat) hreports).trans hr⟩

/-- A check of R52 that fails leaves the state as it was (log: R50 is evaluated for the check alone). -/
theorem pageAdmitBody_bad {c : Nat} (hg : s.geo.committed = some g) (hw : g.web = some w)
    (hb : admitBad g w q s.speedCheck = some c) : pageAdmitBody q s = .done c [] s := by
  obtain ⟨web, port⟩ := g
  subst hw
  have hgeo : s.speedCheck.geo = s.geo := s.speedCheck_only .geo (by decide)
  simp [pageAdmitBody, hgeo, hg, hb, fail]

/-- With every check of R52 passed the page is queued; a chip alone or in SOLO answers at once, a pair once the partner has
acknowledged (R272). -/
theorem pageAdmitBody_ok (hg : s.geo.committed = some g) (hw : g.web = some w) (hb : admitBad g w q s.speedCheck = none) :
    ∃ u, Only [.pages, .progress, .left, .reports, .lastPage, .checks, .fire, .vis, .speedLimit, .alert, .twin, .log, .time] s u ∧
      u.bat.pages = insertPage (s.pageFor w q) s.bat.pages ∧ u.bat.reports.get none q.handle.toNat = none ∧
      pageAdmitBody q s =
        if s.boot.twinEn && !s.twin.solo then .later .admission (s.admitBytes g w q (s.startParity w q.top.toInt)) u
        else .done 0 (s.admitBytes g w q (s.startParity w q.top.toInt)) u := by
  obtain ⟨web, port⟩ := g
  subst hw
  have hgeo : s.speedCheck.geo = s.geo := s.speedCheck_only .geo (by decide)
  have hboot : s.speedCheck.boot = s.boot := s.speedCheck_only .boot (by decide)
  have htwin : s.speedCheck.twin = s.twin := s.speedCheck_only .twin (by decide)
  obtain ⟨hp, hr⟩ := State.admitted_queue (s := s) (w := w) (q := q)
  have tail : ∀ u, Only [.twin, .time] (s.admitted w q) u →
      Only [.pages, .progress, .left, .reports, .lastPage, .checks, .fire, .vis, .speedLimit, .alert, .twin, .log, .time] s u ∧
        u.bat.pages = insertPage (s.pageFor w q) s.bat.pages ∧ u.bat.reports.get none q.handle.toNat = none := by
    intro u hu
    have hpages : u.bat.pages = (s.admitted w q).bat.pages := hu .pages (by decide)
    have hreports : u.bat.reports = (s.admitted w q).bat.reports := hu .reports (by decide)
    exact ⟨(State.admitted_only.step hu).mono (by decide), hpages.trans hp, hreports ▸ hr⟩
  simp only [pageAdmitBody, hgeo, hg, hb, hboot, htwin, State.admitBytes_speedCheck, State.startParity_speedCheck]
  split
  · obtain ⟨hfr, hpages, hreports⟩ := tail _ (((State.twinSend_only _ _).step (State.updTwin_only _ _)).mono (by decide))
    exact ⟨_, hfr, hpages, hreports, rfl⟩
  · obtain ⟨hfr, hpages, hreports⟩ := tail _ ((State.pageStart_only _).mono (by decide))
    exact ⟨_, hfr, hpages, hreports, rfl⟩

/-- What the common checks look at for a PAGE_ADMIT. -/
def pageAdmitCheck (q : PageAdmitReq) : MbCheck :=
  { op := 0x0501, len := 24, rsv := 1 < q.flags.toNat || q.rsv != 0, zero := q.lines == 0,
    gated := fun s => s.batGated || s.stepAccepted 1 }

theorem exec_pageAdmit_eq (h : MbHdr) (q : PageAdmitReq) (s : State) : exec (.pageAdmit h q) s =
    mbCmd h (.pageAdmit h q) (mbServe (pageAdmitCheck q) h (checked (pageParamBad q) (pageAdmitBody q))) s := rfl

/-- PAGE_ADMIT with every check passed. -/
theorem exec_pageAdmit (hs : Safety.served s h 24 = true) (hg : s.geo.committed = some g) (hw : g.web = some w)
    (hf : q.flags.toNat ≤ 1) (hr : q.rsv = 0) (hl : q.lines ≠ 0) (hbat : s.batGated = false) (hstep : s.stepAccepted 1 = false)
    (hq : pageParamBad q = none) (hb : admitBad g w q s.speedCheck = none) :
    ∃ t, exec (.pageAdmit h q) s = .next t ∧
      t.bat.pages = insertPage (pageOfReq q (s.startParity w q.top.toInt) s.geo.policy) s.bat.pages ∧
      t.bat.reports.get none q.handle.toNat = none ∧ t.bat.lines = s.bat.lines ∧ t.geo = s.geo ∧ t.slate = s.slate ∧
      t.port = s.port ∧
      if s.boot.twinEn && !s.twin.solo then Safety.Waits h 0x0501 .admission (s.admitBytes g w q (s.startParity w q.top.toInt)) s t
      else Safety.AnsweredWith h 0x0501 0 (s.admitBytes g w q (s.startParity w q.top.toInt)) s t := by
  obtain ⟨u, hu, hp, hrep, hbody⟩ := pageAdmitBody_ok (s := s.mbStart h) (q := q) hg hw ((admitBad_mbStart h).trans hb)
  have hserve : checked (pageParamBad q) (pageAdmitBody q) (s.mbStart h) =
      if s.boot.twinEn && !s.twin.solo then .later .admission (s.admitBytes g w q (s.startParity w q.top.toInt)) u
      else .done 0 (s.admitBytes g w q (s.startParity w q.top.toInt)) u := by
    rw [hq]; exact hbody
  have hrsv : (pageAdmitCheck q).rsv = false := by simp [pageAdmitCheck, hf, hr]
  have hzero : (pageAdmitCheck q).zero = false := beq_eq_false_iff_ne.2 hl
  have hgate : (pageAdmitCheck q).gated (s.mbStart h) = false := Bool.or_eq_false_iff.2 ⟨hbat, hstep⟩
  have left : ∀ t, Only [.host, .pages, .progress, .left, .reports, .lastPage, .checks, .fire, .vis, .speedLimit, .alert, .twin, .log,
      .time] s t → t = { u with host := t.host } → t.bat.pages = insertPage (s.pageFor w q) s.bat.pages ∧
      t.bat.reports.get none q.handle.toNat = none ∧ t.bat.lines = s.bat.lines ∧ t.geo = s.geo ∧ t.slate = s.slate ∧
      t.port = s.port := by
    intro t ho ht
    have hbat : t.bat = u.bat := by rw [ht]
    exact ⟨hbat ▸ hp, hbat ▸ hrep, ho .lines (by decide), ho .geo (by decide), ho .slate (by decide), ho .port (by decide)⟩
  rw [exec_pageAdmit_eq]
  split
  case isTrue hpair =>
    rw [if_pos hpair] at hserve
    obtain ⟨t, e, hw, -, ho, ht⟩ := mbCmd_later_only (i := .pageAdmit h q) hs hrsv hzero hgate hserve hu (by decide)
    obtain ⟨h1, h2, h3, h4, h5, h6⟩ := left t ho ht
    exact ⟨t, e, h1, h2, h3, h4, h5, h6, hw⟩
  case isFalse hpair =>
    rw [if_neg hpair] at hserve
    obtain ⟨t, e, hw, -, ho, ht⟩ := mbCmd_done_only (i := .pageAdmit h q) hs hrsv hzero hgate hserve hu (by decide)
    obtain ⟨h1, h2, h3, h4, h5, h6⟩ := left t ho ht
    exact ⟨t, e, h1, h2, h3, h4, h5, h6, hw⟩

/-- PAGE_ADMIT with a failing check of R52. -/
theorem exec_pageAdmit_bad {c : Nat} (hs : Safety.served s h 24 = true) (hg : s.geo.committed = some g) (hw : g.web = some w)
    (hf : q.flags.toNat ≤ 1) (hr : q.rsv = 0) (hl : q.lines ≠ 0) (hbat : s.batGated = false) (hstep : s.stepAccepted 1 = false)
    (hq : pageParamBad q = none) (hb : admitBad g w q s.speedCheck = some c) :
    ∃ t, exec (.pageAdmit h q) s = .next t ∧ Safety.Answered h 0x0501 c [] s t ∧ t = { s with host := t.host } :=
  mbCmd_answer hs (by simp [hf, hr]) (beq_eq_false_iff_ne.2 hl) (Bool.or_eq_false_iff.2 ⟨hbat, hstep⟩)
    (by rw [hq]; exact pageAdmitBody_bad hg hw ((admitBad_mbStart h).trans hb))

end
end Sys2Proof.Machine

namespace Sys2Proof.Machine

section
variable {s : State} {h : MbHdr}

theorem State.page?_congr {t : State} (e : t.bat.pages = s.bat.pages) (k : Nat) : t.page? k = s.page? k := by
  rw [State.page?, State.page?, e]

theorem State.page?_handle {k : Nat} {pg : Page} (hp : s.page? k = some pg) : pg.handle = k :=
  beq_iff_eq.1 (List.find?_some (p := fun q : Page => q.handle == k) hp)

/-- A page that has left is no longer queued. -/
theorem State.leavePage_page? (next : Nat) (pg : Page) : (s.leavePage next pg).page? pg.handle = none :=
  s.page?_of_filter (s.leavePage_queue next pg).1

/-- Ending a page early: its lines cease, it is marked, and it leaves. -/
theorem State.endPage_only (mark k : Nat) :
    Only [.port, .lines, .fire, .pages, .progress, .quiet, .left, .slate, .vis, .twin, .reports, .log, .alert, .loop, .free, .dram,
      .speedLimit] s (s.endPage mark k) := by
  unfold State.endPage
  split
  case h_1 => exact .refl s
  case h_2 pg _ =>
    extract_lets next first s1 s2
    have h1 : Only [.port, .lines] s s1 := Only.foldl (g := fun t l => t.ceaseLine false l) (fun t l => t.ceaseLine_only false l) _ s
    have h2 : Only [.port, .lines, .fire, .pages, .reports] s s2 := (h1.step (s1.markPage_only _ _ _ _)).mono (by decide)
    split
    · exact (h2.step (s2.leavePage_only _ _)).mono (by decide)
    · exact h2.mono (by decide)

theorem State.endPage_page? (mark k : Nat) : (s.endPage mark k).page? k = none := by
  unfold State.endPage
  split
  case h_1 hk => exact hk
  case h_2 pg _ =>
    extract_lets next first s1 s2
    split
    case h_1 pg' hk => exact State.page?_handle hk ▸ s2.leavePage_page? next pg'
    case h_2 hk => exact hk

/-- What PAGE_ABORT touches. -/
theorem State.abortPage_only (pg : Page) :
    Only [.port, .lines, .fire, .pages, .progress, .quiet, .left, .slate, .vis, .twin, .reports, .log, .alert, .loop, .free, .dram,
      .speedLimit, .boot] s (s.abortPage pg) :=
  (((s.mirrorSend_only _).step (State.endPage_only _ _)).step (State.finishHeld_only _)).mono (by decide)

theorem State.abortPage_page? (pg : Page) : (s.abortPage pg).page? pg.handle = none := by
  have held : ∀ t : State, t.finishHeld.page? pg.handle = t.page? pg.handle :=
    fun t => State.page?_congr (t.finishHeld_only .pages (by decide)) _
  exact (held _).trans (State.endPage_page? _ _)

/-- PAGE_ABORT of a queued handle on the LEAD. -/
theorem exec_pageAbort {handle : Byte} {pg : Page} (hs : Safety.served s h 4 = true) (hlead : s.isLead = true)
    (hp : s.page? handle.toNat = some pg) :
    ∃ t, exec (.pageAbort h handle 0 0) s = .next t ∧ Safety.AnsweredWith h 0x0502 0 [] s t ∧ t.page? handle.toNat = none := by
  have hlead' : (s.mbStart h).isLead = true := hlead
  have hp' : (s.mbStart h).page? handle.toNat = some pg := hp
  have hbody : pageAbortBody handle 0 (s.mbStart h) = .done 0 [] ((s.mbStart h).abortPage pg) := by
    simp [pageAbortBody, hlead', hp', ok]
  obtain ⟨t, e, ha, -, -, ht⟩ := mbCmd_done_only (c := { op := 0x0502, len := 4 }) (i := .pageAbort h handle 0 0) hs rfl rfl rfl hbody
    (State.abortPage_only pg) (by decide)
  have hpages : t.bat.pages = ((s.mbStart h).abortPage pg).bat.pages := by rw [ht]
  refine ⟨t, e, ha, ?_⟩
  rw [State.page?_congr hpages, ← State.page?_handle hp]
  exact State.abortPage_page? pg

/-! ## The RESERVE of a pair -/

/-- On the RESERVE the second check of R52 fails (spec/02 R73). -/
theorem admitBad_of_reserve {g : Geo} {w : Web} {q : PageAdmitReq} (hen : s.boot.twinEn = true) (hrole : s.twin.role = .reserve)
    (hfrozen : s.admitFrozen = false) : admitBad g w q s = some 0x050F := by
  simp [admitBad, firstBad, hfrozen, State.roleNow, hen, hrole]

theorem exec_pageAdmit_reserve {g : Geo} {w : Web} {q : PageAdmitReq} (hs : Safety.served s h 24 = true) (hen : s.boot.twinEn = true)
    (hrole : s.twin.role = .reserve) (hfrozen : s.admitFrozen = false) (hg : s.geo.committed = some g) (hw : g.web = some w)
    (hf : q.flags.toNat ≤ 1) (hr : q.rsv = 0) (hl : q.lines ≠ 0) (hbat : s.batGated = false) (hstep : s.stepAccepted 1 = false)
    (hq : pageParamBad q = none) :
    ∃ t, exec (.pageAdmit h q) s = .next t ∧ Safety.Answered h 0x0501 0x050F [] s t ∧ t = { s with host := t.host } := by
  have hboot : s.speedCheck.boot = s.boot := s.speedCheck_only .boot (by decide)
  have htwin : s.speedCheck.twin = s.twin := s.speedCheck_only .twin (by decide)
  refine exec_pageAdmit_bad hs hg hw hf hr hl hbat hstep hq (admitBad_of_reserve ?_ ?_ ?_)
  · rw [hboot, hen]
  · rw [htwin, hrole]
  · rw [← hfrozen, State.admitFrozen, State.admitFrozen, hboot, htwin]

theorem exec_pageAbort_reserve {handle flags : Byte} (hs : Safety.served s h 4 = true) (hen : s.boot.twinEn = true)
    (hrole : s.twin.role = .reserve) (hf : flags.toNat ≤ 1) :
    ∃ t, exec (.pageAbort h handle flags 0) s = .next t ∧ Safety.Answered h 0x0502 0x050F [] s t ∧ t = { s with host := t.host } := by
  have hlead : (s.mbStart h).isLead = false := by simp [State.isLead, hen, hrole]
  exact mbCmd_answer hs (by simp [hf]) rfl rfl (by simp [pageAbortBody, hlead, fail])

end

/-- Settles O10: PAGE_ADMIT queues the page or answers the check that failed, PAGE_ABORT ends the page. -/
theorem pageCommandsQueue : Obligations.PageCommandsQueue :=
  ⟨fun _ _ _ _ _ hs hg hw hf hr hl hbat hstep hq hb => exec_pageAdmit hs hg hw hf hr hl hbat hstep hq hb,
    fun _ _ _ _ _ _ hs hg hw hf hr hl hbat hstep hq hb => exec_pageAdmit_bad hs hg hw hf hr hl hbat hstep hq hb,
    fun _ _ _ _ hs hlead hp => exec_pageAbort hs hlead hp⟩

/-- Settles O59: on the RESERVE the queue's commands are turned away by its role, and the reports are those of any chip. -/
theorem reserveServesReportsOnly : Obligations.ReserveServesReportsOnly :=
  ⟨fun _ _ _ _ _ hs hen hrole hfrozen hg hw hf hr hl hbat hstep hq =>
      exec_pageAdmit_reserve hs hen hrole hfrozen hg hw hf hr hl hbat hstep hq,
    fun _ _ _ _ hs hen hrole hf => exec_pageAbort_reserve hs hen hrole hf,
    fun _ _ handle hs _ _ => ⟨exec_pageQuery handle hs, fun _ hr hw => exec_pageReport hs hr hw⟩,
    fun _ _ hs _ _ => exec_pageGetWeb hs⟩

end Sys2Proof.Machine

namespace Sys2Proof.Machine

/-! ## Committing a geometry -/

section
variable (s : State)

/-! ### Frames of the link states -/

theorem State.markPortLost_only (p : Nat) : Only [.pages, .reports, .fire] s (s.markPortLost p) := by
  refine .foldl (fun t pg => ?_) _ _
  exact .ite (t.markPage_only _ _ _ _) (.refl t)

/-- A port that leaves UP loses its parts of the released lines, which marks their pages. -/
theorem State.leaveUp_only (resync : Bool) (p : Nat) : Only [.pages, .reports, .fire, .port, .lines] s (s.leaveUp resync p) := by
  unfold State.leaveUp
  extract_lets s1 s2
  have h1 : Only [.pages, .reports, .fire, .port, .lines] s s1 := ((s.markPortLost_only p).step (State.closeGap_only _ _)).mono (by decide)
  have h2 : Only [.lines] s1 s2 := .of_eq rfl (by decide)
  exact (((h1.step h2).step (s2.updPort_only p _)).step (State.pruneLines_only _)).mono (by decide)

theorem State.restartPort_only (p : Nat) : Only [.loop] s (s.restartPort p) := s.updLoop_only _

/-- What a port's entry into a link state touches: no geometry, no store, and of the host interface alert bits alone. -/
theorem State.enterSt_only (p : Nat) (st : LinkSt) (cause : Nat) :
    Only [.pages, .reports, .fire, .port, .lines, .health, .log, .alert, .loop, .speedLimit, .twin] s (s.enterSt p st cause) := by
  unfold State.enterSt
  extract_lets old s1 s2 s3 s4 s5 s6 s7 s8
  have h1 : Only [.pages, .reports, .fire, .port, .lines] s s1 := .ite (s.leaveUp_only _ p) (.refl s)
  have h2 : Only [.health, .log, .alert] s1 s2 := .ite (s1.endCause_only 1 p) (.refl s1)
  have h3 : Only [.port] s2 s3 := s2.updPort_only p _
  have h4 : Only [.port] s3 s4 := .ite (s3.updPort_only p _) (.refl s3)
  have h5 : Only [.log, .alert] s4 s5 := .ite (s4.logEvent_only _ _ _) (.refl s4)
  have h6 : Only [.log, .alert] s5 s6 := .ite (s5.logEvent_only _ _ _) (.refl s5)
  have h7 : Only [.health, .log, .alert] s6 s7 := .ite (s6.setCause_only 1 p) (.refl s6)
  have h8 : Only [.loop] s7 s8 := .ite (s7.restartPort_only p) (.refl s7)
  have h9 : Only [.fire, .log, .alert, .speedLimit] s8 (if (old == .up) != (st == .up) then s8.rehide.speedCheck else s8) :=
    .ite ((s8.rehide_only.step (State.speedCheck_only _)).mono (by decide)) (.refl s8)
  exact (((((((((h1.step h2).step h3).step h4).step h5).step h6).step h7).step h8).step h9).step (State.handTry_only _)).mono (by decide)

theorem State.matchPort_only (p : Nat) :
    Only [.pages, .reports, .fire, .port, .lines, .health, .log, .alert, .loop, .speedLimit, .twin] s (s.matchPort p) := by
  unfold State.matchPort
  extract_lets q
  refine .ite (.ite (.refl s) (s.enterSt_only _ _ _)) (.ite (s.enterSt_only _ _ _) ?_)
  split
  · exact .ite (s.enterSt_only _ _ _) (.ite (s.enterSt_only _ _ _) (.refl s))
  · exact .refl s

theorem State.startCompaction_only : Only [.nvm] s s.startCompaction := by
  unfold State.startCompaction
  exact .ite (.refl s) (s.updNvm_only _)

theorem State.startCompaction_geo : s.startCompaction.geo = s.geo := s.startCompaction_only .geo (by decide)

theorem State.startCompaction_id : s.startCompaction.nvm.id = s.nvm.id := by
  unfold State.startCompaction
  split <;> rfl

/-- What making a geometry current touches. -/
theorem State.useGeo_only (g : Geo) : Only [.geo, .nvm, .cal, .pages, .reports, .fire, .port, .lines, .health, .log, .alert, .loop,
    .speedLimit, .twin] s (s.useGeo g) := by
  unfold State.useGeo
  extract_lets reset s1 s2 s3 s4
  have h3 : Only [.geo, .nvm, .cal] s s3 := (((s.updGeo_only _).step (s1.updNvm_only _)).step (s2.updCal_only _)).mono (by decide)
  have h4 : Only [.pages, .reports, .fire, .port, .lines, .health, .log, .alert, .loop, .speedLimit, .twin] s3 s4 :=
    .foldl (fun t p => t.matchPort_only p) _ _
  exact (((h3.step h4).step (s4.updLoop_only _)).step (State.rehide_only _)).mono (by decide)

/-- The geometry is the committed one, and journaled (R69). -/
theorem State.useGeo_committed (g : Geo) : (s.useGeo g).geo.committed = some g ∧ (s.useGeo g).nvm.id.geo = some g := by
  unfold State.useGeo
  extract_lets reset s1 s2 s3 s4
  have h4 : Only [.pages, .reports, .fire, .port, .lines, .health, .log, .alert, .loop, .speedLimit, .twin] s3 s4 :=
    .foldl (fun t p => t.matchPort_only p) _ _
  have tail := (h4.step (s4.updLoop_only fun l => { l with ring := [] })).step (State.rehide_only _)
  have hgeo : s4.restartAll.rehide.geo = s3.geo := tail .geo (by decide)
  have hnvm : s4.restartAll.rehide.nvm = s3.nvm := tail .nvm (by decide)
  rw [hgeo, hnvm]
  exact ⟨rfl, rfl⟩

end

section
variable {s : State} {h : MbHdr} {g : Geo} {w : Web}

/-- A reserved ring changes the page store's chunks and the ring's place. -/
theorem State.reserveRing_only {u : State} (hr : s.reserveRing g w = some u) : Only [.slate, .geo] s u := by
  unfold State.reserveRing at hr
  extract_lets old s1 n base p at hr
  split at hr
  · cases hr
    exact (((s.moveChunks_only _ _ _ _ _).step (s1.moveChunks_only _ _ _ _ _)).step (State.updGeo_only _ _)).mono (by decide)
  · cases hr

/-- A failing check of BAR_COMMIT leaves no state with the ring reserved: the checks passed, the ring is. -/
theorem reserveRing_of_barCommitCheck {u : State} (hc : barCommitCheck s = .inr (w, u)) : s.reserveRing s.geo.staged w = some u := by
  unfold barCommitCheck at hc
  dsimp only at hc
  iterate 9 (split at hc; · cases hc)
  split at hc
  case h_1 => cases hc
  case h_2 t hr => cases hc; exact hr

/-- What BAR_COMMIT leaves once its checks have passed, and what it answers: at once, or with a changed layout once the store is
compacted (R69). -/
theorem barCommitBody_ok {u : State} (hc : barCommitCheck s = .inr (w, u)) :
    ∃ v, Only [.slate, .geo, .nvm, .cal, .pages, .reports, .fire, .port, .lines, .health, .log, .alert, .loop, .speedLimit, .twin] s v ∧
      v.geo.committed = some s.geo.staged ∧ v.nvm.id.geo = some s.geo.staged ∧
      barCommitBody s =
        if layoutChanges s.geo.committed s.geo.staged then .later .commit (s.geo.staged.commitBytes w) v
        else .done 0 (s.geo.staged.commitBytes w) v := by
  have hring := State.reserveRing_only (reserveRing_of_barCommitCheck hc)
  have huse := hring.step (u.useGeo_only s.geo.staged)
  obtain ⟨hcom, hjou⟩ := u.useGeo_committed s.geo.staged
  simp only [barCommitBody, hc]
  split
  · refine ⟨_, ((huse.step (State.updNvm_only _ _)).step (State.startCompaction_only _)).mono (by decide), ?_, ?_, rfl⟩
    · rw [State.startCompaction_geo, State.updNvm_geo]; exact hcom
    · simpa only [State.startCompaction_id, State.updNvm_nvm] using hjou
  · exact ⟨_, huse.mono (by decide), hcom, hjou, rfl⟩

/-- With a page admitted BAR_COMMIT's first check fails. -/
theorem barCommitBody_pages (hp : s.bat.pages ≠ []) : barCommitBody s = .done 0x0201 (zeros 20 ++ [0xFF, 0xFF, 0xFF, 0xFF]) s := by
  simp only [barCommitBody, barCommitCheck, List.isEmpty_eq_false_iff.2 hp, Bool.not_false, if_true]
  rfl

/-- BAR_COMMIT with every check passed. -/
theorem exec_barCommit {u : State} (hs : Safety.served s h 0 = true) (hn : s.notSupervisor = false)
    (hc : barCommitCheck (s.mbStart h) = .inr (w, u)) :
    ∃ t, exec (.barCommit h) s = .next t ∧ t.geo.committed = some s.geo.staged ∧ t.nvm.id.geo = some s.geo.staged ∧
      if layoutChanges s.geo.committed s.geo.staged then Safety.Waits h 0x0203 .commit (s.geo.staged.commitBytes w) s t
      else Safety.AnsweredWith h 0x0203 0 (s.geo.staged.commitBytes w) s t := by
  obtain ⟨v, hv, hcom, hjou, hbody⟩ := barCommitBody_ok hc
  rw [State.mbStart_geo] at hcom hjou hbody
  have hfr := hv.step (v.forward9_only 0x0203 atOnce [])
  have hleft : (v.forward9 0x0203 atOnce []).geo.committed = some s.geo.staged ∧
      (v.forward9 0x0203 atOnce []).nvm.id.geo = some s.geo.staged := by
    rw [State.forward9_eq]; exact ⟨hcom, hjou⟩
  show ∃ t, mbCmd h (.barCommit h) (mbServe { op := 0x0203, len := 0 } h (twinGate none 0x0203 [] barCommitBody)) s = .next t ∧ _
  split
  case isTrue hl =>
    rw [if_pos hl] at hbody
    obtain ⟨t, e, hw, -, -, ht⟩ := mbCmd_later_only (c := { op := 0x0203, len := 0 }) (i := .barCommit h) hs rfl rfl rfl
      (twinGate_later rfl hn hbody) hfr (by decide)
    have hgeo : t.geo = (v.forward9 0x0203 atOnce []).geo := by rw [ht]
    have hnvm : t.nvm = (v.forward9 0x0203 atOnce []).nvm := by rw [ht]
    exact ⟨t, e, hgeo ▸ hleft.1, hnvm ▸ hleft.2, hw⟩
  case isFalse hl =>
    rw [if_neg hl] at hbody
    obtain ⟨t, e, hw, -, -, ht⟩ := mbCmd_done_only (c := { op := 0x0203, len := 0 }) (i := .barCommit h) hs rfl rfl rfl
      (twinGate_ok rfl hn hbody) hfr (by decide)
    have hgeo : t.geo = (v.forward9 0x0203 atOnce []).geo := by rw [ht]
    have hnvm : t.nvm = (v.forward9 0x0203 atOnce []).nvm := by rw [ht]
    exact ⟨t, e, hgeo ▸ hleft.1, hnvm ▸ hleft.2, hw⟩

/-- BAR_COMMIT with a page admitted. -/
theorem exec_barCommit_pages (hs : Safety.served s h 0 = true) (hn : s.notSupervisor = false) (hp : s.bat.pages ≠ []) :
    ∃ t, exec (.barCommit h) s = .next t ∧ Safety.Answered h 0x0203 0x0201 (zeros 20 ++ [0xFF, 0xFF, 0xFF, 0xFF]) s t ∧
      t = { s with host := t.host } :=
  mbCmd_answer hs rfl rfl rfl (twinGate_refused rfl hn (barCommitBody_pages hp))

theorem exec_barGet (hs : Safety.served s h 0 = true) (hg : s.geo.committed = some g) (hw : g.web = some w) :
    ∃ t, exec (.barGet h) s = .next t ∧ Safety.Answered h 0x0205 0 (w.bytes ++ g.commitBytes w) s t ∧
      t = { s with host := t.host } := by
  obtain ⟨web, port⟩ := g
  subst hw
  exact mbCmd_answer hs rfl rfl rfl (by simp [hg, okWith])

theorem exec_barGet_none (hs : Safety.served s h 0 = true) (hg : s.geo.committed = none) :
    ∃ t, exec (.barGet h) s = .next t ∧ Safety.Answered h 0x0205 0x020C [] s t ∧ t = { s with host := t.host } :=
  mbCmd_answer hs rfl rfl rfl (by simp [hg, fail])

theorem exec_barGetPort {port : Byte} (hs : Safety.served s h 4 = true) (hg : s.geo.committed = some g) (hp : port.toNat < 48) :
    ∃ t, exec (.barGetPort h port 0) s = .next t ∧
      Safety.Answered h 0x0206 0 ((g.port.get {} port.toNat).bytes port.toNat) s t ∧ t = { s with host := t.host } :=
  mbCmd_answer hs rfl rfl rfl (by simp [checked, show ¬ 47 < port.toNat by omega, hg, okWith])

end

/-- Settles O5: BAR_COMMIT uses the staged geometry or answers the check that failed, and the reports give the geometry in force. -/
theorem barCommitMakesCurrent : Obligations.BarCommitMakesCurrent :=
  ⟨fun _ _ _ _ hs hn hc => exec_barCommit hs hn hc, fun _ _ hs hn hp => exec_barCommit_pages hs hn hp,
    fun _ _ _ _ hs hg hw => exec_barGet hs hg hw, fun _ _ _ _ hs hg hp => exec_barGetPort hs hg hp,
    fun _ _ hs hg => exec_barGet_none hs hg⟩

end Sys2Proof.Machine

namespace Sys2Proof.Machine

/-! ## From release to the page's end -/

section
variable (s : State)

/-! ### Frames of the print path -/

theorem State.updData_only (f : CalData → CalData) : Only [.cal] s (s.updData f) := s.updCal_only _

/-- A nozzle's entry in force may change the warm mask and the hiding figure with it. -/
theorem State.applyNoz_only (p i : Nat) (n : NozCal) : Only [.cal, .port, .fire, .log, .alert] s (s.applyNoz p i n) := by
  unfold State.applyNoz
  extract_lets old s1 s2
  have h1 : Only [.cal] s s1 := s.updData_only _
  have h2 : Only [.port] s1 s2 := .ite (s1.headWrite_only p _ _) (.refl s1)
  exact .ite (h1.mono (by decide)) (((h1.step h2).step s2.rehide_only).mono (by decide))

theorem State.applyChange_only (c : Later) : Only [.cal, .port, .fire, .log, .alert] s (s.applyChange c) := by
  unfold State.applyChange
  split
  · exact (s.updFire_only _).mono (by decide)
  · split
    · exact s.applyNoz_only _ _ _
    · exact .refl s
  · exact s.applyNoz_only _ _ _
  · exact (s.updData_only _).mono (by decide)

/-- Changes whose line has come into force leave the list of those that wait. -/
theorem State.applyDue_only : Only [.twin, .cal, .port, .fire, .log, .alert] s s.applyDue := by
  unfold State.applyDue
  extract_lets due s1
  have h1 : Only [.twin] s s1 := s.updTwin_only _
  have h2 := Only.foldl (g := fun t (a : BitVec 32 × Later) => t.applyChange a.2) (fun t a => t.applyChange_only a.2) due s1
  exact (h1.step h2).mono (by decide)

theorem State.markWithheld_only (h n : Nat) : Only [.pages, .reports, .fire] s (s.markWithheld h n) := by
  refine .foldl (fun t p => ?_) _ _
  exact .ite (.refl t) (.ite (t.markPage_only _ _ _ _) (t.markPage_only _ _ _ _))

/-- Mapping a line moves the counters, and marks its page where a pixel stays unhidden. -/
theorem State.mapOne_only (g : Geo) (w : Web) (l : Line) : Only [.lines, .fire, .pages, .reports, .alert] s (s.mapOne g w l) := by
  unfold State.mapOne
  extract_lets par m s1 s2
  have h2 : Only [.lines, .fire] s s2 := ((s.updLine_only _ _ _).step (s1.updFire_only _)).mono (by decide)
  have h3 := (h2.step (s2.markPage_only l.handle 10 l.line l.line)).step (State.raise_only _ .fire 5)
  exact .ite ((s.updLine_only _ _ _).mono (by decide)) (.ite (h2.mono (by decide)) (h3.mono (by decide)))

theorem State.mapReady_only : Only [.lines, .fire, .pages, .reports, .alert] s s.mapReady := by
  unfold State.mapReady
  split
  · exact .refl s
  · exact ((Only.foldl (fun t l => t.mapOne_only _ _ l) _ s).step (State.pruneLines_only _)).mono (by decide)

theorem State.addLine_only (l : Line) : Only [.lines] s (s.updBat fun b => { b with lines := b.lines ++ [l] }) := .of_eq rfl (by decide)

/-- A first release: the page's next line moves on, and what follows leaves every page's progress alone. -/
theorem State.releaseNew_steps (g : Geo) (w : Web) (pg : Page) (n : Nat) (fires : Bool) : ∃ u : State,
    Only [.fire, .lines] s u ∧
    Only [.twin, .cal, .port, .fire, .log, .alert, .lines, .pages, .reports, .speedLimit]
      (u.updPage pg.handle fun q => { q with nextLine := n + 1, lateNext := false }) (s.releaseNew g w pg n fires) := by
  unfold State.releaseNew
  extract_lets s1 l s2 s3
  have h1 : Only [.twin, .cal, .port, .fire, .log, .alert]
      ((s.dropPassed g w).updPage pg.handle fun q => { q with nextLine := n + 1, lateNext := false }) s1 := State.applyDue_only _
  have h2 : Only [.port] s1 s2 :=
    Only.foldl (g := fun t (e : Nat × PortLine) => t.closeGap e.1) (fun t e => t.closeGap_only e.1) _ s1
  have h3 : Only [.lines] s2 s3 := s2.addLine_only l
  have h4 := ((s3.markWithheld_only pg.handle n).step (State.mapReady_only _)).step (State.speedCheck_only _)
  exact ⟨s.dropPassed g w, s.dropLines_only _, (((h1.step h2).step h3).step h4).mono (by decide)⟩

/-- What releases touch. -/
def releaseParts : List Part :=
  [.pages, .progress, .reports, .speedLimit, .lines, .fire, .twin, .cal, .port, .log, .alert]

theorem State.updPage_any_only (h : Nat) (f : Page → Page) : Only [.pages, .progress] s (s.updPage h f) := .of_eq rfl (by decide)

theorem State.releaseNew_only (g : Geo) (w : Web) (pg : Page) (n : Nat) (fires : Bool) :
    Only releaseParts s (s.releaseNew g w pg n fires) := by
  obtain ⟨u, hu, ht⟩ := s.releaseNew_steps g w pg n fires
  exact ((hu.step (u.updPage_any_only _ _)).step ht).mono (by decide)

/-- Pages by handle, as far as their progress goes. -/
theorem State.page?_progress (k : Nat) :
    (s.page? k).map Page.progress = (s.bat.pages.map Page.progress).find? fun x => x.1 == k := by
  rw [State.page?, List.find?_map]; rfl

end

section
variable {s : State} {h : Nat} {pg : Page}

/-- What leaves the pages' progress alone shows the same of each page. -/
theorem State.page?_progress_of_same {t : State} (e : Part.progress.Same s t) (k : Nat) :
    (t.page? k).map Page.progress = (s.page? k).map Page.progress := by
  have e' : t.bat.pages.map Page.progress = s.bat.pages.map Page.progress := e
  rw [t.page?_progress, s.page?_progress, e']

/-- What a page's progress says of its next line. -/
theorem State.nextLine_of_progress {k m : Nat} {b : Bool} (hp : (s.page? h).map Page.progress = some (k, m, b)) :
    (s.page? h).map (·.nextLine) = some m ∧ (s.page? h).map (fun q => (q.nextLine, q.lateNext)) = some (m, b) := by
  obtain ⟨q, hq, hqp⟩ := Option.map_eq_some_iff.1 hp
  obtain ⟨-, hm, hb⟩ : q.handle = k ∧ q.nextLine = m ∧ q.lateNext = b := by simpa [Page.progress] using hqp
  simp [hq, hm, hb]

/-- A page after its update. -/
theorem State.page?_updPage {f : Page → Page} (hp : s.page? h = some pg) (hf : ∀ q, (f q).handle = q.handle) :
    (s.updPage h f).page? h = some (f pg) := by
  have hkeep : ∀ q : Page, (if q.handle = h then f q else q).handle = q.handle := fun q => by split <;> simp [hf]
  have hfind : (s.updPage h f).page? h = (s.page? h).map fun q => if q.handle = h then f q else q := by
    rw [State.page?, State.updPage, State.updBat_bat, List.find?_map, State.page?]
    simp only [Function.comp_def, hkeep]
  rw [hfind, hp, Option.map_some, if_pos (State.page?_handle hp)]

/-- After its first release line `n + 1` is the page's next. -/
theorem State.releaseNew_progress {g : Geo} {w : Web} {n : Nat} {fires : Bool} (hp : s.page? h = some pg) :
    ((s.releaseNew g w pg n fires).page? h).map Page.progress = some (h, n + 1, false) := by
  obtain ⟨u, hu, ht⟩ := s.releaseNew_steps g w pg n fires
  have hup : u.page? h = some pg := (State.page?_congr (hu .pages (by decide)) h).trans hp
  have hh : pg.handle = h := State.page?_handle hp
  rw [State.page?_progress_of_same (ht .progress (by decide)), hh, State.page?_updPage hup]
  · simp [Page.progress, hh]
  · exact fun _ => rfl

/-- A late line that is not yet released. -/
theorem State.lateUnreleased_only {g : Geo} {w : Web} {n : Nat} : Only releaseParts s (s.lateUnreleased g w pg n) := by
  unfold State.lateUnreleased
  extract_lets cause s1
  have h1 : Only releaseParts s s1 := .ite (s.releaseNew_only _ _ _ _ _) ((s.updPage_any_only _ _).mono (by decide))
  exact ((h1.step (s1.updPage_any_only _ _)).step (State.raise_only _ _ _)).mono (by decide)

/-- It counts as released at once where buffer and ring have room, else it waits late (R21, R22, R55). -/
theorem State.lateUnreleased_progress {g : Geo} {w : Web} {n : Nat} (hp : s.page? h = some pg) :
    ((s.lateUnreleased g w pg n).page? h).map Page.progress =
      some (if s.slotFree w && s.ringFree g w then (h, n + 1, false) else (h, pg.nextLine, true)) := by
  have hh : pg.handle = h := State.page?_handle hp
  unfold State.lateUnreleased
  extract_lets cause s1
  have tail : Only [.pages, .alert] s1 ((s1.updPage pg.handle (Page.markLate cause n)).raise .place 5) :=
    ((s1.updPage_only _ (Page.markLate cause n) fun _ => rfl).step (State.raise_only _ _ _)).mono (by decide)
  rw [State.page?_progress_of_same (tail .progress (by decide))]
  unfold s1
  split
  · exact State.releaseNew_progress hp
  · rw [hh, State.page?_updPage hp]
    · simp [Page.progress, hh]
    · exact fun _ => rfl

/-- A bit that the register has stands after it is raised. -/
theorem State.raised_raise {r : AlertReg} {n : Nat} (hn : r.bits.getLsbD n = true) : Safety.Raised r n (s.raise r n) := by
  have hlt : n < 32 := by
    by_contra hge
    rw [BitVec.getLsbD_of_ge _ _ (by omega)] at hn
    cases hn
  simp [Safety.Raised, State.alertOf, State.raise, State.raiseBits, hn, hlt]

/-! ### Release and lateness -/

/-- The Batten queue. -/
def battenParts : List Part :=
  [.pages, .progress, .left, .reports, .quiet, .lastPage, .speedLimit, .restartTo, .lines, .lastOwn, .lastNoz, .fireEdges, .checks]

/-- What a release may touch, as a claim about the whole state. -/
theorem Only.eq_of_release {t : State} (ho : Only (.host :: releaseParts) s t) :
    t = { s with host := t.host, bat := t.bat, cal := t.cal, fire := t.fire, log := t.log, port := t.port, twin := t.twin } :=
  (ho.mono (qs := .host :: .alert :: .cal :: .fire :: .log :: .port :: .twin :: battenParts) (by decide)).eq_patch

/-- The first release of a line moves its page on, whether the line fires or is late already. -/
theorem State.lineFirst_spec {g : Geo} {w : Web} {n : Nat} (hp : s.page? h = some pg)
    (hlead : s.leadReached w (s.earliest g w pg n) = true) (hslot : s.slotFree w = true) (hring : s.ringFree g w = true) :
    Only releaseParts s (s.lineFirst g w pg n) ∧
      ((s.lineFirst g w pg n).page? h).map Page.progress = some (h, n + 1, false) := by
  unfold State.lineFirst
  simp only [hlead, hslot, hring, Bool.and_self, Bool.not_true, Bool.false_eq_true, if_false]
  split
  · exact ⟨s.releaseNew_only _ _ _ _ _, State.releaseNew_progress hp⟩
  · split
    · exact ⟨State.lateUnreleased_only, by rw [State.lateUnreleased_progress hp, hslot, hring]; rfl⟩
    · exact ⟨s.releaseNew_only _ _ _ _ _, State.releaseNew_progress hp⟩

theorem exec_lineRelease {g : Geo} {w : Web} {n : Nat} (ha : s.alive = true) (hbar : s.bar? = some (g, w)) (hp : s.page? h = some pg)
    (hpred : s.predicted g w pg n = true) (hl : s.line? h n = none) (hnext : s.nextFor pg n = true)
    (hlead : s.leadReached w (s.earliest g w pg n) = true) (hslot : s.slotFree w = true) (hring : s.ringFree g w = true) :
    ∃ t, exec (.lineRelease h n) s = .next t ∧ (t.page? h).map (·.nextLine) = some (n + 1) ∧
      t = { s with host := t.host, bat := t.bat, cal := t.cal, fire := t.fire, log := t.log, port := t.port, twin := t.twin } := by
  have e : State.lineRelease h n s = s.lineFirst g w pg n := by
    simp [State.lineRelease, hbar, hp, hpred, hl, hnext]
  obtain ⟨ho, hprog⟩ := State.lineFirst_spec (n := n) hp hlead hslot hring
  rw [← e] at ho hprog
  obtain ⟨pba, msi, hx⟩ := evt_sent ha ho (by decide)
  exact ⟨_, hx, (State.nextLine_of_progress hprog).1, (ho.sent pba msi).eq_of_release⟩

/-- The rules of a late line that is not yet released. -/
theorem State.lineLate_unreleased {g : Geo} {w : Web} {n : Nat} (hbar : s.bar? = some (g, w)) (hp : s.page? h = some pg)
    (hl : s.line? h n = none) (hnext : s.nextFor pg n = true) (hlate : pg.lateNext = false) :
    State.lineLate h n s = s.lateUnreleased g w pg n := by
  simp [State.lineLate, hbar, hp, hl, hnext, hlate]

theorem exec_lineLate {g : Geo} {w : Web} {n : Nat} (ha : s.alive = true) (hbar : s.bar? = some (g, w)) (hp : s.page? h = some pg)
    (hl : s.line? h n = none) (hnext : s.nextFor pg n = true) (hlate : pg.lateNext = false) :
    ∃ t, exec (.lineLate h n) s = .next t ∧ Safety.Raised .place 5 t ∧
      (s.slotFree w = true → s.ringFree g w = true → (t.page? h).map (·.nextLine) = some (n + 1)) ∧
      (s.slotFree w = false ∨ s.ringFree g w = false → (t.page? h).map (fun q => (q.nextLine, q.lateNext)) = some (n, true)) ∧
      t = { s with host := t.host, bat := t.bat, cal := t.cal, fire := t.fire, log := t.log, port := t.port, twin := t.twin } := by
  have e := State.lineLate_unreleased hbar hp hl hnext hlate
  have ho : Only releaseParts s (State.lineLate h n s) := e ▸ State.lateUnreleased_only
  have hraised : Safety.Raised .place 5 (State.lineLate h n s) := e ▸ State.raised_raise (by decide)
  have hprog := State.lateUnreleased_progress (g := g) (w := w) (n := n) hp
  have hn : pg.nextLine = n := by
    simp only [State.nextFor, Bool.and_eq_true, beq_iff_eq] at hnext
    exact hnext.1.1
  rw [← e] at hprog
  obtain ⟨pba, msi, hx⟩ := evt_sent ha ho (by decide)
  refine ⟨_, hx, hraised, fun hslot hring => ?_, fun hfull => ?_, (ho.sent pba msi).eq_of_release⟩
  · rw [hslot, hring, Bool.and_self, if_pos rfl] at hprog
    exact (State.nextLine_of_progress hprog).1
  · have hno : (s.slotFree w && s.ringFree g w) = false := Bool.and_eq_false_iff.2 hfull
    rw [hno, if_neg Bool.false_ne_true, hn] at hprog
    exact (State.nextLine_of_progress hprog).2

/-! ### Decoding -/

theorem exec_decodeJobStart {d k n j : Nat} (ha : s.alive = true) (hd : d < 16) (hret : s.health.sdRetired.getLsbD d = false)
    (hidle : s.slate.jobs.get none d = none) (hpix : s.pixGated = false) (hjob : s.jobToStart = some (k, n, j)) :
    ∃ t, exec (.decodeJobStart d) s = .next t ∧ Safety.Quiet s t ∧
      t = { s with host := t.host, bat := t.bat, slate := { s.slate with jobs := s.slate.jobs.set none d (some (k, n, j)) } } ∧
      t.bat.pages = s.bat.pages ∧ t.bat.lines = s.bat.lines.map fun l =>
        if l.handle = k ∧ l.line = n then { l with toStart := l.toStart.filter (· != j), running := l.running ++ [(j, d)] } else l := by
  have e : State.startJob d s = (s.updSlate fun t => { t with jobs := t.jobs.set none d (some (k, n, j)) }).updLine k n fun l =>
      { l with toStart := l.toStart.filter (· != j), running := l.running ++ [(j, d)] } := by
    simp only [State.startJob, hret, hidle, hpix, hjob, decide_eq_false (Nat.not_le.2 hd), Option.isSome_none, Bool.or_self,
      Bool.false_eq_true, if_false]
  have ho : Only [.slate, .lines] s (State.startJob d s) := e ▸ .of_eq rfl (by decide)
  obtain ⟨pba, msi, hx⟩ := evt_sent ha ho (by decide)
  refine ⟨_, hx, ho.quiet pba msi (by decide), ?_, ?_, ?_⟩ <;> rw [e] <;> rfl

/-- The end of a job that decodes: codec state, header and count move, and lines that are complete are mapped (R168). -/
theorem State.finishJob_ok {d k n j : Nat} {pg : Page} {xs : List Nat} {c : CodecSt} (hjob : s.slate.jobs.get none d = some (k, n, j))
    (hp : s.page? k = some pg)
    (hdec : decodeNext (s.streamOf pg j).width 2 (s.streamOf pg j).data (s.decState n j) = .ok (xs, c)) :
    ∃ u, State.finishJob d false s = u.mapReady ∧ Only [.slate, .lines] s u ∧ u.slate = { s.slate with
      jobs := s.slate.jobs.set none d none, dec := s.slate.dec.set {} j c, linesDecoded := s.slate.linesDecoded + 1,
      decHdr := s.slate.decHdr.set (0, 0) j ((s.streamOf pg j).width, (s.streamOf pg j).tag) } := by
  unfold State.finishJob
  rw [hjob]
  dsimp -zeta only
  extract_lets s1
  have hp1 : s1.page? k = some pg := hp
  rw [hp1]
  dsimp -zeta only
  extract_lets st s2
  have hst : st = s.streamOf pg j := rfl
  have hd2 : s2.decState n j = s.decState n j := rfl
  rw [if_neg Bool.false_ne_true, hd2, hst, hdec]
  refine ⟨_, rfl, ?_, ?_⟩
  · have h1 : Only [.slate, .lines] s s1 := ((s.updSlate_only _).step (State.updLine_only _ _ _ _)).mono (by decide)
    exact (((h1.step (s1.updSlate_only _)).step (s2.updSlate_only _)).step (State.updLine_only _ _ _ _)).mono (by decide)
  · rfl

/-- What the end of a job may touch, as a claim about the whole state. -/
theorem Only.eq_of_decode {t : State} (ho : Only [.host, .slate, .lines, .fire, .pages, .reports, .alert] s t) :
    t = { s with host := t.host, bat := t.bat, fire := t.fire, slate := t.slate } :=
  (ho.mono (qs := .host :: .alert :: .fire :: .slate :: battenParts) (by decide)).eq_patch

theorem exec_decodeJobDone {d k n j : Nat} {pg : Page} {xs : List Nat} {c : CodecSt} (ha : s.alive = true)
    (hjob : s.slate.jobs.get none d = some (k, n, j)) (hp : s.page? k = some pg)
    (hdec : decodeNext (s.streamOf pg j).width 2 (s.streamOf pg j).data (s.decState n j) = .ok (xs, c)) :
    ∃ t, exec (.decodeJobDone d) s = .next t ∧ t = { s with host := t.host, bat := t.bat, fire := t.fire, slate := t.slate } ∧
      t.slate = { s.slate with
        jobs := s.slate.jobs.set none d none, dec := s.slate.dec.set {} j c, linesDecoded := s.slate.linesDecoded + 1,
        decHdr := s.slate.decHdr.set (0, 0) j ((s.streamOf pg j).width, (s.streamOf pg j).tag) } := by
  obtain ⟨u, e, hu, hslate⟩ := State.finishJob_ok hjob hp hdec
  have ho : Only [.slate, .lines, .fire, .pages, .reports, .alert] s (State.finishJob d false s) :=
    e ▸ (hu.step u.mapReady_only).mono (by decide)
  have hkeep : u.mapReady.slate = u.slate := u.mapReady_only .slate (by decide)
  obtain ⟨pba, msi, hx⟩ := evt_sent ha ho (by decide)
  refine ⟨_, hx, (ho.sent pba msi).eq_of_decode, ?_⟩
  rw [← hslate, ← hkeep, ← e]
  rfl

/-! ### Framing a line -/

/-- A frame goes to the end of its port's queue; counters, marks and alerts may move before it does. -/
theorem State.queueFrame_steps (g : Geo) (w : Web) (par : Nat) (l : Line) (p : Nat) (t : Int) : ∃ u lv thr f,
    Only [.fire, .alert, .pages, .reports] s u ∧
    s.queueFrame g w par l p t = (u.updPort p fun q => { q with txQ := q.txQ ++ [.fireLine (u.tagOf p l.handle l.line)
      (fireFrame t thr (l.port.get {} p).release (l.port.get {} p).subst lv) t] }).updPortLine l.handle l.line p f := by
  unfold State.queueFrame
  extract_lets x
  split
  rename_i lv cleared comp bare _
  extract_lets s1 s2 thr
  have h1 : Only [.fire, .alert] s s1 := .ite (.refl s) (((s.updFire_only _).step (State.raise_only _ _ _)).mono (by decide))
  have h2 : Only [.fire, .alert, .pages, .reports] s1 s2 :=
    .ite (.refl s1) (((s1.markPage_only _ _ _ _).step (State.raise_only _ _ _)).mono (by decide))
  exact ⟨s2, lv, thr, _, (h1.step h2).mono (by decide), rfl⟩

end
end Sys2Proof.Machine

namespace Sys2Proof.Machine

section
variable {s : State} {h : Nat} {pg : Page}

theorem State.line?_key {n : Nat} {l : Line} (hl : s.line? h n = some l) : l.handle = h ∧ l.line = n := by
  have hk : (l.handle == h && l.line == n) = true := List.find?_some (p := fun l : Line => l.handle == h && l.line == n) hl
  simpa using hk

/-- RELEASE stands in the low four bits of a frame's CTL (R131). -/
theorem fireFrame_release (t : Int) (thr release : Nat) (subst : Bool) (lv : List Nat) :
    (fireFrame t thr release subst lv).ctl.toNat % 16 = release % 16 := by
  have hctl : (fireFrame t thr release subst lv).ctl =
      BitVec.ofNat 8 (release % 16 + bit subst 4 + bit (encodePixels lv).2.2.1 5) := rfl
  rw [hctl, BitVec.toNat_ofNat]
  unfold bit
  split <;> split <;> omega

/-- The rules of a frame whose line waits, in time and behind its interval: it is framed with its predicted time. -/
theorem State.frameBuild_waiting {g : Geo} {w : Web} {p n : Nat} {l : Line} {ft : Int} (hbar : s.bar? = some (g, w))
    (hp : s.page? h = some pg) (hl : s.line? h n = some l) (hmap : l.mapped = true) (hst : (l.port.get {} p).st = .waiting)
    (hrun : s.portRuns p = true) (hfwd : s.forward = true)
    (hfloor : ∀ f, pg.floor.get none p = some f → f < g.target w pg.top n p) (hft : s.fireTime g w pg.top n p = some ft)
    (hlead : s.leadReached w (some ft) = true) (hlate : s.tooLate (some ft) = false)
    (hnear : s.nearRestart (g.target w pg.top n p) = false)
    (hint : (l.port.get {} p).subst = false → ∀ b, s.prevSent h n p = some b → b + minInterval256 ≤ ft) :
    State.frameBuild p h n s = s.queueFrame g w pg.parity l p ft := by
  have hfl : ∀ f, pg.floor.get none p = some f → ¬ g.target w pg.top n p ≤ f := fun f hf => not_le.2 (hfloor f hf)
  unfold State.frameBuild
  simp only [hbar, hp, hl, hmap, hst, hrun, hfwd, hft, hlead, hnear]
  rw [if_neg (by simp), if_neg (by split <;> simp_all)]
  rcases hsub : (l.port.get {} p).subst with _ | _
  · rcases hprev : s.prevSent h n p with _ | b
    · simp [hsub, hlate]
    · have hb := hint hsub b hprev
      simp [hsub, hlate, hb]
  · simp [hsub, hlate]

theorem Only.portN {t : State} {ps : List Part} (ho : Only ps s t) (hp : .port ∉ ps) (q : Nat) : t.portN q = s.portN q :=
  congrArg (SMap.get ({} : Port) · q) (ho .port hp : t.port = s.port)

theorem State.portN_updPortLine (k n p : Nat) (f : PortLine → PortLine) (q : Nat) : (s.updPortLine k n p f).portN q = s.portN q := rfl

/-- What printing a line may touch, as a claim about the whole state. -/
theorem Only.eq_of_frame {t : State} (ho : Only [.host, .fire, .alert, .pages, .reports, .port, .lines] s t) :
    t = { s with host := t.host, bat := t.bat, fire := t.fire, port := t.port } :=
  (ho.mono (qs := .host :: .alert :: .fire :: .port :: battenParts) (by decide)).eq_patch

/-- Framing a line: the frame stands last in its port's queue, and no other port is touched. -/
theorem State.queueFrame_spec (g : Geo) (w : Web) (par : Nat) (l : Line) (p : Nat) (t : Int) : ∃ lv thr,
    Only [.fire, .alert, .pages, .reports, .port, .lines] s (s.queueFrame g w par l p t) ∧
    (∀ q, q ≠ p → (s.queueFrame g w par l p t).portN q = s.portN q) ∧
    ((s.queueFrame g w par l p t).portN p).txQ = (s.portN p).txQ ++
      [.fireLine (s.tagOf p l.handle l.line) (fireFrame t thr (l.port.get {} p).release (l.port.get {} p).subst lv) t] := by
  obtain ⟨u, lv, thr, f, hu, e⟩ := s.queueFrame_steps g w par l p t
  have hkeep : ∀ q, u.portN q = s.portN q := hu.portN (by decide)
  refine ⟨lv, thr, ?_⟩
  rw [e]
  refine ⟨((hu.step (u.updPort_only _ _)).step (State.updPortLine_only _ _ _ _ _)).mono (by decide), fun q hq => ?_, ?_⟩
  · rw [State.portN_updPortLine, State.portN_updPort_ne _ _ _ _ hq, hkeep]
  · simp only [State.portN_updPortLine, State.portN_updPort_same, State.tagOf, hkeep]

theorem exec_frameBuild {g : Geo} {w : Web} {p n : Nat} {l : Line} {ft : Int} (ha : s.alive = true)
    (hl : s.line? h n = some l) (hrules : State.frameBuild p h n s = s.queueFrame g w pg.parity l p ft) :
    ∃ t fr, exec (.frameBuild p h n) s = .next t ∧ t = { s with host := t.host, bat := t.bat, fire := t.fire, port := t.port } ∧
      (∀ q, q ≠ p → t.portN q = s.portN q) ∧ (t.portN p).txQ = (s.portN p).txQ ++ [.fireLine (s.tagOf p h n) fr ft] ∧
      fr.fireTime = BitVec.ofInt 48 ft ∧ fr.ctl.toNat % 16 = (l.port.get {} p).release % 16 := by
  obtain ⟨lv, thr, ho, hother, hq⟩ := s.queueFrame_spec g w pg.parity l p ft
  obtain ⟨hlh, hln⟩ := State.line?_key hl
  rw [← hrules] at ho hother hq
  rw [hlh, hln] at hq
  obtain ⟨pba, msi, hx⟩ := evt_sent ha ho (by decide)
  exact ⟨_, _, hx, (ho.sent pba msi).eq_of_frame, hother, hq, rfl, fireFrame_release _ _ _ _ _⟩

/-! ### Firing, checking, leaving -/

theorem State.throttleLine_only (p : Nat) : Only [.port, .alert] s (s.throttleLine p) := by
  unfold State.throttleLine
  extract_lets old s1
  have h1 : Only [.port] s s1 := s.updPort_only p _
  exact .ite ((h1.step (State.raise_only _ _ _)).mono (by decide)) (h1.mono (by decide))

/-- A line counts on its own port, which keeps the time it fired last. -/
theorem State.throttleLine_port (p : Nat) :
    (∀ q, q ≠ p → (s.throttleLine p).portN q = s.portN q) ∧ ((s.throttleLine p).portN p).lastFireT = (s.portN p).lastFireT := by
  have hcount : ∀ (t : Thermal) (q : Port), (q.countLine t).lastFireT = q.lastFireT := fun t q => by
    unfold Port.countLine
    split
    · rfl
    · split_ifs <;> rfl
  have hraise : ∀ q, (s.throttleLine p).portN q = (s.updPort p (Port.countLine (s.cal.data.thermal.get {} p))).portN q := fun q => by
    unfold State.throttleLine
    extract_lets old s1
    split <;> rfl
  refine ⟨fun q hq => (hraise q).trans (State.portN_updPort_ne _ _ _ _ hq), ?_⟩
  rw [hraise, State.portN_updPort_same, hcount]

theorem State.pageFired_only (w : Web) (n p : Nat) (target : Int) :
    Only [.pages, .left, .reports, .fire] s (s.pageFired w pg n p target) := by
  unfold State.pageFired
  extract_lets k s1 s2
  have h1 : Only [.pages, .left, .reports] s s1 := by
    unfold s1
    split
    · exact (s.updPage_only k (Page.fired n p target) fun _ => rfl).mono (by decide)
    · exact Only.mono (ps := [.left, .reports]) (.of_eq rfl (by decide)) (by decide)
  have h2 : Only [.pages, .reports, .fire] s1 s2 := .ite (s1.markPage_only _ _ _ _) (.refl s1)
  split
  · have h3 := fun t : State => t.updPage_only k (fun q => { q with reversedAt := none }) fun _ => rfl
    exact (((h1.step h2).step (s2.markPage_only _ _ _ _)).step (h3 _)).mono (by decide)
  · exact (h1.step h2).mono (by decide)

theorem State.updChecks_only (f : Batten → List (Nat × Nat × Nat × Int × Int)) :
    Only [.checks] s (s.updBat fun b => { b with checks := f b }) := .of_eq rfl (by decide)

theorem State.updLast_only (o : Batten → SMap (Option Int)) (z : Batten → SMap (SMap (Option Int))) :
    Only [.lastOwn, .lastNoz] s (s.updBat fun b => { b with lastOwn := o b, lastNoz := z b }) := .of_eq rfl (by decide)

theorem State.staleImm_only (p : Nat) (key : BitVec 28) : Only [.loop] s (s.staleImm p key) := by
  unfold State.staleImm
  exact s.updLoop_only _

/-- What the firing of a line may touch. -/
def firedParts : List Part :=
  [.pages, .left, .reports, .speedLimit, .lines, .lastOwn, .lastNoz, .checks, .fire, .port, .vis, .loop, .alert]

/-- A line fires: its port alone shows the time. -/
theorem State.lineFired_spec {p n : Nat} {l : Line} (hl : s.line? h n = some l) (hst : (l.port.get {} p).st = .sent)
    (hdue : (l.port.get {} p).fire ≤ s.now256) :
    Only firedParts s (State.lineFired p h n s) ∧ ((State.lineFired p h n s).portN p).lastFireT = some (l.port.get {} p).fire ∧
      ∀ q, q ≠ p → (State.lineFired p h n s).portN q = s.portN q := by
  unfold State.lineFired
  rw [hl]
  dsimp -zeta only
  extract_lets x key s1 s2 s3 s4 s5
  rw [if_neg (by simp [x, hst, hdue])]
  have h2 : Only [.lines, .port] s s2 := ((s.updPortLine_only _ _ _ _).step (s1.updPort_only _ _)).mono (by decide)
  have h3 : Only [.lastOwn, .lastNoz] s2 s3 := s2.updLast_only _ _
  have h4 : Only [.port, .alert, .loop] s3 s4 := ((s3.throttleLine_only p).step (State.staleImm_only _ _)).mono (by decide)
  have h5 : Only [.checks, .fire, .vis, .pages, .left, .reports] s4 s5 := by
    unfold s5
    split
    · extract_lets target c1 c2 c3 c4
      have hc1 : Only [.checks] s4 c1 := s4.updChecks_only _
      have hc3 : Only [.checks, .fire, .vis] s4 c3 := ((hc1.step (c1.updFire_only _)).step (c2.updVis_only _)).mono (by decide)
      have hc4 : Only [.pages, .reports, .fire] c3 c4 := .ite (c3.markPage_only _ _ _ _) (.refl c3)
      exact ((hc3.step hc4).step (c4.pageFired_only _ _ _ _)).mono (by decide)
    · exact .refl s4
  have tail : Only [.checks, .fire, .vis, .pages, .left, .reports, .lines, .speedLimit, .alert] s4 s5.pruneLines.speedCheck :=
    ((h5.step s5.pruneLines_only).step (State.speedCheck_only _)).mono (by decide)
  have hkeep : ∀ q, s5.pruneLines.speedCheck.portN q = (s3.throttleLine p).portN q := fun q =>
    (tail.portN (by decide) q).trans ((State.staleImm_only p key).portN (by decide) q)
  obtain ⟨hother, hown⟩ := s3.throttleLine_port p
  have ho : Only firedParts s s5.pruneLines.speedCheck := (((h2.step h3).step h4).step tail).mono (by decide)
  refine ⟨ho, ?_, fun q hq => ?_⟩
  · rw [hkeep, hown, h3.portN (by decide), s1.portN_updPort_same]
  · rw [hkeep, hother q hq, h3.portN (by decide), s1.portN_updPort_ne _ _ _ hq]
    exact s.portN_updPortLine _ _ _ _ q

theorem Only.eq_of_fired {t : State} (ho : Only (.host :: firedParts) s t) :
    t = { s with host := t.host, bat := t.bat, fire := t.fire, loop := t.loop, port := t.port, vis := t.vis } :=
  (ho.mono (qs := .host :: .alert :: .fire :: .loop :: .port :: .vis :: battenParts) (by decide)).eq_patch

theorem exec_lineFired {p n : Nat} {l : Line} (ha : s.alive = true) (hl : s.line? h n = some l) (hst : (l.port.get {} p).st = .sent)
    (hdue : (l.port.get {} p).fire ≤ s.now256) :
    ∃ t, exec (.lineFired p h n) s = .next t ∧
      t = { s with host := t.host, bat := t.bat, fire := t.fire, loop := t.loop, port := t.port, vis := t.vis } ∧
      (t.portN p).lastFireT = some (l.port.get {} p).fire ∧ ∀ q, q ≠ p → t.portN q = s.portN q := by
  obtain ⟨ho, hown, hother⟩ := State.lineFired_spec hl hst hdue
  obtain ⟨pba, msi, hx⟩ := evt_sent ha ho (by decide)
  exact ⟨_, hx, (ho.sent pba msi).eq_of_fired, hown, hother⟩

/-- The rules of a landing check whose edges bracket it: the check is taken off, and a miss marks the page. -/
theorem State.placementCheck_spec {g : Geo} {w : Web} {p n : Nat} {target fire : Int} {x : Rat} (hbar : s.bar? = some (g, w))
    (hc : (s.bat.checks.find? fun c => c.1 == h && c.2.1 == n && c.2.2.1 == p) = some (h, n, p, target, fire))
    (hx : posBetween ((fire + (g.port.get {} p).dropFlightNs * 256) * 65536) s.bat.fireEdges = some x) : ∃ u : State,
    u = (s.updBat fun b => { b with checks := b.checks.filter fun c => !(c.1 == h && c.2.1 == n && c.2.2.1 == p) }) ∧
    State.placementCheck p h n s = if w.pitchCounts * 65536 / 8 < |x - target| then u.markPage h 1 n n else u := by
  refine ⟨_, rfl, ?_⟩
  simp only [State.placementCheck, hbar, hc, hx]

theorem Only.eq_of_check {t : State} (ho : Only [.host, .checks, .pages, .reports, .fire] s t) :
    t = { s with host := t.host, bat := t.bat, fire := t.fire } :=
  (ho.mono (qs := .host :: .alert :: .fire :: battenParts) (by decide)).eq_patch

theorem exec_placementCheck {g : Geo} {w : Web} {p n : Nat} {target fire : Int} {x : Rat} (ha : s.alive = true)
    (hbar : s.bar? = some (g, w))
    (hc : (s.bat.checks.find? fun c => c.1 == h && c.2.1 == n && c.2.2.1 == p) = some (h, n, p, target, fire))
    (hx : posBetween ((fire + (g.port.get {} p).dropFlightNs * 256) * 65536) s.bat.fireEdges = some x) :
    ∃ t, exec (.placementCheck p h n) s = .next t ∧ Safety.Quiet s t ∧ t = { s with host := t.host, bat := t.bat, fire := t.fire } ∧
      t.bat.checks = s.bat.checks.filter (fun c => !(c.1 == h && c.2.1 == n && c.2.2.1 == p)) ∧
      (|x - target| ≤ w.pitchCounts * 65536 / 8 → t.bat.pages = s.bat.pages ∧ t.fire = s.fire) := by
  obtain ⟨u, hu, e⟩ := State.placementCheck_spec (s := s) (h := h) (n := n) hbar hc hx
  have hu1 : Only [.checks] s u := hu ▸ s.updChecks_only _
  have hu2 : Only [.pages, .reports, .fire] u (State.placementCheck p h n s) := e ▸ .ite (u.markPage_only _ _ _ _) (.refl u)
  have ho : Only [.checks, .pages, .reports, .fire] s (State.placementCheck p h n s) := (hu1.step hu2).mono (by decide)
  have hchecks : (State.placementCheck p h n s).bat.checks = u.bat.checks := hu2 .checks (by decide)
  obtain ⟨pba, msi, hnext⟩ := evt_sent ha ho (by decide)
  refine ⟨_, hnext, ho.quiet pba msi (by decide), ?_, hchecks.trans (by rw [hu]; rfl), fun hnear => ?_⟩
  · exact (ho.sent pba msi).eq_of_check
  · rw [if_neg (not_lt.2 hnear)] at e
    rw [e, hu]
    exact ⟨rfl, rfl⟩

theorem State.pageDone_passed (hp : s.page? h = some pg) (hpass : s.passed pg = true) :
    State.pageDone h s = (s.leavePage pg.lines pg).finishHeld := by
  simp [State.pageDone, hp, hpass]

/-- A page whose lines all passed: without an armed strip no part outside the print path is touched. -/
theorem exec_pageDone (ha : s.alive = true) (hp : s.page? h = some pg) (hpass : s.passed pg = true) (hs : s.vis.thatch = []) :
    ∃ t, exec (.pageDone h) s = .next t ∧ t.page? h = none ∧ h ∈ t.bat.quiet ∧ t.cal = s.cal ∧ t.nvm = s.nvm ∧
      t.dram = s.dram ∧ t.pwr = s.pwr ∧ t.geo = s.geo ∧ t.health = s.health ∧ t.dma = s.dma := by
  have hend := (s.leavePage pg.lines pg).finishHeld_only
  have ho : Only [.pages, .progress, .quiet, .lines, .left, .slate, .vis, .twin, .reports, .log, .alert, .port, .loop, .speedLimit,
      .boot, .fire] s (State.pageDone h s) := by
    rw [State.pageDone_passed hp hpass]
    exact ((State.leavePage_only_of_no_strip hs _ _).step hend).mono (by decide)
  obtain ⟨-, hquiet⟩ := s.leavePage_queue pg.lines pg
  rw [← State.pageDone_passed hp hpass] at hend
  have hq : (State.pageDone h s).bat.quiet = (s.leavePage pg.lines pg).bat.quiet := hend .quiet (by decide)
  have hleft : (s.leavePage pg.lines pg).page? h = none := State.page?_handle hp ▸ s.leavePage_page? pg.lines pg
  have hpage : (State.pageDone h s).page? h = none := (State.page?_congr (hend .pages (by decide)) h).trans hleft
  obtain ⟨pba, msi, hx⟩ := evt_sent ha ho (by decide)
  refine ⟨_, hx, hpage, ?_, ho .cal (by decide), ho .nvm (by decide), ho .dram (by decide), ho .pwr (by decide), ho .geo (by decide),
    ho .health (by decide), ho .dma (by decide)⟩
  have hmem : h ∈ (State.pageDone h s).bat.quiet := by
    rw [hq, hquiet, State.page?_handle hp]
    exact List.mem_cons_self
  exact hmem

theorem exec_handleFree (ha : s.alive = true) :
    ∃ t, exec (.handleFree h) s = .next t ∧ Safety.Quiet s t ∧
      t = { s with host := t.host, bat := { s.bat with quiet := s.bat.quiet.filter (· != h) } } := by
  have ho : Only [.quiet] s (s.updBat fun b => { b with quiet := b.quiet.filter (· != h) }) := .of_eq rfl (by decide)
  obtain ⟨pba, msi, hx⟩ := evt_sent (f := fun s => s.updBat fun b => { b with quiet := b.quiet.filter (· != h) }) ha ho (by decide)
  exact ⟨_, hx, ho.quiet pba msi (by decide), rfl⟩

end

/-- Settles O41: each event on a line's way from its release to its page's end. -/
theorem linesDecodeAndFire : Obligations.LinesDecodeAndFire :=
  ⟨fun _ _ _ _ _ _ ha hbar hp hpred hl hnext hlead hslot hring => exec_lineRelease ha hbar hp hpred hl hnext hlead hslot hring,
   fun _ _ _ _ _ ha hd hret hidle hpix hjob => exec_decodeJobStart ha hd hret hidle hpix hjob,
   fun _ _ _ _ _ _ _ _ ha hjob hp hdec => exec_decodeJobDone ha hjob hp hdec,
   fun _ _ _ _ _ _ _ _ _ _ ha hbar hp hl hx hmap hst hrun hfwd hfloor hft hlead hlate hnear hint => by
     subst hx
     exact exec_frameBuild ha hl (State.frameBuild_waiting hbar hp hl hmap hst hrun hfwd hfloor hft hlead hlate hnear hint),
   fun _ _ _ _ _ _ ha hbar hp hl hnext hlate => exec_lineLate ha hbar hp hl hnext hlate,
   fun _ _ _ _ _ ha hl hst hdue => exec_lineFired ha hl hst hdue,
   fun _ _ _ _ _ _ _ _ _ ha hbar hc hx => exec_placementCheck ha hbar hc hx,
   fun _ _ _ ha hp hpass hs => exec_pageDone ha hp hpass hs,
   fun _ _ ha => exec_handleFree ha⟩

end Sys2Proof.Machine

namespace Sys2Proof.Machine

/-! ## Commands that the supervisor forwards

Table 09-5 lets the chip that supervises forward what it accepts (spec/09 R275). A forwarded command's own rules leave a state `u`;
the slot's answer and the twin's queue come on top. -/

section
variable {s u : State} {h : MbHdr} {c : MbCheck} {i : Instr} {body : State → Answer} {p payload : List Byte} {ps : List Part}
  {key : BitVec 32} {op : Nat}

/-- The gate of Table 09-5 on the chip that supervises, at the key from which a setting applies (R275). -/
theorem twinGateAt_ok {bad : Option Nat} (hbad : bad = none) (hs : s.notSupervisor = false) (hb : body s = .done 0 p u) :
    twinGateAt key bad op payload body s = .done 0 p (u.forward9 op key payload) := by
  simp [twinGateAt, hbad, hs, hb]

/-- A served command that is accepted and forwarded. -/
theorem mbCmd_forwarded (hs : Safety.served s h c.len = true) (hr : c.rsv = false) (hz : c.zero = false)
    (hg : c.gated (s.mbStart h) = false) (hb : body (s.mbStart h) = .done 0 p (u.forward9 op key payload))
    (hu : Only ps (s.mbStart h) u) (hn : .host ∉ ps ∧ .pending ∉ ps ∧ .fuse ∉ ps) :
    ∃ t, mbCmd h i (mbServe c h body) s = .next t ∧ Safety.AnsweredWith h c.op 0 p s t ∧ t.host.alert = u.host.alert ∧
      Only (.host :: .twin :: ps) s t ∧ t = { u with host := t.host, twin := t.twin } := by
  obtain ⟨hh, hp, hf⟩ := hn
  have hfr : Only (.twin :: ps) (s.mbStart h) (u.forward9 op key payload) :=
    (hu.step (u.forward9_only op key payload)).mono (by simp)
  obtain ⟨t, e, ha, hal, ho, ht⟩ := mbCmd_done_only (i := i) hs hr hz hg hb hfr (by simp [hh, hp, hf])
  rw [State.forward9_eq] at hal ht
  exact ⟨t, e, ha, hal, ho, ht.trans (by rw [ht])⟩

/-- The same where the command's own rules raise no alert. -/
theorem mbCmd_forwarded_answered (hs : Safety.served s h c.len = true) (hr : c.rsv = false) (hz : c.zero = false)
    (hg : c.gated (s.mbStart h) = false) (hb : body (s.mbStart h) = .done 0 p (u.forward9 op key payload))
    (hu : Only ps (s.mbStart h) u) (hn : (.host ∉ ps ∧ .pending ∉ ps ∧ .fuse ∉ ps) ∧ .alert ∉ ps) :
    ∃ t, mbCmd h i (mbServe c h body) s = .next t ∧ Safety.Answered h c.op 0 p s t ∧ Only (.host :: .twin :: ps) s t ∧
      t = { u with host := t.host, twin := t.twin } := by
  obtain ⟨hnh, hna⟩ := hn
  obtain ⟨t, e, ha, hal, ho, ht⟩ := mbCmd_forwarded (i := i) hs hr hz hg hb hu hnh
  have halert : u.host.alert = s.host.alert := hu .alert hna
  exact ⟨t, e, ⟨ha, hal.trans halert⟩, ho, ht⟩

/-- A value within its range. -/
theorem out_eq_false {v lo hi : Nat} (hlo : lo ≤ v) (hhi : v ≤ hi) : out v lo hi = false := by
  simp [out, hlo, hhi]

end

/-! ## The tables of HEAD_SET_CHAR -/

/-- `nonDecreasing` is the order of a list (R78). -/
theorem nonDecreasing_iff_pairwise (l : List Nat) : nonDecreasing l = true ↔ l.Pairwise (· ≤ ·) := by
  rw [← List.isChain_iff_pairwise]
  induction l with
  | nil => simp [nonDecreasing]
  | cons a l ih =>
    cases l with
    | nil => simp [nonDecreasing]
    | cons b l => rw [nonDecreasing, Bool.and_eq_true, decide_eq_true_iff, ih, List.isChain_cons_cons]

/-- A table that falls somewhere is not non-decreasing. -/
theorem nonDecreasing_eq_false {l : List Nat} {i j : Nat} (hij : i < j) (hj : j < l.length) (hfall : l.getD j 0 < l.getD i 0) :
    nonDecreasing l = false := by
  rw [Bool.eq_false_iff, Ne, nonDecreasing_iff_pairwise, List.pairwise_iff_getElem]
  intro hord
  have hle := hord i j (by omega) hj hij
  rw [List.getD_eq_getElem _ _ hj, List.getD_eq_getElem _ _ (by omega)] at hfall
  omega

section
variable (s : State)

theorem State.restartPort_eq (p : Nat) : ∃ r, s.restartPort p = { s with loop := { s.loop with ring := r } } := by
  by_cases hr : s.loop.ring.isEmpty
  · exact ⟨s.loop.ring, by simp [State.restartPort, State.updLoop, hr]⟩
  · exact ⟨_, by simp only [State.restartPort, State.updLoop, if_neg hr]; rfl⟩

theorem State.stageChar_only (p : Nat) (v : Option (List Nat)) : Only [.cal] s (s.stageChar p v) := s.updCal_only _

theorem State.journal_only (b : JBody) : Only [.nvm] s (s.journal b) := s.updNvm_only _

/-- A table is journaled with the serial number of its head, and its stage is cleared. -/
theorem State.setChar_eq (p : Nat) (table : List Nat) : ∃ x r, s.setChar p table = { s with
      nvm := { s.nvm with waiting := s.nvm.waiting ++ [.char p { serial := x, table := some table }] },
      cal := { s.cal with charStaged := s.cal.charStaged.set none p none }, loop := { s.loop with ring := r } } ∧
    ∀ v, (s.portN p).headSerial = some v → x = some v := by
  obtain ⟨r, hr⟩ := State.restartPort_eq ((s.journal (.char p
    { serial := (s.portN p).headSerial <|> (s.cal.data.char.get {} p).serial, table := some table })).stageChar p none) p
  exact ⟨_, r, hr, fun v hv => by simp [hv]⟩

/-- Drive settings of several ports: each is journaled, in their order. -/
theorem State.foldl_setDrive_eq (d : Drive) (l : List Nat) : ∃ r, l.foldl (fun t p => t.setDrive d p) s =
    { s with nvm := { s.nvm with waiting := s.nvm.waiting ++ l.map fun p => .drive p d }, loop := { s.loop with ring := r } } := by
  induction l generalizing s with
  | nil => exact ⟨s.loop.ring, by simp⟩
  | cons p l ih =>
    obtain ⟨r₁, h₁⟩ := (s.journal (.drive p d)).restartPort_eq p
    obtain ⟨r, hr⟩ := ih (s.setDrive d p)
    refine ⟨r, ?_⟩
    rw [List.foldl_cons, hr, State.setDrive, h₁]
    simp [State.journal, State.updNvm]

theorem State.setThermal_only (v : Thermal) (p : Nat) : Only [.cal, .nvm, .port] s (s.setThermal v p) := by
  unfold State.setThermal
  extract_lets was s1
  have h1 : Only [.cal, .nvm, .port] s s1 := ((s.updData_only _).step (State.journal_only _ _)).mono (by decide)
  exact .ite h1 ((h1.step (s1.headWrite_only _ _ _)).mono (by decide))

theorem State.setThermal_cal (v : Thermal) (p : Nat) : (s.setThermal v p).cal =
    { s.cal with data := { s.cal.data with thermal := s.cal.data.thermal.set {} p v } } := by
  unfold State.setThermal
  extract_lets was s1
  split
  · rfl
  · exact s1.headWrite_only _ _ _ .cal (by decide)

/-- Thresholds of several ports: exactly these ports have them. -/
theorem State.foldl_setThermal_cal (v : Thermal) (l : List Nat) : ∃ m, (l.foldl (fun t p => t.setThermal v p) s).cal =
      { s.cal with data := { s.cal.data with thermal := m } } ∧
    ∀ q, SMap.get {} m q = if q ∈ l then v else s.cal.data.thermal.get {} q := by
  induction l generalizing s with
  | nil => exact ⟨_, rfl, fun q => by simp⟩
  | cons p l ih =>
    obtain ⟨m, hm, hget⟩ := ih (s.setThermal v p)
    rw [State.setThermal_cal] at hm hget
    refine ⟨m, hm, fun q => ?_⟩
    rw [hget, SMap.get_set]
    by_cases hql : q ∈ l <;> by_cases hqp : q = p <;> simp [hql, hqp]

end

section
variable {s : State} {h : MbHdr} {port : Byte} {e : List (BitVec 16)} {l : List Nat}

/-! ### HEAD_SET_CHAR -/

/-- PORT and HALF of a HEAD_SET_CHAR in range. -/
theorem headSetCharBody_fields {half : Byte} (hp : s.badPort port = false) (hh : half.toNat ≤ 1) :
    firstBad [(s.badPort port, 0x0301), (decide (1 < half.toNat), 0x0309)] = none := by
  simp [firstBad, hp, hh]

theorem pagesAdmitted_eq_false (hp : s.bat.pages = []) : s.pagesAdmitted = false := by simp [State.pagesAdmitted, hp]

/-- A first half is staged over whatever was staged before. -/
theorem headSetCharApply_first {p : Nat} (hp : s.bat.pages = []) : headSetCharApply p 0 l s = ok (s.stageChar p (some l)) := by
  unfold headSetCharApply
  split <;> simp [pagesAdmitted_eq_false hp]

/-- A second half that makes a non-decreasing table. -/
theorem headSetCharApply_second {p : Nat} {m : List Nat} (hp : s.bat.pages = []) (hl : s.cal.charStaged.get none p = some l)
    (hord : nonDecreasing (l ++ m) = true) : headSetCharApply p 1 m s = ok (s.setChar p (l ++ m)) := by
  simp [headSetCharApply, hl, hord, pagesAdmitted_eq_false hp]

/-- A second half that makes a falling table discards the staged half (R78, R110). -/
theorem headSetCharApply_falling {p : Nat} {m : List Nat} (hl : s.cal.charStaged.get none p = some l)
    (hord : nonDecreasing (l ++ m) = false) : headSetCharApply p 1 m s = fail 0x0304 (s.stageChar p none) := by
  simp [headSetCharApply, hl, hord]

theorem exec_headSetChar_first (hs : Safety.served s h 260 = true) (hn : s.notSupervisor = false) (hp : s.badPort port = false)
    (hpages : s.bat.pages = []) :
    ∃ t, exec (.headSetChar h port 0 0 e) s = .next t ∧ Safety.Answered h 0x0303 0 [] s t ∧
      t = { s with host := t.host, twin := t.twin,
                   cal := { s.cal with charStaged := s.cal.charStaged.set none port.toNat (some (e.map (·.toNat))) } } := by
  have hbody : headSetCharBody port 0 e (s.mbStart h) = .done 0 [] _ :=
    twinGate_ok (headSetCharBody_fields hp (by decide)) hn (headSetCharApply_first hpages)
  obtain ⟨t, hx, ha, -, ht⟩ := mbCmd_forwarded_answered (c := { op := 0x0303, len := 260 }) (i := .headSetChar h port 0 0 e)
    hs rfl rfl rfl hbody (State.stageChar_only _ _ _) (by decide)
  exact ⟨t, hx, ha, ht⟩

theorem exec_headSetChar_second (hs : Safety.served s h 260 = true) (hn : s.notSupervisor = false) (hp : s.badPort port = false)
    (hpages : s.bat.pages = []) (hl : s.cal.charStaged.get none port.toNat = some l)
    (hord : nonDecreasing (l ++ e.map (·.toNat)) = true) :
    ∃ t, exec (.headSetChar h port 1 0 e) s = .next t ∧ Safety.Answered h 0x0303 0 [] s t ∧
      t = { s with host := t.host, twin := t.twin, cal := t.cal, nvm := t.nvm, loop := { s.loop with ring := t.loop.ring } } ∧
      t.cal = { s.cal with charStaged := t.cal.charStaged } ∧ t.cal.charStaged.get none port.toNat = none ∧
      (∀ p, p ≠ port.toNat → t.cal.charStaged.get none p = s.cal.charStaged.get none p) ∧
      ∃ x, t.nvm = { s.nvm with waiting := s.nvm.waiting ++ [.char port.toNat { serial := x, table := some (l ++ e.map (·.toNat)) }] } ∧
        ∀ v, (s.portN port.toNat).headSerial = some v → x = some v := by
  have hbody : headSetCharBody port 1 e (s.mbStart h) = .done 0 [] _ :=
    twinGate_ok (headSetCharBody_fields hp (by decide)) hn (headSetCharApply_second hpages hl hord)
  obtain ⟨x, r, hset, hx⟩ := (s.mbStart h).setChar_eq port.toNat (l ++ e.map (·.toNat))
  rw [hset] at hbody
  obtain ⟨t, he, ha, -, ht⟩ := mbCmd_forwarded_answered (c := { op := 0x0303, len := 260 }) (i := .headSetChar h port 1 0 e)
    (ps := [.nvm, .cal, .loop]) hs rfl rfl rfl hbody (.of_eq rfl (by decide)) (by decide)
  have hcal : t.cal = { s.cal with charStaged := s.cal.charStaged.set none port.toNat none } := by rw [ht]; rfl
  have hstage : t.cal.charStaged = s.cal.charStaged.set none port.toNat none := by rw [hcal]
  refine ⟨t, he, ha, ht.trans (by rw [ht]; rfl), by rw [hcal], ?_, fun p hne => ?_, x, by rw [ht]; rfl, hx⟩
  · rw [hstage, SMap.get_set_same]
  · rw [hstage, SMap.get_set_ne _ _ _ hne]

theorem exec_headSetChar_falling (hs : Safety.served s h 260 = true) (hn : s.notSupervisor = false) (hp : s.badPort port = false)
    (hl : s.cal.charStaged.get none port.toNat = some l) (hord : nonDecreasing (l ++ e.map (·.toNat)) = false) :
    ∃ t, exec (.headSetChar h port 1 0 e) s = .next t ∧ Safety.Answered h 0x0303 0x0304 [] s t ∧
      t = { s with host := t.host, cal := { s.cal with charStaged := s.cal.charStaged.set none port.toNat none } } := by
  have hbody : headSetCharBody port 1 e (s.mbStart h) = .done 0x0304 [] ((s.mbStart h).stageChar port.toNat none) :=
    twinGate_refused (headSetCharBody_fields hp (by decide)) hn (headSetCharApply_falling hl hord)
  obtain ⟨t, he, ha, hal, -, ht⟩ := mbCmd_done_only (c := { op := 0x0303, len := 260 }) (i := .headSetChar h port 1 0 e)
    hs rfl rfl rfl hbody (State.stageChar_only _ _ _) (by decide)
  exact ⟨t, he, ⟨ha, hal⟩, ht⟩

/-! ### HEAD_SET_DRIVE and HEAD_SET_THERMAL -/

theorem headSetDriveBody_fields {m g w : BitVec 16} (hp : s.badPortAll port = false) (hm : 200 ≤ m.toNat ∧ m.toNat ≤ 5000)
    (hg : 20 ≤ g.toNat ∧ g.toNat ≤ 1000) (hw : 1 ≤ w.toNat ∧ w.toNat ≤ 1000) :
    firstBad [(s.badPortAll port, 0x0301),
      (out m.toNat 200 5000 || out g.toNat 20 1000 || out w.toNat 1 1000, 0x0309)] = none := by
  simp [firstBad, hp, out_eq_false hm.1 hm.2, out_eq_false hg.1 hg.2, out_eq_false hw.1 hw.2]

theorem exec_headSetDrive {m g w : BitVec 16} (hs : Safety.served s h 8 = true) (hn : s.notSupervisor = false)
    (hp : s.badPortAll port = false) (hm : 200 ≤ m.toNat ∧ m.toNat ≤ 5000) (hg : 20 ≤ g.toNat ∧ g.toNat ≤ 1000)
    (hw : 1 ≤ w.toNat ∧ w.toNat ≤ 1000) (hpages : s.bat.pages = []) :
    ∃ t, exec (.headSetDrive h port 0 m g w) s = .next t ∧ Safety.Answered h 0x0302 0 [] s t ∧
      t = { s with host := t.host, twin := t.twin, nvm := t.nvm, loop := { s.loop with ring := t.loop.ring } } ∧
      t.nvm = { s.nvm with waiting := s.nvm.waiting ++ (s.portsOf port).map fun p => .drive p ⟨m, g, w⟩ } := by
  obtain ⟨r, hset⟩ := (s.mbStart h).foldl_setDrive_eq ⟨m, g, w⟩ (s.portsOf port)
  have hbody : headSetDriveBody port m g w (s.mbStart h) = .done 0 [] _ :=
    twinGate_ok (headSetDriveBody_fields hp hm hg hw) hn
      ((if_neg (Bool.eq_false_iff.1 (pagesAdmitted_eq_false hpages))).trans (congrArg ok hset))
  obtain ⟨t, he, ha, -, ht⟩ := mbCmd_forwarded_answered (c := { op := 0x0302, len := 8 }) (i := .headSetDrive h port 0 m g w)
    (ps := [.nvm, .loop]) hs rfl rfl rfl hbody (.of_eq rfl (by decide)) (by decide)
  exact ⟨t, he, ha, ht.trans (by rw [ht]; rfl), by rw [ht]; rfl⟩

theorem exec_headSetDrive_pages {m g w : BitVec 16} (hs : Safety.served s h 8 = true) (hn : s.notSupervisor = false)
    (hp : s.badPortAll port = false) (hm : 200 ≤ m.toNat ∧ m.toNat ≤ 5000) (hg : 20 ≤ g.toNat ∧ g.toNat ≤ 1000)
    (hw : 1 ≤ w.toNat ∧ w.toNat ≤ 1000) (hpages : s.bat.pages ≠ []) :
    ∃ t, exec (.headSetDrive h port 0 m g w) s = .next t ∧ Safety.Answered h 0x0302 0x0302 [] s t ∧ t = { s with host := t.host } := by
  have hadm : (s.mbStart h).pagesAdmitted = true := by simp [State.pagesAdmitted, hpages]
  exact mbCmd_answer hs rfl rfl rfl (twinGate_refused (headSetDriveBody_fields hp hm hg hw) hn (if_pos hadm))

theorem exec_headSetThermal {r : HeadThermalReq} (hs : Safety.served s h 12 = true) (hn : s.notSupervisor = false) (hr : r.rsv = 0)
    (hp : s.badPortAll r.port = false) (hgood : (thermalOfReq r).good = true) :
    ∃ t, exec (.headSetThermal h r) s = .next t ∧ Safety.Answered h 0x0304 0 [] s t ∧
      t = { s with host := t.host, twin := t.twin, cal := t.cal, nvm := t.nvm, port := t.port } ∧
      (∀ p, t.cal.data.thermal.get {} p = if p ∈ s.portsOf r.port then thermalOfReq r else s.cal.data.thermal.get {} p) ∧
      t.cal = { s.cal with data := { s.cal.data with thermal := t.cal.data.thermal } } := by
  have hp' : (s.mbStart h).badPortAll r.port = false := hp
  have hbody : headSetThermalBody r (s.mbStart h) = .done 0 [] _ := twinGate_ok (by simp [firstBad, hp', hgood]) hn rfl
  obtain ⟨t, he, ha, ho, ht⟩ := mbCmd_forwarded_answered (c := { op := 0x0304, len := 12, rsv := r.rsv != 0 })
    (i := .headSetThermal h r) hs (by simp [hr]) rfl rfl hbody (Only.foldl (fun t p => t.setThermal_only _ p) _ _) (by decide)
  obtain ⟨m, hm, hget⟩ := (s.mbStart h).foldl_setThermal_cal (thermalOfReq r) (s.portsOf r.port)
  have hcal : t.cal = { s.cal with data := { s.cal.data with thermal := m } } := by rw [ht]; exact hm
  exact ⟨t, he, ha, (ho.mono (qs := [.host, .alert, .twin, .cal, .nvm, .port]) (by decide)).eq_patch, by rw [hcal]; exact hget, by rw [hcal]⟩

end

/-- Settles O6: each of the three commands behind the gate of Table 09-5, HEAD_SET_CHAR by its halves. Drive settings and tables wait for
their records' commits, thresholds do not (log 72). -/
theorem headSettingsApply : Obligations.HeadSettingsApply :=
  ⟨fun _ _ _ _ _ _ hs hn hp hm hg hw hpages => exec_headSetDrive hs hn hp hm hg hw hpages,
    fun _ _ _ _ _ _ hs hn hp hm hg hw hpages => exec_headSetDrive_pages hs hn hp hm hg hw hpages,
    fun _ _ _ hs hn hr hp hgood => exec_headSetThermal hs hn hr hp hgood,
    fun _ _ _ _ hs hn hp hpages => exec_headSetChar_first hs hn hp hpages,
    fun _ _ _ _ _ hs hn hp hpages hl hord => exec_headSetChar_second hs hn hp hpages hl hord⟩

/-- Settles O58: a table that falls is not non-decreasing, and the completing half of such a table only discards the stage. -/
theorem decreasingTableIsRejected : Obligations.DecreasingTableIsRejected :=
  fun _ _ _ _ _ hs hn hp hl ⟨_, _, hij, hj, hfall⟩ =>
    exec_headSetChar_falling hs hn hp hl (nonDecreasing_eq_false hij hj hfall)

end Sys2Proof.Machine

namespace Sys2Proof.Machine

/-! ## The FIRE settings and FIRE_GET_HIDING -/

section
variable {s : State} {h : MbHdr}

/-- A setting behind the gate of Table 09-5 that is in force at once, and raises no alert. -/
theorem mbCmd_setting {c : MbCheck} {i : Instr} {bad : Option Nat} {op : Nat} {payload : List Byte} {g : State → State}
    {ps : List Part} (hbad : bad = none) (hs : Safety.served s h c.len = true) (hn : s.notSupervisor = false)
    (hu : Only ps (s.mbStart h) (g (s.mbStart h))) (hr : c.rsv = false) (hz : c.zero = false) (hg : c.gated (s.mbStart h) = false)
    (hps : (.host ∉ ps ∧ .pending ∉ ps ∧ .fuse ∉ ps) ∧ .alert ∉ ps) :
    ∃ t, mbCmd h i (mbServe c h (twinGate bad op payload fun s => ok (g s))) s = .next t ∧ Safety.Answered h c.op 0 [] s t ∧
      t = { g (s.mbStart h) with host := t.host, twin := t.twin } := by
  obtain ⟨t, he, ha, -, ht⟩ := mbCmd_forwarded_answered (i := i) hs hr hz hg
    (twinGate_ok (body := fun s => ok (g s)) (op := op) (payload := payload) hbad hn rfl) hu hps
  exact ⟨t, he, ha, ht⟩

/-- Targets that satisfy R76. -/
theorem levelsBad_eq_false {a b c : Nat} (ha : 0x2000 ≤ a) (hab : a < b) (hbc : b < c) (hc : c ≤ 0x6000) :
    levelsBad a b c = false := by
  simp [levelsBad, out]; omega

theorem State.setLevels_eq (a b c : Nat) : s.setLevels a b c =
    { s with nvm := { s.nvm with waiting := s.nvm.waiting ++ [.levels a b c] }, loop := { s.loop with ring := [] } } := rfl

theorem exec_fireSetLevels {a b c : BitVec 16} (hs : Safety.served s h 8 = true) (hn : s.notSupervisor = false)
    (ha : 0x2000 ≤ a.toNat) (hab : a.toNat < b.toNat) (hbc : b.toNat < c.toNat) (hc : c.toNat ≤ 0x6000) (hp : s.bat.pages = []) :
    ∃ t, exec (.fireSetLevels h a b c 0) s = .next t ∧ Safety.Answered h 0x0401 0 [] s t ∧
      t = { s with host := t.host, twin := t.twin, nvm := t.nvm, loop := { s.loop with ring := [] } } ∧
      t.nvm = { s.nvm with waiting := s.nvm.waiting ++ [.levels a.toNat b.toNat c.toNat] } := by
  have hempty : (s.mbStart h).bat.pages.isEmpty = true := List.isEmpty_iff.2 hp
  have hbody : fireSetLevelsBody a b c (s.mbStart h) = .done 0 [] _ :=
    twinGate_ok (by simp [levelsBad_eq_false ha hab hbc hc]) hn (if_pos hempty)
  obtain ⟨t, he, hans, -, ht⟩ := mbCmd_forwarded_answered (c := { op := 0x0401, len := 8 }) (i := .fireSetLevels h a b c 0)
    (ps := [.nvm, .loop]) hs rfl rfl rfl hbody (.of_eq rfl (by decide)) (by decide)
  exact ⟨t, he, hans, ht.trans (by rw [ht]; rfl), by rw [ht]; rfl⟩

/-- FIRE_SET_COMP's rules on a chip without a partner in UP: the rules come into force at once, and nothing is forwarded (R275). -/
theorem fireSetCompBody_alone {a b c r : Byte} (hn : s.notSupervisor = false) (hp : s.pairUp = false) (ha : a &&& 3 ≠ 3)
    (hb : b &&& 3 ≠ 3) (hc : c &&& 3 ≠ 3) (hr : out r.toNat 1 4 = false) : fireSetCompBody a b c r s = ok (s.setComp a b c r) := by
  have hp' : (s.setComp a b c r).pairUp = false := hp
  have hgate : fireSetCompBody a b c r s = .done 0 [] ((s.setComp a b c r).forward9 0x0402 s.applyKey [a, b, c, r]) := by
    unfold fireSetCompBody
    exact twinGateAt_ok (if_neg (not_or.2 ⟨ha, not_or.2 ⟨hb, not_or.2 ⟨hc, Bool.eq_false_iff.1 hr⟩⟩⟩)) hn (by simp [ok, hp])
  rw [hgate, State.forward9_of_not_pairUp hp', ok]

theorem exec_fireSetComp {a b c r : Byte} (hs : Safety.served s h 4 = true) (hn : s.notSupervisor = false) (hp : s.pairUp = false)
    (ha : a.toNat ≤ 15) (hb : b.toNat ≤ 15) (hc : c.toNat ≤ 15) (ha3 : a &&& 3 ≠ 3) (hb3 : b &&& 3 ≠ 3) (hc3 : c &&& 3 ≠ 3)
    (hr1 : 1 ≤ r.toNat) (hr4 : r.toNat ≤ 4) :
    ∃ t, exec (.fireSetComp h a b c r) s = .next t ∧ Safety.Answered h 0x0402 0 [] s t ∧
      t = { s with host := t.host, fire := { s.fire with ruleS := a, ruleM := b, ruleL := c, reach := r.toNat } } := by
  have hbody := fireSetCompBody_alone (s := s.mbStart h) hn hp ha3 hb3 hc3 (out_eq_false hr1 hr4)
  obtain ⟨t, he, hans, hal, -, ht⟩ := mbCmd_done_only
    (c := { op := 0x0402, len := 4, rsv := 15 < a.toNat || 15 < b.toNat || 15 < c.toNat }) (i := .fireSetComp h a b c r)
    hs (by simp [ha, hb, hc]) rfl rfl hbody (State.updFire_only _ _) (by decide)
  exact ⟨t, he, ⟨hans, hal⟩, ht⟩

theorem exec_fireSetWarm {code : Byte} {gain : BitVec 16} {rate : BitVec 32} (hs : Safety.served s h 8 = true)
    (hn : s.notSupervisor = false) (hcode : 1 ≤ code.toNat ∧ code.toNat ≤ 80) (hgain : 1 ≤ gain.toNat ∧ gain.toNat ≤ 30000)
    (hrate : 1 ≤ rate.toNat ∧ rate.toNat ≤ 30000) :
    ∃ t, exec (.fireSetWarm h code 0 gain rate) s = .next t ∧ Safety.Answered h 0x0403 0 [] s t ∧
      t = { s with host := t.host, twin := t.twin,
                   fire := { s.fire with warmCode := code.toNat, warmGain := gain.toNat, warmRateMax := rate.toNat } } :=
  mbCmd_setting (g := State.setWarm code.toNat gain.toNat rate.toNat)
    (by simp [out_eq_false hcode.1 hcode.2, out_eq_false hgain.1 hgain.2, out_eq_false hrate.1 hrate.2]) hs hn
    (State.updFire_only _ _) rfl rfl rfl (by decide)

theorem exec_fireSetMeasure {n : BitVec 32} (hs : Safety.served s h 4 = true) (hn : s.notSupervisor = false)
    (hr : 60 ≤ n.toNat ∧ n.toNat ≤ 86400) :
    ∃ t, exec (.fireSetMeasure h n) s = .next t ∧ Safety.Answered h 0x0404 0 [] s t ∧
      t = { s with host := t.host, twin := t.twin, fire := { s.fire with measPeriodS := n.toNat } } :=
  mbCmd_setting (g := State.setMeasure n.toNat) (by simp [out_eq_false hr.1 hr.2]) hs hn (State.updFire_only _ _) rfl rfl rfl
    (by decide)

theorem exec_fireGetHiding (hs : Safety.served s h 0 = true) :
    ∃ t, exec (.fireGetHiding h) s = .next t ∧ Safety.Answered h 0x0408 0 s.hidingBytes s t ∧ t = { s with host := t.host } :=
  mbCmd_answer hs rfl rfl rfl rfl

end

/-- Settles O8: the levels are journaled and wait for their record's commit (log 72), the other settings are in force at once. -/
theorem fireSettingsApply : Obligations.FireSettingsApply :=
  ⟨fun _ _ _ _ _ hs hn ha hab hbc hc hp => exec_fireSetLevels hs hn ha hab hbc hc hp,
    fun _ _ _ _ _ _ hs hn hp ha hb hc ha3 hb3 hc3 hr1 hr4 => exec_fireSetComp hs hn hp ha hb hc ha3 hb3 hc3 hr1 hr4,
    fun _ _ _ _ _ hs hn hcode hgain hrate => exec_fireSetWarm hs hn hcode hgain hrate,
    fun _ _ _ hs hn hr => exec_fireSetMeasure hs hn hr, fun _ _ hs => exec_fireGetHiding hs⟩

end Sys2Proof.Machine

namespace Sys2Proof.Machine

/-! ## What a head write leaves of a port -/

/-- Port `q'` is `q` but for what its control frames use (R134). -/
def Port.SameLink (q q' : Port) : Prop :=
  q' = { q with ctrlQ := q'.ctrlQ, ctrlOut := q'.ctrlOut, ctrlSeq := q'.ctrlSeq, txQ := q'.txQ, measuring := q'.measuring,
                measSeq := q'.measSeq, holds := q'.holds }

/-- Queueing control frames and sending the next one. -/
theorem Port.queue_pump_sameLink (retries : Nat) (q : Port) (rs : List CtrlReq) : q.SameLink ({ q with ctrlQ := rs }.pump retries) := by
  unfold Port.pump
  split
  · rfl
  · split <;> rfl

theorem Port.SameLink.st_eq {q q' : Port} (h : q.SameLink q') : q'.st = q.st := by
  unfold Port.SameLink at h
  rw [h]

theorem Port.SameLink.withheld_eq {q q' : Port} (h : q.SameLink q') : q'.withheld = q.withheld := by
  unfold Port.SameLink at h
  rw [h]

/-- A port that awaits an answer sends no control frame. -/
theorem Port.pump_of_out {retries : Nat} {q : Port} {o : CtrlOut} (h : q.ctrlOut = some o) : q.pump retries = q := by
  simp [Port.pump, h]

/-- A port with no control frame to send sends none. -/
theorem Port.pump_of_empty {retries : Nat} {q : Port} (h : q.ctrlQ = []) : q.pump retries = q := by
  unfold Port.pump
  split
  · rfl
  · rw [h]

section
variable (s : State)

theorem State.headWrite_portN_ne {p q : Nat} (addr : Nat) (data : List Byte) (h : q ≠ p) :
    (s.headWrite p addr data).portN q = s.portN q := by
  unfold State.headWrite
  split
  · rfl
  · split
    · exact s.portN_updPort_ne _ _ _ h
    · split
      · exact s.portN_updPort_ne _ _ _ h
      · rfl

theorem State.headWrite_portN_same (p addr : Nat) (data : List Byte) : (s.portN p).SameLink ((s.headWrite p addr data).portN p) := by
  unfold State.headWrite
  split
  · rfl
  · split
    · rw [State.portN_updPort_same]
      exact Port.queue_pump_sameLink _ _ _
    · split
      · rw [State.portN_updPort_same]; rfl
      · rfl

end

/-! ## HEAD_RESUME, HEAD_SET_NOZZLE, HEAD_MEASURE -/

section
variable {s : State} {h : MbHdr} {port : Byte}

theorem State.resumeHead_only (p : Nat) : Only [.port, .fire, .log, .alert] s (s.resumeHead p) :=
  (((s.updPort_only p _).step (State.headWrite_only _ _ _ _)).step (State.rehide_only _)).mono (by decide)

/-- A cut head that may resume is no longer withheld; no other port changes. -/
theorem State.resumeHead_portN (p : Nat) :
    ((s.resumeHead p).portN p).withheld = .none ∧ ∀ q, q ≠ p → (s.resumeHead p).portN q = s.portN q := by
  unfold State.resumeHead
  constructor
  · rw [Only.portN (State.rehide_only _) (by decide), (State.headWrite_portN_same _ p adrCutClear (le 4 1)).withheld_eq,
      State.portN_updPort_same]
  · intro q hq
    rw [Only.portN (State.rehide_only _) (by decide), State.headWrite_portN_ne _ _ _ hq, State.portN_updPort_ne _ _ _ _ hq]

theorem headResumeBody_ok {x : Int} (hn : s.notSupervisor = false) (hp : s.badPort port = false)
    (hst : (s.portN port.toNat).st = .up) (hw : (s.portN port.toNat).withheld = .cut) (hx : (s.portN port.toNat).report = some x)
    (hwarn : x < (s.cal.data.thermal.get {} port.toNat).tWarn) :
    headResumeBody port s = .done 0 [] ((s.resumeHead port.toNat).forward9 0x0305 atOnce [port, 0, 0, 0]) :=
  twinGate_ok (by simp [firstBad, hp]) hn (by simp [hst, hw, hx, ok, not_le.2 hwarn])

theorem exec_headResume {x : Int} (hs : Safety.served s h 4 = true) (hn : s.notSupervisor = false) (hp : s.badPort port = false)
    (hst : (s.portN port.toNat).st = .up) (hw : (s.portN port.toNat).withheld = .cut) (hx : (s.portN port.toNat).report = some x)
    (hwarn : x < (s.cal.data.thermal.get {} port.toNat).tWarn) :
    ∃ t, exec (.headResume h port 0) s = .next t ∧ Safety.AnsweredWith h 0x0305 0 [] s t ∧
      t = { s with host := t.host, twin := t.twin, port := t.port, fire := t.fire, log := t.log } ∧
      (t.portN port.toNat).withheld = .none ∧ ∀ p, p ≠ port.toNat → t.portN p = s.portN p := by
  obtain ⟨t, he, ha, -, ho, ht⟩ := mbCmd_forwarded (s := s) (c := { op := 0x0305, len := 4 }) (i := .headResume h port 0) hs rfl rfl rfl
    (headResumeBody_ok (s := s.mbStart h) hn hp hst hw hx hwarn) (State.resumeHead_only _) (by decide)
  obtain ⟨hown, hother⟩ := (s.mbStart h).resumeHead_portN port.toNat
  have hport : ∀ q, t.portN q = ((s.mbStart h).resumeHead port.toNat).portN q := fun q => by rw [ht]; rfl
  exact ⟨t, he, ha, ho.eq_patch, by rw [hport, hown], fun q hq => by rw [hport, hother q hq]; rfl⟩

theorem State.updVol_only (p i : Nat) (f : NozVol → NozVol) : Only [.cal] s (s.updVol p i f) := s.updCal_only _

/-- An accepted action journals the entry; besides it only OK_RUN and what waits for the partner can change. -/
theorem State.actNozzle_spec (key : BitVec 32) (action : Byte) (nozzle : BitVec 16) (value : BitVec 32) (n : NozCal) :
    Only [.nvm, .cal, .twin] s (s.actNozzle key port action nozzle value n) ∧
      (s.actNozzle key port action nozzle value n).cal.data = s.cal.data ∧
      (s.actNozzle key port action nozzle value n).nvm =
        { s.nvm with waiting := s.nvm.waiting ++ [.nozzle [(port.toNat, nozzle.toNat, n)]] } := by
  unfold State.actNozzle
  extract_lets p i s1 s2
  have h1 : Only [.nvm] s s1 := s.journal_only _
  have h2 : Only [.cal] s1 s2 := .ite (State.updVol_only _ _ _) (.refl s1)
  have hdata : s2.cal.data = s.cal.data := by unfold s2; split <;> rfl
  have h3 : Only [.twin] s2 (if s2.pairUp && key != atOnce then s2.applyLater key (.nozAct p action.toNat i value.toNat) else s2) :=
    .ite (s2.updTwin_only _) (.refl s2)
  have hcal := h3 .cal (by decide)
  have hnvm := (h2.step h3) .nvm (by decide)
  exact ⟨((h1.step h2).step h3).mono (by decide), (congrArg Cal.data hcal).trans hdata, hnvm⟩

theorem exec_headSetNozzle {action : Byte} {nozzle : BitVec 16} {value : BitVec 32} {n : NozCal} (hs : Safety.served s h 8 = true)
    (hn : s.notSupervisor = false) (hp : s.badPort port = false) (hact : 1 ≤ action.toNat ∧ action.toNat ≤ 4)
    (hnoz : nozzle.toNat < s.nozCount port.toNat) (hval : nozValueBad action.toNat value.toNat = false)
    (hok : nozAction action.toNat value.toNat (s.nozAhead port.toNat nozzle.toNat) = some n) :
    ∃ t, exec (.headSetNozzle h port action nozzle value) s = .next t ∧ Safety.Answered h 0x0307 0 [] s t ∧
      t = { s with host := t.host, twin := t.twin, cal := t.cal, nvm := t.nvm } ∧ t.cal.data = s.cal.data ∧
      t.nvm = { s.nvm with waiting := s.nvm.waiting ++ [.nozzle [(port.toNat, nozzle.toNat, n)]] } := by
  have hp' : (s.mbStart h).badPort port = false := hp
  have hnoz' : ¬ (s.mbStart h).nozCount port.toNat ≤ nozzle.toNat := not_le.2 hnoz
  have hok' : nozAction action.toNat value.toNat ((s.mbStart h).nozAhead port.toNat nozzle.toNat) = some n := hok
  have hbody : headSetNozzleBody port action nozzle value (s.mbStart h) = .done 0 []
      (((s.mbStart h).actNozzle (s.mbStart h).applyKey port action nozzle value n).forward9 0x0307 (s.mbStart h).applyKey
        (nozPayload port action nozzle value)) := by
    unfold headSetNozzleBody
    exact twinGateAt_ok (by simp [firstBad, hp', out_eq_false hact.1 hact.2, hnoz', hval]) hn (by rw [hok']; rfl)
  obtain ⟨ho, hdata, hnvm⟩ := (s.mbStart h).actNozzle_spec (port := port) (s.mbStart h).applyKey action nozzle value n
  obtain ⟨t, he, ha, hot, ht⟩ := mbCmd_forwarded_answered (c := { op := 0x0307, len := 8 })
    (i := .headSetNozzle h port action nozzle value) hs rfl rfl rfl hbody ho (by decide)
  exact ⟨t, he, ha, (hot.mono (qs := [.host, .alert, .twin, .nvm, .cal]) (by decide)).eq_patch, by rw [ht]; exact hdata,
    by rw [ht]; exact hnvm⟩

/-- A store written out key by key. -/
theorem SMap.get_map_key {α : Type} (d : α) (f : Nat → α) {l : List Nat} {i : Nat} (hi : i ∈ l) :
    SMap.get d (l.map fun k => (k, f k)) i = f i := by
  induction l with
  | nil => simp at hi
  | cons k l ih =>
    by_cases hk : k = i
    · simp [SMap.get, hk]
    · simpa [SMap.get, hk] using ih ((List.mem_cons.1 hi).resolve_left (Ne.symm hk))

theorem headMeasureBody_port (hn : s.notSupervisor = false) (hp : s.badPort port = false) (hone : port ≠ 0xFF)
    (hst : (s.portN port.toNat).st = .up) :
    headMeasureBody port s = .done 0 [] ((s.makeDue port.toNat).forward9 0x0308 atOnce [port, 0, 0, 0]) := by
  have hfields : s.badPortAll port = false := Bool.and_eq_false_iff.2 (.inr hp)
  have hports : s.portsOf port = [port.toNat] := if_neg hone
  exact twinGate_ok (by simp [firstBad, hfields]) hn (by simp [ok, hports, hst])

theorem exec_headMeasure (hs : Safety.served s h 4 = true) (hn : s.notSupervisor = false) (hp : s.badPort port = false)
    (hone : port ≠ 0xFF) (hst : (s.portN port.toNat).st = .up) :
    ∃ t, exec (.headMeasure h port 0) s = .next t ∧ Safety.Answered h 0x0308 0 [] s t ∧
      t = { s with host := t.host, twin := t.twin, cal := t.cal } ∧
      (∀ i, i < s.nozCount port.toNat → (t.cal.volN port.toNat i).due = true) ∧
      ∀ p, p ≠ port.toNat → SMap.get [] t.cal.vol p = SMap.get [] s.cal.vol p := by
  obtain ⟨t, he, ha, ho, ht⟩ := mbCmd_forwarded_answered (s := s) (c := { op := 0x0308, len := 4 }) (i := .headMeasure h port 0) hs
    rfl rfl rfl (headMeasureBody_port (s := s.mbStart h) hn hp hone hst) (State.updCal_only _ _) (by decide)
  have hvol : t.cal.vol = s.cal.vol.set [] port.toNat
      ((List.range (s.nozCount port.toNat)).map fun i => (i, { s.cal.volN port.toNat i with due := true })) := by rw [ht]; rfl
  refine ⟨t, he, ha, (ho.mono (qs := [.host, .alert, .twin, .cal]) (by decide)).eq_patch, fun i hi => ?_, fun p hp => ?_⟩
  · rw [Cal.volN, hvol, SMap.get_set_same]
    exact congrArg NozVol.due (SMap.get_map_key {} _ (List.mem_range.2 hi))
  · rw [hvol, SMap.get_set_ne _ _ _ hp]

/-! ## HEAD_GET_INFO and HEAD_GET_NOZZLE -/

theorem exec_headGetInfo (hs : Safety.served s h 4 = true) (hp : s.badPort port = false) :
    ∃ t, exec (.headGetInfo h port 0) s = .next t ∧ Safety.Answered h 0x0301 0 (s.headInfo port.toNat) s t ∧
      t = { s with host := t.host } :=
  mbCmd_answer hs rfl rfl rfl (if_neg (Bool.eq_false_iff.1 hp))

theorem exec_headGetInfo_disabled (hs : Safety.served s h 4 = true) (hp : s.badPort port = true) :
    ∃ t, exec (.headGetInfo h port 0) s = .next t ∧ Safety.Answered h 0x0301 0x0301 [] s t ∧ t = { s with host := t.host } :=
  mbCmd_answer hs rfl rfl rfl (if_pos hp)

theorem exec_headGetNozzle {first count : BitVec 16} (hs : Safety.served s h 8 = true) (hp : s.badPort port = false)
    (hc : 1 ≤ count.toNat ∧ count.toNat ≤ 64) (hlast : first.toNat + count.toNat ≤ s.nozCount port.toNat) :
    ∃ t, exec (.headGetNozzle h port 0 first count 0) s = .next t ∧
      Safety.Answered h 0x0306 0 ((List.range count.toNat).flatMap fun k => s.nozEntry port.toNat (first.toNat + k)) s t ∧
      t = { s with host := t.host } := by
  obtain ⟨hc1, hc64⟩ := hc
  have hzero : (count == 0) = false := beq_eq_false_iff_ne.2 fun e => by simp [e] at hc1
  have hfields : firstBad [((s.mbStart h).badPort port, 0x0301), (decide ((s.mbStart h).nozCount port.toNat ≤ first.toNat), 0x0307),
      (decide (64 < count.toNat), 0x0309),
      (decide ((s.mbStart h).nozCount port.toNat < first.toNat + count.toNat), 0x0307)] = none := by
    have hp' : (s.mbStart h).badPort port = false := hp
    have h1 : ¬ (s.mbStart h).nozCount port.toNat ≤ first.toNat := fun hle => by
      have : s.nozCount port.toNat ≤ first.toNat := hle
      omega
    have h2 : ¬ (s.mbStart h).nozCount port.toNat < first.toNat + count.toNat := not_lt.2 hlast
    simp [firstBad, hp', h1, h2, hc64]
  have hbody : headGetNozzleBody port first count (s.mbStart h) =
      .done 0 ((List.range count.toNat).flatMap fun k => s.nozEntry port.toNat (first.toNat + k)) (s.mbStart h) := by
    simp only [headGetNozzleBody, hfields, checked]; rfl
  exact mbCmd_answer hs rfl hzero rfl hbody

end

/-- Settles O7: HEAD_RESUME, HEAD_SET_NOZZLE and HEAD_MEASURE behind the gate of Table 09-5, and the two reports. A RETIRE keeps CAUSE
and OK_RUN (log 115). -/
theorem headActionsAndReports : Obligations.HeadActionsAndReports :=
  ⟨fun _ _ _ _ hs hn hp hst hw hx hwarn => exec_headResume hs hn hp hst hw hx hwarn,
    fun _ _ _ _ _ _ _ hs hn hp hact hnoz hval hok => exec_headSetNozzle hs hn hp hact hnoz hval hok,
    fun _ _ _ hs hn hp hone hst => exec_headMeasure hs hn hp hone hst,
    fun _ _ _ hs hp => exec_headGetInfo hs hp, fun _ _ _ hs hp => exec_headGetInfo_disabled hs hp,
    fun _ _ _ _ _ hs hp hc hlast => exec_headGetNozzle hs hp hc hlast⟩

end Sys2Proof.Machine

namespace Sys2Proof.Machine

/-! ## What a fall of FIRE_PERMIT leaves of the fire unit -/

/-- The fire unit but for the marked ranges that it keeps for the uniformity loop. -/
def Fire.unmarked (f : Fire) : Fire := { f with spoilt := [] }

/-- The fire unit with FIRE_PERMIT low; the cause is that of the fall, if it was high (R101). -/
def Fire.dropped (cause : Nat) (f : Fire) : Fire :=
  { f with permit := false, dropCause := if f.permit then cause else f.dropCause }

theorem Fire.dropped_of_low {f : Fire} (h : f.permit = false) (cause : Nat) : f.dropped cause = f := by
  obtain ⟨permit⟩ := f
  cases h
  rfl

section
variable (s : State)

theorem State.markPage_unmarked (h b lo hi : Nat) : (s.markPage h b lo hi).fire.unmarked = s.fire.unmarked := by
  unfold State.markPage
  extract_lets s1
  have h1 : s1.fire = s.fire := by unfold s1; split <;> rfl
  split
  · rw [← h1]; rfl
  · rw [h1]

theorem State.endPage_unmarked (mark h : Nat) : (s.endPage mark h).fire.unmarked = s.fire.unmarked := by
  unfold State.endPage
  split
  case h_1 => rfl
  case h_2 pg _ =>
    extract_lets next first s1 s2
    have h1 : s1.fire = s.fire :=
      Only.foldl (g := fun t l => t.ceaseLine false l) (fun t l => t.ceaseLine_only false l) _ s .fire (by decide)
    have h2 : s2.fire.unmarked = s.fire.unmarked := (s1.markPage_unmarked _ _ _ _).trans (congrArg Fire.unmarked h1)
    split
    · rw [← h2]
      exact congrArg Fire.unmarked (s2.leavePage_only _ _ .fire (by decide))
    · exact h2

/-- What a fall of FIRE_PERMIT touches: every page ends, every gap window closes, the press is told. -/
def dropParts : List Part :=
  [.port, .lines, .fire, .pages, .progress, .quiet, .left, .slate, .vis, .twin, .reports, .log, .alert, .loop, .free, .dram,
    .speedLimit, .time]

theorem State.dropPermit_only (cause : Nat) : Only dropParts s (s.dropPermit cause) := by
  unfold State.dropPermit
  refine .ite (.refl s) ?_
  extract_lets any s1 s2 s3 s4
  have h1 : Only dropParts s s1 := (s.updFire_only _).mono (by decide)
  have h2 : Only dropParts s1 s2 := .foldl (fun t k => (t.endPage_only 7 k).mono (by decide)) _ _
  have h3 : Only dropParts s2 s3 := .ite ((s2.raise_only _ _).mono (by decide)) (.refl s2)
  have h4 : Only dropParts s3 s4 := .foldl (fun t p => (t.closeGap_only p).mono (by decide)) _ _
  exact (((h1.trans h2).trans h3).trans h4).trans (.ite ((s4.pressSend_only _ _ _ _ _ _).mono (by decide)) (.refl s4))

theorem State.dropPermit_of_low (h : s.fire.permit = false) (cause : Nat) : s.dropPermit cause = s := by
  simp [State.dropPermit, h]

/-- Of the fire unit a fall changes FIRE_PERMIT and its cause, and what the pages' ends mark. -/
theorem State.dropPermit_unmarked (cause : Nat) : (s.dropPermit cause).fire.unmarked = s.fire.unmarked.dropped cause := by
  unfold State.dropPermit
  split
  case isTrue hlow =>
    have hperm : s.fire.permit = false := by simpa using hlow
    exact (Fire.dropped_of_low (f := s.fire.unmarked) hperm cause).symm
  case isFalse hhigh =>
    have hperm : s.fire.permit = true := by simpa using hhigh
    extract_lets any s1 s2 s3 s4
    have h1 : s1.fire.unmarked = s.fire.unmarked.dropped cause := by
      simp [s1, Fire.dropped, Fire.unmarked, hperm]
    have h2 : s2.fire.unmarked = s1.fire.unmarked :=
      foldl_keep (fun t : State => t.fire.unmarked) _ (fun t k => t.endPage_unmarked 7 k) _ _
    have h3 : Only [.alert] s2 s3 := .ite (s2.raise_only _ _) (.refl s2)
    have h4 : Only [.port] s3 s4 := .foldl (fun t p => t.closeGap_only p) _ _
    have h5 : Only [.time] s4 (if (decide (cause = 1) && s4.time.pressFlags.getLsbD 1) = true then s4.pressSend 2 1 0 0 0 0 else s4) :=
      .ite (s4.pressSend_only _ _ _ _ _ _) (.refl s4)
    have htail := ((h3.step h4).step h5) .fire (by decide)
    exact (congrArg Fire.unmarked htail).trans (h2.trans h1)

/-! ## Interlock inputs -/

theorem State.updAxis_only (n : Nat) (f : Axis → Axis) : Only [.axis] s (s.updAxis n f) := .of_eq rfl (by decide)

theorem State.quickStop_only (cause n : Nat) : Only [.axis, .alert] s (s.quickStop cause n) := by
  unfold State.quickStop
  extract_lets a stands broken b s1
  have h1 : Only [.alert] s s1 := s.raise_only _ _
  refine .ite (.refl s) (.ite ?_ ?_)
  · exact ((h1.step (s1.updAxis_only n _)).step (State.raise_only _ _ _)).mono (by decide)
  · exact (h1.step (s1.updAxis_only n _)).mono (by decide)

theorem State.ilkStops_only (m : Byte) : Only [.axis, .alert] s (s.ilkStops m) :=
  .foldl (fun t n => .ite (t.quickStop_only 2 n) (.refl t)) _ _

theorem State.ilkTrip_only : Only dropParts s s.ilkTrip := by
  unfold State.ilkTrip
  exact .ite (.refl s) ((((s.dropPermit_only 1).step (State.raise_only _ _ _)).step (State.logEvent_only _ _ _ _)).mono (by decide))

theorem State.ilkTrip_unmarked : s.ilkTrip.fire.unmarked = s.fire.unmarked.dropped 1 := by
  unfold State.ilkTrip
  split
  case isTrue hlow =>
    have hperm : s.fire.permit = false := by simpa using hlow
    exact (Fire.dropped_of_low (f := s.fire.unmarked) hperm 1).symm
  case isFalse =>
    rw [State.logEvent_fire, State.raise_fire, State.dropPermit_unmarked]

/-- What inputs that become active while enabled touch. -/
def ilkParts : List Part := .axis :: dropParts

theorem State.ilkLatch_only (m : Byte) : Only ilkParts s (s.ilkLatch m) := by
  unfold State.ilkLatch
  exact .ite (.refl s) ((((s.updFire_only _).step (State.ilkTrip_only _)).step (State.ilkStops_only _ _)).mono (by decide))

theorem State.ilkLatch_zero : s.ilkLatch 0 = s := if_pos rfl

/-- Inputs that become active while enabled are latched, and FIRE_PERMIT falls (R101). -/
theorem State.ilkLatch_unmarked {m : Byte} (hm : m ≠ 0) :
    (s.ilkLatch m).fire.unmarked = { s.fire.unmarked with ilkLatched := s.fire.ilkLatched ||| m }.dropped 1 := by
  have htrip := (s.updFire fun f => { f with ilkLatched := f.ilkLatched ||| m }).ilkTrip_unmarked
  have hstop := State.ilkStops_only (s.updFire fun f => { f with ilkLatched := f.ilkLatched ||| m }).ilkTrip m .fire (by decide)
  rw [State.ilkLatch, if_neg hm]
  exact (congrArg Fire.unmarked hstop).trans htrip

end

section
variable {s : State} {h : MbHdr} {i us : Nat}

theorem ilkBit_eq (hi : i < 8) : ilkBit i = BitVec.twoPow 8 i := if_pos hi

theorem twoPow_ne_zero (hi : i < 8) : BitVec.twoPow 8 i ≠ 0 := fun e => by
  have hbit := congrArg (·.getLsbD i) e
  simp [hi] at hbit

/-- RAW shows the pin at once. -/
theorem State.ilkRaw_ilkPin (hi : i < 8) (active : Bool) : (s.ilkPin i active).ilkRaw.getLsbD i = active := by
  cases active <;> simp [State.ilkRaw, State.ilkPin, ilkBit_eq hi, hi]

/-- An input that has held its active level for its debounce time (R100). -/
theorem State.ilkGoesActive_debounced (hi : i < 8) (hus : s.fire.debounce.get 50 i ≤ us) (hdeb : s.fire.ilkDeb.getLsbD i = false) :
    State.ilkGoesActive i us s = ((s.ilkPin i true).updFire fun f => { f with ilkDeb := f.ilkDeb ||| BitVec.twoPow 8 i }).ilkLatch
      (s.fire.ilkEnable &&& BitVec.twoPow 8 i) := by
  have hheld : (s.ilkPin i true).debounced i us = true := decide_eq_true hus
  have hclear : (s.ilkPin i true).fire.ilkDeb &&& BitVec.twoPow 8 i = 0 := by
    have hkept : (s.ilkPin i true).fire.ilkDeb = s.fire.ilkDeb := rfl
    rw [hkept, BitVec.and_twoPow, hdeb]
    rfl
  simp only [State.ilkGoesActive, ilkBit_eq hi, hheld, hclear]
  rfl

/-- A shorter pulse moves the pin alone. -/
theorem State.ilkGoesActive_pulse (hus : us < s.fire.debounce.get 50 i) : State.ilkGoesActive i us s = s.ilkPin i true := by
  have hshort : (s.ilkPin i true).debounced i us = false := decide_eq_false (not_le.2 hus)
  simp [State.ilkGoesActive, hshort]

theorem State.ilkGoesInactive_debounced (hi : i < 8) (hus : s.fire.debounce.get 50 i ≤ us) : State.ilkGoesInactive i us s =
    (s.ilkPin i false).updFire fun f => { f with ilkDeb := f.ilkDeb &&& ~~~(BitVec.twoPow 8 i) } := by
  have hheld : (s.ilkPin i false).debounced i us = true := decide_eq_true hus
  simp [State.ilkGoesInactive, hheld, ilkBit_eq hi]

theorem State.ilkGoesInactive_pulse (hus : us < s.fire.debounce.get 50 i) : State.ilkGoesInactive i us s = s.ilkPin i false := by
  have hshort : (s.ilkPin i false).debounced i us = false := decide_eq_false (not_le.2 hus)
  simp [State.ilkGoesInactive, hshort]

theorem exec_ilkInputActive_enabled (ha : s.alive = true) (hi : i < 8) (hus : s.fire.debounce.get 50 i ≤ us)
    (hdeb : s.fire.ilkDeb.getLsbD i = false) (hen : s.fire.ilkEnable.getLsbD i = true) :
    ∃ t, exec (.ilkInputActive ⟨i, us⟩) s = .next t ∧ t.fire.permit = false ∧
      t.fire.ilkLatched = s.fire.ilkLatched ||| BitVec.twoPow 8 i ∧ t.fire.ilkDeb = s.fire.ilkDeb ||| BitVec.twoPow 8 i ∧
      (s.fire.permit = true → t.fire.dropCause = 1) := by
  have hbit : s.fire.ilkEnable &&& BitVec.twoPow 8 i = BitVec.twoPow 8 i := by rw [BitVec.and_twoPow, if_pos hen]
  have hact := State.ilkGoesActive_debounced hi hus hdeb
  rw [hbit] at hact
  have ho : Only ilkParts s (State.ilkGoesActive i us s) := by
    rw [hact]
    exact (((s.updFire_only _).step (State.updFire_only _ _)).step (State.ilkLatch_only _ _)).mono (by decide)
  have hfire : (State.ilkGoesActive i us s).fire.unmarked = _ := hact ▸ State.ilkLatch_unmarked _ (twoPow_ne_zero hi)
  obtain ⟨pba, msi, hx⟩ := evt_sent ha ho (by decide)
  exact ⟨_, hx, congrArg Fire.permit hfire, congrArg Fire.ilkLatched hfire, congrArg Fire.ilkDeb hfire,
    fun hp => (congrArg Fire.dropCause hfire).trans (if_pos hp)⟩

theorem exec_ilkInputActive_disabled (ha : s.alive = true) (hi : i < 8) (hus : s.fire.debounce.get 50 i ≤ us)
    (hdeb : s.fire.ilkDeb.getLsbD i = false) (hen : s.fire.ilkEnable.getLsbD i = false) :
    ∃ t, exec (.ilkInputActive ⟨i, us⟩) s = .next t ∧ Safety.Quiet s t ∧ t = { s with host := t.host, fire := t.fire } ∧
      t.fire = { s.fire with ilkPins := t.fire.ilkPins, ilkDeb := s.fire.ilkDeb ||| BitVec.twoPow 8 i } := by
  have hbit : s.fire.ilkEnable &&& BitVec.twoPow 8 i = 0 := by rw [BitVec.and_twoPow, hen]; rfl
  have hact := State.ilkGoesActive_debounced hi hus hdeb
  rw [hbit, State.ilkLatch_zero] at hact
  have ho : Only [.fire] s (State.ilkGoesActive i us s) := by rw [hact]; exact .of_eq rfl (by decide)
  obtain ⟨pba, msi, hx⟩ := evt_sent ha ho (by decide)
  rw [hact] at ho hx
  exact ⟨_, hx, ho.quiet pba msi (by decide), rfl, rfl⟩

theorem exec_ilkInputInactive (ha : s.alive = true) (hi : i < 8) (hus : s.fire.debounce.get 50 i ≤ us) :
    ∃ t, exec (.ilkInputInactive ⟨i, us⟩) s = .next t ∧ Safety.Quiet s t ∧ t = { s with host := t.host, fire := t.fire } ∧
      t.fire = { s.fire with ilkPins := t.fire.ilkPins, ilkDeb := s.fire.ilkDeb &&& ~~~(BitVec.twoPow 8 i) } := by
  have hact := State.ilkGoesInactive_debounced hi hus
  have ho : Only [.fire] s (State.ilkGoesInactive i us s) := by rw [hact]; exact .of_eq rfl (by decide)
  obtain ⟨pba, msi, hx⟩ := evt_sent ha ho (by decide)
  rw [hact] at ho hx
  exact ⟨_, hx, ho.quiet pba msi (by decide), rfl, rfl⟩

/-- An event that moves a pin alone sends no interrupt. -/
theorem evt_ilkPin {f : State → State} {active : Bool} (ha : s.alive = true) (hf : f s = s.ilkPin i active) :
    evt f s = .next (s.ilkPin i active) := by
  rw [evt, if_pos ha, hf]
  exact done_of_intPending_eq rfl rfl fun _ => rfl

theorem exec_ilkInput_pulse (ha : s.alive = true) (hi : i < 8) (hus : us < s.fire.debounce.get 50 i) :
    ∃ t u, exec (.ilkInputActive ⟨i, us⟩) s = .next t ∧ exec (.ilkInputInactive ⟨i, us⟩) s = .next u ∧
      t = { s with fire := { s.fire with ilkPins := t.fire.ilkPins } } ∧
      u = { s with fire := { s.fire with ilkPins := u.fire.ilkPins } } ∧
      t.ilkRaw.getLsbD i = true ∧ u.ilkRaw.getLsbD i = false :=
  ⟨_, _, evt_ilkPin ha (State.ilkGoesActive_pulse hus), evt_ilkPin ha (State.ilkGoesInactive_pulse hus), rfl, rfl,
    State.ilkRaw_ilkPin hi true, State.ilkRaw_ilkPin hi false⟩

/-! ## FIRE_SET_ILK, FIRE_ARM, FIRE_DISARM -/

/-- The interlock settings in force; the debounced states stay (log 30). -/
theorem State.setIlk_unmarked (enable polarity : Byte) (deb : List Nat) :
    (s.setIlk enable polarity deb).fire.ilkEnable = enable ∧ (s.setIlk enable polarity deb).fire.ilkPolarity = polarity ∧
      (s.setIlk enable polarity deb).fire.debounce = SMap.setList 50 [] 0 deb ∧
      (s.fire.ilkDeb &&& enable &&& ~~~s.fire.ilkEnable ≠ 0 → (s.setIlk enable polarity deb).fire.permit = false) ∧
      (s.fire.ilkDeb &&& enable &&& ~~~s.fire.ilkEnable = 0 → (s.setIlk enable polarity deb).fire.permit = s.fire.permit) := by
  unfold State.setIlk
  by_cases hm : s.fire.ilkDeb &&& enable &&& ~~~s.fire.ilkEnable = 0
  · rw [hm, State.ilkLatch_zero]
    exact ⟨rfl, rfl, rfl, fun hne => absurd rfl hne, fun _ => rfl⟩
  · have hfire := State.ilkLatch_unmarked (s.updFire fun f => { f with
      ilkEnable := enable, ilkPolarity := polarity, debounce := SMap.setList 50 [] 0 deb }) hm
    exact ⟨congrArg Fire.ilkEnable hfire, congrArg Fire.ilkPolarity hfire, congrArg Fire.debounce hfire,
      fun _ => congrArg Fire.permit hfire, fun hz => absurd hz hm⟩

theorem State.setIlk_only (enable polarity : Byte) (deb : List Nat) : Only ilkParts s (s.setIlk enable polarity deb) :=
  ((s.updFire_only _).step (State.ilkLatch_only _ _)).mono (by decide)

/-- Debounce times, read back. -/
theorem get_debounce {deb : List (BitVec 16)} (hi : i < deb.length) :
    SMap.get 50 (SMap.setList 50 [] 0 (deb.map (·.toNat))) i = (deb.getD i 0).toNat := by
  rw [SMap.get_setList, if_pos (by simpa using hi), Nat.sub_zero, List.getD_eq_getElem _ _ (by simpa using hi),
    List.getD_eq_getElem _ _ hi, List.getElem_map]

theorem exec_fireSetIlk {enable polarity : Byte} {deb : List (BitVec 16)} (hs : Safety.served s h 20 = true)
    (hn : s.notSupervisor = false) (hd : ∀ d ∈ deb, 1 ≤ d.toNat ∧ d.toNat ≤ 10000) (hl : deb.length = 8) :
    ∃ t, exec (.fireSetIlk h enable polarity 0 deb) s = .next t ∧ Safety.AnsweredWith h 0x0405 0 [] s t ∧
      t.fire.ilkEnable = enable ∧ t.fire.ilkPolarity = polarity ∧
      (∀ i, i < 8 → SMap.get 50 t.fire.debounce i = (deb.getD i 0).toNat) ∧
      (s.fire.ilkDeb &&& enable &&& ~~~s.fire.ilkEnable ≠ 0 → t.fire.permit = false) ∧
      (s.fire.ilkDeb &&& enable &&& ~~~s.fire.ilkEnable = 0 → t.fire.permit = s.fire.permit) := by
  have hrange : (deb.any fun d => out d.toNat 1 10000) = false :=
    List.any_eq_false.2 fun d hmem => Bool.eq_false_iff.1 (out_eq_false (hd d hmem).1 (hd d hmem).2)
  obtain ⟨t, he, ha, -, -, ht⟩ := mbCmd_forwarded (s := s) (h := h) (c := { op := 0x0405, len := 20 })
    (i := .fireSetIlk h enable polarity 0 deb) hs rfl rfl rfl
    (twinGate_ok (body := fun s => ok (s.setIlk enable polarity (deb.map (·.toNat)))) (if_neg (Bool.eq_false_iff.1 hrange)) hn rfl)
    (State.setIlk_only _ _ _) (by decide)
  have hfire : t.fire = ((s.mbStart h).setIlk enable polarity (deb.map (·.toNat))).fire := by rw [ht]
  obtain ⟨hen, hpol, hdeb, hdrop, hkeep⟩ := (s.mbStart h).setIlk_unmarked enable polarity (deb.map (·.toNat))
  refine ⟨t, he, ha, hfire ▸ hen, hfire ▸ hpol, fun i hi => ?_, hfire ▸ hdrop, hfire ▸ hkeep⟩
  rw [hfire, hdeb, get_debounce (hl ▸ hi)]

theorem exec_fireArm (hs : Safety.served s h 0 = true) (hilk : s.ilkActive = 0) (hheld : s.boot.coresHeld = false)
    (hrun : s.pwr.st = .run) :
    ∃ t, exec (.fireArm h) s = .next t ∧ Safety.Answered h 0x0406 0 [] s t ∧
      t = { s with host := t.host, fire := { s.fire with permit := true } } := by
  have hilk' : (s.mbStart h).ilkActive = 0 := hilk
  have harm : (s.mbStart h).armable = true := by simp [State.armable, hilk', hheld, hrun]
  have hbody : fireArmBody (s.mbStart h) = ok _ := if_pos harm
  obtain ⟨t, he, ha, hal, -, ht⟩ := mbCmd_done_only (c := { op := 0x0406, len := 0 }) (i := .fireArm h) hs rfl rfl rfl
    hbody (State.updFire_only _ _) (by decide)
  exact ⟨t, he, ⟨ha, hal⟩, ht⟩

theorem exec_fireArm_refused (hs : Safety.served s h 0 = true)
    (hno : s.ilkActive ≠ 0 ∨ s.boot.coresHeld = true ∨ s.pwr.st ≠ .run) :
    ∃ t, exec (.fireArm h) s = .next t ∧ Safety.Answered h 0x0406 0x0404 [] s t ∧ t = { s with host := t.host } := by
  have harm : ¬ s.armable = true := by
    simp only [State.armable, Bool.and_eq_true, beq_iff_eq, Bool.not_eq_true', not_and]
    rcases hno with hilk | hheld | hrun
    · exact fun ⟨he, _⟩ => absurd he hilk
    · exact fun ⟨_, he⟩ => absurd (he ▸ hheld) Bool.false_ne_true
    · exact fun _ => hrun
  exact mbCmd_answer hs rfl rfl rfl (if_neg harm)

theorem exec_fireDisarm (hs : Safety.served s h 0 = true) :
    ∃ t, exec (.fireDisarm h) s = .next t ∧ Safety.AnsweredWith h 0x0407 0 [] s t ∧ t.fire.permit = false ∧
      (s.fire.permit = true → t.fire.dropCause = 2) ∧ (s.fire.permit = false → t = { s with host := t.host }) := by
  obtain ⟨t, he, ha, -, -, ht⟩ := mbCmd_done_only (c := { op := 0x0407, len := 0 }) (i := .fireDisarm h)
    (body := fun s => ok (s.dropPermit 2)) hs rfl rfl rfl rfl ((s.mbStart h).dropPermit_only 2) (by decide)
  have hunm : t.fire.unmarked = s.fire.unmarked.dropped 2 := by rw [ht]; exact (s.mbStart h).dropPermit_unmarked 2
  refine ⟨t, he, ha, congrArg Fire.permit hunm, fun hp => (congrArg Fire.dropCause hunm).trans (if_pos hp), fun hp => ?_⟩
  rw [(s.mbStart h).dropPermit_of_low hp] at ht
  exact ht

end

/-- Settles O9: every fall of FIRE_PERMIT is `State.dropPermit`; a change of polarity leaves the debounced states as they are (log 30). -/
theorem firePermitAndInterlocks : Obligations.FirePermitAndInterlocks :=
  ⟨fun _ _ hs hilk hheld hrun => exec_fireArm hs hilk hheld hrun, fun _ _ hs hno => exec_fireArm_refused hs hno,
    fun _ _ hs => exec_fireDisarm hs,
    fun _ _ _ ha hi hus hdeb hen => exec_ilkInputActive_enabled ha hi hus hdeb hen,
    fun _ _ _ ha hi hus hdeb hen => exec_ilkInputActive_disabled ha hi hus hdeb hen,
    fun _ _ _ ha hi hus => exec_ilkInputInactive ha hi hus, fun _ _ _ ha hi hus => exec_ilkInput_pulse ha hi hus,
    fun _ _ _ _ _ hs hn hd hl => exec_fireSetIlk hs hn hd hl⟩

end Sys2Proof.Machine

namespace Sys2Proof.Machine

/-! ## Control frames of a port -/

section
variable {q : Port} {retries : Nat}

/-- A port with a write queued alone sends it. -/
theorem Port.pump_write {addr : BitVec 32} {data : List Byte} (ho : q.ctrlOut = none) (hm : q.measuring = none)
    (hq : q.ctrlQ = [.write addr data]) : q.pump retries =
      { q with ctrlQ := [], ctrlOut := some ⟨q.ctrlSeq, .write addr data, retries⟩, ctrlSeq := q.ctrlSeq + 1,
               txQ := q.txQ ++ [.ctrlWr q.ctrlSeq addr data false] } := by
  simp [Port.pump, ho, hm, hq]

/-- A port with a slice queued alone sends it and awaits its result. -/
theorem Port.pump_measure {ns : List Nat} (ho : q.ctrlOut = none) (hm : q.measuring = none) (hq : q.ctrlQ = [.measure ns]) :
    q.pump retries = { q with ctrlQ := [], measuring := some ns, measSeq := q.ctrlSeq, ctrlSeq := q.ctrlSeq + 1,
                              txQ := q.txQ ++ [.measure q.ctrlSeq ns] } := by
  simp [Port.pump, ho, hm, hq]

end

section
variable {s : State} {p : Nat}

/-- No page hand-over waits for the ports. -/
theorem State.handTry_of_not_handing (h : s.twin.handing = false) : s.handTry = s := by simp [State.handTry, h]

/-- A head write of the chip that controls the ports, to a port in UP. -/
theorem State.headWrite_up {addr : Nat} {data : List Byte} (hc : s.controls = true) (hst : (s.portN p).st = .up) :
    s.headWrite p addr data = s.updPort p fun q =>
      ({ q with ctrlQ := q.ctrlQ ++ [CtrlReq.write (BitVec.ofNat 32 addr) data] }).pump s.ctrlRetries := by
  simp [State.headWrite, hc, hst]

theorem State.heard_only (p : Nat) : Only [.port] s (s.heard p) := s.updPort_only p _

theorem State.heard_portN_ne {k : Nat} (h : k ≠ p) : (s.heard p).portN k = s.portN k := s.portN_updPort_ne _ _ _ h

/-- Hearing a head changes nothing but that its lane is not idle. -/
theorem State.heard_portN_same : (s.heard p).portN p = { s.portN p with rxIdle := ((s.heard p).portN p).rxIdle } := by
  rw [State.heard, State.portN_updPort_same]
  split <;> rfl

theorem State.heard_portN_framed (h : (s.portN p).st.framed = true) : (s.heard p).portN p = { s.portN p with rxIdle := false } := by
  rw [State.heard, State.portN_updPort_same, if_pos h]

theorem State.portN_sent (pba : BitVec 64) (msi : SMap Nat) (k : Nat) : (s.sent pba msi).portN k = s.portN k := rfl

/-- What touches the ports alone, as a claim about the whole state. -/
theorem Only.eq_of_port {t : State} (ho : Only [.host, .port] s t) : t = { s with host := t.host, port := t.port } :=
  (ho.mono (qs := [.host, .alert, .port]) (by decide)).eq_patch

/-- An event of the powered chip that touches the ports alone. -/
theorem evt_port {f : State → State} (ha : s.alive = true) (ho : Only [.port] s (f s)) :
    ∃ t, evt f s = .next t ∧ Safety.Quiet s t ∧ t = { s with host := t.host, port := t.port } ∧ ∀ k, t.portN k = (f s).portN k := by
  obtain ⟨pba, msi, hx⟩ := evt_sent ha ho (by decide)
  exact ⟨_, hx, ho.quiet pba msi (by decide), (ho.sent pba msi).eq_of_port, State.portN_sent pba msi⟩

end

/-! ## Gap windows and warming -/

section
variable {s : State} {p : Nat}

/-- A window opens, and the sequencer's matching test clears its run of misses (spec/14 Table 14-1). -/
theorem State.gapOpens_matched (hp : p < 48) (hgap : (s.portN p).gapOpen = false) (hst : (s.portN p).st = .up)
    (hall : s.gapAllowed = true) (hbusy : s.portBusy p = false) (hlong : s.gapLong p = true)
    (hfs : s.health.fsRetired.getLsbD (p / 3) = false) : State.gapOpens p false s =
      (s.updPort p fun q => { q with gapOpen := true }).updHealth fun h => { h with sdMiss := h.sdMiss.set 0 (16 + p / 3) 0 } := by
  simp [State.gapOpens, State.knownAnswer, isPort, hp, hgap, hst, hall, hbusy, hlong, hfs]

theorem exec_gapWindowOpen (ha : s.alive = true) (hp : p < 48) (hgap : (s.portN p).gapOpen = false) (hst : (s.portN p).st = .up)
    (hall : s.gapAllowed = true) (hbusy : s.portBusy p = false) (hlong : s.gapLong p = true)
    (hfs : s.health.fsRetired.getLsbD (p / 3) = false) :
    ∃ t, exec (.gapWindowOpen p false) s = .next t ∧ Safety.Quiet s t ∧
      t = { s with host := t.host, port := t.port, health := { s.health with sdMiss := s.health.sdMiss.set 0 (16 + p / 3) 0 } } ∧
      t.portN p = { s.portN p with gapOpen := true } ∧ ∀ q, q ≠ p → t.portN q = s.portN q := by
  have hopen := State.gapOpens_matched hp hgap hst hall hbusy hlong hfs
  have ho : Only [.port, .health] s (State.gapOpens p false s) := by
    rw [hopen]; exact (s.updPort_only p _).step (State.updHealth_only _ _)
  obtain ⟨pba, msi, hx⟩ := evt_sent ha ho (by decide)
  rw [hopen] at ho hx
  refine ⟨_, hx, ho.quiet pba msi (by decide), rfl, ?_, fun q hq => ?_⟩
  · rw [State.portN_sent, State.portN_updHealth, State.portN_updPort_same]
  · rw [State.portN_sent, State.portN_updHealth, State.portN_updPort_ne _ _ _ _ hq]

theorem State.closeGap_open (hgap : (s.portN p).gapOpen = true) : s.closeGap p = (s.headWrite p adrWarm (warmBytes 0 0)).updPort p
    fun q => { q with gapOpen := false, warmRate := 0, measuring := q.measuring.map (fun _ => []),
                      ctrlQ := q.ctrlQ.filter (!·.isMeasure) } := by
  simp [State.closeGap, hgap]

theorem exec_gapWindowClose (ha : s.alive = true) (hgap : (s.portN p).gapOpen = true) :
    ∃ t, exec (.gapWindowClose p) s = .next t ∧ Safety.Quiet s t ∧ t = { s with host := t.host, port := t.port } ∧
      (t.portN p).gapOpen = false ∧ (t.portN p).warmRate = 0 ∧ (t.portN p).st = (s.portN p).st ∧ ∀ q, q ≠ p → t.portN q = s.portN q := by
  obtain ⟨t, hx, hquiet, ht, hport⟩ := evt_port (f := fun s => s.closeGap p) ha (s.closeGap_only p)
  simp only [State.closeGap_open hgap] at hport
  have hst : ((s.headWrite p adrWarm (warmBytes 0 0)).portN p).st = (s.portN p).st :=
    (s.headWrite_portN_same p _ _).st_eq
  refine ⟨t, hx, hquiet, ht, ?_, ?_, ?_, fun q hq => ?_⟩
  · rw [hport, State.portN_updPort_same]
  · rw [hport, State.portN_updPort_same]
  · rw [hport, State.portN_updPort_same]; exact hst
  · rw [hport, State.portN_updPort_ne _ _ _ _ hq, State.headWrite_portN_ne _ _ _ hq]

/-- In an open window without a measurement the rate of R95 is written, each time (log 60). -/
theorem State.warmEvaluate_open {x : Int} (hx : (s.portN p).temp = some x) (hgap : (s.portN p).gapOpen = true)
    (hm : (s.portN p).measuring = none) (hsup : s.supervises = true) : ∃ data, State.warmEvaluate p s =
      (s.headWrite p adrWarm data).updPort p fun q => { q with
        warmRate := warmRateAt s.fire.warmGain s.fire.warmRateMax (s.cal.data.thermal.get {} p).tTarget x } := by
  refine ⟨warmBytes (warmRateAt s.fire.warmGain s.fire.warmRateMax (s.cal.data.thermal.get {} p).tTarget x)
    (if warmRateAt s.fire.warmGain s.fire.warmRateMax (s.cal.data.thermal.get {} p).tTarget x = 0 then 0 else s.fire.warmCode), ?_⟩
  simp only [State.warmEvaluate, hx, hgap, hm, hsup]
  rfl

theorem exec_warmEvaluate {x : Int} (ha : s.alive = true) (htemp : (s.portN p).temp = some x) (hgap : (s.portN p).gapOpen = true)
    (hm : (s.portN p).measuring = none) (hsup : s.supervises = true) :
    ∃ t, exec (.warmEvaluate p) s = .next t ∧ Safety.Quiet s t ∧ t = { s with host := t.host, port := t.port } ∧
      (t.portN p).warmRate = (if x < (s.cal.data.thermal.get {} p).tTarget
        then min s.fire.warmRateMax (s.fire.warmGain * ((s.cal.data.thermal.get {} p).tTarget - x).toNat / 16) else 0) ∧
      ∀ q, q ≠ p → t.portN q = s.portN q := by
  obtain ⟨data, hwarm⟩ := State.warmEvaluate_open htemp hgap hm hsup
  have ho : Only [.port] s (State.warmEvaluate p s) := by
    rw [hwarm]; exact ((s.headWrite_only p _ _).step (State.updPort_only _ _ _)).mono (by decide)
  obtain ⟨t, hx, hquiet, ht, hport⟩ := evt_port ha ho
  rw [hwarm] at hport
  refine ⟨t, hx, hquiet, ht, ?_, fun q hq => ?_⟩
  · rw [hport, State.portN_updPort_same, warmRateAt]
  · rw [hport, State.portN_updPort_ne _ _ _ _ hq, State.headWrite_portN_ne _ _ _ hq]

end

/-! ## Measurement slices -/

section
variable {s : State} {p : Nat}

/-- A slice goes into the port's queue behind the write of rate 0 (R96, R138). -/
theorem State.measureSlice_due (hst : (s.portN p).st = .up) (hgap : (s.portN p).gapOpen = true) (hc : s.controls = true)
    (hm : (s.portN p).measuring = none) (hq : (s.portN p).ctrlQ = []) (hopen : s.staysOpen p = true) (hdue : s.dueNozzles p ≠ []) :
    State.measureSlice p s = ((s.headWrite p adrWarm (warmBytes 0 0)).updPort p fun q => { q with warmRate := 0 }).updPort p fun q =>
      { q with ctrlQ := q.ctrlQ ++ [CtrlReq.measure ((s.dueNozzles p).take 256)] }.pump s.ctrlRetries := by
  have hretries : ((s.headWrite p adrWarm (warmBytes 0 0)).updPort p fun q => { q with warmRate := 0 }).ctrlRetries = s.ctrlRetries := by
    rw [State.headWrite_up hc hst]; rfl
  simp [State.measureSlice, hst, hgap, hc, hm, hq, hopen, hdue, hretries]

/-- The port that sends the write of rate 0, the slice behind it. -/
theorem State.measureSlice_portN (hst : (s.portN p).st = .up) (hgap : (s.portN p).gapOpen = true) (hc : s.controls = true)
    (hm : (s.portN p).measuring = none) (hout : (s.portN p).ctrlOut = none) (hq : (s.portN p).ctrlQ = [])
    (hopen : s.staysOpen p = true) (hdue : s.dueNozzles p ≠ []) : (State.measureSlice p s).portN p = { s.portN p with
        ctrlOut := some ⟨(s.portN p).ctrlSeq, .write 0x18 (zeros 4), s.rlConfig.toNat % 8⟩, ctrlSeq := (s.portN p).ctrlSeq + 1,
        txQ := (s.portN p).txQ ++ [.ctrlWr (s.portN p).ctrlSeq 0x18 (zeros 4) false],
        ctrlQ := [.measure ((s.dueNozzles p).take 256)], warmRate := 0 } := by
  have hwrite := Port.pump_write (q := { s.portN p with ctrlQ := [CtrlReq.write (BitVec.ofNat 32 adrWarm) (warmBytes 0 0)] })
    (retries := s.ctrlRetries) hout hm rfl
  rw [State.measureSlice_due hst hgap hc hm hq hopen hdue, State.portN_updPort_same, State.portN_updPort_same,
    State.headWrite_up hc hst, State.portN_updPort_same, hq, List.nil_append, hwrite, Port.pump_of_out rfl]
  rfl

theorem exec_measureSliceSend (ha : s.alive = true) (hst : (s.portN p).st = .up) (hgap : (s.portN p).gapOpen = true)
    (hc : s.controls = true) (hm : (s.portN p).measuring = none) (hout : (s.portN p).ctrlOut = none) (hq : (s.portN p).ctrlQ = [])
    (hopen : s.staysOpen p = true) (hdue : s.dueNozzles p ≠ []) :
    ∃ t, exec (.measureSliceSend p) s = .next t ∧ Safety.Quiet s t ∧ t = { s with host := t.host, port := t.port } ∧
      t.portN p = { s.portN p with
        ctrlOut := some ⟨(s.portN p).ctrlSeq, .write 0x18 (zeros 4), s.rlConfig.toNat % 8⟩, ctrlSeq := (s.portN p).ctrlSeq + 1,
        txQ := (s.portN p).txQ ++ [.ctrlWr (s.portN p).ctrlSeq 0x18 (zeros 4) false],
        ctrlQ := [.measure ((s.dueNozzles p).take 256)], warmRate := 0 } ∧
      ∀ q, q ≠ p → t.portN q = s.portN q := by
  have hslice := State.measureSlice_due hst hgap hc hm hq hopen hdue
  have ho : Only [.port] s (State.measureSlice p s) := by
    rw [hslice]
    exact (((s.headWrite_only p _ _).step (State.updPort_only _ _ _)).step (State.updPort_only _ _ _)).mono (by decide)
  obtain ⟨t, hx, hquiet, ht, hport⟩ := evt_port ha ho
  refine ⟨t, hx, hquiet, ht, ?_, fun q hne => ?_⟩
  · rw [hport, State.measureSlice_portN hst hgap hc hm hout hq hopen hdue]
  · rw [hport, hslice, State.portN_updPort_ne _ _ _ _ hne, State.portN_updPort_ne _ _ _ _ hne, State.headWrite_portN_ne _ _ _ hne]

/-- The answer to a port's control frame, while no page hand-over waits. -/
theorem State.ctrlResp_ok {o : CtrlOut} (hh : s.twin.handing = false) (hfr : (s.portN p).st.framed = true)
    (hout : (s.portN p).ctrlOut = some o) :
    s.ctrlResp p o.seq 0 = s.updPort p fun q => { q with ctrlOut := none }.pump s.ctrlRetries := by
  simp only [State.ctrlResp, hout, hfr, bne_self_eq_false, Bool.not_true, Bool.or_self, Bool.false_eq_true, if_false, ne_eq,
    not_true_eq_false]
  exact State.handTry_of_not_handing hh

theorem exec_rlCtrlRespRx_slice {o : CtrlOut} {d : List Byte} {ns : List Nat} (ha : s.alive = true) (hh : s.twin.handing = false)
    (hfr : (s.portN p).st.framed = true) (hout : (s.portN p).ctrlOut = some o) (hm : (s.portN p).measuring = none)
    (hq : (s.portN p).ctrlQ = [.measure ns]) :
    ∃ t, exec (.rlCtrlRespRx p o.seq 0 d) s = .next t ∧ t = { s with host := t.host, port := t.port } ∧
      t.portN p = { s.portN p with
        ctrlOut := none, ctrlQ := [], measuring := some ns, measSeq := (s.portN p).ctrlSeq, ctrlSeq := (s.portN p).ctrlSeq + 1,
        txQ := (s.portN p).txQ ++ [.measure (s.portN p).ctrlSeq ns], rxIdle := false } := by
  have hresp := State.ctrlResp_ok hh hfr hout
  have ho : Only [.port] s ((s.ctrlResp p o.seq 0).heard p) := by
    rw [hresp]; exact ((s.updPort_only p _).step (State.heard_only p)).mono (by decide)
  obtain ⟨t, hx, -, ht, hport⟩ := evt_port (f := fun s => (s.ctrlResp p o.seq 0).heard p) ha ho
  have hown : (s.ctrlResp p o.seq 0).portN p = { s.portN p with
      ctrlOut := none, ctrlQ := [], measuring := some ns, measSeq := (s.portN p).ctrlSeq, ctrlSeq := (s.portN p).ctrlSeq + 1,
      txQ := (s.portN p).txQ ++ [.measure (s.portN p).ctrlSeq ns] } := by
    rw [hresp, State.portN_updPort_same]
    exact Port.pump_measure (q := { s.portN p with ctrlOut := none }) rfl hm hq
  refine ⟨t, hx, ht, ?_⟩
  rw [hport, State.heard_portN_framed (by rw [hown]; exact hfr), hown]

/-! ## Results of a slice -/

theorem State.updPort_congr {f g : Port → Port} (h : f (s.portN p) = g (s.portN p)) : s.updPort p f = s.updPort p g :=
  congrArg (fun q => s.updPorts fun m => m.set {} p q) h

/-- A slice ends on a port that has nothing more to send. -/
theorem State.updPort_sliceEnds (hq : (s.portN p).ctrlQ = []) :
    (s.updPort p fun q => { q with measuring := none }.pump s.ctrlRetries) = s.updPort p fun q => { q with measuring := none } :=
  State.updPort_congr (Port.pump_of_empty hq)

/-- A result with a STATUS other than 0 is discarded, which ends the slice alone (log 60). -/
theorem State.measureResult_refused {st : Byte} {rs : List Reading} {ns : List Nat} (hh : s.twin.handing = false)
    (hm : (s.portN p).measuring = some ns) (hq : (s.portN p).ctrlQ = []) (hst : st ≠ 0) :
    s.measureResult p st rs = s.updPort p fun q => { q with measuring := none } := by
  have hhand : (s.updPort p fun q => { q with measuring := none }).twin.handing = false := hh
  simp only [State.measureResult, hm, if_pos hst, State.updPort_sliceEnds hq, State.handTry_of_not_handing hhand]

theorem exec_measureResultRx_refused {st : Byte} {rs : List Reading} {ns : List Nat} (ha : s.alive = true)
    (hh : s.twin.handing = false) (hm : (s.portN p).measuring = some ns) (hq : (s.portN p).ctrlQ = []) (hst : st ≠ 0) :
    ∃ t, exec (.measureResultRx p st rs) s = .next t ∧ Safety.Quiet s t ∧ t = { s with host := t.host, port := t.port } ∧
      (t.portN p).measuring = none ∧ ∀ q, q ≠ p → t.portN q = s.portN q := by
  have hres := State.measureResult_refused (rs := rs) hh hm hq hst
  have ho : Only [.port] s ((s.measureResult p st rs).heard p) := by
    rw [hres]; exact ((s.updPort_only p _).step (State.heard_only p)).mono (by decide)
  obtain ⟨t, hx, hquiet, ht, hport⟩ := evt_port (f := fun s => (s.measureResult p st rs).heard p) ha ho
  refine ⟨t, hx, hquiet, ht, ?_, fun q hne => ?_⟩
  · rw [hport, State.heard_portN_same, hres, State.portN_updPort_same]
  · rw [hport, State.heard_portN_ne hne, hres, State.portN_updPort_ne _ _ _ _ hne]

/-- What the missing result of a slice does (R134). -/
def State.sliceTimeout (p : Nat) (s : State) : State :=
  (s.updPort p fun q => if q.measuring.isSome then { q with measuring := none }.pump s.ctrlRetries else q).handTry

theorem exec_measureTimeout_eq : exec (.measureTimeout p) s = evt (State.sliceTimeout p) s := rfl

theorem State.sliceTimeout_eq {ns : List Nat} (hh : s.twin.handing = false) (hm : (s.portN p).measuring = some ns)
    (hq : (s.portN p).ctrlQ = []) : s.sliceTimeout p = s.updPort p fun q => { q with measuring := none } := by
  have hsome : (s.portN p).measuring.isSome = true := by rw [hm]; rfl
  have hport : (s.updPort p fun q => if q.measuring.isSome then { q with measuring := none }.pump s.ctrlRetries else q) =
      s.updPort p fun q => { q with measuring := none } :=
    State.updPort_congr ((if_pos hsome).trans (Port.pump_of_empty hq))
  have hhand : (s.updPort p fun q => { q with measuring := none }).twin.handing = false := hh
  rw [State.sliceTimeout, hport, State.handTry_of_not_handing hhand]

theorem exec_measureTimeout {ns : List Nat} (ha : s.alive = true) (hh : s.twin.handing = false)
    (hm : (s.portN p).measuring = some ns) (hq : (s.portN p).ctrlQ = []) :
    ∃ t, exec (.measureTimeout p) s = .next t ∧ Safety.Quiet s t ∧ t = { s with host := t.host, port := t.port } ∧
      t.portN p = { s.portN p with measuring := none } ∧ ∀ q, q ≠ p → t.portN q = s.portN q := by
  have hend := State.sliceTimeout_eq hh hm hq
  obtain ⟨t, hx, hquiet, ht, hport⟩ := evt_port (f := State.sliceTimeout p) ha (by rw [hend]; exact s.updPort_only p _)
  refine ⟨t, exec_measureTimeout_eq.trans hx, hquiet, ht, ?_, fun q hne => ?_⟩
  · rw [hport, hend, State.portN_updPort_same]
  · rw [hport, hend, State.portN_updPort_ne _ _ _ _ hne]

theorem State.volN_updVol_same (i : Nat) (f : NozVol → NozVol) : (s.updVol p i f).volN p i = f (s.volN p i) := by
  simp [State.volN, Cal.volN, State.updVol, SMap.get_upd_same]

theorem State.volN_congr {t : State} (h : t.cal = s.cal) (i : Nat) : t.volN p i = s.volN p i := congrArg (Cal.volN · p i) h

theorem State.headEvent_only (code inst data : Nat) : Only [.log, .alert] s (s.headEvent code inst data) :=
  .ite (s.logEvent_only _ _ _) (.refl s)

/-- A reading is stored with its time; its class may journal the entry and report the nozzle (R97, R98). -/
theorem State.reading_spec (i : Nat) (r : Reading) : Only [.cal, .nvm, .log, .alert] s (s.reading p i r) ∧
    ((s.reading p i r).volN p i).resMeas = r.a.toNat ∧ ((s.reading p i r).volN p i).readTick = s.time.ticks ∧
    ((s.reading p i r).volN p i).due = false := by
  unfold State.reading
  extract_lets m n c e s1 s2
  have h1 : Only [.cal] s s1 := State.updVol_only _ _ _
  have h2 : Only [.nvm] s1 s2 := s1.journal_only _
  have h3 : Only [.alert, .log] s2 ((s2.raise .fire 4).headEvent 0x0302 p (i + e.1.state * 2 ^ 13 + e.1.cause * 2 ^ 15)) :=
    ((s2.raise_only _ _).step (State.headEvent_only _ _ _)).mono (by decide)
  have htail : Only [.nvm, .alert, .log] s1 (if e.1 = n then s1 else
      if e.1.state ≠ n.state ∧ (e.1.state = 1 ∨ e.1.state = 2) then
        (s2.raise .fire 4).headEvent 0x0302 p (i + e.1.state * 2 ^ 13 + e.1.cause * 2 ^ 15) else s2) :=
    .ite (.refl s1) (.ite ((h2.step h3).mono (by decide)) (h2.mono (by decide)))
  have hvol := State.volN_congr (p := p) (htail .cal (by decide)) i
  rw [hvol, State.volN_updVol_same]
  exact ⟨(h1.step htail).mono (by decide), rfl, rfl, rfl⟩

/-- A slice of one nozzle ends with its reading, while no page hand-over waits. -/
theorem State.measureResult_reading {i : Nat} {r : Reading} (hh : s.twin.handing = false) (hm : (s.portN p).measuring = some [i]) :
    ∃ u, Only [.port] s u ∧ s.measureResult p 0 [r] = u.reading p i r := by
  refine ⟨s.updPort p fun q => { q with measuring := none }.pump s.ctrlRetries, s.updPort_only p _, ?_⟩
  obtain ⟨hread, -⟩ := State.reading_spec (s := s.updPort p fun q => { q with measuring := none }.pump s.ctrlRetries) (p := p) i r
  have htwin : _ = s.twin := hread .twin (by decide)
  simp only [State.measureResult, hm, ne_eq, not_true_eq_false, if_false, List.zip_cons_cons, List.zip_nil_left, List.foldl_cons,
    List.foldl_nil]
  rw [State.handTry_of_not_handing (by rw [htwin, hh])]

theorem State.volN_sent (pba : BitVec 64) (msi : SMap Nat) (i : Nat) : (s.sent pba msi).volN p i = s.volN p i := rfl

/-- What the result of a slice may touch, as a claim about the whole state. -/
theorem Only.eq_of_reading {t : State} (ho : Only [.host, .port, .cal, .nvm, .log, .alert] s t) :
    t = { s with host := t.host, port := t.port, cal := t.cal, nvm := t.nvm, log := t.log } := ho.eq_patch

theorem exec_measureResultRx_reading {i : Nat} {r : Reading} (ha : s.alive = true) (hh : s.twin.handing = false)
    (hm : (s.portN p).measuring = some [i]) :
    ∃ t, exec (.measureResultRx p 0 [r]) s = .next t ∧
      t = { s with host := t.host, port := t.port, cal := t.cal, nvm := t.nvm, log := t.log } ∧
      (t.volN p i).resMeas = r.a.toNat ∧ (t.volN p i).readTick = s.time.ticks ∧ (t.volN p i).due = false := by
  obtain ⟨u, hu, hres⟩ := State.measureResult_reading (r := r) hh hm
  obtain ⟨hread, hmeas, htick, hdue⟩ := State.reading_spec (s := u) (p := p) i r
  have hheard : Only [.port] (u.reading p i r) ((s.measureResult p 0 [r]).heard p) := hres ▸ State.heard_only p
  have ho : Only [.port, .cal, .nvm, .log, .alert] s ((s.measureResult p 0 [r]).heard p) :=
    ((hu.step hread).step hheard).mono (by decide)
  obtain ⟨pba, msi, hx⟩ := evt_sent (f := fun s => (s.measureResult p 0 [r]).heard p) ha ho (by decide)
  have hvol := State.volN_congr (p := p) (hheard .cal (by decide)) i
  have hticks : u.time.ticks = s.time.ticks := congrArg TimeUnit.ticks (hu .time (by decide))
  refine ⟨_, hx, (ho.sent pba msi).eq_of_reading, ?_, ?_, ?_⟩
  · rw [State.volN_sent, hvol, hmeas]
  · rw [State.volN_sent, hvol, htick, hticks]
  · rw [State.volN_sent, hvol, hdue]

end

/-- Settles O44: windows, warming at every evaluation (log 60), and a slice from its queueing to its result. -/
theorem gapWorkRuns : Obligations.GapWorkRuns :=
  ⟨fun _ _ ha hp hgap hst hall hbusy hlong hfs => exec_gapWindowOpen ha hp hgap hst hall hbusy hlong hfs,
    fun _ _ ha hgap => exec_gapWindowClose ha hgap,
    fun _ _ _ ha htemp hgap hm hsup => exec_warmEvaluate ha htemp hgap hm hsup,
    fun _ _ ha hst hgap hc hm hout hq hopen hdue => exec_measureSliceSend ha hst hgap hc hm hout hq hopen hdue,
    fun _ _ _ _ _ ha hh hfr hout hm hq => exec_rlCtrlRespRx_slice ha hh hfr hout hm hq,
    fun _ _ _ _ _ ha hh hm _ hq hst => exec_measureResultRx_refused ha hh hm hq hst,
    fun _ _ _ _ ha hh hm => exec_measureResultRx_reading ha hh hm,
    fun _ _ _ ha hh hm _ hq => exec_measureTimeout ha hh hm hq⟩

end Sys2Proof.Machine

namespace Sys2Proof.Machine

/-! ## Events of a head

A head has its own supply, so its events are no events of the powered chip. `done_head` says once what such an event leaves: the head
it names, by the function it applies, and every other head as it was. -/

section
variable {s : State} {h u : Nat}

theorem State.updHead_only (s : State) (h : Nat) (f : Head → Head) : Only [.head] s (s.updHead h f) := .of_eq rfl (by decide)

/-- What touches the heads alone, as a claim about the whole state. -/
theorem Only.eq_of_head {t : State} (ho : Only [.host, .head] s t) : t = { s with host := t.host, head := t.head } :=
  (ho.mono (qs := [.host, .alert, .head]) (by decide)).eq_patch

theorem State.headN_sent (pba : BitVec 64) (msi : SMap Nat) (k : Nat) : (s.sent pba msi).headN k = s.headN k := rfl

/-- An effect that leaves the queue and the fuses alone sends interrupts besides. -/
theorem done_sent {t : State} {ps : List Part} (ho : Only ps s t) (hn : .pending ∉ ps ∧ .fuse ∉ ps) :
    ∃ pba msi, done s t = .next (t.sent pba msi) := by
  obtain ⟨hp, hf⟩ := hn
  obtain ⟨pba, msi, hq⟩ := settle_eq s t
  have hpend : t.pending = s.pending := ho .pending hp
  have hfuse : t.fuse = s.fuse := ho .fuse hf
  exact ⟨pba, msi, by simp only [done, hq, keep, State.sent, ← hpend, ← hfuse]⟩

/-- What an event of head `h` leaves. -/
theorem done_head (g : Head → Head) :
    ∃ t, done s (s.updHead h g) = .next t ∧ Safety.Quiet s t ∧ t = { s with host := t.host, head := t.head } ∧
      (∀ k, k ≠ h → t.headN k = s.headN k) ∧ t.headN h = g (s.headN h) := by
  have ho := s.updHead_only h g
  obtain ⟨pba, msi, hx⟩ := done_sent ho (by decide)
  refine ⟨_, hx, ho.quiet pba msi (by decide), (ho.sent pba msi).eq_of_head, fun k hk => ?_, ?_⟩
  · rw [State.headN_sent, State.headN_updHead_ne _ _ _ _ hk]
  · rw [State.headN_sent, State.headN_updHead_same]

theorem onHead_eq (hh : h < 48) (g : Head → Head) : onHead h g s = s.updHead h g := if_pos hh

theorem done_onHead (hh : h < 48) (g : Head → Head) :
    ∃ t, done s (onHead h g s) = .next t ∧ Safety.Quiet s t ∧ t = { s with host := t.host, head := t.head } ∧
      (∀ k, k ≠ h → t.headN k = s.headN k) ∧ t.headN h = g (s.headN h) := by
  rw [onHead_eq hh]; exact done_head g

theorem atHead_eq (hh : h < 48) (hu : s.uportUsed u = true) (g : Head → Head) : atHead h u g s = s.updHead h g := by
  rw [atHead, if_pos hu, onHead_eq hh]

/-- A frame that reaches a head, or leaves it (R125). -/
theorem frameAt_eq (hh : h < 48) (hu : s.uportUsed u = true) (hst : ((s.headN h).upN u).st ≠ .detect) (g : Head → Head) :
    frameAt h u g s = s.updHead h g := by
  rw [frameAt, if_neg hst, atHead_eq hh hu]

theorem done_frameAt (hh : h < 48) (hu : s.uportUsed u = true) (hst : ((s.headN h).upN u).st ≠ .detect) (g : Head → Head) :
    ∃ t, done s (frameAt h u g s) = .next t ∧ Safety.Quiet s t ∧ t = { s with host := t.host, head := t.head } ∧
      (∀ k, k ≠ h → t.headN k = s.headN k) ∧ t.headN h = g (s.headN h) := by
  rw [frameAt_eq hh hu hst]; exact done_head g

/-- On a port without a chip, or before it has left DETECT, no frame passes (R125; log 5). -/
theorem frameAt_silent (hs : s.uportUsed u = false ∨ ((s.headN h).upN u).st = .detect) (g : Head → Head) : frameAt h u g s = s := by
  unfold frameAt atHead
  split
  case isTrue => rfl
  case isFalse hst =>
    have hu : s.uportUsed u = false := hs.resolve_right hst
    rw [hu, if_neg Bool.false_ne_true]

/-- An event without effect. -/
theorem done_self (s : State) : ∃ t, done s s = .next t ∧ Safety.Quiet s t ∧ t = { s with host := t.host } :=
  ⟨s, done_of_intPending_eq rfl rfl fun _ => rfl, ⟨_, _, rfl⟩, rfl⟩

end

/-! ### The records of a head -/

section
variable {x : Head} {now : BitVec 48} {u : Nat} {tag : BitVec 32}

@[simp] theorem Head.upN_updUp_same (x : Head) (u : Nat) (f : UPort → UPort) : (x.updUp u f).upN u = f (x.upN u) :=
  SMap.get_upd_same _ _ _ _

theorem Head.sameEpoch_same (he : (x.upN u).epoch.toNat = tag.toNat / 2 ^ 28) (g : Head → Head) : x.sameEpoch u tag g = g x :=
  if_pos he

theorem Head.sameEpoch_stale (he : (x.upN u).epoch.toNat ≠ tag.toNat / 2 ^ 28) (g : Head → Head) :
    x.sameEpoch u tag g = x.updUp u fun p => { p with staleEpoch := p.staleEpoch + 1 } := if_neg he

/-- A FIRE_LINE within the head's horizon for a key it does not hold. -/
theorem Head.fireLineRx_new {f : Sys2Proof.FireLine} (hlo : us2 ≤ ridgeDiff f.fireTime now)
    (hhi : ridgeDiff f.fireTime now ≤ 256000000000) (hr : x.recs.get none (tag.toNat % 2 ^ 28) = none) :
    x.fireLineRx now u tag f = { x with
      recs := x.recs.set none (tag.toNat % 2 ^ 28)
        (some ⟨.pending, f.ctl.toNat % 16, f.fireTime, FireLine.levels f, f.throttle.toNat, u⟩) } := by
  have hin : ¬ (ridgeDiff f.fireTime now < us2 ∨ 1000000000 * 256 < ridgeDiff f.fireTime now) := by omega
  simp only [Head.fireLineRx, if_neg hin, hr]

/-- A RETIME of a pending line's own release, both times beyond the head's lock. -/
theorem Head.retimeRx_pending {key rel : Nat} {t : BitVec 48} {r : HeadRec} (hr : x.recs.get none key = some r)
    (hst : r.st = .pending) (hrel : r.release = rel) (hold : us2 ≤ ridgeDiff r.fire now) (hnew : us2 ≤ ridgeDiff t now) :
    x.retimeRx now key t rel = { x with recs := x.recs.set none key (some { r with fire := t }) } := by
  have hfar : ¬ (ridgeDiff r.fire now < us2 ∨ ridgeDiff t now < us2) := by omega
  simp [Head.retimeRx, hr, hst, hrel, if_neg hfar]

theorem Head.ceaseRx_unknown {key rel : Nat} (hr : x.recs.get none key = none) :
    x.ceaseRx now u key rel = { x with recs := x.recs.set none key (some ⟨.ceased, rel, now, [], 0, u⟩) } := by
  simp only [Head.ceaseRx, hr]

theorem Head.firePixel_recs (t : BitVec 48) (throttle : Nat) (x : Head) (e : Nat × Nat) :
    (x.firePixel t throttle e).recs = x.recs := by
  unfold Head.firePixel
  extract_lets near code
  split <;> rfl

/-- Firing the pixels of a line keeps the records. -/
theorem Head.firePixels_recs (t : BitVec 48) (throttle : Nat) (px : List (Nat × Nat)) (x : Head) :
    (px.foldl (Head.firePixel t throttle) x).recs = x.recs := by
  induction px generalizing x with
  | nil => rfl
  | cons e px ih => exact (ih _).trans (x.firePixel_recs t throttle e)

/-- The head whose line of this key is due: the banks switched where the line is the one they wait for, the record fired (R137, R142). -/
def Head.due (key : BitVec 28) (r : HeadRec) (x : Head) : Head :=
  let y := if x.arm && x.applyKey == key then x.switch else x
  { y with recs := y.recs.set none key.toNat (some { r with st := .fired }), lastShot := [] }

/-- A due line changes banks and records, and no other condition of the shot. -/
theorem Head.due_spec (key : BitVec 28) (r : HeadRec) (x : Head) :
    (x.due key r).recs = x.recs.set none key.toNat (some { r with st := .fired }) ∧ (x.due key r).lastShot = [] ∧
      (x.due key r).cut = x.cut ∧ (x.due key r).timeLock = x.timeLock ∧ (x.due key r).firedCount = x.firedCount := by
  unfold Head.due Head.switch
  split <;> exact ⟨rfl, rfl, rfl, rfl, rfl⟩

/-- A pending line at its time: without permit or lock, or with a cut, it ends without a shot (R142, R144). -/
theorem Head.fire_pending {permit : Bool} {key : BitVec 28} {r : HeadRec} (hr : x.recs.get none key.toNat = some r)
    (hst : r.st = .pending) : x.fire permit key =
      if !permit || x.cut || !x.timeLock then x.due key r
      else { r.pixels.foldl (Head.firePixel r.fire r.throttle) (x.due key r) with firedCount := x.firedCount + 1, lastFired := key } := by
  obtain ⟨-, -, hcut, hlock, hcount⟩ := x.due_spec key r
  rw [← hcut, ← hlock, ← hcount]
  simp only [Head.fire, hr, hst, ne_eq, not_true_eq_false, if_false]
  rfl

end

/-! ### Line frames at a head -/

section
variable {s : State} {h u : Nat} {tag : BitVec 32}

theorem exec_headFireLineRx {f : Sys2Proof.FireLine} (hh : h < 48) (hu : s.uportUsed u = true)
    (hst : ((s.headN h).upN u).st ≠ .detect) (he : ((s.headN h).upN u).epoch.toNat = tag.toNat / 2 ^ 28)
    (hlo : us2 ≤ ridgeDiff f.fireTime (s.headTime h)) (hhi : ridgeDiff f.fireTime (s.headTime h) ≤ 256000000000)
    (hr : (s.headN h).recs.get none (tag.toNat % 2 ^ 28) = none) :
    ∃ t, exec (.headFireLineRx h u tag f) s = .next t ∧ Safety.Quiet s t ∧ t = { s with host := t.host, head := t.head } ∧
      (∀ k, k ≠ h → t.headN k = s.headN k) ∧ t.headN h = { s.headN h with
        recs := (s.headN h).recs.set none (tag.toNat % 2 ^ 28)
          (some ⟨.pending, f.ctl.toNat % 16, f.fireTime, FireLine.levels f, f.throttle.toNat, u⟩) } := by
  obtain ⟨t, hx, hquiet, ht, hother, hown⟩ :=
    done_frameAt hh hu hst fun x => x.sameEpoch u tag (Head.fireLineRx (s.headTime h) u tag f)
  exact ⟨t, hx, hquiet, ht, hother, by rw [hown, Head.sameEpoch_same he, Head.fireLineRx_new hlo hhi hr]⟩

theorem exec_headFireLineRx_stale {f : Sys2Proof.FireLine} (hh : h < 48) (hu : s.uportUsed u = true)
    (hst : ((s.headN h).upN u).st ≠ .detect) (he : ((s.headN h).upN u).epoch.toNat ≠ tag.toNat / 2 ^ 28) :
    ∃ t, exec (.headFireLineRx h u tag f) s = .next t ∧ Safety.Quiet s t ∧ t = { s with host := t.host, head := t.head } ∧
      (∀ k, k ≠ h → t.headN k = s.headN k) ∧ (t.headN h).recs = (s.headN h).recs ∧
      ((t.headN h).upN u).staleEpoch = ((s.headN h).upN u).staleEpoch + 1 := by
  obtain ⟨t, hx, hquiet, ht, hother, hown⟩ :=
    done_frameAt hh hu hst fun x => x.sameEpoch u tag (Head.fireLineRx (s.headTime h) u tag f)
  rw [Head.sameEpoch_stale he] at hown
  exact ⟨t, hx, hquiet, ht, hother, by rw [hown]; rfl, by rw [hown, Head.upN_updUp_same]⟩

theorem exec_headRetimeRx {ft : BitVec 48} {rel : Byte} {r : HeadRec} (hh : h < 48) (hu : s.uportUsed u = true)
    (hst : ((s.headN h).upN u).st ≠ .detect) (he : ((s.headN h).upN u).epoch.toNat = tag.toNat / 2 ^ 28)
    (hr : (s.headN h).recs.get none (tag.toNat % 2 ^ 28) = some r) (hp : r.st = .pending) (hrel : r.release = rel.toNat % 16)
    (hold : us2 ≤ ridgeDiff r.fire (s.headTime h)) (hnew : us2 ≤ ridgeDiff ft (s.headTime h)) :
    ∃ t, exec (.headRetimeRx h u tag ft rel) s = .next t ∧ Safety.Quiet s t ∧ t = { s with host := t.host, head := t.head } ∧
      (∀ k, k ≠ h → t.headN k = s.headN k) ∧ t.headN h = { s.headN h with
        recs := (s.headN h).recs.set none (tag.toNat % 2 ^ 28) (some { r with fire := ft }) } := by
  obtain ⟨t, hx, hquiet, ht, hother, hown⟩ := done_frameAt hh hu hst fun x => x.sameEpoch u tag
    (Head.retimeRx (s.headTime h) (tag.toNat % 2 ^ 28) ft (rel.toNat % 16))
  exact ⟨t, hx, hquiet, ht, hother, by rw [hown, Head.sameEpoch_same he, Head.retimeRx_pending hr hp hrel hold hnew]⟩

theorem exec_headCeaseRx {rel : Byte} (hh : h < 48) (hu : s.uportUsed u = true) (hst : ((s.headN h).upN u).st ≠ .detect)
    (he : ((s.headN h).upN u).epoch.toNat = tag.toNat / 2 ^ 28) (hr : (s.headN h).recs.get none (tag.toNat % 2 ^ 28) = none) :
    ∃ t, exec (.headCeaseRx h u tag rel) s = .next t ∧ Safety.Quiet s t ∧ t = { s with host := t.host, head := t.head } ∧
      (∀ k, k ≠ h → t.headN k = s.headN k) ∧ t.headN h = { s.headN h with
        recs := (s.headN h).recs.set none (tag.toNat % 2 ^ 28) (some ⟨.ceased, rel.toNat % 16, s.headTime h, [], 0, u⟩) } := by
  obtain ⟨t, hx, hquiet, ht, hother, hown⟩ := done_frameAt hh hu hst fun x => x.sameEpoch u tag
    (Head.ceaseRx (s.headTime h) u (tag.toNat % 2 ^ 28) (rel.toNat % 16))
  exact ⟨t, hx, hquiet, ht, hother, by rw [hown, Head.sameEpoch_same he, Head.ceaseRx_unknown hr]⟩

/-- On a port without a chip or in DETECT a line frame changes nothing (log 5). -/
theorem exec_headLineFrame_silent {f : Sys2Proof.FireLine} {ft : BitVec 48} {rel : Byte} {i : Instr}
    (hs : s.uportUsed u = false ∨ ((s.headN h).upN u).st = .detect)
    (hi : i = .headFireLineRx h u tag f ∨ i = .headRetimeRx h u tag ft rel ∨ i = .headCeaseRx h u tag rel) :
    ∃ t, exec i s = .next t ∧ Safety.Quiet s t ∧ t = { s with host := t.host } := by
  have hsilent : ∀ g : Head → Head, done s (frameAt h u g s) = done s s := fun g => by rw [frameAt_silent hs]
  have hexec : exec i s = done s s := by
    obtain rfl | rfl | rfl := hi
    · exact hsilent fun x => x.sameEpoch u tag (Head.fireLineRx (s.headTime h) u tag f)
    · exact hsilent fun x => x.sameEpoch u tag (Head.retimeRx (s.headTime h) (tag.toNat % 2 ^ 28) ft (rel.toNat % 16))
    · exact hsilent fun x => x.sameEpoch u tag (Head.ceaseRx (s.headTime h) u (tag.toNat % 2 ^ 28) (rel.toNat % 16))
  rw [hexec]
  exact done_self s

/-! ### Firing and heat at a head -/

theorem exec_headFireLine {key : BitVec 28} {r : HeadRec} (hh : h < 48) (hr : (s.headN h).recs.get none key.toNat = some r)
    (hp : r.st = .pending) :
    ∃ t, exec (.headFireLine h key) s = .next t ∧ Safety.Quiet s t ∧ t = { s with host := t.host, head := t.head } ∧
      (∀ k, k ≠ h → t.headN k = s.headN k) ∧ (t.headN h).recs = (s.headN h).recs.set none key.toNat (some { r with st := .fired }) ∧
      (s.fire.permit = true ∧ (s.headN h).cut = false ∧ (s.headN h).timeLock = true →
        (t.headN h).firedCount = (s.headN h).firedCount + 1 ∧ (t.headN h).lastFired = key) ∧
      (s.fire.permit = false ∨ (s.headN h).cut = true ∨ (s.headN h).timeLock = false →
        (t.headN h).firedCount = (s.headN h).firedCount ∧ (t.headN h).lastShot = []) := by
  obtain ⟨t, hx, hquiet, ht, hother, hown⟩ := done_onHead hh (Head.fire s.fire.permit key)
  obtain ⟨hrecs, hshot, -, -, hcount⟩ := (s.headN h).due_spec key r
  rw [Head.fire_pending hr hp] at hown
  refine ⟨t, hx, hquiet, ht, hother, ?_, fun hfires => ?_, fun hheld => ?_⟩
  · rw [hown]
    split
    · exact hrecs
    · exact (Head.firePixels_recs _ _ _ _).trans hrecs
  · obtain ⟨hperm, hcut, hlock⟩ := hfires
    rw [hperm, hcut, hlock, if_neg (by decide)] at hown
    rw [hown]
    exact ⟨rfl, rfl⟩
  · have hno : (!s.fire.permit || (s.headN h).cut || !(s.headN h).timeLock) = true := by
      obtain hperm | hcut | hlock := hheld
      · simp [hperm]
      · simp [hcut]
      · simp [hlock]
    rw [if_pos hno] at hown
    rw [hown]
    exact ⟨hcount, hshot⟩

theorem exec_headRecordExpiry {key : BitVec 28} {r : HeadRec} (hh : h < 48) (hr : (s.headN h).recs.get none key.toNat = some r)
    (hp : r.st ≠ .pending) :
    ∃ t, exec (.headRecordExpiry h key) s = .next t ∧ Safety.Quiet s t ∧ t = { s with host := t.host, head := t.head } ∧
      (∀ k, k ≠ h → t.headN k = s.headN k) ∧ t.headN h = { s.headN h with recs := (s.headN h).recs.set none key.toNat none } := by
  obtain ⟨t, hx, hquiet, ht, hother, hown⟩ := done_onHead (s := s) hh fun x => match x.recs.get none key.toNat with
    | some r => if r.st = .pending then x else { x with recs := x.recs.set none key.toNat none }
    | none => x
  refine ⟨t, hx, hquiet, ht, hother, ?_⟩
  simp only [hr, if_neg hp] at hown
  exact hown

theorem exec_headTCut {temp : BitVec 16} (hh : h < 48) (hcut : (s.headN h).tCut.toInt ≤ temp.toInt) :
    ∃ t, exec (.headTCut h temp) s = .next t ∧ Safety.Quiet s t ∧ t = { s with host := t.host, head := t.head } ∧
      (∀ k, k ≠ h → t.headN k = s.headN k) ∧ t.headN h = { s.headN h with temp := temp, cut := true, warming := false } := by
  obtain ⟨t, hx, hquiet, ht, hother, hown⟩ := done_onHead (s := s) hh fun x =>
    let x := { x with temp := temp }
    if x.tCut.toInt ≤ temp.toInt then { x with cut := true, warming := false } else x
  exact ⟨t, hx, hquiet, ht, hother, hown.trans (if_pos hcut)⟩

theorem exec_headFireEnableLow (hh : h < 48) (hp : s.fire.permit = false) :
    ∃ t, exec (.headFireEnableLow h) s = .next t ∧ Safety.Quiet s t ∧ t = { s with host := t.host, head := t.head } ∧
      (∀ k, k ≠ h → t.headN k = s.headN k) ∧ t.headN h = { s.headN h with warming := false } := by
  have hlow : exec (.headFireEnableLow h) s = done s (onHead h (fun x => { x with warming := false }) s) :=
    congrArg (done s) (if_neg (by simp [hp]))
  rw [hlow]
  exact done_onHead hh fun x => { x with warming := false }

theorem exec_warmingPulse {z : Nat} (hh : h < 48) (hmay : (s.headN h).mayWarm s.fire.permit (s.headTime h) z = true) :
    ∃ t, exec (.warmingPulse h z) s = .next t ∧ Safety.Quiet s t ∧ t = { s with host := t.host, head := t.head } ∧
      (∀ k, k ≠ h → t.headN k = s.headN k) ∧ t.headN h = { s.headN h with
        warming := true, warmPulses := (s.headN h).warmPulses + 1, lastWarm := some (z, (s.headN h).warmCode * 5) } := by
  obtain ⟨t, hx, hquiet, ht, hother, hown⟩ := done_onHead hh (Head.warmPulse s.fire.permit (s.headTime h) z)
  exact ⟨t, hx, hquiet, ht, hother, hown.trans (if_pos hmay)⟩

/-- The conditions of R145 that make a nozzle one to warm. -/
theorem Head.mayWarm_of {x : Head} {permit : Bool} {now : BitVec 48} {z : Nat} (hrate : x.warmRate ≠ 0) (hheld : x.warmHeld = false)
    (hperm : permit = true) (hcut : x.cut = false) (hz : z < x.nozzles)
    (hmask : (x.warmMask.get 0 (z / 32)).getLsbD (z % 32) = true) (hedge : nearPulse now (x.lastEdge.get none z) = false)
    (hmeas : nearPulse now (x.lastMeas.get none z) = false) (hnear : x.firesNear now 0 z = false) : x.mayWarm permit now z = true := by
  simp only [Head.mayWarm, hheld, hperm, hcut, hmask, hedge, hmeas, hnear, bne_iff_ne.2 hrate, decide_eq_true hz, Bool.not_false,
    Bool.and_self]

end

/-- Settles O45: each event of a head on its line records, its registers' cut and its warming; where the head hears no chip a line
frame changes nothing (log 5). -/
theorem headLinesFire : Obligations.HeadLinesFire :=
  ⟨fun _ _ _ _ _ hh hu hst he hlo hhi hr => exec_headFireLineRx hh hu hst he hlo hhi hr,
   fun _ _ _ _ _ hh hu hst he => exec_headFireLineRx_stale hh hu hst he,
   fun _ _ _ _ _ _ _ hh hu hst he hr hp hrel hold hnew => exec_headRetimeRx hh hu hst he hr hp hrel hold hnew,
   fun _ _ _ _ _ hh hu hst he hr => exec_headCeaseRx hh hu hst he hr,
   fun _ _ _ _ hh hr hp => exec_headFireLine hh hr hp,
   fun _ _ _ _ hh hr hp => exec_headRecordExpiry hh hr hp,
   fun _ _ _ hh hcut => exec_headTCut hh hcut,
   fun _ _ hh hp => exec_headFireEnableLow hh hp,
   fun _ _ _ hh hrate hheld hperm hcut hz hmask hedge hmeas hnear =>
     exec_warmingPulse hh (Head.mayWarm_of hrate hheld hperm hcut hz hmask hedge hmeas hnear),
   fun _ _ _ _ _ _ _ _ hs hi => exec_headLineFrame_silent hs hi⟩

end Sys2Proof.Machine

namespace Sys2Proof.Machine

/-! ## What a head answers -/

section
variable {x : Head} {u : Nat}

/-- A head sends a frame on a port: the port keeps it as its last, and nothing but the port's lane changes besides. -/
theorem Head.send_upN (u : Nat) (f : UpFrame) (x : Head) : (x.send u f).upN u =
    { x.upN u with lastUp := some f, lane := onLane (x.upN u).idle (framed f.bytes), idle := false } := Head.upN_updUp_same _ _ _

theorem Head.send_eq (u : Nat) (f : UpFrame) (x : Head) : x.send u f = { x with up := (x.send u f).up } := rfl

/-- A control frame with a new SEQ is executed, its answer sent and kept (R135). -/
theorem Head.control_new {seq : BitVec 32} {e : Head → UpFrame × Head} (hs : seq ≠ (x.upN u).lastSeq) :
    ((x.control u seq e).upN u).lastSeq = seq ∧ ((x.control u seq e).upN u).lastUp = some (e x).1 ∧
      ((x.control u seq e).upN u).lastAns = some (e x).1 ∧
      x.control u seq e = { (e x).2 with up := (x.control u seq e).up } := by
  have hnew : x.control u seq e = ((e x).2.updUp u fun p => { p with lastSeq := seq, lastAns := some (e x).1 }).send u (e x).1 := by
    simp only [Head.control, if_neg hs]
  rw [hnew, Head.send_upN, Head.upN_updUp_same]
  exact ⟨rfl, rfl, rfl, rfl⟩

/-- The SEQ that a port keeps is answered again and not executed (R135). -/
theorem Head.control_again {seq : BitVec 32} {e : Head → UpFrame × Head} {a : UpFrame} (hs : seq = (x.upN u).lastSeq)
    (ha : (x.upN u).lastAns = some a) : x.control u seq e = x.send u a := by
  simp only [Head.control, if_pos hs, ha]

/-- A write at an address that is no multiple of 4 (R136). -/
theorem Head.ctrlWr_unaligned {permit : Bool} {a : Nat} {d : List Byte} (h : a % 4 ≠ 0) : x.ctrlWr permit a d = (1, x) := if_pos h

/-- A measurement that nothing stands against (R138). -/
theorem Head.measure_done {now : BitVec 48} {seq : BitVec 32} {ns : List (BitVec 16)} {rs : List Reading} (hcut : x.cut = false)
    (hnear : x.cannotMeasure now ns = false) : (x.measure true now seq ns rs).1 = .measureResp seq 0 rs ∧
      (x.measure true now seq ns rs).2 =
        { x with warming := false, warmHeld := true, lastMeas := (x.measure true now seq ns rs).2.lastMeas } := by
  simp only [Head.measure, hcut, hnear, Bool.not_true, Bool.false_eq_true, if_false, if_true, and_self]

/-- Without permit a measurement is refused; it ends warming all the same (log 105). -/
theorem Head.measure_refused {now : BitVec 48} {seq : BitVec 32} {ns : List (BitVec 16)} {rs : List Reading} :
    x.measure false now seq ns rs = (.measureResp seq 1 rs, { x with warming := false, warmHeld := true }) := rfl

/-! ### Time and discovery at a head -/

/-- A TIME frame corrects the clock fully (log 17). -/
theorem Head.timeRx_clockOff (δ : Int) (x : Head) : (x.timeRx δ).clockOff = x.clockOff + δ := by
  simp only [Head.timeRx]
  split
  · rfl
  · split <;> rfl

/-- Beyond 50 ns the head unlocks (R149). -/
theorem Head.timeRx_far {δ : Int} (h : 12800 < δ.natAbs) : (x.timeRx δ).timeLock = false := by
  simp only [Head.timeRx, Nat.reduceMul, if_pos h]

/-- The second frame in a row within 8 ns locks. -/
theorem Head.timeRx_near {δ : Int} (h : δ.natAbs ≤ 2048) (ha : 1 ≤ x.agree) : (x.timeRx δ).timeLock = true := by
  have hfar : ¬ 12800 < δ.natAbs := by omega
  have htwo : 2 ≤ x.agree + 1 := by omega
  simp only [Head.timeRx, Nat.reduceMul, if_neg hfar, if_neg (not_lt.2 h), decide_eq_true htwo, Bool.or_true]

/-- Between the two the lock stays, and the row starts again. -/
theorem Head.timeRx_middle {δ : Int} (h : δ.natAbs ≤ 12800) (h8 : 2048 < δ.natAbs) :
    (x.timeRx δ).timeLock = x.timeLock ∧ (x.timeRx δ).agree = 0 := by
  simp only [Head.timeRx, Nat.reduceMul, if_neg (not_lt.2 h), if_pos h8, and_self]

/-- A HELLO of the chip sets the port's epoch, forgets its control frames and drops its pending lines (R140). -/
theorem Head.helloRx_spec (u : Nat) (e : Byte) (x : Head) :
    ((x.helloRx u e).upN u).epoch = e.setWidth 4 ∧ ((x.helloRx u e).upN u).echo = e &&& 0x0F ∧
      ((x.helloRx u e).upN u).lastSeq = 0xFFFFFFFF ∧
      ∀ y ∈ (x.helloRx u e).recs, ∀ r, y.2 = some r → ¬(r.st = .pending ∧ r.uport = u) := by
  refine ⟨?_, ?_, ?_, fun y hy r hr => ?_⟩
  · rw [Head.helloRx, Head.send_upN, Head.upN_updUp_same]
  · rw [Head.helloRx, Head.send_upN, Head.upN_updUp_same]
  · rw [Head.helloRx, Head.send_upN, Head.upN_updUp_same]
  · have hkept := (List.mem_filter.1 hy).2
    simp only [hr, Bool.not_eq_true', Bool.and_eq_false_iff, beq_eq_false_iff_ne, ne_eq] at hkept
    exact fun ⟨hp, hu⟩ => hkept.elim (absurd hp) (absurd hu)

/-- The head of an upstream port in DISCOVER that sends its HELLO (R140). -/
def Head.discovering (u : Nat) (x : Head) : Head :=
  let y := x.updUp u fun p => { p with st := .discover }
  y.send u (y.hello u)

theorem Head.discovering_spec (u : Nat) (x : Head) :
    ((x.discovering u).upN u).st = .discover ∧ x.discovering u = { x with up := (x.discovering u).up } ∧
      ((x.discovering u).upN u).lastUp =
        some (.hello ⟨1, BitVec.ofNat 8 (u + bit x.fresh 1), BitVec.ofNat 16 x.nozzles, x.serial, (x.upN u).echo⟩) := by
  rw [Head.discovering, Head.send_upN, Head.hello, Head.upN_updUp_same]
  exact ⟨rfl, rfl, rfl⟩

/-- A STATUS carries the temperature and the eye score just measured (R139). -/
theorem Head.sendStatus_spec {permit : Bool} {temp : BitVec 16} {eye : Nat} (he : eye < 256) (x : Head) :
    ((x.sendStatus permit u temp eye).upN u).statusSeq = (x.upN u).statusSeq + 1 ∧
      ((x.sendStatus permit u temp eye).upN u).eye = BitVec.ofNat 8 eye ∧
      x.sendStatus permit u temp eye = { x with temp := temp, up := (x.sendStatus permit u temp eye).up } ∧
      ((x.sendStatus permit u temp eye).upN u).lastUp =
        some (.status (x.upN u).statusSeq { x.status permit u with temp := temp, eye := BitVec.ofNat 8 eye }) := by
  have hmin : min 255 eye = eye := by omega
  have hup : ({ x with temp := temp } : Head).upN u = x.upN u := rfl
  simp only [Head.sendStatus, hmin, Head.status, Head.upN_updUp_same, Head.send_upN, hup]
  exact ⟨trivial, trivial, rfl, rfl⟩

end

/-! ### Frames at a head, and frames it sends -/

section
variable {s : State} {h u : Nat} {seq addr : BitVec 32}

theorem exec_headCtrlWrRx {d : List Byte} (hh : h < 48) (hu : s.uportUsed u = true) (hst : ((s.headN h).upN u).st ≠ .detect)
    (hs : seq ≠ ((s.headN h).upN u).lastSeq) :
    ∃ t, exec (.headCtrlWrRx h u seq addr d) s = .next t ∧ Safety.Quiet s t ∧ t = { s with host := t.host, head := t.head } ∧
      (∀ k, k ≠ h → t.headN k = s.headN k) ∧ ((t.headN h).upN u).lastSeq = seq ∧
      ((t.headN h).upN u).lastUp = some (.ctrlWrResp seq (BitVec.ofNat 32 ((s.headN h).ctrlWr s.fire.permit addr.toNat d).1)) ∧
      ((t.headN h).upN u).lastAns = ((t.headN h).upN u).lastUp ∧
      t.headN h = { ((s.headN h).ctrlWr s.fire.permit addr.toNat d).2 with up := (t.headN h).up } ∧
      (addr.toNat % 4 ≠ 0 → ((t.headN h).upN u).lastUp = some (.ctrlWrResp seq 1) ∧
        t.headN h = { s.headN h with up := (t.headN h).up }) := by
  obtain ⟨t, hx, hquiet, ht, hother, hown⟩ := done_frameAt hh hu hst (Head.control u seq fun x =>
    let r := x.ctrlWr s.fire.permit addr.toNat d
    (.ctrlWrResp seq (BitVec.ofNat 32 r.1), r.2))
  obtain ⟨hseq, hup, hans, hrest⟩ := Head.control_new hs (e := fun x =>
    let r := x.ctrlWr s.fire.permit addr.toNat d
    (.ctrlWrResp seq (BitVec.ofNat 32 r.1), r.2))
  rw [← hown] at hseq hup hans hrest
  refine ⟨t, hx, hquiet, ht, hother, hseq, hup, hans.trans hup.symm, hrest, fun hal => ?_⟩
  have hwr := Head.ctrlWr_unaligned (x := s.headN h) (permit := s.fire.permit) (d := d) hal
  simp only [hwr] at hup hrest
  exact ⟨hup, hrest⟩

theorem exec_headCtrlWrRx_again {d : List Byte} {a : UpFrame} (hh : h < 48) (hu : s.uportUsed u = true)
    (hst : ((s.headN h).upN u).st ≠ .detect) (hs : seq = ((s.headN h).upN u).lastSeq)
    (ha : ((s.headN h).upN u).lastAns = some a) :
    ∃ t, exec (.headCtrlWrRx h u seq addr d) s = .next t ∧ Safety.Quiet s t ∧ t = { s with host := t.host, head := t.head } ∧
      (∀ k, k ≠ h → t.headN k = s.headN k) ∧ ((t.headN h).upN u).lastUp = some a ∧
      t.headN h = { s.headN h with up := (t.headN h).up } := by
  obtain ⟨t, hx, hquiet, ht, hother, hown⟩ := done_frameAt hh hu hst (Head.control u seq fun x =>
    let r := x.ctrlWr s.fire.permit addr.toNat d
    (.ctrlWrResp seq (BitVec.ofNat 32 r.1), r.2))
  rw [Head.control_again hs ha] at hown
  exact ⟨t, hx, hquiet, ht, hother, by rw [hown, Head.send_upN], by rw [hown]; exact Head.send_eq _ _ _⟩

theorem exec_headCtrlRdRx {n : BitVec 16} (hh : h < 48) (hu : s.uportUsed u = true) (hst : ((s.headN h).upN u).st ≠ .detect)
    (hs : seq ≠ ((s.headN h).upN u).lastSeq) :
    ∃ t, exec (.headCtrlRdRx h u seq addr n) s = .next t ∧ Safety.Quiet s t ∧ t = { s with host := t.host, head := t.head } ∧
      (∀ k, k ≠ h → t.headN k = s.headN k) ∧ ((t.headN h).upN u).lastSeq = seq ∧ t.headN h = { s.headN h with up := (t.headN h).up } ∧
      ((t.headN h).upN u).lastUp = some (.ctrlRdResp seq (BitVec.ofNat 32 ((s.headN h).ctrlRd addr.toNat n.toNat).1)
        ((s.headN h).ctrlRd addr.toNat n.toNat).2) := by
  obtain ⟨t, hx, hquiet, ht, hother, hown⟩ := done_frameAt hh hu hst (Head.control u seq fun x =>
    let r := x.ctrlRd addr.toNat n.toNat
    (.ctrlRdResp seq (BitVec.ofNat 32 r.1) r.2, x))
  obtain ⟨hseq, hup, -, hrest⟩ := Head.control_new hs (e := fun x =>
    let r := x.ctrlRd addr.toNat n.toNat
    (.ctrlRdResp seq (BitVec.ofNat 32 r.1) r.2, x))
  rw [← hown] at hseq hup hrest
  exact ⟨t, hx, hquiet, ht, hother, hseq, hrest, hup⟩

/-- A MEASURE with a new SEQ is executed and answered. -/
theorem exec_headMeasureFrame (ns : List (BitVec 16)) (ra rb : List (BitVec 20)) (hh : h < 48) (hu : s.uportUsed u = true)
    (hst : ((s.headN h).upN u).st ≠ .detect) (hs : seq ≠ ((s.headN h).upN u).lastSeq) :
    ∃ t, exec (.headMeasureFrame h u seq ns ra rb) s = .next t ∧ Safety.Quiet s t ∧ t = { s with host := t.host, head := t.head } ∧
      (∀ k, k ≠ h → t.headN k = s.headN k) ∧
      ((t.headN h).upN u).lastUp = some ((s.headN h).measure s.fire.permit (s.headTime h) seq ns (ra.zipWith Reading.mk rb)).1 ∧
      t.headN h = { ((s.headN h).measure s.fire.permit (s.headTime h) seq ns (ra.zipWith Reading.mk rb)).2 with
        up := (t.headN h).up } := by
  obtain ⟨t, hx, hquiet, ht, hother, hown⟩ := done_frameAt hh hu hst
    (Head.control u seq (Head.measure s.fire.permit (s.headTime h) seq ns (ra.zipWith Reading.mk rb)))
  obtain ⟨-, hup, -, hrest⟩ :=
    Head.control_new hs (e := Head.measure s.fire.permit (s.headTime h) seq ns (ra.zipWith Reading.mk rb))
  rw [← hown] at hup hrest
  exact ⟨t, hx, hquiet, ht, hother, hup, hrest⟩

theorem exec_headMeasureFrame_done {ns : List (BitVec 16)} {ra rb : List (BitVec 20)} (hh : h < 48) (hu : s.uportUsed u = true)
    (hst : ((s.headN h).upN u).st ≠ .detect) (hs : seq ≠ ((s.headN h).upN u).lastSeq) (hp : s.fire.permit = true)
    (hcut : (s.headN h).cut = false) (hnear : (s.headN h).cannotMeasure (s.headTime h) ns = false) :
    ∃ t, exec (.headMeasureFrame h u seq ns ra rb) s = .next t ∧ Safety.Quiet s t ∧ t = { s with host := t.host, head := t.head } ∧
      (∀ k, k ≠ h → t.headN k = s.headN k) ∧
      ((t.headN h).upN u).lastUp = some (.measureResp seq 0 (ra.zipWith Reading.mk rb)) ∧
      t.headN h = { s.headN h with warming := false, warmHeld := true, lastMeas := (t.headN h).lastMeas, up := (t.headN h).up } := by
  obtain ⟨t, hx, hquiet, ht, hother, hup, hrest⟩ := exec_headMeasureFrame ns ra rb hh hu hst hs
  obtain ⟨hans, hhead⟩ := Head.measure_done (seq := seq) (rs := ra.zipWith Reading.mk rb) hcut hnear
  rw [hp, hans] at hup
  rw [hp, hhead] at hrest
  exact ⟨t, hx, hquiet, ht, hother, hup, by rw [hrest]⟩

theorem exec_headMeasureFrame_refused {ns : List (BitVec 16)} {ra rb : List (BitVec 20)} (hh : h < 48) (hu : s.uportUsed u = true)
    (hst : ((s.headN h).upN u).st ≠ .detect) (hs : seq ≠ ((s.headN h).upN u).lastSeq) (hp : s.fire.permit = false) :
    ∃ t, exec (.headMeasureFrame h u seq ns ra rb) s = .next t ∧ Safety.Quiet s t ∧ t = { s with host := t.host, head := t.head } ∧
      (∀ k, k ≠ h → t.headN k = s.headN k) ∧ (∃ rs, ((t.headN h).upN u).lastUp = some (.measureResp seq 1 rs)) ∧
      t.headN h = { s.headN h with warming := false, warmHeld := true, up := (t.headN h).up } := by
  obtain ⟨t, hx, hquiet, ht, hother, hup, hrest⟩ := exec_headMeasureFrame ns ra rb hh hu hst hs
  rw [hp, Head.measure_refused] at hup hrest
  exact ⟨t, hx, hquiet, ht, hother, ⟨_, hup⟩, hrest⟩

theorem exec_headTimeRx {arr : BitVec 48} {δ : Int} (hh : h < 48) (hu : s.uportUsed u = true)
    (hst : ((s.headN h).upN u).st ≠ .detect) (hδ : δ = ridgeDiff arr (s.headTime h)) :
    ∃ t, exec (.headTimeRx h u arr) s = .next t ∧ Safety.Quiet s t ∧ t = { s with host := t.host, head := t.head } ∧
      (∀ k, k ≠ h → t.headN k = s.headN k) ∧ (t.headN h).clockOff = (s.headN h).clockOff + δ ∧
      (12800 < δ.natAbs → (t.headN h).timeLock = false) ∧
      (δ.natAbs ≤ 2048 → 1 ≤ (s.headN h).agree → (t.headN h).timeLock = true) ∧
      (δ.natAbs ≤ 12800 → 2048 < δ.natAbs → (t.headN h).timeLock = (s.headN h).timeLock ∧ (t.headN h).agree = 0) := by
  obtain ⟨t, hx, hquiet, ht, hother, hown⟩ := done_frameAt hh hu hst (Head.timeRx (ridgeDiff arr (s.headTime h)))
  rw [← hδ] at hown
  have hclock := Head.timeRx_clockOff δ (s.headN h)
  have hfar := Head.timeRx_far (x := s.headN h) (δ := δ)
  have hnear := Head.timeRx_near (x := s.headN h) (δ := δ)
  have hmid := Head.timeRx_middle (x := s.headN h) (δ := δ)
  rw [← hown] at hclock hfar hnear hmid
  exact ⟨t, hx, hquiet, ht, hother, hclock, hfar, hnear, hmid⟩

theorem exec_headEchoRx {t1 : BitVec 48} (hh : h < 48) (hu : s.uportUsed u = true) (hst : ((s.headN h).upN u).st ≠ .detect) :
    ∃ t, exec (.headEchoRx h u seq t1) s = .next t ∧ Safety.Quiet s t ∧ t = { s with host := t.host, head := t.head } ∧
      (∀ k, k ≠ h → t.headN k = s.headN k) ∧
      ((t.headN h).upN u).lastUp = some (.echoResp seq t1 (s.headTime h) (s.headTime h)) := by
  obtain ⟨t, hx, hquiet, ht, hother, hown⟩ :=
    done_frameAt hh hu hst (Head.send u (.echoResp seq t1 (s.headTime h) (s.headTime h)))
  exact ⟨t, hx, hquiet, ht, hother, by rw [hown, Head.send_upN]⟩

theorem exec_headHelloRx {e : Byte} (hh : h < 48) (hu : s.uportUsed u = true) (hst : ((s.headN h).upN u).st ≠ .detect) :
    ∃ t, exec (.headHelloRx h u e) s = .next t ∧ Safety.Quiet s t ∧ t = { s with host := t.host, head := t.head } ∧
      (∀ k, k ≠ h → t.headN k = s.headN k) ∧ ((t.headN h).upN u).epoch = e.setWidth 4 ∧ ((t.headN h).upN u).echo = e &&& 0x0F ∧
      ((t.headN h).upN u).lastSeq = 0xFFFFFFFF ∧
      ∀ x ∈ (t.headN h).recs, ∀ r, x.2 = some r → ¬(r.st = .pending ∧ r.uport = u) := by
  obtain ⟨t, hx, hquiet, ht, hother, hown⟩ := done_frameAt hh hu hst (Head.helloRx u e)
  have hspec := Head.helloRx_spec u e (s.headN h)
  rw [← hown] at hspec
  exact ⟨t, hx, hquiet, ht, hother, hspec⟩

/-! ### A head's own HELLO, STATUS and idle lane -/

/-- What the HELLO of a head module comes to (R140): none where it is answered already. -/
theorem exec_headHelloSend_eq (sn : BitVec 64) (n : Nat) : exec (.headHelloSend h ⟨u, sn, n⟩) s = done s
    (if ((s.headN h).serial == sn && (s.headN h).nozzles == n) && s.answered h u then s
      else atHead h u (fun x => (x.as sn n).discovering u) s) := rfl

theorem exec_headHelloSend {sn : BitVec 64} {n : Nat} (hh : h < 48) (hu : s.uportUsed u = true)
    (hs : ((s.headN h).serial = sn ∧ (s.headN h).nozzles = n) → s.answered h u = false) :
    ∃ t, exec (.headHelloSend h ⟨u, sn, n⟩) s = .next t ∧ Safety.Quiet s t ∧ t = { s with host := t.host, head := t.head } ∧
      (∀ k, k ≠ h → t.headN k = s.headN k) ∧ t.headN h = ((s.headN h).as sn n).discovering u := by
  have hsends : ¬ ((((s.headN h).serial == sn && (s.headN h).nozzles == n) && s.answered h u) = true) := by
    simp only [Bool.and_eq_true, beq_iff_eq, not_and, Bool.not_eq_true]
    exact fun hsame => hs hsame
  rw [exec_headHelloSend_eq, if_neg hsends, atHead_eq hh hu]
  exact done_head fun x => (x.as sn n).discovering u

theorem exec_headHelloSend_same {sn : BitVec 64} {n : Nat} (hh : h < 48) (hu : s.uportUsed u = true)
    (hsn : (s.headN h).serial = sn) (hn : (s.headN h).nozzles = n) (ha : s.answered h u = false) :
    ∃ t, exec (.headHelloSend h ⟨u, sn, n⟩) s = .next t ∧ Safety.Quiet s t ∧ t = { s with host := t.host, head := t.head } ∧
      (∀ k, k ≠ h → t.headN k = s.headN k) ∧ ((t.headN h).upN u).st = .discover ∧ t.headN h = { s.headN h with up := (t.headN h).up } ∧
      ((t.headN h).upN u).lastUp = some (.hello ⟨1, BitVec.ofNat 8 (u + bit (s.headN h).fresh 1), BitVec.ofNat 16 n, sn,
        ((s.headN h).upN u).echo⟩) := by
  obtain ⟨t, hx, hquiet, ht, hother, hown⟩ := exec_headHelloSend hh hu fun _ => ha
  have has : (s.headN h).as sn n = s.headN h := if_pos ⟨hsn, hn⟩
  rw [has] at hown
  obtain ⟨hst, hrest, hup⟩ := (s.headN h).discovering_spec u
  rw [← hown] at hst hrest hup
  subst hsn hn
  exact ⟨t, hx, hquiet, ht, hother, hst, hrest, hup⟩

/-- Another serial number or nozzle count is another head module, at its registers' reset values (R136; log 17). -/
theorem exec_headHelloSend_other {sn : BitVec 64} {n : Nat} (hh : h < 48) (hu : s.uportUsed u = true)
    (hm : ¬((s.headN h).serial = sn ∧ (s.headN h).nozzles = n)) :
    ∃ t, exec (.headHelloSend h ⟨u, sn, n⟩) s = .next t ∧ Safety.Quiet s t ∧ t = { s with host := t.host, head := t.head } ∧
      (∀ k, k ≠ h → t.headN k = s.headN k) ∧ t.headN h = { ({} : Head) with serial := sn, nozzles := n, up := (t.headN h).up } ∧
      ((t.headN h).upN u).st = .discover ∧
      ((t.headN h).upN u).lastUp = some (.hello ⟨1, BitVec.ofNat 8 (u + 2), BitVec.ofNat 16 n, sn, 0xFF⟩) := by
  obtain ⟨t, hx, hquiet, ht, hother, hown⟩ := exec_headHelloSend hh hu fun hsame => absurd hsame hm
  have has : (s.headN h).as sn n = { serial := sn, nozzles := n } := if_neg hm
  rw [has] at hown
  obtain ⟨hst, hrest, hup⟩ := Head.discovering_spec u { serial := sn, nozzles := n }
  rw [← hown] at hst hrest hup
  exact ⟨t, hx, hquiet, ht, hother, hrest, hst, hup⟩

theorem exec_headHelloSend_answered {sn : BitVec 64} {n : Nat} (hsn : (s.headN h).serial = sn) (hn : (s.headN h).nozzles = n)
    (ha : s.answered h u = true) :
    ∃ t, exec (.headHelloSend h ⟨u, sn, n⟩) s = .next t ∧ Safety.Quiet s t ∧ t = { s with host := t.host } := by
  rw [exec_headHelloSend_eq, if_pos (by simp [hsn, hn, ha])]
  exact done_self s

theorem exec_headStatusSend {temp : BitVec 16} {eye : Nat} (hh : h < 48) (hu : s.uportUsed u = true)
    (hst : ((s.headN h).upN u).st ≠ .detect) (he : eye < 256) :
    ∃ t, exec (.headStatusSend h ⟨u, temp, eye⟩) s = .next t ∧ Safety.Quiet s t ∧ t = { s with host := t.host, head := t.head } ∧
      (∀ k, k ≠ h → t.headN k = s.headN k) ∧ ((t.headN h).upN u).statusSeq = ((s.headN h).upN u).statusSeq + 1 ∧
      ((t.headN h).upN u).eye = BitVec.ofNat 8 eye ∧ t.headN h = { s.headN h with temp := temp, up := (t.headN h).up } ∧
      ((t.headN h).upN u).lastUp = some (.status ((s.headN h).upN u).statusSeq
        { (s.headN h).status s.fire.permit u with temp := temp, eye := BitVec.ofNat 8 eye }) := by
  obtain ⟨t, hx, hquiet, ht, hother, hown⟩ := done_frameAt hh hu hst (Head.sendStatus s.fire.permit u temp eye)
  have hspec := Head.sendStatus_spec (u := u) (permit := s.fire.permit) (temp := temp) he (s.headN h)
  rw [← hown] at hspec
  exact ⟨t, hx, hquiet, ht, hother, hspec⟩

/-- What touches a head and its chip's ports, as a claim about the whole state. -/
theorem Only.eq_of_head_port {t : State} (ho : Only [.host, .head, .port] s t) :
    t = { s with host := t.host, head := t.head, port := t.port } :=
  (ho.mono (qs := [.host, .alert, .head, .port]) (by decide)).eq_patch

/-- The receiver that a head's idle lane reaches (R118). -/
def State.hearIdle (h u : Nat) (s : State) : State :=
  if h < 48 ∧ u = s.ownUport then s.updPort h fun q => if q.st.framed then { q with rxIdle := true } else q else s

theorem State.hearIdle_only (s : State) (h u : Nat) : Only [.port] s (s.hearIdle h u) := .ite (s.updPort_only h _) (.refl s)

theorem State.hearIdle_portN_ne {q : Nat} (hq : q ≠ h) : (s.hearIdle h u).portN q = s.portN q := by
  unfold State.hearIdle
  split
  · exact s.portN_updPort_ne _ _ _ hq
  · rfl

theorem State.hearIdle_rxIdle (hh : h < 48) (hu : u = s.ownUport) (hf : (s.portN h).st.framed = true) :
    ((s.hearIdle h u).portN h).rxIdle = true := by
  rw [State.hearIdle, if_pos ⟨hh, hu⟩, State.portN_updPort_same, if_pos hf]

theorem exec_headElectricalIdleEntry (hh : h < 48) (hu : s.uportUsed u = true) (hst : ((s.headN h).upN u).st ≠ .detect) :
    ∃ t, exec (.headElectricalIdleEntry h u) s = .next t ∧ Safety.Quiet s t ∧
      t = { s with host := t.host, head := t.head, port := t.port } ∧ ((t.headN h).upN u).idle = true ∧
      (∀ k, k ≠ h → t.headN k = s.headN k) ∧ (u = s.ownUport → (s.portN h).st.framed = true → (t.portN h).rxIdle = true) ∧
      ∀ q, q ≠ h → t.portN q = s.portN q := by
  have hexec : exec (.headElectricalIdleEntry h u) s =
      done s ((frameAt h u (Head.updUp u fun p => { p with idle := true }) s).hearIdle h u) := rfl
  have hhead := s.updHead_only h (Head.updUp u fun p => { p with idle := true })
  have hlane := State.hearIdle_only (s.updHead h (Head.updUp u fun p => { p with idle := true })) h u
  have ho := hhead.step hlane
  obtain ⟨pba, msi, hx⟩ := done_sent ho (by decide)
  have hkeep : ∀ k, ((s.updHead h (Head.updUp u fun p => { p with idle := true })).hearIdle h u).headN k =
      (s.updHead h (Head.updUp u fun p => { p with idle := true })).headN k :=
    fun k => congrArg (SMap.get ({} : Head) · k) (hlane .head (by decide))
  rw [hexec, frameAt_eq hh hu hst]
  refine ⟨_, hx, ho.quiet pba msi (by decide), (ho.sent pba msi).eq_of_head_port, ?_, fun k hk => ?_, fun hown hf => ?_,
    fun q hq => ?_⟩
  · rw [State.headN_sent, hkeep, State.headN_updHead_same, Head.upN_updUp_same]
  · rw [State.headN_sent, hkeep, State.headN_updHead_ne _ _ _ _ hk]
  · rw [State.portN_sent]; exact State.hearIdle_rxIdle hh hown hf
  · rw [State.portN_sent, State.hearIdle_portN_ne hq]; rfl

end

/-- Settles O46: control frames by whether their SEQ is kept, MEASURE by permit (it holds warming, log 105), TIME by its distance, and
what a head sends of itself: HELLO for the same module or a new one (logs 17, 106), STATUS, an idle lane. -/
theorem headFramesAnswer : Obligations.HeadFramesAnswer :=
  ⟨fun _ _ _ _ _ _ hh hu hst hs => exec_headCtrlWrRx hh hu hst hs,
   fun _ _ _ _ _ _ _ hh hu hst hs ha => exec_headCtrlWrRx_again hh hu hst hs ha,
   fun _ _ _ _ _ _ hh hu hst hs => exec_headCtrlRdRx hh hu hst hs,
   fun _ _ _ _ _ _ _ hh hu hst hs hp hcut hnear => exec_headMeasureFrame_done hh hu hst hs hp hcut hnear,
   fun _ _ _ _ _ _ _ hh hu hst hs hp => exec_headMeasureFrame_refused hh hu hst hs hp,
   fun _ _ _ _ _ hh hu hst hδ => exec_headTimeRx hh hu hst hδ,
   fun _ _ _ _ _ hh hu hst => exec_headEchoRx hh hu hst,
   fun _ _ _ _ hh hu hst => exec_headHelloRx hh hu hst,
   fun _ _ _ _ _ hh hu hsn hn ha => exec_headHelloSend_same hh hu hsn hn ha,
   fun _ _ _ _ _ hh hu hm => exec_headHelloSend_other hh hu hm,
   fun _ _ _ _ _ hsn hn ha => exec_headHelloSend_answered hsn hn ha,
   fun _ _ _ _ _ hh hu hst he => exec_headStatusSend hh hu hst he,
   fun _ _ _ hh hu hst => exec_headElectricalIdleEntry hh hu hst⟩

end Sys2Proof.Machine

namespace Sys2Proof.Machine

/-! ## What a port's drop leaves of the uniformity loop -/

section
variable {s : State} {p : Nat}

/-- The windows that a restart leaves depend on the geometry and the loop alone. -/
theorem State.restartPort_loop_congr {t : State} (hg : t.geo = s.geo) (hl : t.loop = s.loop) :
    (t.restartPort p).loop = (s.restartPort p).loop := by
  have hcols : t.portCols p = s.portCols p := by rw [State.portCols, State.portCols, hg]
  rw [State.restartPort, State.restartPort, State.updLoop_loop, State.updLoop_loop, hcols, hl]

/-- A port that drops, or comes back from a drop, restarts the windows of its columns (spec/07 R215). -/
theorem State.enterSt_loop {st : LinkSt} {cause : Nat} (hd : (((s.portN p).st == .dropped) != (st == .dropped)) = true) :
    (s.enterSt p st cause).loop = (s.restartPort p).loop := by
  unfold State.enterSt
  extract_lets old s1 s2 s3 s4 s5 s6 s7 s8
  have h1 : Only [.pages, .reports, .fire, .port, .lines] s s1 := .ite (s.leaveUp_only _ p) (.refl s)
  have h2 : Only [.health, .log, .alert] s1 s2 := .ite (s1.endCause_only 1 p) (.refl s1)
  have h4 : Only [.port] s2 s4 := .trans (s2.updPort_only p _) (.ite (State.updPort_only _ p _) (.refl _))
  have h6 : Only [.log, .alert] s4 s6 := .trans (.ite (s4.logEvent_only _ _ _) (.refl s4)) (.ite (State.logEvent_only _ _ _ _) (.refl _))
  have h7 : Only [.health, .log, .alert] s6 s7 := .ite (s6.setCause_only 1 p) (.refl s6)
  have hpre := (((h1.step h2).step h4).step h6).step h7
  have h8 : s8 = s7.restartPort p := if_pos (Bool.or_eq_true_iff.2 (.inr hd))
  have h9 : Only [.fire, .log, .alert, .speedLimit] s8 (if (old == .up) != (st == .up) then s8.rehide.speedCheck else s8) :=
    .ite ((s8.rehide_only.step (State.speedCheck_only _)).mono (by decide)) (.refl s8)
  have htail : State.loop _ = s8.loop := (h9.step (State.handTry_only _)) .loop (by decide)
  rw [htail, h8]
  exact State.restartPort_loop_congr (hpre .geo (by decide)) (hpre .loop (by decide))

/-- TRAIN_TIMEOUT drops a port that has not come up, and its windows restart. -/
theorem exec_trainTimeout_loop {t : State} (ha : s.alive = true) (hst : (s.portN p).st = .train)
    (hx : exec (.trainTimeout p) s = .next t) : t.loop = (s.restartPort p).loop := by
  have hexec : exec (.trainTimeout p) s = done s (s.dropPort p 3) := by
    have hdrops : (match (s.portN p).st with
      | .train | .discover | .load => s.dropPort p 3
      | _ => s) = s.dropPort p 3 := by rw [hst]
    exact congrArg (done s) ((if_pos ha).trans hdrops)
  obtain ⟨pba, msi, hsent⟩ := done_sent (s.enterSt_only p .dropped 3) (by decide)
  have ht : (s.dropPort p 3).sent pba msi = t := Host.Outcome.next.inj ((hexec.trans hsent).symm.trans hx)
  rw [← ht]
  exact State.enterSt_loop (by rw [hst]; rfl)

end

/-- Refutes O42: a port that drops in TRAIN restarts the uniformity windows of its columns (spec/07 R215), where the sixth clause
leaves all but host, ports and log as it was; so does a REVIVE of a DROPPED port, against the eleventh (`State.enterSt_loop`). Port 0 of the geometry trains here, and the loop holds a block of its first column. -/
theorem not_ridgeStatesMove : ¬ Obligations.RidgeStatesMove := by
  unfold Obligations.RidgeStatesMove
  rintro ⟨-, -, -, -, -, htimeout, -⟩
  obtain ⟨t, hx, -, ht, -, -, -⟩ := htimeout
    { boot := { resetN := true, stage := .ready },
      geo := { committed := some {
        web := some ⟨false, false, 600, 1, 1, 42333000, 1000, 50, 4, 3, 100, 100, 1024⟩,
        port := [(0, { enable := true, nozzles := 1024 })] } },
      port := [(0, { st := .train })],
      loop := { ring := [(0, [(0, ⟨1, 2, 3, 4, 5⟩)])] } } 0 (by decide) rfl (.inl (by decide))
  have hkept : t.loop.ring = [(0, [(0, ⟨1, 2, 3, 4, 5⟩)])] := by rw [ht]
  have hdropped : t.loop.ring = [] := by rw [exec_trainTimeout_loop (by decide) (by decide) hx]; decide +kernel
  rw [hdropped] at hkept
  cases hkept

end Sys2Proof.Machine

namespace Sys2Proof.Machine

/-! ## What an event leaves of a port

Much of what happens to a port moves only the frames it queues, sends and awaits. `Port.core` is the port without them: it says in one
equation what such an operation leaves of the port, and what a port's fields are after it. -/

section
variable {α : Type} [DecidableEq α]

/-- Changes along a list of keys leave at every key what each of them leaves. -/
theorem SMap.get_updAll_keep {β : Type} (π : α → β) {f : Nat → α → α} (hf : ∀ i v, π (f i v) = π v) (d : α) (is : List Nat)
    (m : SMap α) (j : Nat) : π (SMap.get d (SMap.updAll d m is f) j) = π (SMap.get d m j) := by
  induction is generalizing m with
  | nil => rfl
  | cons i is ih =>
    refine (ih _).trans ?_
    by_cases h : j = i
    · rw [h, SMap.get_upd_same, hf]
    · rw [SMap.get_upd_ne _ _ _ h]

end

/-- A port without its frames: what it queues, what it awaits, what it holds back, and the gap work that waits behind them. -/
def Port.core (q : Port) : Port :=
  { q with ctrlQ := [], ctrlOut := none, ctrlSeq := 0, txQ := [], measuring := none, measSeq := 0, holds := false, gapOpen := false,
           warmRate := 0, bankAtLoad := none, awaiting := [] }

theorem Port.SameLink.core_eq {q q' : Port} (h : q.SameLink q') : q'.core = q.core := by
  unfold Port.SameLink at h
  rw [h]
  rfl

/-- Queueing control frames in a port and sending the next one. -/
theorem Port.queue_pump_core (retries : Nat) (q : Port) (rs : List CtrlReq) : ({ q with ctrlQ := rs }.pump retries).core = q.core :=
  (Port.queue_pump_sameLink retries q rs).core_eq

section
variable {s : State} {p : Nat}

/-- A change of a port that moves its frames alone. -/
theorem State.updPort_core {f : Port → Port} (s : State) (p k : Nat) (hf : ∀ q, (f q).core = q.core := by intro; rfl) :
    ((s.updPort p f).portN k).core = (s.portN k).core := by
  by_cases hk : k = p
  · rw [hk, State.portN_updPort_same, hf]
  · rw [State.portN_updPort_ne _ _ _ _ hk]

theorem State.ceasePort_core (again : Bool) (h n p k : Nat) (s : State) :
    ((s.ceasePort again h n p).portN k).core = (s.portN k).core := by
  unfold State.ceasePort
  split
  case h_1 => rfl
  case h_2 l _ =>
    dsimp only
    split
    case h_1 =>
      split
      · rfl
      · rw [State.portN_updPortLine]; exact s.updPort_core p k
    case h_2 => rw [State.portN_updPortLine]; exact s.updPort_core p k
    case h_3 | h_4 | h_5 => split <;> rfl
    case h_6 | h_7 => rfl

theorem State.headWrite_core (addr : Nat) (data : List Byte) (k : Nat) :
    ((s.headWrite p addr data).portN k).core = (s.portN k).core := by
  by_cases hk : k = p
  · rw [hk]; exact (s.headWrite_portN_same p addr data).core_eq
  · rw [State.headWrite_portN_ne _ _ _ hk]

theorem State.closeGap_core (s : State) (p k : Nat) : ((s.closeGap p).portN k).core = (s.portN k).core := by
  unfold State.closeGap
  split
  · rfl
  · exact (State.updPort_core _ p k).trans (State.headWrite_core _ _ k)

theorem State.leaveUp_core (resync : Bool) (k : Nat) : ((s.leaveUp resync p).portN k).core = (s.portN k).core := by
  unfold State.leaveUp
  extract_lets s1 s2
  have h1 : (s1.portN k).core = (s.portN k).core :=
    (State.closeGap_core _ p k).trans (congrArg Port.core ((s.markPortLost_only p).portN (by decide) k))
  rw [(State.pruneLines_only _).portN (by decide)]
  exact (s2.updPort_core p k).trans h1

theorem State.startLoad_core (s : State) (p k : Nat) : ((s.startLoad p).portN k).core = (s.portN k).core :=
  s.updPort_core p k fun q => Port.queue_pump_core _ { q with holds := false, bankAtLoad := q.prev.map fun _ => q.bank } _

theorem State.dropWaiting_core (hold : Bool) (s : State) (k : Nat) : ((s.dropWaiting hold).portN k).core = (s.portN k).core := by
  unfold State.dropWaiting State.portN
  rw [State.updPorts_port, SMap.get_updAll_keep Port.core]
  exact fun _ _ => rfl

/-- Of a port a hand-over of supervision takes only control frames that wait (spec/09 R279). -/
theorem State.handTry_core (s : State) (k : Nat) : (s.handTry.portN k).core = (s.portN k).core := by
  unfold State.handTry
  split
  · rfl
  · extract_lets s1 s2
    have h2 : s2.portN k = s.portN k := ((s.updTwin_only _).trans (s1.twinSend_only _)).portN (by decide) k
    rw [(State.roleEvent_only _ _).portN (by decide), State.dropWaiting_core, State.portN_updTwin, h2]

/-- Entering a link state is `Port.enter` of the port, whatever becomes of its frames. -/
theorem State.enterSt_enter (s : State) (p : Nat) (st : LinkSt) (cause : Nat) : ∃ q : Port, q.core = (s.portN p).core ∧
    ((s.enterSt p st cause).portN p).core = (q.enter st cause).core := by
  unfold State.enterSt
  extract_lets old s1 s2 s3 s4 s5 s6 s7 s8
  have h1 : (s1.portN p).core = (s.portN p).core := by
    unfold s1
    split
    · exact State.leaveUp_core _ _
    · rfl
  have h2 : s2.portN p = s1.portN p :=
    Only.portN (ps := [.health, .log, .alert]) (.ite (s1.endCause_only 1 p) (.refl s1)) (by decide) p
  have h4 : (s4.portN p).core = ((s2.portN p).enter st cause).core := by
    rw [← s2.portN_updPort_same p (Port.enter st cause)]
    unfold s4
    split
    · exact State.startLoad_core _ _ _
    · rfl
  have h7 : Only [.log, .alert, .health] s4 s7 :=
    (((Only.ite (s4.logEvent_only _ _ _) (.refl s4)).trans (.ite (State.logEvent_only _ _ _ _) (.refl _))).mono (by decide)).trans
      (.ite ((State.setCause_only _ 1 p).mono (by decide)) (.refl _))
  have h9 : Only [.loop, .fire, .log, .alert, .speedLimit] s7
      (if (old == .up) != (st == .up) then s8.rehide.speedCheck else s8) :=
    (Only.mono (ps := [.loop]) (.ite (s7.restartPort_only p) (.refl s7)) (by decide)).trans
      (.ite ((s8.rehide_only.step (State.speedCheck_only _)).mono (by decide)) (.refl s8))
  refine ⟨s2.portN p, (congrArg Port.core h2).trans h1, ?_⟩
  rw [State.handTry_core, (h7.step h9).portN (by decide), h4]

theorem Port.enter_st (q : Port) (st : LinkSt) (cause : Nat) : (q.enter st cause).st = st := by
  cases st <;> rfl

/-- Entering TRAIN begins the next epoch. -/
theorem Port.enter_epoch (q : Port) (st : LinkSt) (cause : Nat) :
    (q.enter st cause).epoch = if st = .train then q.epoch + 1 else q.epoch := by
  have hold : (if q.st.writes && !st.writes then q.holdWrites else q).epoch = q.epoch := by split <;> rfl
  cases st <;> exact hold ▸ rfl

/-- What a port's entry into a link state comes to: the state itself, and with TRAIN the next epoch. -/
theorem State.enterSt_link (s : State) (p : Nat) (st : LinkSt) (cause : Nat) : ((s.enterSt p st cause).portN p).st = st ∧
    ((s.enterSt p st cause).portN p).epoch = if st = .train then (s.portN p).epoch + 1 else (s.portN p).epoch := by
  obtain ⟨q, hq, he⟩ := s.enterSt_enter p st cause
  have hepoch : q.epoch = (s.portN p).epoch := (congrArg Port.epoch hq :)
  exact ⟨(congrArg Port.st he :).trans (q.enter_st st cause),
    (congrArg Port.epoch he :).trans ((q.enter_epoch st cause).trans (by rw [hepoch]))⟩

theorem State.resyncPort_only (s : State) (p row : Nat) :
    Only [.pages, .reports, .fire, .port, .lines, .health, .log, .alert, .loop, .speedLimit, .twin] s (s.resyncPort p row) := by
  unfold State.resyncPort
  extract_lets q recent u
  have hu : Only [.port] s u := s.updPort_only p _
  exact .ite (.refl s) (.ite (s.enterSt_only p .dropped 2)
    (((hu.step (u.logEvent_only _ _ _)).step (State.enterSt_only _ p .train 0)).mono (by decide)))

/-- The first two resyncs within 1 s retrain the port under the next epoch (R151). -/
theorem State.resyncPort_retrains {row : Nat} (hf : (s.portN p).st.framed = true)
    (hr : ((s.portN p).resyncs.filter fun k => decide (s.time.ticks - k < ticksPerSec)).length < 2) :
    ((s.resyncPort p row).portN p).st = .train ∧ ((s.resyncPort p row).portN p).epoch = (s.portN p).epoch + 1 := by
  unfold State.resyncPort
  extract_lets q recent u
  have hkeep : ((u.logEvent 0x0305 p row).portN p).epoch = (s.portN p).epoch := by
    rw [(State.logEvent_only _ _ _ _).portN (by decide), State.portN_updPort_same]
    rfl
  obtain ⟨hst, hepoch⟩ := (u.logEvent 0x0305 p row).enterSt_link p .train 0
  rw [if_neg (by simp [q, hf]), if_neg (not_le.2 hr), ← hkeep]
  exact ⟨hst, hepoch⟩

end

/-! ### Withheld heads -/

section
variable {s : State} {p : Nat}

theorem State.ceaseHead_only (s : State) (p : Nat) : Only [.port, .lines, .fire] s (s.ceaseHead p).1 := by
  have h1 := fun sent : List Line => Only.foldl (g := fun (t : State) (l : Line) => t.ceasePort false l.handle l.line p)
    (fun t l => t.ceasePort_only false l.handle l.line p) sent s
  exact ((h1 _).step (State.pruneLines_only _)).mono (by decide)

theorem State.ceaseHead_core (k : Nat) : ((s.ceaseHead p).1.portN k).core = (s.portN k).core := by
  have h1 : ∀ t : State, t.pruneLines.portN k = t.portN k := fun t => t.pruneLines_only.portN (by decide) k
  exact (congrArg Port.core (h1 _)).trans
    (foldl_keep (fun t : State => (t.portN k).core) _ (fun t (l : Line) => t.ceasePort_core false l.handle l.line p k) _ s)

/-- Withholding a head: its sent lines cease, their pages are marked, and the port shows why. -/
theorem State.withhold_steps (s : State) (p : Nat) (why : Withheld) (mark : Nat) : ∃ u : State,
    Only [.pages, .reports, .fire] (s.ceaseHead p).1 u ∧
      s.withhold p why mark = (u.updPort p fun q => { q with withheld := why }).rehide := by
  unfold State.withhold
  extract_lets r s1
  refine ⟨s1, .foldl (fun t pg => ?_) _ _, rfl⟩
  split
  · exact .refl t
  · exact t.markPage_only _ _ _ _

/-- What withholding a head touches. -/
def withholdParts : List Part := [.port, .lines, .fire, .pages, .reports, .log, .alert]

theorem State.withhold_only (s : State) (p : Nat) (why : Withheld) (mark : Nat) : Only withholdParts s (s.withhold p why mark) := by
  obtain ⟨u, hu, e⟩ := s.withhold_steps p why mark
  rw [e]
  exact ((((s.ceaseHead_only p).step hu).step (u.updPort_only p _)).step (State.rehide_only _)).mono (by decide)

theorem State.withhold_core (why : Withheld) (mark : Nat) :
    ((s.withhold p why mark).portN p).core = { (s.portN p).core with withheld := why } := by
  obtain ⟨u, hu, e⟩ := s.withhold_steps p why mark
  have hkeep : (u.portN p).core = (s.portN p).core :=
    (congrArg Port.core (hu.portN (by decide) p)).trans (State.ceaseHead_core p)
  rw [e, (State.rehide_only _).portN (by decide), State.portN_updPort_same, ← hkeep]
  rfl

/-- A cut head is withheld; more pages are marked and the cut is reported (R107). -/
theorem State.cutHead_tail (s : State) (p temp : Nat) :
    Only [.pages, .reports, .fire, .log, .alert] (s.withhold p .cut 9) (s.cutHead p temp) := by
  unfold State.cutHead
  extract_lets from_ s1 s2
  have h2 : Only [.pages, .reports, .fire] s1 s2 := .foldl (fun t x => .ite (t.markPage_only _ _ _ _) (.refl t)) _ _
  exact ((h2.step (s2.raise_only _ _)).step (State.headEvent_only _ _ _)).mono (by decide)

/-- Without telemetry a head that was not withheld is now, and the port counts as silent (R108). -/
theorem State.telemetryLost_cases (s : State) (p : Nat) : s.telemetryLost p = s ∨
    ∃ u, (u = s ∨ u = s.withhold p .telemetry 8) ∧ s.telemetryLost p = (u.updPort p fun q => { q with silent := true }).raise .fire 7 := by
  unfold State.telemetryLost
  extract_lets w u
  split
  · exact .inl rfl
  · refine .inr ⟨u, ?_, rfl⟩
    unfold u
    split
    · exact .inr rfl
    · exact .inl rfl

theorem State.telemetryLost_only (s : State) (p : Nat) : Only withholdParts s (s.telemetryLost p) := by
  obtain e | ⟨u, hu, e⟩ := s.telemetryLost_cases p
  · rw [e]; exact .refl s
  · have h1 : Only withholdParts s u := by
      obtain rfl | rfl := hu
      · exact .refl _
      · exact s.withhold_only _ _ _
    rw [e]
    exact ((h1.step (u.updPort_only p _)).step (State.raise_only _ _ _)).mono (by decide)

/-- The link itself goes on where telemetry is lost. -/
theorem State.telemetryLost_link (s : State) (p : Nat) : ((s.telemetryLost p).portN p).st = (s.portN p).st ∧
    ((s.telemetryLost p).portN p).epoch = (s.portN p).epoch ∧ ((s.telemetryLost p).portN p).resyncs = (s.portN p).resyncs := by
  obtain e | ⟨u, hu, e⟩ := s.telemetryLost_cases p
  · rw [e]; exact ⟨rfl, rfl, rfl⟩
  · have hlink : (u.portN p).st = (s.portN p).st ∧ (u.portN p).epoch = (s.portN p).epoch ∧
        (u.portN p).resyncs = (s.portN p).resyncs := by
      obtain rfl | rfl := hu
      · exact ⟨rfl, rfl, rfl⟩
      · have hw := State.withhold_core (s := s) (p := p) .telemetry 8
        exact ⟨(congrArg Port.st hw :), (congrArg Port.epoch hw :), (congrArg Port.resyncs hw :)⟩
    rw [e, (State.raise_only _ _ _).portN (by decide), State.portN_updPort_same]
    exact hlink

end
end Sys2Proof.Machine

namespace Sys2Proof.Machine

/-! ## STATUS frames

A STATUS frame goes through its port's counters, the head's temperature, errors that may resync the port and the link states that it
may move on. `Port.Told` is what the frame told, which none of these steps takes back. -/

/-- The port shows what a STATUS frame told, and hears its head. -/
def Port.Told (f : StatusFrame) (q : Port) : Prop :=
  q.prev = some f ∧ q.eyeHead = f.eye ∧ q.timeLock = f.flags.getLsbD 2 ∧ q.bank = f.flags.getLsbD 3 ∧ q.rxIdle = false

section
variable {s : State} {p : Nat} {f : StatusFrame}

/-- What moves a port's frames alone leaves what it was told. -/
theorem Port.Told.of_core {q q' : Port} (h : q.Told f) (e : q'.core = q.core) : q'.Told f := by
  obtain ⟨hprev, heye, hlock, hbank, hidle⟩ := h
  exact ⟨(congrArg Port.prev e :).trans hprev, (congrArg Port.eyeHead e :).trans heye, (congrArg Port.timeLock e :).trans hlock,
    (congrArg Port.bank e :).trans hbank, (congrArg Port.rxIdle e :).trans hidle⟩

theorem Port.Told.enter {q : Port} (h : q.Told f) (st : LinkSt) (cause : Nat) : (q.enter st cause).Told f := by
  have hold : (if q.st.writes && !st.writes then q.holdWrites else q).Told f := by split <;> exact h
  obtain ⟨hprev, heye, hlock, hbank, hidle⟩ := hold
  cases st
  case discover | load | up => exact ⟨hprev, heye, hlock, hbank, hidle⟩
  all_goals exact ⟨hprev, heye, hlock, hbank, rfl⟩

theorem State.told_of_only {t : State} {ps : List Part} (h : (s.portN p).Told f) (ho : Only ps s t) (hp : .port ∉ ps) :
    (t.portN p).Told f := by rw [ho.portN hp]; exact h

theorem State.told_updPort {g : Port → Port} (hg : (g (s.portN p)).Told f) : ((s.updPort p g).portN p).Told f := by
  rw [State.portN_updPort_same]; exact hg

theorem State.told_enterSt (h : (s.portN p).Told f) (st : LinkSt) (cause : Nat) : ((s.enterSt p st cause).portN p).Told f := by
  obtain ⟨q, hq, he⟩ := s.enterSt_enter p st cause
  exact ((h.of_core hq).enter st cause).of_core he

theorem State.told_resyncPort (h : (s.portN p).Told f) (row : Nat) : ((s.resyncPort p row).portN p).Told f := by
  unfold State.resyncPort
  extract_lets q recent u
  have hu : (u.portN p).Told f := State.told_updPort h
  split
  · exact h
  · split
    · exact State.told_enterSt h _ _
    · exact State.told_enterSt (State.told_of_only hu (u.logEvent_only _ _ _) (by decide)) _ _

/-- A port that counts is told no less. -/
theorem State.told_countPort (h : (s.portN p).Told f) (k n : Nat) : ((s.countPort p k n).portN p).Told f := by
  unfold State.countPort
  split
  · exact h
  · exact State.told_updPort h

/-! ### The steps of a STATUS frame -/

/-- What the steps of a STATUS frame touch: no store, no calibration, no geometry. -/
def statusParts : List Part :=
  [.port, .lines, .fire, .pages, .reports, .log, .alert, .health, .loop, .speedLimit, .twin]

theorem State.countPort_only (s : State) (p k n : Nat) : Only [.port] s (s.countPort p k n) := .ite (.refl s) (s.updPort_only p _)

theorem State.missedLines_spec (b : StatusFrame) (h : (s.portN p).Told f) :
    Only statusParts s (s.missedLines p f b) ∧ ((s.missedLines p f b).portN p).Told f := by
  unfold State.missedLines
  extract_lets q n
  split
  case h_1 => exact ⟨.refl s, h⟩
  case h_2 =>
    extract_lets due s1
    have h1 : Only [.port] s s1 := s.updPort_only p _
    have hs1 : (s1.portN p).Told f := State.told_updPort h
    split
    · exact ⟨h1.mono (by decide), hs1⟩
    · have hmarks := Only.foldl (g := fun (t : State) (a : BitVec 28 × Int) =>
          t.updPage (a.1.toNat / 2 ^ 20) (Page.markLate 2 (a.1.toNat % 2 ^ 20)))
        (fun t a => t.updPage_only _ (Page.markLate 2 (a.1.toNat % 2 ^ 20)) fun _ => rfl) due (s1.countPort p 9 (due.length - n))
      exact ⟨((h1.step (s1.countPort_only p _ _)).step hmarks).mono (by decide),
        State.told_of_only (State.told_countPort hs1 _ _) hmarks (by decide)⟩

theorem State.told_withhold (h : (s.portN p).Told f) (why : Withheld) (mark : Nat) : ((s.withhold p why mark).portN p).Told f := by
  have hcore := State.withhold_core (s := s) (p := p) why mark
  have hw : ({ s.portN p with withheld := why } : Port).Told f := h
  exact hw.of_core hcore

/-- Whatever a report's temperature comes to, the head is at most withheld or free again (R105–R108). -/
theorem State.thermalReport_spec (temp : BitVec 16) (cut : Bool) (h : (s.portN p).Told f) :
    Only statusParts s (s.thermalReport p temp cut) ∧ ((s.thermalReport p temp cut).portN p).Told f := by
  unfold State.thermalReport
  extract_lets t x s1 cut' w
  have h1 : Only statusParts s s1 := (s.updPort_only p _).mono (by decide)
  have hs1 : (s1.portN p).Told f := State.told_updPort h
  have hfree : Only [.port] s1 (s1.updPort p fun q => { q with withheld := .none }) ∧
      ((s1.updPort p fun q => { q with withheld := .none }).portN p).Told f := ⟨s1.updPort_only p _, State.told_updPort hs1⟩
  obtain ⟨hfree, hfreeTold⟩ := hfree
  split
  · split
    · exact ⟨h1, hs1⟩
    · have hcut := s1.cutHead_tail p temp.toNat
      exact ⟨h1.trans (((s1.withhold_only p .cut 9).step hcut).mono (by decide)),
        State.told_of_only (State.told_withhold hs1 _ _) hcut (by decide)⟩
  · split
    · exact ⟨h1, hs1⟩
    · split
      · split
        · exact ⟨h1, hs1⟩
        · have hraise := (s1.withhold p .stop 8).raise_only .fire 2
          exact ⟨h1.trans (((s1.withhold_only p .stop 8).step hraise).mono (by decide)),
            State.told_of_only (State.told_withhold hs1 _ _) hraise (by decide)⟩
      · split
        · exact ⟨h1.trans ((hfree.step (State.rehide_only _)).mono (by decide)),
            State.told_of_only hfreeTold (State.rehide_only _) (by decide)⟩
        · split
          · exact ⟨h1.trans ((s1.updPort_only p _).mono (by decide)), State.told_updPort hs1⟩
          · exact ⟨h1, hs1⟩

theorem State.linkErrors_spec (n : Nat) (h : (s.portN p).Told f) :
    Only statusParts s (s.linkErrors p n) ∧ ((s.linkErrors p n).portN p).Told f := by
  unfold State.linkErrors
  extract_lets s1
  have h1 : Only [.port] s s1 := s.updPort_only p _
  have hs1 : (s1.portN p).Told f := State.told_updPort h
  split
  · exact ⟨.refl s, h⟩
  · split
    · have h2 : ((s1.updPort p fun q => { q with errs := [] }).portN p).Told f := State.told_updPort hs1
      exact ⟨((h1.step (s1.updPort_only p _)).step (State.resyncPort_only _ _ _)).mono (by decide), State.told_resyncPort h2 _⟩
    · exact ⟨h1.mono (by decide), hs1⟩

theorem State.statusMoves_spec (h : (s.portN p).Told f) :
    Only statusParts s (s.statusMoves p f) ∧ ((s.statusMoves p f).portN p).Told f := by
  have stays : Only statusParts s s ∧ (s.portN p).Told f := ⟨.refl s, h⟩
  have enters : ∀ st, Only statusParts s (s.enterSt p st 0) ∧ ((s.enterSt p st 0).portN p).Told f :=
    fun st => ⟨(s.enterSt_only p st 0).mono (by decide), State.told_enterSt h st 0⟩
  unfold State.statusMoves
  extract_lets q lock
  split
  case h_1 =>
    split
    · exact stays
    · split
      · exact enters .load
      · split
        · exact enters .up
        · exact stays
  case h_2 =>
    split
    · exact enters .up
    · exact stays
  case h_3 => exact stays

/-- A STATUS frame stands in its port whatever it sets off. -/
theorem State.statusRx_spec (hf : (s.portN p).st.framed = true) :
    Only statusParts s (State.statusRx p f s) ∧ ((State.statusRx p f s).portN p).Told f := by
  unfold State.statusRx
  extract_lets q b lock s1 s2 s3 s4 s5
  rw [if_neg (by simp [q, hf])]
  have h1 : Only statusParts s s1 := (s.updPort_only p _).mono (by decide)
  have t1 : (s1.portN p).Told f := by
    rw [State.portN_updPort_same]
    exact ⟨rfl, rfl, rfl, rfl, rfl⟩
  obtain ⟨h2, t2⟩ := State.missedLines_spec b t1
  obtain ⟨h3, t3⟩ := State.thermalReport_spec f.temp (f.flags.getLsbD 0) t2
  obtain ⟨h4, t4⟩ := State.linkErrors_spec (diff16 f.crcErr b.crcErr + diff16 f.codeErr b.codeErr) t3
  have h5 : Only statusParts s4 s5 ∧ (s5.portN p).Told f := by
    unfold s5
    split
    · exact ⟨(s4.resyncPort_only p _).mono (by decide), State.told_resyncPort t4 _⟩
    · exact ⟨.refl s4, t4⟩
  obtain ⟨h5, t5⟩ := h5
  obtain ⟨h6, t6⟩ := State.statusMoves_spec t5
  exact ⟨((((h1.trans h2).trans h3).trans h4).trans h5).trans h6, t6⟩

theorem exec_rlStatusRx (ha : s.alive = true) (hf : (s.portN p).st.framed = true) :
    ∃ t, exec (.rlStatusRx p f) s = .next t ∧ (t.portN p).prev = some f ∧ (t.portN p).eyeHead = f.eye ∧
      (t.portN p).timeLock = f.flags.getLsbD 2 ∧ (t.portN p).bank = f.flags.getLsbD 3 ∧ (t.portN p).rxIdle = false ∧
      t.cal = s.cal ∧ t.nvm = s.nvm ∧ t.dram = s.dram ∧ t.pwr = s.pwr ∧ t.geo = s.geo := by
  obtain ⟨ho, hprev, heye, hlock, hbank, hidle⟩ := State.statusRx_spec (f := f) hf
  obtain ⟨pba, msi, hx⟩ := evt_sent ha ho (by decide)
  exact ⟨_, hx, hprev, heye, hlock, hbank, hidle, ho .cal (by decide), ho .nvm (by decide), ho .dram (by decide),
    ho .pwr (by decide), ho .geo (by decide)⟩

end
end Sys2Proof.Machine

namespace Sys2Proof.Machine

/-! ## What a port sends -/

section
variable {s : State} {p : Nat} {f : DownFrame}

/-- The frame `f` has left port `p`'s queue, and no other port has changed. -/
structure Sends (p : Nat) (f : DownFrame) (s t : State) : Prop where
  only : Only [.port, .lines] s t
  queue : (t.portN p).txQ = (s.portN p).txQ.erase f
  others : ∀ q, q ≠ p → t.portN q = s.portN q

theorem Sends.trans_updPort {t : State} (h : Sends p f s t) {g : Port → Port} (hg : (g (t.portN p)).txQ = (t.portN p).txQ) :
    Sends p f s (t.updPort p g) where
  only := (h.only.step (t.updPort_only p g)).mono (by decide)
  queue := by rw [State.portN_updPort_same, hg, h.queue]
  others q hq := (State.portN_updPort_ne _ _ _ _ hq).trans (h.others q hq)

theorem Sends.trans_updPortLine {t : State} (h : Sends p f s t) (k n : Nat) (g : PortLine → PortLine) :
    Sends p f s (t.updPortLine k n p g) where
  only := (h.only.step (t.updPortLine_only k n p g)).mono (by decide)
  queue := h.queue
  others := h.others

/-- A frame taken off its queue, by whatever else it changes in its port. -/
theorem Sends.of_updPort {g : Port → Port} (hg : (g (s.portN p)).txQ = (s.portN p).txQ.erase f) : Sends p f s (s.updPort p g) where
  only := (s.updPort_only p g).mono (by decide)
  queue := by rw [State.portN_updPort_same, hg]
  others _ hq := State.portN_updPort_ne _ _ _ _ hq

theorem Sends.putOnLane (out : DownFrame) : Sends p f s (s.putOnLane p f out) := .of_updPort rfl

/-- What a port on whose lane a frame has gone shows. -/
theorem State.putOnLane_portN (f out : DownFrame) :
    (s.putOnLane p f out).portN p = ({ s.portN p with txQ := (s.portN p).txQ.erase f }).emit p out :=
  State.portN_updPort_same _ _ _

/-- A line that is in time goes on the lane and awaits its fire time (R133, R147). -/
theorem State.sendLine_inTime {tag : BitVec 32} {t : Int} (hin : s.inTime p f t = true)
    (hl : s.line? (tag.toNat % 2 ^ 28 / 2 ^ 20) (tag.toNat % 2 ^ 28 % 2 ^ 20) ≠ none) : s.sendLine p f tag t =
      ((s.putOnLane p f f).updPortLine (tag.toNat % 2 ^ 28 / 2 ^ 20) (tag.toNat % 2 ^ 28 % 2 ^ 20) p
        fun x => { x with st := .sent }).updPort p fun q => { q with awaiting := q.awaiting ++ [(tag.setWidth 28, t)] } := by
  obtain ⟨l, hl⟩ := Option.ne_none_iff_exists'.1 hl
  simp only [State.sendLine, hl, hin, if_true]

/-- A line whose frame would end less than 10 µs before its fire time is not sent and is late (spec/01 R20, spec/02 R55). -/
theorem State.sendLine_late {tag : BitVec 32} {t : Int} {l : Line} (hin : s.inTime p f t = false)
    (hl : s.line? (tag.toNat % 2 ^ 28 / 2 ^ 20) (tag.toNat % 2 ^ 28 % 2 ^ 20) = some l) : s.sendLine p f tag t =
      (s.updPort p fun q => { q with txQ := q.txQ.erase f }).lateReleased l := by
  simp only [State.sendLine, hl, hin, Bool.false_eq_true, if_false]

/-- Every frame that starts leaves its queue; a line frame is one that is in time. -/
theorem State.sendFrame_sends (hline : ∀ tag fr ft, f = .fireLine tag fr ft → s.inTime p f ft = true ∧
      s.line? (tag.toNat % 2 ^ 28 / 2 ^ 20) (tag.toNat % 2 ^ 28 % 2 ^ 20) ≠ none) : Sends p f s (s.sendFrame p f) := by
  cases f with
  | fireLine tag fr ft =>
    obtain ⟨hin, hl⟩ := hline tag fr ft rfl
    rw [State.sendFrame, State.sendLine_inTime hin hl]
    exact ((Sends.putOnLane _).trans_updPortLine _ _ _).trans_updPort rfl
  | retime tag t rel =>
    unfold State.sendFrame
    dsimp only
    split
    · have herase : Sends p _ s (s.updPort p fun q => { q with txQ := q.txQ.erase (.retime tag t rel) }) := .of_updPort rfl
      exact herase.trans_updPort rfl
    · exact ((Sends.putOnLane _).trans_updPortLine _ _ _).trans_updPort rfl
  | cease tag _ => exact (Sends.putOnLane _).trans_updPortLine _ _ _
  | time seq _ =>
    exact
      { only := ((s.updPort_only p _).step ((s.stepAsym p).updPort_only p _)).mono (by decide)
        queue := by rw [State.sendFrame, State.putOnLane_portN, State.stepAsym, State.portN_updPort_same]; rfl
        others := fun q hq => (State.portN_updPort_ne _ _ _ _ hq).trans (State.portN_updPort_ne _ _ _ _ hq) }
  | echo seq _ => exact Sends.putOnLane _
  | ctrlWr _ _ _ _ | ctrlRd _ _ _ _ | measure _ _ | hello _ | trainBurst | skip => exact Sends.putOnLane _

/-- RIDGE_FRAME_TX of a port that carries frames starts the first of those that wait. -/
theorem exec_ridgeFrameTx_eq (hf : (s.portN p).st.framed = true) (hn : s.nextFrame p = some f) :
    exec (.ridgeFrameTx p) s = evt (State.sendFrame p f) s := by
  show done s (if s.alive then _ else s) = done s (if s.alive then _ else s)
  simp only [hf, if_true, hn]

/-- What sending touches, as a claim about the whole state. -/
theorem Only.eq_of_send {t : State} (ho : Only [.host, .port, .lines] s t) :
    t = { s with host := t.host, bat := t.bat, port := t.port } :=
  (ho.mono (qs := .host :: .alert :: .port :: battenParts) (by decide)).eq_patch

theorem exec_ridgeFrameTx (ha : s.alive = true) (hf : (s.portN p).st.framed = true) (hn : s.nextFrame p = some f)
    (hline : ∀ tag fr ft, f = .fireLine tag fr ft → s.inTime p f ft = true ∧
      s.line? (tag.toNat % 2 ^ 28 / 2 ^ 20) (tag.toNat % 2 ^ 28 % 2 ^ 20) ≠ none) :
    ∃ t, exec (.ridgeFrameTx p) s = .next t ∧ Safety.Quiet s t ∧ t = { s with host := t.host, bat := t.bat, port := t.port } ∧
      (t.portN p).txQ = (s.portN p).txQ.erase f ∧ (∀ q, q ≠ p → t.portN q = s.portN q) ∧
      (∀ tag fr ft, f = .fireLine tag fr ft → (t.portN p).lastTx = some f ∧ (t.portN p).idle = false ∧
        (t.portN p).awaiting = (s.portN p).awaiting ++ [(tag.setWidth 28, ft)]) ∧
      (f.rank = 4 → (t.portN p).lastTx = some f ∧ t.bat = s.bat) := by
  obtain ⟨ho, hqueue, hothers⟩ := State.sendFrame_sends hline
  obtain ⟨pba, msi, hx⟩ := evt_sent ha ho (by decide)
  refine ⟨_, (exec_ridgeFrameTx_eq hf hn).trans hx, ho.quiet pba msi (by decide), (ho.sent pba msi).eq_of_send, hqueue, hothers, ?_, ?_⟩
  · rintro tag fr ft rfl
    obtain ⟨hin, hl⟩ := hline tag fr ft rfl
    have hsent : (s.sendFrame p (.fireLine tag fr ft)).portN p = { (s.putOnLane p (.fireLine tag fr ft) (.fireLine tag fr ft)).portN p with
        awaiting := (s.portN p).awaiting ++ [(tag.setWidth 28, ft)] } := by
      rw [State.sendFrame, State.sendLine_inTime hin hl, State.portN_updPort_same, State.portN_updPortLine, State.putOnLane_portN]
      rfl
    rw [State.portN_sent, hsent, State.putOnLane_portN]
    exact ⟨rfl, rfl, rfl⟩
  · intro hr
    have hput : s.sendFrame p f = s.putOnLane p f f := by
      cases f with
      | ctrlWr _ _ _ _ | ctrlRd _ _ _ _ | measure _ _ => rfl
      | fireLine _ _ _ | retime _ _ _ | cease _ _ | time _ _ | echo _ _ | hello _ | trainBurst | skip => cases hr
    rw [State.portN_sent, hput, State.putOnLane_portN]
    exact ⟨rfl, rfl⟩

/-! ### Late lines -/

/-- A line that is late after its release ceases on every port and marks its page. -/
theorem State.lateReleased_steps (s : State) (l : Line) : ∃ u v : State, Only [.lines] s u ∧
    v = (l.port.foldl (fun t e => t.ceasePort false l.handle l.line e.1) u).pruneLines ∧
    s.lateReleased l = (v.updPage l.handle (Page.markLate (s.lateCauseOf l) l.line)).raise .place 5 :=
  ⟨_, _, .ite (.refl s) (s.updLine_only _ _ _), rfl, rfl⟩

theorem State.lateReleased_only (s : State) (l : Line) : Only [.port, .lines, .fire, .pages, .alert] s (s.lateReleased l) := by
  obtain ⟨u, v, hu, rfl, e⟩ := s.lateReleased_steps l
  have hcease := Only.foldl (g := fun t (e : Nat × PortLine) => t.ceasePort false l.handle l.line e.1)
    (fun t e => t.ceasePort_only false _ _ e.1) l.port u
  rw [e]
  exact ((((hu.step hcease).step (State.pruneLines_only _)).step
    (State.updPage_only _ _ (Page.markLate (s.lateCauseOf l) l.line) fun _ => rfl)).step (State.raise_only _ _ _)).mono (by decide)

/-- A late line takes frames off the ports' queues and no more. -/
theorem State.lateReleased_core (l : Line) (k : Nat) : ((s.lateReleased l).portN k).core = (s.portN k).core := by
  obtain ⟨u, v, hu, rfl, e⟩ := s.lateReleased_steps l
  have hcease := foldl_keep (fun t : State => (t.portN k).core) (fun t (e : Nat × PortLine) => t.ceasePort false l.handle l.line e.1)
    (fun t e => t.ceasePort_core false l.handle l.line e.1 k) l.port u
  have htail := ((State.pruneLines_only (l.port.foldl (fun t e => t.ceasePort false l.handle l.line e.1) u)).step
    (State.updPage_only _ l.handle (Page.markLate (s.lateCauseOf l) l.line) fun _ => rfl)).step (State.raise_only _ .place 5)
  rw [e, htail.portN (by decide), ← hu.portN (by decide) k]
  exact hcease

/-- What a late line touches, as a claim about the whole state. -/
theorem Only.eq_of_late {t : State} (ho : Only [.host, .port, .lines, .fire, .pages, .alert] s t) :
    t = { s with host := t.host, bat := t.bat, fire := t.fire, port := t.port } :=
  (ho.mono (qs := .host :: .alert :: .fire :: .port :: battenParts) (by decide)).eq_patch

theorem exec_ridgeFrameTx_late {tag : BitVec 32} {fr : FireLine} {ft : Int} {l : Line} (ha : s.alive = true)
    (hf : (s.portN p).st.framed = true) (hn : s.nextFrame p = some (.fireLine tag fr ft))
    (hin : s.inTime p (.fireLine tag fr ft) ft = false)
    (hl : s.line? (tag.toNat % 2 ^ 28 / 2 ^ 20) (tag.toNat % 2 ^ 28 % 2 ^ 20) = some l) :
    ∃ t, exec (.ridgeFrameTx p) s = .next t ∧ Safety.Raised .place 5 t ∧ (t.portN p).lastTx = (s.portN p).lastTx ∧
      t = { s with host := t.host, bat := t.bat, fire := t.fire, port := t.port } := by
  have hlate : s.sendFrame p (.fireLine tag fr ft) =
      (s.updPort p fun q => { q with txQ := q.txQ.erase (.fireLine tag fr ft) }).lateReleased l := State.sendLine_late hin hl
  have ho : Only [.port, .lines, .fire, .pages, .alert] s (s.sendFrame p (.fireLine tag fr ft)) := by
    rw [hlate]; exact ((s.updPort_only p _).step (State.lateReleased_only _ _)).mono (by decide)
  have hcore : ((s.sendFrame p (.fireLine tag fr ft)).portN p).core = (s.portN p).core := by
    rw [hlate]; exact (State.lateReleased_core l p).trans (s.updPort_core p p)
  have hraised : Safety.Raised .place 5 (s.sendFrame p (.fireLine tag fr ft)) := by
    obtain ⟨u, v, -, -, e⟩ := State.lateReleased_steps (s.updPort p fun q => { q with txQ := q.txQ.erase (.fireLine tag fr ft) }) l
    rw [hlate, e]
    exact State.raised_raise (by decide)
  obtain ⟨pba, msi, hx⟩ := evt_sent ha ho (by decide)
  exact ⟨_, (exec_ridgeFrameTx_eq hf hn).trans hx, hraised, (congrArg Port.lastTx hcore :), (ho.sent pba msi).eq_of_late⟩

end
end Sys2Proof.Machine

namespace Sys2Proof.Machine

/-! ## The other frames of a port -/

section
variable {s : State} {p : Nat}

/-- An event of the powered chip that is one change of one port. -/
theorem evt_updPort {f : State → State} {g : Port → Port} (ha : s.alive = true) (hf : f s = s.updPort p g) :
    ∃ t, evt f s = .next t ∧ Safety.Quiet s t ∧ t = { s with host := t.host, port := t.port } ∧ t.portN p = g (s.portN p) ∧
      ∀ q, q ≠ p → t.portN q = s.portN q := by
  obtain ⟨t, hx, hquiet, ht, hport⟩ := evt_port ha (hf ▸ s.updPort_only p g)
  rw [hf] at hport
  exact ⟨t, hx, hquiet, ht, (hport p).trans (State.portN_updPort_same _ _ _),
    fun q hq => (hport q).trans (State.portN_updPort_ne _ _ _ _ hq)⟩

theorem LinkSt.framed_of_up_load {st : LinkSt} (h : st = .up ∨ st = .load) : st.framed = true ∧ st ≠ .discover := by
  obtain rfl | rfl := h <;> exact ⟨rfl, by decide⟩

/-! ### HELLO, responses and timeouts -/

/-- A HELLO outside DISCOVER (R140). -/
theorem State.helloRx_met {f : HelloUp} (hf : (s.portN p).st.framed = true) (hd : (s.portN p).st ≠ .discover) :
    s.helloRx p f = s.updPort p fun q => { q with
      prev := if f.flags.getLsbD 1 || (s.portN p).headSerial != some f.serial then none else q.prev,
      headNozzles := some f.nozzles.toNat, headSerial := some f.serial, rxIdle := false } := by
  simp [State.helloRx, hf, hd]

theorem exec_rlHelloRx {f : HelloUp} (ha : s.alive = true) (hst : (s.portN p).st = .up ∨ (s.portN p).st = .load) :
    ∃ t, exec (.rlHelloRx p f) s = .next t ∧ Safety.Quiet s t ∧ t = { s with host := t.host, port := t.port } ∧
      (∀ q, q ≠ p → t.portN q = s.portN q) ∧ (t.portN p).headSerial = some f.serial ∧
      (t.portN p).headNozzles = some f.nozzles.toNat ∧ (t.portN p).st = (s.portN p).st := by
  obtain ⟨hf, hd⟩ := LinkSt.framed_of_up_load hst
  obtain ⟨t, hx, hquiet, ht, hown, hothers⟩ := evt_updPort (f := State.helloRx p f) ha (State.helloRx_met hf hd)
  exact ⟨t, hx, hquiet, ht, hothers, by rw [hown], by rw [hown], by rw [hown]⟩

/-- A RESULT of 0 closes the open control frame of a port that queues none (R134). -/
theorem exec_rlCtrlRespRx {o : CtrlOut} {d : List Byte} (ha : s.alive = true) (hh : s.twin.handing = false)
    (hf : (s.portN p).st.framed = true) (hout : (s.portN p).ctrlOut = some o) (hq : (s.portN p).ctrlQ = []) :
    ∃ t, exec (.rlCtrlRespRx p o.seq 0 d) s = .next t ∧ Safety.Quiet s t ∧ t = { s with host := t.host, port := t.port } ∧
      t.portN p = { s.portN p with ctrlOut := none, rxIdle := false } ∧ ∀ q, q ≠ p → t.portN q = s.portN q := by
  have hresp : s.ctrlResp p o.seq 0 = s.updPort p fun q => { q with ctrlOut := none } :=
    (State.ctrlResp_ok hh hf hout).trans (State.updPort_congr (Port.pump_of_empty (q := { s.portN p with ctrlOut := none }) hq))
  have ho : Only [.port] s ((s.ctrlResp p o.seq 0).heard p) := by
    rw [hresp]; exact ((s.updPort_only p _).step (State.heard_only p)).mono (by decide)
  obtain ⟨t, hx, hquiet, ht, hport⟩ := evt_port (f := fun s => (s.ctrlResp p o.seq 0).heard p) ha ho
  have hown : (s.ctrlResp p o.seq 0).portN p = { s.portN p with ctrlOut := none } := by rw [hresp, State.portN_updPort_same]
  refine ⟨t, hx, hquiet, ht, ?_, fun q hne => ?_⟩
  · rw [hport, State.heard_portN_framed (by rw [hown]; exact hf), hown]
  · rw [hport, State.heard_portN_ne hne, hresp, State.portN_updPort_ne _ _ _ _ hne]

theorem Port.count_cnt (k : Nat) (q : Port) : (q.count k 1).cnt.get 0 k = q.cnt.get 0 k + 1 :=
  SMap.get_upd_same 0 q.cnt k (· + BitVec.ofNat 32 1)

/-- A counter that moves by one. -/
theorem State.countPort_one (k : Nat) : s.countPort p k 1 = s.updPort p (Port.count k 1) := if_neg Nat.one_ne_zero

/-- The frame repeated, its retries one fewer. -/
theorem exec_ctrlTimeout {o : CtrlOut} (ha : s.alive = true) (hf : (s.portN p).st.framed = true)
    (hout : (s.portN p).ctrlOut = some o) (hr : o.retriesLeft ≠ 0) :
    ∃ t, exec (.ctrlTimeout p) s = .next t ∧ Safety.Quiet s t ∧ t = { s with host := t.host, port := t.port } ∧
      (t.portN p).ctrlOut = some { o with retriesLeft := o.retriesLeft - 1 } ∧ (t.portN p).txQ = (s.portN p).txQ ++ o.again ∧
      (t.portN p).cnt.get 0 3 = (s.portN p).cnt.get 0 3 + 1 ∧ ∀ q, q ≠ p → t.portN q = s.portN q := by
  have hagain : s.ctrlTimeout p = (s.updPort p fun q => { q with
      ctrlOut := some { o with retriesLeft := o.retriesLeft - 1 }, txQ := q.txQ ++ o.again }).updPort p (Port.count 3 1) := by
    simp [State.ctrlTimeout, hout, hf, hr, State.countPort_one]
  have ho : Only [.port] s (s.ctrlTimeout p) := by
    rw [hagain]; exact ((s.updPort_only p _).step (State.updPort_only _ p _)).mono (by decide)
  obtain ⟨t, hx, hquiet, ht, hport⟩ := evt_port (f := State.ctrlTimeout p) ha ho
  have hown : t.portN p = Port.count 3 1 { s.portN p with
      ctrlOut := some { o with retriesLeft := o.retriesLeft - 1 }, txQ := (s.portN p).txQ ++ o.again } := by
    rw [hport, hagain, State.portN_updPort_same, State.portN_updPort_same]
  refine ⟨t, hx, hquiet, ht, by rw [hown]; rfl, by rw [hown]; rfl, by rw [hown, Port.count_cnt], fun q hne => ?_⟩
  rw [hport, hagain, State.portN_updPort_ne _ _ _ _ hne, State.portN_updPort_ne _ _ _ _ hne]

/-! ### Echo and time -/

theorem exec_echoSend (ha : s.alive = true) (hst : (s.portN p).st = .up ∨ (s.portN p).st = .load ∧ s.supervises = true) :
    ∃ t, exec (.echoSend p) s = .next t ∧ Safety.Quiet s t ∧ t = { s with host := t.host, port := t.port } ∧
      t.portN p = { s.portN p with
        txQ := (s.portN p).txQ ++ [.echo (s.portN p).echoSeq 0], echoSeq := (s.portN p).echoSeq + 1 } ∧
      ∀ q, q ≠ p → t.portN q = s.portN q := by
  have hsends : ((s.portN p).st == .up || ((s.portN p).st == .load && s.supervises)) = true := by
    obtain hup | ⟨hload, hsup⟩ := hst
    · simp [hup]
    · simp [hload, hsup]
  exact evt_updPort (f := fun s => if (s.portN p).st == .up || ((s.portN p).st == .load && s.supervises) then
      s.updPort p fun q => { q with txQ := q.txQ ++ [.echo q.echoSeq 0], echoSeq := q.echoSeq + 1 }
    else s) ha (if_pos hsends)

theorem exec_timeSend (ha : s.alive = true) (hst : (s.portN p).st.writes = true) :
    ∃ t, exec (.timeSend p) s = .next t ∧ Safety.Quiet s t ∧ t = { s with host := t.host, port := t.port } ∧
      t.portN p = { s.portN p with
        txQ := (s.portN p).txQ ++ [.time (s.portN p).timeSeq 0], timeSeq := (s.portN p).timeSeq + 1 } ∧
      ∀ q, q ≠ p → t.portN q = s.portN q := by
  have hsends : ((s.portN p).st.writes || ((s.portN p).st == .discover && (s.portN p).echoed)) = true := by simp [hst]
  exact evt_updPort (f := fun s =>
    let q := s.portN p
    if q.st.writes || (q.st == .discover && q.echoed) then
      s.updPort p fun q => { q with txQ := q.txQ ++ [.time q.timeSeq 0], timeSeq := q.timeSeq + 1 }
    else s) ha (if_pos hsends)

/-- A value of D is an outlier (R148). -/
def Port.outlier (q : Port) (d : Int) : Prop := 512000 < d ∨ (q.dVals ≠ [] ∧ 5120 < (d - medianInt q.dVals).natAbs)

/-- A value of D changes its port alone: it joins the last eight, or counts as an outlier. -/
theorem State.echoResp_eq {t1 t2 t3 : BitVec 48} {d : Int} (hw : (s.portN p).st.writes = true)
    (hd : d = echoDelay t1 t2 t3 (ridgeTime s.now256)) :
    ((s.portN p).outlier d → s.echoResp p t1 t2 t3 = s.updPort p (Port.count 6 1)) ∧
      (¬ (s.portN p).outlier d → s.echoResp p t1 t2 t3 = s.updPort p fun q => { q with dVals := (d :: q.dVals).take 8 }) := by
  have hecho : s.echoResp p t1 t2 t3 = if 512000 < d ∨ (s.portN p).dVals ≠ [] ∧ 5120 < (d - medianInt (s.portN p).dVals).natAbs then
      s.countPort p 6 1 else s.updPort p fun q => { q with dVals := (d :: q.dVals).take 8 } := by
    simp only [State.echoResp, hw, ← hd, Bool.not_true, Bool.false_eq_true, if_false, Int.reduceMul, Nat.reduceMul]
  exact ⟨fun hout => hecho.trans ((if_pos hout).trans (State.countPort_one 6)), fun hin => hecho.trans (if_neg hin)⟩

theorem exec_echoRespRx {t1 t2 t3 : BitVec 48} {d : Int} (ha : s.alive = true) (hw : (s.portN p).st.writes = true)
    (hd : d = echoDelay t1 t2 t3 (ridgeTime s.now256)) :
    ∃ t, exec (.echoRespRx p t1 t2 t3) s = .next t ∧ Safety.Quiet s t ∧ t = { s with host := t.host, port := t.port } ∧
      (∀ q, q ≠ p → t.portN q = s.portN q) ∧
      (d ≤ 512000 ∧ ((s.portN p).dVals = [] ∨ (d - medianInt (s.portN p).dVals).natAbs ≤ 5120) →
        (t.portN p).dVals = (d :: (s.portN p).dVals).take 8) ∧
      (512000 < d → (t.portN p).dVals = (s.portN p).dVals ∧ (t.portN p).cnt.get 0 6 = (s.portN p).cnt.get 0 6 + 1) := by
  obtain ⟨hout, hin⟩ := State.echoResp_eq hw hd
  have hone : ∃ g, s.echoResp p t1 t2 t3 = s.updPort p g := by
    by_cases h : (s.portN p).outlier d
    · exact ⟨_, hout h⟩
    · exact ⟨_, hin h⟩
  obtain ⟨g, hg⟩ := hone
  have ho : Only [.port] s ((s.echoResp p t1 t2 t3).heard p) := by
    rw [hg]; exact ((s.updPort_only p _).step (State.heard_only p)).mono (by decide)
  obtain ⟨t, hx, hquiet, ht, hport⟩ := evt_port (f := fun s => (s.echoResp p t1 t2 t3).heard p) ha ho
  have hown : ∀ {g : Port → Port}, s.echoResp p t1 t2 t3 = s.updPort p g →
      (t.portN p).dVals = (g (s.portN p)).dVals ∧ (t.portN p).cnt = (g (s.portN p)).cnt := fun {g} e => by
    rw [hport, State.heard_portN_same, e, State.portN_updPort_same]
    exact ⟨rfl, rfl⟩
  refine ⟨t, hx, hquiet, ht, fun q hne => ?_, fun hnear => ?_, fun hfar => ?_⟩
  · rw [hport, State.heard_portN_ne hne, hg, State.portN_updPort_ne _ _ _ _ hne]
  · obtain ⟨hd8, hmed⟩ := hnear
    have hno : ¬ (s.portN p).outlier d := fun h => h.elim (not_lt.2 hd8) fun ⟨hne, hfar⟩ =>
      hmed.elim hne (not_le.2 hfar)
    exact (hown (hin hno)).1
  · obtain ⟨hdv, hcnt⟩ := hown (hout (.inl hfar))
    exact ⟨hdv, by rw [hcnt, Port.count_cnt]⟩

/-! ### Faulty frames -/

theorem exec_rlBadFrame_port {f : RawFrame} (ha : s.alive = true) (hf : (s.portN p).st.framed = true)
    (hidle : (s.portN p).rxIdle = false) (he : RawFrame.fault true f = some .frameErr) :
    ∃ t, exec (.rlBadFrame p ⟨none, f⟩) s = .next t ∧ Safety.Quiet s t ∧ t = { s with host := t.host, port := t.port } ∧
      t.portN p = Port.count 2 1 (s.portN p) ∧ ∀ q, q ≠ p → t.portN q = s.portN q := by
  have hbad : s.badFrame p none f = s.updPort p (Port.count 2 1) := by
    simp [State.badFrame, he, ha, State.portFault, hf, hidle, State.countPort_one]
  obtain ⟨t, hx, hrest⟩ := evt_updPort (f := State.badFrame p none f) ha hbad
  exact ⟨t, (congrArg (done s) (if_pos ha)).symm.trans hx, hrest⟩

theorem exec_rlBadFrame_head {u : Nat} {f : RawFrame} (hu : s.uportUsed u = true) (hst : ((s.headN p).upN u).st = .linked)
    (hidle : u = s.ownUport → (s.portN p).idle = false) (he : RawFrame.fault false f = some .crcErr) :
    ∃ t, exec (.rlBadFrame p ⟨some u, f⟩) s = .next t ∧ Safety.Quiet s t ∧ t = { s with host := t.host, head := t.head } ∧
      t.headN p = (s.headN p).updUp u (fun x => { x with crcErr := x.crcErr + 1 }) ∧ ∀ q, q ≠ p → t.headN q = s.headN q := by
  have hhears : (!s.uportUsed u || ((s.headN p).upN u).st == .detect || (u == s.ownUport && (s.portN p).idle)) = false := by
    by_cases hown : u = s.ownUport
    · simp [hu, hst, hidle hown]
    · simp [hu, hst, hown]
  have hbad : s.badFrame p (some u) f = s.updHead p fun x => x.updUp u fun q => { q with crcErr := q.crcErr + 1 } := by
    simp [State.badFrame, he, State.headFault, hhears]
  obtain ⟨t, hx, hquiet, ht, hothers, hown⟩ :=
    done_head (s := s) (h := p) fun x => x.updUp u fun q => { q with crcErr := q.crcErr + 1 }
  exact ⟨t, (congrArg (done s) hbad).trans hx, hquiet, ht, hown, hothers⟩

/-! ### Temperature and silence -/

theorem exec_throttleDecay {x : Int} (ha : s.alive = true) (hp : p < 48) (hx : (s.portN p).report = some x)
    (hcool : x < (s.cal.data.thermal.get {} p).tWarn - (s.cal.data.thermal.get {} p).hyst) :
    ∃ t, exec (.throttleDecay p) s = .next t ∧ Safety.Quiet s t ∧ t = { s with host := t.host, port := t.port } ∧
      t.portN p = { s.portN p with throttle := (s.portN p).throttle - 1 } ∧ ∀ q, q ≠ p → t.portN q = s.portN q := by
  have hdecay : s.throttleDecay p = s.updPort p fun q => { q with throttle := q.throttle - 1 } := by
    simp [State.throttleDecay, hx, isPort, hp, hcool]
  exact evt_updPort (f := State.throttleDecay p) ha hdecay

/-- An event that raises alerts and touches nothing else of the host interface. -/
theorem Only.alerted {t : State} {ps : List Part} (h : Only ps s t) (pba : BitVec 64) (msi : SMap Nat) (hn : .host ∉ ps) :
    Safety.Alerted s (t.sent pba msi) :=
  ⟨t.host.alert, pba, msi, by rw [State.sent, h.host_eq hn]⟩

/-- What withholding a head may touch, as a claim about the whole state. -/
theorem Only.eq_of_withhold {t : State} (ho : Only (.host :: withholdParts) s t) :
    t = { s with host := t.host, bat := t.bat, fire := t.fire, log := t.log, port := t.port } :=
  (ho.mono (qs := .host :: .alert :: .fire :: .log :: .port :: battenParts) (by decide)).eq_patch

theorem exec_telemetryTimeout (ha : s.alive = true) (hp : p < 48) (hst : (s.portN p).st = .up) (hw : (s.portN p).withheld = .none)
    (hs : (s.portN p).silent = false) :
    ∃ t, exec (.telemetryTimeout p) s = .next t ∧ Safety.Alerted s t ∧ Safety.Raised .fire 7 t ∧ (t.portN p).withheld = .telemetry ∧
      (t.portN p).silent = true ∧ t = { s with host := t.host, bat := t.bat, fire := t.fire, log := t.log, port := t.port } := by
  have hlost : s.telemetryLost p = ((s.withhold p .telemetry 8).updPort p fun q => { q with silent := true }).raise .fire 7 := by
    simp [State.telemetryLost, hst, hw, hs]
  have hexec : exec (.telemetryTimeout p) s = evt (State.telemetryLost p) s := by
    show done s (if s.alive then (if isPort p then _ else s) else s) = _
    rw [isPort, decide_eq_true hp, if_pos rfl, evt]
  have hown : (s.telemetryLost p).portN p = { (s.withhold p .telemetry 8).portN p with silent := true } := by
    rw [hlost, (State.raise_only _ _ _).portN (by decide), State.portN_updPort_same]
  have hwhy : ((s.withhold p .telemetry 8).portN p).withheld = .telemetry := (congrArg Port.withheld (State.withhold_core .telemetry 8) :)
  have hraised : Safety.Raised .fire 7 (s.telemetryLost p) := by rw [hlost]; exact State.raised_raise (by decide)
  have ho := s.telemetryLost_only p
  obtain ⟨pba, msi, hx⟩ := evt_sent ha ho (by decide)
  refine ⟨_, hexec.trans hx, ho.alerted pba msi (by decide), hraised, ?_, ?_, (ho.sent pba msi).eq_of_withhold⟩
  · rw [State.portN_sent, hown]; exact hwhy
  · rw [State.portN_sent, hown]

/-- A port that hears no frame for 1 ms retrains (R151), whatever becomes of its head's temperature (R108). -/
theorem exec_upstreamSilent (ha : s.alive = true) (hp : p < 48) (hf : (s.portN p).st.framed = true)
    (hr : ((s.portN p).resyncs.filter fun k => decide (s.time.ticks - k < ticksPerSec)).length < 2) :
    ∃ t, exec (.upstreamSilent p) s = .next t ∧ (t.portN p).st = .train ∧ (t.portN p).epoch = (s.portN p).epoch + 1 := by
  have hexec : exec (.upstreamSilent p) s = evt (fun s => (s.telemetryLost p).resyncPort p rowSilent) s := by
    show done s (if s.alive then (if isPort p then _ else s) else s) = _
    rw [isPort, decide_eq_true hp, if_pos rfl, evt]
  have hlost := s.telemetryLost_only p
  have htime : (s.telemetryLost p).time = s.time := hlost .time (by decide)
  obtain ⟨hst, hepoch, hres⟩ := s.telemetryLost_link p
  obtain ⟨htrain, hnext⟩ := State.resyncPort_retrains (s := s.telemetryLost p) (row := rowSilent) (by rw [hst]; exact hf)
    (by rw [hres, htime]; exact hr)
  obtain ⟨pba, msi, hx⟩ := evt_sent (f := fun s => (s.telemetryLost p).resyncPort p rowSilent) ha
    (hlost.step (State.resyncPort_only _ p rowSilent)) (by decide)
  exact ⟨_, hexec.trans hx, htrain, hnext.trans (by rw [hepoch])⟩

end

/-- Settles O43: each frame of a port by what it leaves of the port; a line that is late, a STATUS and lost telemetry by what they touch
besides. -/
theorem ridgeFramesMove : Obligations.RidgeFramesMove :=
  ⟨fun _ _ _ ha hf hn hline => exec_ridgeFrameTx ha hf hn hline,
   fun _ _ _ _ _ _ ha hf hn hin hl => exec_ridgeFrameTx_late ha hf hn hin hl,
   fun _ _ _ ha hst => exec_rlHelloRx ha hst,
   fun _ _ _ _ ha hh hf hout hq => exec_rlCtrlRespRx ha hh hf hout hq,
   fun _ _ _ ha hf hout hr => exec_ctrlTimeout ha hf hout hr,
   fun _ _ ha hst => exec_echoSend ha hst,
   fun _ _ _ _ _ _ ha hw hd => exec_echoRespRx ha hw hd,
   fun _ _ ha hst => exec_timeSend ha hst,
   fun _ _ _ ha hf hidle he => exec_rlBadFrame_port ha hf hidle he,
   fun _ _ _ _ hu hst hidle he => exec_rlBadFrame_head hu hst hidle he,
   fun _ _ _ ha hf => exec_rlStatusRx ha hf,
   fun _ _ _ ha hp hx hcool => exec_throttleDecay ha hp hx hcool,
   fun _ _ ha hp hst hw hs => exec_telemetryTimeout ha hp hst hw hs,
   fun _ _ ha hp hf hr => exec_upstreamSilent ha hp hf hr⟩

end Sys2Proof.Machine

namespace Sys2Proof.Machine

section
variable {s u : State} {c : MbCheck} {h : MbHdr} {i : Instr} {body : State → Answer} {p : List Byte} {ps : List Part} {st : Nat}

/-- A served command that completes at once and whose own rules raise no alert. -/
theorem mbCmd_done_answered (hs : Safety.served s h c.len = true) (hr : c.rsv = false) (hz : c.zero = false)
    (hg : c.gated (s.mbStart h) = false) (hb : body (s.mbStart h) = .done st p u) (hu : Only ps (s.mbStart h) u)
    (hn : (.host ∉ ps ∧ .pending ∉ ps ∧ .fuse ∉ ps) ∧ .alert ∉ ps) :
    ∃ t, mbCmd h i (mbServe c h body) s = .next t ∧ Safety.Answered h c.op st p s t ∧ Only (.host :: ps) s t ∧
      t = { u with host := t.host } := by
  obtain ⟨hnh, hna⟩ := hn
  obtain ⟨t, e, ha, hal, ho, ht⟩ := mbCmd_done_only (i := i) hs hr hz hg hb hu hnh
  have halert : u.host.alert = s.host.alert := hu .alert hna
  exact ⟨t, e, ⟨ha, hal.trans halert⟩, ho, ht⟩

end

/-! ## Entries of the page store and their binds

SLATE_OPEN, SLATE_BIND and SLATE_FREE change the page store alone; SLATE_FREE tells the RESERVE as well (R171, R174, R271). -/

section
variable (s : State)

theorem State.updStream_only (e j : Nat) (f : Stream → Stream) : Only [.slate] s (s.updStream e j f) := s.updSlate_only _

/-- A changed stream is one of its entry's. -/
theorem State.entry?_updStream {e : Nat} {en : Entry} (j : Nat) (f : Stream → Stream) (he : s.entry? e = some en) :
    (s.updStream e j f).entry? e = some { en with stream := SMap.upd {} en.stream j f } := by
  calc (s.updStream e j f).entry? e
      = (s.entry? e).map fun en => { en with stream := SMap.upd {} en.stream j f } := SMap.get_upd_same _ _ _ _
    _ = _ := by rw [he]; rfl

theorem State.bindStream_only (e j ch n : Nat) : Only [.slate] s (s.bindStream e j ch n) := by
  unfold State.bindStream
  exact ((s.moveChunks_only _ _ _ _ _).trans (State.updStream_only _ _ _ _)).trans (State.updSlate_only _ _)

/-- The bound stream waits for its bytes on the channel (R171). -/
theorem State.entry?_bindStream {e : Nat} {en : Entry} (j ch n : Nat) (he : s.entry? e = some en) :
    ∃ en', (s.bindStream e j ch n).entry? e = some en' ∧ SMap.get {} en'.stream j =
      { st := .receiving, channel := ch, declared := n, alloc := some (s.pairBase, s.pairs) } :=
  ⟨_, (s.moveChunks true s.pairBase s.pairs j (chunksOf n)).entry?_updStream j _ he, by rw [SMap.get_upd_same]⟩

/-- The new bind waits behind those of its channel. -/
theorem State.binds_bindStream (e j ch n : Nat) : SMap.get [] (s.bindStream e j ch n).slate.binds ch =
    SMap.get [] s.slate.binds ch ++ [{ entry := e, seg := j, bytesLeft := n }] := by
  simp only [State.bindStream, State.updSlate_slate, SMap.get_upd_same]
  rfl

/-- The checks of R181 pass for a stream of an open entry only. -/
theorem entry?_isSome_of_bindBad {s : State} {e n : Nat} {seg ch : Byte} (hb : bindBad e seg ch n s = none) :
    (s.entry? e).isSome = true := by
  by_contra hne
  have hnone : s.entry? e = none := by simpa using hne
  by_cases hn : n < 72 ∨ 0xFFFFFFF8 < n ∨ n % 8 ≠ 0
  · simp only [bindBad, if_pos hn, reduceCtorEq] at hb
  · cases hl : s.isLead <;> simp [bindBad, if_neg hn, hl, hnone] at hb

/-- A freed entry is gone. -/
theorem State.entry?_freeEntry (e : Nat) : (s.freeEntry e).entry? e = none := by
  unfold State.freeEntry
  split
  case h_1 he => exact he
  case h_2 => exact SMap.get_set_same (α := Option Entry) none _ e none

theorem State.entry?_freeMirrored (e : Nat) : (s.freeMirrored e).entry? e = none := by
  have hslate : (s.freeMirrored e).slate = (s.freeEntry e).slate := (s.freeEntry e).mirrorSend_only _ .slate (by decide)
  rw [State.entry?, hslate]
  exact s.entry?_freeEntry e

end

section
variable {s : State} {h : MbHdr}

theorem slateOpenBody_ok {seg flags : Byte} {lines : BitVec 32} {e : Nat} (hseg : seg.toNat ≤ 48) (hlines : lines.toNat ≤ 1048576)
    (hl : s.isLead = true) (he : s.freeEntryNo = some e) :
    slateOpenBody seg flags lines s = okWith (le 2 e ++ zeros 2 ++ le 4 s.freeChunks) (s.updSlate fun t => { t with
      entries := t.entries.set none e (some { segments := seg.toNat, lines := lines.toNat, autoFree := flags.getLsbD 0 }) }) := by
  have hrange : ¬ (48 < seg.toNat ∨ 1048576 < lines.toNat) := by omega
  simp [slateOpenBody, hrange, hl, he]

theorem exec_slateOpen {seg flags : Byte} {lines : BitVec 32} {e : Nat} (hs : Safety.served s h 8 = true) (hf : flags.toNat ≤ 1)
    (hseg : 1 ≤ seg.toNat ∧ seg.toNat ≤ 48) (hlines : 1 ≤ lines.toNat ∧ lines.toNat ≤ 1048576) (hl : s.isLead = true)
    (he : s.freeEntryNo = some e) :
    ∃ t, exec (.slateOpen h seg flags 0 lines) s = .next t ∧
      Safety.Answered h 0x0601 0 (le 2 e ++ zeros 2 ++ le 4 s.freeChunks) s t ∧
      t = { s with host := t.host, slate := { s.slate with
        entries := s.slate.entries.set none e
          (some { segments := seg.toNat, lines := lines.toNat, autoFree := flags.getLsbD 0 }) } } := by
  have hseg0 : seg ≠ 0 := by rintro rfl; simp at hseg
  have hlines0 : lines ≠ 0 := by rintro rfl; simp at hlines
  obtain ⟨t, hx, ha, -, ht⟩ := mbCmd_done_answered (i := .slateOpen h seg flags 0 lines)
    (c := { op := 0x0601, len := 8, rsv := 1 < flags.toNat || (0 : BitVec 16) != 0, zero := seg == 0 || lines == 0 })
    hs (by simp [hf]) (Bool.or_eq_false_iff.2 ⟨beq_eq_false_iff_ne.2 hseg0, beq_eq_false_iff_ne.2 hlines0⟩) rfl
    (slateOpenBody_ok (s := s.mbStart h) hseg.2 hlines.2 hl he) (State.updSlate_only _ _) (by decide)
  exact ⟨t, hx, ha, ht⟩

theorem exec_slateBind {e : BitVec 16} {seg ch : Byte} {n : BitVec 32} (hs : Safety.served s h 8 = true) (hn : n ≠ 0)
    (hb : bindBad e.toNat seg ch n.toNat s = none) :
    ∃ t en, exec (.slateBind h e seg ch n) s = .next t ∧ Safety.Answered h 0x0602 0 [] s t ∧
      t = { s with host := t.host, slate := t.slate } ∧ t.entry? e.toNat = some en ∧
      (en.stream.get {} seg.toNat).st = .receiving ∧ (en.stream.get {} seg.toNat).channel = ch.toNat ∧
      (en.stream.get {} seg.toNat).declared = n.toNat ∧
      SMap.get [] t.slate.binds ch.toNat =
        SMap.get [] s.slate.binds ch.toNat ++ [{ entry := e.toNat, seg := seg.toNat, bytesLeft := n.toNat }] := by
  obtain ⟨en, he⟩ := Option.isSome_iff_exists.1 (entry?_isSome_of_bindBad hb)
  have hbad : bindBad e.toNat seg ch n.toNat (s.mbStart h) = none := hb
  obtain ⟨t, hx, ha, ho, ht⟩ := mbCmd_done_answered (i := .slateBind h e seg ch n)
    (c := { op := 0x0602, len := 8, zero := n == 0 }) (body := slateBindBody e seg ch n) hs rfl (beq_eq_false_iff_ne.2 hn) rfl
    (by rw [slateBindBody, hbad]; rfl) (State.bindStream_only _ e.toNat seg.toNat ch.toNat n.toNat) (by decide)
  have hslate : t.slate = ((s.mbStart h).bindStream e.toNat seg.toNat ch.toNat n.toNat).slate := by rw [ht]
  obtain ⟨en', hentry, hstream⟩ := (s.mbStart h).entry?_bindStream seg.toNat ch.toNat n.toNat he
  refine ⟨t, en', hx, ha, (ho.mono (qs := [.host, .alert, .slate]) (by decide)).eq_patch, ?_, ?_, ?_, ?_, ?_⟩
  · rw [State.entry?, hslate]; exact hentry
  · rw [hstream]
  · rw [hstream]
  · rw [hstream]
  · rw [hslate]; exact (s.mbStart h).binds_bindStream _ _ _ _

/-- The first failing check of R181 is the answer. -/
theorem exec_slateBind_bad {e : BitVec 16} {seg ch : Byte} {n : BitVec 32} {c : Nat} (hs : Safety.served s h 8 = true) (hn : n ≠ 0)
    (hb : bindBad e.toNat seg ch n.toNat s = some c) :
    ∃ t, exec (.slateBind h e seg ch n) s = .next t ∧ Safety.Answered h 0x0602 c [] s t ∧ t = { s with host := t.host } := by
  have hbad : bindBad e.toNat seg ch n.toNat (s.mbStart h) = some c := hb
  exact mbCmd_answer hs rfl (beq_eq_false_iff_ne.2 hn) rfl (by rw [slateBindBody, hbad]; rfl)

theorem slateFreeBody_ok {e : BitVec 16} (hl : s.isLead = true) (he : (s.entry? e.toNat).isSome = true)
    (hu : s.entryInUse e.toNat = false) : slateFreeBody e s = ok (s.freeMirrored e.toNat) := by
  have hsome : (s.entry? e.toNat).isNone = false := by rw [← Option.not_isSome, he]; rfl
  simp [slateFreeBody, hl, hsome, hu]

theorem exec_slateFree {e : BitVec 16} (hs : Safety.served s h 4 = true) (hl : s.isLead = true)
    (he : (s.entry? e.toNat).isSome = true) (hu : s.entryInUse e.toNat = false) :
    ∃ t, exec (.slateFree h e 0) s = .next t ∧ Safety.Answered h 0x0605 0 [] s t ∧
      t = { s with host := t.host, slate := t.slate, twin := t.twin } ∧ t.entry? e.toNat = none := by
  obtain ⟨t, hx, ha, ho, ht⟩ := mbCmd_done_answered (i := .slateFree h e 0) (c := { op := 0x0605, len := 4 }) hs rfl rfl rfl
    (slateFreeBody_ok (s := s.mbStart h) hl he hu) (State.freeMirrored_only _ e.toNat) (by decide)
  have hslate : t.slate = ((s.mbStart h).freeMirrored e.toNat).slate := by rw [ht]
  refine ⟨t, hx, ha, (ho.mono (qs := [.host, .alert, .slate, .twin]) (by decide)).eq_patch, ?_⟩
  rw [State.entry?, hslate]
  exact (s.mbStart h).entry?_freeMirrored e.toNat

end

/-- Settles O12: the three commands by what they leave of the page store, SLATE_BIND by its checks besides. -/
theorem slateEntriesRun : Obligations.SlateEntriesRun :=
  ⟨fun _ _ _ _ _ _ hs hf hseg hlines hl he => exec_slateOpen hs hf hseg hlines hl he,
   fun _ _ _ _ _ _ hs hn hb => exec_slateBind hs hn hb, fun _ _ _ _ _ _ _ hs hn hb => exec_slateBind_bad hs hn hb,
   fun _ _ _ hs hl he hu => exec_slateFree hs hl he hu⟩

end Sys2Proof.Machine

namespace Sys2Proof.Machine

/-! ## Egress streams

SLATE_ENC_OPEN and SLATE_ENC_RESTORE change their stream alone; SLATE_ENC_CLOSE publishes the stream's END on its channel as well
(R176–R179). -/

section
variable (s : State)

theorem State.updEs_only (k : Nat) (f : EgressStream → EgressStream) : Only [.slate] s (s.updEs k f) := s.updSlate_only _

@[simp] theorem State.esN_updEs_same (k : Nat) (f : EgressStream → EgressStream) : (s.updEs k f).esN k = f (s.esN k) :=
  SMap.get_upd_same _ _ _ _

theorem State.esN_updEs_ne {k j : Nat} (f : EgressStream → EgressStream) (hj : j ≠ k) : (s.updEs k f).esN j = s.esN j :=
  SMap.get_upd_ne _ _ _ hj

theorem State.publish_only (ch : Nat) (bs : List Byte) : Only [.slate, .dma] s (s.publish ch bs) := .of_eq rfl (by decide)

@[simp] theorem State.esN_publish (ch : Nat) (bs : List Byte) (k : Nat) : (s.publish ch bs).esN k = s.esN k := rfl

/-- Published bytes wait at the end of their channel. -/
@[simp] theorem State.dmaN_publish_same (ch : Nat) (bs : List Byte) :
    (s.publish ch bs).dmaN ch = { s.dmaN ch with out := (s.dmaN ch).out ++ bs } := by
  rw [State.publish, State.dmaN_updSlate, State.dmaN_updDma_same]

@[simp] theorem State.dmaN_updEs (k : Nat) (f : EgressStream → EgressStream) (ch : Nat) : (s.updEs k f).dmaN ch = s.dmaN ch := rfl

/-- A change beside the streams. -/
theorem State.esN_updSlate {f : Slate → Slate} (hf : ∀ t, (f t).es = t.es) (k : Nat) : (s.updSlate f).esN k = s.esN k := by
  rw [State.esN, State.updSlate_slate, hf]
  rfl

theorem State.closeEs_only (k : Nat) : Only [.slate, .dma] s (s.closeEs k) := by
  unfold State.closeEs
  exact .ite (.refl s) ((((s.publish_only _ _).step (State.updEs_only _ _ _)).step (State.updSlate_only _ _)).mono (by decide))

/-- A closed stream stands behind its END block, published on its channel (R178). -/
theorem State.closeEs_open {s : State} {k : Nat} (ho : (s.esN k).isOpen = true) :
    (s.closeEs k).esN k = { s.esN k with
      isOpen := false, closing := false,
      codec := { (s.esN k).codec with offset := (s.esN k).codec.offset + (endBlock (s.esN k).codec).length } } ∧
    (s.closeEs k).dmaN (s.esN k).channel = { s.dmaN (s.esN k).channel with
      out := (s.dmaN (s.esN k).channel).out ++ endBlock (s.esN k).codec } := by
  have hclosed : s.closeEs k = ((s.publish (s.esN k).channel (endBlock (s.esN k).codec)).updEs k fun e => { e with
      isOpen := false, closing := false,
      codec := { e.codec with offset := e.codec.offset + (endBlock e.codec).length } }).updSlate fun t => { t with
      encJobs := t.encJobs.filter fun j => j.es != k } := by
    simp [State.closeEs, ho]
  rw [hclosed]
  constructor
  · rw [State.esN_updSlate, State.esN_updEs_same, State.esN_publish]
    exact fun _ => rfl
  · rw [State.dmaN_updSlate, State.dmaN_updEs, State.dmaN_publish_same]

end

section
variable {s : State} {h : MbHdr}

/-- A command that changes one egress stream alone. -/
theorem mbCmd_updEs {c : MbCheck} {i : Instr} {body : State → Answer} {k : Nat} {f : EgressStream → EgressStream}
    (hs : Safety.served s h c.len = true) (hr : c.rsv = false) (hz : c.zero = false) (hg : c.gated (s.mbStart h) = false)
    (hb : body (s.mbStart h) = ok ((s.mbStart h).updEs k f)) :
    ∃ t, mbCmd h i (mbServe c h body) s = .next t ∧ Safety.Answered h c.op 0 [] s t ∧
      t = { s with host := t.host, slate := t.slate } ∧ t.esN k = f (s.esN k) ∧ ∀ j, j ≠ k → t.esN j = s.esN j := by
  obtain ⟨t, e, ha, ho, ht⟩ := mbCmd_done_answered (i := i) hs hr hz hg hb (State.updEs_only _ _ _) (by decide)
  have hes : ∀ j, t.esN j = ((s.mbStart h).updEs k f).esN j := fun j => by rw [ht]; rfl
  exact ⟨t, e, ha, (ho.mono (qs := [.host, .alert, .slate]) (by decide)).eq_patch, (hes k).trans (State.esN_updEs_same _ _ _),
    fun j hj => (hes j).trans (State.esN_updEs_ne _ _ hj)⟩

theorem slateEncOpenBody_ok {p : EncOpenReq} (hes : p.es.toNat ≤ 7) (hl : p.level.toNat ≤ 7) (hch : p.channel.toNat ≤ 31)
    (hb : p.blockLines.toNat ≤ 4096) (ho : (s.esN p.es.toNat).isOpen = false) (hc : s.channelFor p.channel true = true) :
    slateEncOpenBody p s = ok (s.updEs p.es.toNat fun e => { e with
      isOpen := true, closing := false, level := p.level.toNat, channel := p.channel.toNat, blockLines := p.blockLines.toNat,
      keyInterval := p.keyInterval.toNat, tag := p.streamTag, headerDone := false, codec := {}, nextFrame := 0 }) := by
  simp [slateEncOpenBody, checked, firstBad, not_lt.2 hes, not_lt.2 hl, not_lt.2 hch, not_lt.2 hb, ho, hc]

theorem exec_slateEncOpen {p : EncOpenReq} (hs : Safety.served s h 12 = true) (hr : p.rsv = 0) (hv : s.visGated = false)
    (hst : s.stepAccepted 5 = false) (hes : p.es.toNat ≤ 7) (hl : p.level.toNat ≤ 7) (hch : p.channel.toNat ≤ 31)
    (hb : 1 ≤ p.blockLines.toNat ∧ p.blockLines.toNat ≤ 4096) (hk : p.keyInterval ≠ 0) (ho : (s.esN p.es.toNat).isOpen = false)
    (hc : s.channelFor p.channel true = true) :
    ∃ t, exec (.slateEncOpen h p) s = .next t ∧ Safety.Answered h 0x0607 0 [] s t ∧ t = { s with host := t.host, slate := t.slate } ∧
      t.esN p.es.toNat = { s.esN p.es.toNat with
        isOpen := true, closing := false, level := p.level.toNat, channel := p.channel.toNat, blockLines := p.blockLines.toNat,
        keyInterval := p.keyInterval.toNat, tag := p.streamTag, headerDone := false, codec := {}, nextFrame := 0 } ∧
      ∀ i, i ≠ p.es.toNat → t.esN i = s.esN i := by
  have hb0 : p.blockLines ≠ 0 := fun e => by simp [e] at hb
  have hgate : ((s.mbStart h).visGated || (s.mbStart h).stepAccepted 5) = false := Bool.or_eq_false_iff.2 ⟨hv, hst⟩
  exact mbCmd_updEs hs (by simp [hr]) (Bool.or_eq_false_iff.2 ⟨beq_eq_false_iff_ne.2 hb0, beq_eq_false_iff_ne.2 hk⟩) hgate
    (slateEncOpenBody_ok (s := s.mbStart h) hes hl hch hb.2 ho hc)

theorem slateEncCloseBody_ok {es : Byte} (hes : es.toNat ≤ 7) (ho : (s.esN es.toNat).isOpen = true)
    (hj : s.encBusyOn es.toNat = false) : slateEncCloseBody es s = ok (s.closeEs es.toNat) := by
  simp [slateEncCloseBody, hes, ho, hj]

theorem slateEncCloseBody_closed {es : Byte} (hes : es.toNat ≤ 7) (ho : (s.esN es.toNat).isOpen = false) :
    slateEncCloseBody es s = fail 0x060A s := by
  simp [slateEncCloseBody, hes, ho]

theorem exec_slateEncClose {es : Byte} (hs : Safety.served s h 4 = true) (hv : s.visGated = false) (hes : es.toNat ≤ 7)
    (ho : (s.esN es.toNat).isOpen = true) (hj : s.encBusyOn es.toNat = false) :
    ∃ t, exec (.slateEncClose h es 0) s = .next t ∧ Safety.Answered h 0x0608 0 [] s t ∧
      t = { s with host := t.host, slate := t.slate, dma := t.dma } ∧ (t.esN es.toNat).isOpen = false ∧
      (t.dmaN (s.esN es.toNat).channel).out = (s.dmaN (s.esN es.toNat).channel).out ++ endBlock (s.esN es.toNat).codec ∧
      (t.esN es.toNat).codec = { (s.esN es.toNat).codec with
        offset := (s.esN es.toNat).codec.offset + (endBlock (s.esN es.toNat).codec).length } := by
  obtain ⟨t, e, ha, hfr, ht⟩ := mbCmd_done_answered (i := .slateEncClose h es 0)
    (c := { op := 0x0608, len := 4, gated := State.visGated }) hs rfl rfl hv
    (slateEncCloseBody_ok (s := s.mbStart h) hes ho hj) (State.closeEs_only _ _) (by decide)
  obtain ⟨hstream, hpub⟩ := State.closeEs_open (s := s.mbStart h) ho
  have hes' : t.esN es.toNat = ((s.mbStart h).closeEs es.toNat).esN es.toNat := by rw [ht]; rfl
  have hdma : t.dmaN (s.esN es.toNat).channel = ((s.mbStart h).closeEs es.toNat).dmaN (s.esN es.toNat).channel := by rw [ht]; rfl
  refine ⟨t, e, ha, (hfr.mono (qs := [.host, .alert, .slate, .dma]) (by decide)).eq_patch, ?_, ?_, ?_⟩
  · rw [hes', hstream]
  · exact congrArg Dma.out (hdma.trans hpub)
  · exact congrArg EgressStream.codec (hes'.trans hstream)

theorem exec_slateEncClose_closed {es : Byte} (hs : Safety.served s h 4 = true) (hv : s.visGated = false) (hes : es.toNat ≤ 7)
    (ho : (s.esN es.toNat).isOpen = false) :
    ∃ t, exec (.slateEncClose h es 0) s = .next t ∧ Safety.Answered h 0x0608 0x060A [] s t ∧ t = { s with host := t.host } :=
  mbCmd_answer (c := { op := 0x0608, len := 4, gated := State.visGated }) hs rfl rfl hv
    (slateEncCloseBody_closed (s := s.mbStart h) hes ho)

theorem slateEncRestoreBody_ok {es ch : Byte} {addr : BitVec 64} {tag : BitVec 32} {d : CodecSt} (hes : es.toNat ≤ 7)
    (hch : ch.toNat ≤ 31)
    (ha : s.addrOk addr.toNat (recordBytes (s.esWidth (s.esN es.toNat)) (s.esN es.toNat).srcDepth) = true)
    (ho : (s.esN es.toNat).isOpen = false) (hc : s.channelFor ch true = true) (hsrc : (s.esN es.toNat).srcSet = true)
    (hrec : readRecord (s.dramRead addr.toNat (recordBytes (s.esWidth (s.esN es.toNat)) (s.esN es.toNat).srcDepth))
      (s.esN es.toNat).srcDepth (s.esWidth (s.esN es.toNat)) = some (1, tag, d)) :
    slateEncRestoreBody es ch addr s = ok (s.updEs es.toNat fun e => { e with
      isOpen := true, closing := false, channel := ch.toNat, tag := tag, headerDone := true, codec := d, nextFrame := d.nextLine,
      level := fieldAt (s.dramRead addr.toNat (recordBytes (s.esWidth (s.esN es.toNat)) (s.esN es.toNat).srcDepth)) 21 1 }) := by
  simp [slateEncRestoreBody, checked, firstBad, not_lt.2 hes, not_lt.2 hch, ha, ho, hc, hsrc, hrec]

theorem exec_slateEncRestore {es ch : Byte} {addr : BitVec 64} {tag : BitVec 32} {d : CodecSt} (hs : Safety.served s h 16 = true)
    (hv : s.visGated = false) (hst : s.stepAccepted 5 = false) (hes : es.toNat ≤ 7) (hch : ch.toNat ≤ 31)
    (ha : s.addrOk addr.toNat (recordBytes (s.esWidth (s.esN es.toNat)) (s.esN es.toNat).srcDepth) = true)
    (ho : (s.esN es.toNat).isOpen = false) (hc : s.channelFor ch true = true) (hsrc : (s.esN es.toNat).srcSet = true)
    (hrec : readRecord (s.dramRead addr.toNat (recordBytes (s.esWidth (s.esN es.toNat)) (s.esN es.toNat).srcDepth))
      (s.esN es.toNat).srcDepth (s.esWidth (s.esN es.toNat)) = some (1, tag, d)) :
    ∃ t, exec (.slateEncRestore h es ch 0 addr) s = .next t ∧ Safety.Answered h 0x060A 0 [] s t ∧
      t = { s with host := t.host, slate := t.slate } ∧ (t.esN es.toNat).isOpen = true ∧ (t.esN es.toNat).channel = ch.toNat ∧
      (t.esN es.toNat).tag = tag ∧ (t.esN es.toNat).codec = d ∧ ∀ i, i ≠ es.toNat → t.esN i = s.esN i := by
  have hgate : ((s.mbStart h).visGated || (s.mbStart h).stepAccepted 5) = false := Bool.or_eq_false_iff.2 ⟨hv, hst⟩
  obtain ⟨t, e, hans, ht, hstream, hother⟩ := mbCmd_updEs (i := .slateEncRestore h es ch 0 addr)
    (c := { op := 0x060A, len := 16, gated := fun s => s.visGated || s.stepAccepted 5 }) hs rfl rfl hgate
    (slateEncRestoreBody_ok (s := s.mbStart h) hes hch ha ho hc hsrc hrec)
  exact ⟨t, e, hans, ht, by rw [hstream], by rw [hstream], by rw [hstream], by rw [hstream], hother⟩

theorem slateStateReadBody_ok {kind index : Byte} {addr : BitVec 64} (hk : kind.toNat ≤ 1)
    (hi : index.toNat ≤ if kind = 0 then 47 else 7) (ha : s.addrOk addr.toNat (s.stateRec kind.toNat index.toNat).length = true) :
    slateStateReadBody kind index addr s = okWith (le 4 (s.stateRec kind.toNat index.toNat).length)
      (s.dramWrite addr.toNat (s.stateRec kind.toNat index.toNat)) := by
  simp only [slateStateReadBody, checked, firstBad, not_lt.2 hk, not_lt.2 hi, ha, decide_false, Bool.or_false, Bool.not_true,
    Bool.false_eq_true, if_false]

theorem exec_slateStateRead {kind index : Byte} {addr : BitVec 64} (hs : Safety.served s h 16 = true)
    (hk : kind = 0 ∧ index.toNat ≤ 47 ∧ s.pixGated = false ∨ kind = 1 ∧ index.toNat ≤ 7 ∧ s.visGated = false)
    (ha : s.addrOk addr.toNat (s.stateRec kind.toNat index.toNat).length = true) :
    ∃ t, exec (.slateStateRead h kind index 0 addr) s = .next t ∧
      Safety.Answered h 0x0609 0 (le 4 (s.stateRec kind.toNat index.toNat).length) s t ∧ t = { s with host := t.host, dram := t.dram } ∧
      t.dram = s.dram.writeAll addr.toNat (s.stateRec kind.toNat index.toNat) := by
  have hbody : slateStateReadBody kind index addr (s.mbStart h) = okWith (le 4 (s.stateRec kind.toNat index.toNat).length)
      ((s.mbStart h).dramWrite addr.toNat (s.stateRec kind.toNat index.toNat)) := by
    refine slateStateReadBody_ok ?_ ?_ ha <;> rcases hk with ⟨rfl, hi, -⟩ | ⟨rfl, hi, -⟩
    · decide
    · decide
    · exact hi
    · exact hi
  have hgate : (if kind = 0 then (s.mbStart h).pixGated else kind == 1 && (s.mbStart h).visGated) = false := by
    rcases hk with ⟨rfl, -, hg⟩ | ⟨rfl, -, hg⟩
    · exact hg
    · exact hg
  obtain ⟨t, e, hans, ho, ht⟩ := mbCmd_done_answered (i := .slateStateRead h kind index 0 addr)
    (c := { op := 0x0609, len := 16, gated := fun s => if kind = 0 then s.pixGated else kind == 1 && s.visGated }) hs rfl rfl hgate
    hbody (State.updDram_only _ _) (by decide)
  exact ⟨t, e, hans, (ho.mono (qs := [.host, .alert, .dram]) (by decide)).eq_patch, by rw [ht]; rfl⟩

end

/-- Settles O14: each command by what it leaves of its egress stream, SLATE_STATE_READ by what it writes to DRAM. -/
theorem slateEncoderRuns : Obligations.SlateEncoderRuns :=
  ⟨fun _ _ _ hs hr hv hst hes hl hch hb hk ho hc => exec_slateEncOpen hs hr hv hst hes hl hch hb hk ho hc,
   fun _ _ _ hs hv hes ho hj => exec_slateEncClose hs hv hes ho hj,
   fun _ _ _ hs hv hes ho => exec_slateEncClose_closed hs hv hes ho,
   fun _ _ _ _ _ _ _ hs hv hst hes hch ha ho hc hsrc hrec => exec_slateEncRestore hs hv hst hes hch ha ho hc hsrc hrec,
   fun _ _ _ _ _ hs hk ha => exec_slateStateRead hs hk ha⟩

end Sys2Proof.Machine

namespace Sys2Proof.Machine

/-! ## A record takes the place of those it overlaps

The journal is a ring (R223): a record that starts on the place of one of an earlier round, which the base image holds since, replaces it.
So JOURNAL_RECORD_WRITE does not always keep the records of the journal. -/

section
variable {s : State}

theorem State.addWear_journal (s : State) (k : Nat) : (s.addWear k).nvm.journal = s.nvm.journal := by
  unfold State.addWear
  dsimp only
  split
  · rw [State.setCause_nvm, State.updNvm_nvm]
  · rw [State.updNvm_nvm]

theorem State.foldl_addWear_journal (f : Nat → Nat) (l : List Nat) (s : State) :
    (l.foldl (fun t k => t.addWear (f k)) s).nvm.journal = s.nvm.journal := by
  induction l generalizing s with
  | nil => rfl
  | cons k l ih => exact (ih _).trans (s.addWear_journal (f k))

/-- The waiting record that fits drops the records of the ring where it is written. -/
theorem State.writeRecord_journal {b : JBody} {bs : List JBody} (hw : s.nvm.writing = none) (hb : s.nvm.waiting = b :: bs)
    (hf : fitsEnd s.nvm.nextOff b.size = true) (hr : b.size ≤ s.nvm.freeBytes) :
    s.writeRecord.nvm.journal = s.nvm.journal.filter fun q => !q.overlaps s.nvm.nextOff b.size := by
  have hhead : s.nvm.head = some (b, false) := by simp [Nvm.head, hb]
  have hneeds : ¬ s.nvm.freeBytes < s.nvm.needs b := by simp [Nvm.needs, hf, hr]
  have hbody : s.nvm.nextBody b = b := by simp [Nvm.nextBody, hf]
  simp only [State.writeRecord, hw, Option.isSome_none, Bool.false_eq_true, if_false, hhead, hneeds, hbody]
  exact State.foldl_addWear_journal (16 + ·) _ _

theorem exec_journalRecordWrite_journal {t : State} {b : JBody} {bs : List JBody} (ha : s.alive = true)
    (hw : s.nvm.writing = none) (hb : s.nvm.waiting = b :: bs) (hf : fitsEnd s.nvm.nextOff b.size = true)
    (hr : b.size ≤ s.nvm.freeBytes) (hx : exec .journalRecordWrite s = .next t) :
    t.nvm.journal = s.nvm.journal.filter fun q => !q.overlaps s.nvm.nextOff b.size := by
  obtain ⟨u, hu, -, hnext⟩ := evt_next (f := State.writeRecord) ha
  have htu : t = u := Host.Outcome.next.inj (hx.symm.trans hu)
  have hnvm : t.nvm = s.writeRecord.nvm := by rw [htu, hnext]
  rw [hnvm, State.writeRecord_journal hw hb hf hr]

end

/-- The first record of a journal, committed. -/
def firstRecord : JRec := { seq := 1, off := 0, time := 0, body := .settings {}, committed := true }

/-- A chip of a pair whose journal holds a first record installs a base image (R228), with loop settings waiting to be written: the
image has folded sequence 5, and the next record goes to the ring's start. -/
def imageInstalled : State :=
  State.installBase 5 {}
    { boot := { resetN := true, stage := .ready, twinEn := true },
      nvm := { journal := [firstRecord], nextSeq := 2, nextOff := firstRecord.after, waiting := [.settings {}] } }

/-- Refutes O48: behind an installed base image the next record starts at offset 0 of the ring, over the record that lay there, so the
journal does not stay as it was. -/
theorem not_encoderLoopAndStoreMove : ¬ Obligations.EncoderLoopAndStoreMove := by
  intro h
  obtain ⟨-, -, -, -, -, hwrite, -⟩ := h
  have ha : imageInstalled.alive = true := by decide
  have hw : imageInstalled.nvm.writing = none := rfl
  have hb : imageInstalled.nvm.waiting = [.settings {}] := rfl
  have hf : fitsEnd imageInstalled.nvm.nextOff (JBody.settings {}).size = true := by decide
  have hr : (JBody.settings {}).size ≤ imageInstalled.nvm.freeBytes := by decide
  obtain ⟨t, hx, -, -, -, -, hkept, -⟩ := hwrite imageInstalled _ _ ha hw hb hf hr
  have hjournal := hkept.symm.trans (exec_journalRecordWrite_journal ha hw hb hf hr hx)
  exact absurd hjournal (by decide)

end Sys2Proof.Machine

namespace Sys2Proof.Machine

/-! ## Settings of one camera port

CAM_SET_LINK, CAM_SET_PLACE, CAM_SET_EXPOSURE, VIS_SET_NR and VIS_SET_MATRIX change one camera alone, CAM_LOAD_FLAT the camera and the
journal, or DRAM (R180, R191–R193). -/

theorem State.updCam_only (s : State) (p : Nat) (f : Cam → Cam) : Only [.cam] s (s.updCam p f) := .of_eq rfl (by decide)

theorem State.newFlat_only (s : State) (p : Nat) (f : Flat) : Only [.cam, .nvm] s (s.newFlat p f) :=
  (s.updCam_only p _).step (State.journal_only _ _)

theorem camBad_eq_false {port : Byte} (hp : port.toNat < 4) : camBad port = false := by
  simp only [camBad, decide_eq_false_iff_not]
  omega

section
variable {s : State} {h : MbHdr}

/-- A command that changes one camera alone. -/
theorem mbCmd_updCam {c : MbCheck} {i : Instr} {body : State → Answer} {payload : List Byte} {p : Nat} {f : Cam → Cam}
    (hs : Safety.served s h c.len = true) (hr : c.rsv = false) (hz : c.zero = false) (hg : c.gated (s.mbStart h) = false)
    (hb : body (s.mbStart h) = okWith payload ((s.mbStart h).updCam p f)) :
    ∃ t, mbCmd h i (mbServe c h body) s = .next t ∧ Safety.Answered h c.op 0 payload s t ∧
      t = { s with host := t.host, cam := t.cam } ∧ t.camN p = f (s.camN p) ∧ ∀ q, q ≠ p → t.camN q = s.camN q := by
  obtain ⟨t, e, ha, ho, ht⟩ := mbCmd_done_answered (i := i) hs hr hz hg hb (State.updCam_only _ _ _) (by decide)
  have hcam : ∀ q, t.camN q = ((s.mbStart h).updCam p f).camN q := fun q => by rw [ht]; rfl
  exact ⟨t, e, ha, (ho.mono (qs := [.host, .alert, .cam]) (by decide)).eq_patch, (hcam p).trans (State.camN_updCam_same _ _ _),
    fun q hq => (hcam q).trans (State.camN_updCam_ne _ _ _ _ hq)⟩

/-! ### CAM_SET_LINK and CAM_SET_PLACE -/

theorem camSetLinkBody_ok {p : CamLinkReq} (hp : linkBad p = none) (hst : (s.camN p.port.toNat).runs = false) :
    camSetLinkBody p s = ok (s.updCam p.port.toNat fun k => { k with linkSet := true, link := linkOfReq p }) := by
  simp [camSetLinkBody, checked, hp, hst]

theorem camSetLinkBody_running {p : CamLinkReq} (hp : linkBad p = none) (hst : (s.camN p.port.toNat).runs = true) :
    camSetLinkBody p s = fail 0x0702 s := by
  simp [camSetLinkBody, checked, hp, hst]

/-- No field of CAM_SET_LINK that must not be 0 is. -/
theorem camLink_nonzero {p : CamLinkReq} (hl : p.lanes ≠ 0) (hc : p.channels ≠ 0) (hx : p.pixels ≠ 0) :
    (p.lanes == 0 || p.channels == 0 || p.pixels == 0) = false := by
  simp only [beq_eq_false_iff_ne.2 hl, beq_eq_false_iff_ne.2 hc, beq_eq_false_iff_ne.2 hx, Bool.or_self]

theorem exec_camSetLink {p : CamLinkReq} (hs : Safety.served s h 12 = true) (hr : p.rsv = 0) (hl : p.lanes ≠ 0)
    (hc : p.channels ≠ 0) (hx : p.pixels ≠ 0) (hp : linkBad p = none) (hst : (s.camN p.port.toNat).runs = false) :
    ∃ t, exec (.camSetLink h p) s = .next t ∧ Safety.Answered h 0x0701 0 [] s t ∧ t = { s with host := t.host, cam := t.cam } ∧
      t.camN p.port.toNat = { s.camN p.port.toNat with linkSet := true, link := linkOfReq p } ∧
      ∀ q, q ≠ p.port.toNat → t.camN q = s.camN q :=
  mbCmd_updCam (c := { op := 0x0701, len := 12, rsv := p.rsv != 0, zero := p.lanes == 0 || p.channels == 0 || p.pixels == 0 })
    hs (by simp [hr]) (camLink_nonzero hl hc hx) rfl (camSetLinkBody_ok (s := s.mbStart h) hp hst)

theorem exec_camSetLink_running {p : CamLinkReq} (hs : Safety.served s h 12 = true) (hr : p.rsv = 0) (hl : p.lanes ≠ 0)
    (hc : p.channels ≠ 0) (hx : p.pixels ≠ 0) (hp : linkBad p = none) (hst : (s.camN p.port.toNat).runs = true) :
    ∃ t, exec (.camSetLink h p) s = .next t ∧ Safety.Answered h 0x0701 0x0702 [] s t ∧ t = { s with host := t.host } :=
  mbCmd_answer (c := { op := 0x0701, len := 12, rsv := p.rsv != 0, zero := p.lanes == 0 || p.channels == 0 || p.pixels == 0 })
    hs (by simp [hr]) (camLink_nonzero hl hc hx) rfl (camSetLinkBody_running (s := s.mbStart h) hp hst)

theorem camSetPlaceBody_ok {p : CamPlaceReq} (hp : p.port.toNat < 4) (ht : p.trig.toNat ≤ 7) (hf : p.firstCol.toNat ≤ 196607)
    (hlo : 0x10000 ≤ p.colsPerPx.toNat) (hhi : p.colsPerPx.toNat ≤ 0x100000) (ho : s.offsetShort p.offsetNm.toInt = false)
    (hpitch : 0x10000 ≤ p.linePitch.toNat) (hst : (s.camN p.port.toNat).runs = false)
    (hu : s.trigUsed p.port.toNat p.trig.toNat = false) :
    camSetPlaceBody p s = ok (s.updCam p.port.toNat fun k => { k with placeSet := true, place := placeOfReq p }) := by
  simp [camSetPlaceBody, placeOfReq, checked, firstBad, camBad_eq_false hp, not_lt.2 ht, not_lt.2 hf, out_eq_false hlo hhi, ho,
    not_lt.2 hpitch, hst, hu]

theorem exec_camSetPlace {p : CamPlaceReq} (hs : Safety.served s h 20 = true) (hr : p.rsv = 0) (hflags : p.flags.toNat ≤ 1)
    (hp : p.port.toNat < 4) (ht : p.trig.toNat ≤ 7) (hf : p.firstCol.toNat ≤ 196607) (hlo : 0x10000 ≤ p.colsPerPx.toNat)
    (hhi : p.colsPerPx.toNat ≤ 0x100000) (ho : s.offsetShort p.offsetNm.toInt = false) (hpitch : 0x10000 ≤ p.linePitch.toNat)
    (hst : (s.camN p.port.toNat).runs = false) (hu : s.trigUsed p.port.toNat p.trig.toNat = false) :
    ∃ t, exec (.camSetPlace h p) s = .next t ∧ Safety.Answered h 0x0702 0 [] s t ∧ t = { s with host := t.host, cam := t.cam } ∧
      t.camN p.port.toNat = { s.camN p.port.toNat with placeSet := true, place := placeOfReq p } ∧
      ∀ q, q ≠ p.port.toNat → t.camN q = s.camN q :=
  mbCmd_updCam (c := { op := 0x0702, len := 20, rsv := 1 < p.flags.toNat || p.rsv != 0 })
    hs (by simp [hr, hflags]) rfl rfl (camSetPlaceBody_ok (s := s.mbStart h) hp ht hf hlo hhi ho hpitch hst hu)

/-! ### CAM_SET_EXPOSURE -/

theorem camSetExposureBody_ok {p : CamExposureReq} (hp : p.port.toNat < 4)
    (hratio : (s.camN p.port.toNat).link.vcShort.isSome = true → 0x0100 ≤ p.ratio.toNat ∧ p.ratio.toNat ≤ 0x4000)
    (hlo : 1000 ≤ p.exposureNs.toNat) (hhi : p.exposureNs.toNat ≤ 1000000) (hknee : p.kneeLo.toNat < p.kneeHi.toNat) :
    camSetExposureBody p s = okWith
      (le 4 (s.camN p.port.toNat).applyFrame ++ le 1 ((s.camN p.port.toNat).epoch + 1).toNat ++ zeros 3)
      (s.updCam p.port.toNat fun k => { k with pend := some (exposureOfReq p, (s.camN p.port.toNat).applyFrame) }) := by
  have hr : ((s.camN p.port.toNat).link.vcShort.isSome && out p.ratio.toNat 0x0100 0x4000) = false :=
    Bool.and_eq_false_iff.2 ((Bool.eq_false_or_eq_true _).symm.imp_right fun hv => out_eq_false (hratio hv).1 (hratio hv).2)
  simp only [camSetExposureBody, exposureOfReq, checked, firstBad, camBad_eq_false hp, hr, out_eq_false hlo hhi, not_le.2 hknee,
    decide_false, Bool.or_self, Bool.false_eq_true, if_false]

theorem exec_camSetExposure {p : CamExposureReq} (hs : Safety.served s h 24 = true) (hrsv : p.rsv = 0) (hp : p.port.toNat < 4)
    (hratio : (s.camN p.port.toNat).link.vcShort.isSome = true → 0x0100 ≤ p.ratio.toNat ∧ p.ratio.toNat ≤ 0x4000)
    (hlo : 1000 ≤ p.exposureNs.toNat) (hhi : p.exposureNs.toNat ≤ 1000000) (hknee : p.kneeLo.toNat < p.kneeHi.toNat) :
    ∃ t, exec (.camSetExposure h p) s = .next t ∧
      Safety.Answered h 0x0703 0
        (le 4 (s.camN p.port.toNat).applyFrame ++ le 1 ((s.camN p.port.toNat).epoch + 1).toNat ++ zeros 3) s t ∧
      t = { s with host := t.host, cam := t.cam } ∧
      t.camN p.port.toNat = { s.camN p.port.toNat with pend := some (exposureOfReq p, (s.camN p.port.toNat).applyFrame) } ∧
      ∀ q, q ≠ p.port.toNat → t.camN q = s.camN q :=
  mbCmd_updCam (c := { op := 0x0703, len := 24, rsv := p.rsv != 0 }) hs (by simp [hrsv]) rfl rfl
    (camSetExposureBody_ok (s := s.mbStart h) hp hratio hlo hhi hknee)

/-! ### CAM_LOAD_FLAT -/

/-- What the field checks of CAM_LOAD_FLAT leave: the table goes one way or the other. -/
theorem camLoadFlatBody_ok {port direction : Byte} {addr : BitVec 64} {n : Nat} (hp : port.toNat < 4) (hd : direction.toNat ≤ 1)
    (hn : n = (s.camN port.toNat).link.pixels * (s.camN port.toNat).link.channels) (ha : s.addrOk addr.toNat (12 + 2 * n) = true) :
    camLoadFlatBody port direction addr s =
      if direction = 1 then ok (s.dramWrite addr.toNat ((s.cal.data.flat.get {} port.toNat).table n))
      else ok (s.newFlat port.toNat (flatOfBytes (s.dramRead addr.toNat (12 + 2 * n)) n)) := by
  subst hn
  simp only [camLoadFlatBody, checked, firstBad, camBad_eq_false hp, decide_eq_false (not_lt.2 hd), ha, Bool.not_true,
    Bool.false_eq_true, if_false]

theorem exec_camLoadFlat_in {port : Byte} {addr : BitVec 64} {n : Nat} (hs : Safety.served s h 16 = true) (hp : port.toNat < 4)
    (hn : n = (s.camN port.toNat).link.pixels * (s.camN port.toNat).link.channels) (ha : s.addrOk addr.toNat (12 + 2 * n) = true) :
    ∃ t, exec (.camLoadFlat h port 0 0 addr) s = .next t ∧ Safety.Answered h 0x0704 0 [] s t ∧
      t = { s with host := t.host, cam := t.cam, nvm := t.nvm } ∧
      (t.camN port.toNat).pendFlat =
        some (flatOfBytes (s.dramRead addr.toNat (12 + 2 * n)) n, (s.camN port.toNat).frames) ∧
      t.nvm = { s.nvm with
        waiting := s.nvm.waiting ++ [.flat port.toNat (flatOfBytes (s.dramRead addr.toNat (12 + 2 * n)) n)] } := by
  obtain ⟨t, e, hans, ho, ht⟩ := mbCmd_done_answered (i := .camLoadFlat h port 0 0 addr) (c := { op := 0x0704, len := 16 })
    hs rfl rfl rfl ((camLoadFlatBody_ok (s := s.mbStart h) (direction := 0) hp (by decide) hn ha).trans (if_neg (by decide)))
    (State.newFlat_only _ _ _) (by decide)
  have hcam : t.camN port.toNat =
      ((s.mbStart h).newFlat port.toNat (flatOfBytes (s.dramRead addr.toNat (12 + 2 * n)) n)).camN port.toNat := by rw [ht]; rfl
  refine ⟨t, e, hans, (ho.mono (qs := [.host, .alert, .cam, .nvm]) (by decide)).eq_patch, ?_, by rw [ht]; rfl⟩
  rw [hcam, State.newFlat, State.journal, State.camN_updNvm, State.camN_updCam_same]
  rfl

theorem exec_camLoadFlat_out {port : Byte} {addr : BitVec 64} {n : Nat} (hs : Safety.served s h 16 = true) (hp : port.toNat < 4)
    (hn : n = (s.camN port.toNat).link.pixels * (s.camN port.toNat).link.channels) (ha : s.addrOk addr.toNat (12 + 2 * n) = true) :
    ∃ t, exec (.camLoadFlat h port 1 0 addr) s = .next t ∧ Safety.Answered h 0x0704 0 [] s t ∧
      t = { s with host := t.host, dram := s.dram.writeAll addr.toNat ((s.cal.data.flat.get {} port.toNat).table n) } := by
  obtain ⟨t, e, hans, -, ht⟩ := mbCmd_done_answered (i := .camLoadFlat h port 1 0 addr) (c := { op := 0x0704, len := 16 })
    hs rfl rfl rfl ((camLoadFlatBody_ok (s := s.mbStart h) (direction := 1) hp (by decide) hn ha).trans (if_pos rfl))
    (State.updDram_only _ _) (by decide)
  exact ⟨t, e, hans, ht⟩

end

/-- Settles O15: each command by its own rules, which change one camera alone, or the journal or DRAM with a table. -/
theorem cameraSettingsApply : Obligations.CameraSettingsApply :=
  ⟨fun _ _ _ hs hr hl hc hx hp hst => exec_camSetLink hs hr hl hc hx hp hst,
   fun _ _ _ hs hr hl hc hx hp hst => exec_camSetLink_running hs hr hl hc hx hp hst,
   fun _ _ _ hs hr hflags hp ht hf hlo hhi ho hpitch hst hu => exec_camSetPlace hs hr hflags hp ht hf hlo hhi ho hpitch hst hu,
   fun _ _ _ hs hrsv hp hratio hlo hhi hknee => exec_camSetExposure hs hrsv hp hratio hlo hhi hknee,
   fun _ _ _ _ _ hs hp hn ha => exec_camLoadFlat_in hs hp hn ha, fun _ _ _ _ _ hs hp hn ha => exec_camLoadFlat_out hs hp hn ha⟩

end Sys2Proof.Machine

namespace Sys2Proof.Machine

/-! ## Settings and requests of the vision pipeline

VIS_SET_NR and VIS_SET_MATRIX change one camera alone, VIS_SET_EGRESS one egress stream, the other commands of the pipeline its own
part of the state (R192, R193, R196–R200). -/

/-- A field of at least 1 is not the zero that R12 and R13 refuse. -/
theorem beq_zero_of_one_le {w : Nat} {x : BitVec w} (hx : 1 ≤ x.toNat) : (x == 0) = false :=
  beq_eq_false_iff_ne.2 fun e => by simp [e] at hx

section
variable {s : State} {h : MbHdr} {c : MbCheck} {i : Instr} {body : State → Answer}

/-! ### Commands that a common check turns away -/

/-- A command that a common check of R340 turns away answers its status and does nothing else. -/
theorem mbCmd_refused {st : Nat} (hs : Safety.served s h c.len = true) (hc : mbCommon c h (s.mbStart h) = some st) :
    ∃ t, mbCmd h i (mbServe c h body) s = .next t ∧ Safety.Answered h c.op st [] s t ∧ t = { s with host := t.host } := by
  obtain ⟨-, hready, hheader⟩ := served_iff.1 hs
  obtain ⟨hlen, hmax, hrsv⟩ := header_iff.1 hheader
  have hserve : mbServe c h body s = mbServe { op := c.op, len := c.len } h (fail st) s := by
    rw [mbServe_refused s hc]
    exact (mbServe_done (c := { op := c.op, len := c.len }) s (mbCommon_none _ hready hlen hmax hrsv rfl rfl rfl) rfl).symm
  have hcmd : mbCmd h i (mbServe c h body) s = mbCmd h i (mbServe { op := c.op, len := c.len } h (fail st)) s := by
    simp only [mbCmd, mbDoor, hserve]
  rw [hcmd]
  exact mbCmd_answer (c := { op := c.op, len := c.len }) hs rfl rfl rfl rfl

/-- A command whose block is gated answers UNAVAILABLE (R35, R340). -/
theorem mbCmd_gated (hs : Safety.served s h c.len = true) (hr : c.rsv = false) (hg : c.gated (s.mbStart h) = true) :
    ∃ t, mbCmd h i (mbServe c h body) s = .next t ∧ Safety.Answered h c.op 0x0005 [] s t ∧ t = { s with host := t.host } := by
  obtain ⟨-, hready, hheader⟩ := served_iff.1 hs
  obtain ⟨hlen, hmax, hrsv⟩ := header_iff.1 hheader
  have hready' : (s.mbStart h).isReady = true := hready
  have hfit : 16 + c.len ≤ 2048 := hlen ▸ hmax
  exact mbCmd_refused hs (by simp [mbCommon, hready', hlen, hfit, hrsv, hr, hg])

/-- A command with a zero in a length, count or size field answers ZERO_FIELD (R12, R340). -/
theorem mbCmd_zero (hs : Safety.served s h c.len = true) (hr : c.rsv = false) (hg : c.gated (s.mbStart h) = false)
    (hz : c.zero = true) :
    ∃ t, mbCmd h i (mbServe c h body) s = .next t ∧ Safety.Answered h c.op 0x0006 [] s t ∧ t = { s with host := t.host } := by
  obtain ⟨-, hready, hheader⟩ := served_iff.1 hs
  obtain ⟨hlen, hmax, hrsv⟩ := header_iff.1 hheader
  have hready' : (s.mbStart h).isReady = true := hready
  have hfit : 16 + c.len ≤ 2048 := hlen ▸ hmax
  exact mbCmd_refused hs (by simp [mbCommon, hready', hlen, hfit, hrsv, hr, hg, hz])

end

section
variable {s : State} {h : MbHdr}

/-- A command that changes the vision pipeline alone. -/
theorem mbCmd_updVis {c : MbCheck} {i : Instr} {body : State → Answer} {f : Vis → Vis} (hs : Safety.served s h c.len = true)
    (hr : c.rsv = false) (hz : c.zero = false) (hg : c.gated (s.mbStart h) = false)
    (hb : body (s.mbStart h) = ok ((s.mbStart h).updVis f)) :
    ∃ t, mbCmd h i (mbServe c h body) s = .next t ∧ Safety.Answered h c.op 0 [] s t ∧
      t = { s with host := t.host, vis := f s.vis } := by
  obtain ⟨t, e, ha, -, ht⟩ := mbCmd_done_answered (i := i) hs hr hz hg hb (State.updVis_only _ _) (by decide)
  exact ⟨t, e, ha, ht⟩

/-! ### VIS_SET_NR and VIS_SET_MATRIX -/

theorem visSetNrBody_ok {port flags alpha : Byte} {thresh : BitVec 32} (hp : port.toNat < 4) (ha : alpha ≠ 0)
    (ht : thresh.toNat ≤ 4194240) : visSetNrBody port flags alpha thresh s =
      ok (s.updCam port.toNat fun k => { k with nr := ⟨flags.getLsbD 0, flags.getLsbD 1, alpha.toNat, thresh.toNat⟩ }) :=
  if_neg (not_or.2 ⟨Bool.eq_false_iff.1 (camBad_eq_false hp), not_or.2 ⟨ha, not_lt.2 ht⟩⟩)

theorem exec_visSetNr {port flags alpha : Byte} {thresh : BitVec 32} (hs : Safety.served s h 8 = true) (hf : flags.toNat ≤ 3)
    (hp : port.toNat < 4) (ha : alpha ≠ 0) (ht : thresh.toNat ≤ 4194240) :
    ∃ t, exec (.visSetNr h port flags alpha 0 thresh) s = .next t ∧ Safety.Answered h 0x0801 0 [] s t ∧
      t = { s with host := t.host, cam := t.cam } ∧
      t.camN port.toNat =
        { s.camN port.toNat with nr := ⟨flags.getLsbD 0, flags.getLsbD 1, alpha.toNat, thresh.toNat⟩ } ∧
      ∀ q, q ≠ port.toNat → t.camN q = s.camN q :=
  mbCmd_updCam (c := { op := 0x0801, len := 8, rsv := 3 < flags.toNat || (0 : Byte) != 0 }) hs (by simp [hf]) rfl rfl
    (visSetNrBody_ok (s := s.mbStart h) hp ha ht)

theorem visSetMatrixBody_ok {port : Byte} {m off : List (BitVec 16)} (hp : port.toNat < 4) : visSetMatrixBody port m off s =
    ok (s.updCam port.toNat fun k => { k with pendMatrix := some (⟨m.map (·.toInt), off.map (·.toInt)⟩, k.frames) }) :=
  if_neg (by simp [camBad_eq_false hp])

theorem exec_visSetMatrix {port : Byte} {m off : List (BitVec 16)} (hs : Safety.served s h 28 = true) (hp : port.toNat < 4) :
    ∃ t, exec (.visSetMatrix h port 0 m off) s = .next t ∧ Safety.Answered h 0x0802 0 [] s t ∧
      t = { s with host := t.host, cam := t.cam } ∧
      t.camN port.toNat = { s.camN port.toNat with
        pendMatrix := some (⟨m.map (·.toInt), off.map (·.toInt)⟩, (s.camN port.toNat).frames) } ∧
      ∀ q, q ≠ port.toNat → t.camN q = s.camN q :=
  mbCmd_updCam (c := { op := 0x0802, len := 28 }) hs rfl rfl rfl (visSetMatrixBody_ok (s := s.mbStart h) hp)

/-! ### VIS_SET_PREVIEW -/

/-- The preview of a payload. Enabled while CAM_0 runs, its rows begin with the group of the next trigger (log 117). -/
def State.previewOfReq (s : State) (p : PreviewReq) : Preview :=
  { enable := p.flags.getLsbD 0, colour := p.flags.getLsbD 1, binCols := p.binCols.toNat, binLines := p.binLines.toNat,
    rows := p.rows.toNat, addr := p.addr.toNat,
    row := if (s.camN 0).runs = true then (s.camN 0).trigs / p.binLines.toNat + 1 else 0 }

theorem visSetPreviewBody_ok {p : PreviewReq} (hbc : p.binCols.toNat ≤ 64) (hw : ceilDiv s.barColumns p.binCols.toNat ≤ 16384)
    (hbl : p.binLines.toNat ≤ 64) (hrows : p.rows.toNat ≤ 65536)
    (ha : s.addrOk p.addr.toNat (previewRowBytes s.barColumns p.binCols.toNat (p.flags.getLsbD 1) * p.rows.toNat) = true) :
    visSetPreviewBody p s = ok (s.updVis fun v => { v with preview := s.previewOfReq p }) := by
  simp only [visSetPreviewBody, State.previewOfReq, checked, firstBad, decide_eq_false (not_lt.2 hbc), decide_eq_false (not_lt.2 hw),
    decide_eq_false (not_lt.2 hbl), decide_eq_false (not_lt.2 hrows), ha, Bool.or_self, Bool.not_true, Bool.false_eq_true, if_false]

theorem exec_visSetPreview {p : PreviewReq} (hs : Safety.served s h 16 = true) (hf : p.flags.toNat ≤ 3) (hr : p.rsv = 0)
    (hbc : 1 ≤ p.binCols.toNat ∧ p.binCols.toNat ≤ 64) (hw : ceilDiv s.barColumns p.binCols.toNat ≤ 16384)
    (hbl : 1 ≤ p.binLines.toNat ∧ p.binLines.toNat ≤ 64) (hrows : 1 ≤ p.rows.toNat ∧ p.rows.toNat ≤ 65536)
    (ha : s.addrOk p.addr.toNat (previewRowBytes s.barColumns p.binCols.toNat (p.flags.getLsbD 1) * p.rows.toNat) = true) :
    ∃ t, exec (.visSetPreview h p) s = .next t ∧ Safety.Answered h 0x0803 0 [] s t ∧
      t = { s with host := t.host, vis := t.vis } ∧ t.vis = { s.vis with preview := s.previewOfReq p } := by
  obtain ⟨t, e, hans, ht⟩ := mbCmd_updVis (i := .visSetPreview h p)
    (c := { op := 0x0803, len := 16, rsv := 3 < p.flags.toNat || p.rsv != 0,
            zero := p.binCols == 0 || p.binLines == 0 || p.rows == 0 }) hs (by simp [hf, hr])
    (by simp only [beq_zero_of_one_le hbc.1, beq_zero_of_one_le hbl.1, beq_zero_of_one_le hrows.1, Bool.or_self]) rfl
    (visSetPreviewBody_ok (s := s.mbStart h) hbc.2 hw hbl.2 hrows.2 ha)
  have hvis : t.vis = { s.vis with preview := s.previewOfReq p } := congrArg State.vis ht
  exact ⟨t, e, hans, by rw [hvis]; exact ht, hvis⟩

/-! ### VIS_SET_EGRESS -/

/-- What the field checks of VIS_SET_EGRESS leave: a closed stream takes its source. -/
theorem visSetEgressBody_eq {es port source depth : Byte} (hes : es.toNat ≤ 7) (hp : port.toNat < 4) (hsrc : source.toNat ≤ 2)
    (hd : depth = 8 ∨ depth = 12 ∨ depth = 16) (hw : (s.camN port.toNat).link.sourceWidth source.toNat ≤ 16384) :
    visSetEgressBody es port source depth s =
      if (s.esN es.toNat).isOpen = true then fail 0x0802 s
      else ok (s.updEs es.toNat fun e => { e with
        srcSet := true, srcPort := port.toNat, srcKind := source.toNat, srcDepth := depth.toNat }) := by
  have hdepth : [8, 12, 16].contains depth.toNat = true := by
    obtain rfl | rfl | rfl := hd
    · decide
    · decide
    · decide
  simp only [visSetEgressBody, checked, firstBad, decide_eq_false (not_lt.2 hes), camBad_eq_false hp, decide_eq_false (not_lt.2 hsrc),
    hdepth, decide_eq_false (not_lt.2 hw), Bool.not_true, Bool.or_self, Bool.false_eq_true, if_false]
  cases (s.esN es.toNat).isOpen
  · rfl
  · rfl

theorem exec_visSetEgress {es port source depth : Byte} (hs : Safety.served s h 4 = true) (hes : es.toNat ≤ 7)
    (hp : port.toNat < 4) (hsrc : source.toNat ≤ 2) (hd : depth = 8 ∨ depth = 12 ∨ depth = 16)
    (hw : (s.camN port.toNat).link.sourceWidth source.toNat ≤ 16384) (ho : (s.esN es.toNat).isOpen = false) :
    ∃ t, exec (.visSetEgress h es port source depth) s = .next t ∧ Safety.Answered h 0x0804 0 [] s t ∧
      t = { s with host := t.host, slate := t.slate } ∧
      t.esN es.toNat = { s.esN es.toNat with
        srcSet := true, srcPort := port.toNat, srcKind := source.toNat, srcDepth := depth.toNat } ∧
      ∀ i, i ≠ es.toNat → t.esN i = s.esN i :=
  mbCmd_updEs (c := { op := 0x0804, len := 4 }) hs rfl rfl rfl
    ((visSetEgressBody_eq (s := s.mbStart h) hes hp hsrc hd hw).trans (if_neg (Bool.eq_false_iff.1 ho)))

theorem exec_visSetEgress_open {es port source depth : Byte} (hs : Safety.served s h 4 = true) (hes : es.toNat ≤ 7)
    (hp : port.toNat < 4) (hsrc : source.toNat ≤ 2) (hd : depth = 8 ∨ depth = 12 ∨ depth = 16)
    (hw : (s.camN port.toNat).link.sourceWidth source.toNat ≤ 16384) (ho : (s.esN es.toNat).isOpen = true) :
    ∃ t, exec (.visSetEgress h es port source depth) s = .next t ∧ Safety.Answered h 0x0804 0x0802 [] s t ∧
      t = { s with host := t.host } :=
  mbCmd_answer (c := { op := 0x0804, len := 4 }) hs rfl rfl rfl
    ((visSetEgressBody_eq (s := s.mbStart h) hes hp hsrc hd hw).trans (if_pos ho))

/-! ### VIS_SET_DEFECT -/

theorem visSetDefectBody_ok {p : DefectReq} (he : p.enable.toNat ≤ 1) (hl : 16 ≤ p.streakLines.toNat)
    (hm : 1 ≤ p.spotMin.toNat ∧ p.spotMin.toNat ≤ 1024) : visSetDefectBody p s = ok (s.updVis fun v => { v with
      defect := ⟨p.enable == 1, p.streakLines.toNat, p.streakThresh.toNat, p.spotThresh.toNat, p.spotMin.toNat⟩ }) :=
  if_neg (by simp [he, hl, out_eq_false hm.1 hm.2])

theorem exec_visSetDefect {p : DefectReq} (hs : Safety.served s h 12 = true) (hr : p.rsv = 0) (hr2 : p.rsv2 = 0)
    (he : p.enable.toNat ≤ 1) (hl : 16 ≤ p.streakLines.toNat) (hm : 1 ≤ p.spotMin.toNat ∧ p.spotMin.toNat ≤ 1024) :
    ∃ t, exec (.visSetDefect h p) s = .next t ∧ Safety.Answered h 0x0805 0 [] s t ∧
      t = { s with host := t.host, vis := { s.vis with
        defect := ⟨p.enable == 1, p.streakLines.toNat, p.streakThresh.toNat, p.spotThresh.toNat, p.spotMin.toNat⟩ } } :=
  mbCmd_updVis (c := { op := 0x0805, len := 12, rsv := p.rsv != 0 || p.rsv2 != 0, zero := p.streakLines == 0 }) hs
    (by simp [hr, hr2]) (beq_zero_of_one_le (le_trans (by decide) hl)) rfl (visSetDefectBody_ok (s := s.mbStart h) he hl hm)

/-! ### VIS_THATCH_ARM -/

theorem visThatchArmBody_ok {p : ThatchReq} (hp : s.page? p.handle.toNat = none) (hrow : p.row = 0 ∨ p.row = 1 ∧ s.noRowB = false)
    (hstep : 4 ≤ p.step.toNat ∧ p.step.toNat ≤ 64) (hlevel : 1 ≤ p.level.toNat ∧ p.level.toNat ≤ 3)
    (hrung : p.rungLines.toNat ≤ 65536) (ha : s.addrOk p.addr.toNat (32 + 8 * s.barColumns) = true)
    (hfine : s.thatchFine p.step.toNat p.rungLines.toNat = false)
    (hroom : ((s.vis.thatch.filter fun a => a.left || a.handle != p.handle.toNat).filter fun a => !a.left).length < 4) :
    visThatchArmBody p s = ok (s.updVis fun v => { v with
      thatch := (s.vis.thatch.filter fun a => a.left || a.handle != p.handle.toNat) ++ [thatchOfReq p] }) := by
  have hrows : decide (1 < p.row.toNat) = false ∧ ((p.row == 1) && s.noRowB) = false := by
    obtain hr | ⟨hr, hb⟩ := hrow
    · rw [hr]; exact ⟨by decide, by simp⟩
    · rw [hr, hb]; exact ⟨by decide, rfl⟩
  simp only [visThatchArmBody, thatchOfReq, checked, firstBad, hp, hrows.1, hrows.2, out_eq_false hstep.1 hstep.2,
    out_eq_false hlevel.1 hlevel.2, not_lt.2 hrung, ha, hfine, not_le.2 hroom, decide_false, Option.isSome_none, Bool.or_self,
    Bool.not_true, Bool.false_eq_true, if_false]

theorem exec_visThatchArm {p : ThatchReq} (hs : Safety.served s h 28 = true) (hr : p.rsv = 0) (hr0 : p.rungLines ≠ 0)
    (hv : s.visGated = false) (hp : s.page? p.handle.toNat = none) (hrow : p.row = 0 ∨ p.row = 1 ∧ s.noRowB = false)
    (hstep : 4 ≤ p.step.toNat ∧ p.step.toNat ≤ 64) (hlevel : 1 ≤ p.level.toNat ∧ p.level.toNat ≤ 3)
    (hrung : p.rungLines.toNat ≤ 65536) (ha : s.addrOk p.addr.toNat (32 + 8 * s.barColumns) = true)
    (hfine : s.thatchFine p.step.toNat p.rungLines.toNat = false)
    (hroom : ((s.vis.thatch.filter fun a => a.left || a.handle != p.handle.toNat).filter fun a => !a.left).length < 4) :
    ∃ t, exec (.visThatchArm h p) s = .next t ∧ Safety.Answered h 0x0807 0 [] s t ∧
      t = { s with host := t.host, vis := { s.vis with
        thatch := (s.vis.thatch.filter fun a => a.left || a.handle != p.handle.toNat) ++ [thatchOfReq p] } } :=
  mbCmd_updVis (c := { op := 0x0807, len := 28, rsv := p.rsv != 0, zero := p.step == 0 || p.rungLines == 0, gated := State.visGated })
    hs (by simp [hr]) (Bool.or_eq_false_iff.2 ⟨beq_zero_of_one_le (le_trans (by decide) hstep.1), beq_eq_false_iff_ne.2 hr0⟩) hv
    (visThatchArmBody_ok (s := s.mbStart h) hp hrow hstep hlevel hrung ha hfine hroom)

theorem exec_visThatchArm_zero {p : ThatchReq} (hs : Safety.served s h 28 = true) (hr : p.rsv = 0) (hv : s.visGated = false)
    (hzero : p.step = 0 ∨ p.rungLines = 0) :
    ∃ t, exec (.visThatchArm h p) s = .next t ∧ Safety.Answered h 0x0807 0x0006 [] s t ∧ t = { s with host := t.host } :=
  mbCmd_zero (c := { op := 0x0807, len := 28, rsv := p.rsv != 0, zero := p.step == 0 || p.rungLines == 0, gated := State.visGated })
    hs (by simp [hr]) hv (by simpa using hzero)

/-! ### VIS_GET_DENSITY -/

theorem visGetDensityBody_ok {lines : BitVec 32} {addr : BitVec 64} (hl : lines.toNat ≤ 65536)
    (ha : s.addrOk addr.toNat (32 + 4 * s.barColumns) = true) (hd : s.vis.density = none) (ho : s.owners ≠ []) :
    visGetDensityBody lines addr s =
      ok (s.updVis fun v => { v with density := some { lines := lines.toNat, addr := addr.toNat } }) := by
  have howners : s.owners.isEmpty = false := Bool.eq_false_iff.2 fun e => ho (List.isEmpty_iff.1 e)
  simp only [visGetDensityBody, checked, firstBad, decide_eq_false (not_lt.2 hl), ha, hd, howners, Option.isSome_none, Bool.not_true,
    Bool.false_eq_true, if_false]

theorem exec_visGetDensity {lines : BitVec 32} {addr : BitVec 64} (hs : Safety.served s h 16 = true) (hv : s.visGated = false)
    (hl : 1 ≤ lines.toNat ∧ lines.toNat ≤ 65536) (ha : s.addrOk addr.toNat (32 + 4 * s.barColumns) = true)
    (hd : s.vis.density = none) (ho : s.owners ≠ []) :
    ∃ t, exec (.visGetDensity h lines 0 addr) s = .next t ∧ Safety.Answered h 0x0808 0 [] s t ∧
      t = { s with host := t.host, vis := { s.vis with density := some { lines := lines.toNat, addr := addr.toNat } } } :=
  mbCmd_updVis (c := { op := 0x0808, len := 16, zero := lines == 0, gated := State.visGated }) hs rfl (beq_zero_of_one_le hl.1) hv
    (visGetDensityBody_ok (s := s.mbStart h) hl.2 ha hd ho)

/-! ### VIS_GET_DEFECTS and VIS_GET_STATUS -/

theorem exec_visGetDefects {q : BitVec 32} {count : BitVec 16} (hs : Safety.served s h 8 = true)
    (hc : 1 ≤ count.toNat ∧ count.toNat ≤ 63) :
    ∃ t, exec (.visGetDefects h q count 0) s = .next t ∧
      Safety.Answered h 0x0806 0 ((s.vis.defectsFrom q count.toNat).flatMap DefectRec.bytes) s t ∧ t = { s with host := t.host } :=
  mbCmd_answer (c := { op := 0x0806, len := 8, zero := count == 0 }) (body := visGetDefectsBody q count) hs rfl
    (beq_zero_of_one_le hc.1) rfl (if_neg (not_lt.2 hc.2))

theorem exec_visGetStatus (hs : Safety.served s h 0 = true) :
    ∃ t, exec (.visGetStatus h) s = .next t ∧ Safety.Answered h 0x0809 0 s.visStatus s t ∧ t = { s with host := t.host } :=
  mbCmd_answer (c := { op := 0x0809, len := 0 }) hs rfl rfl rfl rfl

end

/-- Settles O17: each command by its own rules, which change its own setting alone. -/
theorem visionSettingsApply : Obligations.VisionSettingsApply :=
  ⟨fun _ _ _ _ _ _ hs hf hp ha ht => exec_visSetNr hs hf hp ha ht, fun _ _ _ _ _ hs hp => exec_visSetMatrix hs hp,
   fun _ _ _ hs hf hr hbc hw hbl hrows ha => exec_visSetPreview hs hf hr hbc hw hbl hrows ha,
   fun _ _ _ _ _ _ hs hes hp hsrc hd hw ho => exec_visSetEgress hs hes hp hsrc hd hw ho,
   fun _ _ _ _ _ _ hs hes hp hsrc hd hw ho => exec_visSetEgress_open hs hes hp hsrc hd hw ho,
   fun _ _ _ hs hr hr2 he hl hm => exec_visSetDefect hs hr hr2 he hl hm⟩

/-- Settles O18: the two requests by what they leave of the pipeline, the zero fields by the common checks, the reports by their
answers. -/
theorem visionRequestsRun : Obligations.VisionRequestsRun :=
  ⟨fun _ _ _ hs hr hr0 hv hp hrow hstep hlevel hrung ha hfine hroom =>
     exec_visThatchArm hs hr hr0 hv hp hrow hstep hlevel hrung ha hfine hroom,
   fun _ _ _ hs hr hv hzero => exec_visThatchArm_zero hs hr hv hzero,
   fun _ _ _ _ hs hv hl ha hd ho => exec_visGetDensity hs hv hl ha hd ho,
   fun _ _ _ _ hs hc => exec_visGetDefects hs hc, fun _ _ hs => exec_visGetStatus hs⟩

end Sys2Proof.Machine

namespace Sys2Proof.Machine

/-! ## What the work of one camera port touches

Reception, stopping and the pipeline's end share their operations (R190–R201). Each works for one port: of the cameras it changes that
port's at most, and it leaves alone which line is in the pipeline and how many have been processed. `OfPort` says so together with the
frame, once per operation. -/

/-- `t` is `s` but for the parts `ps`; of the cameras only that of port `p` changed, and neither the line in the pipeline nor the count
of those processed did. -/
structure OfPort (p : Nat) (ps : List Part) (s t : State) : Prop where
  only : Only ps s t
  others : ∀ q, q ≠ p → t.camN q = s.camN q
  cur : t.vis.cur = s.vis.cur
  linesDone : t.vis.linesDone = s.vis.linesDone

section
variable {p : Nat} {ps qs : List Part} {s t u : State}

theorem OfPort.refl (s : State) : OfPort p ps s s := ⟨.refl s, fun _ _ => rfl, rfl, rfl⟩

theorem OfPort.trans (h1 : OfPort p ps s t) (h2 : OfPort p ps t u) : OfPort p ps s u :=
  ⟨h1.only.trans h2.only, fun q hq => (h2.others q hq).trans (h1.others q hq), h2.cur.trans h1.cur, h2.linesDone.trans h1.linesDone⟩

theorem OfPort.mono (h : OfPort p ps s t) (hs : ps ⊆ qs) : OfPort p qs s t := ⟨h.only.mono hs, h.others, h.cur, h.linesDone⟩

/-- One operation more. -/
theorem OfPort.step (h1 : OfPort p ps s t) (h2 : OfPort p qs t u) : OfPort p (ps ++ qs) s u :=
  (h1.mono (List.subset_append_left ps qs)).trans (h2.mono (List.subset_append_right ps qs))

theorem OfPort.ite {c : Prop} [Decidable c] (h1 : OfPort p ps s t) (h2 : OfPort p ps s u) : OfPort p ps s (if c then t else u) := by
  split <;> assumption

theorem OfPort.foldl {α : Type} {g : State → α → State} (h : ∀ t x, OfPort p ps t (g t x)) (l : List α) (s : State) :
    OfPort p ps s (l.foldl g s) := by
  induction l generalizing s with
  | nil => exact .refl s
  | cons x l ih => exact (h s x).trans (ih (g s x))

/-- An operation that touches neither the cameras nor the pipeline works for any port. -/
theorem Only.ofPort (h : Only ps s t) (hn : .cam ∉ ps ∧ .vis ∉ ps) : OfPort p ps s t := by
  obtain ⟨hnc, hnv⟩ := hn
  have hcam : t.cam = s.cam := h .cam hnc
  have hvis : t.vis = s.vis := h .vis hnv
  exact ⟨h, fun q _ => by rw [State.camN, hcam]; rfl, by rw [hvis], by rw [hvis]⟩

theorem State.updCam_ofPort (s : State) (p : Nat) (f : Cam → Cam) : OfPort p [.cam] s (s.updCam p f) :=
  ⟨s.updCam_only p f, fun _ hq => State.camN_updCam_ne _ _ _ _ hq, rfl, rfl⟩

/-- A change of the pipeline beside its line and its count. -/
theorem State.updVis_ofPort (s : State) (f : Vis → Vis) (hc : (f s.vis).cur = s.vis.cur) (hd : (f s.vis).linesDone = s.vis.linesDone) :
    OfPort p [.vis] s (s.updVis f) := ⟨s.updVis_only f, fun _ _ => rfl, hc, hd⟩

end

section
variable (s : State) (p : Nat)

theorem State.updTrig_only (n : Nat) (f : Trig → Trig) : Only [.trig] s (s.updTrig n f) := .of_eq rfl (by decide)

/-! ### Defect records and spot regions -/

theorem State.magnitude_only (q : Rat) : Only [.free] s (s.magnitude q).2 := by
  unfold State.magnitude
  dsimp only
  split
  · exact .refl s
  · exact s.drawBelow_only 65536

theorem State.addDefect_ofPort (r : DefectRec) : OfPort p [.vis, .alert] s (s.addDefect r) :=
  (s.updVis_ofPort _ rfl rfl).step ((State.raise_only _ _ _).ofPort (by decide))

theorem State.spotRec_ofPort (x : Spot) : OfPort p [.free, .vis, .alert] s (s.spotRec x) := by
  unfold State.spotRec
  exact .ite (.refl s) (((s.magnitude_only _).ofPort (by decide)).step (State.addDefect_ofPort _ p _))

theorem State.closeSpots_ofPort : OfPort p [.vis, .free, .alert] s (s.closeSpots p) := by
  unfold State.closeSpots
  exact ((s.updVis_ofPort _ rfl rfl).step (.foldl (fun t x => t.spotRec_ofPort p x) _ _)).mono (by decide)

/-! ### A change of owners -/

theorem State.restartCols_only (cs : List Nat) : Only [.loop] s (s.restartCols cs) := s.updLoop_only _

theorem State.restartStreaks_ofPort (cs : List Nat) : OfPort p [.vis] s (s.restartStreaks cs) := s.updVis_ofPort _ rfl rfl

theorem State.ownersMoved_ofPort (s0 : State) : OfPort p [.loop, .vis] s (s0.ownersMoved s) := by
  unfold State.ownersMoved
  exact ((((s.restartCols_only _).ofPort (by decide)).step (State.restartStreaks_ofPort _ p _)).step
    ((State.updLoop_only _ _).ofPort (by decide))).mono (by decide)

/-! ### Preview rows -/

theorem State.dramWrite_only (a : Nat) (bs : List Byte) : Only [.dram] s (s.dramWrite a bs) := s.updDram_only _

theorem State.writeRow_ofPort : OfPort p [.dram, .vis] s s.writeRow := by
  unfold State.writeRow
  exact ((s.dramWrite_only _ _).ofPort (by decide)).step (State.updVis_ofPort _ _ rfl rfl)

theorem State.rowsTo_ofPort (r : Nat) : OfPort p [.dram, .vis] s (s.rowsTo r) :=
  .ite (.refl s) (.foldl (fun t _ => t.writeRow_ofPort p) _ s)

/-! ### Frames that are over -/

theorem State.frameJob_ofPort (u i : Nat) : OfPort p [.cam, .slate] s (s.frameJob p u i) := by
  unfold State.frameJob
  extract_lets e all lines s1
  have h1 : OfPort p [.cam, .slate] s s1 := (s.updCam_ofPort p _).step ((State.updEs_only _ _ _).ofPort (by decide))
  have hslate : ∀ (t : State) (f : Slate → Slate), OfPort p [.slate] t (t.updSlate f) :=
    fun t f => (t.updSlate_only f).ofPort (by decide)
  refine .ite h1 (.ite ?_ ((h1.step (hslate _ _)).mono (by decide)))
  exact ((h1.step ((s1.updEs_only _ _).ofPort (by decide))).step (hslate _ _)).mono (by decide)

theorem State.framesOut_ofPort (n : Nat) : OfPort p [.cam, .slate, .vis, .dram] s (s.framesOut p n) := by
  induction n generalizing s with
  | zero => exact .refl s
  | succ n ih =>
    unfold State.framesOut
    split
    case h_1 => exact .refl s
    case h_2 u f rest _ =>
      refine .ite (.refl s) ?_
      extract_lets s1 s2
      have h1 : OfPort p [.cam] s s1 := s.updCam_ofPort p _
      have h2 : OfPort p [.dram, .vis] s1 s2 := .ite (s1.rowsTo_ofPort p _) (.refl s1)
      have h3 := OfPort.foldl (fun t i => t.frameJob_ofPort p u i) (s2.streamsOf p) s2
      exact (((h1.step h2).step h3).step (ih _)).mono (by decide)

theorem State.linesThrough_ofPort : OfPort p [.cam, .slate, .vis, .dram, .free, .alert] s (s.linesThrough p) := by
  unfold State.linesThrough
  have h1 := s.framesOut_ofPort p (s.camN p).closed.length
  exact .ite ((h1.step (State.closeSpots_ofPort _ p)).mono (by decide)) (h1.mono (by decide))

theorem State.closeFrame_ofPort : OfPort p [.cam, .slate, .vis, .dram, .free, .alert] s (s.closeFrame p) := by
  unfold State.closeFrame
  extract_lets k lone
  split
  case h_1 => exact .refl s
  case h_2 f _ =>
    extract_lets missing bad marks r s1 s2
    have h1 : OfPort p [.cam] s s1 := s.updCam_ofPort p _
    have h2 : OfPort p [.vis, .alert] s1 s2 :=
      .ite ((s1.updVis_ofPort _ rfl rfl).step ((State.raise_only _ _ _).ofPort (by decide))) (.refl s1)
    exact ((h1.step h2).step (s2.linesThrough_ofPort p)).mono (by decide)

/-! ### Strips and the density request -/

theorem State.thatchDone_ofPort : OfPort p [.vis, .free, .dram, .alert] s s.thatchDone := by
  unfold State.thatchDone
  exact (OfPort.step (ps := [.vis]) (.ite (.refl s) (s.updVis_ofPort _ rfl rfl))
    (.foldl (fun t x => (t.thatchWrite_only x).ofPort (by decide)) _ _)).mono (by decide)

theorem State.densityDone_ofPort : OfPort p [.dram, .vis, .alert] s s.densityDone := by
  unfold State.densityDone
  split
  case h_1 => exact .refl s
  case h_2 q _ =>
    exact .ite (.refl s) ((((s.dramWrite_only _ _).ofPort (by decide)).step (State.updVis_ofPort _ _ rfl rfl)).step
      ((State.raise_only _ _ _).ofPort (by decide)))

end

/-! ### The camera of the port

What follows a processed line, a closed frame or a new layout of the raw frame rings changes of its camera the list of closed frames,
the egress lines that wait, and the place of its ring. -/

/-- A camera but for its closed frames, its egress lines and the place of its raw frame ring. -/
def Cam.core (k : Cam) : Cam := { k with closed := [], esLines := [], rawBase := 0 }

/-- What of a camera its core still shows. -/
theorem Cam.of_core {k k' : Cam} (h : k.core = k'.core) : k.st = k'.st ∧ k.startPos = k'.startPos ∧ k.trigs = k'.trigs ∧
    k.frame = k'.frame ∧ k.recs = k'.recs ∧ k.place = k'.place :=
  ⟨(congrArg Cam.st h :), (congrArg Cam.startPos h :), (congrArg Cam.trigs h :), (congrArg Cam.frame h :), (congrArg Cam.recs h :),
    (congrArg Cam.place h :)⟩

section
variable (s : State) (p : Nat)

theorem State.camN_of_only {s t : State} {ps : List Part} (h : Only ps s t) (hn : .cam ∉ ps) (p : Nat) : t.camN p = s.camN p := by
  have hcam : t.cam = s.cam := h .cam hn
  rw [State.camN, hcam]
  rfl

@[simp] theorem State.camN_updEs (k : Nat) (f : EgressStream → EgressStream) : (s.updEs k f).camN p = s.camN p := rfl

theorem State.frameJob_core (u i : Nat) : ((s.frameJob p u i).camN p).core = (s.camN p).core := by
  have hcam : (s.frameJob p u i).camN p =
      (s.updCam p fun k => { k with esLines := k.esLines.set [] i (((s.camN p).esLines.get [] i).filter fun l => l.1 != u) }).camN p := by
    unfold State.frameJob
    extract_lets e all lines s1
    have h1 : s1.camN p = _ := State.camN_updEs _ _ _ _
    split
    · exact h1
    · split
      · rw [State.camN_updSlate, State.camN_updEs, h1]
      · rw [State.camN_updSlate, h1]
  rw [hcam, State.camN_updCam_same]
  rfl

theorem State.frameJobs_core (u : Nat) (l : List Nat) :
    ((l.foldl (fun t i => t.frameJob p u i) s).camN p).core = (s.camN p).core := by
  induction l generalizing s with
  | nil => rfl
  | cons i l ih => exact (ih _).trans (s.frameJob_core p u i)

theorem State.framesOut_core (n : Nat) : ((s.framesOut p n).camN p).core = (s.camN p).core := by
  induction n generalizing s with
  | zero => rfl
  | succ n ih =>
    unfold State.framesOut
    split
    case h_1 => rfl
    case h_2 u f rest _ =>
      split
      · rfl
      · extract_lets s1 s2
        have h1 : (s1.camN p).core = (s.camN p).core := (congrArg Cam.core (State.camN_updCam_same _ _ _)).trans rfl
        have h2 : s2.camN p = s1.camN p :=
          State.camN_of_only (OfPort.ite (p := p) (s1.rowsTo_ofPort p _) (.refl s1)).only (by decide) p
        calc _ = (State.camN _ p).core := ih _
          _ = (s2.camN p).core := s2.frameJobs_core p u _
          _ = _ := by rw [h2, h1]

theorem State.linesThrough_core : ((s.linesThrough p).camN p).core = (s.camN p).core := by
  unfold State.linesThrough
  extract_lets s1
  have h1 : (s1.camN p).core = (s.camN p).core := s.framesOut_core p _
  split
  · rw [State.camN_of_only (s1.closeSpots_ofPort p).only (by decide), h1]
  · exact h1

end

end Sys2Proof.Machine

namespace Sys2Proof.Machine

/-! ## Starting and stopping a camera port -/

section
variable {s : State} {p : Nat} {f : Frame}

/-! ### The frame in reception -/

/-- Without a frame in reception there is none to close. -/
theorem State.closeFrame_none (hf : (s.camN p).frame = none) : s.closeFrame p = s := by
  simp only [State.closeFrame, hf]

/-- A closed frame stands at the head of the records; MISSING counts the lines that are not good and those discarded beyond them (R195). -/
theorem State.closeFrame_open (hf : (s.camN p).frame = some f) : ∃ r : FrameRec,
    r.frame = BitVec.ofNat 32 f.number ∧ r.missing = 256 - f.good.length + f.extra ∧
      ((s.closeFrame p).camN p).recs.head? = some r ∧ ((s.closeFrame p).camN p).frame = none ∧
      ((s.closeFrame p).camN p).place = (s.camN p).place := by
  unfold State.closeFrame
  extract_lets k lone
  split
  case h_1 hn => rw [hf] at hn; cases hn
  case h_2 g hg =>
    obtain rfl : f = g := Option.some.inj (hf.symm.trans hg)
    extract_lets missing bad marks r s1 s2
    have h1 : s1.camN p = _ := State.camN_updCam_same _ _ _
    have h2 : s2.camN p = s1.camN p := State.camN_of_only (ps := [.vis, .alert])
      (.ite (((s1.updVis_only _).step (State.raise_only _ _ _)).mono (by decide)) (.refl s1)) (by decide) p
    have hcore := s2.linesThrough_core p
    rw [h2, h1] at hcore
    obtain ⟨-, -, -, hframe, hrecs, hplace⟩ := Cam.of_core hcore
    exact ⟨r, rfl, rfl, congrArg List.head? hrecs, hframe, hplace⟩

theorem State.closeFrame_place (s : State) (p : Nat) : ((s.closeFrame p).camN p).place = (s.camN p).place := by
  cases hf : (s.camN p).frame with
  | none => rw [State.closeFrame_none hf]
  | some f =>
    obtain ⟨-, -, -, -, -, hplace⟩ := State.closeFrame_open hf
    exact hplace

end

section
variable (s : State) (p : Nat)

/-! ### Starting -/

theorem State.trigN_of_only {s t : State} {ps : List Part} (h : Only ps s t) (hn : .trig ∉ ps) (n : Nat) : t.trigN n = s.trigN n := by
  have htrig : t.trig = s.trig := h .trig hn
  rw [State.trigN, htrig]
  rfl

theorem State.ownTrig_only (t : Nat) : Only [.trig, .alert] s (s.ownTrig t) := by
  have h : ∀ u : State, Only [.trig, .alert] u (u.updTrig t fun x => { x with st := .cameraOwned, active := false }) :=
    fun u => (u.updTrig_only _ _).mono (by decide)
  unfold State.ownTrig
  exact Only.trans (.ite ((s.raise_only _ _).mono (by decide)) (.refl s)) (h _)

theorem State.ownTrig_owned (t : Nat) : ((s.ownTrig t).trigN t).st = .cameraOwned := by
  rw [State.ownTrig, State.trigN_updTrig_same]

/-- A new layout of the raw frame rings changes the places of rings alone (R189). -/
theorem State.layRaw_spec : Only [.cam] s s.layRaw ∧ ∀ q, (s.layRaw.camN q).core = (s.camN q).core := by
  unfold State.layRaw
  refine List.foldlRecOn (motive := fun a : Nat × State => Only [.cam] s a.2 ∧ ∀ q, (a.2.camN q).core = (s.camN q).core) _ _
    ⟨.refl s, fun _ => rfl⟩ fun a ⟨ho, hc⟩ i _ => ?_
  split
  case isFalse => exact ⟨ho, hc⟩
  case isTrue =>
    refine ⟨ho.trans (State.updCam_only _ _ _), fun q => ?_⟩
    by_cases hq : q = i
    · subst hq
      exact (congrArg Cam.core (State.camN_updCam_same _ _ _)).trans (hc q)
    · exact (congrArg Cam.core (State.camN_updCam_ne _ _ _ _ hq)).trans (hc q)

/-- What a start touches, and what it leaves of the port and of its output (R185). -/
theorem State.camStart_spec (pos : Int) :
    Only [.cam, .slate, .vis, .dram, .free, .alert, .loop, .trig] s (s.camStart p pos) ∧
      ((s.camStart p pos).camN p).st = .running ∧ ((s.camStart p pos).camN p).startPos = pos ∧
      ((s.camStart p pos).camN p).trigs = 0 ∧ ((s.camStart p pos).trigN (s.camN p).place.trig).st = .cameraOwned := by
  unfold State.camStart
  extract_lets s0 s1 s2 s3 s4
  have h1 : OfPort p [.cam, .slate, .vis, .dram, .free, .alert] s s1 :=
    ((s.closeFrame_ofPort p).step (State.closeSpots_ofPort _ p)).mono (by decide)
  have h2 : Only [.vis] s1 s2 := .ite (s1.updVis_only _) (.refl s1)
  have h3 : Only [.cam] s2 s3 := s2.updCam_only _ _
  have h4 : Only [.loop] s3 s4 := s3.updLoop_only _
  have hplace : (s2.camN p).place = (s.camN p).place := by
    rw [State.camN_of_only h2 (by decide), State.camN_of_only (State.closeSpots_ofPort _ p).only (by decide), s.closeFrame_place]
  have hcam : s4.camN p = _ := (State.camN_updLoop _ _ _).trans (State.camN_updCam_same _ _ _)
  have htrig : (s4.camN p).place.trig = (s.camN p).place.trig := by rw [hcam, ← hplace]
  rw [htrig]
  have h5 := s4.ownTrig_only (s.camN p).place.trig
  obtain ⟨h6, hlaid⟩ := (s4.ownTrig (s.camN p).place.trig).layRaw_spec
  have h7 := (State.ownersMoved_ofPort (s4.ownTrig (s.camN p).place.trig).layRaw p s0).only
  have hcore := (congrArg Cam.core (State.camN_of_only h7 (by decide) p)).trans (hlaid p)
  rw [State.camN_of_only h5 (by decide), hcam] at hcore
  obtain ⟨hst, hpos, htrigs, -⟩ := Cam.of_core hcore
  refine ⟨((((((h1.only.step h2).step h3).step h4).step h5).step h6).step h7).mono (by decide), hst, hpos, htrigs, ?_⟩
  rw [State.trigN_of_only h7 (by decide), State.trigN_of_only h6 (by decide)]
  exact s4.ownTrig_owned _

/-! ### Stopping -/

/-- A change of owners leaves where the blocks of the loop opened. -/
theorem State.ownersMoved_openPos (s0 : State) : (s0.ownersMoved s).loop.openPos = s.loop.openPos := rfl

/-- What a stop touches (R185). -/
theorem State.camStopped_ofPort : OfPort p [.cam, .trig, .loop, .vis, .slate, .dram, .free, .alert] s (s.camStopped p) := by
  unfold State.camStopped
  extract_lets t1 t2
  have h1 : OfPort p [.cam, .trig] s t1 := (s.updCam_ofPort p _).step ((State.updTrig_only _ _ _).ofPort (by decide))
  have h2 : OfPort p [.loop] t1 t2 := (t1.updLoop_only _).ofPort (by decide)
  have h3 := t2.ownersMoved_ofPort p s
  exact .ite (.refl s) ((((((h1.step h2).step h3).step (State.linesThrough_ofPort _ p)).step (State.thatchDone_ofPort _ p)).step
    (State.densityDone_ofPort _ p)).mono (by decide))

/-- A port that stops gives its output back and closes its block in progress. -/
theorem State.camStopped_spec {s : State} {p : Nat} (hst : (s.camN p).st ≠ .stopped) :
    ((s.camStopped p).camN p).st = .stopped ∧ ((s.camStopped p).trigN (s.camN p).place.trig).st = .idle ∧
      (s.camStopped p).loop.openPos.get none p = none := by
  unfold State.camStopped
  rw [if_neg hst]
  extract_lets t1 t2
  have h3 := (t2.ownersMoved_ofPort p s).only
  have h4 := (s.ownersMoved t2).linesThrough_ofPort p
  have h5 := ((State.thatchDone_ofPort ((s.ownersMoved t2).linesThrough p) p).step (State.densityDone_ofPort _ p)).only
  have htail := h4.only.step h5
  have hcam : t2.camN p = _ :=
    (State.camN_updLoop _ _ _).trans ((State.camN_updTrig _ _ _ _).trans (State.camN_updCam_same _ _ _))
  have hcore := (congrArg Cam.core (State.camN_of_only h5 (by decide) p)).trans ((s.ownersMoved t2).linesThrough_core p)
  rw [State.camN_of_only h3 (by decide), hcam] at hcore
  obtain ⟨hst, -⟩ := Cam.of_core hcore
  refine ⟨hst, ?_, ?_⟩
  · rw [State.trigN_of_only htail (by decide), State.trigN_of_only h3 (by decide), State.trigN_updLoop, State.trigN_updTrig_same]
  · have hloop : _ = (s.ownersMoved t2).loop := htail .loop (by decide)
    rw [hloop, State.ownersMoved_openPos]
    exact SMap.get_set_same (α := Option Int) none _ p none

end

end Sys2Proof.Machine

namespace Sys2Proof.Machine

/-! ## CAM_START, CAM_STOP and the camera reports -/

section
variable {s : State} {h : MbHdr} {port : Byte}

/-- The host interface alone. -/
theorem Only.of_host {t u : State} (ht : t = { u with host := t.host }) : Only [.host, .alert] u t := .of_eq ht (by decide)

theorem camStartBody_ok {pos : BitVec 64} (hp : port.toNat < 4) (hl : (s.camN port.toNat).linkSet = true)
    (hpl : (s.camN port.toNat).placeSet = true) (hg : s.geo.committed.isSome = true) (hpos : s.webPos < pos.toInt)
    (hroom : s.camNoRoom port.toNat = false) : camStartBody port pos s = ok (s.camStart port.toNat pos.toInt) := by
  have hgeo : s.geo.committed.isNone = false := by rw [← Option.not_isSome, hg]; rfl
  simp only [camStartBody, checked, firstBad, camBad_eq_false hp, hl, hpl, hgeo, not_le.2 hpos, hroom, decide_false, Bool.not_true,
    Bool.or_self, Bool.false_eq_true, if_false]

theorem exec_camStart {pos : BitVec 64} (hs : Safety.served s h 16 = true) (hv : s.visGated = false)
    (hstep : s.stepAccepted 3 = false) (hp : port.toNat < 4) (hl : (s.camN port.toNat).linkSet = true)
    (hpl : (s.camN port.toNat).placeSet = true) (hg : s.geo.committed.isSome = true) (hpos : s.webPos < pos.toInt)
    (hroom : s.camNoRoom port.toNat = false) :
    ∃ t, exec (.camStart h port 0 pos) s = .next t ∧ Safety.AnsweredWith h 0x0705 0 [] s t ∧ (t.camN port.toNat).st = .running ∧
      (t.camN port.toNat).startPos = pos.toInt ∧ (t.camN port.toNat).trigs = 0 ∧
      (t.trigN (s.camN port.toNat).place.trig).st = .cameraOwned := by
  have hgate : ((s.mbStart h).visGated || (s.mbStart h).stepAccepted 3) = false := Bool.or_eq_false_iff.2 ⟨hv, hstep⟩
  obtain ⟨ho, hst, hstart, htrigs, howned⟩ := (s.mbStart h).camStart_spec port.toNat pos.toInt
  obtain ⟨t, e, hans, -, -, ht⟩ := mbCmd_done_only (i := .camStart h port 0 pos)
    (c := { op := 0x0705, len := 16, gated := fun s => s.visGated || s.stepAccepted 3 }) hs rfl rfl hgate
    (camStartBody_ok (s := s.mbStart h) hp hl hpl hg hpos hroom) ho (by decide)
  have hhost := Only.of_host ht
  rw [← State.camN_of_only hhost (by decide)] at hst hstart htrigs
  rw [← State.trigN_of_only hhost (by decide)] at howned
  exact ⟨t, e, hans, hst, hstart, htrigs, howned⟩

/-! ### CAM_STOP without its immediate flag -/

theorem State.camStop_stopped {p : Nat} (hst : (s.camN p).st = .stopped) (now : Bool) : s.camStop p now = s := if_pos hst

/-- Amid a frame a port goes on to the frame's last trigger (R185). -/
theorem State.camStop_amid {p : Nat} (hst : (s.camN p).st = .running) (htrigs : (s.camN p).trigs % 256 ≠ 0) :
    s.camStop p false = s.updCam p fun k => { k with st := .stopping } := by
  simp only [State.camStop, hst, htrigs, reduceCtorEq, Bool.false_eq_true, if_false]

/-- Between two frames a port stops. -/
theorem State.camStop_between {p : Nat} (hst : (s.camN p).st = .running) (htrigs : (s.camN p).trigs % 256 = 0) :
    s.camStop p false = s.camStopped p := by
  simp only [State.camStop, hst, htrigs, reduceCtorEq, Bool.false_eq_true, if_false, if_true]

/-- CAM_STOP's rules. -/
def camStopBody (port flags : Byte) (s : State) : Answer :=
  if camBad port then fail 0x0701 s else ok (s.camStop port.toNat (flags.getLsbD 0))

theorem camStopBody_eq (hp : port.toNat < 4) (flags : Byte) :
    camStopBody port flags s = ok (s.camStop port.toNat (flags.getLsbD 0)) :=
  if_neg (Bool.eq_false_iff.1 (camBad_eq_false hp))

theorem exec_camStop_stopped (hs : Safety.served s h 4 = true) (hp : port.toNat < 4) (hv : s.visGated = false)
    (hst : (s.camN port.toNat).st = .stopped) :
    ∃ t, exec (.camStop h port 0 0) s = .next t ∧ Safety.Answered h 0x0706 0 [] s t ∧ t = { s with host := t.host } :=
  mbCmd_answer (c := { op := 0x0706, len := 4, gated := State.visGated }) (body := camStopBody port 0) hs rfl rfl hv
    ((camStopBody_eq hp 0).trans (congrArg ok (State.camStop_stopped (s := s.mbStart h) hst _)))

theorem exec_camStop_amid (hs : Safety.served s h 4 = true) (hp : port.toNat < 4) (hv : s.visGated = false)
    (hst : (s.camN port.toNat).st = .running) (htrigs : (s.camN port.toNat).trigs % 256 ≠ 0) :
    ∃ t, exec (.camStop h port 0 0) s = .next t ∧ Safety.Answered h 0x0706 0 [] s t ∧ t = { s with host := t.host, cam := t.cam } ∧
      t.camN port.toNat = { s.camN port.toNat with st := .stopping } ∧ ∀ q, q ≠ port.toNat → t.camN q = s.camN q :=
  mbCmd_updCam (c := { op := 0x0706, len := 4, gated := State.visGated }) (body := camStopBody port 0) hs rfl rfl hv
    ((camStopBody_eq hp 0).trans (congrArg ok (State.camStop_amid (s := s.mbStart h) hst htrigs)))

theorem exec_camStop_between (hs : Safety.served s h 4 = true) (hp : port.toNat < 4) (hv : s.visGated = false)
    (hst : (s.camN port.toNat).st = .running) (htrigs : (s.camN port.toNat).trigs % 256 = 0) :
    ∃ t, exec (.camStop h port 0 0) s = .next t ∧ Safety.AnsweredWith h 0x0706 0 [] s t ∧ (t.camN port.toNat).st = .stopped ∧
      (t.trigN (s.camN port.toNat).place.trig).st = .idle ∧ t.loop.openPos.get none port.toNat = none ∧
      ∀ q, q ≠ port.toNat → t.camN q = s.camN q := by
  have ho := (s.mbStart h).camStopped_ofPort port.toNat
  have hne : ((s.mbStart h).camN port.toNat).st ≠ .stopped := by
    intro hstop
    rw [show ((s.mbStart h).camN port.toNat).st = .running from hst] at hstop
    cases hstop
  obtain ⟨hstopped, hidle, hopen⟩ := State.camStopped_spec hne
  obtain ⟨t, e, hans, -, -, ht⟩ := mbCmd_done_only (i := .camStop h port 0 0)
    (c := { op := 0x0706, len := 4, gated := State.visGated }) (body := camStopBody port 0) hs rfl rfl hv
    ((camStopBody_eq hp 0).trans (congrArg ok (State.camStop_between (s := s.mbStart h) hst htrigs))) ho.only (by decide)
  have hhost := Only.of_host ht
  have hloop : t.loop = ((s.mbStart h).camStopped port.toNat).loop := hhost .loop (by decide)
  rw [← State.camN_of_only hhost (by decide)] at hstopped
  rw [← State.trigN_of_only hhost (by decide)] at hidle
  rw [← hloop] at hopen
  exact ⟨t, e, hans, hstopped, hidle, hopen, fun q hq => (State.camN_of_only hhost (by decide) q).trans (ho.others q hq)⟩

/-- While the cameras are gated a CAM_STOP with either value of its flag is refused (R35, log 100). -/
theorem exec_camStop_gated {flags : Byte} (hs : Safety.served s h 4 = true) (hv : s.visGated = true) :
    ∃ t, exec (.camStop h port (flags &&& 1) 0) s = .next t ∧ Safety.Answered h 0x0706 0x0005 [] s t ∧
      t = { s with host := t.host } := by
  have hflag : (flags &&& 1).toNat ≤ 1 := Nat.and_le_right
  exact mbCmd_gated (c := { op := 0x0706, len := 4, rsv := 1 < (flags &&& 1).toNat || (0 : BitVec 16) != 0, gated := State.visGated })
    (body := camStopBody port (flags &&& 1)) hs
    (Bool.or_eq_false_iff.2 ⟨decide_eq_false (not_lt.2 hflag), rfl⟩) hv

/-! ### CAM_GET_STATUS and CAM_GET_FRAMES -/

theorem exec_camGetStatus (hs : Safety.served s h 4 = true) (hp : port.toNat < 4) :
    ∃ t, exec (.camGetStatus h port 0) s = .next t ∧ Safety.Answered h 0x0707 0 (s.camN port.toNat).bytes s t ∧
      t = { s with host := t.host } :=
  mbCmd_answer (c := { op := 0x0707, len := 4 })
    (body := fun s => if camBad port then fail 0x0701 s else okWith (s.camN port.toNat).bytes s) hs rfl rfl rfl
    (if_neg (Bool.eq_false_iff.1 (camBad_eq_false hp)))

theorem exec_camGetFrames {count : Byte} (hs : Safety.served s h 4 = true) (hp : port.toNat < 4) (hc : 1 ≤ count.toNat)
    (hc16 : count.toNat ≤ 16) :
    ∃ t, exec (.camGetFrames h port count 0) s = .next t ∧
      Safety.Answered h 0x0708 0 ((s.camN port.toNat).frameBytesOf count.toNat) s t ∧ t = { s with host := t.host } :=
  mbCmd_answer (c := { op := 0x0708, len := 4, zero := count == 0 }) (body := camGetFramesBody port count) hs rfl
    (beq_zero_of_one_le hc) rfl (by
      simp only [camGetFramesBody, checked, firstBad, camBad_eq_false hp, not_lt.2 hc16, decide_false, Bool.false_eq_true, if_false]
      rfl)

end

/-- Settles O16: a start and a stop by what they leave of the port and its output, the other forms by their answers. -/
theorem cameraStartsAndStops : Obligations.CameraStartsAndStops :=
  ⟨fun _ _ _ _ hs hv hstep hp hl hpl hg hpos hroom => exec_camStart hs hv hstep hp hl hpl hg hpos hroom,
   fun _ _ _ hs hp hv hst => exec_camStop_stopped hs hp hv hst,
   fun _ _ _ hs hp hv hst htrigs => exec_camStop_amid hs hp hv hst htrigs,
   fun _ _ _ hs hp hv hst htrigs => exec_camStop_between hs hp hv hst htrigs,
   fun _ _ _ _ hs hv => exec_camStop_gated hs hv, fun _ _ _ hs hp => exec_camGetStatus hs hp,
   fun _ _ _ _ hs hp hc hc16 => exec_camGetFrames hs hp hc hc16⟩

end Sys2Proof.Machine

namespace Sys2Proof.Machine

/-! ## Triggers and reception of a camera port -/

section
variable {s : State} {p : Nat}

@[simp] theorem State.camN_raise (s : State) (r : AlertReg) (n q : Nat) : (s.raise r n).camN q = s.camN q := rfl

/-- An event of the powered chip has its effect `f s` and sends interrupts. -/
theorem evt_only {f : State → State} {ps : List Part} (ha : s.alive = true) (hf : Only ps s (f s))
    (hn : .host ∉ ps ∧ .pending ∉ ps ∧ .fuse ∉ ps) :
    ∃ t, evt f s = .next t ∧ Safety.Alerted s t ∧ (.alert ∉ ps → Safety.Quiet s t) ∧ Only (.host :: ps) s t ∧
      Only [.host] (f s) t := by
  obtain ⟨pba, msi, hx⟩ := evt_sent ha hf hn.2
  exact ⟨_, hx, hf.alerted pba msi hn.1, fun hal => hf.quiet pba msi ⟨hn.1, hal⟩, hf.sent pba msi,
    (Only.refl (ps := []) (f s)).sent pba msi⟩

/-- An event that works for one camera port leaves the other cameras. -/
theorem evt_ofPort {f : State → State} {ps : List Part} (ha : s.alive = true) (hf : OfPort p ps s (f s))
    (hn : .host ∉ ps ∧ .pending ∉ ps ∧ .fuse ∉ ps) :
    ∃ t, evt f s = .next t ∧ Safety.Alerted s t ∧ (.alert ∉ ps → Safety.Quiet s t) ∧ Only (.host :: ps) s t ∧
      Only [.host] (f s) t ∧ ∀ q, q ≠ p → t.camN q = s.camN q := by
  obtain ⟨t, hx, halerted, hquiet, ho, hsent⟩ := evt_only ha hf.only hn
  exact ⟨t, hx, halerted, hquiet, ho, hsent, fun q hq => (State.camN_of_only hsent (by decide) q).trans (hf.others q hq)⟩

/-- A standing alert bit stands in what else was done. -/
theorem raised_of_only {t : State} {r : AlertReg} {n : Nat} (ho : Only [.host] s t) (h : Safety.Raised r n s) : Safety.Raised r n t := by
  have halert : t.host.alert = s.host.alert := ho .alert (by decide)
  rw [Safety.Raised, State.alertOf, halert]
  exact h

/-- An event that touches one camera alone. -/
theorem evt_cam {f : State → State} (ha : s.alive = true) (hf : OfPort p [.cam] s (f s)) :
    ∃ t, evt f s = .next t ∧ Safety.Quiet s t ∧ t = { s with host := t.host, cam := t.cam } ∧ t.camN p = (f s).camN p ∧
      ∀ q, q ≠ p → t.camN q = s.camN q := by
  obtain ⟨t, hx, -, hquiet, ho, hsent, hothers⟩ := evt_ofPort ha hf (by decide)
  exact ⟨t, hx, hquiet (by decide), (ho.mono (qs := [.host, .alert, .cam]) (by decide)).eq_patch,
    State.camN_of_only hsent (by decide) p, hothers⟩

/-- An event that changes one camera. -/
theorem evt_updCam {f : State → State} {g : Cam → Cam} (ha : s.alive = true) (hf : f s = s.updCam p g) :
    ∃ t, evt f s = .next t ∧ Safety.Quiet s t ∧ t = { s with host := t.host, cam := t.cam } ∧ t.camN p = g (s.camN p) ∧
      ∀ q, q ≠ p → t.camN q = s.camN q := by
  obtain ⟨t, hx, hquiet, ht, hown, hothers⟩ := evt_cam (f := f) (p := p) ha (hf ▸ s.updCam_ofPort p g)
  exact ⟨t, hx, hquiet, ht, by rw [hown, hf, State.camN_updCam_same], hothers⟩

/-! ### Triggers -/

/-- A camera that files a trigger in its slot (R185). -/
def Cam.filed (pos now : Int) (k : Cam) : Cam :=
  Cam.forget { k with slots := k.slots.set 0 k.trigs pos, times := k.times.set 0 k.trigs now, lastTrig := some now, trigs := k.trigs + 1 }

/-- The newest trigger's slot is not among those forgotten. -/
theorem Cam.filed_slot (pos now : Int) (k : Cam) : (k.filed pos now).slots.get 0 k.trigs = pos := by
  have hkeep : decide (k.trigs < ((k.trigs + 1) / 256 - 3) * 256) = false := decide_eq_false (by omega)
  have hfilter : (k.filed pos now).slots =
      (k.slots.set 0 k.trigs pos).filter fun e => !decide (e.1 < ((k.trigs + 1) / 256 - 3) * 256) := by
    simp only [Cam.filed, Cam.forget, ← decide_not, not_lt]
  rw [hfilter, SMap.get_filter 0 (fun i => decide (i < ((k.trigs + 1) / 256 - 3) * 256)), hkeep, if_neg Bool.false_ne_true,
    SMap.get_set_same]

/-- A due trigger in time and without a pending exposure set. -/
theorem State.camTrigger_due (hd : s.trigDue p = true) (hst : (s.camN p).st ≠ .stopping) (hpend : (s.camN p).pend = none)
    (hl : s.trigWasLate p = false) : s.camTrigger p =
      (s.updTrig (s.camN p).place.trig fun t => { t with active := true }).updCam p (Cam.filed s.webPos s.now) := by
  have hexp : s.applyExposure p = s := by simp only [State.applyExposure, hpend]
  have hgoes : (((s.updTrig (s.camN p).place.trig fun t => { t with active := true }).updCam p (Cam.filed s.webPos s.now)).camN p).st ≠
      .stopping := by
    rw [State.camN_updCam_same, State.camN_updTrig]
    exact hst
  simp only [State.camTrigger, hd, hl, hexp, Bool.not_true, Bool.false_eq_true, if_false]
  exact if_neg fun hstop => hgoes hstop.1

theorem exec_camTrigger (ha : s.alive = true) (hd : s.trigDue p = true) (hst : (s.camN p).st ≠ .stopping)
    (hpend : (s.camN p).pend = none) (hl : s.trigWasLate p = false) :
    ∃ t, exec (.camTrigger p) s = .next t ∧ Safety.Quiet s t ∧ t = { s with host := t.host, cam := t.cam, trig := t.trig } ∧
      (t.camN p).trigs = (s.camN p).trigs + 1 ∧ (t.camN p).slots.get 0 (s.camN p).trigs = s.webPos ∧
      (t.camN p).lastTrig = some s.now ∧ (t.trigN (s.camN p).place.trig).active = true ∧ ∀ q, q ≠ p → t.camN q = s.camN q := by
  have heq := State.camTrigger_due hd hst hpend hl
  have hf : OfPort p [.trig, .cam] s (s.camTrigger p) := by
    rw [heq]
    exact ((s.updTrig_only _ _).ofPort (by decide)).step (State.updCam_ofPort _ p _)
  have hcam : (s.camTrigger p).camN p = Cam.filed s.webPos s.now (s.camN p) := by
    rw [heq, State.camN_updCam_same, State.camN_updTrig]
  obtain ⟨t, hx, -, hquiet, ho, hsent, hothers⟩ := evt_ofPort ha hf (by decide)
  have hown : t.camN p = Cam.filed s.webPos s.now (s.camN p) := (State.camN_of_only hsent (by decide) p).trans hcam
  refine ⟨t, hx, hquiet (by decide), (ho.mono (qs := [.host, .alert, .cam, .trig]) (by decide)).eq_patch, ?_, ?_, ?_, ?_, hothers⟩
  · rw [hown]; rfl
  · rw [hown, Cam.filed_slot]
  · rw [hown]; rfl
  · rw [State.trigN_of_only hsent (by decide), heq, State.trigN_updCam, State.trigN_updTrig_same]

/-! ### Packets -/

/-- A packet with a good header does what it says (Table 06-1). -/
theorem State.packet_good (hr : s.receives p = true) (f : State → State) : State.packet p 0 f s = f s := by
  simp [State.packet, State.withEcc, hr]

/-- An uncorrectable header discards a short packet, counted. -/
theorem State.packet_bad (hr : s.receives p = true) (f : State → State) :
    State.packet p 2 f s = s.updCam p fun k => { k with eccUncorr := k.eccUncorr + 1 } := by
  simp [State.packet, State.withEcc, hr]

/-! ### Frame start and line start -/

theorem State.openFrame_ofPort (s : State) (p : Nat) : OfPort p [.cam] s (s.openFrame p) := .ite (.refl s) (s.updCam_ofPort p _)

/-- A frame opens under the next number where triggers of it were issued (R183). -/
theorem State.openFrame_spec (htrigs : (s.camN p).frames * 256 < (s.camN p).trigs) :
    ((s.openFrame p).camN p).frame.map (·.number) = some (s.camN p).frames ∧
      ((s.openFrame p).camN p).frames = (s.camN p).frames + 1 ∧ ((s.openFrame p).camN p).frameEpoch = (s.camN p).epoch := by
  simp only [State.openFrame, if_neg (not_le.2 htrigs), State.camN_updCam_same, Option.map_some, and_self]

/-- What a frame start with a good header does: a frame still open is closed, and the next opens. -/
def State.startFrame (p : Nat) (s : State) : State :=
  ((s.closeFrame p).openFrame p).updCam p fun k => { k with curLine := [] }

theorem exec_csiFsRx (ha : s.alive = true) (hr : s.receives p = true) (hf : (s.camN p).frame = none)
    (htrigs : (s.camN p).frames * 256 < (s.camN p).trigs) :
    ∃ t, exec (.csiFsRx ⟨p, 0⟩) s = .next t ∧ Safety.Quiet s t ∧ t = { s with host := t.host, cam := t.cam } ∧
      (t.camN p).frame.map (·.number) = some (s.camN p).frames ∧ (t.camN p).frames = (s.camN p).frames + 1 ∧
      (t.camN p).frameEpoch = (s.camN p).epoch ∧ ∀ q, q ≠ p → t.camN q = s.camN q := by
  have heq : State.packet p 0 (State.startFrame p) s = (s.openFrame p).updCam p fun k => { k with curLine := [] } := by
    rw [State.packet_good hr, State.startFrame, State.closeFrame_none hf]
  obtain ⟨t, hx, hquiet, ht, hown, hothers⟩ := evt_cam (f := State.packet p 0 (State.startFrame p)) (p := p) ha
    (heq ▸ (s.openFrame_ofPort p).trans (State.updCam_ofPort _ p _))
  rw [heq, State.camN_updCam_same] at hown
  obtain ⟨hnumber, hframes, hepoch⟩ := State.openFrame_spec htrigs
  exact ⟨t, hx, hquiet, ht, by rw [hown]; exact hnumber, by rw [hown]; exact hframes, by rw [hown]; exact hepoch, hothers⟩

theorem exec_csiLsRx {vc n : Nat} (ha : s.alive = true) (hr : s.receives p = true) :
    ∃ t, exec (.csiLsRx ⟨p, 0⟩ vc n) s = .next t ∧ Safety.Quiet s t ∧ t = { s with host := t.host, cam := t.cam } ∧
      t.camN p = { s.camN p with curLine := (s.camN p).curLine.set 0 vc n } ∧ ∀ q, q ≠ p → t.camN q = s.camN q :=
  evt_updCam ha (State.packet_good hr fun s => s.updCam p fun k => { k with curLine := k.curLine.set 0 vc n })

theorem exec_csiOtherPacketRx (ha : s.alive = true) (hr : s.receives p = true) :
    ∃ t, exec (.csiOtherPacketRx ⟨p, 0⟩) s = .next t ∧ Safety.Quiet s t ∧ t = { s with host := t.host, cam := t.cam } ∧
      t.camN p = { s.camN p with dtOther := (s.camN p).dtOther + 1 } ∧ ∀ q, q ≠ p → t.camN q = s.camN q :=
  evt_updCam ha (State.packet_good hr fun s => s.updCam p fun k => { k with dtOther := k.dtOther + 1 })

/-- An uncorrectable header discards each of the four short packets. -/
theorem exec_csiShort_bad {vc n : Nat} {i : Instr} (ha : s.alive = true) (hr : s.receives p = true)
    (hi : i = .csiFsRx ⟨p, 2⟩ ∨ i = .csiLsRx ⟨p, 2⟩ vc n ∨ i = .csiOtherPacketRx ⟨p, 2⟩ ∨ i = .csiFeRx ⟨p, 2⟩) :
    ∃ t, exec i s = .next t ∧ Safety.Quiet s t ∧ t = { s with host := t.host, cam := t.cam } ∧
      t.camN p = { s.camN p with eccUncorr := (s.camN p).eccUncorr + 1 } ∧ ∀ q, q ≠ p → t.camN q = s.camN q := by
  obtain rfl | rfl | rfl | rfl := hi
  · exact evt_updCam ha (State.packet_bad hr (State.startFrame p))
  · exact evt_updCam ha (State.packet_bad hr fun s => s.updCam p fun k => { k with curLine := k.curLine.set 0 vc n })
  · exact evt_updCam ha (State.packet_bad hr fun s => s.updCam p fun k => { k with dtOther := k.dtOther + 1 })
  · exact evt_updCam ha (State.packet_bad hr (State.closeFrame p))

/-! ### Lines -/

theorem exec_csiLineRx_eq (hr : s.receives p = true) (l : CsiLine) : exec (.csiLineRx p l) s = evt (State.csiLine p l) s :=
  congrArg (fun u => done s (if s.alive then u else s)) (if_pos hr)

theorem State.updFrame_ofPort (s : State) (p : Nat) (f : Frame → Frame) : OfPort p [.cam] s (s.updFrame p f) := s.updCam_ofPort p _

@[simp] theorem State.camN_updFrame (s : State) (p : Nat) (f : Frame → Frame) :
    (s.updFrame p f).camN p = { s.camN p with frame := (s.camN p).frame.map f } := State.camN_updCam_same _ _ _

/-- A line whose number is out of range, or has come already, is discarded and counted (R184). -/
theorem State.csiLine_badNumber {l : CsiLine} (he : l.ecc = 0) (hvc : (s.camN p).link.vcs.contains l.vc = true)
    (hn : (s.camN p).badNumber l.vc = true) : s.csiLine p l =
      (s.updFrame p fun f => { f with extra := f.extra + 1 }).updCam p fun k => { k with
        seqErr := k.seqErr + 1, unfilteredNext := true } := by
  have hecc : ¬ l.ecc = 2 ∧ ¬ l.ecc = 1 := by omega
  simp only [State.csiLine, State.discardLine, if_neg hecc.1, if_neg hecc.2, hvc, hn, Bool.not_true, Bool.false_eq_true, if_false, if_true]

/-- A line under an uncorrectable header is discarded, its frame marked where one is open. -/
theorem State.csiLine_uncorrectable {l : CsiLine} (he : l.ecc = 2) : s.csiLine p l =
    ((s.updCam p fun k => { k with eccUncorr := k.eccUncorr + 1, unfilteredNext := true }).updFrame p fun f => { f with
      marks := f.marks ||| 4 }).raise .cam 1 := by
  simp [State.csiLine, State.discardLine, he]

theorem exec_csiLineRx_badNumber {l : CsiLine} (ha : s.alive = true) (hr : s.receives p = true) (he : l.ecc = 0)
    (hvc : (s.camN p).link.vcs.contains l.vc = true) (hn : (s.camN p).badNumber l.vc = true) :
    ∃ t, exec (.csiLineRx p l) s = .next t ∧ Safety.Quiet s t ∧ t = { s with host := t.host, cam := t.cam } ∧
      (t.camN p).seqErr = (s.camN p).seqErr + 1 ∧ (t.camN p).fifo = (s.camN p).fifo ∧ ∀ q, q ≠ p → t.camN q = s.camN q := by
  have heq := State.csiLine_badNumber he hvc hn
  obtain ⟨t, hx, hquiet, ht, hown, hothers⟩ := evt_cam (f := State.csiLine p l) (p := p) ha
    (heq ▸ (s.updFrame_ofPort p _).trans (State.updCam_ofPort _ p _))
  rw [heq, State.camN_updCam_same, State.camN_updFrame] at hown
  exact ⟨t, (exec_csiLineRx_eq hr l).trans hx, hquiet, ht, by rw [hown], by rw [hown], hothers⟩

theorem exec_csiLineRx_uncorrectable {l : CsiLine} (ha : s.alive = true) (hr : s.receives p = true) (he : l.ecc = 2) :
    ∃ t, exec (.csiLineRx p l) s = .next t ∧ Safety.Alerted s t ∧ Safety.Raised .cam 1 t ∧
      t = { s with host := t.host, cam := t.cam } ∧ (t.camN p).eccUncorr = (s.camN p).eccUncorr + 1 ∧
      (t.camN p).fifo = (s.camN p).fifo ∧ ∀ q, q ≠ p → t.camN q = s.camN q := by
  have heq := State.csiLine_uncorrectable (s := s) (p := p) he
  have hf : OfPort p [.cam, .alert] s (s.csiLine p l) := by
    rw [heq]
    exact ((s.updCam_ofPort p _).trans (State.updFrame_ofPort _ p _)).step ((State.raise_only _ _ _).ofPort (by decide))
  have hraised : Safety.Raised .cam 1 (s.csiLine p l) := by rw [heq]; exact State.raised_raise (by decide)
  have hcam : ((s.csiLine p l).camN p).eccUncorr = (s.camN p).eccUncorr + 1 ∧ ((s.csiLine p l).camN p).fifo = (s.camN p).fifo := by
    simp only [heq, State.camN_raise, State.camN_updFrame, State.camN_updCam_same, and_self]
  obtain ⟨t, hx, halerted, -, ho, hsent, hothers⟩ := evt_ofPort ha hf (by decide)
  have hown : t.camN p = (s.csiLine p l).camN p := State.camN_of_only hsent (by decide) p
  exact ⟨t, (exec_csiLineRx_eq hr l).trans hx, halerted, raised_of_only hsent hraised,
    (ho.mono (qs := [.host, .alert, .cam]) (by decide)).eq_patch, by rw [hown, hcam.1], by rw [hown, hcam.2], hothers⟩

/-! ### A good line under single exposure -/

theorem Dram.writeAll_mapHotspot (d : Dram) (a : Nat) (bs : List Byte) : (d.writeAll a bs).mapHotspot = d.mapHotspot := by
  induction bs generalizing d a with
  | nil => rfl
  | cons b bs ih => exact ih _ _

theorem State.rawWrite_only (s : State) (p n : Nat) (isShort : Bool) (smp : List Nat) : Only [.dram] s (s.rawWrite p n isShort smp) := by
  unfold State.rawWrite
  dsimp only
  split
  · exact .refl s
  · exact s.dramWrite_only _ _

theorem State.rawWrite_mapHotspot (s : State) (p n : Nat) (isShort : Bool) (smp : List Nat) :
    (s.rawWrite p n isShort smp).dram.mapHotspot = s.dram.mapHotspot := by
  unfold State.rawWrite
  dsimp only
  split
  · rfl
  · exact s.dram.writeAll_mapHotspot _ _

theorem State.markHotspot_none (hh : s.dram.mapHotspot = false) (u : Nat) : s.markHotspot p u = s := by
  simp [State.markHotspot, hh]

/-- A complete line with room enters the FIFO of its camera and is counted (R189). -/
theorem State.pushLine_room {f : Frame} (n : Nat) (long : List Nat) (hf : (s.camN p).frame = some f)
    (hroom : (s.camN p).fifo.length < 64) (hh : s.dram.mapHotspot = false) :
    OfPort p [.cam] s (s.pushLine p n long none) ∧ ∃ l : CamLine, l.frame = f.number ∧ l.line = n ∧ l.long = long ∧
      ((s.pushLine p n long none).camN p).fifo = (s.camN p).fifo ++ [l] ∧
      ((s.pushLine p n long none).camN p).linesOk = (s.camN p).linesOk + 1 := by
  unfold State.pushLine
  extract_lets k s1
  split
  case h_1 hn => rw [hf] at hn; cases hn
  case h_2 g hg =>
    obtain rfl : f = g := Option.some.inj (hf.symm.trans hg)
    extract_lets l
    rw [if_neg (not_le.2 hroom)]
    have hs2 : ∀ g : Cam → Cam, (s1.updCam p g).markHotspot p f.uid = s1.updCam p g := fun g =>
      State.markHotspot_none (s := s1.updCam p g) hh _
    rw [hs2, State.camN_updCam_same, State.camN_updFrame]
    exact ⟨(s.updFrame_ofPort p _).trans (s1.updCam_ofPort p _), l, rfl, rfl, rfl, rfl, rfl⟩

/-- A good line under single exposure is filed as seen, its samples go to the raw frame ring, and it is complete (R184, R189). -/
theorem State.csiLine_single {l : CsiLine} {f : Frame} (hf : (s.camN p).frame = some f) (he : l.ecc = 0)
    (hshort : (s.camN p).link.vcShort = none) (hl : l.vc = (s.camN p).link.vcLong) (hn : (s.camN p).badNumber l.vc = false)
    (hlen : l.samples.length = (s.camN p).link.pixels * (s.camN p).link.channels) (hcrc : l.crcOk = true) :
    ∃ u : State, OfPort p [.cam, .dram] s u ∧ u.dram.mapHotspot = s.dram.mapHotspot ∧
      u.camN p = { s.camN p with frame := some { f with seen := ((s.camN p).curLine.get 0 l.vc, l.vc) :: f.seen } } ∧
      s.csiLine p l = u.pushLine p ((s.camN p).curLine.get 0 l.vc) l.samples none := by
  have hecc : ¬ l.ecc = 2 ∧ ¬ l.ecc = 1 := by omega
  have hvc : (s.camN p).link.vcs.contains l.vc = true := by simp [CamLink.vcs, hl]
  have hlong : (some l.vc == (s.camN p).link.vcShort) = false := by rw [hshort]; rfl
  have hwrite := fun (t : State) n smp => t.rawWrite_only p n false smp
  refine ⟨(s.updFrame p fun f => { f with seen := ((s.camN p).curLine.get 0 l.vc, l.vc) :: f.seen }).rawWrite p
      ((s.camN p).curLine.get 0 l.vc) false l.samples,
    (s.updFrame_ofPort p _).step ((hwrite _ _ _).ofPort (by decide)), State.rawWrite_mapHotspot _ p _ false _, ?_, ?_⟩
  · rw [State.camN_of_only (hwrite _ _ _) (by decide), State.camN_updFrame, hf]
    rfl
  · simp only [State.csiLine, if_neg hecc.1, if_neg hecc.2, hvc, hn, hlen, hcrc, hlong, Bool.not_true, Bool.false_eq_true, if_false,
      ne_eq, not_true_eq_false]
    rw [State.takeExposure, State.camN_of_only (hwrite _ _ _) (by decide), State.camN_updFrame, hshort]
    rfl

theorem exec_csiLineRx_single {l : CsiLine} {f : Frame} (ha : s.alive = true) (hr : s.receives p = true)
    (hf : (s.camN p).frame = some f) (he : l.ecc = 0) (hshort : (s.camN p).link.vcShort = none)
    (hl : l.vc = (s.camN p).link.vcLong)
    (hn : (s.camN p).badNumber l.vc = false) (hlen : l.samples.length = (s.camN p).link.pixels * (s.camN p).link.channels)
    (hcrc : l.crcOk = true) (hroom : (s.camN p).fifo.length < 64) (hh : s.dram.mapHotspot = false) :
    ∃ t, exec (.csiLineRx p l) s = .next t ∧ Safety.Quiet s t ∧ t = { s with host := t.host, cam := t.cam, dram := t.dram } ∧
      (t.camN p).fifo.length = (s.camN p).fifo.length + 1 ∧ (t.camN p).linesOk = (s.camN p).linesOk + 1 ∧
      ((t.camN p).fifo.getLast?).map (fun x => (x.frame, x.line, x.long)) =
        some (f.number, (s.camN p).curLine.get 0 l.vc, l.samples) ∧
      ∀ q, q ≠ p → t.camN q = s.camN q := by
  obtain ⟨u, hu, hhot, hcam, heq⟩ := State.csiLine_single hf he hshort hl hn hlen hcrc
  obtain ⟨hpush, x, hnumber, hline, hlong, hfifo, hcount⟩ := State.pushLine_room (s := u) (p := p) ((s.camN p).curLine.get 0 l.vc)
    l.samples (by rw [hcam]) (by rw [hcam]; exact hroom) (hhot.trans hh)
  have hf' : OfPort p [.cam, .dram] s (s.csiLine p l) := heq ▸ (hu.step hpush).mono (by decide)
  rw [← heq, hcam] at hfifo hcount
  obtain ⟨t, hx, -, hquiet, ho, hsent, hothers⟩ := evt_ofPort ha hf' (by decide)
  rw [← State.camN_of_only hsent (by decide)] at hfifo hcount
  refine ⟨t, (exec_csiLineRx_eq hr l).trans hx, hquiet (by decide),
    (ho.mono (qs := [.host, .alert, .cam, .dram]) (by decide)).eq_patch, ?_, hcount, ?_, hothers⟩
  · rw [hfifo, List.length_append]; rfl
  · rw [hfifo, List.getLast?_concat, Option.map_some, hnumber, hline, hlong]

/-! ### Frame end -/

theorem exec_csiFeRx {f : Frame} (ha : s.alive = true) (hr : s.receives p = true) (hf : (s.camN p).frame = some f) :
    ∃ t, exec (.csiFeRx ⟨p, 0⟩) s = .next t ∧
      t = { s with host := t.host, cam := t.cam, slate := t.slate, vis := t.vis, dram := t.dram, free := t.free } ∧
      (t.camN p).frame = none ∧ ((t.camN p).recs.head?).map (·.frame) = some (BitVec.ofNat 32 f.number) ∧
      ((t.camN p).recs.head?).map (·.missing) = some (256 - f.good.length + f.extra) := by
  have heq : State.packet p 0 (State.closeFrame p) s = s.closeFrame p := State.packet_good hr _
  have hfe : OfPort p [.cam, .slate, .vis, .dram, .free, .alert] s (State.packet p 0 (State.closeFrame p) s) :=
    heq ▸ s.closeFrame_ofPort p
  obtain ⟨r, hnumber, hmissing, hrec, hopen, -⟩ := State.closeFrame_open hf
  obtain ⟨t, hx, -, -, ho, hsent, -⟩ := evt_ofPort (f := State.packet p 0 (State.closeFrame p)) ha hfe (by decide)
  rw [← heq, ← State.camN_of_only hsent (by decide)] at hrec hopen
  exact ⟨t, hx, (ho.mono (qs := [.host, .alert, .cam, .slate, .vis, .dram, .free]) (by decide)).eq_patch, hopen,
    by rw [hrec, Option.map_some, hnumber], by rw [hrec, Option.map_some, hmissing]⟩

end

end Sys2Proof.Machine

namespace Sys2Proof.Machine

/-! ## The pipeline takes a line -/

section
variable {s : State} {p : Nat} {l : CamLine} {ls : List CamLine}

theorem State.lineStart_next (hc : s.vis.cur = none) (hv : s.visGated = false) (hp : s.nextPort = some p)
    (hl : (s.camN p).fifo = l :: ls) : s.lineStart =
      (s.updCam p fun k => { k with fifo := ls }).updVis fun v => { v with cur := some (p, l), rrNext := (p + 1) % 4 } := by
  simp only [State.lineStart, hc, hv, hp, hl, Option.isSome_none, Bool.or_self, Bool.false_eq_true, if_false]

theorem exec_pipelineLineStart (ha : s.alive = true) (hc : s.vis.cur = none) (hv : s.visGated = false) (hp : s.nextPort = some p)
    (hl : (s.camN p).fifo = l :: ls) :
    ∃ t, exec .pipelineLineStart s = .next t ∧ Safety.Quiet s t ∧
      t = { s with host := t.host, cam := t.cam, vis := { s.vis with cur := some (p, l), rrNext := (p + 1) % 4 } } ∧
      t.camN p = { s.camN p with fifo := ls } ∧ ∀ q, q ≠ p → t.camN q = s.camN q := by
  have heq := State.lineStart_next hc hv hp hl
  have hf : Only [.cam, .vis] s s.lineStart := heq ▸ (s.updCam_only p _).step (State.updVis_only _ _)
  obtain ⟨t, hx, -, hquiet, ho, hsent⟩ := evt_only ha hf (by decide)
  have hvis : t.vis = { s.vis with cur := some (p, l), rrNext := (p + 1) % 4 } :=
    (show t.vis = s.lineStart.vis from hsent .vis (by decide)).trans (by rw [heq]; rfl)
  have hcam : ∀ q, t.camN q = (s.updCam p fun k => { k with fifo := ls }).camN q := fun q =>
    (State.camN_of_only hsent (by decide) q).trans (by rw [heq, State.camN_updVis])
  refine ⟨t, hx, hquiet (by decide), ?_, (hcam p).trans (State.camN_updCam_same _ _ _),
    fun q hq => (hcam q).trans (State.camN_updCam_ne _ _ _ _ hq)⟩
  rw [← hvis]
  exact (ho.mono (qs := [.host, .alert, .cam, .vis]) (by decide)).eq_patch

end

/-! ## What a processed line feeds -/

section
variable (s : State) (p : Nat)

/-! ### Before the line is developed -/

theorem State.applyFlat_ofPort (f : Flat) : OfPort p [.cal, .cam, .loop, .vis] s (s.applyFlat p f) := by
  unfold State.applyFlat
  exact ((((((s.updData_only _).ofPort (by decide)).step (State.updCam_ofPort _ p _)).step
    ((State.restartCols_only _ _).ofPort (by decide))).step (State.restartStreaks_ofPort _ p _)).step
    ((State.updLoop_only _ _).ofPort (by decide))).mono (by decide)

theorem State.frameBoundary_ofPort (f : Nat) : OfPort p [.cal, .cam, .loop, .vis] s (s.frameBoundary p f) := by
  unfold State.frameBoundary
  extract_lets s1
  have h1 : OfPort p [.cal, .cam, .loop, .vis] s s1 := by
    unfold s1
    split
    · exact .ite (s.applyFlat_ofPort p _) (.refl s)
    · exact .refl s
  split
  · exact .ite ((h1.step (s1.updCam_ofPort p _)).mono (by decide)) h1
  · exact h1

theorem State.newEpoch_ofPort : OfPort p [.loop, .vis, .cam] s (s.newEpoch p) := by
  unfold State.newEpoch
  exact (((((s.restartCols_only _).ofPort (by decide)).step (State.restartStreaks_ofPort _ p _)).step
    ((State.updLoop_only _ _).ofPort (by decide))).step (State.updCam_ofPort _ p _)).mono (by decide)

theorem State.markFrame_ofPort (u : Nat) (m : BitVec 16) : OfPort p [.cam] s (s.markFrame p u m) := s.updCam_ofPort p _

theorem State.markHotspot_ofPort (u : Nat) : OfPort p [.cam, .alert] s (s.markHotspot p u) :=
  .ite (.refl s) ((s.markFrame_ofPort p u 8).step ((State.raise_only _ _ _).ofPort (by decide)))

theorem State.warmLine_ofPort (u : Nat) : OfPort p [.cam] s (s.warmLine p u) :=
  (s.markFrame_ofPort p u 2).trans (State.updCam_ofPort _ p _)

theorem State.marksOfLine_ofPort (u : Nat) : OfPort p [.cam, .alert] s (s.marksOfLine p u) := by
  have hmark : ∀ (t : State) (m : BitVec 16), OfPort p [.cam, .alert] t (t.markFrame p u m) :=
    fun t m => (t.markFrame_ofPort p u m).mono (by decide)
  unfold State.marksOfLine
  extract_lets s1 s2
  have h2 : OfPort p [.cam, .alert] s s2 := (s.markHotspot_ofPort p u).trans (.ite (hmark s1 _) (.refl s1))
  exact .ite (h2.trans (hmark s2 _)) h2

end

section
variable (v : Seen) (s : State) {p : Nat}

theorem Seen.endStale_only : Only [.loop] s (v.endStale s) := by
  unfold Seen.endStale
  exact s.updLoop_only _

/-! ### Egress and preview -/

theorem Seen.egress_ofPort : OfPort v.port [.cam] s (v.egress s) := .foldl (fun t _ => t.updCam_ofPort v.port _) _ s

theorem Seen.preview_ofPort : OfPort p [.vis, .dram] s (v.preview s) := by
  have hvis : ∀ (t : State) (q : Preview), OfPort p [.vis, .dram] t (t.updVis fun x => { x with preview := q }) :=
    fun t q => (t.updVis_ofPort _ rfl rfl).mono (by decide)
  unfold Seen.preview
  extract_lets q row s1
  have h1 : OfPort p [.vis, .dram] s s1 := ((s.rowsTo_ofPort p row).mono (by decide)).trans (hvis _ _)
  exact .ite (.refl s) (.ite (.ite (.refl s) (hvis s _)) (.ite (.refl s) (.ite ((h1.step (s1.writeRow_ofPort p)).mono (by decide)) h1)))

/-! ### Density and the defect map -/

theorem Seen.density_ofPort : OfPort p [.vis, .dram, .alert] s (v.density s) := by
  unfold Seen.density
  split
  · exact .refl s
  · exact ((s.updVis_ofPort _ rfl rfl).step (State.densityDone_ofPort _ p)).mono (by decide)

theorem Seen.streakRec_ofPort (run : List (Nat × Rat)) : OfPort p [.free, .vis, .alert] s (v.streakRec run s) :=
  ((s.magnitude_only _).ofPort (by decide)).step (State.addDefect_ofPort _ p _)

theorem Seen.streaks_ofPort (rho : List (Nat × Rat)) : OfPort p [.free, .vis, .alert] s (v.streaks rho s) := by
  unfold Seen.streaks
  extract_lets n s1 means full s2
  have h1 : OfPort p [.vis] s s1 := s.updVis_ofPort _ rfl rfl
  have h2 : OfPort p [.free, .vis, .alert] s1 s2 := .foldl (fun t r => v.streakRec_ofPort t r) _ s1
  exact ((h1.step h2).step (s2.updVis_ofPort _ rfl rfl)).mono (by decide)

theorem Seen.spots_ofPort (rho : List (Nat × Rat)) : OfPort p [.free, .vis, .alert] s (v.spots rho s) := by
  unfold Seen.spots
  exact ((s.updVis_ofPort _ rfl rfl).step (.foldl (fun t x => t.spotRec_ofPort p x) _ _)).mono (by decide)

theorem Seen.defects_ofPort : OfPort p [.free, .vis, .alert] s (v.defects s) :=
  .ite (.refl s) ((v.streaks_ofPort s _).trans (v.spots_ofPort _ _))

/-! ### Strips, the loop and recalibration -/

theorem Seen.thatch_ofPort : OfPort p [.vis] s (v.thatch s) := by
  unfold Seen.thatch
  split
  · exact .refl s
  · exact s.updVis_ofPort _ rfl rfl

theorem Seen.loop_only : Only [.loop] s (v.loop s) := .ite (.refl s) (s.updLoop_only _)

theorem State.finishRecal_ofPort (p : Nat) : OfPort p [.cam, .nvm, .alert] s (s.finishRecal p) := by
  have hraise : ∀ (t : State) (n : Nat), OfPort p [.cam, .nvm, .alert] t (t.raise .cal n) :=
    fun t n => ((t.raise_only .cal n).ofPort (by decide)).mono (by decide)
  have hflat : ∀ (t : State) (f : Flat), OfPort p [.cam, .nvm, .alert] t (t.newFlat p f) :=
    fun t f => ((t.updCam_ofPort p _).step ((State.journal_only _ _).ofPort (by decide))).mono (by decide)
  unfold State.finishRecal
  extract_lets k n old cfg yt new got s1 ff ref s2
  have h1 : OfPort p [.cam, .nvm, .alert] s s1 := (s.updCam_ofPort p _).mono (by decide)
  have h2 : OfPort p [.cam, .nvm, .alert] s s2 := (h1.trans (hflat s1 _)).trans (hraise _ 3)
  exact .ite (h1.trans (hraise s1 5)) (.ite (h2.trans (hraise s2 4)) h2)

theorem Seen.recal_ofPort : OfPort v.port [.cam, .nvm, .alert] s (v.recal s) := by
  have h1 : OfPort v.port [.cam, .nvm, .alert] s (v.collect s) := (s.updCam_ofPort v.port _).mono (by decide)
  exact .ite (.refl s) (.ite (h1.trans (State.finishRecal_ofPort _ v.port)) h1)

/-! ### A line at the pipeline's end -/

/-- A work that no engine is left for does nothing. -/
theorem OfPort.onEngine {ps : List Part} {f : State → State} (h : ∀ t, OfPort p ps t (f t)) (w : VeWork) :
    OfPort p ps s (onEngine w f s) := .ite (h s) (.refl s)

/-- What a processed line may touch. -/
def lineParts : List Part := [.cam, .vis, .loop, .slate, .dram, .free, .alert, .cal, .nvm, .fire]

theorem Seen.feed_ofPort : OfPort v.port lineParts s (v.feed s) := by
  unfold Seen.feed
  extract_lets s1 s2 s3 s4
  have h1 : OfPort v.port [.cam, .vis, .dram] s s1 := (v.egress_ofPort s).step (v.preview_ofPort _)
  have h2 : OfPort v.port [.vis, .dram, .alert] s1 s2 := .onEngine s1 (fun t => v.density_ofPort t) _
  have h3 : OfPort v.port [.free, .vis, .alert] s2 s3 := .onEngine s2 (fun t => v.defects_ofPort t) _
  have h4 : OfPort v.port [.vis] s3 s4 := .onEngine s3 (fun t => v.thatch_ofPort t) _
  have h5 : OfPort v.port [.loop] s4 _ := .onEngine s4 (fun t => (v.loop_only t).ofPort (by decide)) .regression
  exact (((((h1.step h2).step h3).step h4).step h5).step (v.recal_ofPort _)).mono (by decide)

theorem State.pruneTrace_only : Only [.fire] s s.pruneTrace := by
  unfold State.pruneTrace
  split
  · exact s.updFire_only _
  · exact .refl s

/-- The end of a line in its steps: what it feeds, the emptied pipeline, what is due behind it. -/
theorem State.lineDone_steps {s : State} {l : CamLine} (hc : s.vis.cur = some (p, l)) (hv : s.visGated = false) :
    ∃ (u : State) (n : BitVec 64), OfPort p lineParts s u ∧ OfPort p lineParts
      (u.updVis fun x => { x with cur := none, linesDone := x.linesDone + 1, samplesDone := x.samplesDone + n }) s.lineDone := by
  unfold State.lineDone
  split
  case h_1 hn => rw [hc] at hn; cases hn
  case h_2 q m hq =>
    obtain ⟨rfl, rfl⟩ : p = q ∧ l = m := Prod.mk.inj (Option.some.inj (hc.symm.trans hq))
    rw [if_neg (Bool.eq_false_iff.1 hv)]
    extract_lets s1 s2 k s3 w s4 s5 n s6 s7
    have h1 : OfPort p lineParts s s1 := (s.frameBoundary_ofPort p _).mono (by decide)
    have h2 : OfPort p lineParts s1 s2 := .ite (.refl s1) ((s1.newEpoch_ofPort p).mono (by decide))
    have h3 : OfPort p lineParts s2 s3 := .ite ((s2.warmLine_ofPort p _).mono (by decide)) (.refl s2)
    have h4 : OfPort p lineParts s3 s4 := (((w.endStale_only s3).ofPort (by decide)).step (State.marksOfLine_ofPort _ p _)).mono (by decide)
    have h5 : OfPort p lineParts s4 s5 := w.feed_ofPort s4
    have h6 : OfPort p lineParts s5 s6 := (s5.updCam_ofPort p _).mono (by decide)
    have h7 := ((s7.linesThrough_ofPort p).step (State.thatchDone_ofPort _ p)).step ((State.pruneTrace_only _).ofPort (by decide))
    exact ⟨s6, BitVec.ofNat 64 n, ((((h1.trans h2).trans h3).trans h4).trans h5).trans h6, h7.mono (by decide)⟩

theorem exec_pipelineLineDone {s : State} {l : CamLine} (ha : s.alive = true) (hc : s.vis.cur = some (p, l)) (hv : s.visGated = false) :
    ∃ t, exec .pipelineLineDone s = .next t ∧ t.vis.cur = none ∧ t.vis.linesDone = s.vis.linesDone + 1 ∧ t.bat = s.bat ∧
      t.port = s.port ∧ t.pwr = s.pwr ∧ t.geo = s.geo ∧ t.twin = s.twin ∧ t.health = s.health := by
  obtain ⟨u, n, hfed, hdone⟩ := State.lineDone_steps hc hv
  have hf : Only lineParts s s.lineDone :=
    hfed.only.trans (((u.updVis_only _).mono (qs := lineParts) (by decide)).trans hdone.only)
  obtain ⟨t, hx, -, -, ho, hsent⟩ := evt_only ha hf (by decide)
  have hvis : t.vis = s.lineDone.vis := hsent .vis (by decide)
  refine ⟨t, hx, ?_, ?_, (congrArg State.bat ho.eq_patch).trans rfl, ho .port (by decide), ho .pwr (by decide), ho .geo (by decide),
    ho .twin (by decide), ho .health (by decide)⟩
  · rw [hvis, hdone.cur]; rfl
  · rw [hvis, hdone.linesDone, State.updVis_vis, hfed.linesDone]

end

/-- Settles O47: triggers and packets by what they leave of their camera, the pipeline by the line it takes and by what a processed
line may touch. -/
theorem cameraLinesMove : Obligations.CameraLinesMove :=
  ⟨fun _ _ ha hd hst hpend hl => exec_camTrigger ha hd hst hpend hl, fun _ _ ha hr hf htrigs => exec_csiFsRx ha hr hf htrigs,
   fun _ _ _ _ ha hr => exec_csiLsRx ha hr, fun _ _ _ _ _ ha hr hi => exec_csiShort_bad ha hr hi,
   fun _ _ _ _ ha hr hf he hs hl hn hlen hcrc hroom hh => exec_csiLineRx_single ha hr hf he hs hl hn hlen hcrc hroom hh,
   fun _ _ _ ha hr he hvc hn => exec_csiLineRx_badNumber ha hr he hvc hn,
   fun _ _ _ ha hr he => exec_csiLineRx_uncorrectable ha hr he, fun _ _ ha hr => exec_csiOtherPacketRx ha hr,
   fun _ _ _ ha hr hf => exec_csiFeRx ha hr hf, fun _ _ _ _ ha hc hv hp hl => exec_pipelineLineStart ha hc hv hp hl,
   fun _ _ _ ha hc hv => exec_pipelineLineDone ha hc hv⟩

end Sys2Proof.Machine

namespace Sys2Proof.Machine

/-! ## Commands of the uniformity loop and of the Gable store

A setting of the loop, factory gains and the settings of a recalibration go to the journal (R217, R219, R224); NVM_COMPACT and
NVM_ERASE_CAL start a compaction (R226); CAL_GET_COLUMNS and NVM_READ write to DRAM alone (R180). -/

section
variable {s : State} {h : MbHdr}

/-- A command that writes bytes to DRAM and changes nothing else. -/
theorem mbCmd_dramWrite {c : MbCheck} {i : Instr} {body : State → Answer} {a : Nat} {bs : List Byte}
    (hs : Safety.served s h c.len = true) (hr : c.rsv = false) (hz : c.zero = false) (hg : c.gated (s.mbStart h) = false)
    (hb : body (s.mbStart h) = ok ((s.mbStart h).dramWrite a bs)) :
    ∃ t, mbCmd h i (mbServe c h body) s = .next t ∧ Safety.Answered h c.op 0 [] s t ∧ t = { s with host := t.host, dram := t.dram } ∧
      t.dram = s.dram.writeAll a bs := by
  obtain ⟨t, e, ha, ho, ht⟩ := mbCmd_done_answered (i := i) hs hr hz hg hb (State.dramWrite_only _ _ _) (by decide)
  exact ⟨t, e, ha, (ho.mono (qs := [.host, .alert, .dram]) (by decide)).eq_patch, by rw [ht]; rfl⟩

/-! ### CAL_SET_LOOP and CAL_SET_FACTORY -/

theorem State.setLoop_only (p : LoopReq) : Only [.cal, .nvm, .loop] s (s.setLoop p) := by
  unfold State.setLoop State.restartAll
  exact ((((s.updData_only _).step (State.journal_only _ _)).step (State.updLoop_only _ _)).step (State.updLoop_only _ _)).mono
    (by decide)

theorem exec_calSetLoop {p : LoopReq} (hs : Safety.served s h 20 = true) (hn : s.notSupervisor = false) (hr : p.rsv = 0)
    (hu : p.updateBlocks ≠ 0) (hw : p.windowLines ≠ 0) (hbad : loopBad p = none) :
    ∃ t, exec (.calSetLoop h p) s = .next t ∧ Safety.Answered h 0x0901 0 [] s t ∧
      t = { s with host := t.host, twin := t.twin, nvm := t.nvm, loop := { s.loop with ring := [], closes := 0 },
                   cal := { s.cal with data := { s.cal.data with loop := loopOfReq p s.cal.data.loop } } } ∧
      t.nvm = { s.nvm with waiting := s.nvm.waiting ++ [.settings (loopOfReq p s.cal.data.loop)] } := by
  obtain ⟨t, e, ha, ht⟩ := mbCmd_setting (i := .calSetLoop h p) (op := 0x0901) (payload := (loopOfReq p {}).bytes)
    (c := { op := 0x0901, len := 20, rsv := p.rsv != 0, zero := p.updateBlocks == 0 || p.windowLines == 0 })
    (g := State.setLoop p) hbad hs hn (State.setLoop_only p) (by simp [hr])
    (by simp only [beq_eq_false_iff_ne.2 hu, beq_eq_false_iff_ne.2 hw, Bool.or_self]) rfl (by decide)
  exact ⟨t, e, ha, ht.trans (by rw [ht]; rfl), by rw [ht]; rfl⟩

theorem State.firstFar_mbStart (g : Geo) (w : Web) (pg : Page) (p k n : Nat) :
    (s.mbStart h).firstFar g w pg p k n = s.firstFar g w pg p k n := by
  have hfar : ∀ m, (s.mbStart h).farAhead g w pg p m = s.farAhead g w pg p m := fun _ => rfl
  induction k generalizing n with
  | zero => rfl
  | succ k ih => simp only [State.firstFar, hfar, ih]

/-- The line at which a port's codes apply is no matter of the mailbox. -/
theorem State.runKey_mbStart (p : Nat) : (s.mbStart h).runKey p = s.runKey p := by
  simp only [State.runKey, State.applyLine, State.mbStart_geo, State.mbStart_bat, State.firstFar_mbStart]

theorem exec_calSetFactory {port : Byte} {n : BitVec 16} {addr : BitVec 64} (hs : Safety.served s h 16 = true)
    (hn : s.notSupervisor = false) (hz : n ≠ 0) (hbad : factoryBad port n.toNat addr.toNat s = none) :
    ∃ t, exec (.calSetFactory h port 0 n 0 addr) s = .next t ∧ Safety.Answered h 0x0904 0 [] s t ∧
      t = { s with host := t.host, twin := t.twin, nvm := t.nvm } ∧
      t.nvm = { s.nvm with waiting := s.nvm.waiting ++
        [.factory [⟨port.toNat, 0, s.runKey port.toNat, s.gainsAt addr.toNat n.toNat⟩]] } := by
  have hbody : calSetFactoryBody port n addr (s.mbStart h) = .done 0 [] _ := twinGate_ok (s := s.mbStart h) hbad hn rfl
  obtain ⟨t, e, ha, ho, ht⟩ := mbCmd_forwarded_answered (c := { op := 0x0904, len := 16, zero := n == 0 })
    (i := .calSetFactory h port 0 n 0 addr) hs rfl (beq_eq_false_iff_ne.2 hz) rfl hbody (State.journal_only _ _) (by decide)
  refine ⟨t, e, ha, (ho.mono (qs := [.host, .alert, .twin, .nvm]) (by decide)).eq_patch, ?_⟩
  rw [← State.runKey_mbStart (h := h), ht]
  rfl

/-! ### CAL_RECAL and CAL_RECAL_STOP -/

theorem State.setRecal_only (p : Nat) (r : RecalCfg) : Only [.cal, .nvm] s (s.setRecal p r) :=
  (s.updData_only _).step (State.journal_only _ _)

theorem State.setRecal_recal (p : Nat) (r : RecalCfg) : (s.setRecal p r).cal.data.loop.recal.get {} p = r :=
  SMap.get_set_same _ _ _ _

theorem State.startRecal_only (p : Nat) : Only [.cam] s (s.startRecal p) := s.updCam_only p _

/-- The second of CAL_RECAL's checks passes a payload in range. -/
theorem recalFields_inRange {p : RecalReq} (hg : p.guard.toNat ≤ 64) (hm : 16 ≤ p.subMin.toNat ∧ p.subMin.toNat ≤ 4096)
    (ht : 1 ≤ p.timeoutS.toNat ∧ p.timeoutS.toNat ≤ 3600)
    (hp : p.periodS = 0 ∨ 60 ≤ p.periodS.toNat ∧ p.periodS.toNat ≤ 86400) :
    (decide (64 < p.guard.toNat) || out p.subMin.toNat 16 4096 || out p.timeoutS.toNat 1 3600 ||
      (p.periodS != 0 && out p.periodS.toNat 60 86400)) = false := by
  have hperiod : (p.periodS != 0 && out p.periodS.toNat 60 86400) = false := by
    rcases hp with h0 | ⟨hlo, hhi⟩
    · simp [h0]
    · simp [out_eq_false hlo hhi]
  simp only [decide_eq_false (not_lt.2 hg), out_eq_false hm.1 hm.2, out_eq_false ht.1 ht.2, hperiod, Bool.or_self]

theorem calRecalBody_ok {p : RecalReq} (hp : p.port.toNat < 4) (hg : p.guard.toNat ≤ 64)
    (hm : 16 ≤ p.subMin.toNat ∧ p.subMin.toNat ≤ 4096) (ht : 1 ≤ p.timeoutS.toNat ∧ p.timeoutS.toNat ≤ 3600)
    (hper : p.periodS = 0 ∨ 60 ≤ p.periodS.toNat ∧ p.periodS.toNat ≤ 86400) (hrun : (s.camN p.port.toNat).runs = true)
    (hc : (s.camN p.port.toNat).recal.collecting = false) :
    calRecalBody p s = ok ((s.setRecal p.port.toNat (recalOfReq p)).startRecal p.port.toNat) := by
  simp only [calRecalBody, checked, firstBad, camBad_eq_false hp, recalFields_inRange hg hm ht hper, hrun, hc, Bool.not_true,
    Bool.false_eq_true, if_false]

theorem exec_calRecal {p : RecalReq} (hs : Safety.served s h 12 = true) (hr : p.rsv = 0) (hp : p.port.toNat < 4)
    (hg : 1 ≤ p.guard.toNat ∧ p.guard.toNat ≤ 64) (hm : 16 ≤ p.subMin.toNat ∧ p.subMin.toNat ≤ 4096)
    (htime : 1 ≤ p.timeoutS.toNat ∧ p.timeoutS.toNat ≤ 3600)
    (hper : p.periodS = 0 ∨ 60 ≤ p.periodS.toNat ∧ p.periodS.toNat ≤ 86400) (hv : s.visGated = false)
    (hrun : (s.camN p.port.toNat).runs = true) (hc : (s.camN p.port.toNat).recal.collecting = false) :
    ∃ t, exec (.calRecal h p) s = .next t ∧ Safety.Answered h 0x0905 0 [] s t ∧
      t = { s with host := t.host, nvm := t.nvm, cal := t.cal, cam := t.cam } ∧
      (t.camN p.port.toNat).recal = { collecting := true, started := true } ∧
      t.cal.data.loop.recal.get {} p.port.toNat = recalOfReq p ∧ ∀ q, q ≠ p.port.toNat → t.camN q = s.camN q := by
  let u := (s.mbStart h).setRecal p.port.toNat (recalOfReq p)
  have hset : Only [.cal, .nvm] (s.mbStart h) u := State.setRecal_only _ _
  obtain ⟨t, e, ha, ho, ht⟩ := mbCmd_done_answered (i := .calRecal h p)
    (c := { op := 0x0905, len := 12, rsv := p.rsv != 0, zero := p.guard == 0, gated := State.visGated }) hs (by simp [hr])
    (beq_zero_of_one_le hg.1) hv (calRecalBody_ok (s := s.mbStart h) hp hg.2 hm htime hper hrun hc)
    (hset.step (State.startRecal_only _)) (by decide)
  have hcam : ∀ q, t.camN q = (u.startRecal p.port.toNat).camN q := fun q => by rw [ht]; rfl
  have hcal : t.cal = u.cal := by rw [ht]; rfl
  refine ⟨t, e, ha, (ho.mono (qs := [.host, .alert, .nvm, .cal, .cam]) (by decide)).eq_patch, ?_, ?_, fun q hq => ?_⟩
  · exact congrArg Cam.recal ((hcam _).trans (State.camN_updCam_same _ _ _))
  · rw [hcal]; exact State.setRecal_recal _ _
  · exact (hcam q).trans ((State.camN_updCam_ne _ _ _ _ hq).trans (State.camN_of_only hset (by decide) q))

theorem exec_calRecalStop {port : Byte} (hs : Safety.served s h 4 = true) (hp : port.toNat < 4) (hv : s.visGated = false) :
    ∃ t, exec (.calRecalStop h port 0) s = .next t ∧ Safety.Answered h 0x0906 0 [] s t ∧ t = { s with host := t.host, cam := t.cam } ∧
      t.camN port.toNat = { s.camN port.toNat with
        recal := { (s.camN port.toNat).recal with collecting := false, counts := [], sums := [] } } ∧
      ∀ q, q ≠ port.toNat → t.camN q = s.camN q :=
  mbCmd_updCam (c := { op := 0x0906, len := 4, gated := State.visGated })
    (body := fun s => if camBad port then fail 0x0902 s else ok (s.stopRecal port.toNat)) hs rfl rfl hv
    (if_neg (Bool.eq_false_iff.1 (camBad_eq_false hp)))

theorem exec_calRecalStop_gated {port : Byte} (hs : Safety.served s h 4 = true) (hv : s.visGated = true) :
    ∃ t, exec (.calRecalStop h port 0) s = .next t ∧ Safety.Answered h 0x0906 0x0005 [] s t ∧ t = { s with host := t.host } :=
  mbCmd_gated (c := { op := 0x0906, len := 4, gated := State.visGated }) hs rfl hv

/-! ### CAL_GET_STATUS and CAL_GET_COLUMNS -/

theorem exec_calGetStatus (hs : Safety.served s h 0 = true) :
    ∃ t, exec (.calGetStatus h) s = .next t ∧ Safety.Answered h 0x0902 0 s.calStatus s t ∧ t = { s with host := t.host } :=
  mbCmd_answer hs rfl rfl rfl rfl

theorem calGetColumnsBody_ok {first n : BitVec 32} {addr : BitVec 64} (hn : first.toNat + n.toNat ≤ s.barColumns)
    (ha : s.addrOk addr.toNat (8 * n.toNat) = true) :
    calGetColumnsBody first n addr s =
      ok (s.dramWrite addr.toNat ((List.range n.toNat).flatMap fun i => s.colBytes (first.toNat + i))) := by
  simp only [calGetColumnsBody, checked, firstBad, decide_eq_false (not_lt.2 hn), ha, Bool.not_true, Bool.false_eq_true, if_false]

theorem exec_calGetColumns {first n : BitVec 32} {addr : BitVec 64} (hs : Safety.served s h 16 = true) (hz : n ≠ 0)
    (hn : first.toNat + n.toNat ≤ s.barColumns) (ha : s.addrOk addr.toNat (8 * n.toNat) = true) :
    ∃ t, exec (.calGetColumns h first n addr) s = .next t ∧ Safety.Answered h 0x0903 0 [] s t ∧
      t = { s with host := t.host, dram := t.dram } ∧
      t.dram = s.dram.writeAll addr.toNat ((List.range n.toNat).flatMap fun i => s.colBytes (first.toNat + i)) :=
  mbCmd_dramWrite (c := { op := 0x0903, len := 16, zero := n == 0 }) hs rfl (beq_eq_false_iff_ne.2 hz) rfl
    (calGetColumnsBody_ok (s := s.mbStart h) hn ha)

/-! ### NVM_COMPACT and NVM_ERASE_CAL -/

/-- A compaction that starts takes the last committed record for its S (R226). -/
theorem State.startCompaction_of_idle (hc : s.nvm.compacting = none) :
    s.startCompaction = s.updNvm fun n => { n with compacting := some n.lastSeq } := by
  simp only [State.startCompaction, hc, Option.isSome_none, Bool.false_eq_true, if_false]

/-- NVM_COMPACT's rules, as `srvNvmCompact` serves them. -/
def nvmCompactBody (s : State) : Answer := if s.nvm.compacting.isSome then fail 0x1002 s else ok s.startCompaction

theorem nvmCompactBody_idle (hc : s.nvm.compacting = none) :
    nvmCompactBody s = ok (s.updNvm fun n => { n with compacting := some n.lastSeq }) := by
  rw [nvmCompactBody, State.startCompaction_of_idle hc, hc]; rfl

theorem nvmCompactBody_compacting {q : BitVec 32} (hc : s.nvm.compacting = some q) : nvmCompactBody s = fail 0x1002 s :=
  if_pos (Option.isSome_of_eq_some hc)

theorem exec_nvmCompact (hs : Safety.served s h 0 = true) (hc : s.nvm.compacting = none) :
    ∃ t, exec (.nvmCompact h) s = .next t ∧ Safety.Answered h 0x1003 0 [] s t ∧
      t = { s with host := t.host, nvm := { s.nvm with compacting := some s.nvm.lastSeq } } := by
  obtain ⟨t, e, ha, -, ht⟩ := mbCmd_done_answered (i := .nvmCompact h) (c := { op := 0x1003, len := 0 }) hs rfl rfl rfl
    (nvmCompactBody_idle (s := s.mbStart h) hc) (State.updNvm_only _ _) (by decide)
  exact ⟨t, e, ha, ht⟩

theorem exec_nvmCompact_compacting {q : BitVec 32} (hs : Safety.served s h 0 = true) (hc : s.nvm.compacting = some q) :
    ∃ t, exec (.nvmCompact h) s = .next t ∧ Safety.Answered h 0x1003 0x1002 [] s t ∧ t = { s with host := t.host } :=
  mbCmd_answer (c := { op := 0x1003, len := 0 }) hs rfl rfl rfl (nvmCompactBody_compacting (s := s.mbStart h) hc)

theorem State.eraseCal_of_idle (hc : s.nvm.compacting = none) : s.eraseCal =
    { s with nvm := { s.nvm with erasing := true, compacting := some s.nvm.lastSeq }, loop := { s.loop with ring := [] } } := by
  rw [State.eraseCal, State.startCompaction_of_idle (by exact hc)]; rfl

/-- NVM_ERASE_CAL's own rules behind the gate of Table 09-5: no page is admitted and no compaction is under way. -/
theorem nvmEraseCalBody_ok (hn : s.notSupervisor = false) (hp : s.bat.pages = []) (hc : s.nvm.compacting = none) :
    nvmEraseCalBody s = .done 0 [] (s.eraseCal.forward9 0x1004 atOnce []) :=
  twinGate_ok rfl hn (by simp only [hp, hc, List.isEmpty_nil, Option.isSome_none, Bool.not_true, Bool.false_eq_true, if_false]; rfl)

theorem exec_nvmEraseCal (hs : Safety.served s h 0 = true) (hn : s.notSupervisor = false) (hp : s.bat.pages = [])
    (hc : s.nvm.compacting = none) :
    ∃ t, exec (.nvmEraseCal h) s = .next t ∧ Safety.Answered h 0x1004 0 [] s t ∧
      t = { s with host := t.host, twin := t.twin, nvm := t.nvm, loop := { s.loop with ring := [] } } ∧
      t.nvm = { s.nvm with erasing := true, compacting := some s.nvm.lastSeq } := by
  have hbody := nvmEraseCalBody_ok (s := s.mbStart h) hn hp hc
  rw [State.eraseCal_of_idle (s := s.mbStart h) hc] at hbody
  obtain ⟨t, e, ha, -, ht⟩ := mbCmd_forwarded_answered (c := { op := 0x1004, len := 0 }) (i := .nvmEraseCal h)
    (ps := [.nvm, .loop]) hs rfl rfl rfl hbody (.of_eq rfl (by decide)) (by decide)
  exact ⟨t, e, ha, ht.trans (by rw [ht]; rfl), by rw [ht]; rfl⟩

/-! ### NVM_READ and NVM_GET_STATUS -/

theorem nvmReadBody_ok {o n : BitVec 32} {addr : BitVec 64} (ho : o.toNat % 8 = 0) (hn : n.toNat % 8 = 0) (hlo : 8 ≤ n.toNat)
    (hhi : n.toNat ≤ 1048576) (hend : o.toNat + n.toNat ≤ 8388608) (ha : s.addrOk addr.toNat n.toNat = true) :
    nvmReadBody o n addr s = ok (s.dramWrite addr.toNat ((List.range n.toNat).map fun i => s.gableByte (o.toNat + i))) := by
  simp only [nvmReadBody, checked, firstBad, ho, hn, out_eq_false hlo hhi, decide_eq_false (not_lt.2 hend), ha, bne_self_eq_false,
    Bool.or_self, Bool.not_true, Bool.false_eq_true, if_false]

theorem exec_nvmRead {o n : BitVec 32} {addr : BitVec 64} (hs : Safety.served s h 16 = true) (ho : o.toNat % 8 = 0)
    (hn : n.toNat % 8 = 0) (hlo : 8 ≤ n.toNat) (hhi : n.toNat ≤ 1048576) (hend : o.toNat + n.toNat ≤ 8388608)
    (ha : s.addrOk addr.toNat n.toNat = true) :
    ∃ t, exec (.nvmRead h o n addr) s = .next t ∧ Safety.Answered h 0x1002 0 [] s t ∧
      t = { s with host := t.host, dram := t.dram } ∧
      t.dram = s.dram.writeAll addr.toNat ((List.range n.toNat).map fun i => s.gableByte (o.toNat + i)) :=
  mbCmd_dramWrite (c := { op := 0x1002, len := 16, zero := n == 0 }) hs rfl (beq_zero_of_one_le (by omega)) rfl
    (nvmReadBody_ok (s := s.mbStart h) ho hn hlo hhi hend ha)

theorem exec_nvmGetStatus (hs : Safety.served s h 0 = true) :
    ∃ t, exec (.nvmGetStatus h) s = .next t ∧ Safety.Answered h 0x1001 0 s.nvm.statusBytes s t ∧ t = { s with host := t.host } :=
  mbCmd_answer hs rfl rfl rfl rfl

end

/-- Settles O19: the settings by what they journal, a recalibration by what it leaves of its camera, the reports by their answers;
CAL_RECAL_STOP needs the inspection clock (log 100). -/
theorem calibrationCommandsRun : Obligations.CalibrationCommandsRun :=
  ⟨fun _ _ _ hs hn hr hu hw hbad => exec_calSetLoop hs hn hr hu hw hbad,
   fun _ _ _ _ _ hs hn hz hbad => exec_calSetFactory hs hn hz hbad,
   fun _ _ _ hs hr hp hg hm htime hper hv hrun hc => exec_calRecal hs hr hp hg hm htime hper hv hrun hc,
   fun _ _ _ hs hp hv => exec_calRecalStop hs hp hv, fun _ _ _ hs hv => exec_calRecalStop_gated hs hv,
   fun _ _ hs => exec_calGetStatus hs, fun _ _ _ _ _ hs hz hn ha => exec_calGetColumns hs hz hn ha⟩

/-- Settles O20: each command by its own rules, which start a compaction, write to DRAM or only answer. -/
theorem storeCommandsRun : Obligations.StoreCommandsRun :=
  ⟨fun _ _ hs hc => exec_nvmCompact hs hc, fun _ _ _ hs hc => exec_nvmCompact_compacting hs hc,
   fun _ _ hs hn hp hc => exec_nvmEraseCal hs hn hp hc,
   fun _ _ _ _ _ hs ho hn hlo hhi hend ha => exec_nvmRead hs ho hn hlo hhi hend ha, fun _ _ hs => exec_nvmGetStatus hs⟩

end Sys2Proof.Machine

namespace Sys2Proof.Machine

/-! ## Encoder inputs

ENC_SET_INPUT and ENC_SET_COUNT change one input, and with ENC_0 the estimator, which starts anew or moves with the count (R241, R260). -/

section
variable {s : State} {h : MbHdr}

theorem State.updEnc_only (s : State) (n : Nat) (f : Enc → Enc) : Only [.enc] s (s.updEnc n f) := .of_eq rfl (by decide)

theorem State.updEst_only (s : State) (f : Est → Est) : Only [.est] s (s.updEst f) := .of_eq rfl (by decide)

theorem State.encN_of_only {t : State} {ps : List Part} (ho : Only ps s t) (hn : .enc ∉ ps) (n : Nat) : t.encN n = s.encN n :=
  congrArg (SMap.get ({} : Enc) · n) (ho .enc hn : t.enc = s.enc)

/-- A change of input `n`, with which the estimator changes where the input is ENC_0. -/
def State.changeEnc (n : Nat) (f : Enc → Enc) (g : Est → Est) (s : State) : State :=
  if n = 0 then (s.updEnc n f).updEst g else s.updEnc n f

theorem State.encRestart_eq (n : Nat) (p : EncInputReq) : s.encRestart n p = s.changeEnc n (Enc.restart p) fun _ => {} := rfl

theorem State.encSetCount_eq (n : Nat) (c : Int) :
    s.encSetCount n c = s.changeEnc n (Enc.setCount c) (Est.shift (c - (s.encN n).count)) := rfl

theorem State.changeEnc_only (n : Nat) (f : Enc → Enc) (g : Est → Est) : Only [.enc, .est] s (s.changeEnc n f g) :=
  .ite ((s.updEnc_only n f).step (State.updEst_only _ g)) ((s.updEnc_only n f).mono (by decide))

theorem State.changeEnc_enc (n : Nat) (f : Enc → Enc) (g : Est → Est) (m : Nat) :
    (s.changeEnc n f g).encN m = (s.updEnc n f).encN m := by
  unfold State.changeEnc
  split
  · exact State.encN_updEst _ _ _
  · rfl

theorem State.changeEnc_est {n : Nat} (hn : n ≠ 0) (f : Enc → Enc) (g : Est → Est) : (s.changeEnc n f g).est = s.est := by
  rw [State.changeEnc, if_neg hn]
  rfl

/-- A command that changes one input. -/
theorem mbCmd_changeEnc {c : MbCheck} {i : Instr} {body : State → Answer} {n : Nat} {f : Enc → Enc} {g : Est → Est}
    (hs : Safety.served s h c.len = true) (hr : c.rsv = false) (hz : c.zero = false) (hg : c.gated (s.mbStart h) = false)
    (hb : body (s.mbStart h) = ok ((s.mbStart h).changeEnc n f g)) :
    ∃ t, mbCmd h i (mbServe c h body) s = .next t ∧ Safety.Answered h c.op 0 [] s t ∧
      t = { s with host := t.host, enc := t.enc, est := t.est } ∧ t.encN n = f (s.encN n) ∧
      (∀ m, m ≠ n → t.encN m = s.encN m) ∧ (n ≠ 0 → t.est = s.est) := by
  obtain ⟨t, e, ha, ho, ht⟩ := mbCmd_done_answered (i := i) hs hr hz hg hb (State.changeEnc_only n f g) (by decide)
  have henc : ∀ m, t.encN m = ((s.mbStart h).updEnc n f).encN m := fun m => by
    rw [ht, ← State.changeEnc_enc n f g]
    rfl
  have hest : t.est = ((s.mbStart h).changeEnc n f g).est := by rw [ht]
  refine ⟨t, e, ha, (ho.mono (qs := [.host, .alert, .enc, .est]) (by decide)).eq_patch, ?_, fun m hm => ?_, fun hn => ?_⟩
  · exact (henc n).trans (State.encN_updEnc_same _ _ _)
  · exact (henc m).trans (State.encN_updEnc_ne _ _ _ _ hm)
  · exact hest.trans (State.changeEnc_est hn f g)

theorem encBad_eq_false {enc : Byte} (he : enc.toNat ≤ 3) : encBad enc = false := decide_eq_false (not_lt.2 he)

theorem encSetInputBody_eq {p : EncInputReq} (hbad : encInputBad p = none) :
    encSetInputBody p s = if s.encBusy p.enc.toNat then fail 0x0A03 s else ok (s.encRestart p.enc.toNat p) := by
  simp only [encSetInputBody, checked, hbad]

theorem exec_encSetInput {p : EncInputReq} (hs : Safety.served s h 32 = true) (hr : encRsv p = false) (hz : encZero p = false)
    (hbad : encInputBad p = none) (hbusy : s.encBusy p.enc.toNat = false) :
    ∃ t, exec (.encSetInput h p) s = .next t ∧ Safety.Answered h 0x0A01 0 [] s t ∧
      t = { s with host := t.host, enc := t.enc, est := t.est } ∧ t.encN p.enc.toNat = (s.encN p.enc.toNat).restart p ∧
      (∀ e, e ≠ p.enc.toNat → t.encN e = s.encN e) ∧ (p.enc ≠ 0 → t.est = s.est) := by
  have hbody : encSetInputBody p (s.mbStart h) = ok ((s.mbStart h).encRestart p.enc.toNat p) :=
    (encSetInputBody_eq hbad).trans (if_neg (Bool.eq_false_iff.1 hbusy))
  obtain ⟨t, e, ha, ht, hown, hothers, hest⟩ := mbCmd_changeEnc (i := .encSetInput h p)
    (c := { op := 0x0A01, len := 32, rsv := encRsv p, zero := encZero p }) hs hr hz rfl
    (hbody.trans (congrArg ok (State.encRestart_eq _ _)))
  exact ⟨t, e, ha, ht, hown, hothers, fun hn => hest fun h0 => hn (BitVec.eq_of_toNat_eq h0)⟩

theorem exec_encSetInput_busy {p : EncInputReq} (hs : Safety.served s h 32 = true) (hr : encRsv p = false) (hz : encZero p = false)
    (hbad : encInputBad p = none) (hbusy : s.encBusy p.enc.toNat = true) :
    ∃ t, exec (.encSetInput h p) s = .next t ∧ Safety.Answered h 0x0A01 0x0A03 [] s t ∧ t = { s with host := t.host } :=
  mbCmd_answer (c := { op := 0x0A01, len := 32, rsv := encRsv p, zero := encZero p }) hs hr hz rfl
    ((encSetInputBody_eq hbad).trans (if_pos hbusy))

/-- ENC_SET_COUNT's rules, as `srvEncSetCount` serves them. -/
def encSetCountBody (enc : Byte) (count : BitVec 64) (s : State) : Answer :=
  if encBad enc then fail 0x0A01 s else if s.encBusy enc.toNat then fail 0x0A03 s else ok (s.encSetCount enc.toNat count.toInt)

theorem encSetCountBody_ok {enc : Byte} (count : BitVec 64) (he : enc.toNat ≤ 3) (hbusy : s.encBusy enc.toNat = false) :
    encSetCountBody enc count s = ok (s.encSetCount enc.toNat count.toInt) := by
  simp only [encSetCountBody, encBad_eq_false he, hbusy, Bool.false_eq_true, if_false]

theorem exec_encSetCount {e : Byte} {c : BitVec 64} (hs : Safety.served s h 16 = true) (he : e.toNat ≤ 3)
    (hbusy : s.encBusy e.toNat = false) :
    ∃ t, exec (.encSetCount h e 0 c) s = .next t ∧ Safety.Answered h 0x0A03 0 [] s t ∧
      t = { s with host := t.host, enc := t.enc, est := t.est } ∧ (t.encN e.toNat).count = c.toInt ∧
      (∀ n, n ≠ e.toNat → t.encN n = s.encN n) ∧ (e ≠ 0 → t.est = s.est) := by
  obtain ⟨t, hx, ha, ht, hown, hothers, hest⟩ := mbCmd_changeEnc (i := .encSetCount h e 0 c) (c := { op := 0x0A03, len := 16 })
    (body := encSetCountBody e c) hs rfl rfl rfl 
    ((encSetCountBody_ok (s := s.mbStart h) c he hbusy).trans (congrArg ok (State.encSetCount_eq _ _)))
  exact ⟨t, hx, ha, ht, congrArg Enc.count hown, hothers, fun hn => hest fun h0 => hn (BitVec.eq_of_toNat_eq h0)⟩

theorem exec_encGetStatus {e : Byte} (hs : Safety.served s h 4 = true) (he : e.toNat ≤ 3) :
    ∃ t, exec (.encGetStatus h e 0) s = .next t ∧ Safety.Answered h 0x0A02 0 (s.encN e.toNat).bytes s t ∧ t = { s with host := t.host } :=
  mbCmd_answer (c := { op := 0x0A02, len := 4 })
    (body := fun s => if encBad e then fail 0x0A01 s else okWith (s.encN e.toNat).bytes s) hs rfl rfl rfl
    (if_neg (Bool.eq_false_iff.1 (encBad_eq_false he)))

end

/-- Settles O21: the two settings by the one input they change, and with it the estimator; ENC_BUSY and the report by their answers. -/
theorem encoderCommandsRun : Obligations.EncoderCommandsRun :=
  ⟨fun _ _ _ hs hr hz hbad hbusy => exec_encSetInput hs hr hz hbad hbusy,
   fun _ _ _ hs hr hz hbad hbusy => exec_encSetInput_busy hs hr hz hbad hbusy,
   fun _ _ _ _ hs he hbusy => exec_encSetCount hs he hbusy,
   fun _ _ _ hs he => exec_encGetStatus hs he⟩

end Sys2Proof.Machine

namespace Sys2Proof.Machine

/-! ## Settings of one axis or trigger output

MOT_SET_AXIS, MOT_SET_RATES, MOT_SET_POSITION and MOT_LOAD_TABLE change one axis alone, MOT_SET_COMPARE one trigger output
(R243, R246, R251, R254). -/

section
variable {s : State} {h : MbHdr}

theorem State.axisN_of_only {t : State} {ps : List Part} (ho : Only ps s t) (hn : .axis ∉ ps) (n : Nat) : t.axisN n = s.axisN n :=
  congrArg (SMap.get ({} : Axis) · n) (ho .axis hn : t.axis = s.axis)

/-- A command that changes one axis alone. -/
theorem mbCmd_updAxis {c : MbCheck} {i : Instr} {body : State → Answer} {st n : Nat} {f : Axis → Axis}
    (hs : Safety.served s h c.len = true) (hr : c.rsv = false) (hz : c.zero = false) (hg : c.gated (s.mbStart h) = false)
    (hb : body (s.mbStart h) = .done st [] ((s.mbStart h).updAxis n f)) :
    ∃ t, mbCmd h i (mbServe c h body) s = .next t ∧ Safety.Answered h c.op st [] s t ∧ t = { s with host := t.host, axis := t.axis } ∧
      t.axisN n = f (s.axisN n) ∧ ∀ m, m ≠ n → t.axisN m = s.axisN m := by
  obtain ⟨t, e, ha, ho, ht⟩ := mbCmd_done_answered (i := i) hs hr hz hg hb (State.updAxis_only _ _ _) (by decide)
  have haxis : ∀ m, t.axisN m = ((s.mbStart h).updAxis n f).axisN m := fun m => by rw [ht]; rfl
  exact ⟨t, e, ha, (ho.mono (qs := [.host, .alert, .axis]) (by decide)).eq_patch, (haxis n).trans (State.axisN_updAxis_same _ _ _),
    fun m hm => (haxis m).trans (State.axisN_updAxis_ne _ _ _ _ hm)⟩

/-- A command that changes one trigger output alone. -/
theorem mbCmd_updTrig {c : MbCheck} {i : Instr} {body : State → Answer} {n : Nat} {f : Trig → Trig}
    (hs : Safety.served s h c.len = true) (hr : c.rsv = false) (hz : c.zero = false) (hg : c.gated (s.mbStart h) = false)
    (hb : body (s.mbStart h) = ok ((s.mbStart h).updTrig n f)) :
    ∃ t, mbCmd h i (mbServe c h body) s = .next t ∧ Safety.Answered h c.op 0 [] s t ∧ t = { s with host := t.host, trig := t.trig } ∧
      t.trigN n = f (s.trigN n) ∧ ∀ m, m ≠ n → t.trigN m = s.trigN m := by
  obtain ⟨t, e, ha, ho, ht⟩ := mbCmd_done_answered (i := i) hs hr hz hg hb (State.updTrig_only _ _ _) (by decide)
  have htrig : ∀ m, t.trigN m = ((s.mbStart h).updTrig n f).trigN m := fun m => by rw [ht]; rfl
  exact ⟨t, e, ha, (ho.mono (qs := [.host, .alert, .trig]) (by decide)).eq_patch, (htrig n).trans (State.trigN_updTrig_same _ _ _),
    fun m hm => (htrig m).trans (State.trigN_updTrig_ne _ _ _ _ hm)⟩

/-! ### An AXIS field that names one axis -/

theorem axisBad_eq_false {a : Byte} (ha : a.toNat ≤ 7) : axisBad a = false := decide_eq_false (not_lt.2 ha)

theorem axisBadAll_eq_false {a : Byte} (ha : a.toNat ≤ 7) : axisBadAll a = false :=
  Bool.and_eq_false_iff.2 (.inr (axisBad_eq_false ha))

theorem axesOf_single {a : Byte} (ha : a.toNat ≤ 7) : axesOf a = [a.toNat] :=
  if_neg fun e => absurd ha (by rw [e]; decide)

/-! ### MOT_SET_AXIS -/

/-- The second of MOT_SET_AXIS' checks passes a payload in range. -/
theorem axisFields_inRange {p : AxisReq} (hp : 50 ≤ p.pulseNs.toNat ∧ p.pulseNs.toNat ≤ 50000)
    (hsetup : 20 ≤ p.dirSetupNs.toNat ∧ p.dirSetupNs.toNat ≤ 50000) (hhold : 20 ≤ p.dirHoldNs.toNat ∧ p.dirHoldNs.toNat ≤ 50000)
    (hv : 1 ≤ p.vLimit.toNat ∧ p.vLimit.toNat ≤ 5000000) (hq : p.qsDecel ≠ 0)
    (hduty : 2 * p.pulseNs.toNat * p.vLimit.toNat ≤ 1000000000) :
    (out p.pulseNs.toNat 50 50000 || out p.dirSetupNs.toNat 20 50000 || out p.dirHoldNs.toNat 20 50000 ||
      out p.vLimit.toNat 1 5000000 || p.qsDecel == 0 || decide (1000000000 < 2 * p.pulseNs.toNat * p.vLimit.toNat)) = false := by
  simp only [out_eq_false hp.1 hp.2, out_eq_false hsetup.1 hsetup.2, out_eq_false hhold.1 hhold.2, out_eq_false hv.1 hv.2,
    beq_eq_false_iff_ne.2 hq, decide_eq_false (not_lt.2 hduty), Bool.or_self]

theorem motSetAxisBody_ok {p : AxisReq} (ha : p.axis.toNat ≤ 7) (hp : 50 ≤ p.pulseNs.toNat ∧ p.pulseNs.toNat ≤ 50000)
    (hsetup : 20 ≤ p.dirSetupNs.toNat ∧ p.dirSetupNs.toNat ≤ 50000) (hhold : 20 ≤ p.dirHoldNs.toNat ∧ p.dirHoldNs.toNat ≤ 50000)
    (hv : 1 ≤ p.vLimit.toNat ∧ p.vLimit.toNat ≤ 5000000) (hq : p.qsDecel ≠ 0)
    (hduty : 2 * p.pulseNs.toNat * p.vLimit.toNat ≤ 1000000000) (hfree : s.axisFree p.axis.toNat = true) :
    motSetAxisBody p s = ok (s.updAxis p.axis.toNat (Axis.configure p)) := by
  simp only [motSetAxisBody, checked, firstBad, axisBadAll_eq_false ha, axisFields_inRange hp hsetup hhold hv hq hduty,
    axesOf_single ha, List.all_cons, List.all_nil, hfree, List.foldl_cons, List.foldl_nil, Bool.and_self, Bool.false_eq_true,
    if_false, if_true]

theorem exec_motSetAxis {p : AxisReq} (hs : Safety.served s h 20 = true) (hflags : p.flags.toNat ≤ 7) (hr : p.rsv = 0)
    (hr2 : p.rsv2 = 0) (ha : p.axis.toNat ≤ 7) (hp : 50 ≤ p.pulseNs.toNat ∧ p.pulseNs.toNat ≤ 50000)
    (hsetup : 20 ≤ p.dirSetupNs.toNat ∧ p.dirSetupNs.toNat ≤ 50000) (hhold : 20 ≤ p.dirHoldNs.toNat ∧ p.dirHoldNs.toNat ≤ 50000)
    (hv : 1 ≤ p.vLimit.toNat ∧ p.vLimit.toNat ≤ 5000000) (hq : p.qsDecel ≠ 0)
    (hduty : 2 * p.pulseNs.toNat * p.vLimit.toNat ≤ 1000000000) (hfree : s.axisFree p.axis.toNat = true) :
    ∃ t, exec (.motSetAxis h p) s = .next t ∧ Safety.Answered h 0x0B01 0 [] s t ∧ t = { s with host := t.host, axis := t.axis } ∧
      t.axisN p.axis.toNat = (s.axisN p.axis.toNat).configure p ∧ ∀ n, n ≠ p.axis.toNat → t.axisN n = s.axisN n :=
  mbCmd_updAxis (c := { op := 0x0B01, len := 20, rsv := 7 < p.flags.toNat || p.rsv != 0 || p.rsv2 != 0 }) hs
    (by simp only [hr, hr2, decide_eq_false (not_lt.2 hflags), bne_self_eq_false, Bool.or_self]) rfl rfl
    (motSetAxisBody_ok (s := s.mbStart h) ha hp hsetup hhold hv hq hduty hfree)

/-! ### MOT_SET_RATES and MOT_SET_POSITION -/

/-- New rates at rest are in force at once (R251). -/
theorem State.setRates_idle {n : Nat} (r : Rates) (hst : (s.axisN n).st = .idle) :
    s.setRates r n = s.updAxis n fun _ => { s.axisN n with rates := r, heldRates := none } := by
  simp only [State.setRates, hst, AxisSt.holdsRates, reduceCtorEq, Bool.false_eq_true, or_self, if_false]

/-- New rates wait in a state that holds them (R251). -/
theorem State.setRates_held {n : Nat} (r : Rates) (hst : (s.axisN n).st.holdsRates = true) :
    s.setRates r n = s.updAxis n fun a => { a with heldRates := some r } := if_pos hst

theorem motSetRatesBody_eq {p : RatesReq} (ha : p.axis.toNat ≤ 7) (hbad : (ratesOfReq p).bad (s.axisN p.axis.toNat) = false) :
    motSetRatesBody p s =
      .done (if (s.axisN p.axis.toNat).st.holdsRates then 0x0B04 else 0) [] (s.setRates (ratesOfReq p) p.axis.toNat) := by
  simp only [motSetRatesBody, checked, firstBad, axisBadAll_eq_false ha, axesOf_single ha, List.any_cons, List.any_nil, hbad,
    List.foldl_cons, List.foldl_nil, Bool.or_false, Bool.false_eq_true, if_false]

theorem motSetRatesBody_idle {p : RatesReq} (ha : p.axis.toNat ≤ 7) (hbad : (ratesOfReq p).bad (s.axisN p.axis.toNat) = false)
    (hst : (s.axisN p.axis.toNat).st = .idle) :
    motSetRatesBody p s = ok (s.updAxis p.axis.toNat fun _ =>
      { s.axisN p.axis.toNat with rates := ratesOfReq p, heldRates := none }) := by
  rw [motSetRatesBody_eq ha hbad, State.setRates_idle _ hst, hst]
  rfl

theorem motSetRatesBody_held {p : RatesReq} (ha : p.axis.toNat ≤ 7) (hbad : (ratesOfReq p).bad (s.axisN p.axis.toNat) = false)
    (hst : (s.axisN p.axis.toNat).st.holdsRates = true) :
    motSetRatesBody p s = .done 0x0B04 [] (s.updAxis p.axis.toNat fun a => { a with heldRates := some (ratesOfReq p) }) := by
  rw [motSetRatesBody_eq ha hbad, State.setRates_held _ hst, if_pos hst]

theorem exec_motSetRates_idle {p : RatesReq} (hs : Safety.served s h 24 = true) (hr : p.rsv = 0) (ha : p.axis.toNat ≤ 7)
    (hbad : (ratesOfReq p).bad (s.axisN p.axis.toNat) = false) (hst : (s.axisN p.axis.toNat).st = .idle) :
    ∃ t, exec (.motSetRates h p) s = .next t ∧ Safety.Answered h 0x0B02 0 [] s t ∧ t = { s with host := t.host, axis := t.axis } ∧
      t.axisN p.axis.toNat = { s.axisN p.axis.toNat with rates := ratesOfReq p, heldRates := none } ∧
      ∀ n, n ≠ p.axis.toNat → t.axisN n = s.axisN n :=
  mbCmd_updAxis (c := { op := 0x0B02, len := 24, rsv := p.rsv != 0 }) hs (by simp only [hr, bne_self_eq_false]) rfl rfl
    (motSetRatesBody_idle (s := s.mbStart h) ha hbad hst)

theorem exec_motSetRates_held {p : RatesReq} (hs : Safety.served s h 24 = true) (hr : p.rsv = 0) (ha : p.axis.toNat ≤ 7)
    (hbad : (ratesOfReq p).bad (s.axisN p.axis.toNat) = false) (hst : (s.axisN p.axis.toNat).st.holdsRates = true) :
    ∃ t, exec (.motSetRates h p) s = .next t ∧ Safety.Answered h 0x0B02 0x0B04 [] s t ∧ t = { s with host := t.host, axis := t.axis } ∧
      t.axisN p.axis.toNat = { s.axisN p.axis.toNat with heldRates := some (ratesOfReq p) } ∧
      ∀ n, n ≠ p.axis.toNat → t.axisN n = s.axisN n :=
  mbCmd_updAxis (c := { op := 0x0B02, len := 24, rsv := p.rsv != 0 }) hs (by simp only [hr, bne_self_eq_false]) rfl rfl
    (motSetRatesBody_held (s := s.mbStart h) ha hbad hst)

theorem motSetPositionBody_ok {a : Byte} (x : BitVec 64) (ha : a.toNat ≤ 7) (hfree : s.axisFree a.toNat = true) :
    motSetPositionBody a x s = ok (s.updAxis a.toNat fun a => { a with pos := x.toInt, target := x.toInt, unhomed := false }) := by
  simp only [motSetPositionBody, axisBad_eq_false ha, hfree, Bool.not_true, Bool.false_eq_true, if_false]

theorem exec_motSetPosition {a : Byte} {x : BitVec 64} (hs : Safety.served s h 16 = true) (ha : a.toNat ≤ 7)
    (hfree : s.axisFree a.toNat = true) :
    ∃ t, exec (.motSetPosition h a 0 x) s = .next t ∧ Safety.Answered h 0x0B0D 0 [] s t ∧ t = { s with host := t.host, axis := t.axis } ∧
      t.axisN a.toNat = { s.axisN a.toNat with pos := x.toInt, target := x.toInt, unhomed := false } ∧
      ∀ n, n ≠ a.toNat → t.axisN n = s.axisN n :=
  mbCmd_updAxis (c := { op := 0x0B0D, len := 16 }) hs rfl rfl rfl (motSetPositionBody_ok (s := s.mbStart h) x ha hfree)

/-! ### MOT_LOAD_TABLE -/

theorem segRange_eq_false {first count : Byte} (hc : count ≠ 0) (hend : first.toNat + count.toNat ≤ 64) :
    segRange first count = false := by
  have hpos : count.toNat ≠ 0 := fun e => hc (BitVec.eq_of_toNat_eq e)
  simp only [segRange, Bool.or_eq_false_iff, decide_eq_false_iff_not]
  omega

theorem motLoadTableBody_ok {a first count : Byte} {addr : BitVec 64} (ha : a.toNat ≤ 7) (hc : count ≠ 0)
    (hend : first.toNat + count.toNat ≤ 64) (haddr : s.addrOk addr.toNat (16 * count.toNat) = true)
    (hsegs : ∀ g ∈ s.segsAt addr.toNat count.toNat, 1000 ≤ g.durationNs) :
    motLoadTableBody a first count addr s = ok (s.updAxis a.toNat fun x => { x with
      segs := SMap.setList {} x.segs first.toNat (s.segsAt addr.toNat count.toNat) }) := by
  have hlong : ((s.segsAt addr.toNat count.toNat).any fun g => decide (g.durationNs < 1000)) = false :=
    List.any_eq_false.2 fun g hg => by simpa using hsegs g hg
  simp only [motLoadTableBody, checked, firstBad, axisBad_eq_false ha, segRange_eq_false hc hend, haddr, hlong, Bool.not_true,
    Bool.or_self, Bool.false_eq_true, if_false]

theorem exec_motLoadTable {a first count : Byte} {addr : BitVec 64} (hs : Safety.served s h 16 = true) (ha : a.toNat ≤ 7)
    (hc : count ≠ 0) (hend : first.toNat + count.toNat ≤ 64) (haddr : s.addrOk addr.toNat (16 * count.toNat) = true)
    (hsegs : ∀ g ∈ s.segsAt addr.toNat count.toNat, 1000 ≤ g.durationNs) :
    ∃ t, exec (.motLoadTable h a first count 0 addr) s = .next t ∧ Safety.Answered h 0x0B06 0 [] s t ∧
      t = { s with host := t.host, axis := t.axis } ∧
      t.axisN a.toNat = { s.axisN a.toNat with
        segs := SMap.setList {} (s.axisN a.toNat).segs first.toNat (s.segsAt addr.toNat count.toNat) } ∧
      ∀ n, n ≠ a.toNat → t.axisN n = s.axisN n :=
  mbCmd_updAxis (c := { op := 0x0B06, len := 16, zero := count == 0 }) hs rfl (beq_eq_false_iff_ne.2 hc) rfl
    (motLoadTableBody_ok (s := s.mbStart h) ha hc hend haddr hsegs)

/-! ### MOT_SET_COMPARE -/

/-- MOT_SET_COMPARE with the fields of an armed compare in range passes its checks. -/
theorem compareFields_inRange {p : CompareReq} (htrig : p.trig.toNat ≤ 7)
    (hsrc : p.source.toNat ≤ 3 ∨ 8 ≤ p.source.toNat ∧ p.source.toNat ≤ 15) (hmode : p.mode = 1 ∨ p.mode = 2)
    (hdir : p.flags.toNat % 4 ≠ 3) (hw : 20 ≤ p.widthNs.toNat ∧ p.widthNs.toNat ≤ 1000000000)
    (hint : p.mode = 2 → 65536 ≤ p.interval.toNat ∧ p.repeats ≠ 0) (hst : (s.trigN p.trig.toNat).st ≠ .cameraOwned) :
    firstBad [
      (decide (7 < p.trig.toNat), 0x0B01),
      (decide (2 < (trigOfReq p).mode), 0x0B02),
      (decide (3 < (trigOfReq p).source) && out (trigOfReq p).source 8 15, 0x0B01),
      ((trigOfReq p).dir == 3 || out (trigOfReq p).widthNs 20 1000000000 ||
        ((trigOfReq p).mode == 2 && decide ((trigOfReq p).interval < 65536)), 0x0B02),
      ((s.trigN p.trig.toNat).st == .cameraOwned, 0x0B06)] = none := by
  have hm : decide (2 < (trigOfReq p).mode) = false := by
    rcases hmode with e | e <;> simp [trigOfReq, e]
  have hs : (decide (3 < (trigOfReq p).source) && out (trigOfReq p).source 8 15) = false := by
    rcases hsrc with hlow | ⟨hlo, hhi⟩
    · rw [show (trigOfReq p).source = p.source.toNat from rfl, decide_eq_false (not_lt.2 hlow), Bool.false_and]
    · rw [show (trigOfReq p).source = p.source.toNat from rfl, out_eq_false hlo hhi, Bool.and_false]
  have hi : ((trigOfReq p).mode == 2 && decide ((trigOfReq p).interval < 65536)) = false := by
    rcases hmode with e | e
    · simp [trigOfReq, e]
    · have hlong := (hint e).1
      simp [trigOfReq, e, hlong]
  have hd : ((trigOfReq p).dir == 3) = false := beq_eq_false_iff_ne.2 hdir
  have hwidth : out (trigOfReq p).widthNs 20 1000000000 = false := out_eq_false hw.1 hw.2
  simp only [firstBad, decide_eq_false (not_lt.2 htrig), hm, hs, hd, hwidth, hi, beq_eq_false_iff_ne.2 hst, Bool.or_self,
    Bool.false_eq_true, if_false]

theorem motSetCompareBody_ok {p : CompareReq} (htrig : p.trig.toNat ≤ 7)
    (hsrc : p.source.toNat ≤ 3 ∨ 8 ≤ p.source.toNat ∧ p.source.toNat ≤ 15) (hmode : p.mode = 1 ∨ p.mode = 2)
    (hdir : p.flags.toNat % 4 ≠ 3) (hw : 20 ≤ p.widthNs.toNat ∧ p.widthNs.toNat ≤ 1000000000)
    (hint : p.mode = 2 → 65536 ≤ p.interval.toNat ∧ p.repeats ≠ 0) (hst : (s.trigN p.trig.toNat).st ≠ .cameraOwned)
    (hahead : pointAhead (p.flags.toNat % 4) (s.srcCount p.source.toNat) p.position.toInt = true) :
    motSetCompareBody p s = ok (s.updTrig p.trig.toNat fun _ => trigOfReq p) := by
  have hm : (trigOfReq p).mode ≠ 0 := by
    rcases hmode with e | e <;> simp [trigOfReq, e]
  have hpoint : pointAhead (trigOfReq p).dir (s.srcCount (trigOfReq p).source) (trigOfReq p).position = true := hahead
  simp only [motSetCompareBody, compareFields_inRange htrig hsrc hmode hdir hw hint hst, checked, hm, hpoint, if_false, if_true]

theorem exec_motSetCompare {p : CompareReq} (hs : Safety.served s h 24 = true) (hopen : s.motClosed = false)
    (hflags : p.flags.toNat ≤ 7) (htrig : p.trig.toNat ≤ 7)
    (hsrc : p.source.toNat ≤ 3 ∨ 8 ≤ p.source.toNat ∧ p.source.toNat ≤ 15) (hmode : p.mode = 1 ∨ p.mode = 2)
    (hdir : p.flags.toNat % 4 ≠ 3) (hw : 20 ≤ p.widthNs.toNat ∧ p.widthNs.toNat ≤ 1000000000)
    (hint : p.mode = 2 → 65536 ≤ p.interval.toNat ∧ p.repeats ≠ 0) (hst : (s.trigN p.trig.toNat).st ≠ .cameraOwned)
    (hahead : pointAhead (p.flags.toNat % 4) (s.srcCount p.source.toNat) p.position.toInt = true) :
    ∃ t, exec (.motSetCompare h p) s = .next t ∧ Safety.Answered h 0x0B0A 0 [] s t ∧ t = { s with host := t.host, trig := t.trig } ∧
      t.trigN p.trig.toNat = trigOfReq p ∧ ∀ n, n ≠ p.trig.toNat → t.trigN n = s.trigN n := by
  have hzero : (p.mode == 2 && p.repeats == 0) = false := by
    rcases hmode with e | e
    · rw [e]; rfl
    · rw [beq_eq_false_iff_ne.2 (hint e).2, Bool.and_false]
  exact mbCmd_updTrig
    (c := { op := 0x0B0A, len := 24, rsv := 7 < p.flags.toNat, zero := p.mode == 2 && p.repeats == 0, gated := State.motClosed })
    hs (decide_eq_false (not_lt.2 hflags)) hzero hopen
    (motSetCompareBody_ok (s := s.mbStart h) htrig hsrc hmode hdir hw hint hst hahead)

/-! ### MOT_GET_STATUS and MOT_GET_COMPARE -/

theorem exec_motGetStatus {a : Byte} (hs : Safety.served s h 4 = true) (ha : a.toNat ≤ 7) :
    ∃ t, exec (.motGetStatus h a 0) s = .next t ∧ Safety.Answered h 0x0B0B 0 (s.axisBytes a.toNat) s t ∧ t = { s with host := t.host } :=
  mbCmd_answer (c := { op := 0x0B0B, len := 4 })
    (body := fun s => if axisBad a then fail 0x0B01 s else okWith (s.axisBytes a.toNat) s) hs rfl rfl rfl
    (if_neg (Bool.eq_false_iff.1 (axisBad_eq_false ha)))

theorem exec_motGetCompare {n : Byte} (hs : Safety.served s h 4 = true) (hn : n.toNat ≤ 7) :
    ∃ t, exec (.motGetCompare h n 0) s = .next t ∧ Safety.Answered h 0x0B0C 0 (s.trigN n.toNat).bytes s t ∧ t = { s with host := t.host } :=
  mbCmd_answer (c := { op := 0x0B0C, len := 4 })
    (body := fun s => if 7 < n.toNat then fail 0x0B01 s else okWith (s.trigN n.toNat).bytes s) hs rfl rfl rfl
    (if_neg (not_lt.2 hn))

end

/-- Settles O22: each setting by the one axis or output it changes, the reports by their answers. -/
theorem motionSettingsApply : Obligations.MotionSettingsApply :=
  ⟨fun _ _ _ hs hf hr hr2 ha hp hsetup hhold hv hq hduty hfree => exec_motSetAxis hs hf hr hr2 ha hp hsetup hhold hv hq hduty hfree,
   fun _ _ _ hs hr ha hbad hst => exec_motSetRates_idle hs hr ha hbad hst,
   fun _ _ _ hs hr ha hbad hst => exec_motSetRates_held hs hr ha hbad hst,
   fun _ _ _ _ hs ha hfree => exec_motSetPosition hs ha hfree,
   fun _ _ _ _ _ _ hs ha hc hend haddr hsegs => exec_motLoadTable hs ha hc hend haddr hsegs,
   fun _ _ _ hs hopen hf ht hsrc hmode hdir hw hint hst hahead =>
     exec_motSetCompare hs hopen hf ht hsrc hmode hdir hw hint hst hahead,
   fun _ _ _ hs ha => exec_motGetStatus hs ha, fun _ _ _ hs hn => exec_motGetCompare hs hn⟩

end Sys2Proof.Machine

namespace Sys2Proof.Machine

/-! ## Moves, stops and gearing of one axis

A move, a stop, a table and an engagement work for one axis: no other axis changes, and of the rest only alert bits
(R249, R252, R254–R256). -/

/-- An operation that works for axis `n`. -/
structure OfAxis (n : Nat) (s t : State) : Prop where
  only : Only [.axis, .alert] s t
  others : ∀ m, m ≠ n → t.axisN m = s.axisN m

section
variable {s t u : State} {n : Nat} {h : MbHdr}

theorem OfAxis.refl (n : Nat) (s : State) : OfAxis n s s := ⟨.refl s, fun _ _ => rfl⟩

theorem OfAxis.trans (h1 : OfAxis n s t) (h2 : OfAxis n t u) : OfAxis n s u :=
  ⟨h1.only.trans h2.only, fun m hm => (h2.others m hm).trans (h1.others m hm)⟩

theorem State.updAxis_ofAxis (s : State) (n : Nat) (f : Axis → Axis) : OfAxis n s (s.updAxis n f) :=
  ⟨(s.updAxis_only n f).mono (by decide), fun _ hm => State.axisN_updAxis_ne _ _ _ _ hm⟩

theorem State.raise_ofAxis (s : State) (r : AlertReg) (k n : Nat) : OfAxis n s (s.raise r k) :=
  ⟨(s.raise_only r k).mono (by decide), fun _ _ => rfl⟩

@[simp] theorem State.axisN_raise (s : State) (r : AlertReg) (k m : Nat) : (s.raise r k).axisN m = s.axisN m := rfl

@[simp] theorem State.axisN_axisDone (s : State) (k m : Nat) : (s.axisDone k).axisN m = s.axisN m := rfl

/-- An axis takes a new state, and is done where its motion has ended with it. -/
def State.placeAxis (n : Nat) (r : Axis × Bool) (s : State) : State :=
  if r.2 then (s.updAxis n fun _ => r.1).axisDone n else s.updAxis n fun _ => r.1

theorem State.placeAxis_ofAxis (s : State) (n : Nat) (r : Axis × Bool) : OfAxis n s (s.placeAxis n r) := by
  unfold State.placeAxis
  split
  · exact (s.updAxis_ofAxis n _).trans (State.raise_ofAxis _ _ _ _)
  · exact s.updAxis_ofAxis n _

theorem State.placeAxis_axis (s : State) (n : Nat) (r : Axis × Bool) : (s.placeAxis n r).axisN n = r.1 := by
  unfold State.placeAxis
  split
  · rw [State.axisN_axisDone, State.axisN_updAxis_same]
  · rw [State.axisN_updAxis_same]

/-- A command that works for one axis. -/
theorem mbCmd_ofAxis {c : MbCheck} {i : Instr} {body : State → Answer} (hs : Safety.served s h c.len = true) (hr : c.rsv = false)
    (hz : c.zero = false) (hg : c.gated (s.mbStart h) = false) (hb : body (s.mbStart h) = ok u) (hu : OfAxis n (s.mbStart h) u) :
    ∃ t, mbCmd h i (mbServe c h body) s = .next t ∧ Safety.AnsweredWith h c.op 0 [] s t ∧
      t = { s with host := t.host, axis := t.axis } ∧ t.axisN n = u.axisN n ∧ ∀ m, m ≠ n → t.axisN m = s.axisN m := by
  obtain ⟨t, e, ha, -, ho, ht⟩ := mbCmd_done_only (i := i) hs hr hz hg hb hu.only (by decide)
  have haxis : ∀ m, t.axisN m = u.axisN m := fun m => by rw [ht]; rfl
  exact ⟨t, e, ha, (ho.mono (qs := [.host, .alert, .axis]) (by decide)).eq_patch, haxis n,
    fun m hm => (haxis m).trans (hu.others m hm)⟩

/-! ### MOT_MOVE -/

theorem State.motMove_eq (target : Int) : s.motMove n target =
    s.placeAxis n ({ ((s.axisN n).replan target).1 with cause := 0 }, ((s.axisN n).replan target).2) := rfl

/-- What the refusals common to the commands that start motion ask for (R261). -/
theorem State.motRefusal_eq_none : s.motRefusal n = none ↔ (s.axisN n).enable = true ∧ (s.axisN n).st.busy = false := by
  unfold State.motRefusal
  cases (s.axisN n).enable <;> cases (s.axisN n).st.busy <;> simp

theorem motMoveBody_ok {a flags : Byte} {x : BitVec 64} (ha : a.toNat ≤ 7) (href : s.motRefusal a.toNat = none) :
    motMoveBody a flags x s =
      ok (s.motMove a.toNat (if flags.getLsbD 0 then (s.axisN a.toNat).pos + x.toInt else x.toInt)) := by
  simp only [motMoveBody, axisBad_eq_false ha, href, Bool.false_eq_true, if_false]

theorem exec_motMove {a flags : Byte} {x : BitVec 64} (hs : Safety.served s h 16 = true) (hopen : s.motHeld = false)
    (ha : a.toNat ≤ 7) (hf : flags.toNat ≤ 1) (he : (s.axisN a.toNat).enable = true) (hb : (s.axisN a.toNat).st.busy = false) :
    ∃ t, exec (.motMove h a flags 0 x) s = .next t ∧ Safety.AnsweredWith h 0x0B03 0 [] s t ∧
      t = { s with host := t.host, axis := t.axis } ∧
      t.axisN a.toNat = { ((s.axisN a.toNat).replan
        (if flags.getLsbD 0 then (s.axisN a.toNat).pos + x.toInt else x.toInt)).1 with cause := 0 } ∧
      ∀ n, n ≠ a.toNat → t.axisN n = s.axisN n := by
  obtain ⟨t, e, hans, ht, hown, hothers⟩ := mbCmd_ofAxis (i := .motMove h a flags 0 x)
    (c := { op := 0x0B03, len := 16, rsv := 1 < flags.toNat || (0 : BitVec 48) != 0, gated := State.motHeld }) hs
    (Bool.or_eq_false_iff.2 ⟨decide_eq_false (not_lt.2 hf), rfl⟩) rfl hopen
    (motMoveBody_ok (s := s.mbStart h) ha (State.motRefusal_eq_none.2 ⟨he, hb⟩))
    (State.motMove_eq (s := s.mbStart h) _ ▸ State.placeAxis_ofAxis _ _ _)
  rw [State.motMove_eq, State.placeAxis_axis] at hown
  exact ⟨t, e, hans, ht, hown, hothers⟩

/-! ### MOT_STOP and MOT_QUICK_STOP -/

theorem State.axisStop_moving (hr : (s.axisN n).st.resting = false) (hq : (s.axisN n).st ≠ .quickStopping) :
    s.axisStop n = s.placeAxis n (s.stopPlan (s.axisN n)) := by
  simp only [State.axisStop, if_neg hq, hr, Bool.false_eq_true, if_false]
  rfl

/-- MOT_STOP's rules, as `srvMotStop` serves them. -/
def motStopBody (axis : Byte) (s : State) : Answer :=
  if axisBadAll axis then fail 0x0B01 s else ok ((axesOf axis).foldl (fun t n => t.axisStop n) s)

theorem motStopBody_ok {a : Byte} (ha : a.toNat ≤ 7) : motStopBody a s = ok (s.axisStop a.toNat) := by
  simp only [motStopBody, axisBadAll_eq_false ha, axesOf_single ha, List.foldl_cons, List.foldl_nil, Bool.false_eq_true, if_false]

theorem exec_motStop {a : Byte} (hs : Safety.served s h 4 = true) (hopen : s.motClosed = false) (ha : a.toNat ≤ 7)
    (hr : (s.axisN a.toNat).st.resting = false) (hq : (s.axisN a.toNat).st ≠ .quickStopping) :
    ∃ t, exec (.motStop h a 0) s = .next t ∧ Safety.AnsweredWith h 0x0B04 0 [] s t ∧ t = { s with host := t.host, axis := t.axis } ∧
      t.axisN a.toNat = (s.stopPlan (s.axisN a.toNat)).1 ∧ ∀ n, n ≠ a.toNat → t.axisN n = s.axisN n := by
  have hplan := State.axisStop_moving (s := s.mbStart h) hr hq
  obtain ⟨t, e, hans, ht, hown, hothers⟩ := mbCmd_ofAxis (i := .motStop h a 0)
    (c := { op := 0x0B04, len := 4, gated := State.motClosed }) (body := motStopBody a) hs rfl rfl hopen
    ((motStopBody_ok ha).trans (congrArg ok hplan)) (State.placeAxis_ofAxis _ _ _)
  exact ⟨t, e, hans, ht, hown.trans (State.placeAxis_axis _ _ _), hothers⟩

theorem State.quickStop_others (cause : Nat) {m : Nat} (hm : m ≠ n) : (s.quickStop cause n).axisN m = s.axisN m := by
  unfold State.quickStop
  extract_lets a stands broken b s1
  have hplace : ∀ x : Axis, (s1.updAxis n fun _ => x).axisN m = s.axisN m := fun x => State.axisN_updAxis_ne _ _ _ _ hm
  split_ifs
  · rfl
  · exact hplace _
  · exact hplace _

theorem State.quickStop_ofAxis (s : State) (cause n : Nat) : OfAxis n s (s.quickStop cause n) :=
  ⟨s.quickStop_only cause n, fun _ hm => State.quickStop_others cause hm⟩

/-- A quick stop decelerates the axis, or has it at rest at once where it stands or moves slowly enough (R252). -/
theorem State.quickStop_axis (cause : Nat) (hq : (s.axisN n).st ≠ .quickStopping) :
    (((s.quickStop cause n).axisN n).st = .quickStopping ∨ ((s.quickStop cause n).axisN n).st = .stoppedQuick) ∧
      ((s.quickStop cause n).axisN n).cause = cause ∧ ((s.quickStop cause n).axisN n).gear = none := by
  unfold State.quickStop
  extract_lets a stands broken b s1
  rw [if_neg hq]
  split
  · rw [State.axisN_axisDone, State.axisN_updAxis_same]
    exact ⟨.inr rfl, rfl, rfl⟩
  · rw [State.axisN_updAxis_same]
    exact ⟨.inl rfl, rfl, rfl⟩

/-- MOT_QUICK_STOP's rules, as `srvMotQuickStop` serves them. -/
def motQuickStopBody (axis : Byte) (s : State) : Answer :=
  if axisBadAll axis then fail 0x0B01 s else ok ((axesOf axis).foldl (fun t n => t.quickStop 1 n) s)

theorem motQuickStopBody_ok {a : Byte} (ha : a.toNat ≤ 7) : motQuickStopBody a s = ok (s.quickStop 1 a.toNat) := by
  simp only [motQuickStopBody, axisBadAll_eq_false ha, axesOf_single ha, List.foldl_cons, List.foldl_nil, Bool.false_eq_true,
    if_false]

theorem exec_motQuickStop {a : Byte} (hs : Safety.served s h 4 = true) (hopen : s.motClosed = false) (ha : a.toNat ≤ 7)
    (hq : (s.axisN a.toNat).st ≠ .quickStopping) :
    ∃ t, exec (.motQuickStop h a 0) s = .next t ∧ Safety.AnsweredWith h 0x0B05 0 [] s t ∧
      t = { s with host := t.host, axis := t.axis } ∧
      ((t.axisN a.toNat).st = .quickStopping ∨ (t.axisN a.toNat).st = .stoppedQuick) ∧ (t.axisN a.toNat).cause = 1 ∧
      (t.axisN a.toNat).gear = none ∧ ∀ n, n ≠ a.toNat → t.axisN n = s.axisN n := by
  obtain ⟨hst, hcause, hgear⟩ := State.quickStop_axis (s := s.mbStart h) 1 hq
  obtain ⟨t, e, hans, ht, hown, hothers⟩ := mbCmd_ofAxis (i := .motQuickStop h a 0)
    (c := { op := 0x0B05, len := 4, gated := State.motClosed }) (body := motQuickStopBody a) hs rfl rfl hopen
    (motQuickStopBody_ok ha) (State.quickStop_ofAxis _ _ _)
  rw [← hown] at hst hcause hgear
  exact ⟨t, e, hans, ht, hst, hcause, hgear, hothers⟩

/-! ### MOT_RUN_TABLE -/

theorem motRunTableBody_ok {a first count : Byte} (ha : a.toNat ≤ 7) (hc : count ≠ 0) (hend : first.toNat + count.toNat ≤ 64)
    (href : s.motRefusal a.toNat = none)
    (hgood : tableBad (s.axisN a.toNat) (SMap.getList {} (s.axisN a.toNat).segs first.toNat count.toNat) = false) :
    motRunTableBody a first count s =
      ok (s.runTable a.toNat (SMap.getList {} (s.axisN a.toNat).segs first.toNat count.toNat)) := by
  simp only [motRunTableBody, axisBad_eq_false ha, segRange_eq_false hc hend, href, hgood, Bool.false_eq_true, if_false]

theorem exec_motRunTable {a first count : Byte} (hs : Safety.served s h 4 = true) (hopen : s.motHeld = false) (ha : a.toNat ≤ 7)
    (hc : count ≠ 0) (hend : first.toNat + count.toNat ≤ 64) (href : s.motRefusal a.toNat = none)
    (hgood : tableBad (s.axisN a.toNat) (SMap.getList {} (s.axisN a.toNat).segs first.toNat count.toNat) = false) :
    ∃ t, exec (.motRunTable h a first count 0) s = .next t ∧ Safety.AnsweredWith h 0x0B07 0 [] s t ∧
      t = { s with host := t.host, axis := t.axis } ∧ (t.axisN a.toNat).st = .table ∧
      (t.axisN a.toNat).cause = 0 ∧ (t.axisN a.toNat).pos = (s.axisN a.toNat).pos ∧ ∀ n, n ≠ a.toNat → t.axisN n = s.axisN n := by
  obtain ⟨t, e, hans, ht, hown, hothers⟩ := mbCmd_updAxis (i := .motRunTable h a first count 0)
    (c := { op := 0x0B07, len := 4, zero := count == 0, gated := State.motHeld }) hs rfl (beq_eq_false_iff_ne.2 hc) hopen
    (motRunTableBody_ok (s := s.mbStart h) ha hc hend href hgood)
  exact ⟨t, e, hans.1, ht, (congrArg Axis.st hown :), (congrArg Axis.cause hown :), (congrArg Axis.pos hown :), hothers⟩

/-! ### MOT_GEAR and MOT_GEAR_RATIO -/

/-- MOT_GEAR with ENGAGE: at once, or with its position ahead. -/
theorem motGearBody_ok {p : GearReq} (hflags : p.flags = 1 ∨ p.flags = 3) (ha : p.axis.toNat ≤ 7) (hd : p.den ≠ 0)
    (hb : p.blendCounts ≠ 0) (hl : p.followLimit ≠ 0) (href : s.motRefusal p.axis.toNat = none)
    (hahead : p.flags = 1 → (s.encN 0).count * 65536 < p.engagePos.toInt) :
    motGearBody p s = ok (s.gearOn p.axis.toNat (p.flags.getLsbD 1) (gearOfReq p)) := by
  obtain ⟨hen, hbusy⟩ := State.motRefusal_eq_none.1 href
  have hengage : p.flags.getLsbD 0 = true := by rcases hflags with e | e <;> rw [e] <;> rfl
  have hpos : (!p.flags.getLsbD 1 && decide (p.engagePos.toInt ≤ (s.encN 0).count * 65536)) = false := by
    rcases hflags with e | e
    · rw [decide_eq_false (not_le.2 (hahead e)), Bool.and_false]
    · rw [e]; rfl
  simp only [motGearBody, checked, firstBad, axisBad_eq_false ha, beq_eq_false_iff_ne.2 hd, beq_eq_false_iff_ne.2 hb,
    beq_eq_false_iff_ne.2 hl, hen, hbusy, hengage, hpos, Bool.true_and, Bool.false_and, Bool.not_true, Bool.or_self,
    Bool.false_eq_true, if_false, if_true]

theorem exec_motGear {p : GearReq} (hs : Safety.served s h 32 = true) (hopen : s.motHeld = false)
    (hflags : p.flags = 1 ∨ p.flags = 3) (hr : p.rsv = 0) (hr2 : p.rsv2 = 0) (ha : p.axis.toNat ≤ 7) (hd : p.den ≠ 0)
    (hb : p.blendCounts ≠ 0) (hl : p.followLimit ≠ 0) (href : s.motRefusal p.axis.toNat = none)
    (hahead : p.flags = 1 → (s.encN 0).count * 65536 < p.engagePos.toInt) :
    ∃ t, exec (.motGear h p) s = .next t ∧ Safety.Answered h 0x0B08 0 [] s t ∧ t = { s with host := t.host, axis := t.axis } ∧
      (p.flags = 3 → (t.axisN p.axis.toNat).st = .geared) ∧ (p.flags = 1 → (t.axisN p.axis.toNat).gear = some (gearOfReq p)) ∧
      ∀ n, n ≠ p.axis.toNat → t.axisN n = s.axisN n := by
  have hrsv : (decide (3 < p.flags.toNat) || p.rsv != 0 || p.rsv2 != 0) = false := by
    rcases hflags with e | e <;> rw [e, hr, hr2] <;> rfl
  obtain ⟨t, e, hans, ht, hown, hothers⟩ := mbCmd_updAxis (i := .motGear h p)
    (c := { op := 0x0B08, len := 32, rsv := 3 < p.flags.toNat || p.rsv != 0 || p.rsv2 != 0, gated := State.motHeld }) hs hrsv rfl
    hopen (motGearBody_ok (s := s.mbStart h) hflags ha hd hb hl href hahead)
  refine ⟨t, e, hans, ht, fun hnow => ?_, fun hlater => ?_, hothers⟩
  · rw [hown, hnow]; rfl
  · rw [hown, hlater]; rfl

theorem motGearRatioBody_ok {a : Byte} {num den : BitVec 32} {x : BitVec 64} (ha : a.toNat ≤ 7) (hd : den ≠ 0)
    (hroom : (s.axisN a.toNat).pend.length < 4) (hahead : (s.encN 0).count * 65536 < x.toInt) :
    motGearRatioBody a num den x s = ok (s.updAxis a.toNat fun a => { a with
      pend := a.pend ++ [(x.toInt, (num.toInt : Rat) / den.toNat)] }) := by
  simp only [motGearRatioBody, checked, firstBad, axisBad_eq_false ha, beq_eq_false_iff_ne.2 hd, decide_eq_false (not_le.2 hroom),
    decide_eq_false (not_le.2 hahead), Bool.false_eq_true, if_false]

theorem exec_motGearRatio {a : Byte} {num den : BitVec 32} {x : BitVec 64} (hs : Safety.served s h 24 = true)
    (hopen : s.motClosed = false) (ha : a.toNat ≤ 7) (hd : den ≠ 0) (hroom : (s.axisN a.toNat).pend.length < 4)
    (hahead : (s.encN 0).count * 65536 < x.toInt) :
    ∃ t, exec (.motGearRatio h a 0 num den 0 x) s = .next t ∧ Safety.Answered h 0x0B09 0 [] s t ∧
      t = { s with host := t.host, axis := t.axis } ∧
      t.axisN a.toNat = { s.axisN a.toNat with
        pend := (s.axisN a.toNat).pend ++ [(x.toInt, (num.toInt : Rat) / (den.toNat : Rat))] } ∧
      ∀ n, n ≠ a.toNat → t.axisN n = s.axisN n :=
  mbCmd_updAxis (c := { op := 0x0B09, len := 24, gated := State.motClosed }) hs rfl rfl hopen
    (motGearRatioBody_ok (s := s.mbStart h) ha hd hroom hahead)

end

/-! ## AXIS_STEP and TRIG_PULSE_END -/

section
variable (s : State) (n : Nat)

/-! ### What follows a step leaves the axis where it is -/

theorem State.trigMissed_only : Only [.alert] s (s.trigMissed n) := s.raise_only _ _

/-- The points that a movement passes change their output alone, and alert bits. -/
theorem State.trigPoints_only (prev now : Int) (f : Nat) (first : Bool) : Only [.trig, .alert] s (s.trigPoints n prev now f first) := by
  induction f generalizing s first with
  | zero => exact .refl s
  | succ f ih =>
    unfold State.trigPoints
    extract_lets t
    have hfire : Only [.trig, .alert] s (s.trigFire n) := (s.updTrig_only n _).mono (by decide)
    have hmiss : Only [.trig, .alert] s ((s.updTrig n fun t => { t.advance with missed := t.missed + 1 }).trigMissed n) :=
      (s.updTrig_only n _).step (State.trigMissed_only _ n)
    exact .ite (.refl s) (.ite (hfire.trans (ih _ _)) (hmiss.trans (ih _ _)))

theorem State.srcMoved_only (src : Nat) (prev now : Int) : Only [.trig, .alert] s (s.srcMoved src prev now) :=
  .foldl (fun t k => .ite (t.trigPoints_only k prev now _ true) (.refl t)) _ _

variable {s n}

/-- The interval queue leaves where the axis is and what it does (R248). -/
theorem State.queueStep_axis : ((s.queueStep n).axisN n).pos = (s.axisN n).pos ∧ ((s.queueStep n).axisN n).st = (s.axisN n).st := by
  unfold State.queueStep
  split
  · rw [State.axisN_updAxis_same]
    exact ⟨rfl, rfl⟩
  · extract_lets late
    split
    next x s1 hdraw =>
      have hs1 : s1 = (s.drawBelow (10 - (s.axisN n).queued)).2 := by rw [hdraw]
      have hdrawn : s1.axisN n = s.axisN n := hs1 ▸ State.axisN_of_only (State.drawBelow_only _ _) (by decide) n
      extract_lets s2
      have h2 : s2.axisN n = { s1.axisN n with queued := min 8 ((s1.axisN n).queued - 1 + x) } := State.axisN_updAxis_same _ _ _
      split
      · rw [State.axisN_raise, State.axisN_updAxis_same, h2, hdrawn]
        exact ⟨rfl, rfl⟩
      · rw [h2, hdrawn]
        exact ⟨rfl, rfl⟩

/-- An axis that has stepped: the time and direction of the step are noted, and the timer is loaded anew (R247, R248). -/
def Axis.stepped (now : Nat) (up : Bool) (a : Axis) : Axis := Axis.reload now { a with lastStep := some now, dirOut := up }

theorem Axis.stepped_core (now : Nat) (up : Bool) (a : Axis) : (a.stepped now up).pos = a.pos ∧ (a.stepped now up).st = a.st := by
  unfold Axis.stepped Axis.reload
  split <;> exact ⟨rfl, rfl⟩

/-! ### AXIS_STEP -/

/-- A step that is due and that DIR allows: where it moves the axis, the queue and the compares of the axis follow (R247, R248). -/
theorem State.axisStep_eq {r : Axis × Bool} (hn : n < 8) (hr : r = (s.axisN n).step (s.tableTime (s.axisN n)))
    (hdue : (s.axisN n).due ≤ s.time.ticks)
    (hdir : r.1.pos = (s.axisN n).pos ∨ (s.axisN n).turnAt (decide ((s.axisN n).pos < r.1.pos)) ≤ s.time.ticks) :
    s.axisStep n = if r.1.pos = (s.axisN n).pos then s.placeAxis n r
      else ((s.placeAxis n (r.1.stepped s.time.ticks (decide ((s.axisN n).pos < r.1.pos)), r.2)).queueStep n).srcMoved (8 + n)
        (s.axisN n).pos r.1.pos := by
  have hgo : ¬ (7 < n ∨ s.time.ticks < (s.axisN n).due ∨
      r.1.pos ≠ (s.axisN n).pos ∧ s.time.ticks < (s.axisN n).turnAt (decide ((s.axisN n).pos < r.1.pos))) := by
    rintro (h7 | hearly | ⟨hmove, hturn⟩)
    · omega
    · exact absurd hdue (not_le.2 hearly)
    · exact hdir.elim hmove (not_le.2 hturn)
  subst hr
  exact if_neg hgo

theorem State.axisStep_due {r : Axis × Bool} (hn : n < 8) (hr : r = (s.axisN n).step (s.tableTime (s.axisN n)))
    (hdue : (s.axisN n).due ≤ s.time.ticks)
    (hdir : r.1.pos = (s.axisN n).pos ∨ (s.axisN n).turnAt (decide ((s.axisN n).pos < r.1.pos)) ≤ s.time.ticks) :
    ((s.axisStep n).axisN n).pos = r.1.pos ∧ ((s.axisStep n).axisN n).st = r.1.st := by
  rw [State.axisStep_eq hn hr hdue hdir]
  split
  · rw [State.placeAxis_axis]
    exact ⟨rfl, rfl⟩
  · rw [State.axisN_of_only (State.srcMoved_only _ _ _ _) (by decide), State.queueStep_axis.1, State.queueStep_axis.2,
      State.placeAxis_axis]
    exact Axis.stepped_core _ _ _

/-- Before its timer has run out an axis issues no step (R248). -/
theorem State.axisStep_early (hearly : s.time.ticks < (s.axisN n).due) : s.axisStep n = s := if_pos (.inr (.inl hearly))

theorem exec_axisStep_due {a : Axis} (hal : s.alive = true) (hg : s.motGated = false) (hn : n < 8)
    (ha : a = ((s.axisN n).step (s.tableTime (s.axisN n))).1) (hdue : (s.axisN n).due ≤ s.time.ticks)
    (hdir : a.pos = (s.axisN n).pos ∨ (s.axisN n).turnAt (decide ((s.axisN n).pos < a.pos)) ≤ s.time.ticks) :
    ∃ t, exec (.axisStep n) s = .next t ∧ (t.axisN n).pos = a.pos ∧ (t.axisN n).st = a.st := by
  obtain ⟨t, hx, -, ht⟩ := evt_next (f := fun s => if s.motGated then s else s.axisStep n) hal
  have haxis : t.axisN n = (s.axisStep n).axisN n := by
    rw [ht, hg, if_neg Bool.false_ne_true]
    rfl
  subst ha
  refine ⟨t, hx, ?_⟩
  rw [haxis]
  exact State.axisStep_due hn rfl hdue hdir

/-- An event of the powered chip whose rules change nothing. -/
theorem evt_unchanged {f : State → State} (ha : s.alive = true) (hf : f s = s) : ∃ t, evt f s = .next t ∧ t = s := by
  refine ⟨s, ?_, rfl⟩
  rw [evt, if_pos ha, hf]
  exact done_of_intPending_eq rfl rfl fun _ => rfl

theorem exec_axisStep_early (hal : s.alive = true) (hearly : s.time.ticks < (s.axisN n).due) :
    ∃ t, exec (.axisStep n) s = .next t ∧ t = s :=
  evt_unchanged (f := fun s => if s.motGated then s else s.axisStep n) hal (by rw [State.axisStep_early hearly, ite_self])

/-! ### TRIG_PULSE_END -/

/-- An event that changes one trigger output. -/
theorem evt_updTrig {f : State → State} {g : Trig → Trig} (ha : s.alive = true) (hf : f s = s.updTrig n g) :
    ∃ t, evt f s = .next t ∧ Safety.Quiet s t ∧ t = { s with host := t.host, trig := t.trig } ∧ t.trigN n = g (s.trigN n) ∧
      ∀ m, m ≠ n → t.trigN m = s.trigN m := by
  have hframe : Only [.trig] s (f s) := hf ▸ s.updTrig_only n g
  obtain ⟨t, hx, -, hquiet, ho, hsent⟩ := evt_only ha hframe (by decide)
  have htrig : ∀ m, t.trigN m = (s.updTrig n g).trigN m := fun m => by rw [State.trigN_of_only hsent (by decide), hf]
  exact ⟨t, hx, hquiet (by decide), (ho.mono (qs := [.host, .alert, .trig]) (by decide)).eq_patch,
    (htrig n).trans (State.trigN_updTrig_same _ _ _), fun m hm => (htrig m).trans (State.trigN_updTrig_ne _ _ _ _ hm)⟩

theorem exec_trigPulseEnd (hal : s.alive = true) (hn : n < 8) :
    ∃ t, exec (.trigPulseEnd n) s = .next t ∧ Safety.Quiet s t ∧ t = { s with host := t.host, trig := t.trig } ∧
      t.trigN n = { s.trigN n with active := false } ∧ ∀ m, m ≠ n → t.trigN m = s.trigN m :=
  evt_updTrig (f := fun s => if 7 < n then s else s.updTrig n fun t => { t with active := false }) hal (if_neg (by omega))

end

/-- Settles O23: each command by the one axis it works for, a step by where it leaves its axis. -/
theorem motionCommandsMove : Obligations.MotionCommandsMove :=
  ⟨fun _ _ _ _ _ hs hopen ha hf he hb => exec_motMove hs hopen ha hf he hb,
   fun _ _ _ hs hopen ha hr hq => exec_motStop hs hopen ha hr hq,
   fun _ _ _ hs hopen ha hq => exec_motQuickStop hs hopen ha hq,
   fun _ _ _ _ _ hs hopen ha hc hend href hgood => exec_motRunTable hs hopen ha hc hend href hgood,
   fun _ _ _ hs hopen hf hr hr2 ha hd hb hl href hahead => exec_motGear hs hopen hf hr hr2 ha hd hb hl href hahead,
   fun _ _ _ _ _ _ hs hopen ha hd hroom hahead => exec_motGearRatio hs hopen ha hd hroom hahead,
   fun _ _ _ hal hg hn ha hdue hdir => exec_axisStep_due hal hg hn ha hdue hdir,
   fun _ _ hal hearly => exec_axisStep_early hal hearly,
   fun _ _ hal hn => exec_trigPulseEnd hal hn⟩

end Sys2Proof.Machine

namespace Sys2Proof.Machine

/-! ## An edge of ENC_0 can end a page

An edge of ENC_0 judges the lines that were sent anew (R58, R86). Under the CUT policy a line that comes too close to the own line before
it ends its page, and a strip armed for that page writes its results to DRAM once the page has left the queue (R201). So a counted edge
does not always leave DRAM as it was. -/

/-- At the next edge the web moves at about 100,000 counts a second, one count and so 10 µs before the first line of a page under the CUT
policy. That line is sent on port 0, whose own line before it fired 5 µs ago, less than the minimum interval of 16.667 µs before it. A strip
of the page is armed, and no camera owns a column. -/
def cutState : State where
  boot := { resetN := true, stage := .ready }
  time := { clock := { sec := 1 } }
  geo := {
    committed := some {
      web := some ⟨false, false, 600, 1, 1, 42333000, 1000, 50, 4, 3, 100, 100, 1024⟩
      port := [(0, { enable := true, nozzles := 2 })] } }
  bat := {
    pages := [{ handle := 1, entry := 0, lines := 4, top := 2 * 65536, vContract := 5000, parity := 0, policy := 2, nextLine := 1 }]
    lines := [{ handle := 1, line := 0, mapped := true, port := [(0, { st := .sent, fire := (1000000000 + 10000) * 256 })] }]
    lastOwn := [(0, some ((1000000000 - 5000) * 256))] }
  enc := [(0, { lastEdge := some ((1000000000 - 10000) * 16777216) })]
  vis := {
    thatch := [{ handle := 1, rowB := false, step := 4, level := 3, firstLine := 0, rungLines := 1, addr := 50 * 2 ^ 28, faint := 0,
                 miss := 0, deflect := 0, page := some (2 * 65536, 4, 0) }] }

/-- The strip's results stand at its address: the first byte is the handle of its page. -/
theorem cutState_edge_writes : (State.encoderEdge 0 (.a true) 4 cutState).dram.read (50 * 2 ^ 28) = 1 := by decide +kernel

theorem cutState_dram : cutState.dram.read (50 * 2 ^ 28) = 0 := by decide

theorem exec_encoderEdge_dram {s t : State} {n k : Nat} {x : LineEdge} (ha : s.alive = true)
    (hx : exec (.encoderEdge n ⟨x, k⟩) s = .next t) : t.dram = (s.encoderEdge n x k).dram := by
  obtain ⟨u, hu, -, hnext⟩ := evt_next (f := State.encoderEdge n x k) ha
  have htu : t = u := Host.Outcome.next.inj (hx.symm.trans hu)
  rw [htu, hnext]

/-- Refutes O40: an edge of line A of ENC_0 moves the next line of a page too close to the one before it, the page is cut, and the results
of its strip go to DRAM. -/
theorem not_encoderEventsCount : ¬ Obligations.EncoderEventsCount := by
  intro h
  obtain ⟨hedge, -⟩ := h
  have ha : cutState.alive = true := by decide
  obtain ⟨t, hx, -, -, -, -, -, -, hdram, -⟩ := hedge cutState 0 4 true ha (by decide) (by decide) (by decide) (by decide)
  have hread : (State.encoderEdge 0 (.a true) 4 cutState).dram.read (50 * 2 ^ 28) = 0 := by
    rw [← exec_encoderEdge_dram ha hx, hdram, cutState_dram]
  exact absurd (cutState_edge_writes.symm.trans hread) (by decide)

end Sys2Proof.Machine

namespace Sys2Proof.Machine

/-! ## What moves of LEAD leave of the twin unit

LEAD moves with its castle and a ROLE frame to the partner (R284). `Twin.unsent` is the twin unit without its sending side, and
`Twin.steady` what work on pages leaves of it: LEAD, its castle and the partner's marks apart (R274, R284). -/

/-- The twin unit but for what its link sends. -/
def Twin.unsent (t : Twin) : Twin := { t with txSeq := 0, unacked := [], txQ := [] }

/-- The twin unit but for what its link sends, LEAD with its castle, and the partner's marks of pages. -/
def Twin.steady (t : Twin) : Twin :=
  { t.unsent with role := .reserve, roleSeq := 0, castleDue := false, atEmpty := false, pagesSince := 0, peerMarks := [] }

/-- A twin unit whose LEAD has gone to the partner (R284). -/
def Twin.leadGone (t : Twin) : Twin :=
  { t with role := .reserve, roleSeq := t.roleSeq + 1, castleDue := false, atEmpty := false, pagesSince := 0 }

/-- A twin unit that has stepped down in a stalemate (R282). -/
def Twin.steppedDown (t : Twin) : Twin :=
  { t with role := .reserve, roleSeq := t.roleSeq + 1, frozen := false, stalemate := false, pagesSince := 0 }

theorem Twin.steady_of_unsent {t t' : Twin} (h : t'.unsent = t.unsent) : t'.steady = t.steady :=
  congrArg (fun x : Twin => { x with
    role := .reserve, roleSeq := 0, castleDue := false, atEmpty := false, pagesSince := 0, peerMarks := [] }) h

section
variable (s : State)

theorem State.twinSend_unsent (f : SeqFrame) : (s.twinSend f).twin.unsent = s.twin.unsent := by
  unfold State.twinSend
  split <;> rfl

theorem State.mirrorSend_unsent (f : SeqFrame) : (s.mirrorSend f).twin.unsent = s.twin.unsent := by
  unfold State.mirrorSend
  split
  · rfl
  · exact s.twinSend_unsent f

theorem State.forward9_unsent (op : Nat) (key : BitVec 32) (payload : List Byte) :
    (s.forward9 op key payload).twin.unsent = s.twin.unsent := by
  unfold State.forward9
  split
  · exact s.twinSend_unsent _
  · rfl

theorem State.handLead_unsent (kind : Nat) : (s.handLead kind).twin.unsent = s.twin.unsent.leadGone := by
  unfold State.handLead
  extract_lets s1 s2
  have hsent : s2.twin.unsent = s1.twin.unsent := s1.twinSend_unsent _
  rw [State.roleEvent_only _ false .twin (by decide)]
  exact congrArg (fun t : Twin => { t with role := .reserve, castleDue := false, atEmpty := false, pagesSince := 0 }) hsent

theorem State.handLead_steady (kind : Nat) : (s.handLead kind).twin.steady = s.twin.steady :=
  (congrArg Twin.steady (s.handLead_unsent kind) :)

theorem State.castleTry_steady : s.castleTry.twin.steady = s.twin.steady := by
  unfold State.castleTry
  split
  · exact s.handLead_steady 5
  · rfl

theorem State.castleFallsDue_steady : s.castleFallsDue.twin.steady = s.twin.steady := State.castleTry_steady _

theorem State.castleFallsDue_only : Only [.twin, .log, .alert] s s.castleFallsDue :=
  ((s.updTwin_only _).step (State.castleTry_only _)).mono (by decide)

end

/-! ## TWIN_GET_STATUS, TWIN_SET_MODE -/

section
variable {s : State} {h : MbHdr}

theorem exec_twinGetStatus (hs : Safety.served s h 0 = true) :
    ∃ t, exec (.twinGetStatus h) s = .next t ∧ Safety.Answered h 0x0C01 0 s.twinBytes s t ∧ t = { s with host := t.host } :=
  mbCmd_answer hs rfl rfl rfl rfl

/-- A mode as it stands before a castle may fall due under it: entering WATCH takes the counts, outside CASTLING none stays due. -/
def State.storeMode (m : TwinMode) (s : State) : State :=
  (if m.mode = 2 ∧ s.twin.mode.mode ≠ 2 then s.watchFrom else s).updTwin fun t =>
    { t with mode := m, castleDue := t.castleDue && m.mode == 1 }

theorem State.storeMode_only (s : State) (m : TwinMode) : Only [.twin] s (s.storeMode m) :=
  Only.trans (.ite (s.updTwin_only _) (.refl s)) (State.updTwin_only _ _)

theorem State.storeMode_watch {m : TwinMode} (hm : m.mode = 2) (hw : s.twin.mode.mode ≠ 2) :
    (s.storeMode m).twin.divSums = SMap.setList 0 [] 0 ((List.range 48).map s.divCount) := by
  rw [State.storeMode, if_pos ⟨hm, hw⟩]
  rfl

theorem State.storeMode_role (s : State) (m : TwinMode) : (s.storeMode m).twin.role = s.twin.role := by
  unfold State.storeMode
  split <;> rfl

theorem State.storeMode_castleDue {m : TwinMode} (hm : m.mode ≠ 1) : (s.storeMode m).twin.castleDue = false := by
  simp [State.storeMode, hm]

/-- A castle falls due under the new mode in CASTLING alone. -/
theorem State.setTwinMode_cases (s : State) (m : TwinMode) :
    s.setTwinMode m = s.storeMode m ∨ m.mode = 1 ∧ s.setTwinMode m = (s.storeMode m).castleFallsDue := by
  unfold State.setTwinMode
  extract_lets s1 s2
  split
  case isTrue hdue => exact .inr ⟨hdue.1, rfl⟩
  case isFalse => exact .inl rfl

theorem State.setTwinMode_only (s : State) (m : TwinMode) : Only [.twin, .log, .alert] s (s.setTwinMode m) := by
  have hstore : Only [.twin, .log, .alert] s (s.storeMode m) := (s.storeMode_only m).mono (by decide)
  rcases s.setTwinMode_cases m with e | ⟨-, e⟩
  · rw [e]; exact hstore
  · rw [e]; exact hstore.trans (State.castleFallsDue_only _)

theorem State.setTwinMode_steady (s : State) (m : TwinMode) : (s.setTwinMode m).twin.steady = (s.storeMode m).twin.steady := by
  rcases s.setTwinMode_cases m with e | ⟨-, e⟩
  · rw [e]
  · rw [e]; exact State.castleFallsDue_steady _

theorem State.setTwinMode_of_not_castling {m : TwinMode} (hm : m.mode ≠ 1) : s.setTwinMode m = s.storeMode m :=
  (s.setTwinMode_cases m).resolve_right fun hc => hm hc.1

theorem twinSetModeBody_ok {p : TwinModeReq} (hn : s.notSupervisor = false) (hb : (modeOfReq p).bad = false)
    (hp : s.unpaired = false) :
    twinSetModeBody p s = .done 0 [] ((s.setTwinMode (modeOfReq p)).forward9 0x0C02 atOnce (modeOfReq p).bytes) :=
  twinGate_ok (by simp [firstBad, hb, hp]) hn rfl

theorem exec_twinSetMode {p : TwinModeReq} (hs : Safety.served s h 16 = true) (hr : p.rsv = 0) (hr2 : p.rsv2 = 0)
    (hn : s.notSupervisor = false) (hb : (modeOfReq p).bad = false) (hp : s.unpaired = false) :
    ∃ t, exec (.twinSetMode h p) s = .next t ∧ Safety.AnsweredWith h 0x0C02 0 [] s t ∧
      t = { s with host := t.host, twin := t.twin, log := t.log } ∧ t.twin.mode = modeOfReq p ∧
      (p.mode = 2 → s.twin.mode.mode ≠ 2 → t.twin.divSums = SMap.setList 0 [] 0 ((List.range 48).map s.divCount)) ∧
      (p.mode ≠ 1 → t.twin.castleDue = false ∧ t.twin.role = s.twin.role ∧ t.log = s.log ∧ t.host.alert = s.host.alert) := by
  let m := modeOfReq p
  let u := (s.mbStart h).setTwinMode m
  have hfr : Only [.twin, .log, .alert] (s.mbStart h) (u.forward9 0x0C02 atOnce m.bytes) :=
    ((State.setTwinMode_only _ m).step (u.forward9_only _ _ _)).mono (by decide)
  obtain ⟨t, e, ha, hal, ho, ht⟩ := mbCmd_done_only (c := { op := 0x0C02, len := 16, rsv := p.rsv != 0 || p.rsv2 != 0 })
    (i := .twinSetMode h p) hs (by simp [hr, hr2]) rfl rfl
    (twinSetModeBody_ok (s := s.mbStart h) hn hb hp) hfr (by decide)
  have hunsent : t.twin.unsent = u.twin.unsent := (congrArg (Twin.unsent ∘ State.twin) ht).trans (u.forward9_unsent _ _ _)
  have hsteady : t.twin.steady = ((s.mbStart h).storeMode m).twin.steady :=
    (Twin.steady_of_unsent hunsent).trans (State.setTwinMode_steady _ m)
  refine ⟨t, e, ha, ho.eq_patch, congrArg Twin.mode hsteady, fun h2 hw => ?_, fun h1 => ?_⟩
  · exact (congrArg Twin.divSums hsteady).trans (State.storeMode_watch (s := s.mbStart h) (congrArg BitVec.toNat h2) hw)
  · have hm : m.mode ≠ 1 := fun hm => h1 (BitVec.eq_of_toNat_eq hm)
    have hstored : u = (s.mbStart h).storeMode m := State.setTwinMode_of_not_castling hm
    have hfr : Only [.twin] (s.mbStart h) (u.forward9 0x0C02 atOnce m.bytes) := by
      rw [hstored]; exact (State.storeMode_only _ m).trans (State.forward9_only _ _ _ _)
    have hlog : t.log = s.log := (congrArg State.log ht).trans (hfr .log (by decide))
    have halert : t.host.alert = s.host.alert := hal.trans (hfr .alert (by decide))
    rw [hstored] at hunsent
    exact ⟨(congrArg Twin.castleDue hunsent).trans (State.storeMode_castleDue hm),
      (congrArg Twin.role hunsent).trans (State.storeMode_role _ m), hlog, halert⟩

end

/-! ## TWIN_SWITCHBACK -/

section
variable {s : State} {h : MbHdr}

theorem State.markSwitch_only (s : State) : Only [.pages, .reports, .fire] s s.markSwitch := .foldl (fun t _ => t.markPage_only _ _ _ _) _ _

theorem State.castleTry_hands (hup : s.pairUp = true) (hrole : s.twin.role = .lead) (hpages : s.bat.pages = [])
    (hdue : s.twin.castleDue = true ∨ s.twin.atEmpty = true) : s.castleTry = s.handLead 5 := by
  simp [State.castleTry, hup, hrole, hpages, hdue]

theorem State.castleTry_waits (hpages : s.bat.pages ≠ []) : s.castleTry = s := by
  simp [State.castleTry, hpages]

theorem State.switchback_only (s : State) (atEmpty : Bool) : Only [.twin, .log, .alert, .pages, .reports, .fire] s (s.switchback atEmpty) :=
  .ite (((s.updTwin_only _).step (State.castleTry_only _)).mono (by decide))
    ((s.markSwitch_only.step (State.handLead_only _ 1)).mono (by decide))

/-- LEAD goes at once, or at an empty queue that is empty already. -/
theorem State.switchback_hands {atEmpty : Bool} (hup : s.pairUp = true) (hrole : s.twin.role = .lead)
    (hnow : atEmpty = false ∨ s.bat.pages = []) : (s.switchback atEmpty).twin.unsent = s.twin.unsent.leadGone := by
  cases atEmpty with
  | false =>
    have hmark : s.markSwitch.twin = s.twin := s.markSwitch_only .twin (by decide)
    exact (State.handLead_unsent _ 1).trans (by rw [hmark])
  | true =>
    have hpages : s.bat.pages = [] := hnow.resolve_left (by decide)
    have hcastle := State.castleTry_hands (s := s.updTwin fun t => { t with atEmpty := true }) hup hrole hpages (.inr rfl)
    exact (congrArg (Twin.unsent ∘ State.twin) hcastle).trans (State.handLead_unsent _ 5)

/-- With pages queued LEAD stays until they are done. -/
theorem State.switchback_waits (hpages : s.bat.pages ≠ []) :
    s.switchback true = s.updTwin fun t => { t with atEmpty := true } := State.castleTry_waits hpages

theorem twinSwitchbackBody_ok {flags : Byte} (hp : s.unpaired = false) (hrole : s.twin.role = .lead) (hpref : s.preferred = false)
    (hup : s.pairUp = true) : twinSwitchbackBody flags s = .done 0 [] (s.switchback (flags.getLsbD 0)) := by
  simp [twinSwitchbackBody, hp, hrole, hpref, hup, ok]

theorem exec_twinSwitchback {flags : Byte} (hs : Safety.served s h 4 = true) (hf : flags.toNat ≤ 1) (hp : s.unpaired = false)
    (hrole : s.twin.role = .lead) (hpref : s.preferred = false) (hup : s.pairUp = true) :
    ∃ t, exec (.twinSwitchback h flags 0) s = .next t ∧ Safety.AnsweredWith h 0x0C03 0 [] s t ∧
      t = { s with host := t.host, twin := t.twin, bat := t.bat, fire := t.fire, log := t.log } ∧
      ((flags = 0 ∨ s.bat.pages = []) → t.twin.role = .reserve ∧ t.twin.roleSeq = s.twin.roleSeq + 1 ∧
        t.twin.castleDue = false ∧ t.twin.atEmpty = false) ∧
      (flags = 1 → s.bat.pages ≠ [] → t.twin = { s.twin with atEmpty := true } ∧ t.bat = s.bat ∧ t.fire = s.fire ∧ t.log = s.log) := by
  let u := s.mbStart h
  obtain ⟨t, e, ha, -, ho, ht⟩ := mbCmd_done_only (c := { op := 0x0C03, len := 4, rsv := 1 < flags.toNat || (0 : BitVec 24) != 0 })
    (i := .twinSwitchback h flags 0) hs (by simp [hf]) rfl rfl (twinSwitchbackBody_ok (s := u) hp hrole hpref hup)
    (u.switchback_only _) (by decide)
  refine ⟨t, e, ha, (ho.mono (qs := .host :: .alert :: .twin :: .fire :: .log :: battenParts) (by decide)).eq_patch,
    fun hnow => ?_, fun h1 hpages => ?_⟩
  · have hnow' : flags.getLsbD 0 = false ∨ u.bat.pages = [] := hnow.imp_left fun h0 => by rw [h0]; rfl
    have hgone : t.twin.unsent = s.twin.unsent.leadGone :=
      (congrArg (Twin.unsent ∘ State.twin) ht).trans (State.switchback_hands (s := u) hup hrole hnow')
    exact ⟨congrArg Twin.role hgone, congrArg Twin.roleSeq hgone, congrArg Twin.castleDue hgone, congrArg Twin.atEmpty hgone⟩
  · have hbit : flags.getLsbD 0 = true := by rw [h1]; rfl
    have hwait : u.switchback (flags.getLsbD 0) = u.updTwin fun t => { t with atEmpty := true } := by
      rw [hbit, State.switchback_waits (s := u) hpages]
    rw [hwait] at ht
    exact ⟨by rw [ht]; rfl, by rw [ht]; rfl, by rw [ht]; rfl, by rw [ht]; rfl⟩

end

/-! ## TWIN_RESOLVE -/

section
variable {s : State} {h : MbHdr}

theorem State.keepLead_only (s : State) : Only [.twin, .log, .alert] s s.keepLead := by
  unfold State.keepLead
  extract_lets was s1
  have h1 : Only [.twin] s s1 := s.updTwin_only _
  exact .ite (h1.mono (by decide)) (((h1.step (s1.updTwin_only _)).step (State.roleEvent_only _ false)).mono (by decide))

/-- Keeping LEAD ends the freeze; taking it comes under the next ROLE_SEQ (R283). -/
theorem State.keepLead_twin : s.keepLead.twin = { s.twin with
    role := .lead, frozen := false, stalemate := false,
    roleSeq := if s.twin.role = .lead then s.twin.roleSeq else s.twin.roleSeq + 1,
    pagesSince := if s.twin.role = .lead then s.twin.pagesSince else 0 } := by
  unfold State.keepLead
  extract_lets was s1
  by_cases hlead : s.twin.role = .lead
  · rw [if_pos (show was = .lead from hlead), if_pos hlead, if_pos hlead]
    rfl
  · have hevent := State.roleEvent_only (s1.updTwin fun t => { t with roleSeq := t.roleSeq + 1, pagesSince := 0 }) false .twin (by decide)
    simp only [was, if_neg hlead]
    exact hevent

theorem State.endOwnPages_of_none (hown : ∀ p ∈ s.bat.pages, p.own = false) : s.endOwnPages = s := by
  have hnone : s.bat.pages.filter (·.own) = [] := List.filter_eq_nil_iff.2 fun p hp => by simp [hown p hp]
  simp [State.endOwnPages, hnone]

/-- Stepping down, where this chip has admitted none of the queued pages (R282). -/
theorem State.stepDown_spec (hown : ∀ p ∈ s.bat.pages, p.own = false) : Only [.twin, .log, .alert] s s.stepDown ∧
    s.stepDown.twin.unsent = s.twin.unsent.steppedDown := by
  unfold State.stepDown
  extract_lets s1 s2
  have h2 : Only [.twin] s s2 := (s.updTwin_only _).trans (s1.twinSend_only _)
  let s3 := s2.updTwin fun t => { t with role := .reserve, frozen := false, stalemate := false, pagesSince := 0 }
  have h3 : Only [.twin] s s3 := h2.trans (s2.updTwin_only _)
  have h4 : Only [.twin, .log, .alert] s (s3.roleEvent false) := (h3.step (s3.roleEvent_only false)).mono (by decide)
  have hpages : (s3.roleEvent false).bat.pages = s.bat.pages := h4 .pages (by decide)
  have hend : (s3.roleEvent false).endOwnPages = s3.roleEvent false := State.endOwnPages_of_none (by rwa [hpages])
  have htwin : (s3.roleEvent false).twin = s3.twin := s3.roleEvent_only false .twin (by decide)
  rw [hend]
  refine ⟨h4, ?_⟩
  rw [htwin]
  exact congrArg (fun t : Twin => { t with role := .reserve, frozen := false, stalemate := false, pagesSince := 0 })
    (s1.twinSend_unsent _)

theorem twinResolveBody_keep (hp : s.unpaired = false) (hst : s.twin.stalemate = true) :
    twinResolveBody 1 s = .done 0 [] s.keepLead := by
  simp [twinResolveBody, hp, hst, ok]

theorem twinResolveBody_stepDown (hp : s.unpaired = false) (hst : s.twin.stalemate = true) :
    twinResolveBody 0 s = .done 0 [] s.stepDown := by
  simp [twinResolveBody, hp, hst, ok]

theorem exec_twinResolve_keep (hs : Safety.served s h 4 = true) (hp : s.unpaired = false) (hst : s.twin.stalemate = true) :
    ∃ t, exec (.twinResolve h 1 0) s = .next t ∧ Safety.AnsweredWith h 0x0C04 0 [] s t ∧
      t = { s with host := t.host, twin := t.twin, log := t.log } ∧
      t.twin = { s.twin with
        role := .lead, frozen := false, stalemate := false,
        roleSeq := if s.twin.role = .lead then s.twin.roleSeq else s.twin.roleSeq + 1,
        pagesSince := if s.twin.role = .lead then s.twin.pagesSince else 0 } := by
  obtain ⟨t, e, ha, -, ho, ht⟩ := mbCmd_done_only (c := { op := 0x0C04, len := 4 }) (i := .twinResolve h 1 0) hs rfl rfl rfl
    (twinResolveBody_keep (s := s.mbStart h) hp hst) (State.keepLead_only _) (by decide)
  exact ⟨t, e, ha, ho.eq_patch, (congrArg State.twin ht).trans State.keepLead_twin⟩

theorem exec_twinResolve_stepDown (hs : Safety.served s h 4 = true) (hp : s.unpaired = false) (hst : s.twin.stalemate = true)
    (hown : ∀ p ∈ s.bat.pages, p.own = false) :
    ∃ t, exec (.twinResolve h 0 0) s = .next t ∧ Safety.AnsweredWith h 0x0C04 0 [] s t ∧
      t = { s with host := t.host, twin := t.twin, log := t.log } ∧
      t.twin.role = .reserve ∧ t.twin.roleSeq = s.twin.roleSeq + 1 ∧ t.twin.frozen = false ∧ t.twin.stalemate = false := by
  obtain ⟨honly, hdown⟩ := State.stepDown_spec (s := s.mbStart h) hown
  obtain ⟨t, e, ha, -, ho, ht⟩ := mbCmd_done_only (c := { op := 0x0C04, len := 4 }) (i := .twinResolve h 0 0) hs rfl rfl rfl
    (twinResolveBody_stepDown (s := s.mbStart h) hp hst) honly (by decide)
  have htwin : t.twin.unsent = s.twin.unsent.steppedDown := (congrArg (fun t : State => t.twin.unsent) ht).trans hdown
  exact ⟨t, e, ha, ho.eq_patch, congrArg Twin.role htwin, congrArg Twin.roleSeq htwin, congrArg Twin.frozen htwin,
    congrArg Twin.stalemate htwin⟩

end

/-- Settles O24: the four commands by what they leave of the twin unit; a mode may make a castle due, a switchback may wait for an empty
queue. -/
theorem twinCommandsRun : Obligations.TwinCommandsRun :=
  ⟨fun _ _ hs => exec_twinGetStatus hs,
   fun _ _ _ hs hr hr2 hn hb hp => exec_twinSetMode hs hr hr2 hn hb hp,
   fun _ _ _ hs hf hp hrole hpref hup => exec_twinSwitchback hs hf hp hrole hpref hup,
   fun _ _ hs hp hst => exec_twinResolve_keep hs hp hst,
   fun _ _ hs hp hst hown => exec_twinResolve_stepDown hs hp hst hown⟩

end Sys2Proof.Machine

namespace Sys2Proof.Machine

/-! ## Events of the twin link

An event's effect is a state `u`; the interrupts sent come on top. Most events of the link change the twin unit alone. -/

section
variable {s u : State} {f : State → State} {ps : List Part}

/-- An event with a known effect. -/
theorem evt_effect (ha : s.alive = true) (hf : f s = u) (ho : Only ps s u) (hn : .host ∉ ps ∧ .pending ∉ ps ∧ .fuse ∉ ps) :
    ∃ t, evt f s = .next t ∧ Only (.host :: ps) s t ∧ Only [.host] u t ∧ t = { u with host := t.host } := by
  subst hf
  obtain ⟨t, hx, -, -, hfr, hsent⟩ := evt_only ha ho hn
  exact ⟨t, hx, hfr, hsent, (hsent.mono (qs := [.host, .alert]) (by decide)).eq_patch⟩

/-- The same where the effect raises no alert. -/
theorem evt_quiet (ha : s.alive = true) (hf : f s = u) (ho : Only ps s u)
    (hn : (.host ∉ ps ∧ .pending ∉ ps ∧ .fuse ∉ ps) ∧ .alert ∉ ps) :
    ∃ t, evt f s = .next t ∧ Safety.Quiet s t ∧ t = { u with host := t.host } := by
  subst hf
  obtain ⟨hnh, hna⟩ := hn
  obtain ⟨t, hx, -, hquiet, -, hsent⟩ := evt_only ha ho hnh
  exact ⟨t, hx, hquiet hna, (hsent.mono (qs := [.host, .alert]) (by decide)).eq_patch⟩

theorem evt_updTwin {g : Twin → Twin} (ha : s.alive = true) (hf : f s = s.updTwin g) :
    ∃ t, evt f s = .next t ∧ Safety.Quiet s t ∧ t = { s with host := t.host, twin := g s.twin } :=
  evt_quiet ha hf (s.updTwin_only g) (by decide)

/-- A change of the twin unit that changes nothing. -/
theorem State.updTwin_self {g : Twin → Twin} (hg : g s.twin = s.twin) : s.updTwin g = s := by
  rw [State.updTwin, hg]

/-- A standing alert bit stands where the alert bits are as before. -/
theorem raised_of_alert {r : AlertReg} {n : Nat} (ha : u.host.alert = s.host.alert) (h : Safety.Raised r n s) : Safety.Raised r n u := by
  rw [Safety.Raised, State.alertOf, ha]
  exact h

/-- Raising a bit leaves every standing bit. -/
theorem State.raised_raise_of_raised {r q : AlertReg} {n k : Nat} (h : Safety.Raised r n s) : Safety.Raised r n (s.raise q k) := by
  have halert : (s.raise q k).host.alert = s.host.alert.upd 0 q.key fun a => a ||| (BitVec.twoPow 32 k &&& q.bits) := rfl
  rw [Safety.Raised, State.alertOf, halert, SMap.upd, SMap.get_set]
  split
  case isTrue hkey =>
    rw [BitVec.getLsbD_or, ← hkey]
    exact Bool.or_eq_true_iff.2 (.inl h)
  case isFalse => exact h

theorem State.raised_logEvent {r : AlertReg} {n : Nat} (code inst data : Nat) (h : Safety.Raised r n s) :
    Safety.Raised r n (s.logEvent code inst data) := by
  have hsecond : Only [.log] s s.logSecond := s.logSecond_only
  have hlog : ∀ g : Log → Log, Safety.Raised r n (s.logSecond.updLog g) := fun g =>
    raised_of_alert ((hsecond.trans (State.updLog_only _ g)) .alert (by decide)) h
  unfold State.logEvent State.logEventR
  dsimp only
  split
  · exact hlog _
  · split
    · exact State.raised_raise_of_raised (hlog _)
    · exact hlog _

theorem State.raised_roleEvent {r : AlertReg} {n : Nat} (lost : Bool) (h : Safety.Raised r n s) : Safety.Raised r n (s.roleEvent lost) :=
  State.raised_logEvent _ _ _ (State.raised_raise_of_raised h)

end

/-! ### Frames of the clock's and the link's moves -/

section
variable (s : State)

theorem State.updTime_only (f : TimeUnit → TimeUnit) : Only [.time] s (s.updTime f) := .of_eq rfl (by decide)

theorem State.setClockSt_only (st : ClockSt) : Only [.time, .alert] s (s.setClockSt st) :=
  .ite (.refl s) ((s.updTime_only _).step (State.raise_only _ _ _))

theorem State.enterHoldover_only : Only [.time, .alert] s s.enterHoldover :=
  ((s.updTime_only _).step (State.setClockSt_only _ _)).mono (by decide)

theorem State.loseMaster_only : Only [.time, .alert] s s.loseMaster := .ite s.enterHoldover_only (.refl s)

theorem State.bmca_only : Only [.time, .alert] s s.bmca := by
  unfold State.bmca
  extract_lets was d0 d1 s1 m pair gm parent changed s2 s3
  have h1 : Only [.time, .alert] s s1 := ((s.updTime_only _).trans (State.updTime_only _ _)).mono (by decide)
  have h2 : Only [.time, .alert] s1 s2 := .ite (.refl s1) ((s1.raise_only _ _).mono (by decide))
  have h3 : Only [.time, .alert] s s3 := (h1.trans h2).trans ((s2.updTime_only _).mono (by decide))
  exact .ite (h3.trans s3.loseMaster_only) h3

/-- What the figures take of the pair is computed again (R276). -/
theorem State.refigure_only : Only [.fire, .log, .alert, .speedLimit] s s.rehide.speedCheck :=
  (s.rehide_only.step (State.speedCheck_only _)).mono (by decide)

theorem State.leftUp_only : Only [.time, .fire, .log, .alert, .speedLimit] s s.leftUp := by
  unfold State.leftUp
  extract_lets s1
  have h1 : Only [.time, .alert] s s1 := .ite (s.enterHoldover_only.trans (State.bmca_only _)) (.refl s)
  exact (h1.step s1.refigure_only).mono (by decide)

/-- The twin unit of a link that has left SYNC or UP for `st` (R269). -/
def Twin.down (st : TwinLinkSt) (t : Twin) : Twin :=
  { t.fresh with link := st, epoch := if st = .train then t.epoch + 1 else t.epoch, peerEpoch := none }

/-- A link that leaves SYNC or UP: what it touches, and what it leaves of the twin unit and of fragments received (R269, spec/07 R228). -/
theorem State.twinDown_spec (st : TwinLinkSt) : Only [.twin, .nvm, .time, .fire, .log, .alert, .speedLimit] s (s.twinDown st) ∧
    (s.twinDown st).twin = s.twin.down st ∧
    (s.twinDown st).nvm = { s.nvm with rx := none } := by
  unfold State.twinDown
  extract_lets was s1 s2
  have h2 : Only [.twin, .nvm] s s2 := (s.updTwin_only _).step (s1.updNvm_only _)
  have htail : Only [.time, .fire, .log, .alert, .speedLimit] s2 (if was = .up then s2.leftUp else s2) := .ite s2.leftUp_only (.refl s2)
  have htwin : (if was = .up then s2.leftUp else s2).twin = s2.twin := htail .twin (by decide)
  have hnvm : (if was = .up then s2.leftUp else s2).nvm = s2.nvm := htail .nvm (by decide)
  exact ⟨(h2.step htail).mono (by decide), htwin, hnvm⟩

theorem State.headWrites_only (p : Nat) (ws : List (Nat × List Byte)) : Only [.port] s (s.headWrites p ws) :=
  Only.foldl (g := fun t (w : Nat × List Byte) => t.headWrite p w.1 w.2) (fun t w => t.headWrite_only p w.1 w.2) ws s

theorem State.codeApply_only (p : Nat) : Only [.port] s (s.codeApply p) := by
  unfold State.codeApply
  split
  · exact (s.headWrite_only p _ _).trans (State.updPort_only _ p _)
  · exact s.headWrite_only p _ _

theorem State.reloadCodes_only (p : Nat) : Only [.port] s (s.reloadCodes p) :=
  (s.headWrites_only p _).trans (State.codeApply_only _ p)

/-- Gaining supervision writes codes to the ports (R277). -/
theorem State.gainSupervision_spec : Only [.twin, .port] s s.gainSupervision ∧ s.gainSupervision.twin = { s.twin with supervisor := true } := by
  unfold State.gainSupervision
  extract_lets s1
  have hports : Only [.port] s1 (((List.range 48).filter fun p => (s1.portN p).st == .up).foldl (fun t p => t.reloadCodes p) s1) :=
    .foldl (fun t p => t.reloadCodes_only p) _ _
  exact ⟨(s.updTwin_only _).step hports, hports .twin (by decide)⟩

end

/-! ### HELLO -/

section
variable {s : State} {flags epoch : Byte} {serial : BitVec 64}

/-- The twin unit of a pair that has formed with a partner's HELLO (R270). -/
def Twin.paired (hello : TwinOut) (pref : Bool) (epoch : Byte) (serial : BitVec 64) (t : Twin) : Twin :=
  { t.fresh with
    partnerSerial := serial, partnerPreferred := pref, link := .sync, formed := true, conflict := false, solo := false,
    peerEpoch := some epoch, txQ := [hello] }

/-- A HELLO with the other strap level. -/
theorem State.twinHello_forms (hen : s.boot.twinEn = true) (hl : s.twin.link = .discover)
    (hstrap : flags.getLsbD 0 ≠ s.boot.twinPrefer) :
    s.twinHello flags epoch serial = s.updTwin (Twin.paired s.ownHello (flags.getLsbD 0) epoch serial) := by
  have hstrap' : (flags.getLsbD 0 == s.boot.twinPrefer) = false := beq_eq_false_iff_ne.2 hstrap
  simp only [State.twinHello, hen, hl, TwinLinkSt.framed, Bool.not_true, Bool.or_self, Bool.false_eq_true, if_false,
    State.updTwin_boot, hstrap', State.twinOpen, State.updTwin_twin, State.formPair, Bool.and_false, Bool.false_and,
    show (TwinLinkSt.discover == TwinLinkSt.sync) = false from rfl, show (TwinLinkSt.discover == TwinLinkSt.up) = false from rfl]
  rfl

theorem exec_twinHelloRx (ha : s.alive = true) (hen : s.boot.twinEn = true) (hl : s.twin.link = .discover)
    (hstrap : flags.getLsbD 0 ≠ s.boot.twinPrefer) :
    ∃ t, exec (.twinHelloRx flags epoch serial) s = .next t ∧ Safety.Quiet s t ∧ t = { s with host := t.host, twin := t.twin } ∧
      t.twin.link = .sync ∧ t.twin.formed = true ∧ t.twin.conflict = false ∧ t.twin.solo = false ∧ t.twin.peerEpoch = some epoch ∧
      t.twin.partnerSerial = serial ∧ t.twin.txQ = [s.ownHello] := by
  obtain ⟨t, hx, hquiet, ht⟩ := evt_updTwin ha (State.twinHello_forms hen hl hstrap)
  have htwin : t.twin = s.twin.paired s.ownHello (flags.getLsbD 0) epoch serial := congrArg State.twin ht
  refine ⟨t, hx, hquiet, ht.trans (by rw [htwin]), ?_⟩
  rw [htwin]
  exact ⟨rfl, rfl, rfl, rfl, rfl, rfl, rfl⟩

theorem State.strapConflict_only (s : State) : Only [.twin, .alert, .log] s s.strapConflict :=
  .ite (.refl s) ((((s.updTwin_only _).step (State.raise_only _ _ _)).step (State.logEvent_only _ _ _ _)).mono (by decide))

/-- Straps that agree are a conflict, told once (R263). -/
theorem State.strapConflict_first (hc : s.twin.conflict = false) : Safety.Raised .twin 10 s.strapConflict ∧
    s.strapConflict.twin = { s.twin with conflict := true, formed := false, link := .discover } := by
  rw [State.strapConflict, hc, if_neg Bool.false_ne_true]
  exact ⟨State.raised_logEvent _ _ _ (State.raised_raise (by decide)), State.logEvent_only _ _ _ _ .twin (by decide)⟩

theorem State.twinHello_conflict (hen : s.boot.twinEn = true) (hl : s.twin.link = .discover)
    (hstrap : flags.getLsbD 0 = s.boot.twinPrefer) : s.twinHello flags epoch serial =
      (s.updTwin fun t => { t with partnerSerial := serial, partnerPreferred := flags.getLsbD 0 }).strapConflict := by
  have hstrap' : (flags.getLsbD 0 == s.boot.twinPrefer) = true := beq_iff_eq.2 hstrap
  simp only [State.twinHello, hen, hl, TwinLinkSt.framed, Bool.not_true, Bool.or_self, Bool.false_eq_true, if_false,
    State.updTwin_boot, hstrap', if_true]

theorem exec_twinHelloRx_conflict (ha : s.alive = true) (hen : s.boot.twinEn = true) (hl : s.twin.link = .discover)
    (hc : s.twin.conflict = false) (hstrap : flags.getLsbD 0 = s.boot.twinPrefer) :
    ∃ t, exec (.twinHelloRx flags epoch serial) s = .next t ∧ Safety.Raised .twin 10 t ∧ t.twin.conflict = true ∧
      t.twin.formed = false ∧ t = { s with host := t.host, twin := t.twin, log := t.log } := by
  let u := s.updTwin fun t => { t with partnerSerial := serial, partnerPreferred := flags.getLsbD 0 }
  obtain ⟨hraised, htwin⟩ := State.strapConflict_first (s := u) hc
  obtain ⟨t, hx, hfr, hsent, hu⟩ := evt_effect ha (State.twinHello_conflict (epoch := epoch) (serial := serial) hen hl hstrap)
    ((s.updTwin_only _).step u.strapConflict_only) (by decide)
  have ht : t.twin = { u.twin with conflict := true, formed := false, link := .discover } := (congrArg State.twin hu).trans htwin
  exact ⟨t, hx, raised_of_only hsent hraised, congrArg Twin.conflict ht, congrArg Twin.formed ht,
    (hfr.mono (qs := [.host, .alert, .twin, .log]) (by decide)).eq_patch⟩

end

/-! ### BEATs -/

section
variable {s : State} {b : Beat}

theorem State.startSync_waits (h : s.twin.link = .up ∨ s.twin.syncRun = true ∨ s.twin.beatSeen = false) : s.startSync = s := by
  unfold State.startSync
  split
  · rw [if_pos (by rcases h with h | h | h <;> simp [h])]
  · rfl

/-- The RESERVE that does not supervise has nothing to bring to SYNC. -/
theorem State.startSync_empty (hb : s.twin.partner = some b) (hl : s.twin.link = .sync) (hrun : s.twin.syncRun = false)
    (hseen : s.twin.beatSeen = true) (hsent : s.twin.beatSent = true) (hrole : s.twin.role = .reserve)
    (hsup : s.twin.supervisor = false) : s.startSync = s.updTwin fun t => { t with syncRun := true, syncLast := none } := by
  have hgo : ¬ (s.twin.link ≠ .sync ∨ s.twin.syncRun ∨ !s.twin.beatSeen ∨ !s.twin.beatSent) := by simp [hl, hrun, hseen, hsent]
  simp only [State.startSync, hb, if_neg hgo, hrole, hsup, reduceCtorEq, Bool.false_eq_true, if_false]
  exact congrArg (fun q => s.updTwin fun t => { t with syncRun := true, syncLast := q }) (if_pos rfl)

/-- The twin unit with a BEAT for its link; an older one that waits is dropped (log 12). -/
def Twin.beating (b : Beat) (t : Twin) : Twin :=
  { t with beatSent := true, txQ := (t.txQ.filter fun f => !f.isBeat) ++ [.beat b] }

theorem State.beatSend_open (ho : s.twinOpen = true) : s.beatSend = (s.updTwin (Twin.beating s.beat)).startSync := by
  rw [State.beatSend, ho]
  rfl

theorem exec_beatSend (ha : s.alive = true) (ho : s.twinOpen = true)
    (hw : s.twin.link = .up ∨ s.twin.syncRun = true ∨ s.twin.beatSeen = false) :
    ∃ t, exec .beatSend s = .next t ∧ Safety.Quiet s t ∧ t = { s with host := t.host, twin := { s.twin with
      beatSent := true, txQ := (s.twin.txQ.filter fun f => !f.isBeat) ++ [.beat s.beat] } } :=
  evt_updTwin ha ((State.beatSend_open ho).trans (State.startSync_waits hw))

theorem exec_beatSend_sync (ha : s.alive = true) (hen : s.boot.twinEn = true) (hl : s.twin.link = .sync)
    (hb : s.twin.partner = some b) (hseen : s.twin.beatSeen = true) (hrun : s.twin.syncRun = false) (hrole : s.twin.role = .reserve)
    (hsup : s.twin.supervisor = false) :
    ∃ t, exec .beatSend s = .next t ∧ Safety.Quiet s t ∧ t = { s with host := t.host, twin := { s.twin with
      beatSent := true, syncRun := true, syncLast := none, txQ := (s.twin.txQ.filter fun f => !f.isBeat) ++ [.beat s.beat] } } := by
  have ho : s.twinOpen = true := by simp [State.twinOpen, hen, hl]
  exact evt_updTwin (g := fun t => { t.beating s.beat with syncRun := true, syncLast := none }) ha
    ((State.beatSend_open ho).trans (State.startSync_empty (s := s.updTwin (Twin.beating s.beat)) hb hl hrun hseen rfl hrole hsup))

theorem State.syncTry_of_not_sync (hl : s.twin.link ≠ .sync) : s.syncTry = s := by
  simp [State.syncTry, State.synced, hl]

theorem State.noteBeat_only (s : State) (b : Beat) : Only [.twin] s (s.noteBeat b) := by
  unfold State.noteBeat
  exact s.updTwin_only _

/-- A BEAT of a partner that is in RUN, whose cores run and which does not restart, shows no loss. -/
theorem State.beatLost_noteBeat (h2 : b.flags.getLsbD 2 = false) (h3 : b.flags.getLsbD 3 = false) (h5 : b.flags.getLsbD 5 = true) :
    (s.noteBeat b).beatLost b = false := by
  simp only [State.beatLost, State.noteBeat, State.updTwin_twin, h2, h3, h5, Bool.false_eq_true, if_false, Bool.not_true, Bool.or_self]

/-- The RESERVE that is not coming back has no role to settle. -/
theorem State.settleRoles_reserve (hrole : s.twin.role = .reserve) (hret : s.twin.returning = false) : s.settleRoles b = s := by
  have hself : s.updTwin (fun t => { t with returning := false }) = s := State.updTwin_self (by rw [← hret])
  unfold State.settleRoles
  extract_lets both s1
  split
  · rfl
  · have h1 : s1 = s := by simp [s1, both, hrole, hret]
    rw [h1, hself]

theorem State.judgeBeat_healthy (hl : s.twin.link = .up) (hb : s.beatLost b = false) (hlost : s.twin.lost = false) :
    s.judgeBeat b = s := by
  simp [State.judgeBeat, hl, hb, hlost]

/-- In UP a healthy BEAT is noted, and the figures of the pair are computed again. -/
theorem State.beatRx_healthy (hl : s.twin.link = .up) (hen : s.boot.twinEn = true) (hrole : s.twin.role = .reserve)
    (h2 : b.flags.getLsbD 2 = false) (h3 : b.flags.getLsbD 3 = false) (h5 : b.flags.getLsbD 5 = true) (hlost : s.twin.lost = false)
    (hret : s.twin.returning = false) : s.beatRx b = (s.noteBeat b).rehide.speedCheck := by
  have ho : s.twinOpen = true := by simp [State.twinOpen, hen, hl]
  have hup : (s.noteBeat b).twin.link = .up := hl
  have hjudge : ((s.noteBeat b).settleRoles b).judgeBeat b = s.noteBeat b := by
    rw [State.settleRoles_reserve (s := s.noteBeat b) hrole hret,
      State.judgeBeat_healthy hup (State.beatLost_noteBeat h2 h3 h5) hlost]
  rw [State.beatRx, ho, hjudge, State.startSync_waits (.inl hup), State.syncTry_of_not_sync (by rw [hup]; decide)]
  rfl

theorem exec_beatRx (ha : s.alive = true) (hl : s.twin.link = .up) (hen : s.boot.twinEn = true) (hrole : s.twin.role = .reserve)
    (h2 : b.flags.getLsbD 2 = false) (h3 : b.flags.getLsbD 3 = false) (h5 : b.flags.getLsbD 5 = true) (hlost : s.twin.lost = false)
    (hret : s.twin.returning = false) :
    ∃ t, exec (.beatRx b) s = .next t ∧ t.twin.partner = some b ∧ t.twin.lost = false ∧ t.twin.beatSeen = true ∧ t.twin.role = .reserve ∧
      t.twin.evidence = none ∧ t = { s with host := t.host, twin := t.twin, fire := t.fire, bat := t.bat, log := t.log } := by
  have hfigure := (s.noteBeat b).refigure_only
  obtain ⟨t, hx, hfr, -, hu⟩ := evt_effect ha (State.beatRx_healthy hl hen hrole h2 h3 h5 hlost hret)
    ((s.noteBeat_only b).step hfigure) (by decide)
  have htwin : t.twin = (s.noteBeat b).twin := (congrArg State.twin hu).trans (hfigure .twin (by decide))
  refine ⟨t, hx, ?_, ?_, ?_, ?_, ?_, (hfr.mono (qs := .host :: .alert :: .twin :: .fire :: .log :: battenParts) (by decide)).eq_patch⟩
    <;> rw [htwin]
  · rfl
  · exact hlost
  · rfl
  · exact hrole
  · rfl

end

/-! ### Loss of the partner -/

section
variable {s : State}

theorem State.linkFailed_spec (s : State) : Only [.twin, .alert] s s.linkFailed ∧ s.linkFailed.twin = { s.twin with solo := true } ∧
    Safety.Raised .twin 2 s.linkFailed ∧ Safety.Raised .twin 3 s.linkFailed :=
  ⟨(((s.updTwin_only _).step (State.raise_only _ _ _)).step (State.raise_only _ _ _)).mono (by decide), rfl,
    State.raised_raise_of_raised (State.raised_raise (by decide)), State.raised_raise (by decide)⟩

theorem State.beatTimeout_alive (hen : s.boot.twinEn = true) (hform : s.twin.formed = true) (ho : s.twinOpen = true)
    (hin : s.twin.beatIn = true) : s.beatTimeout = (s.twinDown .detect).linkFailed := by
  obtain ⟨-, htwin, -⟩ := s.twinDown_spec .detect
  have hin' : (s.twinDown .detect).twin.beatIn = true := (congrArg Twin.beatIn htwin).trans hin
  simp [State.beatTimeout, hen, hform, ho, hin']

theorem exec_beatTimeout (ha : s.alive = true) (hen : s.boot.twinEn = true) (hform : s.twin.formed = true) (ho : s.twinOpen = true)
    (hin : s.twin.beatIn = true) :
    ∃ t, exec .beatTimeout s = .next t ∧ Safety.Raised .twin 2 t ∧ Safety.Raised .twin 3 t ∧ t.twin.solo = true ∧
      t.twin.link = .detect ∧ t.twin.unacked = [] ∧ t.twin.role = s.twin.role ∧ t.nvm = { s.nvm with rx := none } := by
  obtain ⟨hdown, hdtwin, hdnvm⟩ := s.twinDown_spec .detect
  obtain ⟨hfail, hftwin, hr2, hr3⟩ := (s.twinDown .detect).linkFailed_spec
  obtain ⟨t, hx, -, hsent, hu⟩ := evt_effect ha (State.beatTimeout_alive hen hform ho hin) (hdown.step hfail) (by decide)
  have hfnvm : (s.twinDown .detect).linkFailed.nvm = (s.twinDown .detect).nvm := hfail .nvm (by decide)
  have hnvm : t.nvm = { s.nvm with rx := none } := (congrArg State.nvm hu).trans (hfnvm.trans hdnvm)
  have htwin : t.twin = { s.twin.down .detect with solo := true } :=
    (congrArg State.twin hu).trans (hftwin.trans (congrArg (fun t : Twin => { t with solo := true }) hdtwin))
  refine ⟨t, hx, raised_of_only hsent hr2, raised_of_only hsent hr3, ?_, ?_, ?_, ?_, hnvm⟩ <;> rw [htwin] <;> rfl

theorem exec_twinBeatInSilent (ha : s.alive = true) (hen : s.boot.twinEn = true) (hform : s.twin.formed = true)
    (ho : s.twinOpen = false) (hlost : s.twin.lost = false) (hev : s.twin.evidence = none) :
    ∃ t, exec .twinBeatInSilent s = .next t ∧ Safety.Quiet s t ∧ t = { s with host := t.host, twin := { s.twin with
      beatIn := false, evidence := some (s.now256.toNat, s.dupNow) } } := by
  have ho' : (s.updTwin fun t => { t with beatIn := false }).twinOpen = false := ho
  refine evt_updTwin (g := fun t => { t with beatIn := false, evidence := some (s.now256.toNat, s.dupNow) }) ha ?_
  simp only [State.beatInSilent, hen, Bool.not_true, Bool.false_eq_true, if_false, State.updTwin_twin, hform, ho', Bool.not_false,
    Bool.and_self, if_true, State.openEvidence, hlost, hev, Option.isSome_none, Bool.or_self]
  rfl

/-- Without information this chip claims what it held not, freezes admissions, and supervision goes to the preferred chip (R283). -/
theorem State.enterStalemate_spec (s : State) : Only [.twin, .log, .alert, .port] s s.enterStalemate ∧
    Safety.Raised .twin 6 s.enterStalemate ∧ ∃ sup seq, s.enterStalemate.twin = { s.twin with
      role := if s.twin.role = .reserve then .claim else s.twin.role, frozen := true, stalemate := true, supervisor := sup,
      roleSeq := seq } := by
  unfold State.enterStalemate
  extract_lets s1 s2
  have h2 : Only [.twin, .log, .alert] s s2 :=
    (((s.updTwin_only _).step (s1.raise_only _ _)).step (State.logEvent_only _ _ _ _)).mono (by decide)
  have htwin : s2.twin = s1.twin := State.logEvent_only _ _ _ _ .twin (by decide)
  have hraised : Safety.Raised .twin 6 s2 := State.raised_logEvent _ _ _ (State.raised_raise (by decide))
  -- supervision moves by `v` and is told by an event
  have moved : ∀ v : State, Only [.twin, .port] s2 v → (∃ sup seq, v.twin = { s2.twin with supervisor := sup, roleSeq := seq }) →
      Only [.twin, .log, .alert, .port] s (v.roleEvent false) ∧ Safety.Raised .twin 6 (v.roleEvent false) ∧
      ∃ sup seq, (v.roleEvent false).twin = { s1.twin with supervisor := sup, roleSeq := seq } := by
    intro v hv ⟨sup, seq, hvtwin⟩
    have hev := v.roleEvent_only false
    have hevtwin : (v.roleEvent false).twin = v.twin := hev .twin (by decide)
    exact ⟨((h2.step hv).step hev).mono (by decide), State.raised_roleEvent _ (raised_of_alert (hv .alert (by decide)) hraised),
      sup, seq, by rw [hevtwin, hvtwin, htwin]⟩
  split
  · exact ⟨h2.mono (by decide), hraised, _, _, htwin⟩
  · split
    · obtain ⟨hgain, hgtwin⟩ := s2.nextRole.gainSupervision_spec
      exact moved _ (((s2.updTwin_only _).step hgain).mono (by decide)) ⟨_, _, hgtwin⟩
    · exact moved _ (((s2.updTwin_only _).step (State.updTwin_only _ _)).mono (by decide)) ⟨false, _, rfl⟩

/-- With no line due in the window there is no evidence (Table 09-6). -/
theorem State.judge_stalemate {k : Nat} {m : SMap (BitVec 16)} (hev : s.twin.evidence = some (k, m)) (hin : s.twin.beatIn = false)
    (hdue : ∀ p, p < 48 → s.dueSince k p = false) :
    s.judge = (s.updTwin fun t => { t with evidence := none }).enterStalemate := by
  have hnone : (List.range 48).filter ((s.updTwin fun t => { t with evidence := none }).dueSince k) = [] :=
    List.filter_eq_nil_iff.2 fun p hp => by
      have hd : (s.updTwin fun t => { t with evidence := none }).dueSince k p = false := hdue p (List.mem_range.1 hp)
      simp [hd]
  simp only [State.judge, hev, State.updTwin_twin, hin, hnone, Bool.false_eq_true, if_false, List.isEmpty_nil, if_true]

theorem exec_partnerEvidenceEnd {k : Nat} {m : SMap (BitVec 16)} (ha : s.alive = true) (hev : s.twin.evidence = some (k, m))
    (hin : s.twin.beatIn = false) (hdue : ∀ p, p < 48 → s.dueSince k p = false) :
    ∃ t, exec .partnerEvidenceEnd s = .next t ∧ Safety.Raised .twin 6 t ∧ t.twin.frozen = true ∧ t.twin.stalemate = true ∧
      t.twin.role = (if s.twin.role = .reserve then .claim else s.twin.role) ∧ t.twin.evidence = none := by
  obtain ⟨hst, hraised, sup, seq, htwin⟩ := (s.updTwin fun t => { t with evidence := none }).enterStalemate_spec
  obtain ⟨t, hx, -, hsent, hu⟩ := evt_effect ha (State.judge_stalemate hev hin hdue) ((s.updTwin_only _).step hst) (by decide)
  have ht : t.twin = _ := (congrArg State.twin hu).trans htwin
  refine ⟨t, hx, raised_of_only hsent hraised, ?_, ?_, ?_, ?_⟩ <;> rw [ht] <;> rfl

/-- What a disagreement over the interlocks leaves: FIRE_PERMIT has dropped with cause 1 (R266). -/
theorem State.ilkDisagree_spec {k : Nat} (hd : s.twin.disagreeSince = some k) : Only dropParts s s.ilkDisagree ∧
    Safety.Raised .twin 9 s.ilkDisagree ∧ s.ilkDisagree.fire.unmarked = s.fire.unmarked.dropped 1 ∧
    s.ilkDisagree.twin.disagreeSince = none := by
  unfold State.ilkDisagree
  rw [if_neg (by simp [hd])]
  extract_lets a
  have hdrop : Only dropParts s (s.dropPermit 1) := s.dropPermit_only 1
  have htail : Only [.alert, .log, .twin] (s.dropPermit 1) ((((s.dropPermit 1).raise .twin 9).logEvent 0x0C04 0 a).updTwin fun t =>
      { t with disagreeSince := none }) :=
    (((State.raise_only _ _ _).step (State.logEvent_only _ _ _ _)).step (State.updTwin_only _ _)).mono (by decide)
  have hfire : _ = (s.dropPermit 1).fire := htail .fire (by decide)
  refine ⟨hdrop.trans (htail.mono (by decide)), ?_, (congrArg Fire.unmarked hfire).trans (s.dropPermit_unmarked 1), rfl⟩
  exact raised_of_alert (s := ((s.dropPermit 1).raise .twin 9).logEvent 0x0C04 0 a) rfl
    (State.raised_logEvent _ _ _ (State.raised_raise (by decide)))

theorem exec_ilkDisagree {k : Nat} (ha : s.alive = true) (hd : s.twin.disagreeSince = some k) :
    ∃ t, exec .ilkDisagree s = .next t ∧ Safety.Raised .twin 9 t ∧ t.fire.permit = false ∧ t.twin.disagreeSince = none ∧
      (s.fire.permit = true → t.fire.dropCause = 1) ∧ t.cal = s.cal ∧ t.nvm = s.nvm ∧ t.pwr = s.pwr ∧ t.geo = s.geo := by
  obtain ⟨ho, hraised, hfire, htwin⟩ := State.ilkDisagree_spec hd
  obtain ⟨t, hx, hfr, hsent, hu⟩ := evt_effect (f := State.ilkDisagree) ha rfl ho (by decide)
  have hf : t.fire.unmarked = s.fire.unmarked.dropped 1 := (congrArg (fun t : State => t.fire.unmarked) hu).trans hfire
  have hcause : t.fire.dropCause = if s.fire.permit then 1 else s.fire.dropCause := congrArg Fire.dropCause hf
  exact ⟨t, hx, raised_of_only hsent hraised, congrArg Fire.permit hf, (congrArg (·.twin.disagreeSince) hu).trans htwin,
    fun hp => hcause.trans (if_pos hp), hfr .cal (by decide), hfr .nvm (by decide), hfr .pwr (by decide), hfr .geo (by decide)⟩

end

/-! ### Acknowledgements and retries -/

section
variable {s : State} {q : BitVec 32}

theorem State.castled_of_none (hc : s.twin.castling = none) : s.castled = s := by
  simp [State.castled, hc]

theorem State.ackSend_up (hl : s.twin.link = .up) (ho : s.twinOpen = true) (hd : s.twin.ackDue = some q)
    (hc : s.twin.castling = none) :
    s.ackSend = s.updTwin fun t => { t with ackDue := none, txQ := t.txQ ++ [.ack q] } := by
  let u := s.updTwin fun t => { t with ackDue := none, txQ := t.txQ ++ [.ack q] }
  have hcastled : u.castled = u := State.castled_of_none hc
  have hsync : u.syncTry = u := State.syncTry_of_not_sync (by rw [State.updTwin_twin, hl]; decide)
  calc s.ackSend = u.castled.syncTry := by simp only [State.ackSend, hd, ho, Bool.not_true, Bool.false_eq_true, if_false]; rfl
    _ = u := by rw [hcastled, hsync]

theorem exec_ackSend (ha : s.alive = true) (hl : s.twin.link = .up) (ho : s.twinOpen = true) (hd : s.twin.ackDue = some q)
    (hc : s.twin.castling = none) :
    ∃ t, exec .ackSend s = .next t ∧ Safety.Quiet s t ∧ t = { s with host := t.host, twin := { s.twin with
      ackDue := none, txQ := s.twin.txQ ++ [.ack q] } } :=
  evt_updTwin ha (State.ackSend_up hl ho hd hc)

/-- The ACK of a JOURNAL frame that no head write waits for completes nothing. -/
theorem State.frameAcked_journal {f : JournalFrame} (hw : s.twin.gainWait = []) : s.frameAcked (q, .journal f) = s := by
  simp only [State.frameAcked, hw, List.filter_nil, List.foldl_nil]
  exact State.updTwin_self (by rw [hw, List.filter_nil, ← hw])

theorem State.ackRx_last {f : JournalFrame} (hl : s.twin.link = .up) (ho : s.twinOpen = true)
    (hun : s.twin.unacked = [(q, .journal f)]) (hw : s.twin.gainWait = []) :
    s.ackRx q = s.updTwin fun t => { t with unacked := [], resends := 0 } := by
  let u := s.updTwin fun t => { t with unacked := [], resends := 0, txQ := t.txQ ++ [] }
  have hacked : u.frameAcked (q, .journal f) = u := State.frameAcked_journal hw
  have hsync : u.syncTry = u := State.syncTry_of_not_sync (by rw [State.updTwin_twin, hl]; decide)
  calc s.ackRx q = (u.frameAcked (q, .journal f)).syncTry := by simp [State.ackRx, hun, ho, u]
    _ = u := by rw [hacked, hsync]
    _ = _ := by simp only [u, List.append_nil]

theorem exec_ackRx {f : JournalFrame} (ha : s.alive = true) (hl : s.twin.link = .up) (ho : s.twinOpen = true)
    (hun : s.twin.unacked = [(q, .journal f)]) (hw : s.twin.gainWait = []) :
    ∃ t, exec (.ackRx q) s = .next t ∧ Safety.Quiet s t ∧ t = { s with host := t.host, twin := { s.twin with
      unacked := [], resends := 0 } } :=
  evt_updTwin ha (State.ackRx_last hl ho hun hw)

theorem State.twinResend_retries (ho : s.twinOpen = true) (hun : s.twin.unacked ≠ []) (hr : s.twin.resends < 8) :
    s.twinResend = s.updTwin fun t => { t with
      resends := t.resends + 1, txQ := t.txQ ++ (t.unacked.take twinWindow).map fun x => TwinOut.seq x.1 true x.2 } := by
  have hmay : ¬ 8 ≤ s.twin.resends := by omega
  simp [State.twinResend, ho, hun, hmay]

theorem exec_twinResend (ha : s.alive = true) (ho : s.twinOpen = true) (hun : s.twin.unacked ≠ []) (hr : s.twin.resends < 8) :
    ∃ t, exec .twinResend s = .next t ∧ Safety.Quiet s t ∧ t = { s with host := t.host, twin := { s.twin with
      resends := s.twin.resends + 1,
      txQ := s.twin.txQ ++ (s.twin.unacked.take twinWindow).map fun x => TwinOut.seq x.1 true x.2 } } :=
  evt_updTwin ha (State.twinResend_retries ho hun hr)

theorem State.twinResend_retrains (ho : s.twinOpen = true) (hun : s.twin.unacked ≠ []) (hr : 8 ≤ s.twin.resends) :
    s.twinResend = (s.updTwin fun t => { t with retrain := t.retrain + 1 }).twinDown .train := by
  simp [State.twinResend, ho, hun, hr]

theorem exec_twinResend_retrains (ha : s.alive = true) (ho : s.twinOpen = true) (hun : s.twin.unacked ≠ [])
    (hr : 8 ≤ s.twin.resends) :
    ∃ t, exec .twinResend s = .next t ∧ t.twin.link = .train ∧ t.twin.retrain = s.twin.retrain + 1 ∧ t.twin.unacked = [] := by
  obtain ⟨hdown, hdtwin, -⟩ := (s.updTwin fun t => { t with retrain := t.retrain + 1 }).twinDown_spec .train
  obtain ⟨t, hx, -, -, hu⟩ := evt_effect ha (State.twinResend_retrains ho hun hr) ((s.updTwin_only _).step hdown) (by decide)
  have ht : t.twin = _ := (congrArg State.twin hu).trans hdtwin
  refine ⟨t, hx, ?_, ?_, ?_⟩ <;> rw [ht] <;> rfl

end

/-- Settles O49: a HELLO by the straps, a BEAT sent and received, the loss of BEATs and of the wire, the interlocks, and ACKs with their
retries, each by what it leaves of the twin unit. SYNC starts with the BEAT that is sent last (log 84). -/
theorem twinLinkKeepsThePair : Obligations.TwinLinkKeepsThePair :=
  ⟨fun _ _ _ _ ha hen hl hstrap => exec_twinHelloRx ha hen hl hstrap,
   fun _ _ _ _ ha hen hl hc hstrap => exec_twinHelloRx_conflict ha hen hl hc hstrap,
   fun _ ha ho hw => exec_beatSend ha ho hw,
   fun _ _ ha hen hl hb hseen hrun hrole hsup => exec_beatSend_sync ha hen hl hb hseen hrun hrole hsup,
   fun _ _ ha hl hen hrole h2 h3 h5 hlost hret => exec_beatRx ha hl hen hrole h2 h3 h5 hlost hret,
   fun _ ha hen hform ho hin => exec_beatTimeout ha hen hform ho hin,
   fun _ ha hen hform ho hlost hev => exec_twinBeatInSilent ha hen hform ho hlost hev,
   fun _ _ _ ha hev hin hdue => exec_partnerEvidenceEnd ha hev hin hdue,
   fun _ _ ha hd => exec_ilkDisagree ha hd,
   fun _ _ ha hl _ ho hd hc => exec_ackSend ha hl ho hd hc,
   fun _ _ _ ha hl ho hun hw => exec_ackRx ha hl ho hun hw,
   fun _ ha ho hun hr => exec_twinResend ha ho hun hr,
   fun _ ha ho hun hr => exec_twinResend_retrains ha ho hun hr⟩

end Sys2Proof.Machine

namespace Sys2Proof.Machine

/-! ## Sequenced frames of the partner

A frame of the expected sequence is taken: `Twin.took` is what that leaves of the twin unit, and the frame's own effect comes on top. Any
other is counted (R269). -/

section
variable {s : State} {f : State → State}

/-- The twin unit that has taken the next frame: its ACK is due. -/
def Twin.took (t : Twin) : Twin :=
  { t with rxExp := t.rxExp + 1, ackDue := some t.rxExp, rxLast := some t.rxExp, quietBeats := 0 }

/-- The state that the frame's own effect starts from. -/
def State.took (s : State) : State := s.updTwin Twin.took

theorem State.accept_next (ho : s.twinOpen = true) : s.accept s.twin.rxExp f = f s.took := by
  simp only [State.accept, ho, Bool.not_true, Bool.false_eq_true, if_false, ne_eq, not_true_eq_false]
  rfl

theorem State.accept_other {seq : BitVec 32} (ho : s.twinOpen = true) (hseq : seq ≠ s.twin.rxExp) :
    s.accept seq f = s.updTwin fun t => { t with outOfOrder := t.outOfOrder + 1, ackDue := t.rxLast, quietBeats := 0 } := by
  simp only [State.accept, ho, Bool.not_true, Bool.false_eq_true, if_false, if_pos hseq]

theorem exec_mirrorDataRx_other {seq : BitVec 32} {m : MirrorFrame} (ha : s.alive = true) (ho : s.twinOpen = true)
    (hseq : seq ≠ s.twin.rxExp) :
    ∃ t, exec (.mirrorDataRx seq m) s = .next t ∧ Safety.Quiet s t ∧
      t = { s with host := t.host, twin := { s.twin with
        outOfOrder := s.twin.outOfOrder + 1, ackDue := s.twin.rxLast, quietBeats := 0 } } :=
  evt_updTwin ha (State.accept_other ho hseq)

end

/-! ### MIRROR_DATA -/

section
variable {s : State} {f : MirrorFrame}

/-- The stream that the first bytes of a mirrored segment leave (R271). -/
def firstBytes (bs : List Byte) : Stream := { st := .receiving, data := bs, received := bs.length, declared := bs.length }

theorem Stream.mirror_first (seg lines : Nat) (bs : List Byte) : ({} : Stream).mirror seg lines 0 false bs = firstBytes bs := by
  simp [Stream.mirror, firstBytes]

/-- The entry that a first frame opens. -/
def entryOfFrame (f : MirrorFrame) : Entry :=
  { segments := f.segments.toNat, lines := f.lines.toNat, autoFree := f.entryFlags.getLsbD 0,
    stream := SMap.set {} [] f.seg.toNat (firstBytes f.data) }

theorem State.mirrorRx_first (hrole : s.twin.role = .reserve) (he : s.entry? f.storeEntry.toNat = none) (hoff : f.offset = 0)
    (hlast : f.flags.getLsbD 0 = false) : s.mirrorRx f = s.updSlate fun t => { t with
      entries := t.entries.set none f.storeEntry.toNat (some (entryOfFrame f)) } := by
  have hoff0 : f.offset.toNat = 0 := by rw [hoff]; rfl
  rw [State.mirrorRx, if_neg (not_not_intro hrole)]
  simp only [he, hlast, hoff0, SMap.get_nil, Stream.mirror_first]
  rfl

theorem exec_mirrorDataRx (ha : s.alive = true) (ho : s.twinOpen = true) (hrole : s.twin.role = .reserve)
    (he : s.entry? f.storeEntry.toNat = none) (hoff : f.offset = 0) (hlast : f.flags.getLsbD 0 = false) :
    ∃ t, exec (.mirrorDataRx s.twin.rxExp f) s = .next t ∧ Safety.Quiet s t ∧
      t = { s with host := t.host, slate := t.slate,
                   twin := { s.twin with rxExp := s.twin.rxExp + 1, ackDue := some s.twin.rxExp, rxLast := some s.twin.rxExp, quietBeats := 0 } } ∧
      (t.entry? f.storeEntry.toNat).map (fun e => ((e.stream.get {} f.seg.toNat).data, e.lines, e.segments)) =
        some (f.data, f.lines.toNat, f.segments.toNat) := by
  obtain ⟨t, hx, hquiet, ht⟩ := evt_quiet ha ((State.accept_next ho).trans (State.mirrorRx_first (s := s.took) hrole he hoff hlast))
    ((s.updTwin_only _).step (State.updSlate_only _ _)) (by decide)
  have hslate : t.slate.entries = s.slate.entries.set none f.storeEntry.toNat (some (entryOfFrame f)) :=
    congrArg (fun t : State => t.slate.entries) ht
  have hentry : t.entry? f.storeEntry.toNat = some (entryOfFrame f) := by rw [State.entry?, hslate, SMap.get_set_same]
  refine ⟨t, hx, hquiet, ht.trans (by rw [ht]; rfl), ?_⟩
  rw [hentry, Option.map_some, entryOfFrame, SMap.get_set_same]
  rfl

end

/-! ### ADMIT -/

section
variable {s : State}

/-- A page put into a queue that holds no page of its handle is found there. -/
theorem find?_insertPage {pg : Page} {k : Nat} {l : List Page} (hk : pg.handle = k) (hl : l.find? (fun q => q.handle == k) = none) :
    (insertPage pg l).find? (fun q => q.handle == k) = some pg := by
  have hself : (pg.handle == k) = true := beq_iff_eq.2 hk
  induction l with
  | nil => exact List.find?_cons_of_pos hself
  | cons q qs ih =>
    obtain ⟨hq, hqs⟩ : (q.handle == k) = false ∧ qs.find? (fun q => q.handle == k) = none := by simpa using hl
    unfold insertPage
    split
    · exact List.find?_cons_of_pos hself
    · rw [List.find?_cons, hq]
      exact ih hqs

theorem State.page?_queuePage {pg : Page} {k : Nat} (hk : pg.handle = k) (hp : s.page? k = none) : (s.queuePage pg).page? k = some pg := by
  rw [State.page?, (s.queuePage_queue pg).1]
  exact find?_insertPage hk hp

theorem exec_admitRx {f : AdmitFrame} (ha : s.alive = true) (ho : s.twinOpen = true) (hrole : s.twin.role = .reserve)
    (hp : s.page? f.handle.toNat = none) :
    ∃ t, exec (.admitRx s.twin.rxExp f) s = .next t ∧ t.twin.rxExp = s.twin.rxExp + 1 ∧ t.twin.ackDue = some s.twin.rxExp ∧
      (t.page? f.handle.toNat).map (fun p => (p.entry, p.lines, p.top, p.own)) =
        some (f.storeEntry.toNat, f.lines.toNat, f.top.toInt, false) := by
  have hp' : s.took.page? f.handle.toNat = none := hp
  have hrole' : s.took.twin.role = .reserve := hrole
  have hadmit : s.took.admitRx f = s.took.queuePage (pageOfFrame f) := by simp [State.admitRx, hrole', hp']
  have hqueue := s.took.queuePage_only (pageOfFrame f)
  obtain ⟨t, hx, -, -, ht⟩ := evt_effect ha ((State.accept_next ho).trans hadmit) ((s.updTwin_only _).step hqueue) (by decide)
  have htwin : t.twin = s.twin.took := (congrArg State.twin ht).trans (hqueue .twin (by decide))
  have hpage : t.page? f.handle.toNat = some (pageOfFrame f) := by rw [ht]; exact State.page?_queuePage rfl hp'
  exact ⟨t, hx, congrArg Twin.rxExp htwin, congrArg Twin.ackDue htwin, by rw [hpage]; rfl⟩

end

/-! ### PAGE_EVENT KIND 1 -/

section
variable (s : State)

theorem State.completeReport_steady (h : Nat) (r : Report) : (s.completeReport h r).twin.steady = s.twin.steady :=
  congrArg Twin.steady (s.completeReport_only h r .twin (by decide))

theorem State.mirrorSend_steady (f : SeqFrame) : (s.mirrorSend f).twin.steady = s.twin.steady :=
  Twin.steady_of_unsent (s.mirrorSend_unsent f)

theorem State.completeMirrored_steady (h : Nat) (r : Report) : (s.completeMirrored h r).twin.steady = s.twin.steady := by
  unfold State.completeMirrored
  exact (State.mirrorSend_steady _ _).trans (State.completeReport_steady _ h r)

theorem State.completeCombined_steady (h : Nat) (pm : PeerMark) (r : Report) :
    (s.completeCombined h pm r).twin.steady = s.twin.steady := by
  unfold State.completeCombined
  exact State.completeReport_steady _ h _

theorem State.freeMirrored_steady (e : Nat) : (s.freeMirrored e).twin.steady = s.twin.steady :=
  (State.mirrorSend_steady _ _).trans (congrArg Twin.steady (s.freeEntry_only e .twin (by decide)))

/-- A page that leaves takes LEAD's castle and the partner's marks along, and of the twin unit no more. -/
theorem State.leavePage_steady (next : Nat) (pg : Page) : (s.leavePage next pg).twin.steady = s.twin.steady := by
  unfold State.leavePage
  extract_lets h s1 s2 s3 s4 r m s5 s6 s7
  have h5 : s5.twin.steady = s.twin.steady := by
    have hm : m.twin.steady = s.twin.steady := s4.mirrorSend_steady _
    unfold s5
    split
    · split
      · exact s4.completeMirrored_steady _ _
      · rfl
    · split
      · split
        · exact (m.completeCombined_steady _ _ _).trans hm
        · exact hm
      · exact s4.completeReport_steady _ _
  have h6 : s6.twin.steady = s5.twin.steady := congrArg Twin.steady (s5.switchUnfired_only h .twin (by decide))
  have h7 : s7.twin.steady = s6.twin.steady := by
    unfold s7
    split
    · split
      · exact s6.freeMirrored_steady _
      · rfl
    · rfl
  have h8 : s7.thatchDone.twin.steady = s7.twin.steady := congrArg Twin.steady (s7.thatchDone_only .twin (by decide))
  have h9 : s7.thatchDone.castleTry.speedCheck.twin.steady = s7.thatchDone.castleTry.twin.steady :=
    congrArg Twin.steady (State.speedCheck_only _ .twin (by decide))
  exact h9.trans ((State.castleTry_steady _).trans (h8.trans (h7.trans (h6.trans h5))))

/-- What ending a page from a line on touches. -/
def endParts : List Part :=
  [.port, .lines, .fire, .pages, .progress, .quiet, .left, .slate, .vis, .twin, .reports, .log, .alert, .loop, .free, .dram,
    .speedLimit, .boot]

/-- Ending a page from a line on: its lines cease, it is marked, and it leaves the queue. -/
theorem State.endPageFrom_spec (mark h n : Nat) : Only endParts s (s.endPageFrom mark h n) ∧
    (s.endPageFrom mark h n).page? h = none ∧ (s.endPageFrom mark h n).twin.steady = s.twin.steady := by
  unfold State.endPageFrom
  split
  case h_1 hp => exact ⟨.refl s, hp, rfl⟩
  case h_2 pg _ =>
    extract_lets next s1 s2
    have h1 : Only [.port, .lines] s s1 := .foldl (fun t l => .ite (t.ceaseLine_only false l) (.refl t)) _ _
    have h2 : Only [.port, .lines, .pages, .reports, .fire] s s2 := h1.step (s1.markPage_only _ _ _ _)
    have htwin : s2.twin.steady = s.twin.steady := congrArg Twin.steady (h2 .twin (by decide))
    split
    case h_1 pg' hp =>
      have hend : Only [.boot, .fire, .port] (s2.leavePage next pg') (s2.leavePage next pg').finishHeld := State.finishHeld_only _
      have hgone : (s2.leavePage next pg').finishHeld.page? pg'.handle = none :=
        (State.page?_congr (hend .pages (by decide)) _).trans (s2.leavePage_page? next pg')
      exact ⟨((h2.step (s2.leavePage_only next pg')).step hend).mono (by decide), State.page?_handle hp ▸ hgone,
        Eq.trans (congrArg Twin.steady (hend .twin (by decide))) ((s2.leavePage_steady next pg').trans htwin)⟩
    case h_2 hp => exact ⟨h2.mono (by decide), hp, htwin⟩

end

section
variable {s : State}

theorem exec_pageEventRx_ends {f : PageEventFrame} (ha : s.alive = true) (ho : s.twinOpen = true) (hrole : s.twin.role = .reserve)
    (hkind : f.kind = 1) :
    ∃ t, exec (.pageEventRx s.twin.rxExp f) s = .next t ∧ t.twin.rxExp = s.twin.rxExp + 1 ∧ t.page? f.handle.toNat = none ∧
      t.cal = s.cal ∧ t.nvm = s.nvm ∧ t.pwr = s.pwr ∧ t.geo = s.geo := by
  have hevent : s.took.pageEventRx f = s.took.endPageFrom 12 f.handle.toNat f.line.toNat := by
    rw [State.pageEventRx, hkind]
    exact if_pos hrole
  obtain ⟨hend, hgone, hsteady⟩ := s.took.endPageFrom_spec 12 f.handle.toNat f.line.toNat
  obtain ⟨t, hx, hfr, -, ht⟩ := evt_effect ha ((State.accept_next ho).trans hevent) ((s.updTwin_only _).step hend) (by decide)
  have htwin : t.twin.steady = s.took.twin.steady := (congrArg (fun t : State => t.twin.steady) ht).trans hsteady
  have hpage : t.page? f.handle.toNat = none := by rw [ht]; exact hgone
  exact ⟨t, hx, congrArg Twin.rxExp htwin, hpage, hfr .cal (by decide), hfr .nvm (by decide), hfr .pwr (by decide), hfr .geo (by decide)⟩

/-! ### CONFIG, JOURNAL, ACCUM -/

/-- FIRE_SET_MEASURE as the supervisor forwards it. -/
theorem State.configRx_measure (hsup : s.twin.supervisor = false) (key : BitVec 32) (b : List Byte) :
    s.configRx (0x0404 : BitVec 16).toNat key b = s.setMeasure (fieldAt b 0 4) := by
  simp [State.configRx, State.configFire, hsup]

theorem exec_configRx_measure {key : BitVec 32} {b : List Byte} (ha : s.alive = true) (ho : s.twinOpen = true)
    (hsup : s.twin.supervisor = false) :
    ∃ t, exec (.configRx s.twin.rxExp 0x0404 key b) s = .next t ∧ t.twin.rxExp = s.twin.rxExp + 1 ∧
      t.twin.ackDue = some s.twin.rxExp ∧ t.fire.measPeriodS = fieldAt b 0 4 ∧ t.geo = s.geo ∧ t.cal = s.cal ∧ t.nvm = s.nvm := by
  obtain ⟨t, hx, -, ht⟩ := evt_quiet ha ((State.accept_next ho).trans (State.configRx_measure (s := s.took) hsup key b))
    ((s.updTwin_only _).step (State.updFire_only _ _)) (by decide)
  refine ⟨t, hx, ?_, ?_, ?_, ?_, ?_, ?_⟩ <;> rw [ht] <;> rfl

/-- The first fragment of a longer record is kept, whatever was kept before (spec/07 R228). -/
theorem State.journalRx_first {f : JournalFrame} (hsup : s.twin.supervisor = false) (hfrag : f.frag = 0) (hmore : 1 < f.frags.toNat) :
    s.journalRx f = s.updNvm fun n => { n with rx := some (f.gableSeq, f.data, 1) } := by
  rcases hrx : s.nvm.rx with _ | ⟨q, bs, n⟩
  · simp [State.journalRx, hsup, hfrag, hrx, hmore]
  · simp [State.journalRx, hsup, hfrag, hrx, hmore]

theorem exec_journalRx_first {f : JournalFrame} (ha : s.alive = true) (ho : s.twinOpen = true) (hsup : s.twin.supervisor = false)
    (hfrag : f.frag = 0) (hmore : 1 < f.frags.toNat) :
    ∃ t, exec (.journalRx s.twin.rxExp f) s = .next t ∧ Safety.Quiet s t ∧
      t = { s with host := t.host, nvm := { s.nvm with rx := some (f.gableSeq, f.data, 1) },
                   twin := { s.twin with rxExp := s.twin.rxExp + 1, ackDue := some s.twin.rxExp, rxLast := some s.twin.rxExp, quietBeats := 0 } } :=
  evt_quiet ha ((State.accept_next ho).trans (State.journalRx_first (s := s.took) hsup hfrag hmore))
    ((s.updTwin_only _).step (State.updNvm_only _ _)) (by decide)

/-- An entry of a column that no camera here sees adds to this chip's sums (R278). -/
theorem State.accumRx_unseen {f : AccumFrame} {e : AccEntry} (hsup : s.twin.supervisor = true) (he : f.entries = [e])
    (hseen : s.seenBy f.firstCol.toNat = none) :
    s.accumRx f = s.updLoop fun l => { l with ring := SMap.upd [] l.ring f.firstCol.toNat (addBlock f.block.toNat e) } := by
  simp [State.accumRx, State.accumCol, hsup, he, hseen]

theorem exec_accumRx {f : AccumFrame} {e : AccEntry} (ha : s.alive = true) (ho : s.twinOpen = true) (hsup : s.twin.supervisor = true)
    (he : f.entries = [e]) (hseen : s.seenBy f.firstCol.toNat = none) :
    ∃ t, exec (.accumRx s.twin.rxExp f) s = .next t ∧ Safety.Quiet s t ∧
      t = { s with host := t.host, loop := { s.loop with ring := SMap.upd [] s.loop.ring f.firstCol.toNat (addBlock f.block.toNat e) },
                   twin := { s.twin with rxExp := s.twin.rxExp + 1, ackDue := some s.twin.rxExp, rxLast := some s.twin.rxExp, quietBeats := 0 } } :=
  evt_quiet ha ((State.accept_next ho).trans (State.accumRx_unseen (s := s.took) hsup he hseen))
    ((s.updTwin_only _).step (State.updLoop_only _ _)) (by decide)

/-! ### ROLE -/

theorem State.roleRx_castle {f : RoleFrame} (hkind : f.kind = 5) (hrole : s.twin.role ≠ .lead) :
    s.roleRx f = s.updTwin fun t => { t with castling := some f.roleSeq } := by
  rw [State.roleRx, hkind]
  exact if_neg hrole

theorem exec_roleRx_castle {f : RoleFrame} (ha : s.alive = true) (ho : s.twinOpen = true) (hkind : f.kind = 5)
    (hrole : s.twin.role ≠ .lead) :
    ∃ t, exec (.roleRx s.twin.rxExp f) s = .next t ∧ Safety.Quiet s t ∧ t = { s with host := t.host, twin := { s.twin with
      rxExp := s.twin.rxExp + 1, ackDue := some s.twin.rxExp, rxLast := some s.twin.rxExp, quietBeats := 0, castling := some f.roleSeq } } :=
  evt_updTwin (g := fun t => { t.took with castling := some f.roleSeq }) ha
    ((State.accept_next ho).trans (State.roleRx_castle (s := s.took) hkind hrole))

/-- Taking LEAD marks the queued pages. -/
theorem State.takeLead_spec (s : State) : Only [.twin, .pages, .reports, .fire] s s.takeLead ∧ s.takeLead.twin.role = .lead ∧
    s.takeLead.twin.roleSeq = s.twin.roleSeq := by
  let u := s.updTwin fun t => { t with role := .lead, pagesSince := 0, castleDue := false, atEmpty := false, castling := none }
  have hmark : u.markSwitch.twin = u.twin := u.markSwitch_only .twin (by decide)
  exact ⟨(s.updTwin_only _).step u.markSwitch_only, congrArg Twin.role hmark, (congrArg Twin.roleSeq hmark :)⟩

/-- ROLE KIND 1 as a chip that is not LEAD takes it (R281, R284). -/
theorem State.roleRx_lead {f : RoleFrame} (hkind : f.kind = 1) (hrole : s.twin.role ≠ .lead) :
    s.roleRx f = ((s.updTwin fun t => { t with roleSeq := f.roleSeq }).takeLead.setPartnerRole 0).roleEvent false := by
  rw [State.roleRx, hkind]
  exact if_neg hrole

theorem exec_roleRx_lead {f : RoleFrame} (ha : s.alive = true) (ho : s.twinOpen = true) (hkind : f.kind = 1)
    (hrole : s.twin.role = .reserve) :
    ∃ t, exec (.roleRx s.twin.rxExp f) s = .next t ∧ t.twin.role = .lead ∧ t.twin.roleSeq = f.roleSeq ∧
      t = { s with host := t.host, twin := t.twin, bat := t.bat, fire := t.fire, log := t.log } := by
  have hnot : s.took.twin.role ≠ .lead := by rw [show s.took.twin.role = s.twin.role from rfl, hrole]; decide
  let u := s.took.updTwin fun t => { t with roleSeq := f.roleSeq }
  obtain ⟨htake, hlead, hseq⟩ := u.takeLead_spec
  have hev := (u.takeLead.setPartnerRole 0).roleEvent_only false
  obtain ⟨t, hx, hfr, -, ht⟩ := evt_effect ha ((State.accept_next ho).trans (State.roleRx_lead hkind hnot))
    ((((s.updTwin_only _).step (s.took.updTwin_only _)).step htake).step (u.takeLead.updTwin_only _) |>.step hev) (by decide)
  have htwin : t.twin = (u.takeLead.setPartnerRole 0).twin := (congrArg State.twin ht).trans (hev .twin (by decide))
  exact ⟨t, hx, (congrArg Twin.role htwin).trans hlead, (congrArg Twin.roleSeq htwin).trans hseq,
    (hfr.mono (qs := .host :: .alert :: .twin :: .fire :: .log :: battenParts) (by decide)).eq_patch⟩

end

/-- Settles O50: a frame out of sequence by the count it leaves, a frame of the expected sequence by its own effect on the state that has
taken it (log 86). -/
theorem twinFramesTakeEffect : Obligations.TwinFramesTakeEffect :=
  ⟨fun _ _ _ ha ho hseq => exec_mirrorDataRx_other ha ho hseq,
   fun _ _ ha ho hrole he hoff hlast => exec_mirrorDataRx ha ho hrole he hoff hlast,
   fun _ _ ha ho hrole hp => exec_admitRx ha ho hrole hp,
   fun _ _ _ ha ho hrole hkind _ => exec_pageEventRx_ends ha ho hrole hkind,
   fun _ _ _ _ _ _ ha ho hsup => exec_configRx_measure ha ho hsup,
   fun _ _ ha ho hsup hfrag hmore => exec_journalRx_first ha ho hsup hfrag hmore,
   fun _ _ _ ha ho hsup he hseen => exec_accumRx ha ho hsup he hseen,
   fun _ _ ha ho hkind hrole => exec_roleRx_castle ha ho hkind hrole,
   fun _ _ ha ho hkind hrole => exec_roleRx_lead ha ho hkind hrole⟩

end Sys2Proof.Machine

namespace Sys2Proof.Machine

/-! ## A step of the clock can complete a handover of supervision

On the chip that is not preferred an ECHO exchange steers the clock (R286), and an offset above STEP_NS may be stepped away while no page is
queued (R290). A step resyncs every Ridge port in UP, which withdraws the port's control frame (R406); a handover of supervision that
waited for that frame then runs to its end (R279). So a good exchange does not always leave supervision as it was. -/

/-- The chip that is not preferred is handing supervision over and waits for the control frame of port 0. Its clock is ahead of the preferred
chip's by 5 µs. -/
def handingState : State where
  boot := { resetN := true, stage := .ready, twinEn := true }
  time := { clock := { sec := 1 }, st := .steered }
  twin := { link := .up, formed := true, supervisor := true, handing := true }
  port := [(0, { st := .up, ctrlOut := some ⟨0, .write 0 [0, 0, 0, 0], 3⟩ })]

/-- An exchange whose request took 100 ns, as its answer did: T1 200 ns ago, T2 and T3 on the partner's clock. -/
def aheadTimes : EchoTimes := ⟨256000000000 - 200 * 256, 256000000000 - 5100 * 256, 256000000000 - 5100 * 256⟩

theorem handingState_echo_hands_over :
    (State.twinEcho aheadTimes.t1 aheadTimes.t2 aheadTimes.t3 none handingState).twin.supervisor = false := by decide +kernel

theorem exec_twinEchoRx_twin {s t : State} {x : EchoTimes} {gm : Option AnnounceMsg} (ha : s.alive = true)
    (hx : exec (.twinEchoRx true x gm) s = .next t) : t.twin = (s.twinEcho x.t1 x.t2 x.t3 gm).twin := by
  obtain ⟨u, hu, -, hnext⟩ := evt_next (f := State.twinEcho x.t1 x.t2 x.t3 gm) ha
  have htu : t = u := Host.Outcome.next.inj (hx.symm.trans hu)
  rw [htu, hnext]

/-- Refutes O51: on the chip that is not preferred a good exchange steps the clock by 5 µs, port 0 resyncs, and the handover of
supervision that waited for its control frame is done, where the clause leaves the twin unit but for the echo's own fields. -/
theorem not_twinTimersAct : ¬ Obligations.TwinTimersAct := by
  intro h
  obtain ⟨-, -, -, -, -, -, -, hsteers, -⟩ := h
  have ha : handingState.alive = true := by decide
  obtain ⟨t, hx, htwin, -⟩ := hsteers handingState aheadTimes.t1 aheadTimes.t2 aheadTimes.t3 _ none ha rfl rfl (by decide) rfl
    (by decide +kernel) (.inl rfl)
  have hkept : (State.twinEcho aheadTimes.t1 aheadTimes.t2 aheadTimes.t3 none handingState).twin.supervisor = true := by
    rw [← exec_twinEchoRx_twin ha hx, htwin]
    rfl
  exact absurd (handingState_echo_hands_over.symm.trans hkept) (by decide)

end Sys2Proof.Machine

namespace Sys2Proof.Machine

/-! ## What PTP leaves of the time unit

PTP moves port states, the parent's data, the clock's state and with it the increment and the record of HOLDOVER (R291, R293, R294).
`TimeUnit.undecided` is the time unit without these, `EthPort.settings` a port without what PTP keeps of it while it runs. -/

/-- A port but for what a restart of PTP forgets. -/
def EthPort.settings (q : EthPort) : EthPort := { q with st := .disabled, best := none, syncDiff := none, reqNs := none }

/-- The time unit but for what the best master clock algorithm and the clock states decide. -/
def TimeUnit.undecided (t : TimeUnit) : TimeUnit :=
  { t with
    port := [], inc := 0, st := .freerun, slew := 0, lockRun := 0, integral := 0, history := [], e0 := 0, holdMean := 0, holdF := 0,
    holdTick := 0, holdovers := 0, gmIdentity := 0, parent := none, stepsRemoved := 0, rxUtcOffset := 0, utcValid := false, pathNs := 0 }

section
variable (s : State)

theorem State.updEth_only (p : Nat) (f : EthPort → EthPort) : Only [.time] s (s.updEth p f) := s.updTime_only _

theorem State.ethN_updEth (k : Nat) (f : EthPort → EthPort) (p : Nat) :
    (s.updEth k f).ethN p = if p = k then f (s.ethN k) else s.ethN p := SMap.get_set _ _ _ _ _

@[simp] theorem State.ethN_updEth_same (p : Nat) (f : EthPort → EthPort) : (s.updEth p f).ethN p = f (s.ethN p) :=
  SMap.get_upd_same _ _ _ _

theorem State.ethN_updEth_ne {p q : Nat} (f : EthPort → EthPort) (h : q ≠ p) : (s.updEth p f).ethN q = s.ethN q :=
  SMap.get_upd_ne _ _ _ h

/-- What a change of one port keeps of a port, it keeps of every port. -/
theorem State.ethN_updEth_keep {β : Type} (π : EthPort → β) {f : EthPort → EthPort} (hf : ∀ q, π (f q) = π q) (k p : Nat) :
    π ((s.updEth k f).ethN p) = π (s.ethN p) := by
  rw [State.ethN_updEth]
  split
  case isTrue h => rw [hf, h]
  case isFalse => rfl

/-- The ports stand in the time unit. -/
theorem State.ethN_of_time {s t : State} (h : t.time = s.time) (p : Nat) : t.ethN p = s.ethN p := by
  rw [State.ethN, h, State.ethN]

/-! ### Clock states -/

theorem State.setClockSt_time (st : ClockSt) : (s.setClockSt st).time = { s.time with st := st } := by
  unfold State.setClockSt
  split
  case isTrue h => rw [← h]
  case isFalse => rfl

/-- Losing the master moves the clock's state at most, not the ports. -/
theorem State.loseMaster_time : s.loseMaster.time.undecided = s.time.undecided ∧ s.loseMaster.time.port = s.time.port := by
  unfold State.loseMaster
  split
  · rw [State.enterHoldover, State.setClockSt_time]
    exact ⟨rfl, rfl⟩
  · exact ⟨rfl, rfl⟩

theorem State.loseMaster_locked {s : State} (h : s.time.st = .locked) : s.loseMaster.time.st = .holdover := by
  rw [State.loseMaster, if_pos (.inr h), State.enterHoldover, State.setClockSt_time]

theorem State.loseMaster_holdover {s : State} (h : s.time.st = .holdover) : s.loseMaster = s := by
  rw [State.loseMaster, if_neg (by simp [h])]

/-! ### The best master clock algorithm -/

/-- The algorithm in its steps: the ports take their states, the parent's data follow, and the master may be lost. -/
theorem State.bmca_steps : ∃ u : State, (s.bmca = u.loseMaster ∨ s.bmca = u) ∧ u.time.undecided = s.time.undecided ∧
    u.time.st = s.time.st ∧
    ∀ p, u.ethN p = { s.ethN p with st := if p < 2 then s.portDecision p else (s.ethN p).st } := by
  unfold State.bmca
  extract_lets was d0 d1 s1 m pair gm parent changed s2 s3
  have h2 : s2.time = s1.time := by
    unfold s2
    split <;> rfl
  clear_value s2
  have hund : s3.time.undecided = s2.time.undecided := rfl
  have hst : s3.time.st = s2.time.st := rfl
  have hport : s3.time.port = s2.time.port := rfl
  refine ⟨s3, ?_, by rw [hund, h2]; rfl, by rw [hst, h2]; rfl, fun p => ?_⟩
  · split
    · exact .inl rfl
    · exact .inr rfl
  · rw [State.ethN, hport, h2]
    change s1.ethN p = _
    simp only [s1, State.ethN_updEth]
    match p with
    | 0 => rfl
    | 1 => rfl
    | p + 2 => simp

theorem State.bmca_undecided : s.bmca.time.undecided = s.time.undecided := by
  obtain ⟨u, he, hund, -, -⟩ := s.bmca_steps
  rcases he with e | e <;> rw [e]
  · exact u.loseMaster_time.1.trans hund
  · exact hund

/-- Of the ports the algorithm changes the states of the two alone. -/
theorem State.bmca_ethN (p : Nat) :
    s.bmca.ethN p = { s.ethN p with st := if p < 2 then s.portDecision p else (s.ethN p).st } := by
  obtain ⟨u, he, -, -, hport⟩ := s.bmca_steps
  rw [← hport p]
  rcases he with e | e <;> rw [e]
  rw [State.ethN, u.loseMaster_time.2, State.ethN]

theorem State.bmca_holdover {s : State} (h : s.time.st = .holdover) : s.bmca.time.st = .holdover := by
  obtain ⟨u, he, -, hst, -⟩ := s.bmca_steps
  have hu : u.time.st = .holdover := hst.trans h
  rcases he with e | e <;> rw [e]
  · rw [State.loseMaster_holdover hu, hu]
  · exact hu

/-! ### A restart of PTP -/

theorem State.ptpRestart_only : Only [.time, .alert] s s.ptpRestart := by
  unfold State.ptpRestart
  extract_lets s1 s2
  have h1 : Only [.time] s s1 := .foldl (fun t p => t.updEth_only p _) _ _
  have h2 : Only [.time, .alert] s s2 := (h1.step s1.bmca_only).mono (by decide)
  exact .ite (h2.trans (((s2.updTime_only _).step (State.setClockSt_only _ _)).mono (by decide))) h2

/-- A restart keeps every setting, of the time unit and of its ports. -/
theorem State.ptpRestart_settings : s.ptpRestart.time.undecided = s.time.undecided ∧
    ∀ p, (s.ptpRestart.ethN p).settings = (s.ethN p).settings := by
  unfold State.ptpRestart
  extract_lets s1 s2
  have h1 : s1.time.undecided = s.time.undecided := by
    refine foldl_keep (fun t : State => t.time.undecided) _ (fun t p => ?_) _ _
    rfl
  have hp1 : ∀ p, (s1.ethN p).settings = (s.ethN p).settings := fun p => by
    refine foldl_keep (fun t : State => (t.ethN p).settings) _ (fun t k => ?_) _ _
    refine t.ethN_updEth_keep EthPort.settings (fun _ => ?_) k p
    rfl
  have h2 : s2.time.undecided = s.time.undecided := s1.bmca_undecided.trans h1
  have hp2 : ∀ p, (s2.ethN p).settings = (s.ethN p).settings := fun p =>
    (congrArg EthPort.settings (s1.bmca_ethN p)).trans (hp1 p)
  have free : ∀ t : TimeUnit, ((if t.st = .freerun then t else { t with slew := 0 }).freeRun).undecided = t.undecided ∧
      ((if t.st = .freerun then t else { t with slew := 0 }).freeRun).port = t.port := fun t => by
    split <;> exact ⟨rfl, rfl⟩
  split
  · refine ⟨?_, fun p => ?_⟩
    · rw [State.setClockSt_time]
      exact (free _).1.trans h2
    · rw [State.ethN, State.setClockSt_time]
      exact (congrArg (fun m => (SMap.get {} m p).settings) (free _).2).trans (hp2 p)
  · exact ⟨h2, hp2⟩

end

/-! ## TIME_SET_CLOCK, TIME_SET_PTP, TIME_SET_PORT, TIME_SET_ASYM -/

section
variable {s u : State} {h : MbHdr} {c : MbCheck} {i : Instr} {body : State → Answer}

/-- A command that changes the time unit alone. -/
theorem mbCmd_updTime {f : TimeUnit → TimeUnit} (hs : Safety.served s h c.len = true) (hr : c.rsv = false) (hz : c.zero = false)
    (hg : c.gated (s.mbStart h) = false) (hb : body (s.mbStart h) = ok ((s.mbStart h).updTime f)) :
    ∃ t, mbCmd h i (mbServe c h body) s = .next t ∧ Safety.Answered h c.op 0 [] s t ∧
      t = { s with host := t.host, time := f s.time } := by
  obtain ⟨t, e, ha, -, ht⟩ := mbCmd_done_answered (i := i) hs hr hz hg hb (State.updTime_only _ _) (by decide)
  exact ⟨t, e, ha, ht⟩

/-- A command that changes the time unit and may raise alerts. -/
theorem mbCmd_time (hs : Safety.served s h c.len = true) (hr : c.rsv = false) (hz : c.zero = false)
    (hg : c.gated (s.mbStart h) = false) (hb : body (s.mbStart h) = ok u) (hu : Only [.time, .alert] (s.mbStart h) u) :
    ∃ t, mbCmd h i (mbServe c h body) s = .next t ∧ Safety.AnsweredWith h c.op 0 [] s t ∧
      t = { s with host := t.host, time := t.time } ∧ t.time = u.time := by
  obtain ⟨t, e, ha, -, ho, ht⟩ := mbCmd_done_only (i := i) hs hr hz hg hb hu (by decide)
  exact ⟨t, e, ha, (ho.mono (qs := [.host, .alert, .time]) (by decide)).eq_patch, (congrArg State.time ht :)⟩

/-- The clock parameters of a payload, the increment apart (Table 10-6). -/
def TimeUnit.clockSet (p : ClockReq) (t : TimeUnit) : TimeUnit :=
  { t with
    nominalInc := p.nominalInc, maxAdjPpb := p.maxAdjPpb.toNat, freqStepPpb := p.freqStepPpb.toNat, stepEn := p.stepEn == 1,
    stepNs := p.stepNs.toNat, kp := p.kp.toNat, ki := p.ki.toNat, lockNs := p.lockNs.toNat, holdAvgS := p.holdAvgS.toNat,
    holdLimitNs := p.holdLimitNs.toNat, aging := p.agingPpbS.toNat }

/-- In FREERUN the increment follows at once, else it stays. -/
theorem State.setClock_eq (s : State) (p : ClockReq) :
    s.setClock p = s.updTime fun t => if t.st = .freerun then (t.clockSet p).freeRun else t.clockSet p := rfl

theorem exec_timeSetClock {p : ClockReq} (hs : Safety.served s h 32 = true) (hr : p.rsv = 0) (hr2 : p.rsv2 = 0)
    (hb : clockBad p = false) :
    ∃ t, exec (.timeSetClock h p) s = .next t ∧ Safety.Answered h 0x0D01 0 [] s t ∧ t = { s with host := t.host, time := t.time } ∧
      (s.time.st = .freerun → s.time.slew = 0 → t.time.inc = p.nominalInc) ∧
      (s.time.st = .freerun → s.time.slew ≠ 0 → t.time.inc = BitVec.ofInt 32 (p.nominalInc.toNat +
        (p.nominalInc.toNat * (if 0 < s.time.slew then (p.maxAdjPpb.toNat : Int) else -(p.maxAdjPpb.toNat : Int))).tdiv 1000000000)) ∧
      t.time = { s.time with
        nominalInc := p.nominalInc, maxAdjPpb := p.maxAdjPpb.toNat, freqStepPpb := p.freqStepPpb.toNat, stepEn := (p.stepEn == 1),
        stepNs := p.stepNs.toNat, kp := p.kp.toNat, ki := p.ki.toNat, lockNs := p.lockNs.toNat, holdAvgS := p.holdAvgS.toNat,
        holdLimitNs := p.holdLimitNs.toNat, aging := p.agingPpbS.toNat,
        inc := if s.time.st = .freerun then t.time.inc else s.time.inc } := by
  have hbody : (if clockBad p then fail 0x0D01 (s.mbStart h) else ok ((s.mbStart h).setClock p)) =
      ok ((s.mbStart h).updTime fun t => if t.st = .freerun then (t.clockSet p).freeRun else t.clockSet p) := by
    rw [hb, if_neg Bool.false_ne_true, State.setClock_eq]
  obtain ⟨t, e, ha, ht⟩ := mbCmd_updTime (c := { op := 0x0D01, len := 32, rsv := p.rsv != 0 || p.rsv2 != 0 })
    (i := .timeSetClock h p) (body := fun s => if clockBad p then fail 0x0D01 s else ok (s.setClock p)) hs (by simp [hr, hr2]) rfl rfl
    hbody
  have htime : t.time = if s.time.st = .freerun then (s.time.clockSet p).freeRun else s.time.clockSet p := congrArg State.time ht
  refine ⟨t, e, ha, ht.trans (by rw [htime]), fun hst hslew => ?_, fun hst hslew => ?_, ?_⟩
  · rw [htime, if_pos hst]
    exact if_pos hslew
  · rw [htime, if_pos hst]
    exact if_neg hslew
  · rw [htime]
    split <;> rfl

theorem timeSetPtpBody_ok {p : PtpReq} (hrole : p.role.toNat ≤ 3) (hdom : p.domain.toNat ≤ 127) (hbar : p.barId.toNat ≤ 63)
    (hc : roleConflict p.role.toNat ((s.ethN 0).flags.getLsbD 0) ((s.ethN 1).flags.getLsbD 0) = false) :
    timeSetPtpBody p s = ok (s.setPtp p) := by
  simp only [timeSetPtpBody, checked, firstBad, hc, decide_eq_false (not_lt.2 hrole), decide_eq_false (not_lt.2 hdom),
    decide_eq_false (not_lt.2 hbar), Bool.or_self, Bool.false_eq_true, if_false]

theorem exec_timeSetPtp {p : PtpReq} (hs : Safety.served s h 12 = true) (hr : p.rsv = 0) (hrole : p.role.toNat ≤ 3)
    (hdom : p.domain.toNat ≤ 127) (hbar : p.barId.toNat ≤ 63)
    (hc : roleConflict p.role.toNat ((s.ethN 0).flags.getLsbD 0) ((s.ethN 1).flags.getLsbD 0) = false) :
    ∃ t, exec (.timeSetPtp h p) s = .next t ∧ Safety.AnsweredWith h 0x0D02 0 [] s t ∧ t = { s with host := t.host, time := t.time } ∧
      t.time.role = p.role.toNat ∧ t.time.domain = p.domain.toNat ∧ t.time.priority1 = p.priority1 ∧ t.time.priority2 = p.priority2 ∧
      t.time.clockClass = p.clockClass ∧ t.time.clockAccuracy = p.clockAccuracy ∧ t.time.oslv = p.oslv ∧
      t.time.utcOffset = p.utcOffset.toNat ∧ t.time.barId = p.barId.toNat ∧ t.time.clock = s.time.clock := by
  obtain ⟨t, e, ha, ho, ht⟩ := mbCmd_time (c := { op := 0x0D02, len := 12, rsv := p.rsv != 0 }) (i := .timeSetPtp h p) hs
    (by simp [hr]) rfl rfl (timeSetPtpBody_ok (s := s.mbStart h) hrole hdom hbar hc)
    (((State.updTime_only _ _).step (State.ptpRestart_only _)).mono (by decide))
  have hund := (congrArg TimeUnit.undecided ht).trans (State.ptpRestart_settings _).1
  exact ⟨t, e, ha, ho, congrArg TimeUnit.role hund, congrArg TimeUnit.domain hund, congrArg TimeUnit.priority1 hund,
    congrArg TimeUnit.priority2 hund, congrArg TimeUnit.clockClass hund, congrArg TimeUnit.clockAccuracy hund,
    congrArg TimeUnit.oslv hund, congrArg TimeUnit.utcOffset hund, congrArg TimeUnit.barId hund, (congrArg TimeUnit.clock hund :)⟩

theorem timeSetPortBody_ok {p : EthPortReq} (hp : p.port.toNat ≤ 1) (hb : ethBad p = false)
    (hc : roleConflict s.time.role (s.ethOnAfter p 0) (s.ethOnAfter p 1) = false) : timeSetPortBody p s = ok (s.setEth p) := by
  simp [timeSetPortBody, checked, firstBad, hb, hc, not_lt.2 hp]

theorem exec_timeSetPort {p : EthPortReq} (hs : Safety.served s h 20 = true) (hf : p.flags.toNat ≤ 31) (hp : p.port.toNat ≤ 1)
    (hb : ethBad p = false) (hc : roleConflict s.time.role (s.ethOnAfter p 0) (s.ethOnAfter p 1) = false) :
    ∃ t, exec (.timeSetPort h p) s = .next t ∧ Safety.AnsweredWith h 0x0D03 0 [] s t ∧ t = { s with host := t.host, time := t.time } ∧
      (t.ethN p.port.toNat).flags = p.flags ∧ (t.ethN p.port.toNat).mac = p.mac ∧ (t.ethN p.port.toNat).ipv4 = p.ipv4 ∧
      (t.ethN p.port.toNat).logSync = p.logSync.toInt ∧ (t.ethN p.port.toNat).logAnnounce = p.logAnnounce.toInt ∧
      (t.ethN p.port.toNat).announceTimeout = p.announceTimeout.toNat ∧
      (∀ q, q ≠ p.port.toNat → (t.ethN q).flags = (s.ethN q).flags) ∧ t.time.clock = s.time.clock ∧ t.time.role = s.time.role := by
  obtain ⟨t, e, ha, ho, ht⟩ := mbCmd_time (c := { op := 0x0D03, len := 20, rsv := 31 < p.flags.toNat }) (i := .timeSetPort h p) hs
    (by simp [hf]) rfl rfl (timeSetPortBody_ok (s := s.mbStart h) hp hb hc)
    (((State.updEth_only _ _ _).step (State.ptpRestart_only _)).mono (by decide))
  have hund := (congrArg TimeUnit.undecided ht).trans (State.ptpRestart_settings _).1
  have hport : ∀ q, (t.ethN q).settings = _ := fun q =>
    (congrArg EthPort.settings (State.ethN_of_time ht q)).trans ((State.ptpRestart_settings _).2 q)
  have hown := (hport p.port.toNat).trans (congrArg EthPort.settings (State.ethN_updEth_same _ _ _))
  have hother : ∀ q, q ≠ p.port.toNat → (t.ethN q).settings = (s.ethN q).settings := fun q hq =>
    (hport q).trans (congrArg EthPort.settings (State.ethN_updEth_ne _ _ hq))
  exact ⟨t, e, ha, ho, congrArg EthPort.flags hown, congrArg EthPort.mac hown, congrArg EthPort.ipv4 hown,
    congrArg EthPort.logSync hown, congrArg EthPort.logAnnounce hown, congrArg EthPort.announceTimeout hown,
    fun q hq => (congrArg EthPort.flags (hother q hq) :), (congrArg TimeUnit.clock hund :), (congrArg TimeUnit.role hund :)⟩

/-- KIND names the Ethernet ports, the Ridge ports or the twin link. -/
theorem asymKind_cases {kind index : Byte} (h : asymBad kind index = false) : kind = 0 ∨ kind = 1 ∨ kind = 2 := by
  unfold asymBad at h
  split at h
  case h_1 h0 => exact .inl (BitVec.eq_of_toNat_eq h0)
  case h_2 h1 => exact .inr (.inl (BitVec.eq_of_toNat_eq h1))
  case h_3 h2 => exact .inr (.inr (BitVec.eq_of_toNat_eq h2))
  case h_4 => cases h

theorem exec_timeSetAsym {kind index : Byte} {ps : BitVec 32} (hs : Safety.served s h 8 = true) (hb : asymBad kind index = false)
    (hps : -1000000 ≤ ps.toInt ∧ ps.toInt ≤ 1000000) :
    ∃ t, exec (.timeSetAsym h kind index 0 ps) s = .next t ∧ Safety.Answered h 0x0D04 0 [] s t ∧
      t = { s with host := t.host, time := t.time } ∧
      t.time = { s.time with
        asymEth := if kind = 0 then s.time.asymEth.set 0 index.toNat ps.toInt else s.time.asymEth,
        asymRidge := if kind = 1 then s.time.asymRidge.set 0 index.toNat ps.toInt else s.time.asymRidge,
        asymTwin := if kind = 2 then ps.toInt else s.time.asymTwin } := by
  have hrange : outI ps.toInt (-1000000) 1000000 = false := by simp [outI, hps.1, hps.2]
  obtain ⟨t, e, ha, ht⟩ := mbCmd_updTime (c := { op := 0x0D04, len := 8, rsv := (0 : BitVec 16) != 0 })
    (i := .timeSetAsym h kind index 0 ps)
    (body := fun s => if asymBad kind index then fail 0x0D02 s else if outI ps.toInt (-1000000) 1000000 then fail 0x0D01 s
      else ok (s.setAsym kind.toNat index.toNat ps.toInt)) hs rfl rfl rfl
    (by rw [hb, hrange, if_neg Bool.false_ne_true, if_neg Bool.false_ne_true]; rfl)
  have htime := congrArg State.time ht
  refine ⟨t, e, ha, ht.trans (by rw [htime]), ?_⟩
  rcases asymKind_cases hb with rfl | rfl | rfl <;> exact htime

end

/-- Settles O25: each setting by what it leaves of the time unit; of PTP's two a restart keeps every setting. A slew in FREERUN goes on
from the new increment (log 81). -/
theorem timeSettingsApply : Obligations.TimeSettingsApply :=
  ⟨fun _ _ _ hs hr hr2 hb => exec_timeSetClock hs hr hr2 hb,
   fun _ _ _ hs hr hrole hdom hbar hc => exec_timeSetPtp hs hr hrole hdom hbar hc,
   fun _ _ _ hs hf hp hb hc => exec_timeSetPort hs hf hp hb hc,
   fun _ _ _ _ _ hs hb hps => exec_timeSetAsym hs hb hps⟩

end Sys2Proof.Machine

namespace Sys2Proof.Machine

/-! ## Corrections of the clock

A step moves every held timestamp along and resyncs the Ridge ports in UP, a slew changes the increment; neither reaches the RTC (R290,
R298). -/

/-- The time unit but for what a correction changes. -/
def TimeUnit.uncorrected (t : TimeUnit) : TimeUnit := { t with clock := {}, inc := 0, steps := 0, slew := 0, port := [] }

/-- What a step of the clock touches outside the time unit: timestamps, and ports that resync. -/
def stepParts : List Part :=
  [.enc, .est, .trig, .cam, .axis, .lines, .lastOwn, .lastNoz, .fireEdges, .checks, .port, .twin, .alert, .pages, .reports, .fire,
    .health, .log, .loop, .speedLimit]

section
variable (s : State)

theorem State.shiftBatten_only (d : Int) : Only [.lines, .lastOwn, .lastNoz, .fireEdges, .checks] s (s.updBat (Batten.shiftT d)) :=
  .of_eq rfl (by decide)

theorem State.updTime_uncorrected {f : TimeUnit → TimeUnit} (hf : ∀ t, (f t).uncorrected = t.uncorrected) :
    (s.updTime f).time.uncorrected = s.time.uncorrected := hf s.time

theorem State.stepClock_spec (d : Int) : Only (.time :: stepParts) s (s.stepClock d) ∧
    (s.stepClock d).time.uncorrected = s.time.uncorrected := by
  unfold State.stepClock
  extract_lets s1 s2 s3 s4 s5 s6 s7 s8 s9
  have h1 : Only [.time] s s1 := s.updTime_only _
  have h2 : Only stepParts s1 s2 := .foldl (fun t n => (t.updEnc_only n _).mono (by decide)) _ _
  have h3 : Only stepParts s2 s3 := ((s2.updEst_only _).mono (by decide)).trans
    (.foldl (fun t n => .ite (.refl t) ((t.updTrig_only n _).mono (by decide))) _ _)
  have h4 : Only stepParts s3 s4 := .foldl (fun t n => (t.updCam_only n _).mono (by decide)) _ _
  have h5 : Only stepParts s4 s5 := .foldl (fun t n => (t.updAxis_only n _).mono (by decide)) _ _
  have h6 : Only stepParts s5 s6 := ((s5.shiftBatten_only d).step (State.updPorts_only _ _)).mono (by decide)
  have h7 : Only stepParts s6 s7 := (s6.updTwin_only _).mono (by decide)
  have hshift : Only stepParts s1 s7 := ((((h2.trans h3).trans h4).trans h5).trans h6).trans h7
  have h8 : Only [.time] s7 s8 := s7.updTime_only _
  have hresync : Only stepParts s8
      ((List.range 48).foldl (fun t p => if (t.portN p).st = .up then t.resyncPort p rowForced else t) s9) :=
    ((s8.raise_only .time 1).mono (by decide)).trans
      (.foldl (fun t p => .ite ((t.resyncPort_only p rowForced).mono (by decide)) (.refl t)) _ _)
  have htime1 : s1.time.uncorrected = s.time.uncorrected := s.updTime_uncorrected fun _ => rfl
  have htime8 : s8.time.uncorrected = s7.time.uncorrected := s7.updTime_uncorrected fun _ => rfl
  refine ⟨(((h1.step hshift).step h8).step hresync).mono (by decide), ?_⟩
  have hmid : s7.time = s1.time := hshift .time (by decide)
  calc _ = s8.time.uncorrected := congrArg TimeUnit.uncorrected (hresync .time (by decide))
    _ = s1.time.uncorrected := by rw [htime8, hmid]
    _ = s.time.uncorrected := htime1

/-- A correction in FREERUN is a step or a slew. -/
theorem State.correctFree_spec (d : Int) : Only (.time :: stepParts) s (s.correctFree d) ∧
    (s.correctFree d).time.uncorrected = s.time.uncorrected := by
  unfold State.correctFree
  split
  · exact ⟨.refl s, rfl⟩
  · split
    · exact s.stepClock_spec d
    · exact ⟨(s.updTime_only _).mono (by decide), rfl⟩

end

/-! ## TIME_GET_STATUS, TIME_GET_TIME, TIME_SET_CALENDAR -/

section
variable {s : State} {h : MbHdr}

theorem exec_timeGetStatus (hs : Safety.served s h 0 = true) :
    ∃ t, exec (.timeGetStatus h) s = .next t ∧ Safety.Answered h 0x0D05 0 s.timeBytes s t ∧ t = { s with host := t.host } :=
  mbCmd_answer hs rfl rfl rfl rfl

theorem exec_timeGetTime (hs : Safety.served s h 0 = true) :
    ∃ t, exec (.timeGetTime h) s = .next t ∧
      Safety.Answered h 0x0D06 0 (s.time.clock.bytes ++ le 8 s.calendar64 ++ le 1 s.time.calValid.toNat ++ zeros 3) s t ∧
      t = { s with host := t.host } :=
  mbCmd_answer hs rfl rfl rfl rfl

/-- The time unit whose RTC has taken a calendar time. -/
def TimeUnit.rtcAt (sec : BitVec 48) (frac : BitVec 16) (t : TimeUnit) : TimeUnit :=
  { t with calSec := sec, calFrac := frac, calTick := t.ticks, calValid := true }

theorem State.setCalendar_of_not_freerun {sec : BitVec 48} {frac : BitVec 16} (h : s.time.st ≠ .freerun) :
    s.setCalendar sec frac = s.updTime (TimeUnit.rtcAt sec frac) := if_neg h

/-- In FREERUN the local clock follows by a correction. -/
theorem State.setCalendar_freerun {sec : BitVec 48} {frac : BitVec 16} (h : s.time.st = .freerun) :
    ∃ d, s.setCalendar sec frac = (s.updTime (TimeUnit.rtcAt sec frac)).correctFree d := ⟨_, if_pos h⟩

theorem State.ptpOwns_freerun (h : s.time.st = .freerun) : s.ptpOwns = false := by
  rw [State.ptpOwns, h]
  rfl

/-- TIME_SET_CALENDAR's rules while the network does not discipline the RTC (R298). -/
theorem timeSetCalendarBody_ok {sec : BitVec 48} {frac : BitVec 16} (h : s.ptpOwns = false) :
    (if s.ptpOwns then fail 0x0D03 s else ok (s.setCalendar sec frac)) = ok (s.setCalendar sec frac) := by
  rw [h, if_neg Bool.false_ne_true]

theorem exec_timeSetCalendar {sec : BitVec 48} {frac : BitVec 16} (hs : Safety.served s h 8 = true) (hp : s.ptpOwns = false)
    (hst : s.time.st ≠ .freerun) :
    ∃ t, exec (.timeSetCalendar h sec frac) s = .next t ∧ Safety.Answered h 0x0D07 0 [] s t ∧
      t = { s with host := t.host,
                   time := { s.time with calSec := sec, calFrac := frac, calTick := s.time.ticks, calValid := true } } :=
  mbCmd_updTime (c := { op := 0x0D07, len := 8 }) (i := .timeSetCalendar h sec frac)
    (body := fun s => if s.ptpOwns then fail 0x0D03 s else ok (s.setCalendar sec frac)) (f := TimeUnit.rtcAt sec frac) hs rfl rfl rfl
    ((timeSetCalendarBody_ok (s := s.mbStart h) hp).trans (congrArg ok (State.setCalendar_of_not_freerun (s := s.mbStart h) hst)))

/-- A slot that answered holds its response, and its done bit is set. -/
theorem completed_of_answeredWith {op st : Nat} {p : List Byte} {t : State} (ha : Safety.AnsweredWith h op st p s t) :
    Safety.Completed h op st p t := by
  obtain ⟨al, pba, sent, ht⟩ := ha
  have hresp : t.host.resp = _ := congrArg HostIf.resp ht
  have hdone : t.host.done = s.host.done ||| slotBit h.slot := congrArg HostIf.done ht
  refine ⟨by rw [hresp, SMap.get_set_same], ?_⟩
  rw [hdone]
  ext i hi
  cases hb : (slotBit h.slot)[i] <;> simp [hb]

theorem exec_timeSetCalendar_freerun {sec : BitVec 48} {frac : BitVec 16} (hs : Safety.served s h 8 = true)
    (hst : s.time.st = .freerun) :
    ∃ t, exec (.timeSetCalendar h sec frac) s = .next t ∧ Safety.Completed h 0x0D07 0 [] t ∧
      t.time.calSec = sec ∧ t.time.calFrac = frac ∧ t.time.calTick = s.time.ticks ∧ t.time.calValid = true ∧
      t.cal = s.cal ∧ t.nvm = s.nvm ∧ t.dram = s.dram ∧ t.dma = s.dma ∧ t.pwr = s.pwr ∧ t.geo = s.geo := by
  obtain ⟨d, hd⟩ := State.setCalendar_freerun (s := s.mbStart h) (sec := sec) (frac := frac) hst
  obtain ⟨hcorrect, hkept⟩ := ((s.mbStart h).updTime (TimeUnit.rtcAt sec frac)).correctFree_spec d
  obtain ⟨t, e, ha, -, ho, ht⟩ := mbCmd_done_only (c := { op := 0x0D07, len := 8 }) (i := .timeSetCalendar h sec frac)
    (body := fun s => if s.ptpOwns then fail 0x0D03 s else ok (s.setCalendar sec frac)) hs rfl rfl rfl
    ((timeSetCalendarBody_ok (s := s.mbStart h) (State.ptpOwns_freerun hst)).trans (congrArg ok hd))
    (((s.mbStart h).updTime_only _).step hcorrect) (by decide)
  have htime : t.time.uncorrected = (s.time.rtcAt sec frac).uncorrected :=
    (congrArg (fun t : State => t.time.uncorrected) ht :).trans hkept
  exact ⟨t, e, completed_of_answeredWith ha, (congrArg TimeUnit.calSec htime :), (congrArg TimeUnit.calFrac htime :),
    (congrArg TimeUnit.calTick htime :), (congrArg TimeUnit.calValid htime :), ho .cal (by decide), ho .nvm (by decide),
    ho .dram (by decide), ho .dma (by decide), ho .pwr (by decide), ho .geo (by decide)⟩

/-! ## Press messages sent and read -/

theorem exec_timeSetPress {flags : Byte} {group : BitVec 32} {mask : BitVec 64} (hs : Safety.served s h 16 = true)
    (hf : flags.toNat ≤ 7) :
    ∃ t, exec (.timeSetPress h flags 0 group mask) s = .next t ∧ Safety.Answered h 0x0D08 0 [] s t ∧
      t = { s with host := t.host, time := { s.time with pressFlags := flags, pressGroup := group, rxMask := mask } } :=
  mbCmd_updTime (c := { op := 0x0D08, len := 16, rsv := 7 < flags.toNat || (0 : BitVec 24) != 0 })
    (f := fun t => { t with pressFlags := flags, pressGroup := group, rxMask := mask }) hs (by simp [hf]) rfl rfl rfl

theorem exec_timeSendStop (hs : Safety.served s h 0 = true) :
    ∃ t, exec (.timeSendStop h) s = .next t ∧ Safety.Answered h 0x0D09 0 [] s t ∧
      t = { s with host := t.host, time := { s.time with
        pressSeq := s.time.pressSeq + 1,
        ethTx := s.time.ethTx ++ ([0, 1].filter fun p => (s.ethN p).flags.getLsbD 4).map fun p =>
            .press p s.time.pressGroup 47360 (s.pressBytes 2 2 0 0 0 0) } } := by
  obtain ⟨t, e, ha, -, ht⟩ := mbCmd_done_answered (c := { op := 0x0D09, len := 0 }) (i := .timeSendStop h)
    (body := fun s => ok (s.pressSend 2 2 0 0 0 0)) hs rfl rfl rfl rfl ((s.mbStart h).pressSend_only _ _ _ _ _ _) (by decide)
  exact ⟨t, e, ha, ht⟩

theorem exec_timeGetPress {count : Byte} (hs : Safety.served s h 4 = true) (h1 : 1 ≤ count.toNat) (h16 : count.toNat ≤ 16) :
    ∃ t, exec (.timeGetPress h count 0) s = .next t ∧ Safety.Answered h 0x0D0A 0 (s.time.pressNewest count.toNat) s t ∧
      t = { s with host := t.host } := by
  have hne : count ≠ 0 := fun h0 => absurd (h0 ▸ h1) (by decide)
  exact mbCmd_answer (c := { op := 0x0D0A, len := 4, rsv := (0 : BitVec 24) != 0, zero := count == 0 })
    (body := fun s => if 16 < count.toNat then fail 0x0D01 s else okWith (s.time.pressNewest count.toNat) s) hs rfl
    (beq_eq_false_iff_ne.2 hne) rfl (if_neg (not_lt.2 h16))

end

/-- Settles O26: the reports and settings by their answers; in FREERUN a correction of the local clock leaves what the RTC has taken. The
16 bytes of local time are those of log 19. -/
theorem timeCommandsRun : Obligations.TimeCommandsRun :=
  ⟨fun _ _ hs => exec_timeGetStatus hs,
   fun _ _ hs => exec_timeGetTime hs,
   fun _ _ _ _ hs hp hst => exec_timeSetCalendar hs hp hst,
   fun _ _ _ _ hs hst => exec_timeSetCalendar_freerun hs hst,
   fun _ _ _ _ _ hs hf => exec_timeSetPress hs hf,
   fun _ _ hs => exec_timeSendStop hs,
   fun _ _ _ hs h1 h16 => exec_timeGetPress hs h1 h16⟩

end Sys2Proof.Machine

namespace Sys2Proof.Machine

/-! ## Alert bits rise

Only the host clears an alert bit (R342): whatever else an operation does, a bit that stood before it stands after it. -/

/-- Every alert bit that stands in `s` stands in `t`. -/
def Rises (s t : State) : Prop := ∀ r n, Safety.Raised r n s → Safety.Raised r n t

theorem Rises.refl (s : State) : Rises s s := fun _ _ h => h

theorem Rises.trans {s t u : State} (h1 : Rises s t) (h2 : Rises t u) : Rises s u := fun r n h => h2 r n (h1 r n h)

theorem Rises.ite {c : Prop} [Decidable c] {s t u : State} (h1 : Rises s t) (h2 : Rises s u) : Rises s (if c then t else u) := by
  split <;> assumption

theorem Rises.foldl {α : Type} {g : State → α → State} (h : ∀ t x, Rises t (g t x)) (l : List α) (s : State) :
    Rises s (l.foldl g s) := by
  induction l generalizing s with
  | nil => exact .refl s
  | cons x l ih => exact (h s x).trans (ih (g s x))

/-- What does not touch the alert bits leaves those that stand. -/
theorem Only.rises {ps : List Part} {s t : State} (h : Only ps s t) (hn : .alert ∉ ps) : Rises s t :=
  fun _ _ => raised_of_alert (h .alert hn)

section
variable (s : State)

theorem State.raise_rises (r : AlertReg) (n : Nat) : Rises s (s.raise r n) := fun _ _ => State.raised_raise_of_raised

theorem State.logEvent_rises (code inst data : Nat) : Rises s (s.logEvent code inst data) := fun _ _ => State.raised_logEvent _ _ _

theorem State.updBat_rises (f : Batten → Batten) : Rises s (s.updBat f) := fun _ _ h => h

theorem State.speedCheck_rises : Rises s s.speedCheck := by
  unfold State.speedCheck
  split
  · exact s.updBat_rises _
  · exact .ite ((s.updBat_rises _).trans (State.raise_rises _ _ _)) (.ite (s.updBat_rises _) (.refl s))

theorem State.castleTry_rises : Rises s s.castleTry := by
  refine .ite ?_ (.refl s)
  unfold State.handLead
  extract_lets s1 s2
  have h2 : Rises s s2 := ((s.updTwin_only _).trans (s1.twinSend_only _)).rises (by decide)
  exact h2.trans fun _ _ h => State.raised_roleEvent _ (raised_of_alert rfl h)

theorem State.thatchWrite_rises (t : Thatch) : Rises s (s.thatchWrite t) := by
  unfold State.thatchWrite
  have h1 := fun med => State.thatchEntries_only t med (fun l e => e :: l) (List.range s.barColumns) ([], s)
  exact (((h1 _).step (State.updDram_only _ _)).rises (by decide)).trans (State.raise_rises _ _ _)

theorem State.thatchDone_rises : Rises s s.thatchDone := by
  unfold State.thatchDone
  exact Rises.trans (.ite (.refl s) ((s.updVis_only _).rises (by decide))) (.foldl (fun t x => t.thatchWrite_rises x) _ _)

theorem State.completeReport_rises (h : Nat) (r : Report) : Rises s (s.completeReport h r) := by
  unfold State.completeReport
  extract_lets s1 s2
  have h2 : Rises s s2 := (s.updBat_rises _).trans (s1.logEvent_rises _ _ _)
  exact .ite h2 (h2.trans (s2.raise_rises _ _))

theorem State.completeMirrored_rises (h : Nat) (r : Report) : Rises s (s.completeMirrored h r) := by
  unfold State.completeMirrored
  exact (((s.updTwin_only _).rises (by decide)).trans (State.completeReport_rises _ h r)).trans
    ((State.mirrorSend_only _ _).rises (by decide))

theorem State.completeCombined_rises (h : Nat) (pm : PeerMark) (r : Report) : Rises s (s.completeCombined h pm r) :=
  ((s.updTwin_only _).rises (by decide)).trans (State.completeReport_rises _ h _)

theorem State.leavePage_rises (next : Nat) (pg : Page) : Rises s (s.leavePage next pg) := by
  unfold State.leavePage
  extract_lets h s1 s2 s3 s4 r m s5 s6 s7
  have h4 : Rises s s4 := fun _ _ hr => hr
  have h5 : Rises s4 s5 := by
    have hm : Rises s4 m := (s4.mirrorSend_only _).rises (by decide)
    unfold s5
    split
    · split
      · exact s4.completeMirrored_rises _ _
      · exact s4.updBat_rises _
    · split
      · split
        · exact hm.trans (m.completeCombined_rises _ _ _)
        · exact hm.trans (m.updBat_rises _)
      · exact s4.completeReport_rises _ _
  have h6 : Rises s5 s6 := (s5.switchUnfired_only h).rises (by decide)
  have h7 : Rises s6 s7 := by
    unfold s7
    split
    · exact .ite ((s6.freeMirrored_only _).rises (by decide)) (.refl s6)
    · exact .refl s6
  exact (((((h4.trans h5).trans h6).trans h7).trans s7.thatchDone_rises).trans (State.castleTry_rises _)).trans
    (State.speedCheck_rises _)

theorem State.endPage_rises (mark k : Nat) : Rises s (s.endPage mark k) := by
  unfold State.endPage
  split
  case h_1 => exact .refl s
  case h_2 pg _ =>
    extract_lets next first s1 s2
    have h1 : Rises s s1 :=
      (Only.foldl (g := fun t l => t.ceaseLine false l) (fun t l => t.ceaseLine_only false l) _ s).rises (by decide)
    have h2 : Rises s s2 := h1.trans ((s1.markPage_only _ _ _ _).rises (by decide))
    split
    · exact h2.trans (s2.leavePage_rises _ _)
    · exact h2

/-- A fall of FIRE_PERMIT with a cause other than the interlocks tells the press nothing, and leaves the time unit (R300, R301). -/
theorem State.dropPermit_spec {cause : Nat} (hc : cause ≠ 1) : Rises s (s.dropPermit cause) ∧
    (s.dropPermit cause).time = s.time := by
  unfold State.dropPermit
  split
  case isTrue => exact ⟨.refl s, rfl⟩
  case isFalse =>
    extract_lets any s1 s2 s3 s4
    rw [if_neg (by simp [hc])]
    have h2 : s2.time = s1.time := foldl_keep State.time _ (fun t k => t.endPage_only 7 k .time (by decide)) _ _
    have h3 : Only [.alert] s2 s3 := .ite (s2.raise_only _ _) (.refl s2)
    have h4 : Only [.port] s3 s4 := .foldl (fun t p => t.closeGap_only p) _ _
    have r2 : Rises s1 s2 := .foldl (fun t k => t.endPage_rises 7 k) _ _
    have r3 : Rises s2 s3 := .ite (s2.raise_rises _ _) (.refl s2)
    have htime : s4.time = s2.time := (h3.step h4) .time (by decide)
    exact ⟨((((s.updFire_only _).rises (by decide)).trans r2).trans r3).trans (h4.rises (by decide)), htime.trans h2⟩

end

/-! ## PTP messages -/

section
variable {s u : State} {f : State → State}

/-- An event that changes the time unit and may raise alerts. -/
theorem evt_time_alerted (ha : s.alive = true) (hf : f s = u) (ho : Only [.time, .alert] s u) :
    ∃ t, evt f s = .next t ∧ Safety.Alerted s t ∧ t = { s with host := t.host, time := t.time } ∧ t.time = u.time := by
  subst hf
  obtain ⟨t, hx, halerted, -, hfr, hsent⟩ := evt_only ha ho (by decide)
  exact ⟨t, hx, halerted, (hfr.mono (qs := [.host, .alert, .time]) (by decide)).eq_patch, hsent .time (by decide)⟩

/-- An event that changes the time unit alone. -/
theorem evt_time (ha : s.alive = true) (hf : f s = u) (ho : Only [.time] s u) :
    ∃ t, evt f s = .next t ∧ Safety.Quiet s t ∧ t = { s with host := t.host, time := t.time } ∧ t.time = u.time := by
  subst hf
  obtain ⟨t, hx, -, hquiet, hfr, hsent⟩ := evt_only ha ho (by decide)
  exact ⟨t, hx, hquiet (by decide), (hfr.mono (qs := [.host, .alert, .time]) (by decide)).eq_patch, hsent .time (by decide)⟩

/-- An event with a known effect on the time unit. -/
theorem evt_updTime {g : TimeUnit → TimeUnit} (ha : s.alive = true) (hf : f s = s.updTime g) :
    ∃ t, evt f s = .next t ∧ Safety.Quiet s t ∧ t = { s with host := t.host, time := g s.time } :=
  evt_quiet ha hf (s.updTime_only g) (by decide)

/-- A frame that is discarded is counted, and no more. -/
theorem evt_ethDiscard (ha : s.alive = true) (hf : f s = s.ethDiscard) :
    ∃ t, evt f s = .next t ∧ Safety.Quiet s t ∧
      t = { s with host := t.host, time := { s.time with discarded := s.time.discarded + 1 } } :=
  evt_updTime ha hf

/-! ### Sync -/

/-- The servo has taken an offset. -/
def TimeUnit.offsetTaken (offset : Int) (t : TimeUnit) : TimeUnit := { t with offsetNs := offset, integral := t.integral + offset }

/-- The offset is slewed away (R290). -/
def TimeUnit.slewed (offset : Int) (t : TimeUnit) : TimeUnit := (t.offsetTaken offset).slewTo (t.offsetTaken offset).servoPpb

/-- What a Sync leaves of the time unit in LOCKED without steps: a slew, and the increment remembered (R294). -/
def TimeUnit.followed (offset : Int) (t : TimeUnit) : TimeUnit :=
  TimeUnit.remember { t.slewed offset with lockRun := if offset.natAbs < t.lockNs then t.lockRun + 1 else 0 }

/-- Without STEP_EN the servo slews. -/
theorem State.servo_slews (hstep : s.time.stepEn = false) (offset : Int) : s.servo offset = s.updTime (TimeUnit.slewed offset) := by
  unfold State.servo
  extract_lets d s1
  have hen : s1.time.stepEn = false := hstep
  have hmay : s1.mayStep d = false := by
    rw [State.mayStep, hen]
    rfl
  rw [hmay, hen, Bool.false_and, if_neg Bool.false_ne_true, if_neg Bool.false_ne_true]
  rfl

theorem State.syncOffset_locked (hst : s.time.st = .locked) (hstep : s.time.stepEn = false) (offset : Int) :
    s.syncOffset offset = s.updTime (TimeUnit.followed offset) := by
  unfold State.syncOffset
  extract_lets s1 s2 s3 s4
  have h1 : s1 = s := if_neg (by simp [hst])
  have h2 : s2 = _ := (congrArg (State.servo offset) h1).trans (State.servo_slews hstep offset)
  have hst3 : s3.time.st = .locked := by
    simp only [s3, h2]
    exact hst
  have h4 : s4 = s3 := if_neg (by simp [hst3])
  rw [h4, if_pos hst3]
  simp only [s3, h2]
  rfl

theorem exec_ptpSyncRx {p : Nat} {d : Byte} {o i c : Int} (ha : s.alive = true) (ht : s.ptpTakes p d = true)
    (hsl : (s.ethN p).st = .slave) (hst : s.time.st = .locked) (hstep : s.time.stepEn = false) :
    ∃ t, exec (.ptpSyncRx p d o i c) s = .next t ∧ Safety.Quiet s t ∧ t = { s with host := t.host, time := t.time } ∧
      t.time.offsetNs = s.syncError p o i c ∧ t.time.st = .locked ∧ t.time.clock = s.time.clock := by
  obtain ⟨t, hx, hq, ho, htime⟩ := evt_time
    (f := fun s => if !s.ptpTakes p d then s.ethDiscard
      else if (s.ethN p).st != .slave || s.time.st == .steered then s
      else (s.syncOffset (s.syncError p o i c)).updEth p fun q =>
        { q with syncDiff := some (i - q.ingressLatNs - o - c) })
    (u := (s.updTime (TimeUnit.followed (s.syncError p o i c))).updEth p fun q =>
      { q with syncDiff := some (i - q.ingressLatNs - o - c) }) ha
    (by simp only [ht, hsl, hst, State.syncOffset_locked hst hstep, Bool.not_true, Bool.false_eq_true, if_false,
          show (PtpSt.slave != PtpSt.slave || ClockSt.locked == ClockSt.steered) = false from rfl])
    ((s.updTime_only _).trans (State.updEth_only _ _ _))
  refine ⟨t, hx, hq, ho, ?_, ?_, ?_⟩ <;> rw [htime]
  · rfl
  · exact hst
  · rfl

theorem exec_ptpSyncRx_discarded {p : Nat} {d : Byte} {o i c : Int} (ha : s.alive = true) (ht : s.ptpTakes p d = false) :
    ∃ t, exec (.ptpSyncRx p d o i c) s = .next t ∧ Safety.Quiet s t ∧
      t = { s with host := t.host, time := { s.time with discarded := s.time.discarded + 1 } } :=
  evt_ethDiscard (f := fun s => if !s.ptpTakes p d then s.ethDiscard else _) ha (if_pos (by rw [ht]; rfl))

/-! ### Announce -/

theorem exec_ptpAnnounceRx {p : Nat} {m : AnnounceMsg} (ha : s.alive = true) (ht : s.ptpTakes p m.domain = true)
    (hb : (s.ethN p).best = none) :
    ∃ t, exec (.ptpAnnounceRx p m) s = .next t ∧ Safety.Alerted s t ∧ t = { s with host := t.host, time := t.time } ∧
      (t.ethN p).best = some m ∧ t.time.clock = s.time.clock := by
  let hear : EthPort → EthPort := fun q => { q with best := match q.best with
    | some b => if b.senderIdentity = m.senderIdentity ∨ gmBetter m b then some m else some b
    | none => some m }
  obtain ⟨t, hx, hal, ho, htime⟩ := evt_time_alerted
    (f := fun s => if !s.ptpTakes p m.domain then s.ethDiscard else (s.updEth p hear).bmca) ha (if_neg (by simp [ht]))
    (((s.updEth_only p hear).step (State.bmca_only _)).mono (by decide))
  have hport : (t.ethN p).best = ((s.updEth p hear).ethN p).best :=
    by
    rw [State.ethN_of_time htime, State.bmca_ethN]
  have hund : t.time.undecided = s.time.undecided := (congrArg TimeUnit.undecided htime).trans (State.bmca_undecided _)
  refine ⟨t, hx, hal, ho, ?_, (congrArg TimeUnit.clock hund :)⟩
  rw [hport, State.ethN_updEth_same]
  simp only [hear, hb]

/-- The best announced clock stands on its port. -/
theorem State.ebest_heard {e : Nat} {m : AnnounceMsg} (h : s.ebest = some (e, m)) : (s.ethN e).best = some m := by
  refine List.foldlRecOn (motive := fun b => ∀ e m, b = some (e, m) → (s.ethN e).best = some m) _ _
    (fun _ _ hn => (Option.some_ne_none _ hn.symm).elim) (fun b ih p _ e m hb => ?_) e m h
  split at hb
  case h_1 n q k hp =>
    split at hb
    · cases hb; exact hp
    · cases hb; exact ih _ _ rfl
  case h_2 n hp => cases hb; exact hp
  case h_3 => exact ih _ _ hb

/-- A port that has heard no master is not SLAVE. -/
theorem State.portDecision_ne_slave {p : Nat} (h : (s.ethN p).best = none) : s.portDecision p ≠ .slave := by
  unfold State.portDecision
  extract_lets own q
  have hq : q.best = none := h
  split
  · simp
  · split
    · simp
    · split
      · rw [hq]; simp
      · split
        case h_1 => simp
        case h_2 e m he =>
          have hpe : p ≠ e := by
            rintro rfl
            rw [State.ebest_heard he] at h
            cases h
          rw [if_neg hpe, hq]
          split <;> simp

theorem exec_announceTimeout {p : Nat} (ha : s.alive = true) (hp : s.ptpOn p = true) :
    ∃ t, exec (.announceTimeout p) s = .next t ∧ Safety.Alerted s t ∧ t = { s with host := t.host, time := t.time } ∧
      (t.ethN p).best = none ∧ (t.ethN p).st ≠ .slave ∧ ((s.ethN p).st = .slave → s.time.st = .locked → t.time.st = .holdover) := by
  let v := if (s.ethN p).st == .slave then s.loseMaster else s
  let u := v.updEth p fun q => { q with best := none, st := .master }
  have hv : Only [.time, .alert] s v := .ite s.loseMaster_only (.refl s)
  obtain ⟨t, hx, hal, ho, htime⟩ := evt_time_alerted (u := u.bmca)
    (f := fun s => if !s.ptpOn p then s else
      let s := if (s.ethN p).st == .slave then s.loseMaster else s
      (s.updEth p fun q => { q with best := none, st := .master }).bmca) ha (if_neg (by simp [hp]))
    (((hv.step (v.updEth_only p _)).step u.bmca_only).mono (by decide))
  have hlt : p < 2 := by
    simp only [State.ptpOn, Bool.and_eq_true, decide_eq_true_eq] at hp
    exact hp.1.2
  have hbest : (u.ethN p).best = none := congrArg EthPort.best (v.ethN_updEth_same p _)
  have hport : t.ethN p = { u.ethN p with st := u.portDecision p } := by
    rw [State.ethN_of_time htime p, State.bmca_ethN, if_pos hlt]
  refine ⟨t, hx, hal, ho, by rw [hport, hbest], by rw [hport]; exact State.portDecision_ne_slave hbest, fun hsl hst => ?_⟩
  have hhold : v.time.st = .holdover := by
    simp only [v, hsl, beq_self_eq_true, if_true]
    exact State.loseMaster_locked hst
  rw [htime]
  exact State.bmca_holdover (s := u) hhold

/-! ### Path delay -/

/-- A port whose outstanding request has given the path delay. -/
def EthPort.measured (path : Int) (q : EthPort) : EthPort := { q with reqNs := none, pathNs := path }

/-- The clock follows the path delay of its SLAVE port. -/
theorem State.delayDone_eq (s : State) (p : Nat) (path : Int) :
    s.delayDone p path = s.updTime fun t => { t with
      port := t.port.upd {} p (EthPort.measured path), pathNs := if s.slavePort = some p then path else t.pathNs } := by
  have hst : ∀ q, ((s.updEth p (EthPort.measured path)).ethN q).st = (s.ethN q).st :=
    s.ethN_updEth_keep EthPort.st (f := EthPort.measured path) (fun _ => rfl) p
  have hslave : (s.updEth p (EthPort.measured path)).slavePort = s.slavePort := by simp only [State.slavePort, hst]
  change (if (s.updEth p (EthPort.measured path)).slavePort = some p then _ else _) = _
  rw [hslave]
  by_cases h : s.slavePort = some p
  · simp only [h, if_true]; rfl
  · simp only [h, if_false]; rfl

/-- The path delay that a response gives while a request is outstanding and a Sync has come. -/
theorem EthPort.pathOf_some {r : DelayResp} {q : EthPort} {tx x : Int} (hreq : q.reqNs = some tx) (hsync : q.syncDiff = some x) :
    q.pathOf r = some ((if r.peer = true then r.ingressNs - q.ingressLatNs - (r.responseTxNs - r.requestRxNs) - r.correctionNs - tx
      else x + (r.requestRxNs - tx - r.correctionNs)) / 2) := by
  simp only [EthPort.pathOf, hreq, hsync]

theorem exec_ptpDelayRespRx {p : Nat} {d : Byte} {r : DelayResp} {tx x : Int} (ha : s.alive = true) (ht : s.ptpTakes p d = true)
    (hpeer : r.peer = (s.ethN p).flags.getLsbD 2) (hreq : (s.ethN p).reqNs = some tx) (hsync : (s.ethN p).syncDiff = some x) :
    ∃ t, exec (.ptpDelayRespRx p d r) s = .next t ∧ Safety.Quiet s t ∧ t = { s with host := t.host, time := t.time } ∧
      t.ethN p = { s.ethN p with reqNs := none, pathNs := (if r.peer = true then
          r.ingressNs - (s.ethN p).ingressLatNs - (r.responseTxNs - r.requestRxNs) - r.correctionNs - tx
        else x + (r.requestRxNs - tx - r.correctionNs)) / 2 } ∧
      t.time = { s.time with port := t.time.port, pathNs := t.time.pathNs } ∧
      (s.slavePort = some p → t.time.pathNs = (t.ethN p).pathNs) ∧ (s.slavePort ≠ some p → t.time.pathNs = s.time.pathNs) ∧
      ∀ q, q ≠ p → t.ethN q = s.ethN q := by
  let path := (if r.peer = true then r.ingressNs - (s.ethN p).ingressLatNs - (r.responseTxNs - r.requestRxNs) - r.correctionNs - tx
    else x + (r.requestRxNs - tx - r.correctionNs)) / 2
  have hsame : ((s.ethN p).peer != r.peer) = false := by simp [EthPort.peer, hpeer]
  obtain ⟨t, hx, hq, ho, htime⟩ := evt_time (u := s.delayDone p path)
    (f := fun s => if !s.ptpTakes p d || (s.ethN p).peer != r.peer then s.ethDiscard
      else match (s.ethN p).pathOf r with
        | some d => s.delayDone p d
        | none => s) ha
    (by simp only [ht, hsame, EthPort.pathOf_some hreq hsync, Bool.not_true, Bool.or_self, Bool.false_eq_true, if_false]; rfl)
    (by rw [State.delayDone_eq]; exact s.updTime_only _)
  rw [State.delayDone_eq] at htime
  have hport : ∀ q, t.ethN q = (s.updEth p (EthPort.measured path)).ethN q := fun q => by rw [State.ethN, htime]; rfl
  have hown : t.ethN p = (s.ethN p).measured path := (hport p).trans (s.ethN_updEth_same p _)
  refine ⟨t, hx, hq, ho, hown, by rw [htime]; rfl, fun hsl => ?_, fun hsl => ?_, fun q hne => ?_⟩
  · rw [hown, htime]
    exact if_pos hsl
  · rw [htime]
    exact if_neg hsl
  · rw [hport, State.ethN_updEth_ne _ _ hne]

theorem exec_ptpDelayReqRx {p : Nat} {d : Byte} {r : DelayReq} (ha : s.alive = true) (ht : s.ptpTakes p d = true)
    (hr : r.peer = false) (hpeer : (s.ethN p).flags.getLsbD 2 = false) (hst : (s.ethN p).st = .master) :
    ∃ t, exec (.ptpDelayReqRx p d r) s = .next t ∧ Safety.Quiet s t ∧
      t = { s with host := t.host, time := { s.time with ethTx := s.time.ethTx ++ [.ptp p ((s.ethN p).flags.getLsbD 1)
        (ptpDest ((s.ethN p).flags.getLsbD 1) false) (.delayResp r.requester (r.ingressNs - (s.ethN p).ingressLatNs))] } } := by
  have hsame : ((s.ethN p).peer != false) = false := by rw [EthPort.peer, hpeer]; rfl
  refine evt_updTime (f := fun s => if !s.ptpTakes p d || (s.ethN p).peer != r.peer then s.ethDiscard
      else if (s.ethN p).st == .master || r.peer then
        s.delayAnswer p r.peer r.requester (r.ingressNs - (s.ethN p).ingressLatNs)
      else s)
    (g := fun t => { t with ethTx := t.ethTx ++ [.ptp p ((s.ethN p).flags.getLsbD 1)
      (ptpDest ((s.ethN p).flags.getLsbD 1) false) (.delayResp r.requester (r.ingressNs - (s.ethN p).ingressLatNs))] }) ha ?_
  simp only [ht, hsame, hst, hr, Bool.not_true, Bool.or_self, Bool.false_eq_true, if_false, beq_self_eq_true, Bool.true_or, if_true]
  rfl

/-- A request of the other delay mechanism is discarded. -/
theorem exec_ptpDelayReqRx_other {p : Nat} {d : Byte} {r : DelayReq} (ha : s.alive = true)
    (hpeer : r.peer ≠ (s.ethN p).flags.getLsbD 2) :
    ∃ t, exec (.ptpDelayReqRx p d r) s = .next t ∧ Safety.Quiet s t ∧
      t = { s with host := t.host, time := { s.time with discarded := s.time.discarded + 1 } } := by
  have hother : ((s.ethN p).peer != r.peer) = true := bne_iff_ne.2 (Ne.symm hpeer)
  exact evt_ethDiscard (f := fun s => if !s.ptpTakes p d || (s.ethN p).peer != r.peer then s.ethDiscard else _) ha
    (if_pos (by rw [hother, Bool.or_true]))

/-! ### Messages sent -/

theorem State.ptpPut_only (s : State) (p : Nat) (ms : List PtpOut) : Only [.time] s (s.ptpPut p ms) := by
  unfold State.ptpPut
  exact s.updTime_only _

theorem State.ptpMessages_ne_nil (s : State) (p : Nat) (k : PtpKind) : s.ptpMessages p k ≠ [] := by
  cases k <;> simp only [State.ptpMessages]
  case announce => simp
  all_goals split <;> simp

theorem exec_ptpMessageSend {p : Nat} {k : PtpKind} (ha : s.alive = true) (hsend : s.ptpSends p k = true) :
    ∃ t, exec (.ptpMessageSend p k) s = .next t ∧ Safety.Quiet s t ∧ t = { s with host := t.host, time := t.time } ∧
      t.time.ethTx = s.time.ethTx ++ (s.ptpMessages p k).map (fun m => .ptp p ((s.ethN p).flags.getLsbD 1)
        (ptpDest ((s.ethN p).flags.getLsbD 1) m.isPeer) m) ∧
      s.ptpMessages p k ≠ [] ∧ (t.ethN p).seq = (s.ethN p).seq + 1 ∧ ∀ q, q ≠ p → t.ethN q = s.ethN q := by
  let put := s.ptpPut p (s.ptpMessages p k)
  let sent : EthPort → EthPort := fun q =>
    { q with seq := q.seq + 1, reqNs := if k = .delayReq then some (s.egressNs p) else q.reqNs }
  obtain ⟨t, hx, hq, ho, htime⟩ := evt_time (u := put.updEth p sent)
    (f := fun s => if !s.ptpSends p k then s else (s.ptpPut p (s.ptpMessages p k)).updEth p fun q =>
      { q with seq := q.seq + 1, reqNs := if k = .delayReq then some (s.egressNs p) else q.reqNs }) ha (if_neg (by simp [hsend]))
    ((s.ptpPut_only p _).trans (put.updEth_only p sent))
  have hport := State.ethN_of_time htime
  refine ⟨t, hx, hq, ho, by rw [htime]; rfl, s.ptpMessages_ne_nil p k, ?_, fun q hne => ?_⟩
  · rw [hport, State.ethN_updEth_same]
    rfl
  · rw [hport, State.ethN_updEth_ne _ _ hne]
    rfl

end

/-! ## HOLDOVER_LIMIT, ARP and other frames, the RTC -/

section
variable {s : State}

theorem exec_holdoverLimit (ha : s.alive = true) (hst : s.time.st = .holdover) (hlim : (s.time.holdLimitNs : Rat) < s.time.estErr) :
    ∃ t, exec .holdoverLimit s = .next t ∧ Safety.Alerted s t ∧ Safety.Raised .time 3 t ∧ t = { s with host := t.host } := by
  have hraise : (if s.time.st = .holdover ∧ (s.time.holdLimitNs : Rat) < s.time.estErr then s.raise .time 3 else s) =
      s.raise .time 3 := if_pos ⟨hst, hlim⟩
  obtain ⟨t, hx, hal, -, ho, hsent⟩ := evt_only
    (f := fun s => if s.time.st = .holdover ∧ (s.time.holdLimitNs : Rat) < s.time.estErr then s.raise .time 3 else s) ha
    (hraise ▸ s.raise_only _ _) (by decide)
  rw [hraise] at hsent
  exact ⟨t, hx, hal, raised_of_only hsent (State.raised_raise (by decide)), ho.eq_patch⟩

theorem exec_holdoverLimit_below (ha : s.alive = true) (hlim : s.time.estErr ≤ (s.time.holdLimitNs : Rat)) :
    ∃ t, exec .holdoverLimit s = .next t ∧ Safety.Quiet s t ∧ t = { s with host := t.host } :=
  evt_quiet ha (if_neg fun h => absurd h.2 (not_lt.2 hlim)) (.refl (ps := []) s) (by decide)

theorem exec_arpRequestRx {p : Nat} {ip : BitVec 32} (ha : s.alive = true) (hp : p ≤ 1) :
    ∃ t, exec (.arpRequestRx p ip) s = .next t ∧ Safety.Quiet s t ∧ t = { s with host := t.host, time := t.time } ∧
      t.time = if ip = (s.ethN p).ipv4 then { s.time with ethTx := s.time.ethTx ++ [.arpReply p ip] }
        else { s.time with discarded := s.time.discarded + 1 } := by
  obtain ⟨t, hx, hq, ho, htime⟩ := evt_time
    (u := if ip = (s.ethN p).ipv4 then s.updTime fun t => { t with ethTx := t.ethTx ++ [.arpReply p ip] } else s.ethDiscard)
    (f := fun s => if 1 < p then s
      else if ip = (s.ethN p).ipv4 then s.updTime fun t => { t with ethTx := t.ethTx ++ [.arpReply p ip] }
      else s.ethDiscard) ha (if_neg (not_lt.2 hp)) (.ite (s.updTime_only _) (s.updTime_only _))
  exact ⟨t, hx, hq, ho, htime.trans (apply_ite State.time _ _ _)⟩

theorem exec_ethOtherRx {p : Nat} (ha : s.alive = true) (hp : p ≤ 1) :
    ∃ t, exec (.ethOtherRx p) s = .next t ∧ Safety.Quiet s t ∧
      t = { s with host := t.host, time := { s.time with discarded := s.time.discarded + 1 } } :=
  evt_ethDiscard (f := fun s => if 1 < p then s else s.ethDiscard) ha (if_neg (not_lt.2 hp))

theorem clampI_mem {lo hi : Int} (h : lo ≤ hi) (v : Int) : lo ≤ clampI lo hi v ∧ clampI lo hi v ≤ hi :=
  ⟨le_max_left _ _, max_le h (min_le_left _ _)⟩

theorem exec_rtcDiscipline (ha : s.alive = true) (hp : s.ptpOwns = true) :
    ∃ t, exec .rtcDiscipline s = .next t ∧ Safety.Quiet s t ∧ -1000 ≤ t.time.rtcTrim + Config.crystalPpb ∧
      t.time.rtcTrim + Config.crystalPpb ≤ 1000 ∧ t = { s with host := t.host, time := { s.time with
      rtcTrim := t.time.rtcTrim, calSec := s.time.clock.sec - BitVec.ofNat 48 s.time.utcNow,
      calFrac := BitVec.ofNat 16 (s.time.clock.ns.toNat * 65536 / 1000000000), calTick := s.time.ticks, calValid := true } } := by
  let trim := clampI (-1000) 1000 (Config.trimErrPpb s.time.ticks)
  obtain ⟨hlo, hhi⟩ := clampI_mem (lo := -1000) (hi := 1000) (by decide) (Config.trimErrPpb s.time.ticks)
  obtain ⟨t, hx, hq, ht⟩ := evt_updTime (g := fun t => { t with
    rtcTrim := trim - Config.crystalPpb, calSec := t.clock.sec - BitVec.ofNat 48 t.utcNow,
    calFrac := BitVec.ofNat 16 (t.clock.ns.toNat * 65536 / 1000000000), calTick := t.ticks, calValid := true }) ha
    (show (if s.ptpOwns then _ else s) = _ from if_pos hp)
  have htrim : t.time.rtcTrim + Config.crystalPpb = trim := by
    rw [ht]
    exact sub_add_cancel _ _
  exact ⟨t, hx, hq, by rw [htrim]; exact hlo, by rw [htrim]; exact hhi, ht.trans (by rw [ht])⟩

end

/-! ## Press messages received -/

section
variable {s : State} {m : List Byte}

/-- An accepted press message filed, before its consequences (R301). -/
def TimeUnit.pressFiled (m : List Byte) (t : TimeUnit) : TimeUnit :=
  { t with
    pressAccepted := t.pressAccepted + 1, pressRing := (m :: t.pressRing).take 64,
    pressSeen := t.pressSeen.upd [] (fieldAt m 6 1) fun l => (BitVec.ofNat 32 (fieldAt m 8 4) :: l).take 16 }

/-- The message is filed and PRESS_RX is set. -/
def State.pressFile (m : List Byte) (s : State) : State := (s.updTime (TimeUnit.pressFiled m)).raise .time 4

theorem State.pressFile_only (s : State) (m : List Byte) : Only [.time, .alert] s (s.pressFile m) :=
  (s.updTime_only _).step (State.raise_only _ _ _)

theorem State.pressFile_raised (s : State) (m : List Byte) : Safety.Raised .time 4 (s.pressFile m) := State.raised_raise (by decide)

theorem State.pressAccept_other (h : ¬ (fieldAt m 5 1 = 2 ∧ s.time.pressFlags.getLsbD 2 = true ∧ s.fire.permit = true)) :
    s.pressAccept m = s.pressFile m := if_neg h

theorem State.pressAccept_stop (hty : fieldAt m 5 1 = 2) (hact : s.time.pressFlags.getLsbD 2 = true) (hperm : s.fire.permit = true) :
    s.pressAccept m = ((s.pressFile m).dropPermit 5).raise .time 5 := if_pos ⟨hty, hact, hperm⟩

/-- Whatever an accepted message leads to, it is filed. -/
theorem State.pressAccept_filed (s : State) (m : List Byte) : Only dropParts s (s.pressAccept m) ∧
    Safety.Raised .time 4 (s.pressAccept m) ∧ (s.pressAccept m).time = s.time.pressFiled m := by
  have hfile : Only dropParts s (s.pressFile m) := (s.pressFile_only m).mono (by decide)
  by_cases h : fieldAt m 5 1 = 2 ∧ s.time.pressFlags.getLsbD 2 = true ∧ s.fire.permit = true
  · obtain ⟨hty, hact, hperm⟩ := h
    obtain ⟨hrises, htime⟩ := (s.pressFile m).dropPermit_spec (cause := 5) (by decide)
    rw [State.pressAccept_stop hty hact hperm]
    exact ⟨(hfile.trans ((s.pressFile m).dropPermit_only 5)).trans ((State.raise_only _ _ _).mono (by decide)),
      State.raised_raise_of_raised (hrises _ _ (s.pressFile_raised m)), htime⟩
  · rw [State.pressAccept_other h]
    exact ⟨hfile, s.pressFile_raised m, rfl⟩

theorem State.pressReceive_new (hg : s.pressGood m = true)
    (hnew : (s.time.pressSeen.get [] (fieldAt m 6 1)).contains (BitVec.ofNat 32 (fieldAt m 8 4)) = false) :
    s.pressReceive m = s.pressAccept m := by
  rw [State.pressReceive, hg, hnew]
  rfl

theorem exec_pressMessageRx {p : Nat} (ha : s.alive = true) (hp : p ≤ 1) (hg : s.pressGood m = true)
    (hnew : (s.time.pressSeen.get [] (fieldAt m 6 1)).contains (BitVec.ofNat 32 (fieldAt m 8 4)) = false) :
    ∃ t, exec (.pressMessageRx p ⟨s.time.pressGroup, 47360, m⟩) s = .next t ∧ Safety.Raised .time 4 t ∧
      t.time.pressAccepted = s.time.pressAccepted + 1 ∧ t.time.pressRing = (m :: s.time.pressRing).take 64 ∧
      (fieldAt m 5 1 = 2 → s.time.pressFlags.getLsbD 2 = true → s.fire.permit = true →
        t.fire.permit = false ∧ t.fire.dropCause = 5 ∧ Safety.Raised .time 5 t) ∧
      (fieldAt m 5 1 ≠ 2 → t = { s with host := t.host, time := t.time }) := by
  obtain ⟨honly, hraised, hfiled⟩ := s.pressAccept_filed m
  have hreceive : (if 1 < p then s else if s.time.pressGroup ≠ s.time.pressGroup ∨ (47360 : BitVec 16) ≠ pressUdp then s.ethDiscard
      else s.pressReceive m) = s.pressAccept m := by
    rw [if_neg (not_lt.2 hp), if_neg (by simp [pressUdp]), State.pressReceive_new hg hnew]
  obtain ⟨t, hx, -, hsent, ht⟩ := evt_effect
    (f := fun u => if 1 < p then u else if s.time.pressGroup ≠ u.time.pressGroup ∨ (47360 : BitVec 16) ≠ pressUdp then u.ethDiscard
      else u.pressReceive m) ha hreceive honly (by decide)
  have htime : t.time = s.time.pressFiled m := Eq.trans (hsent .time (by decide)) hfiled
  refine ⟨t, hx, raised_of_only hsent hraised, congrArg TimeUnit.pressAccepted htime, congrArg TimeUnit.pressRing htime,
    fun hty hact hperm => ?_, fun hty => ?_⟩
  · have hstop := State.pressAccept_stop hty hact hperm
    have hfire : t.fire.unmarked = s.fire.unmarked.dropped 5 := by
      rw [hsent .fire (by decide), hstop]
      exact (s.pressFile m).dropPermit_unmarked 5
    have hcause : t.fire.dropCause = if s.fire.permit then 5 else s.fire.dropCause := congrArg Fire.dropCause hfire
    refine ⟨congrArg Fire.permit hfire, hcause.trans (if_pos hperm), raised_of_only hsent ?_⟩
    rw [hstop]
    exact State.raised_raise (by decide)
  · have hother : s.pressAccept m = s.pressFile m := State.pressAccept_other fun hc => hty hc.1
    have hframe : Only [.host, .time, .alert] s t := by
      rw [hother] at hsent
      exact ((s.pressFile_only m).step hsent).mono (by decide)
    exact hframe.eq_patch

/-- A datagram to another group or port is no press message. -/
theorem exec_pressMessageRx_elsewhere {p : Nat} {m : PressDatagram} (ha : s.alive = true) (hp : p ≤ 1)
    (hm : m.group ≠ s.time.pressGroup ∨ m.udpPort ≠ 47360) :
    ∃ t, exec (.pressMessageRx p m) s = .next t ∧ Safety.Quiet s t ∧
      t = { s with host := t.host, time := { s.time with discarded := s.time.discarded + 1 } } :=
  evt_ethDiscard
    (f := fun s => if 1 < p then s else if m.group ≠ s.time.pressGroup ∨ m.udpPort ≠ pressUdp then s.ethDiscard else _) ha
    ((if_neg (not_lt.2 hp)).trans (if_pos hm))

end

/-- Settles O52: each PTP event by what it leaves of the ports, a press message by what filing and a fall of FIRE_PERMIT leave. The
servo's correction is that of log 81, the data of best master selection those of log 82, the RTC's trim that of log 83. -/
theorem networkEventsAct : Obligations.NetworkEventsAct :=
  ⟨fun _ _ _ _ _ _ ha ht => exec_ptpSyncRx_discarded ha ht,
   fun _ _ _ _ _ _ ha ht hsl hst hstep => exec_ptpSyncRx ha ht hsl hst hstep,
   fun _ _ _ ha ht hb => exec_ptpAnnounceRx ha ht hb,
   fun _ _ _ _ _ _ ha ht hpeer hreq hsync => exec_ptpDelayRespRx ha ht hpeer hreq hsync,
   fun _ _ _ _ ha ht hr hpeer hst => exec_ptpDelayReqRx ha ht hr hpeer hst,
   fun _ _ _ _ ha _ hpeer => exec_ptpDelayReqRx_other ha hpeer,
   fun _ _ _ ha hsend => exec_ptpMessageSend ha hsend,
   fun _ _ ha hp => exec_announceTimeout ha hp,
   fun _ ha hst hlim => exec_holdoverLimit ha hst hlim,
   fun _ ha hlim => exec_holdoverLimit_below ha hlim,
   fun _ _ _ ha hp => exec_arpRequestRx ha hp,
   fun _ _ ha hp => exec_ethOtherRx ha hp,
   fun _ _ _ ha hp hg hnew => exec_pressMessageRx ha hp hg hnew,
   fun _ _ _ ha hp hm => exec_pressMessageRx_elsewhere ha hp hm,
   fun _ ha hp => exec_rtcDiscipline ha hp⟩

end Sys2Proof.Machine

namespace Sys2Proof.Machine

/-! ## One DMA channel

A host access to a channel's registers, a transfer, a bus error and a retry each change one channel alone; the interrupts sent
come on top (R321–R325). -/

section
variable {s : State} {c : Nat}

theorem State.updDma_only (s : State) (c : Nat) (g : Dma → Dma) : Only [.dma] s (s.updDma c g) := .of_eq rfl (by decide)

theorem State.dmaN_of_only {t : State} {ps : List Part} (ho : Only ps s t) (hn : .dma ∉ ps) (n : Nat) : t.dmaN n = s.dmaN n :=
  congrArg (SMap.get ({} : Dma) · n) (ho .dma hn : t.dma = s.dma)

/-- An event that changes one channel. -/
theorem evt_updDma {f : State → State} {g : Dma → Dma} (ha : s.alive = true) (hf : f s = s.updDma c g) :
    ∃ t, evt f s = .next t ∧ Safety.Quiet s t ∧ t = { s with host := t.host, dma := t.dma } ∧ t.dmaN c = g (s.dmaN c) ∧
      ∀ d, d ≠ c → t.dmaN d = s.dmaN d := by
  obtain ⟨t, hx, hq, ht⟩ := evt_quiet ha hf (s.updDma_only c g) (by decide)
  have hdma : ∀ d, t.dmaN d = (s.updDma c g).dmaN d := fun d => by rw [ht]; rfl
  exact ⟨t, hx, hq, ht.trans (by rw [ht]; rfl), (hdma c).trans (State.dmaN_updDma_same _ _ _),
    fun d hd => (hdma d).trans (State.dmaN_updDma_ne _ _ _ _ hd)⟩

end

/-! ### What a moved count leaves of a channel -/

section
variable (d : Dma) (n : Nat)

/-- `n` bytes counted, before the end of count is looked at (R322, R323). -/
def Dma.counted : Dma :=
  let b := BitVec.ofNat 64 n
  let d := if d.egress then { d with prod := d.prod + b, wbValue := d.prod + b } else { d with cons := d.cons + b, wbValue := d.cons + b }
  { d with remain := d.remain - b, moved := d.moved + b, retriesLeft := d.retries }

/-- The end of count, or of what a STOP waited for (Table 11-10). -/
def Dma.ended : Dma :=
  if d.remain = 0 then { d with st := .done, doneSet := true, stopping := false, reqs := [] }
  else if d.stopping && d.reqs.isEmpty then { d with st := .stopped, stopping := false }
  else d

theorem Dma.moveBy_eq : d.moveBy n = (d.counted n).ended := rfl

/-- The end of count touches the state, the interrupt, a waiting STOP and the requests. -/
theorem Dma.ended_frame :
    d.ended = { d with st := d.ended.st, doneSet := d.ended.doneSet, stopping := d.ended.stopping, reqs := d.ended.reqs } := by
  unfold Dma.ended; split_ifs <;> rfl

variable {d}

/-- At REMAIN 0 the channel is DONE; one that no STOP waits for keeps its state otherwise (Table 11-10). -/
theorem Dma.ended_st (hs : d.stopping = false) : d.ended.st = if d.remain = 0 then .done else d.st := by
  rw [Dma.ended, hs, Bool.false_and, if_neg Bool.false_ne_true]
  exact apply_ite Dma.st _ _ _

/-- An ingress transfer advances DMA_CONS, which the write-back repeats (R322). -/
theorem Dma.counted_ingress (he : d.egress = false) : d.counted n = { d with
    cons := d.cons + BitVec.ofNat 64 n, wbValue := d.cons + BitVec.ofNat 64 n, remain := d.remain - BitVec.ofNat 64 n,
    moved := d.moved + BitVec.ofNat 64 n, retriesLeft := d.retries } := by
  rw [Dma.counted, if_neg (by simp [he])]

/-- An egress transfer advances DMA_PROD (R323). -/
theorem Dma.counted_egress (he : d.egress = true) : d.counted n = { d with
    prod := d.prod + BitVec.ofNat 64 n, wbValue := d.prod + BitVec.ofNat 64 n, remain := d.remain - BitVec.ofNat 64 n,
    moved := d.moved + BitVec.ofNat 64 n, retriesLeft := d.retries } := by
  rw [Dma.counted, if_pos he]

theorem Dma.moveBy_ingress (he : d.egress = false) (hs : d.stopping = false) :
    (d.moveBy n).cons = d.cons + BitVec.ofNat 64 n ∧ (d.moveBy n).wbValue = (d.moveBy n).cons ∧
    (d.moveBy n).remain = d.remain - BitVec.ofNat 64 n ∧ (d.moveBy n).moved = d.moved + BitVec.ofNat 64 n ∧
    (d.moveBy n).st = if (d.moveBy n).remain = 0 then .done else d.st := by
  have hst : (d.counted n).ended.st = if (d.counted n).remain = 0 then .done else (d.counted n).st :=
    Dma.ended_st (by rw [Dma.counted_ingress n he]; exact hs)
  rw [Dma.moveBy_eq, Dma.ended_frame, hst, Dma.counted_ingress n he]
  exact ⟨rfl, rfl, rfl, rfl, rfl⟩

theorem Dma.moveBy_egress (he : d.egress = true) :
    (d.moveBy n).prod = d.prod + BitVec.ofNat 64 n ∧ (d.moveBy n).rbOpen = d.rbOpen ∧ (d.moveBy n).readback = d.readback ∧
    (d.moveBy n).remain = d.remain - BitVec.ofNat 64 n := by
  rw [Dma.moveBy_eq, Dma.ended_frame, Dma.counted_egress n he]
  exact ⟨rfl, rfl, rfl, rfl⟩

end

/-! ### The issue of reads

An ingress channel's reads are requested before its bytes are taken (R326, log 123); of a channel nothing but its outstanding
reads and its turn changes. -/

/-- A channel as `d`, but for its outstanding reads and its turn. -/
def Dma.Reading (d e : Dma) : Prop := e = { d with reqs := e.reqs, turn := e.turn }

theorem Dma.Reading.refl (d : Dma) : d.Reading d := rfl

theorem Dma.Reading.trans {d e f : Dma} (h1 : d.Reading e) (h2 : e.Reading f) : d.Reading f := by
  unfold Dma.Reading at h1 h2 ⊢
  rw [h2, h1]

theorem State.updDma_reading {g : Dma → Dma} (hg : ∀ d : Dma, d.Reading (g d)) (s : State) (c e : Nat) :
    (s.dmaN e).Reading ((s.updDma c g).dmaN e) := by
  by_cases he : e = c
  · rw [he, State.dmaN_updDma_same]; exact hg _
  · rw [State.dmaN_updDma_ne _ _ _ _ he]; exact .refl _

theorem State.issueReads_only (k : Nat) (s : State) : Only [.dma] s (s.issueReads k) := by
  induction k generalizing s with
  | zero => exact .refl s
  | succ k ih =>
    rw [State.issueReads]
    refine .ite (.refl s) ?_
    split
    · exact .refl s
    · exact (s.updDma_only _ _).trans (ih _)

theorem State.issueReads_reading (k : Nat) (s : State) (e : Nat) : (s.dmaN e).Reading ((s.issueReads k).dmaN e) := by
  induction k generalizing s with
  | zero => exact .refl _
  | succ k ih =>
    rw [State.issueReads]
    split
    · exact .refl _
    · split
      · exact .refl _
      · refine (s.updDma_reading ?_ _ e).trans (ih _)
        exact fun d => rfl

/-- Reading ahead does not change what a channel can move. -/
theorem State.ingressRoom_issueReads (k : Nat) (s : State) (c : Nat) : (s.issueReads k).ingressRoom c = s.ingressRoom c := by
  have hslate : (s.issueReads k).slate = s.slate := s.issueReads_only k .slate (by decide)
  have hd : (s.dmaN c).Reading ((s.issueReads k).dmaN c) := s.issueReads_reading k c
  unfold State.ingressRoom State.bindRoom
  rw [hslate, hd]

/-! ### Bytes into a DRAM ring -/

/-- Bytes that do not pass the ring's end lie one behind the other in DRAM. -/
theorem State.ringWrite_eq {base size : Nat} (bs : List Byte) (pos : Nat) (s : State) (hfit : pos % size + bs.length ≤ size) :
    s.ringWrite base size pos bs = s.dramWrite (base + pos % size) bs := by
  induction bs generalizing pos s with
  | nil => rfl
  | cons b bs ih =>
    rw [State.ringWrite]
    rw [List.length_cons] at hfit
    cases bs with
    | nil => rfl
    | cons b' bs =>
      rw [List.length_cons] at hfit
      have hone : 1 % size = 1 := Nat.mod_eq_of_lt (by omega)
      have hnext : (pos + 1) % size = pos % size + 1 := by rw [Nat.add_mod_of_add_mod_lt (by omega), hone]
      rw [ih (pos + 1) _ (by rw [hnext, List.length_cons]; omega), hnext]
      rfl

/-! ### DMA_INGRESS_TRANSFER -/

/-- Where in DRAM a channel's ring stands (R320). -/
def Dma.ringAt (d : Dma) : Nat := d.dramBase.toNat + d.dramPos % 2 ^ d.dramLog2

/-- The bytes up to the end of a channel's DRAM ring hold `n` more. -/
def Dma.RingFits (d : Dma) (n : Nat) : Prop := d.dramPos % 2 ^ d.dramLog2 + n ≤ 2 ^ d.dramLog2

/-- What a transfer of `n` bytes into a DRAM ring makes of its channel. -/
def Dma.taken (n : Nat) (d : Dma) : Dma :=
  Dma.moveBy n { d with reqs := takeReqs n d.reqs, dramPos := d.dramPos + n }

/-- A transfer of bytes to address `a` of the DRAM ring of channel `c`, once the reads are requested. -/
def State.ringMoved (c a : Nat) (bs : List Byte) (s : State) : State :=
  (((s.updDma c fun d => { d with reqs := takeReqs bs.length d.reqs }).dramWrite a bs).updDma c
    fun d => { d with dramPos := d.dramPos + bs.length }).updDma c (Dma.moveBy bs.length)

section
variable {s r : State} {c : Nat} {bs : List Byte}

/-- The transfer of bytes that are published, counted, requested and not beyond the ring's end. -/
theorem State.ingress_ring (hr : s.issueReads dmaTags = r) (hc : c < 32) (hst : (s.dmaN c).st = .running)
    (he : (s.dmaN c).egress = false) (hring : (s.dmaN c).dramRing = true) (hret : (s.dmaN c).retrying = false) (hne : bs ≠ [])
    (hroom : bs.length ≤ s.ingressRoom c) (hreq : bs.length ≤ (r.dmaN c).reqs.sum) (hfit : (s.dmaN c).RingFits bs.length) :
    s.ingress c bs = r.ringMoved c (s.dmaN c).ringAt bs := by
  have hd : (s.dmaN c).Reading (r.dmaN c) := hr ▸ s.issueReads_reading dmaTags c
  have hsame : r.ingressRoom c = s.ingressRoom c := hr ▸ s.ingressRoom_issueReads dmaTags c
  have hgo : (decide (32 ≤ c) || (r.dmaN c).st != .running || (r.dmaN c).egress || (r.dmaN c).retrying || bs.isEmpty ||
      decide ((r.dmaN c).reqs.sum < bs.length) || decide (r.ingressRoom c < bs.length)) = false := by
    rw [decide_eq_false (not_lt.2 hreq), hsame, hd]
    simp [hc, hst, he, hret, hne, hroom]
  have hto : (r.dmaN c).dramRing = true := by rw [hd]; exact hring
  have hat : (r.dmaN c).ringAt = (s.dmaN c).ringAt := by rw [hd]; rfl
  have hend : (r.dmaN c).RingFits bs.length := by rw [hd]; exact hfit
  unfold State.ingress
  simp only [hr, hgo, hto, Bool.false_eq_true, if_false, if_true, State.ringWrite_eq bs _ _ hend]
  rw [← hat]
  rfl

theorem State.ringMoved_only (a : Nat) : Only [.dma, .dram] s (s.ringMoved c a bs) :=
  ((((s.updDma_only _ _).step (State.dramWrite_only _ a bs)).step (State.updDma_only _ _ _)).step (State.updDma_only _ _ _)).mono
    (by decide)

theorem State.ringMoved_own (a : Nat) : (s.ringMoved c a bs).dmaN c = (s.dmaN c).taken bs.length := by
  simp only [State.ringMoved, State.dmaN_updDma_same, State.dramWrite, State.dmaN_updDram]
  rfl

theorem State.ringMoved_others (a : Nat) {e : Nat} (he : e ≠ c) : (s.ringMoved c a bs).dmaN e = s.dmaN e := by
  simp only [State.ringMoved, State.dmaN_updDma_ne _ _ _ _ he, State.dramWrite, State.dmaN_updDram]

/-- What the transfer leaves of its channel, whichever reads were requested meanwhile. -/
theorem Dma.taken_reading {d e : Dma} (n : Nat) (h : d.Reading e) (he : d.egress = false) (hs : d.stopping = false)
    (hst : d.st = .running) : (e.taken n).cons = d.cons + BitVec.ofNat 64 n ∧ (e.taken n).wbValue = (e.taken n).cons ∧
      (e.taken n).remain = d.remain - BitVec.ofNat 64 n ∧ (e.taken n).moved = d.moved + BitVec.ofNat 64 n ∧
      (e.taken n).st = if (e.taken n).remain = 0 then .done else .running := by
  rw [h, ← hst]
  exact Dma.moveBy_ingress n he hs

theorem exec_dmaIngressTransfer (ha : s.alive = true) (hc : c < 32) (hst : (s.dmaN c).st = .running) (he : (s.dmaN c).egress = false)
    (hring : (s.dmaN c).dramRing = true) (hret : (s.dmaN c).retrying = false) (hstop : (s.dmaN c).stopping = false) (hne : bs ≠ [])
    (hroom : bs.length ≤ s.ingressRoom c) (hreq : bs.length ≤ ((s.issueReads dmaTags).dmaN c).reqs.sum)
    (hfit : (s.dmaN c).RingFits bs.length) :
    ∃ t, exec (.dmaIngressTransfer c bs) s = .next t ∧ Safety.Quiet s t ∧
      t = { s with host := t.host, dma := t.dma, dram := s.dram.writeAll (s.dmaN c).ringAt bs } ∧
      (t.dmaN c).cons = (s.dmaN c).cons + BitVec.ofNat 64 bs.length ∧ (t.dmaN c).wbValue = (t.dmaN c).cons ∧
      (t.dmaN c).remain = (s.dmaN c).remain - BitVec.ofNat 64 bs.length ∧
      (t.dmaN c).moved = (s.dmaN c).moved + BitVec.ofNat 64 bs.length ∧
      (t.dmaN c).st = (if (t.dmaN c).remain = 0 then .done else .running) ∧
      ∀ e, e ≠ c → (s.dmaN e).Reading (t.dmaN e) := by
  obtain ⟨r, hr⟩ : ∃ r, s.issueReads dmaTags = r := ⟨_, rfl⟩
  have hreads : ∀ e, (s.dmaN e).Reading (r.dmaN e) := hr ▸ s.issueReads_reading dmaTags
  have hread : Only [.dma] s r := hr ▸ s.issueReads_only dmaTags
  have hmove := State.ingress_ring hr hc hst he hring hret hne hroom (hr ▸ hreq) hfit
  have hframe : Only [.dma, .dram] s (s.ingress c bs) := hmove ▸ (hread.step (State.ringMoved_only _)).mono (by decide)
  obtain ⟨t, hx, -, hquiet, ho, hsent⟩ := evt_only (f := State.ingress c bs) ha hframe (by decide)
  rw [hmove] at hsent
  have hown : t.dmaN c = (r.dmaN c).taken bs.length := (State.dmaN_of_only hsent (by decide) c).trans (State.ringMoved_own _)
  have hbytes : t.dram = s.dram.writeAll (s.dmaN c).ringAt bs :=
    calc t.dram = r.dram.writeAll (s.dmaN c).ringAt bs := hsent .dram (by decide)
      _ = _ := by rw [show r.dram = s.dram from hread .dram (by decide)]
  have hmoved := Dma.taken_reading bs.length (hreads c) he hstop hst
  rw [← hown] at hmoved
  obtain ⟨hcons, hwb, hremain, hcount, hend⟩ := hmoved
  refine ⟨t, hx, hquiet (by decide), ?_, hcons, hwb, hremain, hcount, hend, fun e hec => ?_⟩
  · rw [← hbytes]
    exact (ho.mono (qs := [.host, .alert, .dma, .dram]) (by decide)).eq_patch
  · rw [State.dmaN_of_only hsent (by decide) e, State.ringMoved_others _ hec]
    exact hreads e

end

/-! ### DMA_EGRESS_TRANSFER, DMA_READBACK_DONE, DMA_BUS_ERROR, DMA_RETRY -/

/-- No write to the host ring is longer than 512 bytes (R324). -/
theorem writeSizes_le (n : Nat) : ∀ k ∈ writeSizes n, k ≤ 512 := by
  intro k hk
  rw [writeSizes, List.mem_append, List.mem_replicate] at hk
  obtain ⟨-, rfl⟩ | htail := hk
  · exact le_rfl
  · split at htail
    · cases htail
    · rw [List.mem_singleton.1 htail]
      exact (Nat.mod_lt _ (by decide)).le

/-- The read-back of `n` bytes came (R324). -/
def Dma.readBack (n : Nat) (d : Dma) : Dma :=
  Dma.moveBy n { d with
    rbOpen := none, readback := true, readbacks := d.readbacks + 1, out := if d.dramRing then d.out else d.out.drop n,
    dramPos := d.dramPos + n }

/-- A request failed: it is retried while retries are left, else the channel halts with code 4 (R325). -/
def Dma.failed (d : Dma) : Dma :=
  let e := { d with busErrors := d.busErrors + 1, readback := if d.egress then false else d.readback }
  if e.retriesLeft = 0 then e.stopWith 0x04 else { e with retrying := true, retriesLeft := e.retriesLeft - 1 }

section
variable {s : State} {c n : Nat}

theorem exec_dmaEgressTransfer (ha : s.alive = true) (hc : c < 32) (hst : (s.dmaN c).st = .running) (he : (s.dmaN c).egress = true)
    (hret : (s.dmaN c).retrying = false) (hrb : (s.dmaN c).rbOpen = none) (hn : 0 < n) (hroom : n ≤ (s.dmaN c).egressRoom)
    (htags : s.tagsUsed < 256) :
    ∃ t, exec (.dmaEgressTransfer c n) s = .next t ∧ Safety.Quiet s t ∧ t = { s with host := t.host, dma := t.dma } ∧
      t.dmaN c = { s.dmaN c with rbOpen := some n, writes := writeSizes n } ∧ (∀ k ∈ (t.dmaN c).writes, k ≤ 512) ∧
      ∀ e, e ≠ c → t.dmaN e = s.dmaN e := by
  have hgo : s.egress c n = s.updDma c fun d => { d with rbOpen := some n, writes := writeSizes n } :=
    if_neg (by simp [hc, hst, he, hret, hrb, hn.ne', hroom, not_le.2 htags, dmaTags])
  obtain ⟨t, hx, hq, ht, hown, hothers⟩ := evt_updDma (f := State.egress c n) ha hgo
  exact ⟨t, hx, hq, ht, hown, by rw [hown]; exact writeSizes_le n, hothers⟩

theorem exec_dmaReadbackDone (ha : s.alive = true) (hc : c < 32) (hst : (s.dmaN c).st = .running) (he : (s.dmaN c).egress = true)
    (hret : (s.dmaN c).retrying = false) (hrb : (s.dmaN c).rbOpen = some n) :
    ∃ t, exec (.dmaReadbackDone c) s = .next t ∧ Safety.Quiet s t ∧ t = { s with host := t.host, dma := t.dma } ∧
      (t.dmaN c).prod = (s.dmaN c).prod + BitVec.ofNat 64 n ∧ (t.dmaN c).rbOpen = none ∧ (t.dmaN c).readback = true ∧
      (t.dmaN c).remain = (s.dmaN c).remain - BitVec.ofNat 64 n ∧ ∀ e, e ≠ c → t.dmaN e = s.dmaN e := by
  have hback : s.readbackDone c = s.updDma c (Dma.readBack n) := by
    rw [State.readbackDone, hrb]
    exact if_neg (by simp [hc, hst, hret])
  obtain ⟨t, hx, hq, ht, hown, hothers⟩ := evt_updDma (f := State.readbackDone c) ha hback
  obtain ⟨hprod, hopen, hseen, hremain⟩ := Dma.moveBy_egress n (d := { s.dmaN c with
    rbOpen := none, readback := true, readbacks := (s.dmaN c).readbacks + 1,
    out := if (s.dmaN c).dramRing then (s.dmaN c).out else (s.dmaN c).out.drop n, dramPos := (s.dmaN c).dramPos + n }) he
  refine ⟨t, hx, hq, ht, ?_, ?_, ?_, ?_, hothers⟩ <;> rw [hown]
  exacts [hprod, hopen, hseen, hremain]

/-- A failed request is counted and moves nothing. -/
theorem Dma.failed_counted (d : Dma) : d.failed.busErrors = d.busErrors + 1 ∧ d.failed.prod = d.prod := by
  unfold Dma.failed
  extract_lets e
  split <;> exact ⟨rfl, rfl⟩

theorem Dma.failed_retries {d : Dma} (h : 0 < d.retriesLeft) :
    d.failed.retrying = true ∧ d.failed.retriesLeft = d.retriesLeft - 1 ∧ d.failed.st = d.st := by
  rw [Dma.failed, if_neg (by exact h.ne')]
  exact ⟨rfl, rfl, rfl⟩

theorem Dma.failed_halts {d : Dma} (h : d.retriesLeft = 0) :
    d.failed.st = .halted ∧ d.failed.err = 4 ∧ d.failed.haltSet = true := by
  rw [Dma.failed, if_pos (by exact h)]
  exact ⟨rfl, rfl, rfl⟩

theorem exec_dmaBusError (ha : s.alive = true) (hc : c < 32) (hst : (s.dmaN c).st = .running) (he : (s.dmaN c).egress = true)
    (hret : (s.dmaN c).retrying = false) (hrb : (s.dmaN c).rbOpen = some n) :
    ∃ t, exec (.dmaBusError c) s = .next t ∧ Safety.Quiet s t ∧ t = { s with host := t.host, dma := t.dma } ∧
      (t.dmaN c).busErrors = (s.dmaN c).busErrors + 1 ∧ (t.dmaN c).prod = (s.dmaN c).prod ∧
      (0 < (s.dmaN c).retriesLeft → (t.dmaN c).retrying = true ∧ (t.dmaN c).retriesLeft = (s.dmaN c).retriesLeft - 1 ∧
        (t.dmaN c).st = .running) ∧
      ((s.dmaN c).retriesLeft = 0 → (t.dmaN c).st = .halted ∧ (t.dmaN c).err = 4 ∧ (t.dmaN c).haltSet = true) ∧
      ∀ e, e ≠ c → t.dmaN e = s.dmaN e := by
  have hfail : s.busError c = s.updDma c Dma.failed := if_neg (by simp [hc, hst, he, hret, hrb])
  obtain ⟨t, hx, hq, ht, hown, hothers⟩ := evt_updDma (f := State.busError c) ha hfail
  refine ⟨t, hx, hq, ht, ?_⟩
  rw [hown, ← hst]
  obtain ⟨hcount, hprod⟩ := (s.dmaN c).failed_counted
  exact ⟨hcount, hprod, Dma.failed_retries, Dma.failed_halts, hothers⟩

theorem exec_dmaRetry (ha : s.alive = true) (hc : c < 32) (hst : (s.dmaN c).st = .running) (hret : (s.dmaN c).retrying = true) :
    ∃ t, exec (.dmaRetry c) s = .next t ∧ Safety.Quiet s t ∧ t = { s with host := t.host, dma := t.dma } ∧
      t.dmaN c = { s.dmaN c with retrying := false, retryCnt := (s.dmaN c).retryCnt + 1 } ∧ ∀ e, e ≠ c → t.dmaN e = s.dmaN e :=
  evt_updDma (f := State.dmaRetry c) ha (if_neg (by simp [hc, hst, hret]))

end

/-- Settles O39: an ingress transfer by the reads requested before it (log 123) and its bytes in the ring, the other events by the one
channel they change; an egress transfer's read-back is one (log 90). -/
theorem dmaTransfersMove : Obligations.DmaTransfersMove :=
  ⟨fun _ _ _ ha hc hst he hring hret hstop hne hroom hreq hfit =>
     exec_dmaIngressTransfer ha hc hst he hring hret hstop hne hroom hreq hfit,
   fun _ _ _ ha hc hst he hret hrb hn hroom htags => exec_dmaEgressTransfer ha hc hst he hret hrb hn hroom htags,
   fun _ _ _ ha hc hst he hret hrb => exec_dmaReadbackDone ha hc hst he hret hrb,
   fun _ _ _ ha hc hst he hret hrb => exec_dmaBusError ha hc hst he hret hrb,
   fun _ _ ha hc hst hret => exec_dmaRetry ha hc hst hret⟩

end Sys2Proof.Machine

namespace Sys2Proof.Machine

/-! ## The settings and registers of a DMA channel -/

section
variable {s : State} {h : MbHdr} {c : Nat} {f : State → State} {g : Dma → Dma}

/-- A command that changes one channel alone. -/
theorem mbCmd_updDma {k : MbCheck} {i : Instr} {body : State → Answer} (hs : Safety.served s h k.len = true) (hr : k.rsv = false)
    (hz : k.zero = false) (hg : k.gated (s.mbStart h) = false) (hb : body (s.mbStart h) = ok ((s.mbStart h).updDma c g)) :
    ∃ t, mbCmd h i (mbServe k h body) s = .next t ∧ Safety.Answered h k.op 0 [] s t ∧ t = { s with host := t.host, dma := t.dma } ∧
      t.dmaN c = g (s.dmaN c) ∧ ∀ d, d ≠ c → t.dmaN d = s.dmaN d := by
  obtain ⟨t, e, ha, ho, ht⟩ := mbCmd_done_answered (i := i) hs hr hz hg hb (State.updDma_only _ _ _) (by decide)
  have hdma : ∀ d, t.dmaN d = ((s.mbStart h).updDma c g).dmaN d := fun d => by rw [ht]; rfl
  exact ⟨t, e, ha, (ho.mono (qs := [.host, .alert, .dma]) (by decide)).eq_patch, (hdma c).trans (State.dmaN_updDma_same _ _ _),
    fun d hd => (hdma d).trans (State.dmaN_updDma_ne _ _ _ _ hd)⟩

/-- While the link is up an access of the host acts as an event does. -/
theorem hostAcc_eq_evt (hl : s.host.live = true) : hostAcc f s = evt f s := by
  rw [hostAcc, evt, hl, Bool.and_true]

/-- A register access that changes one channel. -/
theorem hostAcc_updDma (ha : s.alive = true) (hl : s.host.live = true) (hf : f s = s.updDma c g) :
    ∃ t, hostAcc f s = .next t ∧ Safety.Quiet s t ∧ t = { s with host := t.host, dma := t.dma } ∧ t.dmaN c = g (s.dmaN c) ∧
      ∀ d, d ≠ c → t.dmaN d = s.dmaN d := by
  rw [hostAcc_eq_evt hl]
  exact evt_updDma ha hf

/-- One that changes what the host interface holds besides. -/
theorem hostAcc_updHostDma {k : HostIf → HostIf} (ha : s.alive = true) (hl : s.host.live = true)
    (hf : f s = (s.updHost k).updDma c g) :
    ∃ t, hostAcc f s = .next t ∧ t = { s with host := t.host, dma := t.dma } ∧ (∀ d, d ≠ c → t.dmaN d = s.dmaN d) ∧
      t.dmaN c = g (s.dmaN c) := by
  obtain ⟨t, hx, -, ht⟩ := hostAcc_next (f := f) ha hl
  rw [hf] at ht
  have hdma : ∀ d, t.dmaN d = (s.updDma c g).dmaN d := fun d => by rw [ht]; rfl
  exact ⟨t, hx, ht.trans (by rw [ht]; rfl), fun d hd => (hdma d).trans (State.dmaN_updDma_ne _ _ _ _ hd),
    (hdma c).trans (State.dmaN_updDma_same _ _ _)⟩

/-! ### DMA_SET_CHANNEL and DMA_GET_CHANNEL -/

theorem exec_dmaSetChannel {p : DmaReq} (hs : Safety.served s h 32 = true) (hr : p.rsv = 0) (hbad : dmaBad p s = none) :
    ∃ t, exec (.dmaSetChannel h p) s = .next t ∧ Safety.Answered h 0x1201 0 [] s t ∧ t = { s with host := t.host, dma := t.dma } ∧
      t.dmaN p.channel.toNat = (s.dmaN p.channel.toNat).configured p ∧ ∀ c, c ≠ p.channel.toNat → t.dmaN c = s.dmaN c := by
  have hgood : dmaBad p (s.mbStart h) = none := hbad
  exact mbCmd_updDma (k := { op := 0x1201, len := 32, rsv := p.rsv != 0 })
    (body := fun s => checked (dmaBad p s) (fun s => ok (s.updDma p.channel.toNat (Dma.configured p))) s)
    hs (by simp [hr]) rfl rfl (by simp only [hgood, checked])

theorem exec_dmaGetChannel {ch : Byte} (hs : Safety.served s h 4 = true) (hc : ch.toNat ≤ 31) :
    ∃ t, exec (.dmaGetChannel h ch 0) s = .next t ∧ Safety.Answered h 0x1202 0 ((s.dmaN ch.toNat).bytes ch.toNat) s t ∧
      t = { s with host := t.host } :=
  mbCmd_answer (c := { op := 0x1202, len := 4 })
    (body := fun s => if 31 < ch.toNat then fail 0x1206 s else okWith ((s.dmaN ch.toNat).bytes ch.toNat) s) hs rfl rfl rfl
    (if_neg (not_lt.2 hc))

/-! ### RUN, STOP and CLEAR -/

/-- A request of the channel is outstanding, or one waits for its retry. -/
def Dma.outstanding (d : Dma) : Bool := d.retrying || d.rbOpen.isSome || !d.reqs.isEmpty

theorem Dma.start_eq {d : Dma} (hst : d.st = .ready ∨ d.st = .stopped) : d.start = { d with st := .running, runHeld := false } :=
  if_pos hst

theorem Dma.halt_idle {d : Dma} (hst : d.st = .running) (ho : d.outstanding = false) : d.halt = { d with st := .stopped } :=
  (if_neg (not_not.2 hst)).trans (if_neg (Bool.eq_false_iff.1 ho))

theorem Dma.halt_outstanding {d : Dma} (hst : d.st = .running) (ho : d.outstanding = true) : d.halt = { d with stopping := true } :=
  (if_neg (not_not.2 hst)).trans (if_pos ho)

/-- A cleared channel (Table 11-9; the error with it, log 90). -/
def Dma.cleared (d : Dma) : Dma :=
  { d with
    st := .ready, remain := 0, err := 0, retrying := false, rbOpen := none, reqs := [], retriesLeft := d.retries, stopping := false }

theorem State.dmaClear_egress (hc : c < 32) (he : (s.dmaN c).egress = true)
    (hst : (s.dmaN c).st = .halted ∨ (s.dmaN c).st = .done ∨ (s.dmaN c).st = .stopped) :
    s.dmaClear c = s.updDma c Dma.cleared := by
  have hgo : (decide (32 ≤ c) || !((s.dmaN c).st == .halted || (s.dmaN c).st == .done || (s.dmaN c).st == .stopped)) = false := by
    rcases hst with hst | hst | hst <;> rw [hst, decide_eq_false (not_le.2 hc)] <;> rfl
  simp only [State.dmaClear, hgo, he, Bool.false_eq_true, if_false, if_true]
  rfl

theorem exec_run (ha : s.alive = true) (hl : s.host.live = true) (hc : c < 32) (h6 : s.stepAccepted 6 = false)
    (hst : (s.dmaN c).st = .ready ∨ (s.dmaN c).st = .stopped) :
    ∃ t, exec (.run c false) s = .next t ∧ Safety.Quiet s t ∧ t = { s with host := t.host, dma := t.dma } ∧
      t.dmaN c = { s.dmaN c with st := .running, runHeld := false } ∧ ∀ d, d ≠ c → t.dmaN d = s.dmaN d := by
  have hrun : s.dmaRun c false = s.updDma c Dma.start := by
    rw [State.dmaRun, if_neg (not_le.2 hc), if_neg Bool.false_ne_true, if_neg (Bool.eq_false_iff.1 h6)]
  rw [← Dma.start_eq hst]
  exact hostAcc_updDma (f := State.dmaRun c false) ha hl hrun

/-- STOP of any channel. -/
theorem exec_stop (ha : s.alive = true) (hl : s.host.live = true) (hc : c < 32) :
    ∃ t, exec (.stop c) s = .next t ∧ Safety.Quiet s t ∧ t = { s with host := t.host, dma := t.dma } ∧
      t.dmaN c = (s.dmaN c).halt ∧ ∀ d, d ≠ c → t.dmaN d = s.dmaN d :=
  hostAcc_updDma (f := fun s => if c < 32 then s.updDma c Dma.halt else s) ha hl (if_pos hc)

theorem exec_clear (ha : s.alive = true) (hl : s.host.live = true) (hc : c < 32) (he : (s.dmaN c).egress = true)
    (hst : (s.dmaN c).st = .halted ∨ (s.dmaN c).st = .done ∨ (s.dmaN c).st = .stopped) :
    ∃ t, exec (.clear c) s = .next t ∧ Safety.Quiet s t ∧ t = { s with host := t.host, dma := t.dma } ∧
      t.dmaN c = (s.dmaN c).cleared ∧ ∀ d, d ≠ c → t.dmaN d = s.dmaN d :=
  hostAcc_updDma (f := State.dmaClear c) ha hl (State.dmaClear_egress hc he hst)

/-! ### Pointers and count -/

/-- A pointer write keeps alignment, order and size (R321). -/
theorem Dma.badPtr_eq_false_iff (d : Dma) (old prod cons v : Nat) : d.badPtr old prod cons v = false ↔
    v % 8 = 0 ∧ old ≤ v ∧ cons ≤ prod ∧ prod - cons ≤ 2 ^ d.ringLog2 := by
  simp [Dma.badPtr, and_assoc]

/-- The write of a whole pointer, which is refused or taken. -/
theorem Dma.ite_badPtr (d x y : Dma) (old prod cons v : Nat) : (if d.badPtr old prod cons v then x else y) =
    if v % 8 = 0 ∧ old ≤ v ∧ cons ≤ prod ∧ prod - cons ≤ 2 ^ d.ringLog2 then y else x := by
  simp only [← d.badPtr_eq_false_iff old prod cons v]
  cases d.badPtr old prod cons v <;> rfl

/-- DMA_PROD takes a value, or PTR_ERR is set (R321). -/
def Dma.setProd (v : BitVec 64) (d : Dma) : Dma :=
  if d.badPtr d.prod.toNat v.toNat d.cons.toNat v.toNat then { d with ptrErr := true } else { d with prod := v }

/-- DMA_CONS takes a value, or PTR_ERR is set (R321). -/
def Dma.setCons (v : BitVec 64) (d : Dma) : Dma :=
  if d.badPtr d.cons.toNat d.prod.toNat v.toNat v.toNat then { d with ptrErr := true } else { d with cons := v }

/-- A write of a whole 64-bit register leaves no half held (R333). -/
def HostIf.dropHalf (key : Nat) (h : HostIf) : HostIf := { h with loHeld := h.loHeld.set none key none }

theorem State.prodWrite_whole (v : BitVec 64) (hc : c < 32) (he : (s.dmaN c).egress = false) :
    s.prodWrite c (.whole v) = (s.updHost (HostIf.dropHalf (2 * c))).updDma c (Dma.setProd v) :=
  if_neg (by simp [hc, he])

theorem State.consWrite_whole (v : BitVec 64) (hc : c < 32) (he : (s.dmaN c).egress = true) :
    s.consWrite c (.whole v) = (s.updHost (HostIf.dropHalf (2 * c + 1))).updDma c (Dma.setCons v) :=
  if_neg (by simp [hc, he])

theorem exec_dmaProdWrite (v : BitVec 64) (ha : s.alive = true) (hl : s.host.live = true) (hc : c < 32)
    (he : (s.dmaN c).egress = false) :
    ∃ t, exec (.dmaProdWrite c (.whole v)) s = .next t ∧
      t = { s with host := t.host, dma := t.dma } ∧ (∀ d, d ≠ c → t.dmaN d = s.dmaN d) ∧
      t.dmaN c = if v.toNat % 8 = 0 ∧ (s.dmaN c).prod.toNat ≤ v.toNat ∧ (s.dmaN c).cons.toNat ≤ v.toNat ∧
        v.toNat - (s.dmaN c).cons.toNat ≤ 2 ^ (s.dmaN c).ringLog2 then { s.dmaN c with prod := v }
        else { s.dmaN c with ptrErr := true } := by
  rw [← Dma.ite_badPtr]
  exact hostAcc_updHostDma (f := State.prodWrite c (.whole v)) ha hl (State.prodWrite_whole v hc he)

theorem exec_dmaConsWrite (v : BitVec 64) (ha : s.alive = true) (hl : s.host.live = true) (hc : c < 32)
    (he : (s.dmaN c).egress = true) :
    ∃ t, exec (.dmaConsWrite c (.whole v)) s = .next t ∧
      t = { s with host := t.host, dma := t.dma } ∧ (∀ d, d ≠ c → t.dmaN d = s.dmaN d) ∧
      t.dmaN c = if v.toNat % 8 = 0 ∧ (s.dmaN c).cons.toNat ≤ v.toNat ∧ v.toNat ≤ (s.dmaN c).prod.toNat ∧
        (s.dmaN c).prod.toNat - v.toNat ≤ 2 ^ (s.dmaN c).ringLog2 then { s.dmaN c with cons := v }
        else { s.dmaN c with ptrErr := true } := by
  rw [← Dma.ite_badPtr]
  exact hostAcc_updHostDma (f := State.consWrite c (.whole v)) ha hl (State.consWrite_whole v hc he)

theorem exec_dmaCountAdd (v : BitVec 32) (ha : s.alive = true) (hl : s.host.live = true) (hc : c < 32) :
    ∃ t, exec (.dmaCountAdd c v) s = .next t ∧ Safety.Quiet s t ∧ t = { s with host := t.host, dma := t.dma } ∧
      t.dmaN c = (s.dmaN c).add v ∧ ∀ d, d ≠ c → t.dmaN d = s.dmaN d :=
  hostAcc_updDma (f := fun s => if c < 32 then s.updDma c (Dma.add v) else s) ha hl (if_pos hc)

end

/-- Settles O31: each command and register access by the one channel it changes. That a COUNT_ADD that is no multiple of 8 is
refused, that DMA_SET_CHANNEL keeps REMAIN, and that CLEAR zeroes the error, is log 90. -/
theorem dmaChannelsSet : Obligations.DmaChannelsSet := by
  refine ⟨fun _ _ _ hs hr hbad => exec_dmaSetChannel hs hr hbad, fun _ _ _ hs hc => exec_dmaGetChannel hs hc,
    fun _ _ ha hl hc h6 hst => exec_run ha hl hc h6 hst, fun s c ha hl hc hst ho => ?_, fun s c ha hl hc hst ho => ?_,
    fun _ _ ha hl hc he hst => exec_clear ha hl hc he hst, fun _ _ v ha hl hc he => exec_dmaProdWrite v ha hl hc he,
    fun _ _ v ha hl hc he => exec_dmaConsWrite v ha hl hc he, fun s c v ha hl hc => ?_⟩
  · rw [← Dma.halt_idle hst ho]
    exact exec_stop ha hl hc
  · rw [← Dma.halt_outstanding hst ho]
    exact exec_stop ha hl hc
  · obtain ⟨t, hx, hq, ht, hown, hothers⟩ := exec_dmaCountAdd v ha hl hc
    exact ⟨t, hx, hq, ht, hothers, hown⟩

end Sys2Proof.Machine

namespace Sys2Proof.Machine

/-! ## What retiring a DRAM channel leaves

A channel that retires while running is RETIRING, journaled, and a replacement cause with its event and alerts (R314, R315). -/

section
variable (s : State)

theorem State.logEventR_rises (replace : Bool) (code inst data : Nat) : Rises s (s.logEventR replace code inst data) := by
  have hsecond : Rises s s.logSecond := s.logSecond_only.rises (by decide)
  have hlog : ∀ g : Log → Log, Rises s (s.logSecond.updLog g) := fun g =>
    hsecond.trans ((State.updLog_only _ g).rises (by decide))
  unfold State.logEventR
  exact .ite (hlog _) (.ite ((hlog _).trans (State.raise_rises _ _ _)) (hlog _))

theorem State.setCause_rises (k i : Nat) : Rises s (s.setCause k i) := by
  unfold State.setCause
  exact .ite (.refl s) ((((s.updHealth_only _).rises (by decide)).trans (State.raise_rises _ _ _)).trans
    (State.logEventR_rises _ _ _ _ _))

/-- A cause that is set is active (R377). -/
theorem State.setCause_active {k : Nat} (hk : k < 11) (i : Nat) : (s.setCause k i).health.active.getLsbD k = true := by
  unfold State.setCause
  split
  case isTrue h => exact (Bool.and_eq_true_iff.1 h).1
  case isFalse => simp [State.raise, hk]

variable {s} {c : Nat}

/-- One channel alone retires (R314). -/
theorem State.retireChannel_up (h : s.chDown = none) : s.retireChannel c =
    (((s.updDram fun d => { d with retiring := some c }).updNvm fun n => { n with id := { n.id with retiredCh := some c } }).raise
      .dram 3).setCause 0 c := by
  rw [State.retireChannel, h]
  rfl

theorem State.retireChannel_down (h : s.chDown ≠ none) : s.retireChannel c = s :=
  if_pos (Option.isSome_iff_ne_none.2 h)

theorem State.retireChannel_only (s : State) (c : Nat) : Only [.dram, .nvm, .health, .log, .alert] s (s.retireChannel c) := by
  unfold State.retireChannel
  exact .ite (.refl s) (((((s.updDram_only _).step (State.updNvm_only _ _)).step (State.raise_only _ _ _)).step
    (State.setCause_only _ _ _)).mono (by decide))

theorem State.retireChannel_rises (s : State) (c : Nat) : Rises s (s.retireChannel c) := by
  unfold State.retireChannel
  exact .ite (.refl s) ((((((s.updDram_only _).rises (by decide)).trans ((State.updNvm_only _ _).rises (by decide))).trans
    (State.raise_rises _ _ _))).trans (State.setCause_rises _ _ _))

theorem State.retireChannel_dram (h : s.chDown = none) : (s.retireChannel c).dram = { s.dram with retiring := some c } := by
  rw [State.retireChannel_up h, State.setCause_dram]
  rfl

theorem State.retireChannel_nvm (h : s.chDown = none) :
    (s.retireChannel c).nvm = { s.nvm with id := { s.nvm.id with retiredCh := some c } } := by
  rw [State.retireChannel_up h, State.setCause_nvm]
  rfl

theorem State.retireChannel_active (h : s.chDown = none) : (s.retireChannel c).health.active.getLsbD 0 = true := by
  rw [State.retireChannel_up h]
  exact State.setCause_active _ (by decide) _

/-- DRAM_ALERT.CH_RETIRING (Table 11-4). -/
theorem State.retireChannel_raised (h : s.chDown = none) : Safety.Raised .dram 3 (s.retireChannel c) := by
  rw [State.retireChannel_up h]
  exact State.setCause_rises _ _ _ _ _ (State.raised_raise (by decide))

/-- Of the controller's own data retiring changes RETIRING alone. -/
theorem State.retireChannel_frame (s : State) (c : Nat) :
    (s.retireChannel c).dram = { s.dram with retiring := (s.retireChannel c).dram.retiring } := by
  by_cases h : s.chDown = none
  · rw [State.retireChannel_dram h]
  · rw [State.retireChannel_down h]

end

end Sys2Proof.Machine

namespace Sys2Proof.Machine

/-! ## Scrub, hotspot, drift and errors of DRAM -/

section
variable {s : State} {c d : Nat}

theorem exec_scrubDone (ha : s.alive = true) :
    ∃ t, exec .scrubDone s = .next t ∧ Safety.Alerted s t ∧ Safety.Raised .dram 4 t ∧ t = { s with host := t.host } := by
  obtain ⟨t, hx, hal, -, ho, hsent⟩ := evt_only (f := State.raise .dram 4) ha (s.raise_only _ _) (by decide)
  exact ⟨t, hx, hal, raised_of_only hsent (State.raised_raise (by decide)), ho.eq_patch⟩

/-- An event that changes the controller's data alone. -/
theorem evt_updDram {f : State → State} {g : Dram → Dram} (ha : s.alive = true) (hf : f s = s.updDram g) :
    ∃ t, evt f s = .next t ∧ Safety.Quiet s t ∧ t = { s with host := t.host, dram := g s.dram } :=
  evt_quiet ha hf (s.updDram_only g) (by decide)

/-! ### HOTSPOT_WINDOW_END -/

theorem State.hotspotEnd_nil (s : State) : s.hotspotEnd [] = s.updDram fun d => { d with mapHotspot := false } := by
  rw [State.hotspotEnd]
  exact if_neg (Nat.not_lt_zero _)

theorem exec_hotspotWindowEnd_none (ha : s.alive = true) :
    ∃ t, exec (.hotspotWindowEnd []) s = .next t ∧ Safety.Quiet s t ∧
      t = { s with host := t.host, dram := { s.dram with mapHotspot := false } } :=
  evt_updDram (f := State.hotspotEnd []) ha s.hotspotEnd_nil

theorem State.addConflicts_only (b n : Nat) (s : State) : Only [.dram] s (s.addConflicts b n) := by
  unfold State.addConflicts
  exact s.updDram_only _

/-- A bank over the limit is counted to its channel (R313). -/
theorem State.addConflicts_hot {b n : Nat} (h : s.dram.hotLimit < n) :
    (s.addConflicts b n).dram.hotWindows = s.dram.hotWindows.upd 0 (b / s.boot.board.banks) (· + 1) := by
  simp only [State.addConflicts, State.updDram_dram, h, decide_true, if_true]

/-- A window with one bank, over the limit. -/
theorem State.hotspotEnd_over {b n : Nat} (h : s.dram.hotLimit < n) : s.hotspotEnd [(b, n)] =
    (((s.addConflicts b n).updDram fun d => { d with mapHotspot := true }).raise .dram 2).logEvent 0x1101 b
      (b % 256 + n % 2 ^ 32 * 256) := by
  have hworst : [(b, n)].foldl (fun m c => if m.2 < c.2 then c else m) (0, 0) = (b, n) := if_pos (Nat.zero_lt_of_lt h)
  rw [State.hotspotEnd, hworst]
  exact if_pos h

theorem exec_hotspotWindowEnd_over {b n : Nat} (ha : s.alive = true) (h : s.dram.hotLimit < n) :
    ∃ t, exec (.hotspotWindowEnd [(b, n)]) s = .next t ∧ Safety.Alerted s t ∧ Safety.Raised .dram 2 t ∧
      t = { s with host := t.host, dram := t.dram, log := t.log } ∧ t.dram.mapHotspot = true ∧
      t.dram.hotWindows.get 0 (b / s.boot.board.banks) = s.dram.hotWindows.get 0 (b / s.boot.board.banks) + 1 := by
  have hover := State.hotspotEnd_over (b := b) h
  have hframe : Only [.dram, .log, .alert] s (s.hotspotEnd [(b, n)]) := by
    rw [hover]
    exact ((((s.addConflicts_only b n).step (State.updDram_only _ _)).step (State.raise_only _ _ _)).step
      (State.logEvent_only _ _ _ _)).mono (by decide)
  obtain ⟨t, hx, hal, -, ho, hsent⟩ := evt_only (f := State.hotspotEnd [(b, n)]) ha hframe (by decide)
  have hdram : t.dram = { (s.addConflicts b n).dram with mapHotspot := true } := by
    rw [show t.dram = (s.hotspotEnd [(b, n)]).dram from hsent .dram (by decide), hover, State.logEvent_dram]
    rfl
  refine ⟨t, hx, hal, raised_of_only hsent ?_, (ho.mono (qs := [.host, .alert, .dram, .log]) (by decide)).eq_patch,
    by rw [hdram], ?_⟩
  · rw [hover]
    exact State.raised_logEvent _ _ _ (State.raised_raise (by decide))
  · rw [hdram]
    exact (congrArg (SMap.get 0 · _) (State.addConflicts_hot h)).trans (SMap.get_upd_same _ _ _ _)

/-! ### DQS_DRIFT_CHECK -/

theorem State.dqsCheck_run {rank drift : Nat} (hrun : s.pwr.st = .run) (hr : s.isReady = true)
    (hrank : rank < 2 * s.boot.board.ranks) : s.dqsCheck rank drift = s.updDram fun d =>
      if 4 < drift then { d with dqsAdjust := d.dqsAdjust.upd 0 rank (· + 1) } else d := by
  by_cases h : 4 < drift <;> simp [State.dqsCheck, hrun, hr, hrank, h, State.updDram]

theorem exec_dqsDriftCheck {rank drift : Nat} (ha : s.alive = true) (hrun : s.pwr.st = .run) (hr : s.isReady = true)
    (hrank : rank < 2 * s.boot.board.ranks) :
    ∃ t, exec (.dqsDriftCheck rank drift) s = .next t ∧ Safety.Quiet s t ∧ t = { s with host := t.host, dram := t.dram } ∧
      t.dram = if 4 < drift then { s.dram with dqsAdjust := s.dram.dqsAdjust.upd 0 rank (· + 1) } else s.dram := by
  obtain ⟨t, hx, hq, ht⟩ := evt_updDram (f := State.dqsCheck rank drift) ha (State.dqsCheck_run hrun hr hrank)
  exact ⟨t, hx, hq, ht.trans (by rw [ht]), by rw [ht]⟩

/-! ### DRAM_CORRECTED_ERROR -/

/-- The errors of a channel in the present clock hour, this one with them (R314). -/
def State.ceInHour (s : State) (c : Nat) : Nat :=
  (if (s.dram.ceHour.get (0, 0) c).1 = s.hourNow then (s.dram.ceHour.get (0, 0) c).2 else 0) + 1

/-- A corrected error counted (R312). -/
def State.countCe (c : Nat) (s : State) : State :=
  (s.updDram fun d => { d with ce := d.ce.upd 0 c (· + 1), ceHour := d.ceHour.set (0, 0) c (s.hourNow, s.ceInHour c) }).raise .dram 0

theorem State.correctedError_eq (h : s.channelUp c = true) : s.correctedError c =
    if s.dram.ceLimit < s.ceInHour c then (s.countCe c).retireChannel c else s.countCe c := by
  rw [State.correctedError, h]
  rfl

theorem State.countCe_only (s : State) (c : Nat) : Only [.dram, .alert] s (s.countCe c) :=
  (s.updDram_only _).step (State.raise_only _ _ _)

theorem State.countCe_ce (s : State) (c : Nat) : (s.countCe c).dram.ce.get 0 c = s.dram.ce.get 0 c + 1 :=
  SMap.get_upd_same 0 s.dram.ce c (· + 1)

/-- Whether or not it retires the channel, the error is counted and CE is set. -/
theorem State.correctedError_spec (h : s.channelUp c = true) :
    Only [.dram, .nvm, .health, .log, .alert] s (s.correctedError c) ∧ Safety.Raised .dram 0 (s.correctedError c) ∧
    (s.correctedError c).dram.ce.get 0 c = s.dram.ce.get 0 c + 1 := by
  have hcount : Only [.dram, .nvm, .health, .log, .alert] s (s.countCe c) := (s.countCe_only c).mono (by decide)
  have hce : Safety.Raised .dram 0 (s.countCe c) := State.raised_raise (by decide)
  rw [State.correctedError_eq h]
  split
  · refine ⟨hcount.trans ((s.countCe c).retireChannel_only c), (s.countCe c).retireChannel_rises c _ _ hce, ?_⟩
    rw [State.retireChannel_frame]
    exact s.countCe_ce c
  · exact ⟨hcount, hce, s.countCe_ce c⟩

/-- The error that exceeds CE_LIMIT in its clock hour retires the channel (R314). -/
theorem State.correctedError_retires (h : s.channelUp c = true) (hdown : s.chDown = none)
    (hfull : s.dram.ceHour.get (0, 0) c = (s.hourNow, s.dram.ceLimit)) :
    (s.correctedError c).dram.retiring = some c ∧ Safety.Raised .dram 3 (s.correctedError c) := by
  have hin : s.ceInHour c = s.dram.ceLimit + 1 := by rw [State.ceInHour, hfull, if_pos rfl]
  rw [State.correctedError_eq h, if_pos (by omega)]
  have hdown : (s.countCe c).chDown = none := hdown
  exact ⟨by rw [State.retireChannel_dram hdown], State.retireChannel_raised hdown⟩

theorem exec_dramCorrectedError (a : BitVec 64) (ha : s.alive = true) (h : s.channelUp c = true) :
    ∃ t, exec (.dramCorrectedError c a) s = .next t ∧ Safety.Alerted s t ∧ Safety.Raised .dram 0 t ∧
      t = { s with host := t.host, dram := t.dram, nvm := t.nvm, health := t.health, log := t.log } ∧
      t.dram.ce.get 0 c = s.dram.ce.get 0 c + 1 ∧
      (s.chDown = none → s.dram.ceHour.get (0, 0) c = (s.hourNow, s.dram.ceLimit) →
        t.dram.retiring = some c ∧ Safety.Raised .dram 3 t) := by
  obtain ⟨honly, hraised, hce⟩ := State.correctedError_spec h
  obtain ⟨t, hx, hal, -, ho, hsent⟩ := evt_only (f := State.correctedError c) ha honly (by decide)
  have hdram : t.dram = (s.correctedError c).dram := hsent .dram (by decide)
  refine ⟨t, hx, hal, raised_of_only hsent hraised,
    (ho.mono (qs := [.host, .alert, .dram, .nvm, .health, .log]) (by decide)).eq_patch, by rw [hdram, hce], fun hdown hfull => ?_⟩
  obtain ⟨hretiring, hretired⟩ := State.correctedError_retires h hdown hfull
  exact ⟨by rw [hdram, hretiring], raised_of_only hsent hretired⟩

/-! ### DRAM_UE -/

/-- Whether or not it retires the channel, an uncorrectable error is counted and UE is set (R312, R314). -/
theorem State.countUe_spec (s : State) (c : Nat) (a : BitVec 64) :
    Only [.dram, .nvm, .health, .log, .alert] s (s.countUe c a) ∧ Safety.Raised .dram 1 (s.countUe c a) ∧
    (s.countUe c a).dram.ue.get 0 c = s.dram.ue.get 0 c + 1 := by
  unfold State.countUe
  extract_lets recent s1 s2
  have hcount : Only [.dram, .nvm, .health, .log, .alert] s s2 :=
    (((s.updDram_only _).step (s1.raise_only _ _)).step (State.logEvent_only _ _ _ _)).mono (by decide)
  have hraised : Safety.Raised .dram 1 s2 := State.raised_logEvent _ _ _ (State.raised_raise (by decide))
  have hue : s2.dram.ue.get 0 c = s.dram.ue.get 0 c + 1 := by
    rw [show s2.dram = s1.dram from State.logEvent_dram _ _ _ _]
    exact SMap.get_upd_same 0 s.dram.ue c (· + 1)
  split
  · exact ⟨hcount, hraised, hue⟩
  · refine ⟨hcount.trans (s2.retireChannel_only c), s2.retireChannel_rises c _ _ hraised, ?_⟩
    rw [State.retireChannel_frame]
    exact hue

/-- The running egress channel that read poisoned data halts with code 5 (R312). -/
theorem State.poison_egress (hd : d < 32) (hst : (s.dmaN d).st = .running) (he : (s.dmaN d).egress = true) :
    s.poison (.egress d) = s.updDma d (Dma.stopWith 0x05) := if_pos ⟨hd, hst, he⟩

theorem exec_dramUe_egress (a : BitVec 64) (ha : s.alive = true) (hc : c < 2) (hd : d < 32) (hst : (s.dmaN d).st = .running)
    (he : (s.dmaN d).egress = true) :
    ∃ t, exec (.dramUe c a (.egress d)) s = .next t ∧ Safety.Alerted s t ∧ Safety.Raised .dram 1 t ∧
      t = { s with host := t.host, dram := t.dram, nvm := t.nvm, health := t.health, log := t.log, dma := t.dma } ∧
      t.dram.ue.get 0 c = s.dram.ue.get 0 c + 1 ∧ (t.dmaN d).st = .halted ∧ (t.dmaN d).err = 5 ∧ (t.dmaN d).haltSet = true := by
  obtain ⟨honly, hraised, hue⟩ := s.countUe_spec c a
  have hsame : (s.countUe c a).dmaN d = s.dmaN d := State.dmaN_of_only honly (by decide) d
  let u := (s.countUe c a).updDma d (Dma.stopWith 0x05)
  have hpoison : (if c < 2 then (s.countUe c a).poison (.egress d) else s) = u := by
    rw [if_pos hc, State.poison_egress hd (by rw [hsame, hst]) (by rw [hsame, he])]
  have hframe : Only [.dram, .nvm, .health, .log, .alert, .dma] s u := honly.step (State.updDma_only _ _ _)
  obtain ⟨t, hx, hal, -, ho, hsent⟩ := evt_only (f := fun s => if c < 2 then (s.countUe c a).poison (.egress d) else s) ha
    (hpoison.symm ▸ hframe) (by decide)
  rw [hpoison] at hsent
  have hdma : t.dmaN d = Dma.stopWith 0x05 ((s.countUe c a).dmaN d) :=
    (State.dmaN_of_only hsent (by decide) d).trans (State.dmaN_updDma_same _ _ _)
  refine ⟨t, hx, hal, raised_of_only hsent (raised_of_alert rfl hraised),
    (ho.mono (qs := [.host, .alert, .dram, .nvm, .health, .log, .dma]) (by decide)).eq_patch, ?_, ?_⟩
  · rw [show t.dram = (s.countUe c a).dram from hsent .dram (by decide), hue]
  · rw [hdma]
    exact ⟨rfl, rfl, rfl⟩

end

/-- Settles O38: a window (its banks numbered as log 89 has them) and a drift by what they change of the controller, an error by its
count, whether or not it retires its channel. -/
theorem dramErrorsAct : Obligations.DramErrorsAct :=
  ⟨fun _ ha => exec_scrubDone ha, fun _ ha => exec_hotspotWindowEnd_none ha, fun _ _ _ ha h => exec_hotspotWindowEnd_over ha h,
   fun _ _ _ ha hrun hr hrank => exec_dqsDriftCheck ha hrun hr hrank, fun _ _ a ha h => exec_dramCorrectedError a ha h,
   fun _ _ _ a ha hc hd hst he => exec_dramUe_egress a ha hc hd hst he⟩

end Sys2Proof.Machine

namespace Sys2Proof.Machine

/-! ## The DRAM commands

A change of map or of regions leaves what it moves undefined (log 10), so that DRAM and the free values change with it; the other
commands change settings of the controller alone, or a record of the journal. -/

section
variable {s : State} {h : MbHdr}

theorem State.dramUndefine_only (s : State) (lo hi : Nat) : Only [.dram, .free] s (s.dramUndefine lo hi) := .of_eq rfl (by decide)

/-- A command that changes the controller's data alone. -/
theorem mbCmd_updDram {c : MbCheck} {i : Instr} {body : State → Answer} {g : Dram → Dram} (hs : Safety.served s h c.len = true)
    (hr : c.rsv = false) (hz : c.zero = false) (hg : c.gated (s.mbStart h) = false)
    (hb : body (s.mbStart h) = ok ((s.mbStart h).updDram g)) :
    ∃ t, mbCmd h i (mbServe c h body) s = .next t ∧ Safety.Answered h c.op 0 [] s t ∧
      t = { s with host := t.host, dram := g s.dram } := by
  obtain ⟨t, e, ha, -, ht⟩ := mbCmd_done_answered (i := i) hs hr hz hg hb (State.updDram_only _ _) (by decide)
  exact ⟨t, e, ha, ht⟩

/-- A command that journals a record and leaves contents of DRAM undefined. -/
theorem mbCmd_undefine {c : MbCheck} {i : Instr} {body : State → Answer} {u : State} (hs : Safety.served s h c.len = true)
    (hr : c.rsv = false) (hz : c.zero = false) (hg : c.gated (s.mbStart h) = false) (hb : body (s.mbStart h) = ok u)
    (hu : Only [.dram, .nvm, .free] (s.mbStart h) u) :
    ∃ t, mbCmd h i (mbServe c h body) s = .next t ∧ Safety.Answered h c.op 0 [] s t ∧
      t = { s with host := t.host, dram := t.dram, nvm := u.nvm, free := t.free } ∧ t.dram = u.dram := by
  obtain ⟨t, e, ha, ho, ht⟩ := mbCmd_done_answered (i := i) hs hr hz hg hb hu (by decide)
  have hnvm : t.nvm = u.nvm := by rw [ht]
  refine ⟨t, e, ha, ?_, by rw [ht]⟩
  rw [← hnvm]
  exact (ho.mono (qs := [.host, .alert, .dram, .nvm, .free]) (by decide)).eq_patch

/-! ### The reports -/

theorem exec_dramGetConfig (hs : Safety.served s h 0 = true) :
    ∃ t, exec (.dramGetConfig h) s = .next t ∧ Safety.Answered h 0x1101 0 s.dramConfig s t ∧ t = { s with host := t.host } :=
  mbCmd_answer hs rfl rfl rfl rfl

theorem exec_dramGetRegions (hs : Safety.served s h 0 = true) :
    ∃ t, exec (.dramGetRegions h) s = .next t ∧
      Safety.Answered h 0x1104 0 ((List.range 7).flatMap fun i => le 8 (s.region i).1 ++ le 8 (s.region i).2) s t ∧
      t = { s with host := t.host } :=
  mbCmd_answer hs rfl rfl rfl rfl

/-- The burst counts are free values (log 6). -/
theorem exec_dramGetCounters {c : Byte} (hs : Safety.served s h 4 = true) (hc : c.toNat ≤ 1) :
    ∃ t r w, exec (.dramGetCounters h c 0) s = .next t ∧
      Safety.Answered h 0x1107 0 (le 8 r ++ le 8 w ++ le 8 (s.dram.ce.get 0 c.toNat).toNat ++ le 8 (s.dram.ue.get 0 c.toNat).toNat ++
        le 8 (s.dram.hotWindows.get 0 c.toNat).toNat ++ le 8 (s.dram.conflicts.get 0 c.toNat).toNat ++
        le 8 (s.dram.lastBank.get 0 c.toNat).toNat) s t ∧ t = { s with host := t.host, free := t.free } := by
  let s1 := ((s.mbStart h).drawBelow (2 ^ 64)).2
  obtain ⟨t, e, ha, ho, -⟩ := mbCmd_done_answered (i := .dramGetCounters h c 0) (c := { op := 0x1107, len := 4 })
    (body := fun s => if 1 < c.toNat then fail 0x1101 s else dramCounters c.toNat s) hs rfl rfl rfl (if_neg (not_lt.2 hc))
    (((s.mbStart h).drawBelow_only (2 ^ 64)).trans (s1.drawBelow_only (2 ^ 64))) (by decide)
  exact ⟨t, _, _, e, ha, (ho.mono (qs := [.host, .alert, .free]) (by decide)).eq_patch⟩

/-! ### DRAM_SET_MAP -/

/-- A map in force and journaled, before the contents are undefined (R307–R309). -/
def State.mapSet (mode grain : Nat) (ms : List Nat) (s : State) : State :=
  (s.updDram fun d => { d with interleave := mode == 1, grainLog2 := grain, masks := if mode = 0 then some ms else d.masks }).updNvm
    fun n => { n with id := { n.id with map := some (mode, grain, ms) } }

theorem dramSetMapBody_ok {mode grain : Nat} {ms : List Nat}
    (hgood : mode = 0 ∧ grain = 0 ∧ s.masksOk ms = true ∨ mode = 1 ∧ 8 ≤ grain ∧ grain ≤ 16) (hb : s.dramBusy = false) :
    dramSetMapBody mode grain ms s = ok (s.mapSet mode grain ms).remapped := by
  obtain ⟨rfl, rfl, hm⟩ | ⟨rfl, hlo, hhi⟩ := hgood
  · simp only [dramSetMapBody, firstBad, hm, hb]
    rfl
  · simp only [dramSetMapBody, firstBad, if_true, out_eq_false hlo hhi, hb]
    rfl

theorem exec_dramSetMap {mode grain : Byte} {ms : List (BitVec 64)} (hs : Safety.served s h 56 = true)
    (hgood : mode = 0 ∧ grain = 0 ∧ s.masksOk (ms.map BitVec.toNat) = true ∨ mode = 1 ∧ 8 ≤ grain.toNat ∧ grain.toNat ≤ 16)
    (hb : s.dramBusy = false) :
    ∃ t, exec (.dramSetMap h mode grain 0 ms) s = .next t ∧ Safety.Answered h 0x1102 0 [] s t ∧
      t = { s with host := t.host, dram := t.dram, nvm := { s.nvm with id := { s.nvm.id with
              map := some (mode.toNat, grain.toNat, ms.map BitVec.toNat) } }, free := t.free } ∧
      t.dram.interleave = (mode == 1) ∧ t.dram.grainLog2 = grain.toNat ∧ t.dram.regions = s.dram.regions ∧
      (mode = 0 → t.dram.masks = some (ms.map BitVec.toNat)) := by
  have hmode : mode = 0 ∨ mode = 1 := hgood.imp And.left And.left
  have hnat : mode.toNat = 0 ∧ grain.toNat = 0 ∧ s.masksOk (ms.map BitVec.toNat) = true ∨
      mode.toNat = 1 ∧ 8 ≤ grain.toNat ∧ grain.toNat ≤ 16 :=
    hgood.imp (fun ⟨h1, h2, h3⟩ => ⟨by rw [h1]; rfl, by rw [h2]; rfl, h3⟩) (fun ⟨h1, h2⟩ => ⟨by rw [h1]; rfl, h2⟩)
  obtain ⟨t, e, ha, ht, hdram⟩ := mbCmd_undefine (i := .dramSetMap h mode grain 0 ms) (c := { op := 0x1102, len := 56 }) hs rfl rfl
    rfl (dramSetMapBody_ok (s := s.mbStart h) hnat hb)
    (((((s.mbStart h).updDram_only _).step (State.updNvm_only _ _)).step (State.dramUndefine_only _ _ _)).mono (by decide))
  have hinter : (mode.toNat == 1) = (mode == 1) := by rcases hmode with rfl | rfl <;> rfl
  refine ⟨t, e, ha, ht, ?_⟩
  rw [hdram]
  exact ⟨hinter, rfl, rfl, fun h0 => by rw [h0]; rfl⟩

/-! ### DRAM_SET_REGIONS -/

/-- Leaving ranges undefined keeps the sizes in force and the channel retired. -/
theorem State.foldl_undefine {α : Type} (p : α → Prop) [DecidablePred p] (lo hi : α → Nat) (l : List α) (s : State) :
    Only [.dram, .free] s (l.foldl (fun u i => if p i then u else u.dramUndefine (lo i) (hi i)) s) ∧
    (l.foldl (fun u i => if p i then u else u.dramUndefine (lo i) (hi i)) s).dram.regions = s.dram.regions ∧
    (l.foldl (fun u i => if p i then u else u.dramUndefine (lo i) (hi i)) s).dram.retired = s.dram.retired :=
  ⟨.foldl (fun u i => .ite (.refl u) (u.dramUndefine_only _ _)) l s,
   foldl_keep (·.dram.regions) _ (fun u i => by split <;> rfl) l s,
   foldl_keep (·.dram.retired) _ (fun u i => by split <;> rfl) l s⟩

/-- Beside the contents, the sizes in force change, and their record. -/
theorem State.setRegions_spec (sizes : List Nat) (s : State) : Only [.dram, .nvm, .free] s (s.setRegions sizes) ∧
    (s.setRegions sizes).nvm = { s.nvm with id := { s.nvm.id with regions := some sizes } } ∧
    (s.setRegions sizes).dram.regions = some sizes ∧ (s.setRegions sizes).dram.retired = s.dram.retired := by
  unfold State.setRegions
  extract_lets t1 t2
  obtain ⟨hfold, hregions, hretired⟩ := State.foldl_undefine (fun i => t2.region i = s.region i) (fun i => (t2.region i).1)
    (fun i => (t2.region i).1 + (t2.region i).2) (List.range 7) t2
  exact ⟨(((s.updDram_only _).step (t1.updNvm_only _)).step hfold).mono (by decide), hfold .nvm (by decide), hregions, hretired⟩

theorem State.dramBytes_congr {t : State} (hretired : t.dram.retired = s.dram.retired) (hboot : t.boot = s.boot) :
    t.dramBytes = s.dramBytes := by
  rw [State.dramBytes, State.single, hretired, hboot]
  rfl

/-- The regions are where the sizes in force and the capacity put them. -/
theorem State.region_congr {t : State} (hsizes : t.dram.regions = s.dram.regions) (hretired : t.dram.retired = s.dram.retired)
    (hboot : t.boot = s.boot) (i : Nat) : t.region i = s.region i := by
  have hbytes : t.dramBytes = s.dramBytes := State.dramBytes_congr hretired hboot
  have hinForce : t.regionSizes = s.regionSizes := by rw [State.regionSizes, hsizes, hbytes]; rfl
  rw [State.region, hinForce, hbytes]
  rfl

/-- Where new sizes put the regions is no matter of the mailbox. -/
theorem State.region_setRegions_mbStart (sizes : List Nat) (i : Nat) :
    ((s.mbStart h).setRegions sizes).region i = (s.setRegions sizes).region i := by
  obtain ⟨hslot, -, hsizes, hretired⟩ := (s.mbStart h).setRegions_spec sizes
  obtain ⟨honly, -, hsizes', hretired'⟩ := s.setRegions_spec sizes
  refine State.region_congr (hsizes.trans hsizes'.symm) (hretired.trans hretired'.symm) ?_ i
  exact (show _ = s.boot from hslot .boot (by decide)).trans (honly .boot (by decide)).symm

/-- What holds up no change of a region holds up none of the others. -/
theorem State.regionsBusy_of_moved {moved : Bool} (hb : s.regionsBusy true = false) : s.regionsBusy moved = false := by
  simp only [State.regionsBusy, Bool.or_eq_false_iff] at hb ⊢
  obtain ⟨hrest, hmoved⟩ := hb
  refine ⟨hrest, ?_⟩
  cases moved
  · rfl
  · exact hmoved

theorem dramSetRegionsBody_ok {sizes : List Nat} (hfit : (sizes.sum + 2) * unit256 ≤ s.dramBytes) (hb : s.regionsBusy true = false)
    (hpage : (s.setRegions sizes).region 1 = s.region 1) : dramSetRegionsBody sizes s = ok (s.setRegions sizes) := by
  rw [dramSetRegionsBody, if_neg (not_lt.2 hfit)]
  exact (if_neg (Bool.eq_false_iff.1 (State.regionsBusy_of_moved hb))).trans (if_pos hpage)

theorem exec_dramSetRegions {a b c d : BitVec 16} (hs : Safety.served s h 8 = true) (hz : a ≠ 0 ∧ b ≠ 0 ∧ c ≠ 0 ∧ d ≠ 0)
    (hfit : (a.toNat + b.toNat + c.toNat + d.toNat + 2) * unit256 ≤ s.dramBytes) (hb : s.regionsBusy true = false)
    (hpage : (s.setRegions [a.toNat, b.toNat, c.toNat, d.toNat]).region 1 = s.region 1) :
    ∃ t, exec (.dramSetRegions h a b c d) s = .next t ∧ Safety.Answered h 0x1103 0 [] s t ∧
      t = { s with host := t.host, dram := t.dram, free := t.free, nvm := { s.nvm with id := { s.nvm.id with
              regions := some [a.toNat, b.toNat, c.toNat, d.toNat] } } } ∧
      t.dram.regions = some [a.toNat, b.toNat, c.toNat, d.toNat] := by
  obtain ⟨hza, hzb, hzc, hzd⟩ := hz
  have hsum : [a.toNat, b.toNat, c.toNat, d.toNat].sum = a.toNat + b.toNat + c.toNat + d.toNat := by simp; omega
  have hpage' : ((s.mbStart h).setRegions [a.toNat, b.toNat, c.toNat, d.toNat]).region 1 = (s.mbStart h).region 1 :=
    (State.region_setRegions_mbStart _ _).trans (hpage.trans (State.region_congr rfl rfl rfl 1))
  have hbytes : (s.mbStart h).dramBytes = s.dramBytes := State.dramBytes_congr rfl rfl
  obtain ⟨honly, hnvm, hregions, -⟩ := (s.mbStart h).setRegions_spec [a.toNat, b.toNat, c.toNat, d.toNat]
  obtain ⟨t, e, ha, ht, hdram⟩ := mbCmd_undefine (i := .dramSetRegions h a b c d)
    (c := { op := 0x1103, len := 8, zero := a == 0 || b == 0 || c == 0 || d == 0 }) hs rfl
    (by simp only [beq_eq_false_iff_ne.2 hza, beq_eq_false_iff_ne.2 hzb, beq_eq_false_iff_ne.2 hzc, beq_eq_false_iff_ne.2 hzd,
      Bool.or_self]) rfl (dramSetRegionsBody_ok (s := s.mbStart h) (by rw [hsum, hbytes]; exact hfit) hb hpage') honly
  rw [hnvm] at ht
  exact ⟨t, e, ha, ht, by rw [hdram, hregions]⟩

/-! ### DRAM_SET_QOS and DRAM_SET_HEALTH -/

theorem dramSetQosBody_ok {pr : List Nat} {hi lo : Nat} (hlen : pr.length = 7) (hperm : ∀ p, p ∈ [1, 2, 3, 4, 5, 6, 7] → p ∈ pr)
    (h16 : 16 ≤ hi) (h128 : hi ≤ 128) (hlo : lo + 16 ≤ hi) :
    dramSetQosBody pr hi lo s = ok (s.updDram fun d => { d with priority := pr, wmHigh := hi, wmLow := lo }) := by
  have hall : ([1, 2, 3, 4, 5, 6, 7].all fun p => pr.contains p) = true :=
    List.all_eq_true.2 fun p hp => List.contains_iff_mem.2 (hperm p hp)
  simp only [dramSetQosBody, checked, firstBad, hlen, hall, out_eq_false h16 h128, decide_eq_false (not_lt.2 hlo), beq_self_eq_true,
    Bool.and_self, Bool.not_true, Bool.false_eq_true, if_false]

theorem exec_dramSetQos {pr : List Byte} {hi lo : Byte} (hs : Safety.served s h 12 = true) (hlen : pr.length = 7)
    (hperm : ∀ p, p ∈ [1, 2, 3, 4, 5, 6, 7] → p ∈ pr.map BitVec.toNat) (h16 : 16 ≤ hi.toNat) (h128 : hi.toNat ≤ 128)
    (hlo : lo.toNat + 16 ≤ hi.toNat) :
    ∃ t, exec (.dramSetQos h pr 0 hi lo 0) s = .next t ∧ Safety.Answered h 0x1105 0 [] s t ∧
      t = { s with host := t.host,
                   dram := { s.dram with priority := pr.map BitVec.toNat, wmHigh := hi.toNat, wmLow := lo.toNat } } :=
  mbCmd_updDram (c := { op := 0x1105, len := 12 }) (body := dramSetQosBody (pr.map BitVec.toNat) hi.toNat lo.toNat) hs rfl rfl rfl
    (dramSetQosBody_ok (by rw [List.length_map, hlen]) hperm h16 h128 hlo)

theorem dramSetHealthBody_ok {w l ce scrub : Nat} (h10 : 10 ≤ w) (h10000 : w ≤ 10000) (hl : l ≠ 0) (hce : ce ≠ 0) (h1 : 1 ≤ scrub)
    (h168 : scrub ≤ 168) : dramSetHealthBody w l ce scrub s =
      ok (s.updDram fun d => { d with hotWindowUs := w, hotLimit := l, ceLimit := ce, scrubHours := scrub }) := by
  simp only [dramSetHealthBody, checked, firstBad, out_eq_false h10 h10000, out_eq_false h1 h168, decide_eq_false hl,
    decide_eq_false hce, Bool.false_eq_true, if_false]

theorem exec_dramSetHealth {w l : BitVec 16} {ce : BitVec 32} {scrub : BitVec 16} (hs : Safety.served s h 12 = true)
    (h10 : 10 ≤ w.toNat) (h10000 : w.toNat ≤ 10000) (hl : l ≠ 0) (hce : ce ≠ 0) (h1 : 1 ≤ scrub.toNat) (h168 : scrub.toNat ≤ 168) :
    ∃ t, exec (.dramSetHealth h w l ce scrub 0) s = .next t ∧ Safety.Answered h 0x1106 0 [] s t ∧
      t = { s with host := t.host, dram := { s.dram with
        hotWindowUs := w.toNat, hotLimit := l.toNat, ceLimit := ce.toNat, scrubHours := scrub.toNat } } :=
  mbCmd_updDram (c := { op := 0x1106, len := 12 }) (body := dramSetHealthBody w.toNat l.toNat ce.toNat scrub.toNat) hs rfl rfl rfl
    (dramSetHealthBody_ok h10 h10000 (BitVec.toNat_ne.1 hl) (BitVec.toNat_ne.1 hce) h1 h168)

/-! ### DRAM_RETIRE -/

theorem exec_dramRetire {c : Byte} (hs : Safety.served s h 4 = true) (hc : c.toNat ≤ 1) (hup : s.chDown = none) :
    ∃ t, exec (.dramRetire h c 0 0) s = .next t ∧ Safety.AnsweredWith h 0x1108 0 [] s t ∧
      t = { s with host := t.host, dram := { s.dram with retiring := some c.toNat }, health := t.health, log := t.log,
                   nvm := { s.nvm with id := { s.nvm.id with retiredCh := some c.toNat } } } ∧
      t.health.active.getLsbD 0 = true := by
  have hup' : (s.mbStart h).chDown = none := hup
  have hbody : dramRetireBody c.toNat 0 (s.mbStart h) = ok ((s.mbStart h).retireChannel c.toNat) := by
    simp only [dramRetireBody, not_lt.2 hc, hup', Option.isSome_none, Bool.false_eq_true, OfNat.zero_ne_ofNat, if_false, if_true]
  obtain ⟨t, e, ha, -, ho, ht⟩ := mbCmd_done_only (i := .dramRetire h c 0 0) (c := { op := 0x1108, len := 4 }) hs rfl rfl rfl hbody
    (State.retireChannel_only _ _) (by decide)
  have hdram : t.dram = { s.dram with retiring := some c.toNat } := by rw [ht]; exact State.retireChannel_dram hup'
  have hnvm : t.nvm = { s.nvm with id := { s.nvm.id with retiredCh := some c.toNat } } := by
    rw [ht]; exact State.retireChannel_nvm hup'
  refine ⟨t, e, ha, ?_, by rw [ht]; exact State.retireChannel_active hup'⟩
  rw [← hdram, ← hnvm]
  exact (ho.mono (qs := [.host, .dram, .nvm, .health, .log, .alert]) (by decide)).eq_patch

theorem exec_dramRetire_restore {c : Byte} (hs : Safety.served s h 4 = true) :
    ∃ t, exec (.dramRetire h c 2 0) s = .next t ∧ Safety.Answered h 0x1108 0 [] s t ∧
      t = { s with host := t.host, nvm := { s.nvm with id := { s.nvm.id with retiredCh := none } } } := by
  obtain ⟨t, e, ha, -, ht⟩ := mbCmd_done_answered (i := .dramRetire h c 2 0) (c := { op := 0x1108, len := 4 })
    (body := dramRetireBody c.toNat 2) hs rfl rfl rfl rfl (State.updNvm_only _ _) (by decide)
  exact ⟨t, e, ha, ht⟩

end

/-- Settles O30: each command by what its rules change. The contents left undefined are those of log 10, the fields that must not be 0
those of log 37; how R307–R317 are read is log 89. -/
theorem dramCommandsRun : Obligations.DramCommandsRun :=
  ⟨fun _ _ hs => exec_dramGetConfig hs, fun _ _ _ _ _ hs hgood hb => exec_dramSetMap hs hgood hb,
   fun _ _ _ _ _ _ hs hz hfit hb hpage => exec_dramSetRegions hs hz hfit hb hpage, fun _ _ hs => exec_dramGetRegions hs,
   fun _ _ _ _ _ hs hlen hperm h16 h128 hlo => exec_dramSetQos hs hlen hperm h16 h128 hlo,
   fun _ _ _ _ _ _ hs h10 h10000 hl hce h1 h168 => exec_dramSetHealth hs h10 h10000 hl hce h1 h168,
   fun _ _ _ hs hc => exec_dramGetCounters hs hc, fun _ _ _ hs hc hup => exec_dramRetire hs hc hup,
   fun _ _ _ hs => exec_dramRetire_restore hs⟩

end Sys2Proof.Machine

namespace Sys2Proof.Machine

/-! ## What a command's outcome keeps

Every command but five ends in `done`, which hands the queue and the fuses on as they were. The five may serve SYS_SET_SVN or
SYS_REVOKE_KEY, the two commands that blow fuses (spec/12 R346). -/

/-- The rows that may serve a command that blows fuses: the two commands themselves, a doorbell, a register write, and the end of a
firmware restart, which serves the doorbells held. -/
def mayBlow : Instr → Bool
  | .sysSetSvn .. | .sysRevokeKey .. | .mbDoorbell .. | .registerWrite .. | .firmwareRestartDone => true
  | _ => false

theorem exec_eq_done {c : Instr} (hc : mayBlow c = false) (s : State) : ∃ u, exec c s = done s u := by
  cases c
  case sysSetSvn | sysRevokeKey | mbDoorbell | registerWrite | firmwareRestartDone => cases hc
  all_goals exact ⟨_, rfl⟩

/-- Every command answers a next state with the rest of the queue. -/
theorem exec_next (c : Instr) (s : State) : ∃ t, exec c s = .next t ∧ t.pending = s.pending := by
  cases hc : mayBlow c with
  | false =>
    obtain ⟨u, hu⟩ := exec_eq_done hc s
    exact ⟨_, hu, rfl⟩
  | true =>
    cases c
    case sysSetSvn | sysRevokeKey | mbDoorbell | registerWrite | firmwareRestartDone => exact ⟨_, rfl, rfl⟩
    all_goals cases hc

/-! ## The fuses -/

/-- From `f` to `g` fuses were blown, if any: the counter rose within its 64 fuses, key slots were revoked, never the last one. -/
structure Blows (f g : Fuses) : Prop where
  rises : f.otpCounter ≤ g.otpCounter
  bound : f.otpCounter ≤ 64 → g.otpCounter ≤ 64
  kept : f.revoked &&& g.revoked = f.revoked
  left : 1 ≤ f.keysLeft → 1 ≤ g.keysLeft
  rest : g = { f with otpCounter := g.otpCounter, revoked := g.revoked }

theorem Blows.refl (f : Fuses) : Blows f f := ⟨le_rfl, id, BitVec.and_self, id, rfl⟩

theorem Blows.of_eq {f g : Fuses} (h : g = f) : Blows f g := h ▸ .refl f

theorem Blows.trans {f g k : Fuses} (h1 : Blows f g) (h2 : Blows g k) : Blows f k where
  rises := h1.rises.trans h2.rises
  bound := h2.bound ∘ h1.bound
  kept := by rw [← h1.kept, BitVec.and_assoc, h2.kept]
  left := h2.left ∘ h1.left
  rest := by rw [h2.rest, h1.rest]

theorem Blows.foldl {α : Type} {g : State → α → State} (h : ∀ t x, Blows t.fuse (g t x).fuse) (l : List α) (s : State) :
    Blows s.fuse (l.foldl g s).fuse := by
  induction l generalizing s with
  | nil => exact .refl _
  | cons x l ih => exact (h s x).trans (ih (g s x))

/-- What a step of the fuses gives of the whole state. -/
theorem Blows.fusesGood {s t : State} (h : Blows s.fuse t.fuse) (hs : Safety.FusesGood s) : Safety.FusesGood t :=
  ⟨h.bound hs.1, h.left hs.2⟩

/-! ### The commands that blow fuses -/

/-- The state that a command's own rules leave. -/
def Answer.state : Answer → State
  | .done _ _ s => s
  | .later _ _ s => s

/-- A command turned away blows no fuse, one served blows those its own rules do. -/
theorem mbServe_fuse (c : MbCheck) (h : MbHdr) (body : State → Answer) (s : State) :
    (mbServe c h body s).fuse = s.fuse ∨ (mbServe c h body s).fuse = (body (s.mbStart h)).state.fuse := by
  cases hc : mbCommon c h (s.mbStart h) with
  | some st => exact .inl (by rw [mbServe_refused s hc]; rfl)
  | none =>
    refine .inr ?_
    cases hb : body (s.mbStart h) with
    | done st p t => rw [mbServe_done s hc hb]; rfl
    | later w p t => rw [mbServe_later s hc hb]; rfl

theorem mbServe_blows {body : State → Answer} (hb : ∀ s, Blows s.fuse (body s).state.fuse) (c : MbCheck) (h : MbHdr) (s : State) :
    Blows s.fuse (mbServe c h body s).fuse := by
  rcases mbServe_fuse c h body s with e | e
  · exact .of_eq e
  · rw [e]; exact hb (s.mbStart h)

/-- A counter that rises to an SVN within its 64 fuses (R346). -/
theorem setSvnBody_blows (n : Nat) (s : State) : Blows s.fuse (setSvnBody n s).state.fuse := by
  unfold setSvnBody
  split
  case isTrue => exact .refl _
  case isFalse hmax =>
    split
    case isTrue => exact .refl _
    case isFalse hlow => exact ⟨by simp [okWith, Answer.state]; omega, fun _ => by simp [okWith, Answer.state]; omega,
      BitVec.and_self, id, rfl⟩

/-- A slot revoked is revoked; of four slots with another one left, one is left. -/
theorem revoke_spec : ∀ (r : BitVec 4) (k : Fin 4),
    r &&& (r ||| BitVec.twoPow 4 k) = r ∧
    (2 ≤ ((List.range 4).filter fun i => !r.getLsbD i).length ∨ r.getLsbD k = true →
      1 ≤ ((List.range 4).filter fun i => !r.getLsbD i).length →
      1 ≤ ((List.range 4).filter fun i => !(r ||| BitVec.twoPow 4 k).getLsbD i).length) := by decide

theorem revokeBody_blows (k : Nat) (s : State) : Blows s.fuse (revokeBody k s).state.fuse := by
  unfold revokeBody
  split
  case isTrue => exact .refl _
  case isFalse hk =>
    split
    case isTrue => exact .refl _
    case isFalse hlast =>
      obtain ⟨hkept, hleft⟩ := revoke_spec s.fuse.revoked ⟨k, by omega⟩
      refine ⟨le_rfl, id, hkept, hleft ?_, rfl⟩
      by_cases hr : s.fuse.revoked.getLsbD k = true
      · exact .inr hr
      · simp only [hr, Bool.not_false, and_true, not_or, not_le] at hlast
        exact .inl hlast.2

/-! ### What serves them -/

/-- Serving a request blows the fuses of its command alone. -/
theorem serve_blows (i : Instr) (s : State) : Blows s.fuse (serve i s).fuse := by
  unfold serve
  split
  case h_1 => exact mbServe_blows (setSvnBody_blows _) _ _ _
  case h_2 => exact mbServe_blows (revokeBody_blows _) _ _ _
  case h_3 => exact .refl _

theorem mbDoor_blows {h : MbHdr} {i : Instr} {f : State → State} {s : State} (hf : Blows s.fuse (f s).fuse) :
    Blows s.fuse (mbDoor h i f s).fuse := by
  unfold mbDoor
  split
  · exact .refl _
  · split
    · exact .refl _
    · split
      · exact .refl _
      · split
        · exact .refl _
        · exact hf

theorem State.serveSlot_blows (k : Nat) (s : State) : Blows s.fuse (s.serveSlot k).fuse := by
  unfold State.serveSlot
  dsimp only
  split
  · exact serve_blows _ s
  · exact .refl _

theorem State.door_blows (k : Nat) (s : State) : Blows s.fuse (s.door k).fuse := by
  unfold State.door
  dsimp only
  split
  · exact .refl _
  · split
    · exact .refl _
    · split
      · exact .refl _
      · exact s.serveSlot_blows k

theorem State.doorbells_blows (bits : Byte) (s : State) : Blows s.fuse (s.doorbells bits).fuse :=
  .foldl (fun t k => t.door_blows k) _ s

theorem State.serveHeld_blows (e : HeldDoor) (s : State) : Blows s.fuse (s.serveHeld e).fuse := by
  unfold State.serveHeld
  split
  · exact .refl _
  · split
    · exact .refl _
    · cases e with
      | slot n => exact s.serveSlot_blows n
      | cmd i => exact serve_blows i s

theorem State.restartDone_blows (s : State) : Blows s.fuse s.restartDone.fuse := by
  unfold State.restartDone
  split
  case isTrue => exact .refl _
  case isFalse =>
    extract_lets s1 s2 n s3 hs
    have h3 : s3.fuse = s.fuse := foldl_keep State.fuse _ (fun t _ => State.finishWait_fuse t _ _) _ s2
    exact (Blows.of_eq h3).trans (.foldl (fun t e => t.serveHeld_blows e) hs (s3.updHost fun m => { m with held := [] }))

theorem State.write32_blows (o : Nat) (v : BitVec 32) (s : State) : Blows s.fuse (s.write32 o v).fuse := by
  unfold State.write32
  split
  · exact s.doorbells_blows _
  · exact .refl _

theorem State.reg64_fuse (key : Nat) (present : BitVec 64) (a : RegAcc) (s : State) : (s.reg64 key present a).2.fuse = s.fuse := by
  cases a <;> rfl

theorem State.prodWrite_fuse (c : Nat) (a : RegAcc) (s : State) : (s.prodWrite c a).fuse = s.fuse := by
  unfold State.prodWrite
  extract_lets d
  have h := s.reg64_fuse (2 * c) d.prod a
  split
  · rfl
  · split
    case h_1 heq => rw [heq] at h; exact h
    case h_2 heq => rw [heq] at h; exact h

theorem State.consWrite_fuse (c : Nat) (a : RegAcc) (s : State) : (s.consWrite c a).fuse = s.fuse := by
  unfold State.consWrite
  extract_lets d
  have h := s.reg64_fuse (2 * c + 1) d.cons a
  split
  · rfl
  · split
    case h_1 heq => rw [heq] at h; exact h
    case h_2 heq => rw [heq] at h; exact h

theorem State.writeReg_blows (o : Nat) (wide : Bool) (v : BitVec 64) (s : State) : Blows s.fuse (s.writeReg o wide v).fuse := by
  unfold State.writeReg
  extract_lets lo hi
  split
  · exact s.write32_blows o lo
  · split
    · exact .refl _
    · split
      · exact .of_eq (State.prodWrite_fuse _ _ s)
      · split
        · exact .of_eq (State.consWrite_fuse _ _ s)
        · exact (s.write32_blows o lo).trans (State.write32_blows (o + 4) hi _)

theorem hostFuse_blows {f : State → State} {s : State} (hf : Blows s.fuse (f s).fuse) :
    ∃ t, hostFuse f s = .next t ∧ Blows s.fuse t.fuse := by
  refine ⟨_, rfl, ?_⟩
  rw [settle_fuse]
  split
  · exact hf
  · exact .refl _

/-- Whatever a command does, fuses are at most blown. -/
theorem exec_blows (c : Instr) (s : State) : ∃ t, exec c s = .next t ∧ Blows s.fuse t.fuse := by
  cases hc : mayBlow c with
  | false =>
    obtain ⟨u, hu⟩ := exec_eq_done hc s
    exact ⟨_, hu, .refl _⟩
  | true =>
    cases c
    case sysSetSvn h svn rsv =>
      exact ⟨_, rfl, by rw [settle_fuse]; exact mbDoor_blows (mbServe_blows (setSvnBody_blows _) _ _ _)⟩
    case sysRevokeKey h k rsv =>
      exact ⟨_, rfl, by rw [settle_fuse]; exact mbDoor_blows (mbServe_blows (revokeBody_blows _) _ _ _)⟩
    case mbDoorbell bits => exact hostFuse_blows (s.doorbells_blows bits)
    case registerWrite o wide v => exact hostFuse_blows (s.writeReg_blows o wide v)
    case firmwareRestartDone =>
      refine ⟨_, rfl, ?_⟩
      rw [settle_fuse]
      split
      · exact s.restartDone_blows
      · exact .refl _
    all_goals cases hc

theorem step_blows (s : State) : ∃ t, step s = .next t ∧ Blows s.fuse t.fuse := by
  unfold step
  split
  case h_1 => exact ⟨_, rfl, .refl _⟩
  case h_2 c cs _ => exact exec_blows c { s with pending := cs }

/-- Settles O55: a step blows fuses only through SYS_SET_SVN and SYS_REVOKE_KEY, whose own rules keep the counter within its fuses and
a key slot left. -/
theorem fusesOnlyBlow : Obligations.FusesOnlyBlow := by
  intro s t hgood hstep
  obtain ⟨u, hu, hb⟩ := step_blows s
  cases hstep.symm.trans hu
  exact ⟨hb.fusesGood hgood, hb.rises, hb.kept, hb.rest⟩

end Sys2Proof.Machine

namespace Sys2Proof.Machine

/-! ## Outcomes of effects, whatever brings them about -/

section
variable {s u : State} {ps : List Part}

/-- The frame of an effect, with the interrupts it sends. -/
theorem done_only (ho : Only ps s u) (hn : .host ∉ ps ∧ .pending ∉ ps ∧ .fuse ∉ ps) :
    ∃ t, done s u = .next t ∧ Safety.Alerted s t ∧ (.alert ∉ ps → Safety.Quiet s t) ∧ Only (.host :: ps) s t ∧
      t = { u with host := t.host } ∧ t.host.alert = u.host.alert := by
  obtain ⟨pba, msi, hx⟩ := done_sent ho hn.2
  exact ⟨_, hx, ho.alerted pba msi hn.1, fun hal => ho.quiet pba msi ⟨hn.1, hal⟩, ho.sent pba msi, rfl, rfl⟩

/-- An effect that leaves the queue, the fuses, the host's registers and every INT_PENDING bit alone is the whole outcome. -/
theorem done_quiet (ho : Only ps s u) (hn : (.host ∉ ps ∧ .pending ∉ ps ∧ .fuse ∉ ps) ∧ .alert ∉ ps) :
    ∃ t, done s u = .next t ∧ Safety.Quiet s t ∧ t = { u with host := t.host } := by
  obtain ⟨t, hx, -, hq, -, ht, -⟩ := done_only ho hn.1
  exact ⟨t, hx, hq hn.2, ht⟩

end

/-! ## A step -/

section
variable {s : State}

theorem step_cons (c : Instr) (l : List Instr) (s : State) : step { s with pending := c :: l } = exec c { s with pending := l } := rfl

/-- What a tick comes to: the passing of time, and the speed check of a powered chip (R50). -/
def State.ticked (s : State) : State := if s.tick.alive then s.tick.speedCheck else s.tick

theorem step_nil (h : s.pending = []) : step s = done s s.ticked := by
  rw [step, h]
  rfl

theorem State.tick_only (s : State) : Only [.time] s s.tick := by
  unfold State.tick
  exact s.updTime_only _

theorem State.ticked_only (s : State) : Only [.time, .speedLimit, .alert] s s.ticked :=
  .ite ((s.tick_only.step (State.speedCheck_only _)).mono (by decide)) (s.tick_only.mono (by decide))

theorem State.tick_alive (s : State) : s.tick.alive = s.alive := rfl

theorem State.ticked_time (s : State) : s.ticked.time = s.tick.time := by
  unfold State.ticked
  split
  · exact State.speedCheck_only _ .time (by decide)
  · rfl

@[simp] theorem TimeUnit.slewTick_ticks (t : TimeUnit) : t.slewTick.ticks = t.ticks := by
  unfold TimeUnit.slewTick
  dsimp only
  split_ifs <;> rfl

theorem State.tick_ticks (s : State) : s.tick.time.ticks = s.time.ticks + 1 := by
  cases ha : s.alive <;> simp [State.tick, ha]

/-- Without a slew the local clock adds its increment (R289). -/
theorem State.tick_clock (ha : s.alive = true) (h : s.time.slew = 0) :
    s.tick.time.clock = LocalTime.ofUnits (s.time.clock.units + s.time.inc.toNat) ∧ s.tick.time.inc = s.time.inc := by
  simp [State.tick, ha, TimeUnit.slewTick, h]

theorem State.tick_dead (ha : s.alive = false) : s.tick = { s with time := { s.time with ticks := s.time.ticks + 1 } } := by
  simp [State.tick, ha, State.updTime]

/-- With an empty queue no contract governs (log 28). -/
theorem State.speedCheck_of_empty (h : s.bat.pages = []) : s.speedCheck.bat.speedLimit = false := by
  have hg : s.govern = none := by simp [State.govern, h]
  simp [State.speedCheck, hg]

theorem exec_tick (h : s.pending = []) : ∃ t, step s = .next t ∧ Safety.Alerted s t ∧
    t = { s with host := t.host, time := t.time, bat := { s.bat with speedLimit := t.bat.speedLimit } } ∧
    t.time.ticks = s.time.ticks + 1 ∧ (s.alive = true → s.bat.pages = [] → t.bat.speedLimit = false) ∧
    (s.alive = true → s.time.slew = 0 →
      t.time.clock = LocalTime.ofUnits (s.time.clock.units + s.time.inc.toNat) ∧ t.time.inc = s.time.inc) ∧
    (s.alive = false → t = { s with time := { s.time with ticks := s.time.ticks + 1 } }) := by
  obtain ⟨t, hx, hal, -, ho, ht, -⟩ := done_only s.ticked_only (by decide)
  have htime : t.time = s.tick.time := by rw [ht]; exact s.ticked_time
  refine ⟨t, (step_nil h).trans hx, hal, (ho.mono (qs := [.host, .alert, .time, .speedLimit]) (by decide)).eq_patch,
    by rw [htime, State.tick_ticks], fun ha hp => ?_, fun ha hsl => by rw [htime]; exact State.tick_clock ha hsl, fun ha => ?_⟩
  · have hbat : t.bat = s.ticked.bat := by rw [ht]
    rw [hbat, State.ticked, State.tick_alive, if_pos ha]
    exact State.speedCheck_of_empty hp
  · have hu : s.ticked = { s with time := { s.time with ticks := s.time.ticks + 1 } } := by
      rw [State.ticked, State.tick_alive, ha, State.tick_dead ha]
      rfl
    have hd : done s s.ticked = .next s.ticked := by
      rw [hu]
      exact done_of_intPending_eq rfl rfl fun _ => rfl
    rw [← hu]
    exact Host.Outcome.next.inj (hx.symm.trans hd)

end

/-- Settles O53: a step of a queue is `exec` of its front, every outcome is a next state with the rest of the queue, and a tick (log 2)
is the passing of time with the speed check after it, false with no page queued (log 28). -/
theorem stepRunsTheFront : Obligations.StepRunsTheFront :=
  ⟨step_cons, exec_next, fun _ h => exec_tick h⟩

/-! ## Reset -/

/-- Settles O54: each value is that of its reset, the strap and the fuses those of logs 7 and 14. -/
theorem resetLeavesTheBlockIdle : Obligations.ResetLeavesTheBlockIdle := by
  refine ⟨rfl, rfl, rfl, rfl, rfl, rfl, rfl, rfl, rfl, rfl, rfl, ?_, ?_, fun p => ⟨rfl, rfl⟩, rfl, fun r => rfl, rfl, rfl, ?_⟩
  · decide
  · decide
  · exact ⟨by decide, by decide⟩

/-! ## A doorbell on a slot in use -/

section
variable {s : State}

/-- A doorbell is ignored and MB_PROTOCOL set (R338). -/
def State.protocol (s : State) : State := { s with host := { s.host with mbProtocol := true } }

theorem done_protocol (s : State) : done s s.protocol = .next s.protocol := done_of_intPending_eq rfl rfl fun _ => rfl

theorem exec_busySlot {c : Instr} {h : MbHdr} {op : Nat} (hm : mailOf c = some (h, op)) (ha : s.alive = true)
    (hl : s.host.live = true) (hb : (s.host.busy ||| s.host.done) &&& slotBit h.slot ≠ 0) : exec c s = .next s.protocol := by
  obtain ⟨f, hf⟩ := exists_rungAs hm
  have hd : mbDoor h c f s = s.protocol := mbDoor_busy s h c f (by rw [ha, hl]; rfl) hb
  rw [hf.exec_eq s (by rw [hd]; rfl), hd, done_protocol]

theorem bit8_ne_zero {k : Nat} (hk : k < 8) : bit8 k ≠ 0 := by
  interval_cases k <;> decide

/-- A bit of a set of bits that another holds is one of the other's. -/
theorem and_bit8_ne_zero {x bits : Byte} {k : Nat} (hx : x &&& bits = bits) (hk : bits.getLsbD k = true) : x &&& bit8 k ≠ 0 := by
  intro h0
  have hlt : k < 8 := by
    by_contra hge
    rw [BitVec.getLsbD_of_ge _ _ (by omega)] at hk
    cases hk
  rw [← hx, BitVec.getLsbD_and, Bool.and_eq_true] at hk
  have h := congrArg (·.getLsbD k) h0
  simp only [BitVec.getLsbD_and, hk.1, bit8, BitVec.getLsbD_twoPow, hlt] at h
  simp at h

theorem State.door_busy {k : Nat} (hb : (s.host.busy ||| s.host.done) &&& bit8 k ≠ 0) : s.door k = s.protocol := by
  rw [State.door]
  exact if_pos (bne_iff_ne.2 hb)

/-- Doorbells of slots in use set MB_PROTOCOL and do nothing else. -/
theorem State.doorbells_busy {bits : Byte} (h0 : bits ≠ 0) (hb : (s.host.busy ||| s.host.done) &&& bits = bits) :
    s.doorbells bits = s.protocol := by
  have hone (k : Nat) (hk : bits.getLsbD k = true) : s.door k = s.protocol ∧ s.protocol.door k = s.protocol :=
    ⟨State.door_busy (and_bit8_ne_zero hb hk), State.door_busy (s := s.protocol) (and_bit8_ne_zero hb hk)⟩
  have hrest (l : List Nat) (hl : ∀ k ∈ l, bits.getLsbD k = true) : l.foldl (fun t k => t.door k) s.protocol = s.protocol := by
    induction l with
    | nil => rfl
    | cons k l ih =>
      rw [List.foldl_cons, (hone k (hl k List.mem_cons_self)).2]
      exact ih fun j hj => hl j (List.mem_cons_of_mem k hj)
  rw [State.doorbells]
  cases hl : (List.range 8).filter fun k => bits.getLsbD k with
  | nil => exact absurd (BitVec.eq_of_getLsbD_eq fun k hk => by
      simpa using List.filter_eq_nil_iff.1 hl k (List.mem_range.2 hk)) h0
  | cons k l =>
    have hmem (j : Nat) (hj : j ∈ k :: l) : bits.getLsbD j = true := (List.mem_filter.1 (hl ▸ hj)).2
    rw [List.foldl_cons, (hone k (hmem k List.mem_cons_self)).1]
    exact hrest l fun j hj => hmem j (List.mem_cons_of_mem k hj)

end

/-- Settles O56: every door looks at MB_BUSY and MB_DONE first, and so does MB_DOORBELL for each slot it names. -/
theorem busySlotIgnoresDoorbell : Obligations.BusySlotIgnoresDoorbell := by
  refine ⟨fun c h op s hm ha hl hb => exec_busySlot hm ha hl hb, fun s bits ha hl h0 hb => ?_⟩
  have hd : (if s.alive && s.host.live then s.doorbells bits else s) = s.protocol := by
    rw [ha, hl]
    exact State.doorbells_busy h0 hb
  show hostFuse (State.doorbells bits) s = _
  rw [hostFuse, hd, settle_of_intPending_eq (s := s) (t := s.protocol) fun _ => rfl]
  rfl

end Sys2Proof.Machine

namespace Sys2Proof.Machine

/-! ## The reports of the page store (Tables 05-10, 05-11, 05-14, 05-15) -/

section
variable {s : State} {h : MbHdr}

theorem exec_slateStatus {e : BitVec 16} (hs : Safety.served s h 4 = true) (he : e.toNat ≤ 1023) :
    ∃ t, exec (.slateStatus h e 0) s = .next t ∧ Safety.Answered h 0x0603 0 (s.entryBytes e.toNat) s t ∧
      t = { s with host := t.host } :=
  mbCmd_answer hs rfl rfl rfl (if_neg (Nat.not_lt.2 he))

theorem exec_slateStreamStatus {e : BitVec 16} {seg : Byte} {en : Entry} (hs : Safety.served s h 4 = true)
    (he : s.entry? e.toNat = some en) (hseg : seg.toNat < en.segments) :
    ∃ t, exec (.slateStreamStatus h e seg 0) s = .next t ∧ Safety.Answered h 0x0604 0 (en.stream.get {} seg.toNat).bytes s t ∧
      t = { s with host := t.host } := by
  have he' : (s.mbStart h).entry? e.toNat = some en := he
  exact mbCmd_answer hs rfl rfl rfl (by simp [slateStreamStatusBody, he', Nat.not_le.2 hseg, okWith])

/-- A segment the entry does not have answers its own status. -/
theorem exec_slateStreamStatus_noSegment {e : BitVec 16} {seg : Byte} {en : Entry} (hs : Safety.served s h 4 = true)
    (he : s.entry? e.toNat = some en) (hseg : en.segments ≤ seg.toNat) :
    ∃ t, exec (.slateStreamStatus h e seg 0) s = .next t ∧ Safety.Answered h 0x0604 0x0603 [] s t ∧ t = { s with host := t.host } := by
  have he' : (s.mbStart h).entry? e.toNat = some en := he
  exact mbCmd_answer hs rfl rfl rfl (by simp [slateStreamStatusBody, he', hseg, fail])

theorem exec_slateStoreInfo (hs : Safety.served s h 0 = true) :
    ∃ t, exec (.slateStoreInfo h) s = .next t ∧ Safety.Answered h 0x0606 0 s.storeInfo s t ∧ t = { s with host := t.host } :=
  mbCmd_answer hs rfl rfl rfl rfl

theorem exec_slateGetCounters (hs : Safety.served s h 0 = true) :
    ∃ t, exec (.slateGetCounters h) s = .next t ∧ Safety.Answered h 0x060B 0 s.slate.counters s t ∧ t = { s with host := t.host } :=
  mbCmd_answer hs rfl rfl rfl rfl

end

/-- Settles O13: each report is read from the state, SLATE_STATUS and SLATE_STREAM_STATUS behind the range checks of Table 05-15,
SLATE_STORE_INFO and SLATE_GET_COUNTERS (spec/05's paragraphs on the two) as they stand. -/
theorem slateReportsAnswer : Obligations.SlateReportsAnswer :=
  ⟨fun _ _ _ hs he => exec_slateStatus hs he,
   fun _ _ _ _ _ hs he hseg => exec_slateStreamStatus hs he hseg,
   fun _ _ _ _ _ hs he hseg => exec_slateStreamStatus_noSegment hs he hseg,
   fun _ _ hs => exec_slateStoreInfo hs,
   fun _ _ hs => exec_slateGetCounters hs⟩

/-! ## The Batten queue at low levels -/

section
variable {s : State}

/-- The Batten queue counts as gated at PL_2, PL_3 and in HOLD (R355). -/
theorem State.batGated_iff : s.batGated = true ↔ 2 ≤ s.pwr.level ∨ s.pwr.st = .hold := by
  simp [State.batGated, State.visGated, or_comm]

theorem exec_pageAdmit_gated {h : MbHdr} {p : PageAdmitReq} (hs : Safety.served s h 24 = true) (hf : p.flags.toNat ≤ 1)
    (hr : p.rsv = 0) (hg : s.batGated = true) :
    ∃ t, exec (.pageAdmit h p) s = .next t ∧ Safety.Answered h 0x0501 0x0005 [] s t ∧ t = { s with host := t.host } :=
  mbCmd_gated hs (by simp [hr, hf]) (Bool.or_eq_true_iff.2 (.inl hg))

end

/-- Settles O60: PAGE_ADMIT looks at the gate of the Batten queue, which PIX's gate does not follow at PL_2. -/
theorem gatedQueueAdmitsNothing : Obligations.GatedQueueAdmitsNothing :=
  ⟨fun _ _ _ hs hf hr hg => exec_pageAdmit_gated hs hf hr (State.batGated_iff.2 hg),
   fun s hrun hl => ⟨by simp [State.pixGated, hrun, hl], State.batGated_iff.2 (.inl hl.ge)⟩⟩

/-! ## The settings of the power manager (Tables 13-13 to 13-16) -/

theorem State.updPwr_only (s : State) (f : Pwr → Pwr) : Only [.pwr] s (s.updPwr f) := .of_eq rfl (by decide)

section
variable {s : State} {h : MbHdr} {c : MbCheck} {i : Instr} {body : State → Answer}

/-- A command that changes the power manager alone. -/
theorem mbCmd_updPwr {f : Pwr → Pwr} {p : List Byte} (hs : Safety.served s h c.len = true) (hr : c.rsv = false) (hz : c.zero = false)
    (hg : c.gated (s.mbStart h) = false) (hb : body (s.mbStart h) = okWith p ((s.mbStart h).updPwr f)) :
    ∃ t, mbCmd h i (mbServe c h body) s = .next t ∧ Safety.Answered h c.op 0 p s t ∧
      t = { s with host := t.host, pwr := f s.pwr } := by
  obtain ⟨t, e, ha, -, ht⟩ := mbCmd_done_answered (i := i) hs hr hz hg hb (State.updPwr_only _ _) (by decide)
  exact ⟨t, e, ha, ht⟩

theorem exec_pwrSetRetention {mask : BitVec 64} {temp : BitVec 16} (hs : Safety.served s h 16 = true) (hm : mask.toNat < 2 ^ 48)
    (ht : temp.toNat ≤ 0x0690) (hi : retCurrent mask temp.toNat ≤ 60000) :
    ∃ t, exec (.pwrSetRetention h mask temp 0) s = .next t ∧
      Safety.Answered h 0x0E03 0 (le 4 (retCurrent mask temp.toNat) ++ zeros 4 ++ le 8 s.retUseful) s t ∧
      t = { s with host := t.host, pwr := { s.pwr with retMask := mask, retTemp := temp } } :=
  mbCmd_updPwr (f := fun p => { p with retMask := mask, retTemp := temp }) hs (by simpa using hm) rfl rfl
    (by simp only [pwrSetRetentionBody, Nat.not_lt.2 ht, Nat.not_lt.2 hi, if_false]; rfl)

theorem exec_pwrSetRetention_excess {mask : BitVec 64} {temp : BitVec 16} (hs : Safety.served s h 16 = true)
    (hm : mask.toNat < 2 ^ 48) (ht : temp.toNat ≤ 0x0690) (hi : 60000 < retCurrent mask temp.toNat) :
    ∃ t, exec (.pwrSetRetention h mask temp 0) s = .next t ∧ Safety.Answered h 0x0E03 0x0E03 [] s t ∧ t = { s with host := t.host } :=
  mbCmd_answer hs (by simpa using hm) rfl rfl (by simp [pwrSetRetentionBody, Nat.not_lt.2 ht, hi, fail])

theorem exec_pwrSetWake {enable flags : Byte} {alarm : BitVec 64} (hs : Safety.served s h 16 = true) (he : enable.toNat < 16)
    (hf : flags.toNat < 2) (ha : enable.getLsbD 1 = true → s.time.calValid = true ∧ s.calendar < calUnits alarm.toNat) :
    ∃ t, exec (.pwrSetWake h enable flags 0 alarm) s = .next t ∧ Safety.Answered h 0x0E04 0 [] s t ∧
      t = { s with host := t.host,
                   pwr := { s.pwr with wakeEnable := enable.setWidth 4, pcieWake := flags.getLsbD 0, alarm := alarm } } := by
  have hpast : (enable.getLsbD 1 && (!(s.mbStart h).time.calValid || decide (calUnits alarm.toNat ≤ (s.mbStart h).calendar))) = false := by
    cases hb : enable.getLsbD 1 with
    | false => rfl
    | true =>
      obtain ⟨hv, hc⟩ := ha hb
      have hc' : (s.mbStart h).calendar < calUnits alarm.toNat := hc
      simp [hv, hc']
  exact mbCmd_updPwr
    (f := fun p => { p with wakeEnable := enable.setWidth 4, pcieWake := flags.getLsbD 0, alarm := alarm }) hs (by simp [he, hf]) rfl rfl
    (by simp only [pwrSetWakeBody, hpast, Bool.false_eq_true, if_false]; rfl)

theorem exec_pwrSetDroop {en thresh rate : BitVec 16} (hs : Safety.served s h 8 = true) (h20 : 20 ≤ thresh.toNat)
    (h100 : thresh.toNat ≤ 100) (hrate : rate ≠ 0) :
    ∃ t, exec (.pwrSetDroop h en thresh rate 0) s = .next t ∧ Safety.Answered h 0x0E05 0 [] s t ∧
      t = { s with host := t.host, pwr := { s.pwr with droopEnable := en, threshMv := thresh.toNat, rateLimit := rate.toNat } } := by
  have hr0 : (rate.toNat == 0) = false := beq_eq_false_iff_ne.2 fun e => hrate (BitVec.eq_of_toNat_eq e)
  exact mbCmd_updPwr (f := fun p => { p with droopEnable := en, threshMv := thresh.toNat, rateLimit := rate.toNat }) hs rfl rfl rfl
    (by simp only [pwrSetDroopBody, out_eq_false h20 h100, hr0, Bool.or_self, Bool.false_eq_true, if_false]; rfl)

theorem exec_pwrSetSupply {addr : Byte} {settle timeout : BitVec 16} (hs : Safety.served s h 8 = true) (hlo : 0x08 ≤ addr.toNat)
    (hhi : addr.toNat ≤ 0x77) (hslo : 10 ≤ settle.toNat) (hshi : settle.toNat ≤ 5000) (htlo : 1 ≤ timeout.toNat)
    (hthi : timeout.toNat ≤ 100) (ht : s.pwr.trans = none) :
    ∃ t, exec (.pwrSetSupply h addr 0 settle timeout 0) s = .next t ∧ Safety.Answered h 0x0E06 0 [] s t ∧
      t = { s with host := t.host,
                   pwr := { s.pwr with pmbusAddr := addr, vsettleUs := settle.toNat, pgTimeoutMs := timeout.toNat } } := by
  have ht' : (s.mbStart h).pwr.trans.isSome = false := by rw [show (s.mbStart h).pwr.trans = none from ht]; rfl
  exact mbCmd_updPwr
    (f := fun p => { p with pmbusAddr := addr, vsettleUs := settle.toNat, pgTimeoutMs := timeout.toNat }) hs rfl rfl rfl (by
    simp only [pwrSetSupplyBody, out_eq_false hlo hhi, out_eq_false hslo hshi, out_eq_false htlo hthi, ht', Bool.or_self, Bool.false_eq_true,
      if_false]
    rfl)

theorem exec_pwrGetStatus (hs : Safety.served s h 0 = true) :
    ∃ t, exec (.pwrGetStatus h) s = .next t ∧ Safety.Answered h 0x0E07 0 s.pwrBytes s t ∧ t = { s with host := t.host } :=
  mbCmd_answer hs rfl rfl rfl rfl

end

/-- Settles O27: each command of the settings stores exactly its fields behind its range checks, PWR_GET_STATUS reads. -/
theorem powerSettingsApply : Obligations.PowerSettingsApply :=
  ⟨fun _ _ _ _ hs hm ht hi => exec_pwrSetRetention hs hm ht hi,
   fun _ _ _ _ hs hm ht hi => exec_pwrSetRetention_excess hs hm ht hi,
   fun _ _ _ _ _ hs he hf ha => exec_pwrSetWake hs he hf ha,
   fun _ _ _ _ _ hs h20 h100 hrate => exec_pwrSetDroop hs h20 h100 hrate,
   fun _ _ _ _ _ hs hlo hhi hslo hshi htlo hthi ht => exec_pwrSetSupply hs hlo hhi hslo hshi htlo hthi ht,
   fun _ _ hs => exec_pwrGetStatus hs⟩

end Sys2Proof.Machine

namespace Sys2Proof.Machine

/-! ## SYS_GET_INFO and the update commands (R349) -/

@[simp] theorem length_le (n v : Nat) : (le n v).length = n := by
  induction n generalizing v with
  | zero => rfl
  | succ n ih => simp [le, ih]

theorem slotRecord_length (q : BitVec 32) : (slotRecord q).length = 12 := by simp [slotRecord]

section
variable (s : State)

theorem State.flashWrite_only (a : Nat) (bs : List Byte) : Only [.boot] s (s.flashWrite a bs) := s.updBoot_only _

theorem State.flashErase_only (k : Nat) : Only [.boot] s (s.flashErase k) := s.updBoot_only _

theorem State.flashWrite_boot (a : Nat) (bs : List Byte) :
    (s.flashWrite a bs).boot = { s.boot with flash := (s.flashWrite a bs).boot.flash } := rfl

theorem State.flashErase_boot (k : Nat) : (s.flashErase k).boot = { s.boot with flash := (s.flashErase k).boot.flash } := rfl

/-- A written flash reads the bytes written at their place. -/
theorem State.flashByte_flashWrite (a : Nat) (bs : List Byte) (b : Nat) :
    (s.flashWrite a bs).flashByte b = if a ≤ b ∧ b < a + bs.length then bs.getD (b - a) 0xFF else s.flashByte b :=
  SMap.get_setList _ _ _ _ _

/-- An erased slot reads 0xFF. -/
theorem State.flashByte_flashErase (k a : Nat) :
    (s.flashErase k).flashByte a = if slotBase k ≤ a ∧ a < slotBase k + slotBytes then 0xFF else s.flashByte a := by
  refine (SMap.get_filter 0xFF (fun e => decide (slotBase k ≤ e) && decide (e < slotBase k + slotBytes)) s.boot.flash a).trans ?_
  simp only [Bool.and_eq_true, decide_eq_true_eq]
  rfl

end

section
variable {s u : State} {h : MbHdr} {c : MbCheck} {i : Instr} {body : State → Answer} {p : List Byte}

/-- A command that changes the boot fields alone. -/
theorem mbCmd_boot (hs : Safety.served s h c.len = true) (hr : c.rsv = false) (hz : c.zero = false)
    (hg : c.gated (s.mbStart h) = false) (hb : body (s.mbStart h) = okWith p u) (hu : Only [.boot] (s.mbStart h) u) :
    ∃ t, mbCmd h i (mbServe c h body) s = .next t ∧ Safety.Answered h c.op 0 p s t ∧
      t = { s with host := t.host, boot := t.boot } ∧ t.boot = u.boot := by
  obtain ⟨t, e, ha, ho, ht⟩ := mbCmd_done_answered (i := i) hs hr hz hg hb hu (by decide)
  exact ⟨t, e, ha, (ho.mono (qs := [.host, .alert, .boot]) (by decide)).eq_patch, by rw [ht]⟩

/-- SYS_GET_INFO is served before READY too (R340). -/
theorem exec_sysGetInfo (hs : Safety.rings s h = true) (hd : Safety.header h 0 = true) :
    ∃ t, exec (.sysGetInfo h) s = .next t ∧ Safety.Answered h 0x0101 0 s.infoBytes s t ∧ t = { s with host := t.host } := by
  obtain ⟨t, e, ha, hal, ht⟩ := mbCmd_early (c := { op := 0x0101, len := 0, early := fun _ => true }) (i := .sysGetInfo h)
    (body := fun s => okWith s.infoBytes s) hs hd (.inr rfl) rfl rfl rfl rfl ⟨_, rfl⟩
  exact ⟨t, e, ⟨ha, hal⟩, ht⟩

theorem updatable_le_one (s : State) : s.updatable ≤ 1 := by
  unfold State.updatable
  split <;> decide

theorem exec_sysUpdateBegin {slot : Byte} (hs : Safety.served s h 4 = true) (hk : slot.toNat = s.updatable) :
    ∃ t, exec (.sysUpdateBegin h slot 0) s = .next t ∧ Safety.Answered h 0x0103 0 [] s t ∧
      t = { s with host := t.host, boot := t.boot } ∧
      t.boot = { s.boot with flash := t.boot.flash, updSlot := some slot.toNat } ∧
      ∀ a, t.flashByte a = if slotBase slot.toNat ≤ a ∧ a < slotBase slot.toNat + slotBytes then 0xFF else s.flashByte a := by
  have hle : ¬1 < slot.toNat := by have := updatable_le_one s; omega
  have hk' : slot.toNat = (s.mbStart h).updatable := hk
  obtain ⟨t, e, ha, ht, hboot⟩ := mbCmd_boot (h := h)
    (i := .sysUpdateBegin h slot 0) (c := { op := 0x0103, len := 4 }) (body := updateBeginBody slot.toNat)
    (u := ((s.mbStart h).flashErase slot.toNat).updBoot fun b => { b with updSlot := some slot.toNat })
    hs rfl rfl rfl (by rw [updateBeginBody, if_neg hle, if_neg (not_not.2 hk')]; rfl)
    ((State.flashErase_only _ _).trans (State.updBoot_only _ _))
  refine ⟨t, e, ha, ht, by rw [hboot]; rfl, fun a => ?_⟩
  rw [← State.flashByte_flashErase s slot.toNat a, State.flashByte, hboot]
  rfl

theorem exec_sysUpdateData {offset bytes : BitVec 32} {data : List Byte} {k : Nat}
    (hs : Safety.served s h (16 + bytes.toNat) = true) (hk : s.boot.updSlot = some k) (hd : data.length = bytes.toNat)
    (ho : offset.toNat % 16 = 0) (hlo : 0x1000 ≤ offset.toNat) (hhi : offset.toNat + bytes.toNat ≤ slotBytes)
    (hn : 16 ≤ bytes.toNat) (hx : bytes.toNat ≤ 2016) (hm : bytes.toNat % 16 = 0) :
    ∃ t, exec (.sysUpdateData h offset bytes 0 data) s = .next t ∧ Safety.Answered h 0x0104 0 [] s t ∧
      t = { s with host := t.host, boot := t.boot } ∧ t.boot = { s.boot with flash := t.boot.flash } ∧
      ∀ a, t.flashByte a =
        if slotBase k + offset.toNat ≤ a ∧ a < slotBase k + offset.toNat + bytes.toNat then
          data.getD (a - (slotBase k + offset.toNat)) 0xFF
        else s.flashByte a := by
  have hz : (bytes == 0) = false := beq_zero_of_one_le (by omega)
  have hbad : ¬(offset.toNat % 16 ≠ 0 ∨ offset.toNat < 0x1000 ∨ slotBytes < offset.toNat + bytes.toNat ∨
      blockBad bytes.toNat = true) := by
    have hblock : blockBad bytes.toNat = false := by simp [blockBad, out_eq_false hn hx, hm]
    rw [hblock]
    simp [ho, hlo, hhi]
  have hk' : (s.mbStart h).boot.updSlot = some k := hk
  obtain ⟨t, e, ha, ht, hboot⟩ := mbCmd_boot (i := .sysUpdateData h offset bytes 0 data)
    (c := { op := 0x0104, len := 16 + bytes.toNat, zero := bytes == 0 })
    (body := updateDataBody offset.toNat bytes.toNat data)
    hs rfl hz rfl (by rw [updateDataBody, if_neg hbad, hk', List.take_of_length_le hd.le]; rfl) (State.flashWrite_only _ _ _)
  refine ⟨t, e, ha, ht, by rw [hboot]; rfl, fun a => ?_⟩
  rw [← hd, ← State.flashByte_flashWrite, State.flashByte, hboot]
  rfl

/-- The image verified, the slot's record is written last; SEQ is 1 where the other slot holds none (log 47). -/
theorem exec_sysUpdateEnd {k : Nat} (hs : Safety.served s h 0 = true) (hk : s.boot.updSlot = some k)
    (hc : s.imageCode (s.slotByte k) = 0) :
    ∃ t p, exec (.sysUpdateEnd h) s = .next t ∧ Safety.Answered h 0x0105 0 p s t ∧
      p = le 4 (imageInfo (s.slotByte k)).fwVersion.toNat ++ le 2 (imageInfo (s.slotByte k)).svn ++ zeros 2 ∧
      t = { s with host := t.host, boot := t.boot } ∧ t.boot = { s.boot with flash := t.boot.flash, updSlot := none } ∧
      ∀ a, t.flashByte a =
        if slotBase k ≤ a ∧ a < slotBase k + 12 then
          (slotRecord (match s.slotSeq (1 - k) with | some q => q + 1 | none => 1)).getD (a - slotBase k) 0xFF
        else s.flashByte a := by
  have hk' : (s.mbStart h).boot.updSlot = some k := hk
  have hc' : (s.mbStart h).imageCode ((s.mbStart h).slotByte k) = 0 := hc
  obtain ⟨t, e, ha, ht, hboot⟩ := mbCmd_boot (i := .sysUpdateEnd h) (c := { op := 0x0105, len := 0 }) (body := updateEndBody)
    hs rfl rfl rfl (by simp only [updateEndBody, hk', hc', ne_eq, not_true, if_false]; rfl)
    ((State.flashWrite_only _ _ _).trans (State.updBoot_only _ _))
  refine ⟨t, _, e, ha, rfl, ht, by rw [hboot]; rfl, fun a => ?_⟩
  rw [← slotRecord_length, ← State.flashByte_flashWrite, State.flashByte, hboot]
  rfl

end

/-- Settles O1: the link speed and width SYS_GET_INFO answers are those of the board record (log 13), the SEQ of the first slot record
is 1 (log 47). -/
theorem systemInfoAndUpdate : Obligations.SystemInfoAndUpdate :=
  ⟨fun _ _ hs hd => exec_sysGetInfo hs hd,
   fun _ _ _ hs hk => exec_sysUpdateBegin hs hk,
   fun _ _ _ _ _ _ hs hk hd ho hlo hhi hn hx hm => exec_sysUpdateData hs hk hd ho hlo hhi hn hx hm,
   fun _ _ _ hs hk hc => exec_sysUpdateEnd hs hk hc⟩

end Sys2Proof.Machine

namespace Sys2Proof.Machine

/-! ## The fuse commands and the debug unlock (R346, R350, R352) -/

section
variable {s u : State} {h : MbHdr} {c : MbCheck} {i : Instr} {body : State → Answer} {p : List Byte}

/-- A command of the fuses whose own rules leave the host interface alone. -/
theorem fuseCmd_answered {st : Nat} (hs : Safety.served s h c.len = true) (hr : c.rsv = false) (hz : c.zero = false)
    (hg : c.gated (s.mbStart h) = false) (hb : body (s.mbStart h) = .done st p u) (hu : u.host = (s.mbStart h).host) :
    ∃ t, fuseCmd h i (mbServe c h body) s = .next t ∧ Safety.Answered h c.op st p s t ∧
      t = { u with host := t.host, pending := s.pending } := by
  obtain ⟨t, e, ha, hal, ht⟩ := fuseCmd_done (i := i) hs hr hz hg hb ⟨_, hu⟩
  exact ⟨t, e, ⟨ha, hal.trans (by rw [hu]; rfl)⟩, ht⟩

theorem setSvnBody_eq {svn : Nat} (hlo : s.fuse.otpCounter ≤ svn) (hi : svn ≤ s.boot.imgSvn) (hx : svn ≤ 64) :
    setSvnBody svn s = okWith (le 2 svn ++ zeros 2) { s with fuse := { s.fuse with otpCounter := svn } } := by
  rw [setSvnBody, if_neg (Nat.not_lt.2 hx), if_neg (not_or.2 ⟨Nat.not_lt.2 hlo, Nat.not_lt.2 hi⟩)]

theorem setSvnBody_refused {svn : Nat} (hx : svn ≤ 64) (hout : svn < s.fuse.otpCounter ∨ s.boot.imgSvn < svn) :
    setSvnBody svn s = .done 0x0102 [] s := by
  rw [setSvnBody, if_neg (Nat.not_lt.2 hx), if_pos hout, fail]

/-- A slot that is neither the running image's nor the last one left is revoked. -/
theorem revokeBody_eq {k : Nat} (hk : k < 4) (hi : k ≠ s.boot.imgKey) (hl : 2 ≤ s.fuse.keysLeft ∨ s.fuse.revoked.getLsbD k = true) :
    revokeBody k s = ok { s with fuse := { s.fuse with revoked := s.fuse.revoked ||| BitVec.twoPow 4 k } } := by
  have hlast : ¬(s.fuse.keysLeft ≤ 1 ∧ (!s.fuse.revoked.getLsbD k) = true) := by
    rcases hl with hl | hl
    · omega
    · simp [hl]
  rw [revokeBody, if_neg (by omega), if_neg (not_or.2 ⟨hi, hlast⟩)]

theorem exec_sysSetSvn {svn : BitVec 16} (hs : Safety.served s h 4 = true) (hlo : s.fuse.otpCounter ≤ svn.toNat)
    (hi : svn.toNat ≤ s.boot.imgSvn) (hx : svn.toNat ≤ 64) :
    ∃ t, exec (.sysSetSvn h svn 0) s = .next t ∧ Safety.Answered h 0x0106 0 (le 2 svn.toNat ++ zeros 2) s t ∧
      t = { s with host := t.host, fuse := { s.fuse with otpCounter := svn.toNat } } :=
  fuseCmd_answered (c := { op := 0x0106, len := 4 }) (i := .sysSetSvn h svn 0) (body := setSvnBody svn.toNat) hs rfl rfl rfl
    (setSvnBody_eq (s := s.mbStart h) hlo hi hx) rfl

/-- An SVN below the counter or above the running image's is refused. -/
theorem exec_sysSetSvn_refused {svn : BitVec 16} (hs : Safety.served s h 4 = true) (hx : svn.toNat ≤ 64)
    (hout : svn.toNat < s.fuse.otpCounter ∨ s.boot.imgSvn < svn.toNat) :
    ∃ t, exec (.sysSetSvn h svn 0) s = .next t ∧ Safety.Answered h 0x0106 0x0102 [] s t ∧ t = { s with host := t.host } :=
  fuseCmd_answered (u := s.mbStart h) (c := { op := 0x0106, len := 4 }) (i := .sysSetSvn h svn 0) (body := setSvnBody svn.toNat)
    hs rfl rfl rfl (setSvnBody_refused hx hout) rfl

theorem exec_sysRevokeKey {k : Byte} (hs : Safety.served s h 4 = true) (hk : k.toNat < 4) (hi : k.toNat ≠ s.boot.imgKey)
    (hl : 2 ≤ s.fuse.keysLeft ∨ s.fuse.revoked.getLsbD k.toNat = true) :
    ∃ t, exec (.sysRevokeKey h k 0) s = .next t ∧ Safety.Answered h 0x0107 0 [] s t ∧
      t = { s with host := t.host, fuse := { s.fuse with revoked := s.fuse.revoked ||| BitVec.twoPow 4 k.toNat } } :=
  fuseCmd_answered (c := { op := 0x0107, len := 4 }) (i := .sysRevokeKey h k 0) (body := revokeBody k.toNat) hs rfl rfl rfl
    (revokeBody_eq (s := s.mbStart h) hk hi hl) rfl

/-! ### Debug unlock -/

theorem drawBytes_only (n : Nat) (s : State) : Only [.free] s (drawBytes n s).2 := by
  induction n generalizing s with
  | zero => exact .refl s
  | succ n ih => exact (s.drawBelow_only 256).trans (ih _)

@[simp] theorem drawBytes_length (n : Nat) (s : State) : (drawBytes n s).1.length = n := by
  induction n generalizing s with
  | zero => rfl
  | succ n ih => exact congrArg (· + 1) (ih _)

/-- A nonce drawn and kept with the time of its drawing. -/
def State.challenged (s : State) : State :=
  (drawBytes 32 s).2.updBoot fun b => { b with nonce := some (drawBytes 32 s).1, nonceTick := (drawBytes 32 s).2.time.ticks }

theorem State.challenged_only (s : State) : Only [.free, .boot] s s.challenged :=
  (drawBytes_only 32 s).step (State.updBoot_only _ _)

theorem State.challenged_boot (s : State) :
    s.challenged.boot = { s.boot with nonce := some (drawBytes 32 s).1, nonceTick := s.time.ticks } := by
  have hboot : (drawBytes 32 s).2.boot = s.boot := drawBytes_only 32 s .boot (by decide)
  have htime : (drawBytes 32 s).2.time = s.time := drawBytes_only 32 s .time (by decide)
  rw [State.challenged, State.updBoot_boot, hboot, htime]

theorem challengeBody_eq (hf : s.fuse.debugFused = false) : challengeBody s = okWith (drawBytes 32 s).1 s.challenged := by
  rw [challengeBody, hf]
  rfl

theorem exec_sysDebugChallenge (hs : Safety.served s h 0 = true) (hf : s.fuse.debugFused = false) :
    ∃ t nonce, exec (.sysDebugChallenge h) s = .next t ∧ Safety.Answered h 0x0108 0 nonce s t ∧ nonce.length = 32 ∧
      t = { s with host := t.host, free := t.free, boot := { s.boot with nonce := some nonce, nonceTick := s.time.ticks } } := by
  obtain ⟨t, e, ha, ho, ht⟩ := mbCmd_done_answered (c := { op := 0x0108, len := 0 }) (i := .sysDebugChallenge h) (body := challengeBody)
    hs rfl rfl rfl (challengeBody_eq (s := s.mbStart h) hf) (State.challenged_only _) (by decide)
  refine ⟨t, _, e, ha, drawBytes_length 32 _, ?_⟩
  have hboot : t.boot = (s.mbStart h).challenged.boot := by rw [ht]
  rw [State.challenged_boot] at hboot
  have hpatch : t = { s with host := t.host, free := t.free, boot := t.boot } :=
    (ho.mono (qs := [.host, .alert, .free, .boot]) (by decide)).eq_patch
  rwa [hboot] at hpatch

/-- The state a valid unlock leaves: its scope open, the nonce used up, an event written. -/
def State.unlocked (scope : Byte) (s : State) : State :=
  (s.updBoot fun b => { b with nonce := none, debugScope := scope.toNat }).logEvent 0x0105 0 scope.toNat

theorem unlockBody_eq {scope : Byte} {pub r g : List Byte} (hscope : scope = 1 ∨ scope = 2) (hf : s.fuse.debugFused = false)
    (hu : s.unlockOk scope pub r g = true) : unlockBody scope pub r g s = ok (s.unlocked scope) := by
  rw [unlockBody, if_neg (by tauto), hf, hu]
  rfl

theorem State.unlocked_only (scope : Byte) (s : State) : Only [.boot, .log, .alert] s (s.unlocked scope) :=
  (s.updBoot_only _).step (State.logEvent_only _ _ _ _)

theorem State.unlocked_boot (scope : Byte) (s : State) :
    (s.unlocked scope).boot = { s.boot with nonce := none, debugScope := scope.toNat } :=
  State.logEvent_only _ _ _ _ .boot (by decide)

theorem exec_sysDebugUnlock {scope : Byte} {pub r g : List Byte} (hs : Safety.served s h 200 = true) (hscope : scope = 1 ∨ scope = 2)
    (hf : s.fuse.debugFused = false) (hu : s.unlockOk scope pub r g = true) :
    ∃ t, exec (.sysDebugUnlock h scope 0 pub 0 r g) s = .next t ∧ Safety.AnsweredWith h 0x0109 0 [] s t ∧
      t = { s with host := t.host, log := t.log, boot := { s.boot with nonce := none, debugScope := scope.toNat } } := by
  obtain ⟨t, e, ha, -, ho, ht⟩ := mbCmd_done_only (c := { op := 0x0109, len := 200 }) (i := .sysDebugUnlock h scope 0 pub 0 r g)
    (body := unlockBody scope pub r g)
    hs rfl rfl rfl (unlockBody_eq (s := s.mbStart h) hscope hf hu) (State.unlocked_only _ _) (by decide)
  refine ⟨t, e, ha, ?_⟩
  have hboot : t.boot = ((s.mbStart h).unlocked scope).boot := by rw [ht]
  rw [State.unlocked_boot] at hboot
  have hpatch : t = { s with host := t.host, log := t.log, boot := t.boot } :=
    (ho.mono (qs := [.host, .alert, .log, .boot]) (by decide)).eq_patch
  rwa [hboot] at hpatch

end

/-- Settles O2: the two commands that blow fuses behind their checks, and the debug commands where debug is not fused off. -/
theorem fuseCommandsRun : Obligations.FuseCommandsRun :=
  ⟨fun _ _ _ hs hlo hi hx => exec_sysSetSvn hs hlo hi hx,
   fun _ _ _ hs hx hout => exec_sysSetSvn_refused hs hx hout,
   fun _ _ _ hs hk hi hl => exec_sysRevokeKey hs hk hi hl,
   fun _ _ hs hf => exec_sysDebugChallenge hs hf,
   fun _ _ _ _ _ _ hs hscope hf hu => exec_sysDebugUnlock hs hscope hf hu⟩

end Sys2Proof.Machine

namespace Sys2Proof.Machine

/-! ## What the core's reset leaves (R332, Table 13-1) -/

section
variable (s : State)

@[simp] theorem State.coreReset_fuse : s.coreReset.fuse = s.fuse := rfl
@[simp] theorem State.coreReset_pwr : s.coreReset.pwr = s.pwr.aon := rfl
@[simp] theorem State.coreReset_boot_flash : s.coreReset.boot.flash = s.boot.flash := rfl
@[simp] theorem State.coreReset_boot_stage : s.coreReset.boot.stage = .rom := rfl
@[simp] theorem State.coreReset_boot_bootMode : s.coreReset.boot.bootMode = s.boot.bootMode := rfl
@[simp] theorem State.coreReset_boot_resetN : s.coreReset.boot.resetN = s.boot.resetN := rfl
@[simp] theorem State.coreReset_resp : s.coreReset.host.resp = [] := rfl
@[simp] theorem State.coreReset_pages : s.coreReset.bat.pages = [] := rfl
@[simp] theorem State.coreReset_port : s.coreReset.port = [] := rfl
@[simp] theorem State.coreReset_head : s.coreReset.head = s.head := rfl
@[simp] theorem State.coreReset_permit : s.coreReset.fire.permit = false := rfl
@[simp] theorem State.coreReset_nvm : s.coreReset.nvm = s.nvm.unpowered := rfl
@[simp] theorem State.coreReset_ring : s.coreReset.log.ring = s.log.ring := rfl
@[simp] theorem State.coreReset_calValid : s.coreReset.time.calValid = s.time.calValid := rfl

/-- The start of the core touches its clock, its boot fields and its role (R289, R263, R344). -/
theorem State.startUp_only : Only [.time, .boot, .twin] s s.startUp := by
  unfold State.startUp
  dsimp only
  split_ifs <;> exact .of_eq rfl (by decide)

theorem State.startUp_boot :
    s.startUp.boot = { s.boot with stage := if s.boot.bootMode = 2 then .recovery else .rom, startTick := s.time.ticks } := by
  unfold State.startUp
  dsimp only
  rw [apply_ite State.boot, apply_ite State.boot]
  exact (congrArg (ite _ _) (ite_self _)).trans (ite_self _)

end

/-! ## Recovery (R348) -/

section
variable {s u : State} {h : MbHdr} {c : MbCheck} {i : Instr} {body : State → Answer} {p : List Byte}

theorem State.inRecovery_of_stage (hst : s.boot.stage = .recovery) : s.inRecovery = true := by
  simp [State.inRecovery, hst]

theorem recoveryLoadBody_eq {off n : Nat} {data : List Byte} (hst : s.boot.stage = .recovery) (hd : data.length = n)
    (ho : off % 16 = 0) (hhi : off + n ≤ 4194304) (hn : 16 ≤ n) (hx : n ≤ 2016) (hm : n % 16 = 0) :
    recoveryLoadBody off n data s = ok (s.updBoot fun b => { b with recImage := SMap.setList 0 b.recImage off data }) := by
  have hblock : blockBad n = false := by simp [blockBad, out_eq_false hn hx, hm]
  simp [recoveryLoadBody, ho, hhi, hblock, State.inRecovery_of_stage hst, List.take_of_length_le hd.le]

theorem exec_sysRecoveryLoad {offset bytes : BitVec 32} {data : List Byte} (hs : Safety.rings s h = true)
    (hh : Safety.header h (16 + bytes.toNat) = true) (hst : s.boot.stage = .recovery) (hd : data.length = bytes.toNat)
    (ho : offset.toNat % 16 = 0) (hhi : offset.toNat + bytes.toNat ≤ 4194304) (hn : 16 ≤ bytes.toNat) (hx : bytes.toNat ≤ 2016)
    (hm : bytes.toNat % 16 = 0) :
    ∃ t, exec (.sysRecoveryLoad h offset bytes 0 data) s = .next t ∧ Safety.Answered h 0x010A 0 [] s t ∧
      t = { s with host := t.host, boot := t.boot } ∧ t.boot = { s.boot with recImage := t.boot.recImage } ∧
      ∀ i, t.recByte i =
        if offset.toNat ≤ i ∧ i < offset.toNat + bytes.toNat then data.getD (i - offset.toNat) 0 else s.recByte i := by
  have hz : (bytes == 0) = false := beq_zero_of_one_le (by omega)
  obtain ⟨t, e, ha, hal, ht⟩ := mbCmd_early (i := .sysRecoveryLoad h offset bytes 0 data)
    (c := { op := 0x010A, len := 16 + bytes.toNat, zero := bytes == 0, early := State.inRecovery })
    (body := recoveryLoadBody offset.toNat bytes.toNat data) hs hh (.inr (State.inRecovery_of_stage (s := s.mbStart h) hst))
    rfl hz rfl (recoveryLoadBody_eq (s := s.mbStart h) hst hd ho hhi hn hx hm) ⟨_, rfl⟩
  have hboot : t.boot = { s.boot with recImage := SMap.setList 0 s.boot.recImage offset.toNat data } := by rw [ht]; rfl
  refine ⟨t, e, ⟨ha, hal⟩, by rw [ht]; rfl, by rw [hboot], fun k => ?_⟩
  rw [State.recByte, hboot, ← hd]
  exact SMap.get_setList _ _ _ _ _

theorem recoveryBootBody_eq (hst : s.boot.stage = .recovery) (hc : s.imageCode s.recByte = 0) :
    recoveryBootBody s = ok (s.enterImage 2 (imageInfo s.recByte)) := by
  simp [recoveryBootBody, State.inRecovery_of_stage hst, hc]

theorem exec_sysRecoveryBoot (hs : Safety.rings s h = true) (hh : Safety.header h 0 = true) (hst : s.boot.stage = .recovery)
    (hc : s.imageCode s.recByte = 0) :
    ∃ t, exec (.sysRecoveryBoot h) s = .next t ∧ Safety.Answered h 0x010B 0 [] s t ∧ t = { s with host := t.host, boot := t.boot } ∧
      t.boot = { s.boot with
        stage := .dramTrain, bootSlot := 2, fwVersion := (imageInfo s.recByte).fwVersion, imgSvn := (imageInfo s.recByte).svn,
        imgKey := (imageInfo s.recByte).key, board := (imageInfo s.recByte).board } := by
  obtain ⟨t, e, ha, hal, ht⟩ := mbCmd_early (i := .sysRecoveryBoot h) (c := { op := 0x010B, len := 0, early := State.inRecovery })
    (body := recoveryBootBody) hs hh (.inr (State.inRecovery_of_stage (s := s.mbStart h) hst)) rfl rfl rfl
    (recoveryBootBody_eq (s := s.mbStart h) hst hc) ⟨_, rfl⟩
  exact ⟨t, e, ⟨ha, hal⟩, by rw [ht]; rfl, by rw [ht]; rfl⟩

/-! ## SYS_RESET (R352) -/

/-- A slot rung while the cores run and the slot is empty is served. -/
theorem mbCmd_served {len : Nat} (f : State → State) (hs : Safety.served s h len = true) : mbCmd h i f s = done s (f s) := by
  obtain ⟨hl, h1, h2⟩ := rings_iff.1 (served_iff.1 hs).1
  rw [mbCmd, mbDoor_free _ _ _ _ hl h1 h2]

theorem mbCommon_served (hs : Safety.served s h c.len = true) (hr : c.rsv = false) (hg : c.gated s = false) (hz : c.zero = false) :
    mbCommon c h s = none := by
  obtain ⟨-, hready, hheader⟩ := served_iff.1 hs
  obtain ⟨hlen, hmax, hrsv⟩ := header_iff.1 hheader
  exact mbCommon_none s hready hlen hmax hrsv hr hg hz

theorem State.stage_of_served {len : Nat} (hs : Safety.served s h len = true) : s.boot.stage = .ready := by
  obtain ⟨hrings, hready, -⟩ := served_iff.1 hs
  obtain ⟨hl, -, -⟩ := rings_iff.1 hrings
  simp only [State.coresRun, State.isReady, Bool.and_eq_true, Bool.or_eq_true, bne_iff_ne, beq_iff_eq] at hl hready
  tauto

theorem State.alive_of_served {len : Nat} (hs : Safety.served s h len = true) : s.alive = true := by
  obtain ⟨hl, -, -⟩ := rings_iff.1 (served_iff.1 hs).1
  simp only [Bool.and_eq_true] at hl
  exact hl.1.1

/-- A slot's response is the one written last. -/
theorem State.resp_mbComplete (s : State) (h : MbHdr) (op st : Nat) (p : List Byte) :
    SMap.get {} (s.mbComplete h op st p).host.resp h.slot.toNat =
      ⟨BitVec.ofNat 16 op, h.tag, h.gen, BitVec.ofNat 16 st, s.time.clock.ns, p⟩ :=
  SMap.get_set_same _ _ _ _

/-- The answer comes first, then the restart or the reset. -/
theorem srvSysReset_eq {mode : Byte} (hs : Safety.served s h 4 = true) (hp : s.bat.pages = []) (hm : mode = 1 ∨ mode = 2) :
    srvSysReset h mode 0 s = if mode = 1 then ((s.mbStart h).mbComplete h 0x0102 0 []).restartFirmware
      else ((s.mbStart h).mbComplete h 0x0102 0 []).chipReset := by
  have hmode : ¬(mode.toNat ≠ 1 ∧ mode.toNat ≠ 2) := by rcases hm with rfl | rfl <;> decide
  have hbody (u : State) (hu : u.bat.pages = []) : sysResetBody mode.toNat u = ok u := by simp [sysResetBody, hmode, hu]
  have hcommon : mbCommon { op := 0x0102, len := 4 } h s = none := mbCommon_served hs rfl rfl rfl
  have hcommon' : mbCommon { op := 0x0102, len := 4 } h (s.mbStart h) = none := hcommon
  have hserve : mbServe { op := 0x0102, len := 4 } h (sysResetBody mode.toNat) s = (s.mbStart h).mbComplete h 0x0102 0 [] :=
    mbServe_done s hcommon' (hbody (s.mbStart h) hp)
  simp only [srvSysReset, BitVec.ofNat_eq_ofNat, bne_self_eq_false, hcommon, hbody s hp, hserve, ok]

/-- A firmware restart at READY: the stage, and the commands in execution, which will answer RESTARTED (R341, spec/01 R18). -/
theorem State.restartFirmware_ready (hst : s.boot.stage = .ready) : s.restartFirmware =
    { s with host := { s.host with inflight := s.host.inflight.map fun i => { i with wait := .restart, payload := [] } },
             boot := { s.boot with stage := .restarting } } := by
  unfold State.restartFirmware
  exact if_pos hst

theorem exec_sysReset_restart (hs : Safety.served s h 4 = true) (hp : s.bat.pages = []) :
    ∃ t, exec (.sysReset h 1 0) s = .next t ∧ t.boot = { s.boot with stage := .restarting } ∧
      t = { s with host := t.host, boot := t.boot } ∧
      SMap.get {} t.host.resp h.slot.toNat = ⟨0x0102, h.tag, h.gen, 0, s.time.clock.ns, []⟩ ∧
      t.host.done = s.host.done ||| slotBit h.slot ∧
      t.host.inflight = s.host.inflight.map fun i => { i with wait := .restart, payload := [] } := by
  have hst : s.boot.stage = .ready := State.stage_of_served hs
  have hserve : srvSysReset h 1 0 s = _ := (srvSysReset_eq hs hp (.inl rfl)).trans
    (State.restartFirmware_ready (s := (s.mbStart h).mbComplete h 0x0102 0 []) hst)
  obtain ⟨t, e, ⟨pba, sent, hhost⟩, ht⟩ := evtAny_next (s := s) (f := srvSysReset h 1 0)
  rw [hserve] at hhost ht
  refine ⟨t, (mbCmd_served _ hs).trans e, by rw [ht]; rfl, by rw [ht]; rfl, ?_, by rw [hhost]; rfl, by rw [hhost]; rfl⟩
  rw [hhost]
  exact State.resp_mbComplete (s.mbStart h) h 0x0102 0 []

/-! ### The reset of RESET_N -/

theorem State.resetLow_high (hr : s.boot.resetN = true) : s.resetLow =
    { s.coreReset with
      boot := { s.coreReset.boot with resetN := false },
      pwr := { corePg := s.pwr.corePg, aonThermal := s.pwr.aonThermal, thermalNew := s.pwr.thermalNew,
               aonWakeFail := s.pwr.aonWakeFail, aonBrownout := s.pwr.aonBrownout, lastSleep := s.pwr.lastSleep } } := by
  rw [State.resetLow, hr]
  rfl

theorem State.alive_iff : s.alive = true ↔ s.boot.resetN = true ∧ s.pwr.corePg = true ∧ (s.pwr.st = .run ∨ s.pwr.st = .hold) := by
  simp [State.alive, and_assoc]

/-- The chip's reset by command keeps the straps: the stage follows BOOT_MODE (log 47). -/
theorem State.chipReset_only (ha : s.alive = true) : Only [.time, .boot, .twin] s.resetLow s.chipReset := by
  obtain ⟨hr, hpg, -⟩ := State.alive_iff.1 ha
  have hlow : Only [.boot] s.resetLow (s.resetLow.updBoot fun b => { b with resetN := true, tap := tapActs false b.tap }) :=
    State.updBoot_only _ _
  have hpg' : (s.resetLow.updBoot fun b => { b with resetN := true, tap := tapActs false b.tap }).pwr.corePg = true := by
    rw [State.resetLow_high hr]
    exact hpg
  unfold State.chipReset
  rw [if_pos hpg']
  exact (hlow.step (State.startUp_only _)).mono (by decide)

theorem State.chipReset_boot (ha : s.alive = true) :
    s.chipReset.boot.stage = (if s.boot.bootMode = 2 then .recovery else .rom) ∧ s.chipReset.boot.flash = s.boot.flash := by
  obtain ⟨hr, hpg, -⟩ := State.alive_iff.1 ha
  have hpg' : (s.resetLow.updBoot fun b => { b with resetN := true, tap := tapActs false b.tap }).pwr.corePg = true := by
    rw [State.resetLow_high hr]
    exact hpg
  unfold State.chipReset
  rw [if_pos hpg', State.startUp_boot, State.resetLow_high hr]
  exact ⟨rfl, rfl⟩

theorem exec_sysReset_chip (hs : Safety.served s h 4 = true) (hp : s.bat.pages = []) :
    ∃ t, exec (.sysReset h 2 0) s = .next t ∧ t.boot.stage = (if s.boot.bootMode = 2 then Stage.recovery else Stage.rom) ∧
      t.host.resp = [] ∧ t.bat.pages = [] ∧ t.port = [] ∧ t.fire.permit = false ∧ t.fuse = s.fuse ∧ t.boot.flash = s.boot.flash := by
  have halive : s.alive = true := State.alive_of_served hs
  have ha : ((s.mbStart h).mbComplete h 0x0102 0 []).alive = true := halive
  have hserve : srvSysReset h 2 0 s = ((s.mbStart h).mbComplete h 0x0102 0 []).chipReset := srvSysReset_eq hs hp (.inr rfl)
  obtain ⟨hstage, hflash⟩ := State.chipReset_boot ha
  have honly := State.chipReset_only ha
  rw [State.resetLow_high (State.alive_iff.1 ha).1] at honly
  have hhost' : ((s.mbStart h).mbComplete h 0x0102 0 []).chipReset.host = _ := honly.host_eq (by decide)
  have hbat : ((s.mbStart h).mbComplete h 0x0102 0 []).chipReset.bat.pages = [] := honly .pages (by decide)
  have hport : ((s.mbStart h).mbComplete h 0x0102 0 []).chipReset.port = [] := honly .port (by decide)
  have hfire : ((s.mbStart h).mbComplete h 0x0102 0 []).chipReset.fire = _ := honly .fire (by decide)
  obtain ⟨t, e, ⟨pba, sent, hhost⟩, ht⟩ := evtAny_next (s := s) (f := srvSysReset h 2 0)
  rw [hserve] at hhost ht
  refine ⟨t, (mbCmd_served _ hs).trans e, ?_, ?_, ?_, ?_, ?_, ?_, ?_⟩
  · rw [ht]; exact hstage
  · rw [hhost, hhost']; rfl
  · rw [ht]; exact hbat
  · rw [ht]; exact hport
  · rw [ht]; exact congrArg Fire.permit hfire
  · rw [ht]
  · rw [ht]; exact hflash

end

/-- Settles O3: recovery is served before READY; SYS_RESET answers first, and its MODE 2 keeps the straps as sampled and so the stage
they lead to, which is the model's choice (log 47). -/
theorem recoveryAndReset : Obligations.RecoveryAndReset :=
  ⟨fun _ _ _ _ _ hs hh hst hd ho hhi hn hx hm => exec_sysRecoveryLoad hs hh hst hd ho hhi hn hx hm,
   fun _ _ hs hh hst hc => exec_sysRecoveryBoot hs hh hst hc,
   fun _ _ hs hp => exec_sysReset_restart hs hp,
   fun _ _ hs hp => exec_sysReset_chip hs hp⟩

end Sys2Proof.Machine

namespace Sys2Proof.Machine

/-! ## What an event leaves of the recorder's ring (R382) -/

section
variable (s : State)

/-- An event is staged: the ring, the sequence of the next record and what was cleared stay. -/
theorem State.logEvent_keeps (code inst data : Nat) : (s.logEvent code inst data).log.ring = s.log.ring ∧
    (s.logEvent code inst data).log.nextSeq = s.log.nextSeq ∧ (s.logEvent code inst data).log.clearedSeq = s.log.clearedSeq := by
  unfold State.logEvent State.logEventR State.logSecond
  dsimp only
  split_ifs <;> exact ⟨rfl, rfl, rfl⟩

end

/-! ## The LOG commands (Tables 14-4, 14-5) -/

section
variable {s u : State} {h : MbHdr}

theorem exec_logStatus (hs : Safety.served s h 0 = true) :
    ∃ t, exec (.logStatus h) s = .next t ∧ Safety.Answered h 0x0F01 0 s.logStatusBytes s t ∧ t = { s with host := t.host } :=
  mbCmd_answer hs rfl rfl rfl rfl

/-- CLEARED_SEQ set, journaled and written as an event. -/
def State.clearedTo (q : BitVec 32) (s : State) : State :=
  ((s.updLog fun l => { l with clearedSeq := some q }).updNvm fun n => { n with id := { n.id with clearedSeq := some q } }).logEvent
    0x0F02 0 q.toNat

theorem State.clearedTo_only (q : BitVec 32) (s : State) : Only [.log, .nvm, .alert] s (s.clearedTo q) :=
  (((s.updLog_only _).step (State.updNvm_only _ _)).step (State.logEvent_only _ _ _ _)).mono (by decide)

theorem logClearBody_eq {q : BitVec 32} (hb : s.logBeyond q = false) (hc : ∀ c, s.log.clearedSeq = some c → seqLe c q = true) :
    logClearBody q s = ok (s.clearedTo q) := by
  cases hcl : s.log.clearedSeq with
  | none => simp [logClearBody, hb, hcl, State.clearedTo]
  | some c => simp [logClearBody, hb, hcl, hc c hcl, State.clearedTo]

theorem exec_logClear {q : BitVec 32} (hs : Safety.served s h 4 = true) (hb : s.logBeyond q = false)
    (hc : ∀ c, s.log.clearedSeq = some c → seqLe c q = true) :
    ∃ t, exec (.logClear h q) s = .next t ∧ Safety.AnsweredWith h 0x0F02 0 [] s t ∧
      t = { s with host := t.host, log := t.log, nvm := { s.nvm with id := { s.nvm.id with clearedSeq := some q } } } ∧
      t.log.clearedSeq = some q ∧ t.log.ring = s.log.ring ∧ t.log.nextSeq = s.log.nextSeq := by
  obtain ⟨t, e, ha, -, ho, ht⟩ := mbCmd_done_only (i := .logClear h q) (c := { op := 0x0F02, len := 4 }) (body := logClearBody q)
    hs rfl rfl rfl (logClearBody_eq (s := s.mbStart h) hb hc) (State.clearedTo_only _ _) (by decide)
  have hnvm : t.nvm = { s.nvm with id := { s.nvm.id with clearedSeq := some q } } := by
    calc t.nvm = ((s.mbStart h).clearedTo q).nvm := by rw [ht]
      _ = _ := State.logEvent_only _ _ _ _ .nvm (by decide)
  have hlog : t.log = ((s.mbStart h).clearedTo q).log := by rw [ht]
  have hpatch : t = { s with host := t.host, log := t.log, nvm := t.nvm } :=
    (ho.mono (qs := [.host, .alert, .log, .nvm]) (by decide)).eq_patch
  obtain ⟨hring, hnext, hcleared⟩ := State.logEvent_keeps
    (((s.mbStart h).updLog fun l => { l with clearedSeq := some q }).updNvm fun n => { n with id := { n.id with clearedSeq := some q } })
    0x0F02 0 q.toNat
  rw [hnvm] at hpatch
  exact ⟨t, e, ha, hpatch, hlog ▸ hcleared, hlog ▸ hring, hlog ▸ hnext⟩

theorem exec_logSet {sev : Byte} (hs : Safety.served s h 4 = true) (hv : sev.toNat ≤ 2) :
    ∃ t, exec (.logSet h sev 0) s = .next t ∧ Safety.Answered h 0x0F03 0 [] s t ∧
      t = { s with host := t.host, log := { s.log with alertSev := sev.toNat } } := by
  obtain ⟨t, e, ha, -, ht⟩ := mbCmd_done_answered (i := .logSet h sev 0) (c := { op := 0x0F03, len := 4 })
    (body := fun s => if 2 < sev.toNat then fail 0x0F02 s else ok (s.updLog fun l => { l with alertSev := sev.toNat }))
    hs rfl rfl rfl (if_neg (Nat.not_lt.2 hv)) (State.updLog_only _ _) (by decide)
  exact ⟨t, e, ha, ht⟩

theorem exec_logRead {q : BitVec 32} {count : BitVec 16} (hs : Safety.served s h 8 = true) (h1 : 1 ≤ count.toNat)
    (h63 : count.toNat ≤ 63) :
    ∃ t, exec (.logRead h q count 0) s = .next t ∧ Safety.Answered h 0x0F04 0 (s.readRecords q count.toNat) s t ∧
      t = { s with host := t.host } :=
  mbCmd_answer hs rfl (beq_zero_of_one_le h1) rfl (if_neg (Nat.not_lt.2 h63))

/-! ## The clock hour (spec/13 R372)

A new clock hour ends the condition of DROOP_RATE, cause 5, which stays latched (log 93): no alert and no event. -/

/-- The end of a latched cause's condition clears its active bit and nothing else (R378). -/
theorem State.endCause_of_latched {c : Nat} (hc : c = 4 ∨ c = 5) (i : Nat) (s : State) : s.endCause c i =
    if s.health.active.getLsbD c then s.updHealth fun h => { h with active := h.active &&& ~~~(BitVec.twoPow 11 c) } else s := by
  unfold State.endCause
  cases s.health.active.getLsbD c <;> simp [hc]

theorem State.endCause_of_latched_only {c : Nat} (hc : c = 4 ∨ c = 5) (i : Nat) (s : State) : Only [.health] s (s.endCause c i) := by
  rw [State.endCause_of_latched hc]
  exact .ite (s.updHealth_only _) (.refl s)

theorem State.hourRoll_only (s : State) : Only [.pwr, .health] s s.hourRoll :=
  .ite (.refl s) ((s.updPwr_only _).step (State.endCause_of_latched_only (.inr rfl) 0 _))

theorem State.hourRoll_of_hour (hh : s.pwr.hour = s.hourNow) : s.hourRoll = s := if_pos hh

/-- The clock hour has nothing to do with the host interface. -/
theorem State.hourRoll_mbStart (s : State) (h : MbHdr) : (s.mbStart h).hourRoll = { s.hourRoll with host := (s.mbStart h).host } := by
  have hour : (s.mbStart h).hourNow = s.hourNow := rfl
  have hpwr : (s.mbStart h).pwr = s.pwr := rfl
  have hhealth : (s.mbStart h).health = s.health := rfl
  unfold State.hourRoll
  by_cases hh : s.pwr.hour = s.hourNow
  · simp only [hour, hpwr, hh, if_true]
    rfl
  · cases hb : s.health.active.getLsbD 5 <;>
      simp only [hour, hpwr, hh, hhealth, hb, State.endCause_of_latched (.inr rfl), State.updPwr_health, Bool.false_eq_true, if_false,
        if_true] <;> rfl

theorem State.healthReport_mbStart (s : State) (h : MbHdr) : (s.mbStart h).hourRoll.healthReport = s.hourRoll.healthReport := by
  rw [State.hourRoll_mbStart]
  rfl

/-! ## The HEALTH commands (Table 14-8) -/

theorem exec_healthGetReport (hs : Safety.served s h 0 = true) :
    ∃ t, exec (.healthGetReport h) s = .next t ∧ Safety.AnsweredWith h 0x1301 0 s.hourRoll.healthReport s t ∧
      t = { s with host := t.host, pwr := s.hourRoll.pwr, health := s.hourRoll.health, log := s.hourRoll.log } ∧
      (s.pwr.hour = s.hourNow → t.pwr = s.pwr ∧ t.health = s.health ∧ t.log = s.log ∧ t.host.alert = s.host.alert) := by
  obtain ⟨t, e, ⟨ha, hal⟩, ho, ht⟩ := mbCmd_done_answered (i := .healthGetReport h) (c := { op := 0x1301, len := 0 })
    (body := fun s => okWith s.hourRoll.healthReport s.hourRoll) hs rfl rfl rfl rfl (State.hourRoll_only _) (by decide)
  rw [State.healthReport_mbStart] at ha
  have hlog : s.hourRoll.log = s.log := s.hourRoll_only .log (by decide)
  have hpwr : t.pwr = s.hourRoll.pwr := by rw [ht, State.hourRoll_mbStart]
  have hhealth : t.health = s.hourRoll.health := by rw [ht, State.hourRoll_mbStart]
  have hpatch : t = { s with host := t.host, pwr := t.pwr, health := t.health } :=
    (ho.mono (qs := [.host, .alert, .pwr, .health]) (by decide)).eq_patch
  refine ⟨t, e, ha, ?_, fun hh => ?_⟩
  · rw [hpwr, hhealth] at hpatch
    rw [hlog]
    exact hpatch
  · have htlog : t.log = s.log := ho .log (by decide)
    rw [hpwr, hhealth, State.hourRoll_of_hour hh]
    exact ⟨rfl, rfl, htlog, hal⟩

/-- Clearing cause `c` clears its two bits and no other (R378). -/
theorem State.clearCause_bits {c : Nat} (hc : c < 11) (k : Nat) (s : State) :
    (s.clearCause c).health.active.getLsbD k = (s.health.active.getLsbD k && decide (k ≠ c)) ∧
    (s.clearCause c).health.latched.getLsbD k = (s.health.latched.getLsbD k && decide (k ≠ c)) := by
  unfold State.clearCause
  split
  case isTrue hno =>
    simp only [State.causes, BitVec.getLsbD_or, Bool.not_eq_true', Bool.or_eq_false_iff] at hno
    obtain ⟨hact, hlat⟩ := hno
    by_cases hk : k = c
    · subst hk; simp [hact, hlat]
    · simp [hk]
  case isFalse =>
    have hlog (u : State) (code inst data : Nat) : (u.logEvent code inst data).health = u.health :=
      u.logEvent_only code inst data .health (by decide)
    rw [hlog]
    have hbit (x : BitVec 11) : (x &&& ~~~(BitVec.twoPow 11 c)).getLsbD k = (x.getLsbD k && decide (k ≠ c)) := by
      by_cases hk : k < 11
      · simp [hk, eq_comm]
      · simp [BitVec.getLsbD_of_ge x k (by omega)]
    exact ⟨hbit _, hbit _⟩

theorem State.clearCauses_only (l : List Nat) (s : State) : Only [.health, .log, .alert] s (l.foldl (fun t c => t.clearCause c) s) :=
  .foldl (fun u c => u.clearCause_only c) l s

theorem State.clearCauses_bits (l : List Nat) (hl : ∀ c ∈ l, c < 11) {k : Nat} (s : State)
    (hk : k ∈ l ∨ s.health.active.getLsbD k = false ∧ s.health.latched.getLsbD k = false) :
    (l.foldl (fun t c => t.clearCause c) s).health.active.getLsbD k = false ∧
    (l.foldl (fun t c => t.clearCause c) s).health.latched.getLsbD k = false := by
  induction l generalizing s with
  | nil => simpa using hk
  | cons c l ih =>
    obtain ⟨hact, hlat⟩ := State.clearCause_bits (hl c List.mem_cons_self) k s
    refine ih (fun c hc => hl c (List.mem_cons_of_mem _ hc)) (s.clearCause c) ?_
    rw [hact, hlat]
    by_cases hkc : k = c
    · simp [hkc]
    · rcases hk with hk | ⟨ha, hb⟩
      · exact .inl ((List.mem_cons.1 hk).resolve_left hkc)
      · simp [ha, hb]

/-- The causes a command names. -/
def namedCauses (causes : BitVec 16) : List Nat := (List.range 11).filter fun c => causes.getLsbD c

theorem mem_namedCauses {causes : BitVec 16} {c : Nat} : c ∈ namedCauses causes ↔ c < 11 ∧ causes.getLsbD c = true := by
  simp [namedCauses]

theorem healthClearBody_eq {causes : BitVec 16} (hn : causes.toNat < 2048)
    (ha : ∀ c, c < 11 → causes.getLsbD c = true → s.hourRoll.health.active.getLsbD c = false) :
    healthClearBody causes s = ok ((namedCauses causes).foldl (fun t c => t.clearCause c) s.hourRoll) := by
  have hany : (namedCauses causes).any (fun c => s.hourRoll.health.active.getLsbD c) = false := by
    refine List.any_eq_false.2 fun c hc => ?_
    obtain ⟨hlt, hbit⟩ := mem_namedCauses.1 hc
    simp [ha c hlt hbit]
  unfold healthClearBody
  exact (if_neg (Nat.not_le.2 hn)).trans (if_neg (by simpa [namedCauses] using hany))

theorem exec_healthClear {causes : BitVec 16} (hs : Safety.served s h 4 = true) (hn : causes.toNat < 2048)
    (ha : ∀ c, c < 11 → causes.getLsbD c = true → s.hourRoll.health.active.getLsbD c = false) :
    ∃ t, exec (.healthClear h causes 0) s = .next t ∧ Safety.AnsweredWith h 0x1302 0 [] s t ∧
      t = { s with host := t.host, pwr := t.pwr, health := t.health, log := t.log } ∧
      ∀ c, c < 11 → causes.getLsbD c = true → t.health.active.getLsbD c = false ∧ t.health.latched.getLsbD c = false := by
  have hbody := healthClearBody_eq (s := s.mbStart h) hn (by rw [State.hourRoll_mbStart]; exact ha)
  obtain ⟨t, e, han, -, ho, ht⟩ := mbCmd_done_only (i := .healthClear h causes 0) (c := { op := 0x1302, len := 4 })
    (body := healthClearBody causes) hs rfl rfl rfl hbody
    ((State.hourRoll_only _).step (State.clearCauses_only _ _)) (by decide)
  refine ⟨t, e, han, (ho.mono (qs := [.host, .alert, .pwr, .health, .log]) (by decide)).eq_patch, fun c hc hbit => ?_⟩
  have hhealth : t.health = ((namedCauses causes).foldl (fun t c => t.clearCause c) (s.mbStart h).hourRoll).health := by rw [ht]
  rw [hhealth]
  exact State.clearCauses_bits _ (fun k hk => (mem_namedCauses.1 hk).1) _ (.inl (mem_namedCauses.2 ⟨hc, hbit⟩))

theorem exec_healthSet {tj pll : BitVec 16} (hs : Safety.served s h 4 = true) (hlo : 0x0500 ≤ tj.toInt) (hhi : tj.toInt ≤ 0x0690)
    (h10 : 10 ≤ pll.toNat) (h500 : pll.toNat ≤ 500) :
    ∃ t, exec (.healthSet h tj pll) s = .next t ∧ Safety.Answered h 0x1303 0 [] s t ∧
      t = { s with host := t.host, health := { s.health with tjWarn := tj.toInt, pllMin := pll.toNat } } := by
  have hbody : healthSetBody tj pll (s.mbStart h) =
      ok ((s.mbStart h).updHealth fun h => { h with tjWarn := tj.toInt, pllMin := pll.toNat }) := by
    simp [healthSetBody, checked, firstBad, outI, not_lt.2 hlo, not_lt.2 hhi, out_eq_false h10 h500]
  obtain ⟨t, e, ha, -, ht⟩ := mbCmd_done_answered (i := .healthSet h tj pll) (c := { op := 0x1303, len := 4 })
    (body := healthSetBody tj pll) hs rfl rfl rfl hbody (State.updHealth_only _ _) (by decide)
  exact ⟨t, e, ha, ht⟩

theorem exec_healthUnretire {kind index : Byte} (hs : Safety.served s h 4 = true) (hk : kind.toNat ≤ 3)
    (hi : index.toNat ≤ (if kind = 0 then 47 else if kind = 1 then 3 else 15)) (hp : s.partRetired kind.toNat index.toNat = true) :
    ∃ t, exec (.healthUnretire h kind index 0) s = .next t ∧ Safety.Answered h 0x1304 0 [] s t ∧
      t = { s with host := t.host, nvm := { s.nvm with id := { s.nvm.id with
        unretire := s.nvm.id.unretire.filter (· != (kind.toNat, index.toNat)) ++ [(kind.toNat, index.toNat)] } } } := by
  have htop : ¬(if kind.toNat = 0 then 47 else if kind.toNat = 1 then 3 else 15) < index.toNat := by
    have h0 : kind = 0 ↔ kind.toNat = 0 := BitVec.toNat_inj.symm
    have h1 : kind = 1 ↔ kind.toNat = 1 := BitVec.toNat_inj.symm
    rw [if_congr h0 rfl (if_congr h1 rfl rfl)] at hi
    exact not_lt.2 hi
  have hp' : (s.mbStart h).partRetired kind.toNat index.toNat = true := hp
  have hbody : healthUnretireBody kind index (s.mbStart h) = ok ((s.mbStart h).updNvm fun n => { n with id := { n.id with
      unretire := n.id.unretire.filter (· != (kind.toNat, index.toNat)) ++ [(kind.toNat, index.toNat)] } }) := by
    simp only [healthUnretireBody, checked, firstBad, not_lt.2 hk, htop, hp', decide_false, Bool.not_true, Bool.false_eq_true, if_false]
  obtain ⟨t, e, ha, -, ht⟩ := mbCmd_done_answered (i := .healthUnretire h kind index 0) (c := { op := 0x1304, len := 4 })
    (body := healthUnretireBody kind index) hs rfl rfl rfl hbody (State.updNvm_only _ _) (by decide)
  exact ⟨t, e, ha, ht⟩

end

/-- Settles O29: the reports read the ring, the settings store their fields; the condition of DROOP_RATE ends with the clock hour
(log 93). -/
theorem logAndHealthCommandsRun : Obligations.LogAndHealthCommandsRun :=
  ⟨fun _ _ hs => exec_logStatus hs,
   fun _ _ _ hs hb hc => exec_logClear hs hb hc,
   fun _ _ _ hs hv => exec_logSet hs hv,
   fun _ _ _ _ hs h1 h63 => exec_logRead hs h1 h63,
   fun _ _ hs => exec_healthGetReport hs,
   fun _ _ _ hs hn ha => exec_healthClear hs hn ha,
   fun _ _ _ _ hs hlo hhi h10 h500 => exec_healthSet hs hlo hhi h10 h500,
   fun _ _ _ _ hs hk hi hp => exec_healthUnretire hs hk hi hp⟩

end Sys2Proof.Machine

namespace Sys2Proof.Machine

/-! ## Events with a frame that may hold the host interface -/

section
variable {s : State} {f : State → State} {ps : List Part}

/-- An event of the powered chip: the frame of its effect, and what it is but for the interrupts sent. -/
theorem evt_frame (ha : s.alive = true) (ho : Only ps s (f s)) (hn : .pending ∉ ps ∧ .fuse ∉ ps) :
    ∃ t, evt f s = .next t ∧ Only (.host :: ps) s t ∧ t = { f s with host := t.host } ∧ t.host.alert = (f s).host.alert := by
  obtain ⟨pba, msi, hx⟩ := evt_sent ha ho hn
  exact ⟨_, hx, ho.sent pba msi, rfl, rfl⟩

end

/-! ## Causes and retirements (R377, R378) -/

section
variable (s : State)

theorem State.testFailed_only (kind i : Nat) : Only [.log, .alert] s (s.testFailed kind i) := s.logEvent_only _ _ _

theorem State.testFailed_rises (kind i : Nat) : Rises s (s.testFailed kind i) := s.logEvent_rises _ _ _

theorem State.dropSd_only (i : Nat) : Only [.health, .nvm] s (s.dropSd i) := .of_eq rfl (by decide)

theorem State.dropVe_only (i : Nat) : Only [.health, .nvm] s (s.dropVe i) := .of_eq rfl (by decide)

/-- A new cause changes the causes and what goes with them, and no other part of the health monitor. -/
theorem State.setCause_health (c i : Nat) : ∃ active latched firstSeq instances, (s.setCause c i).health = { s.health with
    active := active, latched := latched, firstSeq := firstSeq, instances := instances } := by
  unfold State.setCause
  split
  · exact ⟨_, _, _, _, rfl⟩
  · exact ⟨_, _, _, _, State.logEventR_only _ _ _ _ _ .health (by decide)⟩

theorem State.setCause_retired (c i : Nat) : (s.setCause c i).health.sdRetired = s.health.sdRetired ∧
    (s.setCause c i).health.veRetired = s.health.veRetired ∧ (s.setCause c i).health.bankRetired = s.health.bankRetired := by
  obtain ⟨_, _, _, _, h⟩ := s.setCause_health c i
  rw [h]
  exact ⟨rfl, rfl, rfl⟩

end

/-- A part's retirement: its mask changed and journaled, then the event and the cause. -/
theorem State.failed_frame {s u : State} (ho : Only [.health, .nvm] s u) (kind i c : Nat) :
    Only [.health, .nvm, .log, .alert] s ((u.testFailed kind i).setCause c i) ∧ Rises s ((u.testFailed kind i).setCause c i) :=
  ⟨((ho.step (u.testFailed_only kind i)).step (State.setCause_only _ c i)).mono (by decide),
   ((ho.rises (by decide)).trans (u.testFailed_rises kind i)).trans (State.setCause_rises _ c i)⟩

section
variable {s : State} {i : Nat}

theorem State.retireSd_eq (hr : s.health.sdRetired.getLsbD i = false) :
    s.retireSd i = ((s.dropSd i).testFailed 0 i).setCause 7 i := by
  rw [State.retireSd, hr]
  rfl

theorem State.retireVe_eq (hr : s.health.veRetired.getLsbD i = false) :
    s.retireVe i = ((s.dropVe i).testFailed 2 i).setCause 6 i := by
  rw [State.retireVe, hr]
  rfl

/-- A retired decoder is out of service, journaled, with its cause. -/
theorem State.retireSd_spec (hi : i < 16) (hr : s.health.sdRetired.getLsbD i = false) :
    (s.retireSd i).health.sdRetired.getLsbD i = true ∧ (s.retireSd i).nvm.id.sdRetired = (s.retireSd i).health.sdRetired ∧
    (s.retireSd i).health.active.getLsbD 7 = true := by
  have hhealth : ((s.dropSd i).testFailed 0 i).health = (s.dropSd i).health := State.testFailed_only _ _ _ .health (by decide)
  have hnvm : (((s.dropSd i).testFailed 0 i).setCause 7 i).nvm = (s.dropSd i).nvm :=
    (((s.dropSd i).testFailed_only 0 i).step (State.setCause_only _ 7 i)) .nvm (by decide)
  obtain ⟨hsd, -, -⟩ := ((s.dropSd i).testFailed 0 i).setCause_retired 7 i
  rw [State.retireSd_eq hr, hnvm, hsd, hhealth]
  exact ⟨by simp [State.dropSd, hi], rfl, State.setCause_active _ (by decide) i⟩

/-- A retired vision engine is out of service, journaled, with its cause. -/
theorem State.retireVe_spec (hi : i < 4) (hr : s.health.veRetired.getLsbD i = false) :
    (s.retireVe i).health.veRetired.getLsbD i = true ∧ (s.retireVe i).nvm.id.veRetired = (s.retireVe i).health.veRetired ∧
    (s.retireVe i).health.active.getLsbD 6 = true := by
  have hhealth : ((s.dropVe i).testFailed 2 i).health = (s.dropVe i).health := State.testFailed_only _ _ _ .health (by decide)
  have hnvm : (((s.dropVe i).testFailed 2 i).setCause 6 i).nvm = (s.dropVe i).nvm :=
    (((s.dropVe i).testFailed_only 2 i).step (State.setCause_only _ 6 i)) .nvm (by decide)
  obtain ⟨-, hve, -⟩ := ((s.dropVe i).testFailed 2 i).setCause_retired 6 i
  rw [State.retireVe_eq hr, hnvm, hve, hhealth]
  exact ⟨by simp [State.dropVe, hi], rfl, State.setCause_active _ (by decide) i⟩

/-! ## Known-answer tests (R376) -/

/-- A mismatch counted, SELFTEST_FAIL raised. -/
def State.missed (key : Nat) (s : State) : State :=
  (s.updHealth fun h => { h with sdMiss := h.sdMiss.upd 0 key (· + 1) }).raise .health 3

theorem State.missed_only (key : Nat) : Only [.health, .alert] s (s.missed key) := (s.updHealth_only _).step (State.raise_only _ _ _)

theorem State.raised_missed (key : Nat) : Safety.Raised .health 3 (s.missed key) := State.raised_raise (by decide)

/-- The second mismatch in a row retires the part. -/
theorem State.knownAnswer_second {kind : Nat} (hm : s.health.sdMiss.get 0 (kind * 16 + i) = 1) : s.knownAnswer kind i false =
    if kind = 0 then (s.missed (kind * 16 + i)).retireSd i else if kind = 1 then (s.missed (kind * 16 + i)).retireFs i
    else (s.missed (kind * 16 + i)).retireVe i := by
  have htwo : ¬(s.missed (kind * 16 + i)).health.sdMiss.get 0 (kind * 16 + i) < 2 := by
    simp [State.missed, State.raise, State.raiseBits, hm]
  exact if_neg htwo

theorem State.decoderSelftest_idle (hi : i < 16) (hr : s.health.sdRetired.getLsbD i = false) (hb : s.decoderBusy i = false)
    (hg : s.pixGated = false) (matched : Bool) : s.decoderSelftest i matched = s.knownAnswer 0 i matched := by
  rw [State.decoderSelftest, hr, hb, hg, if_neg (by simp [hi])]

theorem exec_decoderSelftest_match (ha : s.alive = true) (hi : i < 16) (hr : s.health.sdRetired.getLsbD i = false)
    (hb : s.decoderBusy i = false) (hg : s.pixGated = false) :
    ∃ t, exec (.decoderSelftest i true) s = .next t ∧ Safety.Quiet s t ∧
      t = { s with host := t.host, health := { s.health with sdMiss := s.health.sdMiss.set 0 i 0 } } := by
  have hu : s.decoderSelftest i true = s.updHealth fun h => { h with sdMiss := h.sdMiss.set 0 i 0 } := by
    rw [State.decoderSelftest_idle hi hr hb hg]
    simp [State.knownAnswer]
  exact evt_quiet ha hu (s.updHealth_only _) (by decide)

theorem exec_decoderSelftest_second (ha : s.alive = true) (hi : i < 16) (hr : s.health.sdRetired.getLsbD i = false)
    (hb : s.decoderBusy i = false) (hg : s.pixGated = false) (hm : s.health.sdMiss.get 0 i = 1) :
    ∃ t, exec (.decoderSelftest i false) s = .next t ∧ Safety.Alerted s t ∧ Safety.Raised .health 3 t ∧
      t = { s with host := t.host, health := t.health, nvm := t.nvm, log := t.log } ∧ t.health.sdRetired.getLsbD i = true ∧
      t.nvm.id.sdRetired = t.health.sdRetired ∧ t.health.active.getLsbD 7 = true := by
  have hu : s.decoderSelftest i false = (s.missed (0 * 16 + i)).retireSd i := by
    rw [State.decoderSelftest_idle hi hr hb hg, State.knownAnswer_second (by rwa [Nat.zero_mul, Nat.zero_add]), if_pos rfl]
  have hr' : (s.missed (0 * 16 + i)).health.sdRetired.getLsbD i = false := hr
  obtain ⟨hfr, hrise⟩ := State.failed_frame ((s.missed (0 * 16 + i)).dropSd_only i) 0 i 7
  rw [← State.retireSd_eq hr', ← hu] at hfr hrise
  obtain ⟨hsd, hjournal, hcause⟩ := State.retireSd_spec hi hr'
  rw [← hu] at hsd hjournal hcause
  obtain ⟨t, hx, hal, -, ho, hsent⟩ := evt_only (f := State.decoderSelftest i false) ha
    (((State.missed_only (0 * 16 + i)).step hfr).mono (qs := [.health, .nvm, .log, .alert]) (by decide)) (by decide)
  have hhealth : t.health = (s.decoderSelftest i false).health := hsent .health (by decide)
  have hnvm : t.nvm = (s.decoderSelftest i false).nvm := hsent .nvm (by decide)
  rw [← hhealth] at hsd hjournal hcause
  rw [← hnvm] at hjournal
  exact ⟨t, hx, hal, raised_of_only hsent (hrise _ _ (State.raised_missed _)),
    (ho.mono (qs := [.host, .alert, .health, .nvm, .log]) (by decide)).eq_patch, hsd, hjournal, hcause⟩

theorem exec_veSelftest_second (ha : s.alive = true) (hi : i < 4) (hr : s.health.veRetired.getLsbD i = false)
    (hg : s.visGated = false) (hm : s.health.sdMiss.get 0 (32 + i) = 1) :
    ∃ t, exec (.veSelftest i false) s = .next t ∧ Safety.Alerted s t ∧ Safety.Raised .health 3 t ∧
      t = { s with host := t.host, health := t.health, nvm := t.nvm, log := t.log } ∧ t.health.veRetired.getLsbD i = true ∧
      t.nvm.id.veRetired = t.health.veRetired ∧ t.health.active.getLsbD 6 = true := by
  have hu : s.veSelftest i false = (s.missed (2 * 16 + i)).retireVe i := by
    rw [State.veSelftest, hr, hg, if_neg (by simp [hi]), State.knownAnswer_second hm, if_neg (by decide), if_neg (by decide)]
  have hr' : (s.missed (2 * 16 + i)).health.veRetired.getLsbD i = false := hr
  obtain ⟨hfr, hrise⟩ := State.failed_frame ((s.missed (2 * 16 + i)).dropVe_only i) 2 i 6
  rw [← State.retireVe_eq hr', ← hu] at hfr hrise
  obtain ⟨hve, hjournal, hcause⟩ := State.retireVe_spec hi hr'
  rw [← hu] at hve hjournal hcause
  obtain ⟨t, hx, hal, -, ho, hsent⟩ := evt_only (f := State.veSelftest i false) ha
    (((State.missed_only (2 * 16 + i)).step hfr).mono (qs := [.health, .nvm, .log, .alert]) (by decide)) (by decide)
  have hhealth : t.health = (s.veSelftest i false).health := hsent .health (by decide)
  have hnvm : t.nvm = (s.veSelftest i false).nvm := hsent .nvm (by decide)
  rw [← hhealth] at hve hjournal hcause
  rw [← hnvm] at hjournal
  exact ⟨t, hx, hal, raised_of_only hsent (hrise _ _ (State.raised_missed _)),
    (ho.mono (qs := [.host, .alert, .health, .nvm, .log]) (by decide)).eq_patch, hve, hjournal, hcause⟩

/-! ## Margin and temperature readings (Table 14-1) -/

theorem exec_pllMarginCheck_within {m : BitVec 16} (ha : s.alive = true) (hm : s.health.pllMin ≤ m.toNat) :
    ∃ t, exec (.pllMarginCheck m) s = .next t ∧ t = { s with host := t.host, health := t.health, log := t.log } ∧
      t.health.active.getLsbD 4 = false ∧ t.health.pllMargin = m.toNat ∧ t.health.pllLow = 0 := by
  have hu : s.pllMarginCheck m.toNat = (s.updHealth fun h => { h with pllMargin := m.toNat, pllLow := 0 }).endCause 4 0 := by
    simp [State.pllMarginCheck, Nat.not_lt.2 hm]
  rw [State.endCause_of_latched (.inl rfl)] at hu
  obtain ⟨t, hx, hfr, hsent, -⟩ := evt_effect (f := State.pllMarginCheck m.toNat) ha hu
    (.ite ((s.updHealth_only _).trans (State.updHealth_only _ _)) (s.updHealth_only _)) (by decide)
  refine ⟨t, hx, (hfr.mono (qs := [.host, .alert, .health, .log]) (by decide)).eq_patch, ?_⟩
  rw [show t.health = _ from hsent .health (by decide)]
  split
  · simp
  case isFalse hact => exact ⟨by simpa using hact, rfl, rfl⟩

theorem exec_pllMarginCheck_third {m : BitVec 16} (ha : s.alive = true) (hm : m.toNat < s.health.pllMin) (hl : 2 ≤ s.health.pllLow) :
    ∃ t, exec (.pllMarginCheck m) s = .next t ∧ Safety.Alerted s t ∧ t = { s with host := t.host, health := t.health, log := t.log } ∧
      t.health.active.getLsbD 4 = true ∧ t.health.pllMargin = m.toNat := by
  have hu : s.pllMarginCheck m.toNat =
      (s.updHealth fun h => { h with pllMargin := m.toNat, pllLow := h.pllLow + 1 }).setCause 4 0 := by
    simp [State.pllMarginCheck, hm, Nat.succ_le_succ hl]
  have ho : Only [.health, .log, .alert] s (s.pllMarginCheck m.toNat) :=
    hu ▸ ((s.updHealth_only _).step (State.setCause_only _ 4 0)).mono (by decide)
  obtain ⟨t, hx, hal, -, hfr, hsent⟩ := evt_only (f := State.pllMarginCheck m.toNat) ha ho (by decide)
  refine ⟨t, hx, hal, (hfr.mono (qs := [.host, .alert, .health, .log]) (by decide)).eq_patch, ?_⟩
  rw [show t.health = _ from hsent .health (by decide), hu]
  obtain ⟨_, _, _, _, hhealth⟩ :=
    State.setCause_health (s.updHealth fun h => { h with pllMargin := m.toNat, pllLow := h.pllLow + 1 }) 4 0
  exact ⟨State.setCause_active _ (by decide) 0, by rw [hhealth]; rfl⟩

/-- A bit put to a value. -/
theorem getLsbD_put {w i k : Nat} (hi : i < w) (hk : k < w) (b : Bool) (x : BitVec w) :
    (if b then x ||| BitVec.twoPow w i else x &&& ~~~(BitVec.twoPow w i)).getLsbD k = if k = i then b else x.getLsbD k := by
  rcases eq_or_ne k i with rfl | hne
  · cases b <;> simp [hk]
  · cases b <;> simp [hk, hne]

theorem State.tjSensor_only (i : Nat) (x : Int) (s : State) : Only [.health, .log, .alert] s (s.tjSensor i x) :=
  .ite (((s.updHealth_only _).step ((State.raise_only _ _ _).step (State.logEvent_only _ _ _ _))).mono (by decide))
    ((s.updHealth_only _).mono (by decide))

/-- A reading sets its sensor's bit and leaves the others and TJ_WARN. -/
theorem State.tjSensor_health {i : Nat} (hi : i < 8) (x : Int) (s : State) :
    (s.tjSensor i x).health.tjWarn = s.health.tjWarn ∧
    ∀ k, k < 8 → (s.tjSensor i x).health.tjHigh.getLsbD k = if k = i then decide (s.health.tjWarn < x) else s.health.tjHigh.getLsbD k := by
  have hhealth : (s.tjSensor i x).health = { s.health with
      tjHigh := if decide (s.health.tjWarn < x) then s.health.tjHigh ||| BitVec.twoPow 8 i
        else s.health.tjHigh &&& ~~~(BitVec.twoPow 8 i) } := by
    unfold State.tjSensor
    dsimp only
    split
    · exact State.logEvent_only _ _ _ _ .health (by decide)
    · rfl
  rw [hhealth]
  exact ⟨rfl, fun k hk => getLsbD_put hi hk _ _⟩

/-- A sensor newly above TJ_WARN raises TJ_HIGH. -/
theorem State.raised_tjSensor {i : Nat} {x : Int} (hw : s.health.tjHigh.getLsbD i = false) (hx : s.health.tjWarn < x) :
    Safety.Raised .health 4 (s.tjSensor i x) := by
  have hcond : (decide (s.health.tjWarn < x) && !s.health.tjHigh.getLsbD i) = true := by simp [hw, hx]
  unfold State.tjSensor
  dsimp only
  rw [if_pos hcond]
  exact State.raised_logEvent _ _ _ (State.raised_raise (by decide))

theorem State.tjSensor_rises (i : Nat) (x : Int) (s : State) : Rises s (s.tjSensor i x) :=
  .ite ((((s.updHealth_only _).rises (by decide)).trans (State.raise_rises _ _ _)).trans (State.logEvent_rises _ _ _ _))
    ((s.updHealth_only _).rises (by decide))

/-- The sensors read in turn. -/
theorem State.tjSensors (x : Nat → Int) (l : List Nat) (hl : ∀ i ∈ l, i < 8) (s : State) :
    (∀ k, k < 8 → (l.foldl (fun t i => t.tjSensor i (x i)) s).health.tjHigh.getLsbD k =
      if k ∈ l then decide (s.health.tjWarn < x k) else s.health.tjHigh.getLsbD k) ∧
    ∀ k ∈ l, s.health.tjHigh.getLsbD k = false → s.health.tjWarn < x k →
      Safety.Raised .health 4 (l.foldl (fun t i => t.tjSensor i (x i)) s) := by
  induction l generalizing s with
  | nil => simp
  | cons i l ih =>
    have hi : i < 8 := hl i List.mem_cons_self
    obtain ⟨hbits, hraised⟩ := ih (fun j hj => hl j (List.mem_cons_of_mem _ hj)) (s.tjSensor i (x i))
    obtain ⟨hwarn, hbit⟩ := State.tjSensor_health hi (x i) s
    rw [hwarn] at hbits hraised
    refine ⟨fun k hk => ?_, fun k hk hlow hhot => ?_⟩
    · rw [List.foldl_cons, hbits k hk, hbit k hk]
      by_cases hki : k = i <;> by_cases hkl : k ∈ l <;> simp [hki, hkl]
    · rcases eq_or_ne k i with rfl | hki
      · exact Rises.foldl (fun u j => u.tjSensor_rises j (x j)) l _ _ _ (State.raised_tjSensor hlow hhot)
      · refine hraised k ((List.mem_cons.1 hk).resolve_left hki) ?_ hhot
        rw [hbit k (hl k hk), if_neg hki]
        exact hlow

theorem exec_tjCheck {ts : List (BitVec 16)} (ha : s.alive = true) (hl : ts.length = 8) :
    ∃ t, exec (.tjCheck ts) s = .next t ∧ Safety.Alerted s t ∧ t = { s with host := t.host, health := t.health, log := t.log } ∧
      (∀ i, i < 8 → t.health.tjHigh.getLsbD i = decide (s.health.tjWarn < (ts.getD i 0).toInt)) ∧
      (∀ i, i < 8 → s.health.tjHigh.getLsbD i = false → s.health.tjWarn < (ts.getD i 0).toInt → Safety.Raised .health 4 t) := by
  have hread (i : Nat) : (ts.map BitVec.toInt).getD i 0 = (ts.getD i 0).toInt :=
    List.getD_map ts (0 : BitVec 16) BitVec.toInt
  have hu : s.tjCheck (ts.map BitVec.toInt) = (List.range 8).foldl (fun t i => t.tjSensor i (ts.getD i 0).toInt)
      (s.updHealth fun h => { h with tjMax := maxInt (ts.map BitVec.toInt) }) := by
    rw [State.tjCheck, if_neg (by simp [hl])]
    simp only [hread]
  have ho : Only [.health, .log, .alert] s (s.tjCheck (ts.map BitVec.toInt)) := by
    rw [hu]
    exact ((s.updHealth_only _).mono (by decide)).trans (.foldl (fun u i => u.tjSensor_only i _) _ _)
  obtain ⟨hbits, hraised⟩ := State.tjSensors (fun i => (ts.getD i 0).toInt) (List.range 8) (fun i hi => List.mem_range.1 hi)
    (s.updHealth fun h => { h with tjMax := maxInt (ts.map BitVec.toInt) })
  obtain ⟨t, hx, hal, -, hfr, hsent⟩ := evt_only (f := State.tjCheck (ts.map BitVec.toInt)) ha ho (by decide)
  refine ⟨t, hx, hal, (hfr.mono (qs := [.host, .alert, .health, .log]) (by decide)).eq_patch, fun i hi => ?_, fun i hi hlow hhot => ?_⟩
  · rw [show t.health = _ from hsent .health (by decide), hu, hbits i hi, if_pos (List.mem_range.2 hi)]
    rfl
  · rw [hu] at hsent
    exact raised_of_only hsent (hraised i (List.mem_range.2 hi) hlow hhot)

/-! ## SRAM errors (Table 14-1, spec/01 R31) -/

/-- An address not corrected before is noted. -/
theorem exec_sramEccError_first {b row : Nat} (ha : s.alive = true) (hb : b < 48) (hrow : row < 65536)
    (hr : s.health.bankRetired.getLsbD b = false) (hc : s.health.corrected.get 0 (b * 65536 + row) = 0) :
    ∃ t, exec (.sramEccError b row .corrected) s = .next t ∧ Safety.Quiet s t ∧ t = { s with host := t.host, health := { s.health with
      bankCe := s.health.bankCe.upd 0 b (· + 1),
      corrected := s.health.corrected.set 0 (b * 65536 + row) (s.time.ticks + 1) } } := by
  have hu : s.sramEccError b row .corrected = s.updHealth fun h => { h with
      bankCe := h.bankCe.upd 0 b (· + 1), corrected := h.corrected.set 0 (b * 65536 + row) (s.time.ticks + 1) } := by
    rw [State.sramEccError, hr, if_neg (by simp [hb, hrow])]
    exact if_pos (.inl hc)
  exact evt_quiet ha hu (s.updHealth_only _) (by decide)

theorem State.zeroSlots_only (b : Nat) (s : State) : Only [.lines] s (s.zeroSlots b) := by
  unfold State.zeroSlots
  split
  · exact .refl s
  · exact .of_eq rfl (by decide)

/-- What the reload of a bank's function may touch. -/
def reloadParts : List Part := [.host, .cal, .lines, .slate, .cam, .loop, .log, .health]

theorem State.reloadFunction_only (b : Nat) (s : State) : Only reloadParts s (s.reloadFunction b) := by
  unfold State.reloadFunction
  dsimp only
  split_ifs
  · exact .of_eq rfl (by decide)
  · exact (s.zeroSlots_only b).mono (by decide)
  all_goals exact .of_eq rfl (by decide)

theorem State.bankRetired_reloadFunction (b : Nat) (s : State) :
    (s.reloadFunction b).health.bankRetired = s.health.bankRetired := by
  unfold State.reloadFunction
  dsimp only
  split_ifs
  · rfl
  · exact congrArg Health.bankRetired (s.zeroSlots_only b .health (by decide))
  all_goals rfl

theorem State.moveBank_only (b : Nat) (s : State) : Only reloadParts s (s.moveBank b) := by
  unfold State.moveBank
  exact .ite ((s.updHealth_only _).mono (by decide))
    ((((s.updHealth_only _).trans (State.updHealth_only _ _)).mono (by decide)).trans (State.reloadFunction_only _ _))

theorem State.bankRetired_moveBank (b : Nat) (s : State) :
    (s.moveBank b).health.bankRetired = s.health.bankRetired ||| BitVec.twoPow 64 b := by
  unfold State.moveBank
  dsimp only
  split_ifs
  · rfl
  · exact State.bankRetired_reloadFunction _ _

/-- A bank's retirement: its function moved, the mask journaled, the event and the cause. -/
theorem State.retireBank_eq {b : Nat} (hr : s.health.bankRetired.getLsbD b = false) :
    s.retireBank b = ((s.dropBank b).testFailed 3 b).setCause 2 b := by
  rw [State.retireBank, hr]
  rfl

theorem State.dropBank_only (b : Nat) (s : State) : Only (.nvm :: reloadParts) s (s.dropBank b) := by
  unfold State.dropBank
  exact ((s.moveBank_only b).step (State.updNvm_only _ _)).mono (qs := .nvm :: reloadParts) (by decide)

/-- All parts of the Batten unit. -/
def batParts : List Part :=
  [.pages, .progress, .left, .reports, .quiet, .lastPage, .speedLimit, .restartTo, .lines, .lastOwn, .lastNoz, .fireEdges, .checks]

theorem exec_sramEccError_uncorrectable {b row : Nat} (ha : s.alive = true) (hb : b < 48) (hrow : row < 65536)
    (hr : s.health.bankRetired.getLsbD b = false) :
    ∃ t, exec (.sramEccError b row .uncorrectable) s = .next t ∧ t.health.bankRetired.getLsbD b = true ∧
      t.nvm.id.bankRetired = t.health.bankRetired ∧ t.health.active.getLsbD 2 = true ∧
      t = { s with host := t.host, health := t.health, nvm := t.nvm, log := t.log, cal := t.cal, loop := t.loop, bat := t.bat,
                   slate := t.slate, cam := t.cam } := by
  have hu : s.sramEccError b row .uncorrectable = ((s.dropBank b).testFailed 3 b).setCause 2 b := by
    rw [State.sramEccError, hr, if_neg (by simp [hb, hrow])]
    exact State.retireBank_eq hr
  have hlater : Only [.log, .health, .alert] (s.dropBank b) (((s.dropBank b).testFailed 3 b).setCause 2 b) :=
    ((State.testFailed_only _ 3 b).step (State.setCause_only _ 2 b)).mono (by decide)
  have hhealth : ((s.dropBank b).testFailed 3 b).health = (s.dropBank b).health := State.testFailed_only _ _ _ .health (by decide)
  obtain ⟨-, -, hbank⟩ := ((s.dropBank b).testFailed 3 b).setCause_retired 2 b
  have hmask : (s.dropBank b).health.bankRetired = s.health.bankRetired ||| BitVec.twoPow 64 b := s.bankRetired_moveBank b
  obtain ⟨t, hx, ho, ht, -⟩ := evt_frame (f := State.sramEccError b row .uncorrectable) ha
    (hu ▸ ((s.dropBank_only b).step hlater)) (by decide)
  have hth : t.health = (((s.dropBank b).testFailed 3 b).setCause 2 b).health := by rw [ht, hu]
  have htn : t.nvm = (s.dropBank b).nvm := by
    calc t.nvm = (((s.dropBank b).testFailed 3 b).setCause 2 b).nvm := by rw [ht, hu]
      _ = _ := hlater .nvm (by decide)
  have hset : t.health.bankRetired = s.health.bankRetired ||| BitVec.twoPow 64 b := by rw [hth, hbank, hhealth, hmask]
  have hjournal : t.nvm.id.bankRetired = (s.dropBank b).health.bankRetired := by rw [htn]; rfl
  have hlt : b < 64 := Nat.lt_trans hb (by decide)
  refine ⟨t, hx, by simp [hset, hlt], by rw [hset, hjournal, hmask], ?_, ?_⟩
  · rw [hth]
    exact State.setCause_active _ (by decide) b
  · exact (ho.mono (qs := [.host, .alert, .health, .nvm, .log, .cal, .loop, .slate, .cam] ++ batParts) (by decide)).eq_patch

/-! ## The oldest staged event goes to the ring (R382) -/

/-- The record in its ring slot, under its sequence. -/
def State.ringed (e : EventRec) (rest : List EventRec) (s : State) : State := s.updLog fun l => { l with
  stage := rest, ring := l.ring.set none (e.seq.toNat % 32768) (some e), nextSeq := e.seq + 1 }

/-- The alerts of a record written: NEW by its severity, WRAP_UNCLEARED over a record no LOG_CLEAR named. -/
def State.newRecord (isNew : Prop) [Decidable isNew] (lap : Bool) (s : State) : State :=
  let s := if isNew then s.raise .log 0 else s
  if lap then s.raise .log 2 else s

theorem State.newRecord_only (isNew : Prop) [Decidable isNew] (lap : Bool) (s : State) : Only [.alert] s (s.newRecord isNew lap) := by
  have hnew : Only [.alert] s (if isNew then s.raise .log 0 else s) := .ite (s.raise_only _ _) (.refl s)
  exact .ite (hnew.trans (State.raise_only _ _ _)) hnew

theorem State.raised_newRecord {isNew : Prop} [Decidable isNew] (hn : isNew) (lap : Bool) (s : State) :
    Safety.Raised .log 0 (s.newRecord isNew lap) := by
  have hnew : Safety.Raised .log 0 (if isNew then s.raise .log 0 else s) := by
    rw [if_pos hn]
    exact State.raised_raise (by decide)
  exact Rises.ite (State.raise_rises _ _ _) (.refl _) _ _ hnew

/-- Whether the record overwrites one that no LOG_CLEAR named (R385). -/
def State.laps (e : EventRec) (s : State) : Bool :=
  match s.log.ring.get none (e.seq.toNat % 32768) with
  | some o => !logCleared s.log.clearedSeq o.seq
  | none => false

/-- With room again, LOG_OVERFLOW is staged (R382). -/
def State.stageOverflow (s : State) : State :=
  if s.log.dropped = 0 then s
  else s.updLog fun l => { l with stage := l.stage ++ [s.mkEvent 0x0F01 0 s.log.dropped false true false], dropped := 0 }

theorem State.writeEvent_cons {e : EventRec} {l : List EventRec} (hst : s.log.stage = e :: l) :
    s.writeEvent = ((s.ringed e l).newRecord (s.log.alertSev ≤ e.severity) (s.laps e)).stageOverflow := by
  unfold State.writeEvent
  rw [hst]
  rfl

theorem State.writeEvent_eq {e : EventRec} {l : List EventRec} (hst : s.log.stage = e :: l) (hd : s.log.dropped = 0) :
    s.writeEvent = (s.ringed e l).newRecord (s.log.alertSev ≤ e.severity) (s.laps e) := by
  have hlog : ((s.ringed e l).newRecord (s.log.alertSev ≤ e.severity) (s.laps e)).log = (s.ringed e l).log :=
    State.newRecord_only _ _ _ .log (by decide)
  rw [State.writeEvent_cons hst, State.stageOverflow, hlog]
  exact if_pos hd

theorem exec_eventRecordWrite {e : EventRec} {l : List EventRec} (ha : s.alive = true) (hst : s.log.stage = e :: l)
    (hd : s.log.dropped = 0) :
    ∃ t, exec .eventRecordWrite s = .next t ∧ Safety.Alerted s t ∧ t = { s with host := t.host, log := { s.log with
      stage := l, ring := s.log.ring.set none (e.seq.toNat % 32768) (some e), nextSeq := e.seq + 1 } } ∧
      (s.log.alertSev ≤ e.severity → Safety.Raised .log 0 t) := by
  have hu := State.writeEvent_eq hst hd
  have hring : Only [.log] s (s.ringed e l) := s.updLog_only _
  have ho : Only [.log, .alert] s s.writeEvent := hu ▸ hring.step (State.newRecord_only _ _ _)
  obtain ⟨t, hx, hal, -, hfr, hsent⟩ := evt_only (f := State.writeEvent) ha ho (by decide)
  have hlog : t.log = (s.ringed e l).log := by
    calc t.log = s.writeEvent.log := hsent .log (by decide)
      _ = _ := hu ▸ State.newRecord_only _ _ _ .log (by decide)
  have hpatch : t = { s with host := t.host, log := t.log } := (hfr.mono (qs := [.host, .alert, .log]) (by decide)).eq_patch
  rw [hlog] at hpatch
  refine ⟨t, hx, hal, hpatch, fun hsev => ?_⟩
  rw [hu] at hsent
  exact raised_of_only hsent (State.raised_newRecord hsev _ _)

end

/-- Settles O37: SELFTEST_FAIL at the second mismatch in a row as at the first (log 94). -/
theorem partTestsAct : Obligations.PartTestsAct :=
  ⟨fun _ _ ha hi hr hb hg => exec_decoderSelftest_match ha hi hr hb hg,
   fun _ _ ha hi hr hb hg hm => exec_decoderSelftest_second ha hi hr hb hg hm,
   fun _ _ ha hi hr hg hm => exec_veSelftest_second ha hi hr hg hm,
   fun _ _ ha hm => exec_pllMarginCheck_within ha hm,
   fun _ _ ha hm hl => exec_pllMarginCheck_third ha hm hl,
   fun _ _ ha hl => exec_tjCheck ha hl,
   fun _ _ _ ha hb hrow hr hc => exec_sramEccError_first ha hb hrow hr hc,
   fun _ _ _ ha hb hrow hr => exec_sramEccError_uncorrectable ha hb hrow hr,
   fun _ _ _ ha hst hd => exec_eventRecordWrite ha hst hd⟩

end Sys2Proof.Machine

namespace Sys2Proof.Machine

/-! ## The resets of the host interface (R332) -/

section
variable {s u : State} {ps : List Part} {f : State → State} {g : HostIf → HostIf}

/-- An effect that changes the host interface by `g` and sends interrupts. -/
theorem done_host (ho : Only ps s u) (hn : .pending ∉ ps ∧ .fuse ∉ ps) (hh : u.host = g s.host) :
    ∃ t, done s u = .next t ∧ Safety.QuietHost g s t ∧ t = { u with host := t.host } := by
  obtain ⟨pba, msi, hx⟩ := done_sent ho hn
  exact ⟨_, hx, ⟨pba, msi, by rw [← hh]; rfl⟩, rfl⟩

/-- The same where alert bits may change besides. -/
theorem done_alertedHost (ho : Only ps s u) (hn : .pending ∉ ps ∧ .fuse ∉ ps) (hh : ∃ al, u.host = { g s.host with alert := al }) :
    ∃ t, done s u = .next t ∧ Safety.AlertedHost g s t ∧ Only (.host :: ps) s t ∧ t = { u with host := t.host } := by
  obtain ⟨pba, msi, hx⟩ := done_sent ho hn
  obtain ⟨al, hh⟩ := hh
  exact ⟨_, hx, ⟨al, pba, msi, by rw [State.sent, hh]⟩, ho.sent pba msi, rfl⟩

theorem evt_eq_done (ha : s.alive = true) : evt f s = done s (f s) := by
  rw [evt, if_pos ha]

theorem hostAcc_eq_done (ha : s.alive = true) (hl : s.host.live = true) : hostAcc f s = done s (f s) := by
  rw [hostAcc_eq_evt hl, evt_eq_done ha]

theorem State.updHost_only (s : State) (g : HostIf → HostIf) : Only [.host, .alert] s (s.updHost g) := .of_eq rfl (by decide)

/-! ### Every DMA channel to IDLE -/

theorem State.cancelBinds_only (c : Nat) (s : State) : Only [.slate] s (s.cancelBinds c) := by
  unfold State.cancelBinds
  refine (Only.foldl (fun t b => ?_) _ s).trans (State.updSlate_only _ _)
  refine .ite (.refl t) ?_
  split
  · exact .refl t
  · exact (t.freeStream_only _ _).trans (State.updStream_only _ _ _ _)

/-- One channel to IDLE, its binds cancelled. -/
def State.idleChannel (s : State) (c : Nat) : State := (if (s.dmaN c).egress then s else s.cancelBinds c).updDma c Dma.idled

theorem State.dmaIdle_eq (s : State) : s.dmaIdle = (List.range 32).foldl State.idleChannel s := rfl

theorem State.idleChannel_only (s : State) (c : Nat) : Only [.slate, .dma] s (s.idleChannel c) :=
  (Only.ite (.refl s) (s.cancelBinds_only c)).step (State.updDma_only _ _ _)

theorem State.idleChannel_idle (s : State) (c : Nat) : ((s.idleChannel c).dmaN c).st = .idle := by
  rw [State.idleChannel, State.dmaN_updDma_same]
  rfl

theorem State.idleChannel_idle_of_idle {c : Nat} (k : Nat) (h : (s.dmaN c).st = .idle) : ((s.idleChannel k).dmaN c).st = .idle := by
  rcases eq_or_ne c k with rfl | hne
  · exact s.idleChannel_idle c
  · have hbinds : Only [.slate] s (if (s.dmaN k).egress = true then s else s.cancelBinds k) := .ite (.refl s) (s.cancelBinds_only k)
    rw [State.idleChannel, State.dmaN_updDma_ne _ _ _ _ hne, State.dmaN_of_only hbinds (by decide)]
    exact h

theorem State.idleChannels_idle {c : Nat} (l : List Nat) (s : State) (h : c ∈ l ∨ (s.dmaN c).st = .idle) :
    ((l.foldl State.idleChannel s).dmaN c).st = .idle := by
  induction l generalizing s with
  | nil => simpa using h
  | cons k l ih =>
    refine ih _ ?_
    rcases h with h | h
    · rcases List.mem_cons.1 h with rfl | hl
      · exact .inr (s.idleChannel_idle c)
      · exact .inl hl
    · exact .inr (State.idleChannel_idle_of_idle k h)

theorem State.dmaIdle_only (s : State) : Only [.slate, .dma] s s.dmaIdle := .foldl (fun t c => t.idleChannel_only c) _ s

/-! ### The reset and its event -/

theorem State.hostReset_only (k : Nat) (s : State) : Only [.host, .alert, .slate, .dma, .log] s (s.hostReset k) :=
  (((s.updHost_only _).step (State.dmaIdle_only _)).step (State.logEvent_only _ _ _ _)).mono (by decide)

theorem State.hostReset_host (k : Nat) (s : State) : ∃ al, (s.hostReset k).host = { s.host.cleared with alert := al } :=
  ⟨_, Only.host_eq (((s.updHost HostIf.cleared).dmaIdle_only).step (State.logEvent_only _ 0x0104 0 k)) (by decide)⟩

theorem State.hostReset_idle (k : Nat) {c : Nat} (hc : c < 32) (s : State) : ((s.hostReset k).dmaN c).st = .idle := by
  rw [State.hostReset, State.dmaN_of_only (State.logEvent_only _ _ _ _) (by decide), State.dmaIdle_eq]
  exact State.idleChannels_idle _ _ (.inl (List.mem_range.2 hc))

/-- The parts a reset of the host interface may change. -/
theorem done_hostReset (ho : Only [.host, .alert, .slate, .dma, .log] s u) (hh : ∃ al, u.host = { g s.host with alert := al })
    (hi : ∀ c, c < 32 → (u.dmaN c).st = .idle) :
    ∃ t, done s u = .next t ∧ t = { s with host := t.host, dma := t.dma, slate := t.slate, log := t.log } ∧
      Safety.AlertedHost g s t ∧ ∀ c, c < 32 → (t.dmaN c).st = .idle := by
  obtain ⟨t, hx, hal, hfr, ht⟩ := done_alertedHost ho (by decide) hh
  refine ⟨t, hx, (hfr.mono (qs := [.host, .alert, .slate, .dma, .log]) (by decide)).eq_patch, hal, fun c hc => ?_⟩
  rw [ht]
  exact hi c hc

theorem exec_functionLevelReset (ha : s.alive = true) (hl : s.host.live = true) :
    ∃ t, exec .functionLevelReset s = .next t ∧ t = { s with host := t.host, dma := t.dma, slate := t.slate, log := t.log } ∧
      Safety.AlertedHost HostIf.cleared s t ∧ ∀ c, c < 32 → (t.dmaN c).st = .idle := by
  have h := done_hostReset (s.hostReset_only 1) (s.hostReset_host 1) fun c hc => s.hostReset_idle 1 hc
  rwa [← hostAcc_eq_done (f := State.hostReset 1) ha hl] at h

theorem exec_hotReset (ha : s.alive = true) (hl : s.host.live = true) :
    ∃ t, exec .hotReset s = .next t ∧ t = { s with host := t.host, dma := t.dma, slate := t.slate, log := t.log } ∧
      Safety.AlertedHost HostIf.cleared s t ∧ ∀ c, c < 32 → (t.dmaN c).st = .idle := by
  have h := done_hostReset (s.hostReset_only 2) (s.hostReset_host 2) fun c hc => s.hostReset_idle 2 hc
  rwa [← hostAcc_eq_done (f := State.hostReset 2) ha hl] at h

/-- The reset of the host interface at the end of the link. -/
def State.linkEnds (k : Nat) (s : State) : State := (s.hostReset k).updHost fun h => { h with live := false }

theorem State.linkEnds_only (k : Nat) (s : State) : Only [.host, .alert, .slate, .dma, .log] s (s.linkEnds k) :=
  ((s.hostReset_only k).step (State.updHost_only _ _)).mono (by decide)

theorem State.linkEnds_host (k : Nat) (s : State) : ∃ al, (s.linkEnds k).host = { s.host.cleared with live := false, alert := al } := by
  obtain ⟨al, hh⟩ := s.hostReset_host k
  exact ⟨al, by rw [State.linkEnds, State.updHost_host, hh]⟩

theorem State.linkEnds_idle (k : Nat) {c : Nat} (hc : c < 32) (s : State) : ((s.linkEnds k).dmaN c).st = .idle := by
  rw [State.linkEnds, State.dmaN_updHost]
  exact s.hostReset_idle k hc

theorem exec_linkDown (ha : s.alive = true) (hl : s.host.live = true) :
    ∃ t, exec .linkDown s = .next t ∧ t = { s with host := t.host, dma := t.dma, slate := t.slate, log := t.log } ∧
      Safety.AlertedHost (fun m => { m.cleared with live := false }) s t ∧ ∀ c, c < 32 → (t.dmaN c).st = .idle := by
  have h := done_hostReset (g := fun m => { m.cleared with live := false }) (s.linkEnds_only 3) (s.linkEnds_host 3)
    fun c hc => s.linkEnds_idle 3 hc
  rwa [← hostAcc_eq_done (f := State.linkEnds 3) ha hl] at h

theorem exec_perstAssert (ha : s.alive = true) :
    ∃ t, exec .perstAssert s = .next t ∧ t = { s with host := t.host, dma := t.dma, slate := t.slate, log := t.log } ∧
      Safety.AlertedHost (fun m => { m.cleared with perst := true, live := false }) s t ∧ ∀ c, c < 32 → (t.dmaN c).st = .idle := by
  have ho := ((s.updHost_only fun h => { h with perst := true }).step (State.linkEnds_only 4 _)).mono
    (qs := [.host, .alert, .slate, .dma, .log]) (by decide)
  have hh := (s.updHost fun h => { h with perst := true }).linkEnds_host 4
  obtain ⟨t, hx, hrest⟩ := done_hostReset (g := fun m => { m.cleared with perst := true, live := false }) ho hh
    fun c hc => (s.updHost fun h => { h with perst := true }).linkEnds_idle 4 hc
  have hu : exec .perstAssert s = done s ((s.updHost fun h => { h with perst := true }).linkEnds 4) :=
    congrArg (done s) (if_pos (show (s.updHost fun h => { h with perst := true }).alive = true from ha))
  exact ⟨t, hu.trans hx, hrest⟩

/-! ### The link comes back -/

theorem exec_pcieLinkUp (ha : s.alive = true) (hp : s.host.perst = false) :
    ∃ t, exec .pcieLinkUp s = .next t ∧ t = { s with host := t.host } ∧ Safety.QuietHost (fun m => { m with live := true }) s t := by
  have hu : exec .pcieLinkUp s = done s (s.updHost fun h => { h with live := true }) :=
    (evt_eq_done (f := fun s => if s.host.perst then s else s.updHost fun h => { h with live := true }) ha).trans
      (congrArg (done s) (if_neg (by simp [hp])))
  obtain ⟨t, hx, hq, ht⟩ := done_host (g := fun m => { m with live := true }) (s.updHost_only fun m => { m with live := true })
    (by decide) rfl
  exact ⟨t, hu.trans hx, ht, hq⟩

/-- A running chip has nothing to wake from (R366). -/
theorem State.wakeSource_of_run {n : Nat} (hr : s.pwr.st = .run) (ht : s.pwr.trans = none) : s.wakeSource n = s := by
  unfold State.wakeSource State.wake
  rw [hr, ht]
  exact ite_self _

theorem exec_perstRise (hr : s.pwr.st = .run) (ht : s.pwr.trans = none) :
    ∃ t, exec .perstRise s = .next t ∧ t = { s with host := t.host, pwr := { s.pwr with pcieWakeN := true } } ∧
      Safety.QuietHost (fun m => { m with perst := false }) s t := by
  have hu : s.perstHigh = (s.updHost fun h => { h with perst := false }).updPwr fun p => { p with pcieWakeN := true } := by
    have hwake : ((s.updHost fun h => { h with perst := false }).updPwr fun p => { p with pcieWakeN := true }).wakeSource 2 = _ :=
      State.wakeSource_of_run hr ht
    unfold State.perstHigh
    dsimp only
    rw [hwake, ite_self]
  have ho := (s.updHost_only fun h => { h with perst := false }).step (State.updPwr_only _ fun p => { p with pcieWakeN := true })
  rw [← hu] at ho
  obtain ⟨t, hx, hq, ht⟩ := done_host (g := fun m => { m with perst := false }) ho (by decide) (by rw [hu]; rfl)
  exact ⟨t, hx, by rw [ht, hu]; rfl, hq⟩

end

/-- Settles O33: a reset of the host interface clears it, idles the channels and writes its event; what a started command answers
later is discarded (log 45). -/
theorem hostResetsStayInside : Obligations.HostResetsStayInside := by
  refine ⟨fun _ ha hl => exec_functionLevelReset ha hl, fun _ ha hl => exec_hotReset ha hl, fun _ ha hl => exec_linkDown ha hl,
    fun _ ha => exec_perstAssert ha, fun _ ha hp => exec_pcieLinkUp ha hp, fun _ hr ht => exec_perstRise hr ht, fun h => ?_⟩
  refine ⟨rfl, rfl, rfl, rfl, rfl, rfl, rfl, rfl, rfl, fun i hi => ?_, rfl⟩
  obtain ⟨j, -, rfl⟩ := List.mem_map.1 hi
  rfl

end Sys2Proof.Machine

namespace Sys2Proof.Machine

/-! ## Doorbells and cancels through the registers (R336–R340) -/

section
variable {s u : State} {f : State → State} {k : Nat}

theorem hostFuse_eq (ha : s.alive = true) (hl : s.host.live = true) :
    hostFuse f s = .next { settle s (f s) with pending := s.pending } := by
  rw [hostFuse, if_pos (by rw [ha, hl]; rfl)]

/-- An outcome that may blow fuses, where it blows none. -/
theorem next_settle_eq_done (hfuse : u.fuse = s.fuse) : .next { settle s u with pending := s.pending } = done s u := by
  obtain ⟨pba, msi, hq⟩ := settle_eq s u
  rw [done, hq, keep, ← hfuse]

/-- A host access that leaves the fuses. -/
theorem hostFuse_eq_done (ha : s.alive = true) (hl : s.host.live = true) (hf : f s = u) (hfuse : u.fuse = s.fuse) :
    hostFuse f s = done s u := by
  rw [hostFuse_eq ha hl, hf, next_settle_eq_done hfuse]

/-- The slots that the bit of one slot names. -/
theorem slots_bit8 (hk : k < 8) : ((List.range 8).filter fun j => (bit8 k).getLsbD j) = [k] := by
  interval_cases k <;> decide

theorem slotBit_reqHdr (hk : k < 8) (s : State) : slotBit (s.reqHdr k).1.slot = bit8 k := by
  have hslot : (BitVec.ofNat 3 k).toNat = k := by simp [Nat.mod_eq_of_lt hk]
  exact congrArg (BitVec.twoPow 8) hslot

theorem State.doorbells_bit8 (hk : k < 8) (s : State) : s.doorbells (bit8 k) = s.door k := by
  rw [State.doorbells, slots_bit8 hk]
  rfl

/-- A doorbell of a free slot while the cores run serves the request in its area. -/
theorem State.door_serves (hk : k < 8) (hr : Safety.rings s (s.reqHdr k).1 = true) : s.door k = s.serveSlot k := by
  obtain ⟨hl, h1, h2⟩ := rings_iff.1 hr
  rw [slotBit_reqHdr hk] at h1 h2
  simp only [Bool.and_eq_true] at hl
  simp [State.door, h1, h2, hl.2]

theorem State.link_of_rings {h : MbHdr} (hr : Safety.rings s h = true) : s.alive = true ∧ s.host.live = true := by
  obtain ⟨hl, -, -⟩ := rings_iff.1 hr
  simp only [Bool.and_eq_true] at hl
  exact hl.1

theorem exec_mbDoorbell_serves {i : Instr} (hk : k < 8) (hr : Safety.rings s (s.reqHdr k).1 = true)
    (hi : reqOf (s.reqHdr k).2 (s.reqHdr k).1 (s.areaBytes k 16 2032) = some i) :
    ∃ t, exec (.mbDoorbell (bit8 k)) s = .next t ∧ t = { settle s (serve i s) with pending := s.pending } := by
  obtain ⟨ha, hl⟩ := State.link_of_rings hr
  have hserve : s.serveSlot k = serve i s := by simp only [State.serveSlot, hi]
  refine ⟨_, ?_, rfl⟩
  show hostFuse (State.doorbells (bit8 k)) s = _
  rw [hostFuse_eq ha hl, State.doorbells_bit8 hk, State.door_serves hk hr, hserve]

/-- A slot that completes at once with a response of its own. -/
theorem done_completed {h : MbHdr} (op st : Nat) (p : List Byte) (hr : Safety.rings s h = true) :
    ∃ t, done s ((s.mbStart h).mbComplete h op st p) = .next t ∧ Safety.Answered h op st p s t ∧ t = { s with host := t.host } := by
  obtain ⟨-, h1, h2⟩ := rings_iff.1 hr
  have ho : Only [.host] s ((s.mbStart h).mbComplete h op st p) := .of_eq rfl (by decide)
  obtain ⟨pba, msi, hx⟩ := done_sent ho (by decide)
  refine ⟨_, hx, ⟨⟨s.host.alert, pba, msi, ?_⟩, rfl⟩, rfl⟩
  simp only [State.sent, State.mbComplete, State.updHost, State.mbStart, slot_clear h2, slot_clear (slot_left h1)]

/-- A reserved opcode at READY answers BAD_OPCODE (R340). -/
theorem exec_mbDoorbell_badOpcode (hk : k < 8) (hr : Safety.rings s (s.reqHdr k).1 = true) (hrdy : s.isReady = true)
    (hi : reqOf (s.reqHdr k).2 (s.reqHdr k).1 (s.areaBytes k 16 2032) = none) :
    ∃ t, exec (.mbDoorbell (bit8 k)) s = .next t ∧ Safety.Answered (s.reqHdr k).1 (s.reqHdr k).2 0x0001 [] s t ∧
      t = { s with host := t.host } := by
  obtain ⟨ha, hl⟩ := State.link_of_rings hr
  have hserve : s.doorbells (bit8 k) = (s.mbStart (s.reqHdr k).1).mbComplete (s.reqHdr k).1 (s.reqHdr k).2 0x0001 [] := by
    rw [State.doorbells_bit8 hk, State.door_serves hk hr]
    simp only [State.serveSlot, hi, hrdy, if_true]
  obtain ⟨t, hx, hrest⟩ := done_completed (s.reqHdr k).2 0x0001 [] hr
  exact ⟨t, (hostFuse_eq_done (f := State.doorbells (bit8 k)) ha hl hserve rfl).trans hx, hrest⟩

/-- During a firmware restart a doorbell is held (spec/01 R18). -/
theorem exec_mbDoorbell_held (hk : k < 8) (ha : s.alive = true) (hl : s.host.live = true) (hst : s.boot.stage = .restarting)
    (h1 : (s.host.busy ||| s.host.done) &&& bit8 k = 0) (h2 : s.host.doorbell &&& bit8 k = 0) :
    ∃ t, exec (.mbDoorbell (bit8 k)) s = .next t ∧ t = { s with host := t.host } ∧
      Safety.QuietHost (fun m => { m with doorbell := m.doorbell ||| bit8 k, held := m.held ++ [.slot k] }) s t := by
  have hdoor : s.doorbells (bit8 k) =
      s.updHost fun m => { m with doorbell := m.doorbell ||| bit8 k, held := m.held ++ [.slot k] } := by
    rw [State.doorbells_bit8 hk]
    simp [State.door, h1, h2, State.coresRun, hst]
  obtain ⟨t, hx, hq, ht⟩ := done_host (g := fun m => { m with doorbell := m.doorbell ||| bit8 k, held := m.held ++ [.slot k] })
    (s.updHost_only fun m => { m with doorbell := m.doorbell ||| bit8 k, held := m.held ++ [.slot k] }) (by decide) rfl
  exact ⟨t, (hostFuse_eq_done (f := State.doorbells (bit8 k)) ha hl hdoor rfl).trans hx, ht, hq⟩

/-! ### Cancels (R339) -/

/-- A write of MB_CANCEL for one slot. -/
theorem exec_mbCancel_eq (hk : k < 8) (ha : s.alive = true) (hl : s.host.live = true) :
    exec (.mbCancel (bit8 k)) s = done s (s.cancelSlot k) := by
  have hu : ((List.range 8).filter fun j => (bit8 k).getLsbD j).foldl (fun t j => t.cancelSlot j) s = s.cancelSlot k := by
    rw [slots_bit8 hk]
    rfl
  exact (hostAcc_eq_done
    (f := fun s => ((List.range 8).filter fun j => (bit8 k).getLsbD j).foldl (fun t j => t.cancelSlot j) s) ha hl).trans
    (congrArg (done s) hu)

theorem exec_mbCancel_busy (hk : k < 8) (ha : s.alive = true) (hl : s.host.live = true) (hb : s.host.busy &&& bit8 k ≠ 0) :
    ∃ t, exec (.mbCancel (bit8 k)) s = .next t ∧ t = { s with host := t.host } ∧
      Safety.QuietHost (fun m => { m with cancel := m.cancel ||| bit8 k }) s t := by
  have hu : s.cancelSlot k = s.updHost fun m => { m with cancel := m.cancel ||| bit8 k } := if_pos (bne_iff_ne.2 hb)
  obtain ⟨t, hx, hq, ht⟩ := done_host (g := fun m => { m with cancel := m.cancel ||| bit8 k })
    (s.updHost_only fun m => { m with cancel := m.cancel ||| bit8 k }) (by decide) rfl
  rw [exec_mbCancel_eq hk ha hl, hu]
  exact ⟨t, hx, ht, hq⟩

/-- A bit cleared in three registers is clear in their union. -/
theorem cleared_and (x y z b : Byte) : ((x &&& ~~~b) ||| (y &&& ~~~b) ||| (z &&& ~~~b)) &&& b = 0 := by
  apply BitVec.eq_of_getLsbD_eq
  intro j hj
  cases hb : b.getLsbD j <;> simp_all

theorem set_and (x b : Byte) : (x ||| b) &&& b = b := by
  apply BitVec.eq_of_getLsbD_eq
  intro j hj
  cases hb : b.getLsbD j <;> simp_all

/-- A command held and not started completes with CANCELLED. -/
theorem exec_mbCancel_held {e : HeldDoor} (hk : k < 8) (ha : s.alive = true) (hl : s.host.live = true)
    (hb : s.host.busy &&& bit8 k = 0) (he : s.host.held.find? (fun x => slotOf x == k) = some e) :
    ∃ t, exec (.mbCancel (bit8 k)) s = .next t ∧ t = { s with host := t.host } ∧ t.host.held = s.host.held.erase e ∧
      Safety.Completed (s.heldHdr e).1 (s.heldHdr e).2 0x0007 [] t ∧ t.host.alert = s.host.alert ∧
      (t.host.doorbell ||| t.host.busy ||| t.host.cancel) &&& slotBit (s.heldHdr e).1.slot = 0 := by
  have hu : s.cancelSlot k = (s.updHost fun m => { m with held := m.held.erase e }).mbComplete (s.heldHdr e).1 (s.heldHdr e).2 0x0007 [] := by
    simp [State.cancelSlot, hb, he]
  have ho : Only [.host] s ((s.updHost fun m => { m with held := m.held.erase e }).mbComplete (s.heldHdr e).1 (s.heldHdr e).2 0x0007 []) :=
    .of_eq rfl (by decide)
  obtain ⟨pba, msi, hx⟩ := done_sent ho (by decide)
  rw [exec_mbCancel_eq hk ha hl, hu]
  exact ⟨_, hx, rfl, rfl, ⟨State.resp_mbComplete _ _ _ _ _, set_and _ _⟩, rfl, cleared_and _ _ _ _⟩

theorem exec_mbCancel_none (hk : k < 8) (ha : s.alive = true) (hl : s.host.live = true) (hb : s.host.busy &&& bit8 k = 0)
    (hn : ∀ x ∈ s.host.held, slotOf x ≠ k) :
    ∃ t, exec (.mbCancel (bit8 k)) s = .next t ∧ Safety.Quiet s t ∧ t = { s with host := t.host } := by
  have hfind : s.host.held.find? (fun x => slotOf x == k) = none := List.find?_eq_none.2 fun x hx => by simpa using hn x hx
  have hu : s.cancelSlot k = s := by simp [State.cancelSlot, hb, hfind]
  rw [exec_mbCancel_eq hk ha hl, hu]
  exact done_self s

/-! ## Register writes (R333, R342, R343) -/

variable {o : Nat} {v : BitVec 64}

/-- A 32-bit write to any register but MB_DOORBELL. -/
theorem exec_registerWrite_eq (ha : s.alive = true) (hl : s.host.live = true) (ho : o ≠ 0x40)
    (hu : s.writeOther o (v.setWidth 32) = u) (hf : u.fuse = s.fuse) : exec (.registerWrite o false v) s = done s u := by
  refine hostFuse_eq_done (f := State.writeReg o false v) ha hl ?_ hf
  have hwrite : s.writeReg o false v = s.write32 o (v.setWidth 32) := rfl
  rw [hwrite, State.write32, if_neg ho, hu, ← hf]

/-- A write that changes the host interface by `g`. -/
theorem exec_registerWrite_host {g : HostIf → HostIf} (ha : s.alive = true) (hl : s.host.live = true) (ho : o ≠ 0x40)
    (hu : s.writeOther o (v.setWidth 32) = s.updHost g) :
    ∃ t, exec (.registerWrite o false v) s = .next t ∧ t = { s with host := t.host } ∧ Safety.QuietHost g s t := by
  obtain ⟨t, hx, hq, ht⟩ := done_host (g := g) (s.updHost_only g) (by decide) rfl
  exact ⟨t, (exec_registerWrite_eq ha hl ho hu rfl).trans hx, ht, hq⟩

/-- A vector sent again changes what was sent of the interrupts alone (R343). -/
theorem State.resendIf_eq (c : Bool) (n : Nat) (s : State) : ∃ pba msi, s.resendIf c n = s.sent pba msi := by
  unfold State.resendIf State.sendVector State.updHost
  dsimp only
  split_ifs <;> exact ⟨_, _, rfl⟩

/-- The alert register of a key. -/
def alertOfKey (n : Nat) : AlertReg :=
  [AlertReg.place, .fire, .twin, .pwr, .cam, .cal, .health, .dram, .time, .mot, .log].getD n .log

theorem AlertReg.key_injective : Function.Injective AlertReg.key :=
  Function.LeftInverse.injective (g := alertOfKey) fun r => by cases r <;> rfl

theorem writeOther_alert {r : AlertReg} {m : Bool} (h4 : o % 4 = 0) (hr : alertAt o = some (r, m)) (w : BitVec 32) :
    s.writeOther o w = if m then s.writeMask r w else s.clearAlert r w := by
  rw [State.writeOther, if_neg (not_not.2 h4), hr]
  cases m <;> rfl

theorem ne_doorbell_of_alertAt {x : AlertReg × Bool} (hr : alertAt o = some x) : o ≠ 0x40 := by
  rintro rfl
  cases hr

theorem exec_registerWrite_alert {r : AlertReg} (ha : s.alive = true) (hl : s.host.live = true) (h4 : o % 4 = 0)
    (hr : alertAt o = some (r, false)) :
    ∃ t, exec (.registerWrite o false v) s = .next t ∧ t = { s with host := t.host } ∧
      t.alertOf r = s.alertOf r &&& ~~~(v.setWidth 32) ∧ ∀ q, q ≠ r → t.alertOf q = s.alertOf q := by
  obtain ⟨pba, msi, hsent⟩ := (s.updHost fun h => { h with alert := h.alert.upd 0 r.key fun a => a &&& ~~~(v.setWidth 32) }).resendIf_eq
    (s.alertOf r &&& v.setWidth 32 != 0) r.vector
  have hu : s.writeOther o (v.setWidth 32) = _ := (writeOther_alert h4 hr _).trans hsent
  obtain ⟨pba', msi', hx⟩ := done_sent (s := s)
    (t := (s.updHost fun h => { h with alert := h.alert.upd 0 r.key fun a => a &&& ~~~(v.setWidth 32) }).sent pba msi)
    (ps := [.host, .alert]) (.of_eq rfl (by decide)) (by decide)
  refine ⟨_, (exec_registerWrite_eq ha hl (ne_doorbell_of_alertAt hr) hu rfl).trans hx, rfl, ?_, fun q hq => ?_⟩
  · exact SMap.get_upd_same 0 s.host.alert r.key fun a => a &&& ~~~(v.setWidth 32)
  · exact SMap.get_upd_ne 0 s.host.alert (fun a => a &&& ~~~(v.setWidth 32)) fun e => hq (AlertReg.key_injective e)

theorem exec_registerWrite_mask {r : AlertReg} (ha : s.alive = true) (hl : s.host.live = true) (h4 : o % 4 = 0)
    (hr : alertAt o = some (r, true)) :
    ∃ t, exec (.registerWrite o false v) s = .next t ∧ t = { s with host := t.host } ∧
      t.maskOf r = v.setWidth 32 &&& r.bits ∧ (∀ q, q ≠ r → t.maskOf q = s.maskOf q) ∧ t.host.alert = s.host.alert := by
  obtain ⟨t, hx, ht, pba, msi, hh⟩ := exec_registerWrite_host (v := v)
    (g := fun h => { h with mask := h.mask.set 0 r.key (v.setWidth 32 &&& r.bits) }) ha hl (ne_doorbell_of_alertAt hr)
    (writeOther_alert h4 hr _)
  have hmask : t.host.mask = s.host.mask.set 0 r.key (v.setWidth 32 &&& r.bits) := by rw [hh]
  refine ⟨t, hx, ht, ?_, fun q hq => ?_, by rw [hh]⟩
  · rw [State.maskOf, hmask, SMap.get_set_same]
  · rw [State.maskOf, hmask, SMap.get_set_ne _ _ _ fun e => hq (AlertReg.key_injective e)]
    rfl

/-- MB_INT_MASK. -/
theorem exec_registerWrite_intMask (ha : s.alive = true) (hl : s.host.live = true) :
    ∃ t, exec (.registerWrite 0x50 false v) s = .next t ∧ t = { s with host := t.host } ∧
      Safety.QuietHost (fun m => { m with intMask := v.setWidth 8 }) s t :=
  exec_registerWrite_host ha hl (by decide) (by
    have hw : (v.setWidth 32).setWidth 8 = v.setWidth 8 := BitVec.setWidth_setWidth_of_le _ (by decide)
    rw [← hw]
    rfl)

/-- RL_CONFIG with every field in its range takes the value (Table 04-14). -/
theorem rlConfigWrite_of_range {old w : Nat} (h4 : w / 2 ^ 4 % 2 ^ 8 ≠ 0) (h12 : 5 ≤ w / 2 ^ 12 % 2 ^ 8) (h20 : w / 2 ^ 20 % 2 ^ 2 ≠ 3) :
    rlConfigWrite old w = w % 2 ^ 22 := by
  simp only [rlConfigWrite, beq_eq_false_iff_ne.2 h4, beq_eq_false_iff_ne.2 h20, decide_eq_false (Nat.not_lt.2 h12), Bool.false_eq_true,
    if_false]
  omega

theorem exec_registerWrite_rlConfig (ha : s.alive = true) (hl : s.host.live = true) (h4 : (v.extractLsb' 4 8).toNat ≠ 0)
    (h12 : 5 ≤ (v.extractLsb' 12 8).toNat) (h20 : (v.extractLsb' 20 2).toNat ≠ 3) :
    ∃ t, exec (.registerWrite 0x200 false v) s = .next t ∧ Safety.Quiet s t ∧
      t = { s with host := t.host, rlConfig := (v.setWidth 22).setWidth 32 } := by
  have hval : BitVec.ofNat 32 (rlConfigWrite s.rlConfig.toNat (v.setWidth 32).toNat) = (v.setWidth 22).setWidth 32 := by
    rw [BitVec.extractLsb'_toNat, Nat.shiftRight_eq_div_pow] at h4 h12 h20
    rw [BitVec.toNat_setWidth, rlConfigWrite_of_range (by omega) (by omega) (by omega)]
    apply BitVec.eq_of_toNat_eq
    simp only [BitVec.toNat_ofNat, BitVec.toNat_setWidth]
    omega
  have hu : s.writeOther 0x200 (v.setWidth 32) = { s with rlConfig := (v.setWidth 22).setWidth 32 } := by
    rw [← hval]
    rfl
  obtain ⟨t, hx, hq, ht⟩ := done_quiet (s := s) (u := { s with rlConfig := (v.setWidth 22).setWidth 32 }) (ps := [.rlConfig])
    (.of_eq rfl (by decide)) (by decide)
  exact ⟨t, (exec_registerWrite_eq ha hl (by decide) hu rfl).trans hx, hq, ht⟩

/-- A misaligned write does nothing. -/
theorem exec_registerWrite_misaligned (ha : s.alive = true) (hl : s.host.live = true) (h4 : o % 4 ≠ 0) :
    ∃ t, exec (.registerWrite o false v) s = .next t ∧ Safety.Quiet s t ∧ t = { s with host := t.host } := by
  rw [exec_registerWrite_eq ha hl (by omega) (u := s) (if_pos h4) rfl]
  exact done_self s

/-! ## BAR2 (R330, R331) -/

theorem exec_bar2Write {d : List Byte} (ha : s.alive = true) (hl : s.host.live = true) (hh : s.bar2Has o = true)
    (hin : o + d.length ≤ s.freeSize) :
    ∃ t, exec (.bar2Write o d) s = .next t ∧ Safety.Quiet s t ∧
      t = { s with host := t.host, dram := s.dram.writeAll (s.freeBase + o) d } := by
  have hu : s.bar2Put o d = s.dramWrite (s.freeBase + o) d := by simp [State.bar2Put, hh, State.bar2In, hin]
  have he : exec (.bar2Write o d) s = done s (s.bar2Put o d) := hostAcc_eq_done ha hl
  rw [he, hu]
  exact done_quiet (s.dramWrite_only _ _) (by decide)

/-- A write beyond the Free region is dropped and counted. -/
theorem exec_bar2Write_beyond {d : List Byte} (ha : s.alive = true) (hl : s.host.live = true) (hh : s.bar2Has o = true)
    (hout : s.freeSize < o + d.length) :
    ∃ t, exec (.bar2Write o d) s = .next t ∧ t = { s with host := t.host } ∧
      Safety.QuietHost (fun m => { m with aerDropped := m.aerDropped + 1 }) s t := by
  have hu : s.bar2Put o d = s.updHost fun h => { h with aerDropped := h.aerDropped + 1 } := by
    simp [State.bar2Put, hh, State.bar2In, Nat.not_le.2 hout]
  have he : exec (.bar2Write o d) s = done s (s.bar2Put o d) := hostAcc_eq_done ha hl
  rw [he, hu]
  obtain ⟨t, hx, hq, ht⟩ := done_host (g := fun h => { h with aerDropped := h.aerDropped + 1 })
    (s.updHost_only fun h => { h with aerDropped := h.aerDropped + 1 }) (by decide) rfl
  exact ⟨t, hx, ht, hq⟩

theorem exec_bar2Read {n : Nat} (ha : s.alive = true) (hl : s.host.live = true) (hh : s.bar2Has o = true) :
    ∃ t, exec (.bar2Read o n) s = .next t ∧ t = { s with host := t.host } ∧
      Safety.QuietHost (fun m => { m with
        bar2Out := if o + n ≤ s.freeSize then some (s.dram.readAll (s.freeBase + o) n) else none }) s t := by
  have hu : s.bar2Get o n = s.updHost fun h => { h with
      bar2Out := if o + n ≤ s.freeSize then some (s.dram.readAll (s.freeBase + o) n) else none } := by
    simp [State.bar2Get, hh, State.bar2In, State.dramRead]
  have he : exec (.bar2Read o n) s = done s (s.bar2Get o n) := hostAcc_eq_done ha hl
  rw [he, hu]
  obtain ⟨t, hx, hq, ht⟩ := done_host (g := fun m => { m with
        bar2Out := if o + n ≤ s.freeSize then some (s.dram.readAll (s.freeBase + o) n) else none })
    (s.updHost_only fun m => { m with
        bar2Out := if o + n ≤ s.freeSize then some (s.dram.readAll (s.freeBase + o) n) else none }) (by decide) rfl
  exact ⟨t, hx, ht, hq⟩

end

/-- Settles O32: a BAR2 access that straddles the end of the Free region counts as one beyond it (log 43), a misaligned write as no
write (log 41). -/
theorem hostAccessesAct : Obligations.HostAccessesAct :=
  ⟨fun _ _ _ hk hr hi => exec_mbDoorbell_serves hk hr hi,
   fun _ _ hk hr hrdy hi => exec_mbDoorbell_badOpcode hk hr hrdy hi,
   fun _ _ hk ha hl hst h1 h2 => exec_mbDoorbell_held hk ha hl hst h1 h2,
   fun _ _ hk ha hl hb => exec_mbCancel_busy hk ha hl hb,
   fun _ _ _ hk ha hl hb he => exec_mbCancel_held hk ha hl hb he,
   fun _ _ hk ha hl hb hn => exec_mbCancel_none hk ha hl hb hn,
   fun _ _ _ _ ha hl h4 hr => exec_registerWrite_alert ha hl h4 hr,
   fun _ _ _ _ ha hl h4 hr => exec_registerWrite_mask ha hl h4 hr,
   fun _ _ ha hl => exec_registerWrite_intMask ha hl,
   fun _ _ ha hl h4 h12 h20 => exec_registerWrite_rlConfig ha hl h4 h12 h20,
   fun _ _ _ ha hl h4 => exec_registerWrite_misaligned ha hl h4,
   fun _ _ _ ha hl hh hin => exec_bar2Write ha hl hh hin,
   fun _ _ _ ha hl hh hout => exec_bar2Write_beyond ha hl hh hout,
   fun _ _ _ ha hl hh => exec_bar2Read ha hl hh⟩

end Sys2Proof.Machine

namespace Sys2Proof.Machine

/-! ## The power manager: what its operations touch -/

section
variable (s : State)

theorem State.endTrans_only : Only [.pwr] s s.endTrans := s.updPwr_only _

/-- The command that waits for the transition completes in its slot (R336). -/
theorem State.powerDone_only (st : Nat) (p : List Byte) : Only [.host] s (s.powerDone st p) := by
  unfold State.powerDone
  split
  · exact .refl s
  · exact .ite (.of_eq rfl (by decide)) (.of_eq rfl (by decide))

theorem State.powerDone_rises (st : Nat) (p : List Byte) : Rises s (s.powerDone st p) := (s.powerDone_only st p).rises (by decide)

/-- The gap windows close. -/
theorem State.closeGaps_only : Only [.port] s ((List.range 48).foldl (fun t p => t.closeGap p) s) :=
  .foldl (fun t p => t.closeGap_only p) _ s

theorem State.moveClocks_only (g : Goal) : Only [.pwr, .port] s (s.moveClocks g) := by
  unfold State.moveClocks
  split
  · exact .ite ((s.updPwr_only _).step (State.closeGaps_only _)) ((s.updPwr_only _).mono (by decide))
  · exact (s.updPwr_only _).step (State.closeGaps_only _)
  · exact (s.updPwr_only _).mono (by decide)
  · exact .refl s

/-- The PWR alert bit of a goal reached (Table 13-2). -/
def Goal.alertBit : Goal → Nat
  | .level _ => 3
  | .state .hold => 0
  | .state _ => 1

theorem State.reached_eq (g : Goal) :
    s.reached g = (((s.endTrans).raise .pwr g.alertBit).powerDone 0 []).rehide.speedCheck := by
  cases g with
  | level l => rfl
  | state p => cases p <;> rfl

/-- The parts that the end of a transition touches. -/
def reachParts : List Part := [.pwr, .alert, .host, .fire, .log, .speedLimit]

theorem State.reached_only (g : Goal) : Only reachParts s (s.reached g) := by
  rw [State.reached_eq]
  exact ((((s.endTrans_only.step (State.raise_only _ _ _)).step (State.powerDone_only _ _ _)).step (State.rehide_only _)).step
    (State.speedCheck_only _)).mono (qs := reachParts) (by decide)

theorem State.reached_pwr (g : Goal) : (s.reached g).pwr = { s.pwr with trans := none } := by
  rw [State.reached_eq]
  have htail : Only [.alert, .host, .fire, .log, .speedLimit] s.endTrans
      (((s.endTrans).raise .pwr g.alertBit).powerDone 0 []).rehide.speedCheck :=
    ((((State.raise_only _ _ _).step (State.powerDone_only _ _ _)).step (State.rehide_only _)).step (State.speedCheck_only _)).mono
      (by decide)
  exact htail .pwr (by decide)

theorem State.rehide_rises : Rises s s.rehide :=
  .ite (.refl s) (((s.updFire_only _).rises (by decide)).trans (State.logEvent_rises _ _ _ _))

theorem State.raised_reached (g : Goal) : Safety.Raised .pwr g.alertBit (s.reached g) := by
  have hbit : Safety.Raised .pwr g.alertBit (s.endTrans.raise .pwr g.alertBit) := by
    refine State.raised_raise ?_
    cases g with
    | level l => exact (by decide : AlertReg.pwr.bits.getLsbD 3 = true)
    | state p => cases p <;> decide
  rw [State.reached_eq]
  exact (((State.powerDone_rises _ _ _).trans (State.rehide_rises _)).trans (State.speedCheck_rises _)) _ _ hbit

end

section
variable {s : State} {f : State → State} {g : Pwr → Pwr}

/-- An event of the powered chip that changes the power manager alone. -/
theorem evt_updPwr (ha : s.alive = true) (hf : f s = s.updPwr g) :
    ∃ t, evt f s = .next t ∧ Safety.Quiet s t ∧ t = { s with host := t.host, pwr := g s.pwr } :=
  evt_quiet ha hf (s.updPwr_only g) (by decide)

/-- The same for an event outside the core's supply. -/
theorem evtAny_updPwr (hf : f s = s.updPwr g) :
    ∃ t, evtAny f s = .next t ∧ Safety.Quiet s t ∧ t = { s with host := t.host, pwr := g s.pwr } := by
  rw [evtAny, hf]
  exact done_quiet (s.updPwr_only g) (by decide)

/-! ## The supply (R363, R364) -/

theorem exec_pmbusWriteDone_raised {tr : Trans} (ha : s.alive = true) (ht : s.pwr.trans = some tr) (hp : tr.pmbus = true)
    (hlt : tr.goal.voltage s.pwr.level < s.pwr.voltLevel) :
    ∃ t, exec (.pmbusWriteDone true 0) s = .next t ∧ Safety.Quiet s t ∧ t = { s with host := t.host, pwr := { s.pwr with
      voltLevel := tr.goal.voltage s.pwr.level, supplyFault := false, trans := some { tr with pmbus := false, settling := true } } } := by
  have hu : s.pmbusDone true 0 = s.updPwr fun p => { p with
      voltLevel := tr.goal.voltage s.pwr.level, supplyFault := false, trans := some { tr with pmbus := false, settling := true } } := by
    simp only [State.pmbusDone, ht, hp, hlt]
    rfl
  exact evt_updPwr (f := State.pmbusDone true 0) ha hu

/-- A write that the regulator does not acknowledge without a fault ends the change (R364; log 92). -/
theorem exec_pmbusWriteDone_fault {tr : Trans} {v : Byte} (ha : s.alive = true) (ht : s.pwr.trans = some tr) (hp : tr.pmbus = true)
    (hv : v ≠ 0) :
    ∃ t, exec (.pmbusWriteDone true v) s = .next t ∧ t = { s with host := t.host, log := t.log, pwr := { s.pwr with
      supplyFault := true, trans := none } } ∧ Safety.Raised .pwr 7 t := by
  have hu : s.pmbusDone true v =
      ((((s.updPwr fun p => { p with supplyFault := true }).raise .pwr 7).logEvent 0x0E03 0 v.toNat).endTrans).powerDone 0x0E07 [] := by
    have hv' : (v == 0) = false := beq_eq_false_iff_ne.2 hv
    simp only [State.pmbusDone, ht, hp, hv']
    rfl
  have hlog : Only [.alert, .log] (s.updPwr fun p => { p with supplyFault := true })
      (((s.updPwr fun p => { p with supplyFault := true }).raise .pwr 7).logEvent 0x0E03 0 v.toNat) :=
    ((State.raise_only _ _ _).step (State.logEvent_only _ _ _ _)).mono (by decide)
  have ho : Only [.pwr, .alert, .log, .host] s (s.pmbusDone true v) := by
    rw [hu]
    exact ((((s.updPwr_only _).step hlog).step (State.endTrans_only _)).step (State.powerDone_only _ _ _)).mono (by decide)
  have hpwr : (s.pmbusDone true v).pwr = { s.pwr with supplyFault := true, trans := none } := by
    calc (s.pmbusDone true v).pwr = (State.endTrans _).pwr := by rw [hu]; exact State.powerDone_only _ _ _ .pwr (by decide)
      _ = { (State.logEvent _ _ _ _).pwr with trans := none } := rfl
      _ = _ := by rw [hlog .pwr (by decide)]; rfl
  have hraised : Safety.Raised .pwr 7 (s.pmbusDone true v) := by
    rw [hu]
    exact (((State.logEvent_rises _ _ _ _).trans ((State.endTrans_only _).rises (by decide))).trans (State.powerDone_rises _ _ _)) _ _
      (State.raised_raise (by decide))
  obtain ⟨t, hx, hfr, he, hal⟩ := evt_frame (f := State.pmbusDone true v) ha ho (by decide)
  have hpatch : t = { s with host := t.host, log := t.log, pwr := t.pwr } :=
    (hfr.mono (qs := [.host, .alert, .log, .pwr]) (by decide)).eq_patch
  have htp : t.pwr = (s.pmbusDone true v).pwr := by rw [he]
  rw [htp, hpwr] at hpatch
  exact ⟨t, hx, hpatch, raised_of_alert hal hraised⟩

theorem exec_vsettleExpiry_level0 {tr : Trans} (ha : s.alive = true) (ht : s.pwr.trans = some tr) (hs : tr.settling = true)
    (hg : tr.goal = .level 0) :
    ∃ t, exec .vsettleExpiry s = .next t ∧ t.pwr = { s.pwr with level := 0, trans := none } ∧ Safety.Raised .pwr 3 t := by
  have hu : s.settled = (s.moveClocks (.level 0)).reached (.level 0) := by
    simp only [State.settled, ht, hs, hg, if_true]
  have ho : Only ([.pwr, .port] ++ reachParts) s s.settled := by
    rw [hu]
    exact (s.moveClocks_only _).step (State.reached_only _ _)
  obtain ⟨t, hx, -, he, hal⟩ := evt_frame (f := State.settled) ha ho (by decide)
  refine ⟨t, hx, ?_, raised_of_alert hal ?_⟩
  · rw [he, hu, State.reached_pwr]
    rfl
  · rw [hu]
    exact State.raised_reached _ (.level 0)

/-! ## The wake sequence (R365, R392, R393) -/

theorem State.corePgHigh_off {bad : BitVec 64} (hpg : s.pwr.corePg = false) (hen : s.pwr.pwrEn = true) (hst : s.pwr.st = .off)
    (hw : s.pwr.waking = true) : s.corePgHigh bad = s.wakeCore bad := by
  simp only [State.corePgHigh, hpg, hen, hst, hw]
  rfl

/-- A chip that wakes from OFF: the core starts as at power-up. -/
theorem State.wakeCore_off {bad : BitVec 64} (hfs : s.pwr.fromStandby = false) (hb : s.boot.bootMode ≠ 2) :
    (s.wakeCore bad).pwr = { s.pwr with st := .run, corePg := true, waking := false, attempts := 0, pcieWakeN := !s.pwr.pcieWake } ∧
    (s.wakeCore bad).boot.stage = .rom := by
  have hstart : ∀ u : State, u.startUp.pwr = u.pwr := fun u => u.startUp_only .pwr (by decide)
  have hu : s.wakeCore bad = (((s.updPwr fun p => { p with
      st := .run, corePg := true, waking := false, attempts := 0, pcieWakeN := !p.pcieWake }).wakeAxes).startUp).updBoot
        fun b => { b with fwVersion := 0, imgSvn := 0, imgKey := 0, board := {}, bootSlot := 0 } := by
    simp only [State.wakeCore, hfs, Bool.false_and, Bool.false_eq_true, if_false]
  rw [hu, State.updBoot_pwr, State.updBoot_boot, hstart, State.startUp_boot]
  exact ⟨rfl, if_neg hb⟩

theorem exec_corePgRise_off {bad : BitVec 64} (hpg : s.pwr.corePg = false) (hen : s.pwr.pwrEn = true) (hst : s.pwr.st = .off)
    (hw : s.pwr.waking = true) (hfs : s.pwr.fromStandby = false) (hb : s.boot.bootMode ≠ 2) :
    ∃ t, exec (.corePgRise bad) s = .next t ∧ t.pwr.st = .run ∧ t.pwr.corePg = true ∧ t.pwr.waking = false ∧ t.boot.stage = .rom := by
  obtain ⟨hpwr, hstage⟩ := State.wakeCore_off (bad := bad) hfs hb
  rw [← State.corePgHigh_off hpg hen hst hw] at hpwr hstage
  obtain ⟨t, hx, -, he⟩ := evtAny_next (s := s) (f := State.corePgHigh bad)
  have htp : t.pwr = (s.corePgHigh bad).pwr := by rw [he]
  have htb : t.boot = (s.corePgHigh bad).boot := by rw [he]
  rw [hpwr] at htp
  exact ⟨t, hx, by rw [htp], by rw [htp], by rw [htp], by rw [htb, hstage]⟩

theorem exec_corePgTimeout_waking (hw : s.pwr.waking = true) (hen : s.pwr.pwrEn = true) (hpg : s.pwr.corePg = false) :
    ∃ t, exec .corePgTimeout s = .next t ∧ Safety.Quiet s t ∧ t = { s with host := t.host, pwr := t.pwr } ∧
      t.pwr = (if s.pwr.attempts < 3 then { s.pwr with pwrEn := false }
        else { s.pwr with pwrEn := false, waking := false, attempts := 0, aonWakeFail := true }) := by
  have hu : s.pgTimeout = s.updPwr fun p => if p.attempts < 3 then { p with pwrEn := false }
      else { p with pwrEn := false, waking := false, attempts := 0, aonWakeFail := true } := by
    simp only [State.pgTimeout, hw, hen, hpg, Bool.not_true, Bool.or_self, Bool.false_eq_true, if_false, State.updPwr]
    split <;> rfl
  obtain ⟨t, hx, hq, he⟩ := evtAny_updPwr (f := State.pgTimeout) hu
  have htp : t.pwr = _ := congrArg State.pwr he
  exact ⟨t, hx, hq, he.trans (by rw [htp]), htp⟩

theorem exec_pwrEnRetry_waking (hw : s.pwr.waking = true) (hen : s.pwr.pwrEn = false) :
    ∃ t, exec .pwrEnRetry s = .next t ∧ Safety.Quiet s t ∧
      t = { s with host := t.host, pwr := { s.pwr with pwrEn := true, attempts := s.pwr.attempts + 1 } } :=
  evtAny_updPwr (f := State.pwrRetry) (g := fun p => { p with pwrEn := true, attempts := p.attempts + 1 })
    (by simp only [State.pwrRetry, hw, hen]; rfl)

/-- CORE_PG falling: the AON domain, the fuses and the heads keep what they have (R393). -/
theorem exec_corePgFall_run (hpg : s.pwr.corePg = true) (hst : s.pwr.st = .run) :
    ∃ t, exec .corePgFall s = .next t ∧ t.pwr.corePg = false ∧ t.fire.permit = false ∧ t.pwr.wakeEnable = s.pwr.wakeEnable ∧
      t.pwr.retMask = s.pwr.retMask ∧ t.fuse = s.fuse ∧ t.head = s.head := by
  have hu : s.corePgLow = (s.dropPermit 0).coreReset.updPwr fun p => { p with
      st := .run, corePg := false, aonWake := 0, resuming := false } := by
    simp only [State.corePgLow, hpg, hst]
    rfl
  have hpwr : (s.dropPermit 0).pwr = s.pwr := s.dropPermit_only 0 .pwr (by decide)
  have hhead : (s.dropPermit 0).head = s.head := s.dropPermit_only 0 .head (by decide)
  obtain ⟨t, hx, -, he⟩ := evtAny_next (s := s) (f := State.corePgLow)
  have htp : t.pwr = { (s.dropPermit 0).pwr.aon with st := .run, corePg := false, aonWake := 0, resuming := false } := by
    rw [he, hu]
    rfl
  rw [hpwr] at htp
  exact ⟨t, hx, by rw [htp], by rw [he, hu]; rfl, by rw [htp]; rfl, by rw [htp]; rfl, by rw [he], by rw [he, hu]; exact hhead⟩

theorem exec_retBrownout_standby (hst : s.pwr.st = .standby) :
    ∃ t, exec .retBrownout s = .next t ∧ Safety.Quiet s t ∧ t = { s with host := t.host, pwr := { s.pwr with aonBrownout := true } } :=
  evtAny_updPwr (f := fun s => if s.pwr.st = .standby then s.updPwr fun p => { p with aonBrownout := true } else s)
    (g := fun p => { p with aonBrownout := true }) (if_pos hst)

/-- The loss of the AON supply (R362, R298). -/
theorem exec_aonPowerLoss (s : State) :
    ∃ t, exec .aonPowerLoss s = .next t ∧ t.time.calValid = false ∧ t.boot.resetN = false ∧ t.pwr.corePg = false ∧
      t.pwr.retMask = 0 ∧ t.fuse = s.fuse ∧ t.boot.flash = s.boot.flash ∧ t.nvm.id = s.nvm.id := by
  obtain ⟨t, hx, -, he⟩ := evtAny_next (s := s) (f := State.aonLoss)
  refine ⟨t, hx, ?_⟩
  rw [he]
  exact ⟨rfl, rfl, rfl, rfl, rfl, rfl, rfl⟩

/-! ## The control cores (spec/01 R18, R19) -/

theorem State.coresRun_iff : s.coresRun = true ↔ s.alive = true ∧ s.boot.stage ≠ .restarting ∧ s.boot.coresHeld = false := by
  simp [State.coresRun, and_assoc]

/-- A lockstep mismatch counted. -/
def State.mismatched (s : State) : State :=
  s.updBoot fun b => { b with mismatches := b.mismatches + 1, lastMismatch := some s.time.ticks }

/-- The first mismatch restarts the firmware. -/
theorem exec_lockstepMismatch_first (hr : s.coresRun = true) (hst : s.boot.stage = .ready) (hl : s.boot.lastMismatch = none) :
    ∃ t, exec .lockstepMismatch s = .next t ∧ t = { s with host := t.host, log := t.log, boot := { s.boot with
      mismatches := s.boot.mismatches + 1, lastMismatch := some s.time.ticks, stage := .restarting } } := by
  obtain ⟨ha, -, hheld⟩ := State.coresRun_iff.1 hr
  have hlog : Only [.log, .alert] s.mismatched (s.mismatched.logEvent 0x0102 0 s.mismatched.boot.mismatches) := State.logEvent_only _ _ _ _
  have hboot : (s.mismatched.logEvent 0x0102 0 s.mismatched.boot.mismatches).boot = s.mismatched.boot := hlog .boot (by decide)
  have hstage : (s.mismatched.logEvent 0x0102 0 s.mismatched.boot.mismatches).boot.stage = .ready := by rw [hboot]; exact hst
  have hu : s.mismatch = (s.mismatched.logEvent 0x0102 0 s.mismatched.boot.mismatches).restartFirmware := by
    simp only [State.mismatch, ha, hheld, hl]
    rfl
  have hrestart := hu.trans (State.restartFirmware_ready hstage)
  have ho : Only [.boot, .log, .alert, .host] s s.mismatch := by
    rw [hrestart]
    exact (((s.updBoot_only _).step hlog).step (.of_eq (ps := [.host, .boot]) rfl (by decide))).mono (by decide)
  obtain ⟨t, hx, hfr, he, -⟩ := evt_frame (f := State.mismatch) ha ho (by decide)
  have hpatch : t = { s with host := t.host, log := t.log, boot := t.boot } :=
    (hfr.mono (qs := [.host, .alert, .log, .boot]) (by decide)).eq_patch
  have htb : t.boot = { s.mismatched.boot with stage := .restarting } :=
    calc t.boot = { (s.mismatched.logEvent 0x0102 0 s.mismatched.boot.mismatches).boot with stage := .restarting } := by rw [he, hrestart]
      _ = _ := by rw [hboot]
  rw [htb] at hpatch
  exact ⟨t, hx, hpatch⟩

theorem State.finishHeld_coresHeld (s : State) : s.finishHeld.boot.coresHeld = s.boot.coresHeld := by
  unfold State.finishHeld
  split
  · have hboot := State.dropPermit_only (s.updBoot fun b => { b with dropAfterPages := false }) 3 .boot (by decide)
    exact (congrArg Boot.coresHeld hboot).trans rfl
  · rfl

/-- The second mismatch within ten seconds holds the cores, with cause 10. -/
theorem exec_lockstepMismatch_second {k : Nat} (ha : s.alive = true) (hheld : s.boot.coresHeld = false)
    (hl : s.boot.lastMismatch = some k) (hk : s.time.ticks - k ≤ tenSeconds) :
    ∃ t, exec .lockstepMismatch s = .next t ∧ t.boot.coresHeld = true ∧ t.health.active.getLsbD 10 = true := by
  have hu : s.mismatch = ((((s.mismatched.updBoot fun b => { b with
      coresHeld := true, dropAfterPages := true, stage := if b.stage = .restarting then .ready else b.stage }).logEvent 0x0103 0 0).setCause
        10 0).finishHeld) := by
    simp only [State.mismatch, ha, hheld, hl, hk]
    rfl
  have hboot (v : State) : ((v.logEvent 0x0103 0 0).setCause 10 0).boot = v.boot :=
    ((v.logEvent_only 0x0103 0 0).step (State.setCause_only _ 10 0)) .boot (by decide)
  obtain ⟨t, hx, -, he⟩ := evt_next (f := State.mismatch) ha
  refine ⟨t, hx, ?_, ?_⟩
  · rw [he, hu, State.finishHeld_coresHeld, hboot]
    rfl
  · have hhealth : t.health = s.mismatch.health := by rw [he]
    rw [hhealth, hu, State.finishHeld_only _ .health (by decide)]
    exact State.setCause_active _ (by decide) 0

/-- The end of a firmware restart with nothing to answer and nothing held. -/
theorem State.restartDone_idle (hst : s.boot.stage = .restarting) (hi : s.host.inflight = []) (hh : s.host.held = []) :
    s.restartDone = (((s.updBoot fun b => { b with stage := .ready }).updHost fun m => { m with restarted := true, held := [] }).updTwin
      fun t => { t with returning := s.boot.twinEn }) := by
  simp only [State.restartDone, hst, ne_eq, not_true, if_false, State.updTwin_host, State.updHost_host, State.updBoot_host, hi, hh,
    List.filter_nil, List.length_nil, List.range_zero, List.foldl_nil]
  rfl

theorem exec_firmwareRestartDone_idle (ha : s.alive = true) (hst : s.boot.stage = .restarting) (hi : s.host.inflight = [])
    (hh : s.host.held = []) :
    ∃ t, exec .firmwareRestartDone s = .next t ∧ Safety.QuietHost (fun m => { m with restarted := true }) s t ∧
      t = { s with host := t.host, boot := { s.boot with stage := .ready }, twin := { s.twin with returning := s.boot.twinEn } } := by
  have hu := State.restartDone_idle hst hi hh
  have hhost : s.restartDone.host = { s.host with restarted := true } := by
    rw [hu, ← hh]
    rfl
  have ho : Only [.host, .boot, .twin] s s.restartDone := hu ▸ .of_eq rfl (by decide)
  obtain ⟨t, hx, hq, he⟩ := done_host (g := fun m => { m with restarted := true }) ho (by decide) hhost
  have hexec : exec .firmwareRestartDone s = done s s.restartDone := by
    show Host.Outcome.next { settle s (if s.alive then s.restartDone else s) with pending := s.pending } = _
    rw [if_pos ha, next_settle_eq_done (ho .fuse (by decide))]
  exact ⟨t, hexec.trans hx, hq, by rw [he, hu]; rfl⟩

end

/-- Settles O35: any nonzero STATUS_VOUT is the fault (log 92), doorbells held while the cores restart or are held wait for the
restart's end (log 48), RET_BROWNOUT latches in STANDBY. -/
theorem supplyEventsAct : Obligations.SupplyEventsAct :=
  ⟨fun _ _ ha ht hp hlt => exec_pmbusWriteDone_raised ha ht hp hlt,
   fun _ _ _ ha ht hp hv => exec_pmbusWriteDone_fault ha ht hp hv,
   fun _ _ ha ht hs hg => exec_vsettleExpiry_level0 ha ht hs hg,
   fun _ _ hpg hen hst hw hfs hb => exec_corePgRise_off hpg hen hst hw hfs hb,
   fun _ hw hen hpg => exec_corePgTimeout_waking hw hen hpg,
   fun _ hw hen => exec_pwrEnRetry_waking hw hen,
   fun _ hpg hst => exec_corePgFall_run hpg hst,
   fun _ hst => exec_retBrownout_standby hst,
   fun s => exec_aonPowerLoss s,
   fun _ hr hst hl => exec_lockstepMismatch_first hr hst hl,
   fun _ _ ha hheld hl hk => exec_lockstepMismatch_second ha hheld hl hk,
   fun _ ha hst hi hh => exec_firmwareRestartDone_idle ha hst hi hh⟩

end Sys2Proof.Machine

namespace Sys2Proof.Machine

/-! ## The handshake (R357, R358)

A block that accepts changes the transition's own record and, at step 4, the gain loop's windows: `State.handed`. Blocks that all
accept bring the handshake to its commit. -/

/-- The state with the transition's record and the gain loop as given. -/
def State.handed (t : Trans) (lp : Loop) (s : State) : State := { s with pwr := { s.pwr with trans := some t }, loop := lp }

/-- Block `k` accepts when asked, and has nothing of its own to stop. -/
def State.Passes (s : State) (g : Goal) (k : Nat) : Prop :=
  s.hsAnswer g k = .accept ∧ (k = 3 → ∀ p < 4, (s.camN p).st = .stopped ∧ (s.camN p).frame = none) ∧
    (k = 5 → ∀ i < 8, (s.esN i).isOpen = false)

/-- A fold whose steps all keep the state keeps it. -/
theorem foldl_of_kept {α : Type} {g : State → α → State} {s : State} {l : List α} (h : ∀ x ∈ l, g s x = s) : l.foldl g s = s := by
  induction l with
  | nil => rfl
  | cons x l ih =>
    rw [List.foldl_cons, h x (List.mem_cons_self ..)]
    exact ih fun y hy => h y (List.mem_cons_of_mem x hy)

section
variable {s : State} {g : Goal} {t : Trans} {k f : Nat} {l : List Nat}

theorem State.handed_self (ht : s.pwr.trans = some t) : s.handed t s.loop = s := by
  show { s with pwr := { s.pwr with trans := some t } } = s
  rw [← ht]

theorem State.updPwr_trans (ht : s.pwr.trans = some t) (u : Trans → Trans) :
    s.updPwr (fun p => { p with trans := p.trans.map u }) = s.handed (u t) s.loop := by
  show { s with pwr := { s.pwr with trans := s.pwr.trans.map u } } = _
  rw [ht]
  rfl

/-- A block asks about nothing that the handshake changes. -/
theorem State.Passes.handed (h : s.Passes g k) (t : Trans) (lp : Loop) : (s.handed t lp).Passes g k := h

/-- The camera block on being asked, with every port stopped already. -/
theorem State.hsAsk_stopped (ht : s.pwr.trans = some t) (hstop : k = 3 → ∀ p < 4, (s.camN p).st = .stopped) :
    ∃ t', s.hsAsk k = s.handed t' s.loop ∧ t'.goal = t.goal ∧ t'.left = t.left := by
  by_cases hk : k = 3
  · have hfold : (List.range 4).foldl (fun u p => u.camStopped p) s = s :=
      foldl_of_kept fun p hp => if_pos (hstop hk p (List.mem_range.1 hp))
    simp only [State.hsAsk, hk, ne_eq, not_true, if_false, hfold]
    exact ⟨_, State.updPwr_trans ht _, rfl, rfl⟩
  · exact ⟨t, (if_pos hk).trans (State.handed_self ht).symm, rfl, rfl⟩

/-- The egress block on accepting, with every stream closed already. -/
theorem State.closeStreams_closed (ht : s.pwr.trans = some t) (hcl : ∀ i < 8, (s.esN i).isOpen = false) :
    ∃ t', s.closeStreams = s.handed t' s.loop ∧ t'.goal = t.goal ∧ t'.left = t.left := by
  have hfold : (List.range 8).foldl (fun u i =>
      if !(u.esN i).isOpen then u
      else if u.encBusyOn i then u.updEs i fun e => { e with closing := true } else u.closeEs i) s = s :=
    foldl_of_kept fun i hi => if_pos (by simp [hcl i (List.mem_range.1 hi)])
  simp only [State.closeStreams, hfold]
  exact ⟨_, State.updPwr_trans ht _, rfl, rfl⟩

/-- A block that passes accepts: the handshake goes on with the next one. -/
theorem State.hsAccept_passes (ht : s.pwr.trans = some t) (hp : s.Passes g k) :
    ∃ t' lp, s.hsAccept k = s.handed t' lp ∧ t'.goal = t.goal ∧ t'.left = t.left.drop 1 := by
  obtain ⟨-, hcam, hes⟩ := hp
  by_cases h3 : k = 3
  · have hfold : (List.range 4).foldl (fun u p => u.closeFrame p) s = s :=
      foldl_of_kept fun p hp => State.closeFrame_none (hcam h3 p (List.mem_range.1 hp)).2
    simp only [State.hsAccept, if_pos h3, hfold]
    exact ⟨_, s.loop, State.updPwr_trans ht _, rfl, rfl⟩
  by_cases h4 : k = 4
  · simp only [State.hsAccept, if_neg h3, if_pos h4]
    exact ⟨_, _, State.updPwr_trans (s := s.restartAll.updLoop fun l => { l with acc := [], openPos := [] }) ht _, rfl, rfl⟩
  by_cases h5 : k = 5
  · obtain ⟨t', hc, hg, hl⟩ := State.closeStreams_closed ht (hes h5)
    simp only [State.hsAccept, if_neg h3, if_neg h4, if_pos h5, hc]
    exact ⟨_, _, State.updPwr_trans (s := s.handed t' s.loop) rfl _, hg, congrArg (List.drop 1) hl⟩
  · simp only [State.hsAccept, if_neg h3, if_neg h4, if_neg h5]
    exact ⟨_, s.loop, State.updPwr_trans ht _, rfl, rfl⟩

theorem State.handshake_passes (ht : s.pwr.trans = some t) (hl : t.left = k :: l) (hp : s.Passes t.goal k) :
    ∃ t' lp, s.handshake (f + 1) = (s.handed t' lp).handshake f ∧ t'.goal = t.goal ∧ t'.left = l := by
  have hask : ∃ t1, (if t.delayed then s else s.hsAsk k) = s.handed t1 s.loop ∧ t1.goal = t.goal ∧ t1.left = t.left := by
    split
    · exact ⟨t, (State.handed_self ht).symm, rfl, rfl⟩
    · exact State.hsAsk_stopped ht fun hk p hlt => (hp.2.1 hk p hlt).1
  obtain ⟨t1, hs1, hg1, hl1⟩ := hask
  obtain ⟨t2, lp, hs2, hg2, hl2⟩ := State.hsAccept_passes (s := s.handed t1 s.loop) (t := t1) rfl (hp.handed t1 s.loop)
  have hans : (s.handed t1 s.loop).hsAnswer t.goal k = .accept := (hp.handed t1 s.loop).1
  refine ⟨t2, lp, ?_, hg2.trans hg1, by rw [hl2, hl1, hl]; rfl⟩
  rw [State.handshake]
  simp only [ht, hl, hs1, hans, hs2]
  rfl

theorem State.handshake_commit (ht : s.pwr.trans = some t) (hl : t.left = []) : s.handshake (f + 1) = s.commit t.goal := by
  rw [State.handshake]
  simp only [ht, hl]

/-- Every block still to ask passes: the handshake comes to the commit. -/
theorem State.handshake_all (ht : s.pwr.trans = some t) (hp : ∀ k ∈ t.left, s.Passes t.goal k) (hf : t.left.length < f) :
    ∃ t' lp, s.handshake f = (s.handed t' lp).commit t.goal := by
  obtain ⟨l, hl⟩ : ∃ l, l = t.left := ⟨_, rfl⟩
  induction l generalizing s t f with
  | nil =>
    obtain ⟨f, rfl⟩ := Nat.exists_eq_succ_of_ne_zero (Nat.ne_zero_of_lt hf)
    exact ⟨t, s.loop, by rw [State.handshake_commit ht hl.symm, State.handed_self ht]⟩
  | cons k l ih =>
    rw [← hl] at hp hf
    obtain ⟨f, rfl⟩ := Nat.exists_eq_succ_of_ne_zero (Nat.ne_zero_of_lt hf)
    obtain ⟨t1, lp1, h1, hg1, hl1⟩ := State.handshake_passes (f := f) ht hl.symm (hp k (List.mem_cons_self ..))
    have hp1 : ∀ j ∈ t1.left, (s.handed t1 lp1).Passes t1.goal j := by
      rw [hl1, hg1]
      exact fun j hj => (hp j (List.mem_cons_of_mem k hj)).handed t1 lp1
    have hf1 : t1.left.length < f := by
      rw [hl1]
      exact Nat.lt_of_succ_lt_succ hf
    obtain ⟨t2, lp2, h2⟩ := ih (s := s.handed t1 lp1) (t := t1) rfl hp1 hf1 hl1.symm
    exact ⟨t2, lp2, by rw [h1, h2, hg1]; rfl⟩

end

/-! ## The commit of HOLD (R360) -/

section
variable (s : State)

theorem State.releaseRuns_only : Only [.dma] s s.releaseRuns :=
  .foldl (fun u c => .ite (u.updDma_only c _) (.refl u)) _ s

/-- HOLD at the voltage already in force. -/
theorem State.commit_hold (hlow : s.fire.permit = false) (hv : s.pwr.voltLevel = 2) :
    s.commit (.state .hold) = (s.releaseRuns.moveClocks (.state .hold)).reached (.state .hold) := by
  have hpwr : s.releaseRuns.pwr = s.pwr := s.releaseRuns_only .pwr (by decide)
  have hwant : (Goal.state .hold).voltage s.releaseRuns.pwr.level = s.releaseRuns.pwr.voltLevel := by rw [hpwr, hv]; rfl
  have hcommit : s.commit (.state .hold) = ((s.dropPermit 4).releaseRuns).supplyChange (.state .hold) := rfl
  rw [hcommit, State.dropPermit_of_low s hlow 4, State.supplyChange, if_pos hwant]

theorem State.moveClocks_hold_pwr : (s.moveClocks (.state .hold)).pwr = { s.pwr with st := .hold } :=
  (State.closeGaps_only (s.updPwr fun p => { p with st := .hold })) .pwr (by decide)

/-- What a commit of HOLD touches. -/
theorem State.commit_hold_only (hlow : s.fire.permit = false) (hv : s.pwr.voltLevel = 2) :
    Only ([.dma, .pwr, .port] ++ reachParts) s (s.commit (.state .hold)) := by
  rw [s.commit_hold hlow hv]
  exact ((s.releaseRuns_only.step (State.moveClocks_only _ _)).step (State.reached_only _ _)).mono (by decide)

theorem State.commit_hold_pwr (hlow : s.fire.permit = false) (hv : s.pwr.voltLevel = 2) :
    (s.commit (.state .hold)).pwr = { s.pwr with st := .hold, trans := none } := by
  rw [s.commit_hold hlow hv, State.reached_pwr, State.moveClocks_hold_pwr, s.releaseRuns_only .pwr (by decide)]

end

/-! ## Abandonment (R358, R361) -/

section
variable {s : State} {t : Trans} {l : List Nat}

theorem State.restartStreaks_only (s : State) (cs : List Nat) : Only [.vis] s (s.restartStreaks cs) := s.updVis_only _

theorem State.ownersMoved_only (s0 s : State) : Only [.loop, .vis] s (s0.ownersMoved s) := by
  unfold State.ownersMoved
  exact (((s.restartCols_only _).step (State.restartStreaks_only _ _)).step (State.updLoop_only _ _)).mono (by decide)

/-- What the blocks touch that return to their prior condition. -/
def returnParts : List Part := [.loop, .vis, .slate, .dma]

theorem State.hsReturn_only (t : Trans) (k : Nat) (s : State) : Only returnParts s (s.hsReturn t k) := by
  unfold State.hsReturn
  refine .ite ?_ (.ite ?_ (.ite (s.releaseRuns_only.mono (by decide)) (.refl s)))
  · exact .foldl (fun u _ => (State.ownersMoved_only _ u).mono (by decide)) _ s
  · exact .foldl (fun u (e : Nat × EgressStream) => (u.updEs_only e.1 _).mono (qs := returnParts) (by decide)) _ s

/-- The blocks that had accepted, back in their prior condition. -/
def State.returned (t : Trans) (s : State) : State :=
  (if t.left.head? = some 3 ∧ t.delayed then 3 :: t.accepted else t.accepted).foldl (fun u k => u.hsReturn t k) s

theorem State.returned_only (t : Trans) (s : State) : Only returnParts s (s.returned t) :=
  .foldl (fun u k => u.hsReturn_only t k) _ s

theorem State.abandon_entry (status : Nat) (p : List Byte) (ht : s.pwr.trans = some t) (hg : t.goal.entry = true) :
    s.abandon status p = (((s.returned t).endTrans).raise .pwr 2).powerDone status p := by
  simp only [State.abandon, ht, hg, if_true]
  rfl

theorem State.abandon_only (status : Nat) (p : List Byte) (ht : s.pwr.trans = some t) (hg : t.goal.entry = true) :
    Only (returnParts ++ [.pwr, .alert, .host]) s (s.abandon status p) := by
  rw [State.abandon_entry status p ht hg]
  exact ((((State.returned_only t s).step (State.endTrans_only _)).step (State.raise_only _ _ _)).step
    (State.powerDone_only _ _ _)).mono (by decide)

theorem State.abandon_pwr (status : Nat) (p : List Byte) (ht : s.pwr.trans = some t) (hg : t.goal.entry = true) :
    (s.abandon status p).pwr = { s.pwr with trans := none } := by
  have hret : (s.returned t).pwr = s.pwr := State.returned_only t s .pwr (by decide)
  have htail := (State.raise_only (s.returned t).endTrans .pwr 2).step (State.powerDone_only _ status p)
  rw [State.abandon_entry status p ht hg, htail .pwr (by decide)]
  show { (s.returned t).pwr with trans := none } = _
  rw [hret]

theorem State.raised_abandon (status : Nat) (p : List Byte) (ht : s.pwr.trans = some t) (hg : t.goal.entry = true) :
    Safety.Raised .pwr 2 (s.abandon status p) := by
  rw [State.abandon_entry status p ht hg]
  exact State.powerDone_rises _ _ _ _ _ (State.raised_raise (by decide))

end

/-! ## Wake sources (R361, R362, R365) -/

/-- A chip in STANDBY or OFF that an enabled source wakes. -/
def Pwr.woken (cause : Nat) (p : Pwr) : Pwr :=
  { p with aonWake := cause, waking := true, attempts := 1, pwrEn := true, resuming := true }

section
variable {s : State}

theorem State.wakeSource_asleep {b : Nat} (hen : s.pwr.wakeEnable.getLsbD b = true) (hst : s.pwr.st = .standby ∨ s.pwr.st = .off)
    (hw : s.pwr.waking = false) : s.wakeSource b = s.updPwr (Pwr.woken (b + 1)) := by
  have hwake : s.wake (b + 1) = s.updPwr (Pwr.woken (b + 1)) := by
    rcases hst with h | h <;> simp only [State.wake, h, hw] <;> rfl
  exact (if_pos hen).trans hwake

theorem exec_wakeIn_asleep (hr : s.boot.resetN = true) (hen : s.pwr.wakeEnable.getLsbD 0 = true)
    (hst : s.pwr.st = .standby ∨ s.pwr.st = .off) (hw : s.pwr.waking = false) :
    ∃ t, exec .wakeIn s = .next t ∧ Safety.Quiet s t ∧ t = { s with host := t.host, pwr := s.pwr.woken 1 } :=
  evtAny_updPwr (f := fun s => if s.aonRuns then s.wakeSource 0 else s) (g := Pwr.woken 1)
    ((if_pos hr).trans (State.wakeSource_asleep hen hst hw))

theorem exec_rtcAlarm_asleep (hr : s.boot.resetN = true) (hen : s.pwr.wakeEnable.getLsbD 1 = true)
    (hst : s.pwr.st = .standby ∨ s.pwr.st = .off) (hw : s.pwr.waking = false) (hal : s.alarmActive = true) :
    ∃ t, exec .rtcAlarm s = .next t ∧ Safety.Quiet s t ∧ t = { s with host := t.host, pwr := s.pwr.woken 2 } :=
  evtAny_updPwr (f := fun s => if s.aonRuns && s.alarmActive then s.wakeSource 1 else s) (g := Pwr.woken 2)
    ((if_pos (by rw [State.aonRuns, hr, hal]; rfl)).trans (State.wakeSource_asleep hen hst hw))

theorem State.not_alive_of_asleep (hst : s.pwr.st = .standby ∨ s.pwr.st = .off) : s.alive = false := by
  rcases hst with h | h <;> simp [State.alive, h]

/-- The sleeping chip has line A of ENC_0 toggled. -/
theorem exec_encMove_asleep (hr : s.boot.resetN = true) (hen : s.pwr.wakeEnable.getLsbD 3 = true)
    (hst : s.pwr.st = .standby ∨ s.pwr.st = .off) (hw : s.pwr.waking = false) :
    ∃ t, exec .encMove s = .next t ∧ Safety.Quiet s t ∧ t = { s with host := t.host, enc := t.enc, pwr := s.pwr.woken 4 } ∧
      (t.encN 0).lineA = !(s.encN 0).lineA := by
  have hu : s.encMoved = (s.updEnc 0 fun e => { e with lineA := !e.lineA }).updPwr (Pwr.woken 4) := by
    have hstart : s.encMoved = (s.updEnc 0 fun e => { e with lineA := !e.lineA }).wakeSource 3 := by
      simp only [State.encMoved, State.not_alive_of_asleep hst, Bool.false_eq_true, if_false, State.aonRuns, State.updEnc_boot, hr, if_true]
    exact hstart.trans (State.wakeSource_asleep hen hst hw)
  obtain ⟨t, hx, hq, he⟩ := done_quiet (s := s)
    ((State.updEnc_only s 0 fun e => { e with lineA := !e.lineA }).step (State.updPwr_only _ (Pwr.woken 4))) (by decide)
  have henc : t.enc = (s.updEnc 0 fun e => { e with lineA := !e.lineA }).enc := (congrArg State.enc he).trans rfl
  refine ⟨t, by rw [← hu] at hx; exact hx, hq, ?_, ?_⟩
  · rw [henc]
    exact he
  · show (t.enc.get {} 0).lineA = _
    rw [henc]
    exact congrArg Enc.lineA (State.encN_updEnc_same s 0 _)

/-! ## The handshake's events -/

theorem exec_handshakeReask_hold {tr : Trans} (ha : s.alive = true) (ht : s.pwr.trans = some tr) (hl : tr.left = [7, 8, 9, 10, 11])
    (hd : tr.delayed = true) (hg : tr.goal = .state .hold) (hb : s.storeBusy = false) (hv : s.pwr.voltLevel = 2)
    (hlow : s.fire.permit = false) :
    ∃ t, exec .handshakeReask s = .next t ∧ t.pwr.st = .hold ∧ t.pwr.trans = none ∧ Safety.Raised .pwr 0 t := by
  have hstore : s.hsAnswer tr.goal 7 = .accept := by simp [State.hsAnswer, hb]
  have hpass : ∀ k ∈ tr.left, s.Passes tr.goal k := by
    rw [hl]
    intro k hk
    have hge : 7 ≤ k := by simp at hk; omega
    refine ⟨?_, by omega, by omega⟩
    rcases Nat.eq_or_lt_of_le hge with rfl | hgt
    · exact hstore
    · simp [State.hsAnswer, show k ≠ 1 by omega, show k ≠ 2 by omega, show k ≠ 3 by omega, show k ≠ 4 by omega, show k ≠ 5 by omega,
        show k ≠ 6 by omega, show k ≠ 7 by omega]
  have hreask : s.reask = s.handshake 13 := by
    simp only [State.reask, ht, hl, hd, hstore]
    rfl
  obtain ⟨t', lp, hu⟩ := State.handshake_all (f := 13) ht hpass (by rw [hl]; decide)
  rw [← hreask, hg] at hu
  have ho : Only ([.pwr, .loop] ++ ([.dma, .pwr, .port] ++ reachParts)) s s.reask := by
    rw [hu]
    exact Only.step (t := s.handed t' lp) (.of_eq rfl (by decide)) (State.commit_hold_only _ hlow hv)
  obtain ⟨t, hx, -, he, hal⟩ := evt_frame (f := State.reask) ha ho (by decide)
  have htp : t.pwr = s.reask.pwr := by rw [he]
  rw [hu, State.commit_hold_pwr (s.handed t' lp) hlow hv] at htp
  refine ⟨t, hx, by rw [htp], by rw [htp], raised_of_alert hal ?_⟩
  rw [hu, State.commit_hold (s.handed t' lp) hlow hv]
  exact State.raised_reached _ _

theorem exec_handshakeBoundExpiry_store {tr : Trans} {l : List Nat} (ha : s.alive = true) (ht : s.pwr.trans = some tr)
    (hl : tr.left = 7 :: l) (hd : tr.delayed = true) (hg : ∃ g, tr.goal = .state g) :
    ∃ t, exec .handshakeBoundExpiry s = .next t ∧ t.pwr = { s.pwr with trans := none } ∧ Safety.Raised .pwr 2 t ∧ t.bat = s.bat := by
  have hentry : tr.goal.entry = true := by obtain ⟨g, hg⟩ := hg; rw [hg]; rfl
  have hu : s.boundExpiry = s.abandon 0x0E01 (le 1 7 ++ le 1 4 ++ zeros 2 ++ le 4 (s.waitedUs tr)) := by
    simp only [State.boundExpiry, ht, hl, hd]
    rfl
  have ho := State.abandon_only (s := s) 0x0E01 (le 1 7 ++ le 1 4 ++ zeros 2 ++ le 4 (s.waitedUs tr)) ht hentry
  rw [← hu] at ho
  obtain ⟨t, hx, hfr, he, hal⟩ := evt_frame (f := State.boundExpiry) ha ho (by decide)
  have htp : t.pwr = s.boundExpiry.pwr := by rw [he]
  rw [hu, State.abandon_pwr _ _ ht hentry] at htp
  refine ⟨t, hx, htp, raised_of_alert hal ?_, (congrArg State.bat hfr.eq_patch).trans rfl⟩
  rw [hu]
  exact State.raised_abandon _ _ ht hentry

/-! ## Droop sensors (R371, R372) -/

theorem exec_droopTrip_quiet {i : Nat} (ha : s.alive = true) (hi : i < 16) (hen : s.pwr.droopEnable.getLsbD i = true)
    (hq : s.pwr.sensors.getLsbD i = false) (hh : s.pwr.hour = s.hourNow) (hr : s.pwr.hourTrips < s.pwr.rateLimit) :
    ∃ t, exec (.droopTrip i) s = .next t ∧ Safety.Quiet s t ∧ t = { s with host := t.host, pwr := { s.pwr with
      sensors := s.pwr.sensors ||| BitVec.twoPow 16 i, droop := true, droopTrips := s.pwr.droopTrips + 1,
      hourTrips := s.pwr.hourTrips + 1 } } := by
  refine evt_updPwr (f := State.droopTrip i) (g := fun p => { p with
    sensors := p.sensors ||| BitVec.twoPow 16 i, droop := true, droopTrips := p.droopTrips + 1, hourTrips := p.hourTrips + 1 }) ha ?_
  have hcond : (decide (16 ≤ i) || !s.pwr.droopEnable.getLsbD i || s.pwr.sensors.getLsbD i) = false := by
    simp [hen, hq, Nat.not_le.2 hi]
  have hlim : ¬ s.pwr.rateLimit < s.pwr.hourTrips + 1 := by omega
  simp only [State.droopTrip, hcond, State.hourRoll_of_hour hh, Bool.false_eq_true, if_false]
  exact if_neg fun h => hlim h.1

theorem exec_droopClear_known {i : Nat} (ha : s.alive = true) (hi : i < 16) :
    ∃ t, exec (.droopClear i) s = .next t ∧ Safety.Quiet s t ∧ t = { s with host := t.host, pwr := { s.pwr with
      sensors := s.pwr.sensors &&& ~~~(BitVec.twoPow 16 i) } } :=
  evt_updPwr (f := fun s => if i < 16 then s.updPwr fun p => { p with sensors := p.sensors &&& ~~~(BitVec.twoPow 16 i) } else s)
    (g := fun p => { p with sensors := p.sensors &&& ~~~(BitVec.twoPow 16 i) }) ha (if_pos hi)

theorem exec_droopRestore_quiet (ha : s.alive = true) (hs : s.pwr.sensors = 0) :
    ∃ t, exec .droopRestore s = .next t ∧ Safety.Quiet s t ∧ t = { s with host := t.host, pwr := { s.pwr with droop := false } } :=
  evt_updPwr (f := fun s => if s.pwr.sensors = 0 then s.updPwr fun p => { p with droop := false } else s)
    (g := fun p => { p with droop := false }) ha (if_pos hs)

theorem exec_droopLong_beyond {us : BitVec 32} (ha : s.alive = true) (hd : s.pwr.droop = true) (hus : 1000 < us.toNat) :
    ∃ t, exec (.droopLong us) s = .next t ∧ Safety.Alerted s t ∧ Safety.Raised .pwr 5 t ∧
      t = { s with host := t.host, log := t.log, pwr := { s.pwr with droopLong := s.pwr.droopLong + 1 } } := by
  have hu : s.longDroop us =
      ((s.updPwr fun p => { p with droopLong := p.droopLong + 1 }).raise .pwr 5).logEvent 0x0E02 0 us.toNat := by
    simp only [State.longDroop, hd, Nat.not_le.2 hus]
    rfl
  have htail := (State.raise_only (s.updPwr fun p => { p with droopLong := p.droopLong + 1 }) .pwr 5).step
    (State.logEvent_only _ 0x0E02 0 us.toNat)
  have ho : Only [.pwr, .alert, .log] s (s.longDroop us) := by
    rw [hu]
    exact ((s.updPwr_only _).step htail).mono (by decide)
  obtain ⟨t, hx, halerted, -, hfr, hsent⟩ := evt_only (f := State.longDroop us) ha ho (by decide)
  have hpatch : t = { s with host := t.host, log := t.log, pwr := t.pwr } :=
    (hfr.mono (qs := [.host, .alert, .log, .pwr]) (by decide)).eq_patch
  have htp : t.pwr = { s.pwr with droopLong := s.pwr.droopLong + 1 } := by
    rw [hsent .pwr (by decide), hu, htail .pwr (by decide)]
    rfl
  rw [htp] at hpatch
  refine ⟨t, hx, halerted, raised_of_only hsent ?_, hpatch⟩
  rw [hu]
  exact State.logEvent_rises _ _ _ _ _ _ (State.raised_raise (by decide))

/-! ## Over-temperature (spec/15 R401) -/

theorem exec_thermalShutdown_hot {temp : BitVec 16} (ha : s.alive = true) (hT : 1888 ≤ temp.toInt) :
    ∃ t, exec (.thermalShutdown temp) s = .next t ∧ t.fire.permit = false ∧ t.pwr = { s.pwr with thermalPending := some temp } ∧
      (s.fire.permit = true → t.fire.dropCause = 6) := by
  have hu : s.thermalStop temp = (s.dropPermit 6).updPwr fun p => { p with thermalPending := some temp } := if_neg (Int.not_lt.2 hT)
  have hpwr : (s.dropPermit 6).pwr = s.pwr := s.dropPermit_only 6 .pwr (by decide)
  have hfire := s.dropPermit_unmarked 6
  obtain ⟨t, hx, -, he⟩ := evt_next (f := State.thermalStop temp) ha
  have htf : t.fire = (s.dropPermit 6).fire := by rw [he, hu]; rfl
  refine ⟨t, hx, ?_, ?_, fun hp => ?_⟩
  · rw [htf]
    exact congrArg Fire.permit hfire
  · rw [he, hu, ← hpwr]
    rfl
  · rw [htf]
    exact (congrArg Fire.dropCause hfire).trans (if_pos hp)

theorem exec_thermalOff_pending {temp : BitVec 16} (ha : s.alive = true) (hp : s.pwr.thermalPending = some temp) :
    ∃ t, exec .thermalOff s = .next t ∧ t.pwr.st = .off ∧ t.pwr.pwrEn = false ∧ t.pwr.aonThermal = some temp ∧ t.fire.permit = false ∧
      t.fuse = s.fuse ∧ t.boot.flash = s.boot.flash := by
  have hu : s.thermalDown = s.coreReset.updPwr fun p =>
      { p with
        st := .off, pwrEn := false, corePg := false, waking := false, attempts := 0, fromStandby := false, aonBrownout := false,
        aonThermal := some temp, thermalNew := true, resuming := false } := by
    simp only [State.thermalDown, hp]
  obtain ⟨t, hx, -, he⟩ := evt_next (f := State.thermalDown) ha
  rw [hu] at he
  refine ⟨t, hx, ?_⟩
  rw [he]
  exact ⟨rfl, rfl, rfl, rfl, rfl, rfl⟩

end

/-- Settles O36: the wake sources of a sleeping chip, the store's re-asked and expired handshake step, the droop sensors and the
over-temperature limit. -/
theorem wakeDroopAndThermalAct : Obligations.WakeDroopAndThermalAct :=
  ⟨fun _ hr hen hst hw => exec_wakeIn_asleep hr hen hst hw,
   fun _ hr hen hst hw hal => exec_rtcAlarm_asleep hr hen hst hw hal,
   fun _ hr hen hst hw => exec_encMove_asleep hr hen hst hw,
   fun _ _ ha ht hl hd hg hb hv hlow => exec_handshakeReask_hold ha ht hl hd hg hb hv hlow,
   fun _ _ _ ha ht hl hd hg _ => exec_handshakeBoundExpiry_store ha ht hl hd hg,
   fun _ _ ha hi hen hq hh hr => exec_droopTrip_quiet ha hi hen hq hh hr,
   fun _ _ ha hi => exec_droopClear_known ha hi,
   fun _ ha hs => exec_droopRestore_quiet ha hs,
   fun _ _ ha hd hus => exec_droopLong_beyond ha hd hus,
   fun _ _ ha hT => exec_thermalShutdown_hot ha hT,
   fun _ _ ha hp => exec_thermalOff_pending ha hp⟩

end Sys2Proof.Machine

namespace Sys2Proof.Machine

/-! ## RESET_N (R332, R344, R395) -/

section
variable {s : State}

theorem exec_resetNFall_high (hr : s.boot.resetN = true) :
    ∃ t, exec .resetNFall s = .next t ∧ t.boot.resetN = false ∧ t.boot.stage = .rom ∧ t.fire.permit = false ∧ t.fuse = s.fuse ∧
      t.head = s.head ∧ t.boot.flash = s.boot.flash ∧ t.bat.pages = [] ∧ t.pwr.wakeEnable = 5 ∧ t.pwr.retMask = 0 ∧
      t.pwr.pwrEn = true ∧ t.time.calValid = s.time.calValid ∧ t.log.ring = s.log.ring := by
  obtain ⟨t, hx, -, he⟩ := evtAny_next (s := s) (f := State.resetLow)
  rw [State.resetLow_high hr] at he
  refine ⟨t, hx, ?_⟩
  rw [he]
  exact ⟨rfl, rfl, rfl, rfl, rfl, rfl, rfl, rfl, rfl, rfl, rfl, rfl⟩

/-- The straps as RESET_N samples them (Table 12-10). -/
def Boot.sampled (straps : BitVec 5) (b : Boot) : Boot :=
  { b with
    resetN := true, bootMode := straps.toNat % 4, xspiOctal := straps.getLsbD 2, twinEn := straps.getLsbD 3,
    twinPrefer := straps.getLsbD 4, tap := tapActs false b.tap }

theorem exec_resetNRise_supplied {straps : BitVec 5} (hr : s.boot.resetN = false) (hpg : s.pwr.corePg = true) :
    ∃ t, exec (.resetNRise straps) s = .next t ∧ t.boot.resetN = true ∧ t.boot.bootMode = straps.toNat % 4 ∧
      t.boot.xspiOctal = straps.getLsbD 2 ∧ t.boot.twinEn = straps.getLsbD 3 ∧ t.boot.twinPrefer = straps.getLsbD 4 ∧
      t.boot.stage = (if straps.toNat % 4 = 2 then .recovery else .rom) ∧
      t = { s with host := t.host, boot := t.boot, time := t.time, twin := t.twin } := by
  have hu : s.resetHigh straps = (s.updBoot (Boot.sampled straps)).startUp := by
    rw [State.resetHigh, if_neg (by simp [hr])]
    exact if_pos hpg
  have ho : Only [.boot, .time, .twin] s (s.resetHigh straps) := by
    rw [hu]
    exact ((s.updBoot_only _).step (State.startUp_only _)).mono (by decide)
  obtain ⟨t, hx, -, -, hfr, he, -⟩ := done_only ho (by decide)
  have htb : t.boot = (s.resetHigh straps).boot := by rw [he]
  rw [hu, State.startUp_boot] at htb
  exact ⟨t, hx, by rw [htb]; rfl, by rw [htb]; rfl, by rw [htb]; rfl, by rw [htb]; rfl, by rw [htb]; rfl, by rw [htb]; rfl,
    (hfr.mono (qs := [.host, .alert, .boot, .time, .twin]) (by decide)).eq_patch⟩

/-! ## The image (R345, R346) -/

theorem State.imageLoaded_first {eA eB : Bool} {k : Nat} (hst : s.boot.stage = .rom) (hk : s.slotOrder.head? = some k)
    (hread : (if k = 0 then eA else eB) = false) (hcode : s.imageCode (s.slotByte k) = 0) :
    s.imageLoaded eA eB = s.enterImage k (imageInfo (s.slotByte k)) := by
  obtain ⟨ks, hl⟩ : ∃ ks, s.slotOrder = k :: ks := by
    cases hso : s.slotOrder with
    | nil => simp [hso] at hk
    | cons j ks => exact ⟨ks, by simp_all⟩
  simp only [State.imageLoaded, hst, bne_self_eq_false, Bool.false_eq_true, if_false, hl, State.trySlots, hread, hcode, if_true]

/-- Both slots are tried. -/
theorem State.slotOrder_pair (s : State) : ∃ j k, s.slotOrder = [j, k] := by
  unfold State.slotOrder
  split
  · split <;> exact ⟨_, _, rfl⟩
  · exact ⟨_, _, rfl⟩
  · exact ⟨_, _, rfl⟩

theorem State.imageLoaded_unreadable (hst : s.boot.stage = .rom) : s.imageLoaded true true = s.updBoot fun b => { b with
    stage := if b.bootMode = 0 then .failed else .recovery, bootErr := 6 } := by
  obtain ⟨j, k, hl⟩ := s.slotOrder_pair
  simp only [State.imageLoaded, hst, bne_self_eq_false, Bool.false_eq_true, if_false, hl, State.trySlots, ite_self, if_true,
    OfNat.ofNat_ne_zero]
  rfl

/-! ## DRAM training (R305, R306) -/

theorem State.restoreDram_only (s : State) : Only [.nvm, .dram] s s.restoreDram :=
  .of_eq rfl (by decide)

theorem State.trained_neither {r : TrainReport} (hst : s.boot.stage = .dramTrain) (h0 : r.ok0 = false) (h1 : r.ok1 = false) :
    s.trained r = (s.restoreDram.updBoot fun b => { b with bootErr := 7 }).noImage := by
  simp only [State.trained, hst, h0, h1]
  rfl

theorem exec_dramTrainDone_neither {r : TrainReport} (ha : s.alive = true) (hst : s.boot.stage = .dramTrain) (h0 : r.ok0 = false)
    (h1 : r.ok1 = false) :
    ∃ t, exec (.dramTrainDone r) s = .next t ∧ t.boot.bootErr = 7 ∧
      t.boot.stage = (if s.boot.bootMode = 0 then .failed else .recovery) := by
  obtain ⟨t, hx, -, he⟩ := evt_next (f := State.trained r) ha
  rw [State.trained_neither hst h0 h1] at he
  refine ⟨t, hx, ?_⟩
  rw [he]
  exact ⟨rfl, rfl⟩

/-- What the start-up tests touch: the parts' own records, and what lies in the banks they retire (R376). -/
def testParts : List Part := .nvm :: reloadParts

theorem State.dropFs_only (i : Nat) (s : State) : Only [.health, .nvm] s (s.dropFs i) := .of_eq rfl (by decide)

theorem State.unretire_only (k i : Nat) (s : State) : Only [.health, .nvm] s (s.unretire k i) := .of_eq rfl (by decide)

theorem State.failPart_only (k i : Nat) (s : State) : Only testParts s (s.failPart k i) := by
  unfold State.failPart
  refine .ite (.refl s) (Only.trans ?_ ((State.updHealth_only _ _).mono (by decide)))
  exact .ite (s.dropBank_only i) (.ite ((s.dropVe_only i).mono (by decide)) (.ite ((s.dropSd_only i).mono (by decide))
    ((s.dropFs_only i).mono (by decide))))

theorem State.dropBank_unretireList (b : Nat) (s : State) : (s.dropBank b).nvm.id.unretire = s.nvm.id.unretire :=
  congrArg (fun n => n.id.unretire) ((s.moveBank_only b) .nvm (by decide))

/-- A failed part leaves the list of parts to bring back. -/
theorem State.failPart_unretireList (k i : Nat) (s : State) : (s.failPart k i).nvm.id.unretire = s.nvm.id.unretire := by
  unfold State.failPart
  dsimp only
  split_ifs
  · rfl
  · exact s.dropBank_unretireList i
  all_goals rfl

/-- The failures of one kind of part. -/
theorem State.failParts_only {c : Nat → Bool} (k : Nat) (l : List Nat) (s : State) :
    Only testParts s (l.foldl (fun t i => if c i then t.failPart k i else t) s) :=
  .foldl (fun t i => .ite (t.failPart_only k i) (.refl t)) l s

theorem State.failParts_unretireList {c : Nat → Bool} (k : Nat) (l : List Nat) (s : State) :
    (l.foldl (fun t i => if c i then t.failPart k i else t) s).nvm.id.unretire = s.nvm.id.unretire :=
  foldl_keep (fun t : State => t.nvm.id.unretire) _ (fun t i => by
    split
    · exact t.failPart_unretireList k i
    · rfl) l s

/-- The start-up tests: their frame, and the requests to bring parts back are used up. -/
theorem State.startTests_spec (r : TrainReport) (skip : BitVec 64) (s : State) :
    Only testParts s (s.startTests r skip) ∧ (s.startTests r skip).nvm.id.unretire = [] := by
  unfold State.startTests
  extract_lets s1 s2 s3 s4 s5
  have h1 : Only testParts s s1 :=
    .foldl (fun t (k : Nat × Nat) => .ite (.refl t) ((t.unretire_only k.1 k.2).mono (qs := testParts) (by decide))) _ s
  have h2 : Only testParts s1 s2 := (s1.updNvm_only _).mono (by decide)
  have h3 : Only testParts s2 s3 := State.failParts_only (c := fun i => trainFailed r 0 i && !skip.getLsbD i) 0 _ s2
  have h4 : Only testParts s3 s4 := State.failParts_only (c := trainFailed r 2) 2 _ s3
  have h5 : Only testParts s4 s5 := State.failParts_only (c := trainFailed r 3) 3 _ s4
  refine ⟨((((h1.trans h2).trans h3).trans h4).trans h5).trans (State.failParts_only (c := trainFailed r 1) 1 _ s5), ?_⟩
  calc _ = s5.nvm.id.unretire := State.failParts_unretireList (c := trainFailed r 1) 1 _ s5
    _ = s4.nvm.id.unretire := State.failParts_unretireList (c := trainFailed r 3) 3 _ s4
    _ = s3.nvm.id.unretire := State.failParts_unretireList (c := trainFailed r 2) 2 _ s3
    _ = s2.nvm.id.unretire := State.failParts_unretireList (c := fun i => trainFailed r 0 i && !skip.getLsbD i) 0 _ s2

/-- Both channels trained: the chip as the start-up tests find it. -/
def State.bothTrained (r : TrainReport) (s : State) : State :=
  (if s.restoreDram.storedServe r then s.restoreDram
    else s.restoreDram.updNvm fun n => { n with id := { n.id with trainTemp := some r.junction } }).updDram fun d =>
      { d with trained := true }

theorem State.bothTrained_only (r : TrainReport) (s : State) : Only [.nvm, .dram] s (s.bothTrained r) :=
  (s.restoreDram_only.trans (Only.ite (.refl _) ((State.updNvm_only _ _).mono (by decide)))).trans
    ((State.updDram_only _ _).mono (by decide))

theorem State.bothTrained_dram (r : TrainReport) (s : State) : (s.bothTrained r).dram = { s.restoreDram.dram with trained := true } := by
  unfold State.bothTrained
  split <;> rfl

theorem State.trained_both {r : TrainReport} (hst : s.boot.stage = .dramTrain) (hret : s.nvm.id.retiredCh = none) (h0 : r.ok0 = true)
    (h1 : r.ok1 = true) : ∃ skip, s.trained r = ((s.bothTrained r).startTests r skip).updBoot fun b => { b with stage := .storeRestore } := by
  have hdown : s.restoreDram.dram.retired = none := hret
  refine ⟨if (s.bothTrained r).pwr.fromStandby then (s.bothTrained r).pwr.retMask &&& ~~~(s.bothTrained r).pwr.lostMask else 0, ?_⟩
  simp only [State.trained, hst, h0, h1, hdown]
  rfl

theorem exec_dramTrainDone_both {r : TrainReport} (ha : s.alive = true) (hst : s.boot.stage = .dramTrain)
    (hret : s.nvm.id.retiredCh = none) (h0 : r.ok0 = true) (h1 : r.ok1 = true) :
    ∃ t, exec (.dramTrainDone r) s = .next t ∧ t.boot.stage = .storeRestore ∧ t.dram.trained = true ∧ t.dram.retired = none ∧
      t.boot.bootErr = s.boot.bootErr ∧ t.nvm.id.unretire = [] ∧ t.pwr = s.pwr ∧ t.time = s.time := by
  obtain ⟨skip, hu⟩ := State.trained_both hst hret h0 h1
  obtain ⟨htests, hlist⟩ := State.startTests_spec r skip (s.bothTrained r)
  have hboth := State.bothTrained_only r s
  have hboot : ((s.bothTrained r).startTests r skip).boot = s.boot := (hboth.step htests) .boot (by decide)
  have hdram : ((s.bothTrained r).startTests r skip).dram = { s.restoreDram.dram with trained := true } :=
    Eq.trans (htests .dram (by decide)) (State.bothTrained_dram r s)
  have hpwr : ((s.bothTrained r).startTests r skip).pwr = s.pwr := (hboth.step htests) .pwr (by decide)
  have htime : ((s.bothTrained r).startTests r skip).time = s.time := (hboth.step htests) .time (by decide)
  obtain ⟨t, hx, -, he⟩ := evt_next (f := State.trained r) ha
  rw [hu] at he
  refine ⟨t, hx, ?_⟩
  rw [he]
  exact ⟨rfl, (congrArg Dram.trained hdram).trans rfl, (congrArg Dram.retired hdram).trans hret, (congrArg Boot.bootErr hboot).trans rfl,
    hlist, hpwr, htime⟩

/-! ## READY (R347) -/

theorem State.loadRoot_only (i : Nat) (s : State) : Only [.cal, .nvm, .log, .alert] s (s.loadRoot i) := by
  unfold State.loadRoot
  extract_lets n r used d q o torn s1 s2
  have h2 : Only [.log, .alert] s1 s2 := .ite (((s1.logEvent_only _ _ _).step (State.raise_only _ _ _)).mono (by decide)) (.refl s1)
  exact (((s.updCal_only _).step h2).step (s2.updNvm_only _)).mono (by decide)

theorem State.loadRoot_id (i : Nat) (s : State) : (s.loadRoot i).nvm.id = s.nvm.id := by
  unfold State.loadRoot
  extract_lets n r used d q o torn s1 s2
  have h2 : Only [.log, .alert] s1 s2 := .ite (((s1.logEvent_only _ _ _).step (State.raise_only _ _ _)).mono (by decide)) (.refl s1)
  exact (congrArg Nvm.id (h2 .nvm (by decide))).trans rfl

theorem State.nominalStore_only (s : State) : Only [.cal, .nvm] s s.nominalStore := (s.updCal_only _).step (State.updNvm_only _ _)

theorem State.maybeCompact_only (s : State) : Only [.nvm] s s.maybeCompact := .ite s.startCompaction_only (.refl s)

theorem State.maybeCompact_id (s : State) : s.maybeCompact.nvm.id = s.nvm.id := by
  unfold State.maybeCompact
  split
  · exact s.startCompaction_id
  · rfl

theorem State.restoreStore_only (s : State) : Only [.cal, .nvm, .log, .alert] s s.restoreStore := by
  have hnominal (c : Nat) : Only [.cal, .nvm, .log, .alert] s (s.nominalStore.logEvent c 0 0) :=
    (s.nominalStore_only.step (State.logEvent_only _ _ _ _)).mono (by decide)
  have hload (u : State) (i : Nat) : Only [.cal, .nvm, .log, .alert] u (u.loadRoot i).maybeCompact :=
    ((u.loadRoot_only i).step (State.maybeCompact_only _)).mono (by decide)
  unfold State.restoreStore
  dsimp only
  split
  · exact hnominal _
  · refine .ite (hload s _) (.ite ?_ (hnominal _))
    exact ((s.logEvent_only _ _ _).mono (by decide)).trans (hload _ _)

theorem State.restoreStore_id (s : State) : s.restoreStore.nvm.id = s.nvm.id := by
  have hlog (u : State) (c d : Nat) : (u.logEvent c 0 d).nvm.id = u.nvm.id := congrArg Nvm.id (u.logEvent_only c 0 d .nvm (by decide))
  have hload (u : State) (i : Nat) : (u.loadRoot i).maybeCompact.nvm.id = u.nvm.id :=
    (State.maybeCompact_id _).trans (u.loadRoot_id i)
  unfold State.restoreStore
  dsimp only
  split
  · exact hlog _ _ _
  · split_ifs
    · exact hload s _
    · exact (hload _ _).trans (hlog _ _ _)
    · exact hlog _ _ _

theorem State.ringAgain_only (s : State) : Only [.slate, .geo] s s.ringAgain := by
  unfold State.ringAgain
  split
  · exact .refl s
  next g _ =>
    split
    · exact .refl s
    next w _ =>
      cases hr : s.reserveRing g w with
      | none =>
        rw [Option.getD_none]
        exact (s.updGeo_only _).mono (by decide)
      | some u => exact State.reserveRing_only hr

theorem State.reserveRing_committed {g : Geo} {w : Web} {u : State} (hr : s.reserveRing g w = some u) :
    u.geo.committed = s.geo.committed := by
  unfold State.reserveRing at hr
  extract_lets old s1 n base p at hr
  split at hr
  · cases hr
    rfl
  · cases hr

theorem State.ringAgain_committed (s : State) : s.ringAgain.geo.committed = s.geo.committed := by
  unfold State.ringAgain
  split
  · rfl
  next g _ =>
    split
    · rfl
    next w _ =>
      cases hr : s.reserveRing g w with
      | none => rfl
      | some u => exact State.reserveRing_committed hr

/-- What the restored geometry touches: its ring, and its ports' links. -/
def geoParts : List Part :=
  [.geo, .slate, .pages, .reports, .fire, .port, .lines, .health, .log, .alert, .loop, .speedLimit, .twin]

theorem State.restoreGeo_spec (s : State) : Only geoParts s s.restoreGeo ∧ s.restoreGeo.geo.committed = s.nvm.id.geo := by
  unfold State.restoreGeo
  extract_lets s1 s2
  have h2 : Only geoParts s s2 := ((s.updGeo_only _).step s1.ringAgain_only).mono (by decide)
  have h3 : Only (geoParts.erase .geo) s2 ((List.range 48).foldl (fun t p => t.matchPort p) s2) :=
    .foldl (fun t p => (t.matchPort_only p).mono (by decide)) _ s2
  exact ⟨h2.trans (h3.mono (by decide)), (congrArg GeoUnit.committed (h3 .geo (by decide))).trans s1.ringAgain_committed⟩

theorem State.keepVol_only (mask : BitVec 64) (s : State) : Only [.cal] s (s.keepVol mask) := by
  unfold State.keepVol
  exact s.updCal_only _

theorem State.restoreVol_only (s : State) : Only [.cal] s s.restoreVol := s.keepVol_only _

theorem State.reportPart_only (k i : Nat) (s : State) : Only [.health, .log, .alert] s (s.reportPart k i) := by
  have hcause (u : State) (n c : Nat) : Only [.health, .log, .alert] u ((u.testFailed n i).setCause c i) :=
    ((u.testFailed_only n i).step (State.setCause_only _ c i)).mono (by decide)
  unfold State.reportPart
  extract_lets s1
  have h1 : Only [.health, .log, .alert] s s1 := .ite (.refl s) ((s.raise_only _ _).mono (by decide))
  exact h1.trans (.ite (hcause s1 _ _) (.ite (hcause s1 _ _) (.ite (hcause s1 _ _) (hcause s1 _ _))))

theorem State.reportFailed_only (s : State) : Only [.health, .log, .alert] s s.reportFailed :=
  ((s.updHealth_only _).mono (by decide)).trans (.foldl (fun t (k : Nat × Nat) => t.reportPart_only k.1 k.2) _ _)

theorem State.reassert_only (s : State) : Only [.health, .log, .alert] s s.reassert := by
  have hretired (c n : Nat) (b : State → Nat → Bool) (u : State) :
      Only [.health, .log, .alert] u ((List.range n).foldl (fun t i => if b t i then t.setCause c i else t) u) :=
    .foldl (fun t i => .ite (t.setCause_only c i) (.refl t)) _ u
  unfold State.reassert
  extract_lets s1 s2 s3 s4 s5
  have h1 : Only [.health, .log, .alert] s s1 := by
    unfold s1
    split
    · exact s.setCause_only _ _
    · exact .refl s
  have h2 : Only [.health, .log, .alert] s1 s2 := hretired 2 48 (fun t i => t.health.bankRetired.getLsbD i) s1
  have h3 : Only [.health, .log, .alert] s2 s3 := .ite (s2.setCause_only _ _) (.refl s2)
  have h4 : Only [.health, .log, .alert] s3 s4 := hretired 6 4 (fun t i => t.health.veRetired.getLsbD i) s3
  have h5 : Only [.health, .log, .alert] s4 s5 := hretired 7 16 (fun t i => t.health.sdRetired.getLsbD i) s4
  exact ((((h1.trans h2).trans h3).trans h4).trans h5).trans (hretired 8 16 (fun t i => t.health.fsRetired.getLsbD i) s5)

theorem State.loadAon_spec (s : State) : Only [.pwr, .alert, .log] s s.loadAon ∧ s.loadAon.pwr.lastWake = s.pwr.aonWake := by
  unfold State.loadAon
  extract_lets p s1 s2 s3
  have h2 : Only [.alert] s1 s2 := .ite (s1.raise_only _ _) (.refl s1)
  have h3 : Only [.alert] s2 s3 := .ite (s2.raise_only _ _) (.refl s2)
  have h4 : Only [.alert, .log] s1 (if p.thermalNew then s3.logEvent 0x0E04 0 ((p.aonThermal.getD 0).toNat) else s3) :=
    (h2.trans h3).mono (by decide) |>.trans (.ite ((s3.logEvent_only _ _ _).mono (by decide)) (.refl s3))
  exact ⟨((s.updPwr_only _).step h4).mono (by decide), congrArg Pwr.lastWake (h4 .pwr (by decide))⟩

/-- The chip with everything restored, before its stage is READY. -/
def State.restored (s : State) : State := s.restoreStore.restoreGeo.restoreVol.reportFailed.reassert.loadAon

theorem State.restored_spec (s : State) :
    s.restored.geo.committed = s.nvm.id.geo ∧ s.restored.pwr.lastWake = s.pwr.aonWake ∧ s.restored.boot = s.boot := by
  obtain ⟨hgeo, hcommitted⟩ := s.restoreStore.restoreGeo_spec
  have hcauses : Only [.cal, .health, .log, .alert] s.restoreStore.restoreGeo s.restoreStore.restoreGeo.restoreVol.reportFailed.reassert :=
    (((State.restoreVol_only _).step (State.reportFailed_only _)).step (State.reassert_only _)).mono (by decide)
  obtain ⟨haon, hwake⟩ := s.restoreStore.restoreGeo.restoreVol.reportFailed.reassert.loadAon_spec
  have hbefore := (s.restoreStore_only.step hgeo).step hcauses
  refine ⟨?_, ?_, (hbefore.step haon) .boot (by decide)⟩
  · calc s.restored.geo.committed = s.restoreStore.restoreGeo.geo.committed :=
          congrArg GeoUnit.committed ((hcauses.step haon) .geo (by decide))
      _ = s.nvm.id.geo := by rw [hcommitted, State.restoreStore_id]
  · exact hwake.trans (congrArg Pwr.aonWake (hbefore .pwr (by decide)))

theorem exec_ready {ms : BitVec 32} (ha : s.alive = true) (hst : s.boot.stage = .storeRestore) :
    ∃ t, exec (.ready ms) s = .next t ∧ t.boot.stage = .ready ∧ t.geo.committed = s.nvm.id.geo ∧ t.pwr.lastWake = s.pwr.aonWake ∧
      (s.boot.twinEn = true → t.twin.link = .detect) := by
  obtain ⟨hcommitted, hwake, hboot⟩ := s.restored_spec
  obtain ⟨v, hv⟩ : ∃ v : State, v = if s.restored.boot.twinEn then
      (s.restored.updBoot fun b => { b with stage := .ready }).updTwin fun t => { t with link := .detect }
    else s.restored.updBoot fun b => { b with stage := .ready } := ⟨_, rfl⟩
  have hvo : Only [.boot, .twin] s.restored v := by
    rw [hv]
    exact .ite (.of_eq rfl (by decide)) (.of_eq rfl (by decide))
  have hvstage : v.boot.stage = .ready := by
    rw [hv]
    split <;> rfl
  have hvlink (htw : s.boot.twinEn = true) : v.twin.link = .detect := by
    rw [hv, hboot, if_pos htw]
    rfl
  obtain ⟨m, hu⟩ : ∃ m, s.becomeReady ms.toNat = (v.logEvent 0x0101 0 m).rehide := by
    refine ⟨ms.toNat + bit s.pwr.aonWakeFail 32, ?_⟩
    rw [hv, State.becomeReady, if_neg (by simp [hst])]
    rfl
  have htail : Only [.log, .alert, .fire] v (s.becomeReady ms.toNat) := by
    rw [hu]
    exact ((v.logEvent_only _ _ _).step (State.rehide_only _)).mono (by decide)
  obtain ⟨t, hx, -, he⟩ := evt_next (f := State.becomeReady ms.toNat) ha
  refine ⟨t, hx, ?_, ?_, ?_, fun htw => ?_⟩
  · rw [he]
    exact (congrArg Boot.stage (htail .boot (by decide))).trans hvstage
  · rw [he]
    exact (congrArg GeoUnit.committed ((hvo.step htail) .geo (by decide))).trans hcommitted
  · rw [he]
    exact (congrArg Pwr.lastWake ((hvo.step htail) .pwr (by decide))).trans hwake
  · rw [he]
    exact (congrArg Twin.link (htail .twin (by decide))).trans (hvlink htw)

/-! ## The TAP (R402) -/

theorem tapActs_eq (code : Byte) (resetN : Bool) : tapActs (!resetN) code =
    if code = 1 ∨ code = 2 then code else if code ∈ [0, 3, 4, 5, 6] ∧ resetN = false then code else 0xFF := by
  simp [tapActs, drivesPins]

end

/-- Settles O34: with no readable image, or with both channels failing, the stage follows BOOT_MODE (log 47). -/
theorem startUpRuns : Obligations.StartUpRuns :=
  ⟨fun _ hr => exec_resetNFall_high hr,
   fun _ _ hr hpg => exec_resetNRise_supplied hr hpg,
   fun _ _ _ _ ha hst hk hread hcode => evt_quiet ha (State.imageLoaded_first hst hk hread hcode) (State.updBoot_only _ _) (by decide),
   fun _ ha hst => evt_quiet ha (State.imageLoaded_unreadable hst) (State.updBoot_only _ _) (by decide),
   fun _ _ ha hst hret h0 h1 => exec_dramTrainDone_both ha hst hret h0 h1,
   fun _ _ ha hst h0 h1 => exec_dramTrainDone_neither ha hst h0 h1,
   fun _ _ ha hst => exec_ready ha hst,
   fun s code => by
     rw [← tapActs_eq]
     exact done_quiet (s.updBoot_only fun b => { b with tap := tapActs (!b.resetN) code }) (by decide)⟩

end Sys2Proof.Machine

namespace Sys2Proof.Machine

/-! ## A command that waits for the power manager (R336) -/

/-- The slot busy with a command that the end of the transition completes. -/
def State.waitsFor (h : MbHdr) (op : Nat) (s : State) : State :=
  (s.mbStart h).updHost fun m => { m with inflight := m.inflight ++ [⟨h, BitVec.ofNat 16 op, .power, [], false⟩] }

section
variable {s u w : State} {h : MbHdr} {c : MbCheck} {i : Instr} {op st : Nat} {p : List Byte} {body : State → Answer} {start f : State → State}

/-- A power command that its rules admit starts its transition with its slot busy. -/
theorem powerServe_starts (hs : Safety.served s h c.len = true) (hr : c.rsv = false) (hg : c.gated (s.mbStart h) = false)
    (hz : c.zero = false) (hb : body (s.mbStart h) = .later .power [] (s.mbStart h)) :
    powerServe c h body start s = start (s.waitsFor h c.op) := by
  obtain ⟨-, hready, hheader⟩ := served_iff.1 hs
  obtain ⟨hlen, hmax, hrsv⟩ := header_iff.1 hheader
  have hserve : mbServe c h body s = s.waitsFor h c.op :=
    mbServe_later s (mbCommon_none (s.mbStart h) hready hlen hmax hrsv hr hg hz) hb
  have hmore : (s.host.inflight.filter fun i => i.wait == .power).length <
      ((s.waitsFor h c.op).host.inflight.filter fun i => i.wait == .power).length := by
    have hflight : (s.waitsFor h c.op).host.inflight = s.host.inflight ++ [⟨h, BitVec.ofNat 16 c.op, .power, [], false⟩] := rfl
    simp [hflight]
  simp only [powerServe, hserve, hmore, if_true]

/-- The transition goes on: the slot stays busy. -/
theorem mbCmd_waits {len : Nat} (hs : Safety.served s h len = true) (hf : f s = u) (hh : u.host = (s.waitsFor h op).host) :
    ∃ t, mbCmd h i f s = .next t ∧ Safety.Waits h op .power [] s t ∧
      t = { u with host := t.host, pending := s.pending, fuse := s.fuse } := by
  subst hf
  obtain ⟨t, hx, ⟨pba, sent, hhost⟩, he⟩ := evtAny_next (s := s) (f := f)
  rw [hh] at hhost
  exact ⟨t, (mbCmd_served f hs).trans hx, ⟨s.host.alert, pba, sent, hhost⟩, he⟩

/-- The transition ended in the command itself: the slot answers. -/
theorem mbCmd_completes {len : Nat} (hs : Safety.served s h len = true) (hf : f s = w.mbComplete h op st p)
    (hw : ∃ al, w.host = { (s.mbStart h).host with alert := al }) :
    ∃ t, mbCmd h i f s = .next t ∧ Safety.AnsweredWith h op st p s t ∧
      t = { w with host := t.host, pending := s.pending, fuse := s.fuse } := by
  have hcommon : mbCommon { op := op, len := len } h (s.mbStart h) = none :=
    mbCommon_served (s := s) (c := { op := op, len := len }) hs rfl rfl rfl
  have hserve : mbServe { op := op, len := len } h (fun _ => .done st p w) s = w.mbComplete h op st p := mbServe_done s hcommon rfl
  obtain ⟨t, hx, ha, -, he⟩ := mbCmd_done (c := { op := op, len := len }) (i := i) (body := fun _ => .done st p w) hs rfl rfl rfl rfl hw
  refine ⟨t, ?_, ha, he⟩
  rw [mbCmd_served f hs, hf, ← hserve, ← mbCmd_served (i := i) (mbServe { op := op, len := len } h fun _ => .done st p w) hs]
  exact hx

/-- Of the commands in execution the one that waits for the power manager completes. -/
theorem State.powerDone_waiting {l : List Inflight} {o : BitVec 16} (hin : s.host.inflight = l ++ [⟨h, o, .power, [], false⟩])
    (hl : ∀ i ∈ l, i.wait ≠ .power) :
    s.powerDone st p = (s.updHost fun m => { m with inflight := l }).mbComplete h o.toNat st p := by
  have hnone : (l.find? fun i => i.wait == .power) = none := by simpa using hl
  have hkeep : (l.filter fun i => i.wait != .power) = l := List.filter_eq_self.2 fun i hi => by simpa using hl i hi
  simp only [State.powerDone, hin, List.find?_append, hnone, State.updHost, List.filter_append, hkeep]
  simp

end

/-! ## The start of a transition -/

section
variable {s : State} {g : Goal} {t : Trans} {k r f : Nat} {l : List Nat}

theorem State.beginTrans_eq (g : Goal) (s : State) :
    s.beginTrans g = (s.handed { goal := g, left := askedSteps s.pwr.level g, startTick := s.time.ticks } s.loop).handshake 13 := rfl

/-- A block with nothing to stop accepts. -/
theorem State.handshake_accepts (ht : s.pwr.trans = some t) (hl : t.left = k :: l) (hk : k ≠ 3 ∧ k ≠ 4 ∧ k ≠ 5)
    (ha : s.hsAnswer t.goal k = .accept) :
    s.handshake (f + 1) = (s.handed { t with accepted := k :: t.accepted, left := l, delayed := false } s.loop).handshake f := by
  obtain ⟨h3, h4, h5⟩ := hk
  have hask : (if t.delayed then s else s.hsAsk k) = s := by rw [State.hsAsk, if_pos h3, ite_self]
  have haccept : s.hsAccept k = s.handed { t with accepted := k :: t.accepted, left := t.left.drop 1, delayed := false } s.loop := by
    simp only [State.hsAccept, if_neg h3, if_neg h4, if_neg h5]
    exact State.updPwr_trans ht _
  rw [State.handshake]
  simp only [ht, hl, hask, ha, haccept]
  rfl

/-- A block that refuses ends the transition. -/
theorem State.handshake_refuses (ht : s.pwr.trans = some t) (hl : t.left = k :: l) (hk : k ≠ 3) (ha : s.hsAnswer t.goal k = .refuse r) :
    s.handshake (f + 1) = s.abandon 0x0E01 (le 1 k ++ le 1 r ++ zeros 2 ++ le 4 (s.waitedUs t)) := by
  have hask : (if t.delayed then s else s.hsAsk k) = s := by rw [State.hsAsk, if_pos hk, ite_self]
  rw [State.handshake]
  simp only [ht, hl, hask, ha]

/-- A raise of the voltage: the write first, the clocks as they are (R363). -/
theorem State.supplyChange_raise (ht : s.pwr.trans = some t) (hv : g.voltage s.pwr.level < s.pwr.voltLevel) :
    s.supplyChange g = s.handed { t with pmbus := true } s.loop := by
  simp only [State.supplyChange, if_neg (Nat.ne_of_lt hv), if_pos hv]
  exact State.updPwr_trans ht _

/-- A lower voltage: the clocks first (R363). -/
theorem State.supplyChange_lower (ht : (s.moveClocks g).pwr.trans = some t) (hv : s.pwr.voltLevel < g.voltage s.pwr.level) :
    s.supplyChange g = (s.moveClocks g).handed { t with pmbus := true } (s.moveClocks g).loop := by
  simp only [State.supplyChange, if_neg (Nat.ne_of_gt hv), if_neg (Nat.lt_asymm hv)]
  exact State.updPwr_trans ht _

theorem State.supplyChange_same (hv : g.voltage s.pwr.level = s.pwr.voltLevel) : s.supplyChange g = (s.moveClocks g).reached g := if_pos hv

theorem askedSteps_entry {p : PState} (now : Nat) (hp : p ≠ .run) : askedSteps now (.state p) = [1, 2, 3, 4, 5, 6, 7, 8, 9, 10, 11] := by
  cases p
  case run => exact absurd rfl hp
  all_goals rfl

/-- A resting chip's blocks all accept an entry (Table 13-4). -/
theorem State.passes_of_resting {p : PState} (hr : Safety.Resting s) (k : Nat) : s.Passes (.state p) k := by
  obtain ⟨hpages, haxis, hlines, hcam, hgain, henc, hes, hdma, hstore⟩ := hr
  refine ⟨?_, fun _ => hcam, fun _ => hes⟩
  simp [State.hsAnswer, hpages, haxis, hlines, hgain, henc, hdma, hstore]

end

/-! ## PWR_SET_STATE (R356, R359–R361) -/

section
variable {s : State} {h : MbHdr} {b : Byte}

theorem srvPwrSetState_starts (hs : Safety.served s h 4 = true) (hb : b.toNat ≤ 3) (ht : s.pwr.trans = none)
    (hgo : s.mayGo (stateOf b.toNat) = true) : srvPwrSetState h b 0 s = State.startState b.toNat (s.waitsFor h 0x0E01) := by
  have hbody : pwrSetStateBody b.toNat (s.mbStart h) = .later .power [] (s.mbStart h) := by
    have hgo' : (s.mbStart h).mayGo (stateOf b.toNat) = true := hgo
    simp [pwrSetStateBody, Nat.not_lt.2 hb, ht, hgo']
  exact powerServe_starts (c := { op := 0x0E01, len := 4 }) hs rfl rfl rfl hbody

theorem State.mayGo_of_run {p : PState} (hst : s.pwr.st = .run) (hp : p ≠ .run) : s.mayGo p = true := by
  cases p
  case run => exact absurd rfl hp
  all_goals simp only [State.mayGo, hst]

/-- From RUN without an active alarm an entry begins with its handshake. -/
theorem srvPwrSetState_entry (hs : Safety.served s h 4 = true) (hb : b.toNat ≤ 3) (ht : s.pwr.trans = none) (hst : s.pwr.st = .run)
    (hp : stateOf b.toNat ≠ .run) (hal : (s.pwr.wakeEnable.getLsbD 1 && s.alarmActive) = false) :
    srvPwrSetState h b 0 s = (s.waitsFor h 0x0E01).beginTrans (.state (stateOf b.toNat)) := by
  have hal' : ((s.waitsFor h 0x0E01).pwr.wakeEnable.getLsbD 1 && (s.waitsFor h 0x0E01).alarmActive) = false := hal
  rw [srvPwrSetState_starts hs hb ht (State.mayGo_of_run hst hp), State.startState, if_neg hp, if_neg (by rw [hal']; decide)]

theorem State.keepEpochs_only (s0 s : State) : Only [.port, .cam] s (State.keepEpochs s0 s) := by
  unfold State.keepEpochs
  extract_lets u
  have hports : Only [.port] s u := .foldl (fun t p => t.updPort_only p _) _ s
  exact hports.step (.foldl (fun t n => t.updCam_only n _) _ u)

theorem State.keepEpochs_nvm (s0 s : State) : (State.keepEpochs s0 s).nvm = s.nvm := State.keepEpochs_only s0 s .nvm (by decide)

/-- What the sleep leaves of the power manager and the store (R360). -/
theorem State.sleep_kept (off : Bool) (s : State) : (s.sleep off).pwr.st = (if off then .off else .standby) ∧
    (s.sleep off).pwr.pwrEn = false ∧ (s.sleep off).pwr.lastSleep = BitVec.ofNat 64 s.calendar64 ∧ (s.sleep off).nvm = s.nvm.unpowered := by
  refine ⟨rfl, rfl, rfl, ?_⟩
  rw [State.sleep, State.updPwr_nvm, State.keepEpochs_nvm]
  cases off <;> rfl

/-- A resting chip commits its sleep at once. -/
theorem State.beginTrans_sleep {p : PState} {off : Bool} (hr : Safety.Resting s) (hp : p = if off then .off else .standby) :
    ∃ t lp, s.beginTrans (.state p) = (s.handed t lp).sleep off := by
  have hrun : p ≠ .run := by cases off <;> rw [hp] <;> decide
  obtain ⟨T, hT⟩ : ∃ T : Trans, T = { goal := .state p, left := askedSteps s.pwr.level (.state p), startTick := s.time.ticks } := ⟨_, rfl⟩
  have hleft : T.left.length < 13 := by simp [hT, askedSteps_entry _ hrun]
  have hgoal : T.goal = .state p := by rw [hT]
  obtain ⟨t, lp, hu⟩ := State.handshake_all (s := s.handed T s.loop) (t := T) rfl
    (fun k _ => hgoal ▸ State.passes_of_resting (s := s.handed T s.loop) hr k) hleft
  refine ⟨t, lp, ?_⟩
  rw [State.beginTrans_eq, ← hT, hu, hgoal, hp]
  cases off <;> rfl

theorem exec_pwrSetState_sleep (hs : Safety.served s h 4 = true) (hb : b = 2 ∨ b = 3) (hst : s.pwr.st = .run) (ht : s.pwr.trans = none)
    (hal : (s.pwr.wakeEnable.getLsbD 1 && s.alarmActive) = false) (hr : Safety.Resting s) :
    ∃ t, exec (.pwrSetState h b 0) s = .next t ∧ t.pwr.st = (if b = 2 then .standby else .off) ∧ t.pwr.pwrEn = false ∧
      t.pwr.lastSleep = BitVec.ofNat 64 s.calendar64 ∧ t.nvm = s.nvm.unpowered ∧ t.fuse = s.fuse := by
  obtain ⟨hle, hgoal⟩ : b.toNat ≤ 3 ∧ stateOf b.toNat = if decide (b = 3) then .off else .standby := by
    rcases hb with rfl | rfl <;> decide
  have hrun : stateOf b.toNat ≠ .run := by rcases hb with rfl | rfl <;> decide
  have hstate : (if decide (b = 3) then PState.off else .standby) = if b = 2 then .standby else .off := by
    rcases hb with rfl | rfl <;> decide
  obtain ⟨t', lp, hu⟩ := State.beginTrans_sleep (s := s.waitsFor h 0x0E01) (off := decide (b = 3)) hr hgoal
  have hserve : srvPwrSetState h b 0 s = _ := (srvPwrSetState_entry hs hle ht hst hrun hal).trans hu
  obtain ⟨hst', hen, hsleep, hnvm⟩ := State.sleep_kept (decide (b = 3)) ((s.waitsFor h 0x0E01).handed t' lp)
  obtain ⟨t, hx, -, he⟩ := evtAny_next (s := s) (f := srvPwrSetState h b 0)
  have htp : t.pwr = (srvPwrSetState h b 0 s).pwr := by rw [he]
  have htn : t.nvm = (srvPwrSetState h b 0 s).nvm := by rw [he]
  rw [hserve] at htp htn
  exact ⟨t, (mbCmd_served _ hs).trans hx, by rw [htp, hst', hstate], by rw [htp, hen], by rw [htp, hsleep]; rfl, by rw [htn, hnvm]; rfl,
    by rw [he]⟩

/-! ### The refused entry (R358) -/

theorem State.endTrans_handed (ht : s.pwr.trans = none) (T : Trans) : (s.handed T s.loop).endTrans = s := by
  show { s with pwr := { s.pwr with trans := none } } = s
  rw [← ht]

/-- An entry that the motion block refuses: everything as before, but for the PWR alert and the answer. -/
theorem State.beginTrans_moving {p : PState} (hp : p ≠ .run) (ht : s.pwr.trans = none) (hpages : s.bat.pages = [])
    (hax : s.axisMoving = true) :
    s.beginTrans (.state p) = (s.raise .pwr 2).powerDone 0x0E01 ([2, 2, 0, 0] ++ zeros 4) := by
  obtain ⟨T, hT⟩ : ∃ T : Trans, T = { goal := .state p, left := askedSteps s.pwr.level (.state p), startTick := s.time.ticks } := ⟨_, rfl⟩
  obtain ⟨T1, hT1⟩ : ∃ T1 : Trans, T1 = { T with accepted := [1], left := [2, 3, 4, 5, 6, 7, 8, 9, 10, 11], delayed := false } := ⟨_, rfl⟩
  have hleft : T.left = 1 :: [2, 3, 4, 5, 6, 7, 8, 9, 10, 11] := by rw [hT, askedSteps_entry _ hp]
  have hgoal : T.goal = .state p := by rw [hT]
  have hacc : T.accepted = [] := by rw [hT]
  have hgoal1 : T1.goal = .state p := by rw [hT1, ← hgoal]
  have hstart : T1.startTick = s.time.ticks := by rw [hT1, hT]
  have hfirst : (s.handed T s.loop).hsAnswer T.goal 1 = .accept := by
    have hpages' : (s.handed T s.loop).bat.pages = [] := hpages
    simp [State.hsAnswer, hgoal, hpages']
  have hsecond : (s.handed T1 s.loop).hsAnswer T1.goal 2 = .refuse 2 := by
    have hax' : (s.handed T1 s.loop).axisMoving = true := hax
    simp [State.hsAnswer, hax']
  have haccept : (s.handed T s.loop).handshake 13 = (s.handed T1 s.loop).handshake 12 := by
    rw [State.handshake_accepts (s := s.handed T s.loop) (t := T) (f := 12) rfl hleft (by decide) hfirst, hacc, ← hT1]
    rfl
  have hrefuse := State.handshake_refuses (s := s.handed T1 s.loop) (t := T1) (f := 11) rfl (congrArg Trans.left hT1) (by decide) hsecond
  have hpay : le 1 2 ++ le 1 2 ++ zeros 2 ++ le 4 ((s.handed T1 s.loop).waitedUs T1) = [2, 2, 0, 0] ++ zeros 4 := by
    have hzero : (s.handed T1 s.loop).waitedUs T1 = 0 := by
      show (s.time.ticks - T1.startTick) / 400 = 0
      rw [hstart, Nat.sub_self]
    rw [hzero]
    decide
  have hret : (s.handed T1 s.loop).returned T1 = s.handed T1 s.loop := by
    rw [hT1]
    rfl
  rw [hpay, State.abandon_entry (s := s.handed T1 s.loop) (t := T1) _ _ rfl (by rw [hgoal1]; rfl), hret, State.endTrans_handed ht]
    at hrefuse
  rw [State.beginTrans_eq, ← hT, haccept, hrefuse]

theorem exec_pwrSetState_moving (hs : Safety.served s h 4 = true) (hb : b = 1 ∨ b = 2 ∨ b = 3) (hst : s.pwr.st = .run)
    (ht : s.pwr.trans = none) (hal : (s.pwr.wakeEnable.getLsbD 1 && s.alarmActive) = false) (hpages : s.bat.pages = [])
    (hax : s.axisMoving = true) (hin : ∀ i ∈ s.host.inflight, i.wait ≠ .power) :
    ∃ t, exec (.pwrSetState h b 0) s = .next t ∧ Safety.AnsweredWith h 0x0E01 0x0E01 ([2, 2, 0, 0] ++ zeros 4) s t ∧
      t = { s with host := t.host } := by
  have hle : b.toNat ≤ 3 := by rcases hb with rfl | rfl | rfl <;> decide
  have hrun : stateOf b.toNat ≠ .run := by rcases hb with rfl | rfl | rfl <;> decide
  obtain ⟨v, hv⟩ : ∃ v, v = (s.waitsFor h 0x0E01).raise .pwr 2 := ⟨_, rfl⟩
  have hraise : Only [.alert] (s.waitsFor h 0x0E01) v := hv ▸ State.raise_only _ _ _
  have hhost : v.host = { (s.waitsFor h 0x0E01).host with alert := v.host.alert } := hraise.host_eq (by decide)
  have hflight : v.host.inflight = s.host.inflight ++ [⟨h, 0x0E01, .power, [], false⟩] := by rw [hhost]; rfl
  have hserve : srvPwrSetState h b 0 s =
      (v.updHost fun m => { m with inflight := s.host.inflight }).mbComplete h 0x0E01 0x0E01 ([2, 2, 0, 0] ++ zeros 4) := by
    rw [srvPwrSetState_entry hs hle ht hst hrun hal,
      State.beginTrans_moving (s := s.waitsFor h 0x0E01) hrun ht hpages hax, ← hv, State.powerDone_waiting hflight hin]
    rfl
  have hw : Only [.host, .alert] s (v.updHost fun m => { m with inflight := s.host.inflight }) :=
    (((Only.of_eq (ps := [.host]) (s := s) (t := s.waitsFor h 0x0E01) rfl (by decide)).step hraise).step (v.updHost_only _)).mono (qs := [.host, .alert])
      (by decide)
  obtain ⟨t, hx, ha, he⟩ := mbCmd_completes (i := .pwrSetState h b 0) hs hserve ⟨v.host.alert, by rw [State.updHost_host, hhost]; rfl⟩
  exact ⟨t, hx, ha, by rw [he, hw.eq_patch]; rfl⟩

/-! ### The return from HOLD -/

theorem srvPwrSetState_run (hs : Safety.served s h 4 = true) (ht : s.pwr.trans = none) (hst : s.pwr.st = .hold) :
    srvPwrSetState h 0 0 s = (s.waitsFor h 0x0E01).leaveHold 5 :=
  srvPwrSetState_starts (b := 0) hs (by decide) ht (by simp only [State.mayGo, hst]; rfl)

/-- The record of a return from HOLD. -/
def State.leaving (cause : Nat) (s : State) : State :=
  s.updPwr fun p => { p with trans := some { goal := .state .run, startTick := s.time.ticks }, lastWake := cause }

theorem State.leaveHold_eq (cause : Nat) (s : State) : s.leaveHold cause = (s.leaving cause).supplyChange (.state .run) := rfl

/-- The end of a transition completes the command that waits for it. -/
theorem State.reached_completes {g : Goal} {l : List Inflight} {o : BitVec 16}
    (hin : s.host.inflight = l ++ [⟨h, o, .power, [], false⟩]) (hl : ∀ i ∈ l, i.wait ≠ .power) :
    Safety.Completed h o.toNat 0 [] (s.reached g) := by
  obtain ⟨v, hv⟩ : ∃ v, v = s.endTrans.raise .pwr g.alertBit := ⟨_, rfl⟩
  have hvo : Only [.pwr, .alert] s v := hv ▸ s.endTrans_only.step (State.raise_only _ _ _)
  have hflight : v.host.inflight = l ++ [⟨h, o, .power, [], false⟩] := by rw [hvo.host_eq (by decide)]; exact hin
  have hu : s.reached g = ((v.updHost fun m => { m with inflight := l }).mbComplete h o.toNat 0 []).rehide.speedCheck := by
    rw [State.reached_eq, ← hv, State.powerDone_waiting hflight hl]
  have htail : Only [.fire, .log, .alert, .speedLimit] ((v.updHost fun m => { m with inflight := l }).mbComplete h o.toNat 0 [])
      (s.reached g) := by
    rw [hu]
    exact ((State.rehide_only _).step (State.speedCheck_only _)).mono (by decide)
  have htime : (s.reached g).time = v.time := htail .time (by decide)
  rw [Safety.Completed, htail.host_eq (by decide), htime]
  exact ⟨State.resp_mbComplete _ h _ 0 [], set_and _ _⟩

theorem exec_pwrSetState_run (hs : Safety.served s h 4 = true) (hst : s.pwr.st = .hold) (ht : s.pwr.trans = none)
    (hv : s.pwr.voltLevel = s.pwr.level) (hin : ∀ i ∈ s.host.inflight, i.wait ≠ .power) :
    ∃ t, exec (.pwrSetState h 0 0) s = .next t ∧ Safety.Completed h 0x0E01 0 [] t ∧ t.pwr.st = .run ∧ t.pwr.trans = none ∧
      t.pwr.level = s.pwr.level := by
  obtain ⟨v, hv'⟩ : ∃ v : State, v = ((s.waitsFor h 0x0E01).leaving 5).updPwr fun p => { p with st := .run } := ⟨_, rfl⟩
  have hu : srvPwrSetState h 0 0 s = v.reached (.state .run) := by
    rw [srvPwrSetState_run hs ht hst, State.leaveHold_eq, State.supplyChange_same (s := (s.waitsFor h 0x0E01).leaving 5) (g := .state .run) hv.symm, hv']
    rfl
  have hpwr := State.reached_pwr v (.state .run)
  have hdone : Safety.Completed h 0x0E01 0 [] (v.reached (.state .run)) :=
    State.reached_completes (o := 0x0E01) (l := s.host.inflight) (by rw [hv']; rfl) hin
  obtain ⟨t, hx, ⟨pba, sent, hhost⟩, he⟩ := evtAny_next (s := s) (f := srvPwrSetState h 0 0)
  have htp : t.pwr = (srvPwrSetState h 0 0 s).pwr := by rw [he]
  have htt : t.time = (srvPwrSetState h 0 0 s).time := by rw [he]
  rw [hu] at hhost htp htt
  rw [hpwr, hv'] at htp
  refine ⟨t, (mbCmd_served _ hs).trans hx, ?_, by rw [htp]; rfl, by rw [htp], by rw [htp]; rfl⟩
  rw [Safety.Completed, hhost, htt]
  exact hdone

theorem exec_pwrSetState_run_raise (hs : Safety.served s h 4 = true) (hst : s.pwr.st = .hold) (ht : s.pwr.trans = none)
    (hv : s.pwr.voltLevel < s.pwr.level) :
    ∃ t, exec (.pwrSetState h 0 0) s = .next t ∧ Safety.Waits h 0x0E01 .power [] s t ∧ t.pwr.st = .run ∧
      t.pwr.trans.map (·.pmbus) = some true := by
  have hu : srvPwrSetState h 0 0 s = _ := (srvPwrSetState_run hs ht hst).trans
    (State.supplyChange_lower (s := (s.waitsFor h 0x0E01).leaving 5) (g := .state .run) rfl hv)
  obtain ⟨t, hx, hw, he⟩ := mbCmd_waits (i := .pwrSetState h 0 0) (op := 0x0E01) hs hu rfl
  exact ⟨t, hx, hw, by rw [he]; rfl, by rw [he]; rfl⟩

/-! ## PWR_SET_LEVEL (R356, R359, R363) -/

theorem srvPwrSetLevel_starts (hs : Safety.served s h 4 = true) (hb : b.toNat ≤ 3) (ht : s.pwr.trans = none) (hst : s.pwr.st = .run)
    (hne : b.toNat ≠ s.pwr.level) : srvPwrSetLevel h b 0 s = (s.waitsFor h 0x0E02).beginTrans (.level b.toNat) := by
  have hbody : pwrSetLevelBody b.toNat (s.mbStart h) = .later .power [] (s.mbStart h) := by
    simp [pwrSetLevelBody, Nat.not_lt.2 hb, ht, hst, hne]
  exact powerServe_starts (c := { op := 0x0E02, len := 4 }) (start := State.beginTrans (.level b.toNat)) hs rfl rfl rfl hbody

/-- A raise asks no block. -/
theorem State.beginTrans_raise {l : Nat} (hl : l < s.pwr.level) (hv : l < s.pwr.voltLevel) :
    s.beginTrans (.level l) = s.handed { goal := .level l, startTick := s.time.ticks, pmbus := true } s.loop := by
  have hsteps : askedSteps s.pwr.level (.level l) = [] := if_pos hl.le
  rw [State.beginTrans_eq, hsteps, State.handshake_commit (s := s.handed _ s.loop) rfl rfl]
  exact State.supplyChange_raise (s := s.handed _ s.loop) (g := .level l) rfl hv

theorem exec_pwrSetLevel_raise (hs : Safety.served s h 4 = true) (hst : s.pwr.st = .run) (ht : s.pwr.trans = none)
    (hl : b.toNat < s.pwr.level) (hv : b.toNat < s.pwr.voltLevel) (h3 : s.pwr.level ≤ 3) :
    ∃ t, exec (.pwrSetLevel h b 0) s = .next t ∧ Safety.Waits h 0x0E02 .power [] s t ∧
      t = { s with host := t.host,
                   pwr := { s.pwr with trans := some { goal := .level b.toNat, startTick := s.time.ticks, pmbus := true } } } := by
  have hu : srvPwrSetLevel h b 0 s = _ := (srvPwrSetLevel_starts hs (by omega) ht hst (by omega)).trans
    (State.beginTrans_raise (s := s.waitsFor h 0x0E02) hl hv)
  obtain ⟨t, hx, hw, he⟩ := mbCmd_waits (i := .pwrSetLevel h b 0) (op := 0x0E02) hs hu rfl
  exact ⟨t, hx, hw, he⟩

/-- From PL_0 to PL_1 within the decoders' budget: the clocks, then the write. -/
theorem State.beginTrans_level1 (hl : s.pwr.level = 0) (hv : s.pwr.voltLevel = 0) (hb : s.overBudget = false) :
    s.beginTrans (.level 1) = (s.updPwr fun p => { p with level := 1 }).handed
      { goal := .level 1, startTick := s.time.ticks, accepted := [1], pmbus := true } s.loop := by
  obtain ⟨T, hT⟩ : ∃ T : Trans, T = { goal := .level 1, left := [1], startTick := s.time.ticks } := ⟨_, rfl⟩
  have hsteps : askedSteps s.pwr.level (.level 1) = [1] := by rw [hl]; rfl
  obtain ⟨T1, hT1⟩ : ∃ T1 : Trans, T1 = { goal := .level 1, accepted := [1], startTick := s.time.ticks } := ⟨_, rfl⟩
  have hleft : T.left = 1 :: [] := by rw [hT]
  have hgoal : T.goal = .level 1 := by rw [hT]
  have hanswer : (s.handed T s.loop).hsAnswer T.goal 1 = .accept := by
    have hb' : (s.handed T s.loop).overBudget = false := hb
    simp [State.hsAnswer, hgoal, hb']
  have haccept : (s.handed T s.loop).handshake 13 = (s.handed T1 s.loop).handshake 12 := by
    rw [State.handshake_accepts (s := s.handed T s.loop) (t := T) (f := 12) rfl hleft (by decide) hanswer, hT, hT1]
    rfl
  have hv' : s.pwr.voltLevel < (Goal.level 1).voltage s.pwr.level := by
    rw [hv]
    exact Nat.one_pos
  rw [State.beginTrans_eq, hsteps, ← hT, haccept,
    State.handshake_commit (s := s.handed T1 s.loop) (t := T1) (f := 11) rfl (congrArg Trans.left hT1), hT1]
  exact State.supplyChange_lower (s := s.handed _ s.loop) (g := .level 1) rfl hv'

theorem exec_pwrSetLevel_level1 (hs : Safety.served s h 4 = true) (hst : s.pwr.st = .run) (ht : s.pwr.trans = none)
    (hl : s.pwr.level = 0) (hv : s.pwr.voltLevel = 0) (hb : s.overBudget = false) :
    ∃ t, exec (.pwrSetLevel h 1 0) s = .next t ∧ Safety.Waits h 0x0E02 .power [] s t ∧
      t = { s with host := t.host, pwr := { s.pwr with
        level := 1,
        trans := some { goal := .level 1, startTick := s.time.ticks, accepted := [1], pmbus := true } } } := by
  have hu : srvPwrSetLevel h 1 0 s = _ := (srvPwrSetLevel_starts (b := 1) hs (by decide) ht hst (by rw [hl]; decide)).trans
    (State.beginTrans_level1 (s := s.waitsFor h 0x0E02) hl hv hb)
  obtain ⟨t, hx, hw, he⟩ := mbCmd_waits (i := .pwrSetLevel h 1 0) (op := 0x0E02) hs hu rfl
  exact ⟨t, hx, hw, he⟩

end

/-- Settles O28: an active RTC alarm is a level that would turn the entry back (log 91). -/
theorem powerTransitionsRun : Obligations.PowerTransitionsRun :=
  ⟨fun _ _ _ hs hb hst ht hal hr => exec_pwrSetState_sleep hs hb hst ht hal hr,
   fun _ _ hs hst ht hv hin => exec_pwrSetState_run hs hst ht hv hin,
   fun _ _ hs hst ht hv _ => exec_pwrSetState_run_raise hs hst ht hv,
   fun _ _ _ hs hb hst ht hal hpages hax hin => exec_pwrSetState_moving hs hb hst ht hal hpages hax hin,
   fun _ _ _ hs hst ht hl hv h3 _ => exec_pwrSetLevel_raise hs hst ht hl hv h3,
   fun _ _ hs hst ht hl hv hb _ => exec_pwrSetLevel_level1 hs hst ht hl hv hb⟩

end Sys2Proof.Machine
